-- ==== Sys2Proof/Word.lean ====
section
/-! DEFINITION. The word types of the block and the closed sets of names that its commands and its state share. -/

namespace Sys2Proof

abbrev Byte := BitVec 8
abbrev W16 := BitVec 16
abbrev W32 := BitVec 32
abbrev W48 := BitVec 48
abbrev W64 := BitVec 64

/-- A binary32 word (R158). -/
abbrev F32 := BitVec 32

/-- The three lanes of a module; lane codes 1 = A, 2 = B, 3 = C (R361). -/
inductive LaneId where
  | a | b | c
deriving DecidableEq, Repr

/-- The lane code of R361. -/
def LaneId.code : LaneId → Nat
  | .a => 1 | .b => 2 | .c => 3

/-- The lane with a lane code. -/
def LaneId.ofCode : Nat → Option LaneId
  | 1 => some .a | 2 => some .b | 3 => some .c | _ => none

/-- Index 0 to 2 of a lane in a per-lane list. -/
def LaneId.idx (l : LaneId) : Nat := l.code - 1

/-- The lane that follows in the circle A, B, C. -/
def LaneId.next : LaneId → LaneId
  | .a => .b | .b => .c | .c => .a

/-- The lane that precedes in the circle A, B, C. -/
def LaneId.prev : LaneId → LaneId
  | .a => .c | .b => .a | .c => .b

/-- The lane states of Table LN-4 (R22). -/
inductive LaneSt where
  | off | waking | boot | check | sync | shadow | authority | follower | island | limp | save | failSilent
deriving DecidableEq, Repr

/-- The code of a lane state (Table RD-4). -/
def LaneSt.code : LaneSt → Nat
  | .off => 0 | .waking => 1 | .boot => 2 | .check => 3 | .sync => 4 | .shadow => 5
  | .authority => 6 | .follower => 7 | .island => 8 | .limp => 9 | .save => 10 | .failSilent => 11

/-- The lane state of a code (Table RD-4). -/
def LaneSt.ofCode : Nat → LaneSt
  | 0 => .off | 1 => .waking | 2 => .boot | 3 => .check | 4 => .sync | 5 => .shadow
  | 6 => .authority | 7 => .follower | 8 => .island | 9 => .limp | 10 => .save | _ => .failSilent

/-- SHADOW, AUTHORITY and FOLLOWER: the states in which LANE_OK is high (R25). -/
def LaneSt.driving : LaneSt → Bool
  | .shadow | .authority | .follower => true
  | _ => false

/-- The mailbox transports with their codes 1 to 4 (R352). -/
inductive Transport where
  | spi | net | sp | can
deriving DecidableEq, Repr

/-- Transport code of R352. -/
def Transport.code : Transport → Nat
  | .spi => 1 | .net => 2 | .sp => 3 | .can => 4

/-- Motor slot types (Table LN-5); `none` is a slot that the configuration leaves empty. -/
inductive SlotType where
  | none | threePhase | hBridge | stepper | solenoid | chopper | external
deriving DecidableEq, Repr

/-- Trip latch states (Table PW-8). -/
inductive TripSt where
  | armed | active | held | resuming
deriving DecidableEq, Repr

/-- The code of a trip latch state in the TRIP_CLEAR response (Table CP-4). -/
def TripSt.code : TripSt → Nat
  | .armed => 0 | .active => 1 | .held => 2 | .resuming => 3

/-- Loop slot states (R169). -/
inductive LoopSt where
  | disabled | open_ | closed | blend | fallback
deriving DecidableEq, Repr

/-- The code of a loop slot state in LE_STATE. -/
def LoopSt.code : LoopSt → Nat
  | .disabled => 0 | .open_ => 1 | .closed => 2 | .blend => 3 | .fallback => 4

end Sys2Proof
end

