-- ==== Sys2Proof/Machine/Areas/Mailbox.lean ====
section
/-! DEFINITION. State of the queue manager, the mailbox transports, the service sessions, the streams, the staged set and the commands in flight (chapters Mailboxes and queues, Commands and parameters). -/

namespace Sys2Proof.Machine

/-- One queue entry: descriptor fields of Table MB-2 and the valid bytes of its buffer. -/
structure QEntry where
  flags : W16 := 0
  seq   : W16 := 0
  stamp : W32 := 0
  data  : List Byte := []
deriving DecidableEq, Repr

/-- One queue: its ring indices and the entries between HEAD and TAIL, oldest first (R332, R334). -/
structure Queue where
  head  : Nat := 0
  tail  : Nat := 0
  seq   : Nat := 0
  /-- entries lost before the next one (DROP flag of Table MB-3) -/
  lost  : Bool := false
  items : List QEntry := []
deriving DecidableEq, Repr

/-- One event record (R334): code, argument and stamp, with the lane state at the time. -/
structure EventRec where
  code  : Nat
  arg   : W32 := 0
  t     : Nat := 0
  st    : LaneSt := .off
  /-- first record after a loss -/
  after : Bool := false
deriving DecidableEq, Repr

/-- The key of a command awaiting a response or a completion. -/
structure CmdKey where
  /-- transport (R336) -/
  tr     : Transport := .spi
  /-- host number (R347) -/
  host   : Nat := 0
  /-- TAG (R335) -/
  tag    : W16 := 0
  /-- opcode (R335) -/
  op     : Nat := 0
  /-- VER (R335, R377) -/
  ver    : Nat := 2
  /-- MSG_ID (R346) -/
  msgId  : Nat := 0
  /-- the command asks for no response (R336) -/
  noResp : Bool := false
  /-- CAN controller that brought the command (R317) -/
  port   : Nat := 0
deriving DecidableEq, Repr

/-- A service session of one transport (R351 to R353). -/
structure Session where
  /-- open level, 0 for none -/
  level     : Nat := 0
  host      : Nat := 0
  lastCmd   : Nat := 0
  /-- idle limit in force, in counts: SYS_SESSION_IDLE at opening -/
  idle      : Nat := 0
  /-- nonce issued and not yet used, with its instant and host -/
  nonce     : Option (List Byte × Nat) := none
  nonceHost : Nat := 0
deriving DecidableEq, Repr

/-- One message in reassembly (R346, R347). -/
structure Reasm where
  host  : Nat
  msgId : Nat
  next  : Nat
  /-- instant and cycle of its first segment -/
  start : Nat
  cycle : Nat
  bcast : Bool
  bytes : List Byte
deriving DecidableEq, Repr

/-- One remembered response (R348). -/
structure Remembered where
  host  : Nat
  msgId : Nat
  resp  : List Byte
deriving DecidableEq, Repr

/-- Eight counters of SYS_MB_COUNTERS for one transport (Table MB-17). -/
structure MbCounters where
  taken   : W32 := 0
  dropped : W32 := 0
  crc     : W32 := 0
  framing : W32 := 0
  reasm   : W32 := 0
  dup     : W32 := 0
  refused : W32 := 0
  timeout : W32 := 0
deriving DecidableEq, Repr

/-- One value set of a stream entry (Table MB-14). -/
structure StreamVal where
  stamp : W64 := 0
  v0    : F32 := 0
  v1    : F32 := 0
  v2    : F32 := 0
  v3    : F32 := 0
deriving DecidableEq, Repr

/-- One stream target: FIFO, last SEQ and the five counters of SYS_STREAM_COUNTERS (R354, R355). -/
structure Stream where
  fifo     : List StreamVal := []
  lastSeq  : Option W16 := none
  accepted : W32 := 0
  rejected : W32 := 0
  gaps     : W32 := 0
  replaced : W32 := 0
  missed   : W32 := 0
deriving DecidableEq, Repr

/-- Host SPI registers and latches (Tables MB-7 to MB-9, R341 to R343). -/
structure SpiPort where
  crcErr    : Bool := false
  frameErr  : Bool := false
  addrErr   : Bool := false
  overrun   : Bool := false
  noSession : Bool := false
  txn       : W16 := 0
  /-- count of transactions, low 18 bits of which the status word carries (R341) -/
  count     : Nat := 0
  /-- status word of the previous transaction (R341) -/
  status    : W32 := 0
  irqStat   : W32 := 0
  irqEn     : W32 := 0
  irqHold   : W32 := 0
  crcCnt    : W16 := 0
  frameCnt  : W16 := 0
  /-- HIRQ is driven low (R343) -/
  hirq      : Bool := false
  /-- instant at which HIRQ last went high -/
  hirqHigh  : Nat := 0
  hirqEver  : Bool := false
  /-- instants of the last MB_CRC_ERR and MB_FRAMING_ERR, at most one a second (R341) -/
  lastCrcEv : Option Nat := none
  lastFrmEv : Option Nat := none
  /-- data words that the last read transaction returned -/
  rdata     : List W32 := []
deriving DecidableEq, Repr

/-- Service-port state (R344, R345, Table MB-12). -/
structure SvcPort where
  inBytes : List Byte := []
  openAt  : Option Nat := none
  crcErr  : Bool := false
  drop    : Bool := false
  /-- bytes that the last read of MB_OUT or SP_STAT returned -/
  rdata   : List Byte := []
  /-- bytes of the response at the head of Q05 already read -/
  outPos  : Nat := 0
  /-- SYS_SP_ADDR in force since the last wake -/
  addr    : Nat := 0
deriving DecidableEq, Repr

/-- One staged parameter value (R367). -/
structure PVal where
  id   : Nat
  inst : Nat
  vals : List Nat
deriving DecidableEq, Repr

/-- The staged set of a lane (R367). -/
structure Staged where
  ownerTr   : Transport := .spi
  ownerHost : Nat := 0
  lastAt    : Nat := 0
  vals      : List PVal := []
deriving DecidableEq, Repr

/-- Mailbox and command state of one lane. -/
structure Mb where
  /-- the 64 queues (R332) -/
  q         : List Queue := List.replicate 64 {}
  /-- ring memory as the host sees it: cells at byte addresses 0x4000 to 0xFFFF (Table MB-7) -/
  ring      : List Host.Cell := []
  /-- host SPI port (R339) -/
  spi       : SpiPort := {}
  /-- service port (R344) -/
  sp        : SvcPort := {}
  /-- session of each transport (R351) -/
  ses       : List Session := List.replicate 4 {}
  /-- failed responses in a row, kept in MRAM (R353) -/
  failCount : Nat := 0
  /-- challenges are locked out until (R353) -/
  lockUntil : Nat := 0
  /-- next lock-out length in seconds, kept in MRAM (R353) -/
  lockLen   : Nat := 10
  /-- messages in reassembly from Icbex (R346) -/
  reasmNet  : List Reasm := []
  /-- messages in reassembly from CAN (R346) -/
  reasmCan  : List Reasm := []
  /-- remembered responses, Icbex (R348) -/
  memNet    : List Remembered := []
  /-- remembered responses, CAN (R348) -/
  memCan    : List Remembered := []
  /-- counters of each transport (R337) -/
  cnt       : List MbCounters := List.replicate 4 {}
  /-- the 96 stream targets (R354) -/
  stream    : List Stream := List.replicate 96 {}
  /-- last report of a rejected entry (R354) -/
  lastRejEv : Option Nat := none
  /-- version-1 event raised per transport (R377) -/
  v1Seen    : W16 := 0
  /-- broadcasts of other opcodes discarded and counted (R349) -/
  bcastDrop : Nat := 0
  /-- the commands taken whose response is not yet written (R336) -/
  deferred  : List CmdKey := []
  /-- keys of the responses in Q03, oldest first: node and MSG_ID of their segments (R349) -/
  metaNet   : List CmdKey := []
  /-- responses that wait for free descriptors of their queue (R335) -/
  respWait  : List (CmdKey × List Byte) := []
  /-- the commands answered ACCEPTED and not yet complete (R360) -/
  accepted  : List CmdKey := []
  /-- the staged set (R367) -/
  staged    : Option Staged := none
  /-- the log of the last 1,024 events and EVTCNT (Table NF-3) -/
  log       : List EventRec := []
  /-- EVTCNT (R303, R362) -/
  evtCnt    : Nat := 0
  /-- events lost (R371) -/
  evtLost   : Nat := 0
  /-- trace port switched on (R362) -/
  traceOn   : Bool := false
deriving DecidableEq, Repr

end Sys2Proof.Machine
end

