-- ==== Sys2Proof/Machine/Areas/Motion.lean ====
section
/-! DEFINITION. State of the motor slots, the loop engine, the profile generators and the steppers (chapters Commutation and the rotor observer, The loop engine, Motion profiles and steppers). -/

namespace Sys2Proof.Machine

/-- Use of a three-phase winding set (Table CM-5). -/
inductive Winding where
  | steer | brake
deriving DecidableEq, Repr

/-- Configuration of one motor slot (R26, R27, Table LN-5). -/
structure SlotCfg where
  kind    : SlotType := .none
  winding : Winding := .steer
  /-- half-bridges in slot order, or the PWM channels of an external stage -/
  hbs     : List Nat := []
  /-- the slot leaves the high sides unused (R486) -/
  lowOnly : Bool := false
  /-- wheel 0 to 3 that a brake winding or a slack adjuster serves -/
  wheel   : Option Nat := none
  /-- retarder channel of an external stage: 0 primary, 1 second (R222) -/
  rtCh    : Option Nat := none
deriving DecidableEq, Repr

/-- Flying start phases (R151). -/
inductive Flying where
  | none | acquire | zeroRun | ramp | failed
deriving DecidableEq, Repr

/-- A source blend in progress (R152). -/
structure SrcBlend where
  delta   : Int
  dSpeed  : F32
  oldSrc  : Nat
  oldDev  : Nat
  start   : Nat
  /-- the new source is in force from the next period start -/
  active  : Bool
  /-- the offset is still to be taken, with the first streamed angle (R152, R153) -/
  open_   : Bool := false
  /-- the slot goes back to the old source at the next period start -/
  revert  : Bool := false
deriving DecidableEq, Repr

/-- A pair of zero-vector probes (R151): load points since it was armed, and the current vector of the first. -/
structure Probe where
  loads : Nat := 0
  first : Option (F32 × F32) := none
deriving DecidableEq, Repr

/-- One motor slot. -/
structure MotSlot where
  /-- type and half-bridges of the slot, from the configuration (R26) -/
  cfg        : SlotCfg := {}
  /-- the slot is enabled (R134) -/
  enabled    : Bool := false
  /-- the slot holds its lane-safe state (R147) -/
  laneSafe   : Bool := true
  /-- active short in force (R148) -/
  short      : Bool := false
  /-- the OV2 reaction holds the slot (R229) -/
  ov2        : Bool := false
  /-- a winding fault is reported (R150, R261) -/
  windFault  : Bool := false
  /-- angle source in force (R140) -/
  angleSrc   : Nat := 0
  /-- device of the angle source in force (R140) -/
  angleDev   : Nat := 0
  /-- electrical angle at the last sample (R141) -/
  thetaS     : W16 := 0
  /-- instant of that angle (R141) -/
  thetaAt    : Nat := 0
  /-- electrical speed (R141) -/
  omega      : F32 := 0
  /-- the angle source gave a valid speed in the last sample (R148) -/
  speedOk    : Bool := false
  /-- the last speed from a locked observer or a valid Hall group, or from probes since (R148, R151) -/
  lastW      : Option F32 := none
  /-- the slot has been disabled, and its last output still loads at the next load point (R180) -/
  tail       : Bool := false
  /-- d current (R136, R138) -/
  id         : F32 := 0
  /-- q current (R136, R138) -/
  iq         : F32 := 0
  /-- bus voltage of the last sample (R143) -/
  vbus       : F32 := 0
  /-- observer: currents, EMF, applied voltage, all αβ (R143) -/
  oIa        : F32 := 0
  /-- observer current, beta (R143) -/
  oIb        : F32 := 0
  /-- observer EMF, alpha (R143) -/
  oEa        : F32 := 0
  /-- observer EMF, beta (R143) -/
  oEb        : F32 := 0
  /-- applied voltage of the last period, alpha (R143) -/
  vA         : F32 := 0
  /-- applied voltage of the last period, beta (R143) -/
  vB         : F32 := 0
  /-- PLL: angle in radians, speed, last EMF angle (R144) -/
  thHat      : F32 := 0
  /-- PLL speed (R144) -/
  wHat       : F32 := 0
  /-- angle of the EMF (R144) -/
  thE        : F32 := 0
  /-- consecutive samples that meet the lock test (R145) -/
  lockCnt    : Nat := 0
  /-- the observer is locked (R145) -/
  locked     : Bool := false
  /-- consecutive samples with the speed test failed (R146) -/
  cntS       : Nat := 0
  /-- consecutive samples with the EMF test failed (R146) -/
  cntE       : Nat := 0
  /-- the observer is implausible (R146) -/
  imp        : Bool := false
  /-- instant at which lock returned (R142) -/
  lockAt     : Nat := 0
  /-- consecutive samples with the current sum out of bounds (R139) -/
  csSum      : Nat := 0
  /-- current sensing is lost (R139) -/
  csLost     : Bool := false
  /-- synchronisation is lost (R151) -/
  syncLost   : Bool := false
  /-- flying start in progress (R151) -/
  fly        : Flying := .none
  /-- start of the present flying-start phase (R151) -/
  flyAt      : Nat := 0
  /-- start of the flying-start ramp (R151) -/
  rampAt     : Nat := 0
  /-- instants of failed flying starts (R151) -/
  flyFails   : List Nat := []
  /-- the probes in progress (R151) -/
  probe      : Option Probe := none
  /-- θ̂ and ω̂ describe the rotor since step 1 began: from the active short or from probes (R151) -/
  acq        : Bool := false
  /-- blend after a change of angle source (R152) -/
  blend      : Option SrcBlend := none
  /-- last good streamed angle and its stamp (R153) -/
  strAng     : Option (W16 × Nat) := none
  /-- speed of the streamed angles (R153) -/
  strW       : F32 := 0
  /-- start of the stepper's standstill current in its lane-safe state (R196) -/
  holdAt     : Option Nat := none
deriving DecidableEq, Repr

/-- A custom sine table (R137): its 4,096 entries as read from MRAM at start or accepted since, and the table being loaded. -/
structure SineTab where
  valid   : Bool := false
  entries : List W16 := []
  loading : List W16 := []
  nextBlk : Nat := 0
deriving DecidableEq, Repr

/-- A running injection (R172, R173). -/
structure Inject where
  axis  : Nat
  point : Nat
  form  : Nat
  amp   : F32
  n     : Nat
  f0    : F32
  f1    : F32
  order : Nat
  hold  : Nat
  reps  : Nat
  k     : Nat
  phase : F32
  lfsr  : Nat
deriving DecidableEq, Repr

/-- A running capture (R174). -/
structure Capture where
  queue   : Nat
  decim   : Nat
  chans   : List Nat
  left    : Nat
  endless : Bool
  skip    : Nat
  dropped : Nat
  told    : Bool
deriving DecidableEq, Repr

/-- A loop command that acts at the slot's next sample (R171). -/
inductive LoopCmd where
  | open_ (src : Nat)
  | close
  | chain (code : Nat)
  | inject (i : Inject)
  | capture (c : Capture)
deriving DecidableEq, Repr

/-- What produces a loop slot's output. -/
inductive LoopMode where
  | hold | law | stream
deriving DecidableEq, Repr

/-- A hand-over in progress (R175, R176). -/
structure LoopBlend where
  rD   : F32
  rQ   : F32
  k    : Nat
  n    : Nat
  e0D  : F32
  e0Q  : F32
  old  : LoopMode
  oldUp : Nat
  satN : Nat
  /-- the slot goes back to the old mode at the next sample (R176) -/
  revert : Bool := false
deriving DecidableEq, Repr

/-- One loop slot (R169 to R180). -/
structure LoopSlot where
  st       : LoopSt := .disabled
  mode     : LoopMode := .hold
  missed   : Nat := 0
  xD       : F32 := 0
  xQ       : F32 := 0
  /-- last output, d and q (or the single output and the acceleration passed on) -/
  uD       : F32 := 0
  uQ       : F32 := 0
  blend    : Option LoopBlend := none
  /-- the health word reports the slot, from FALLBACK to CLOSED (R179) -/
  told     : Bool := false
  /-- the last sample carried an injection (Table LE-9) -/
  wasInj   : Bool := false
  /-- fallback: instant of entry, the held output and the safe output it ramps to -/
  fbAt     : Nat := 0
  fbS      : F32 := 0
  fbD      : F32 := 0
  fbQ      : F32 := 0
  fbDone   : Bool := false
  inj      : Option Inject := none
  cap      : Option Capture := none
  /-- END records that wait for room, oldest first, each with its queue (R174, log entry 147) -/
  ends     : List (Nat × List Byte) := []
  cmds     : List (LoopCmd × Option CmdKey) := []
  seq      : Nat := 0
  /-- missed count before the last sample (R167) -/
  before   : Nat := 0
  /-- start of the slot in its last sample, its input latch (Table LE-2) -/
  latchAt  : Nat := 0
  div      : Nat := 0
  /-- reference latch of a current slot, and the values to come with the instants from which they enter, oldest first (R168) -/
  ref      : F32 := 0
  refNext  : List (F32 × Nat) := []
  /-- unwrapped position in units of 2^-32 revolution and the last raw position (R162) -/
  acc      : Int := 0
  lastRaw  : Option Int := none
  /-- the slot's reference in the last sample: the commanded speed of a speed slot (R130) -/
  cmdRef   : F32 := 0
  /-- values of channel codes 0 to 12 in the last sample, and whether it was missed (Table LE-8) -/
  vals     : List F32 := []
  wasMissed : Bool := false
deriving DecidableEq, Repr

/-- Loop engine of one lane. -/
structure Le where
  /-- the 32 loop slots (R156) -/
  slot      : List LoopSlot := List.replicate 32 {}
  /-- the engine is busy until this instant (R167) -/
  busyTo    : Nat := 0
  /-- instants of late sequences (R167) -/
  lateTimes : List Nat := []
  /-- LE_LOAD of the last accepted commit, 0.01 % (R166) -/
  load      : Nat := 0
  /-- end of the last outer sequence (R168) and its period index -/
  outerEnd  : Nat := 0
  /-- outer period index (R165, R238) -/
  outerIdx  : Nat := 0
  /-- instant of the last outer sequence (R165) -/
  outerAt   : Nat := 0
deriving DecidableEq, Repr

/-- Generator states (Table MP-1). -/
inductive GenSt where
  | idle | moving | stopping | stream | referencing
deriving DecidableEq, Repr

/-- A command that a generator carries out at its next tick (R187, R189). -/
inductive GenCmd where
  | move (mode : Nat) (value : F32) (startCycle : Nat)
  | stop (quick : Bool)
  | source (host : Bool)
  | reference (slot : Nat) (speed : W64)
deriving DecidableEq, Repr

/-- A reference run in progress (R197 to R200). -/
structure RefRun where
  slot    : Nat
  method  : Nat
  startP  : W64
  devCnt  : Nat
  edgeSeen : Bool
  /-- the run ends without success and comes to rest (R200) -/
  failing : Bool := false
  /-- end of the 50 ms hold at the stop without an encoder (R198) -/
  holdTo  : Option Nat
deriving DecidableEq, Repr

/-- One profile generator; p, v and a are binary64 words (R185). -/
structure Gen where
  st      : GenSt := .idle
  p       : W64 := 0
  v       : W64 := 0
  a       : W64 := 0
  target  : W64 := 0
  ph      : Nat := 7
  n       : List Nat := []
  j       : List W64 := []
  mode    : Nat := 0
  div     : Nat := 0
  cmds    : List (GenCmd × Option CmdKey) := []
  active  : Option CmdKey := none
  missed  : Nat := 0
  soft    : Bool := false
  ref     : Option RefRun := none
deriving DecidableEq, Repr

/-- One step generator (R190, R191). -/
structure StepGen where
  acc    : W48 := 0
  w      : Int := 0
  m      : BitVec 32 := 0
  lastT  : Nat := 0
  /-- earlier velocity words, newest first: the instant each began, the count with its fraction there, and the word (R201) -/
  past   : List (Nat × Int × Int) := []
  /-- previous streamed target (R193) -/
  lastStr : Option Int := none
deriving DecidableEq, Repr

/-- Stepper data of one motor slot (R194 to R202). -/
structure Stepper where
  referenced : Bool := false
  current    : F32 := 0
  moving     : Bool := false
  /-- the last tick with v ≠ 0 -/
  restAt     : Nat := 0
  /-- start of the ramp to the hold current -/
  rampAt     : Option Nat := none
  satTold    : Bool := false
  devCnt     : Nat := 0
  pairCnt    : Nat := 0
  pairTold   : Bool := false
  off        : Bool := false
  refI       : Bool := false
  /-- microsteps by which the encoder reading is offset since the last reference (R198) -/
  encOff     : W64 := 0
  /-- microstep of the standstill current in the lane-safe state (R196) -/
  holdM      : Int := 0
  /-- the microstep count is set from the encoder at the next tick (Table MP-3) -/
  resync     : Bool := false
deriving DecidableEq, Repr

/-- Profile unit of one lane. -/
structure Mp where
  /-- the 8 profile generators (R183) -/
  gen  : List Gen := List.replicate 8 {}
  /-- the 4 step generators (R190) -/
  sg   : List StepGen := List.replicate 4 {}
  /-- the stepper stages, by motor slot (R194) -/
  stp  : List Stepper := List.replicate 8 {}
deriving DecidableEq, Repr

/-- Motor slots and custom tables of one lane. -/
structure Mot where
  /-- the 8 motor slots (R26) -/
  slot : List MotSlot := List.replicate 8 {}
  /-- the custom sine tables (R137) -/
  tab  : List SineTab := List.replicate 4 {}
deriving DecidableEq, Repr

end Sys2Proof.Machine
end

