-- ==== Sys2Proof/Machine/Areas/Boot.lean ====
section
/-! DEFINITION. State of the OTP, the boot ROM, the protection unit, the configuration generations and the firmware slots (chapter Boot, OTP and protection). -/

namespace Sys2Proof.Machine

/-- The protection unit (Tables BT-7 to BT-12). -/
structure Pu where
  /-- LOCK (R439, Table BT-8) -/
  lock    : Bool := false
  /-- LCS (Table BT-8) -/
  lcs     : Nat := 0
  /-- DBG_REC (Table BT-8) -/
  dbgRec  : Bool := false
  /-- DEBUG_EN (Table BT-8) -/
  debugEn : Bool := false
  /-- C1_EN (Table BT-8) -/
  c1En    : Bool := false
  /-- PU_RGN_BASE 0 to 15 (Table BT-7) -/
  rgnBase : List W32 := List.replicate 16 0
  /-- PU_RGN_ATTR 0 to 15 (Table BT-9) -/
  rgnAttr : List W32 := List.replicate 16 0
  /-- PU_PERIPH (Table BT-10) -/
  periph  : W32 := 0
  /-- opcode masks from Icbex, host SPI, CAN and the service port (Table BT-11) -/
  icbex   : W16 := 0
  /-- opcode mask of the host SPI (Table BT-11) -/
  hspi    : W16 := 0
  /-- opcode mask of CAN (Table BT-11) -/
  can     : W16 := 0
  /-- opcode mask of the service port (Table BT-11) -/
  sport   : W16 := 0
  /-- PU_KEYLOCK: key slots loaded and locked (Table BT-12) -/
  keyLock : W32 := 0
  /-- critical-region map (R388) -/
  crit    : List W32 := List.replicate 32 0
deriving DecidableEq, Repr

/-- One firmware image slot (R435, R437): state of MOLT_STATUS and the length of the image being loaded; the bytes stand in MRAM (Table CX-5). -/
structure FwSlot where
  state   : Nat := 0
  length  : Nat := 0
deriving DecidableEq, Repr

/-- A node of the Jarholt schedule: its dynamic ID, its assigned static slots and its loop position (R269, R277, R313). -/
structure SchedNode where
  node  : Nat := 0
  dyn   : Nat := 0
  slots : List Nat := []
  pos   : Nat := 0
deriving DecidableEq, Repr

/-- What a configuration image sets: the slots of the lane, parameter values, the network schedule with its CRC-16 (R305, R372), and the receive queue of a static slot: the pair of its slot number and one of Q16 to Q47 (Table MB-1). -/
structure CfgImage where
  slots  : List SlotCfg := []
  params : List PVal := []
  sched  : List SchedNode := []
  schedCrc : W16 := 0
  rxQ    : List (Nat × Nat) := []
deriving DecidableEq, Repr

/-- A load in blocks: next block index, total length, bytes so far; an image stands in its staging area, an overlay in `bytes` (CFG_IMAGE_LOAD, CFG_OVERLAY_LOAD). -/
structure Load where
  /-- next block (R373) -/
  next  : Nat
  /-- total length (R373) -/
  total : Nat
  /-- bytes so far (R373) -/
  got   : Nat
  /-- bytes of an overlay load (R373) -/
  bytes : List Byte := []
deriving DecidableEq, Repr

/-- An OTP write in progress: a generation record or a lifecycle marker. -/
inductive OtpWrite where
  | gen (slot : Nat) (bytes : List Byte) (key : CmdKey)
  | life (target : Nat) (key : CmdKey)
deriving DecidableEq, Repr

/-- Boot, configuration and Molt state of one lane. -/
structure Boot where
  /-- the OTP, byte by byte; a byte that is not listed is unprogrammed (R428) -/
  otp      : List Host.Cell := []
  /-- the protection unit (R439) -/
  pu       : Pu := {}
  /-- lifecycle decoded at step 4: 0 BLANK, 1 FACTORY, 2 FIELD, 3 RETURNED (R430) -/
  life     : Nat := 0
  /-- step 4 stopped the lane in BOOT for good (R430) -/
  stopped  : Bool := false
  /-- boot watchdog: instant of hand-over while it runs (R424) -/
  wdAt     : Option Nat := none
  /-- failed boots in a row (R424) -/
  bootFails : Nat := 0
  /-- slot that the next start chooses (R436, R438) -/
  chosen   : Nat := 0
  /-- slot that runs (R436) -/
  running  : Nat := 0
  /-- slot that ran before a swap (R437) -/
  prev     : Nat := 0
  /-- this start is a trial (R438) -/
  trial    : Bool := false
  /-- start of the trial (R438) -/
  trialAt  : Option Nat := none
  /-- the trial has failed (R438) -/
  trialBad : Bool := false
  /-- a MOLT_SWAP that takes effect at once awaits its withdrawal (R437) -/
  swapNow  : Bool := false
  /-- swap written for the next start (R437) -/
  swap     : Option Nat := none
  /-- Molt record of the 2 firmware slots (R436, R437) -/
  slot     : List FwSlot := [{}, {}]
  /-- slot that MOLT_BEGIN opened (R437) -/
  moltOpen : Option Nat := none
  /-- MOLT_VERIFY in progress and its slot (R437) -/
  verify   : Option (CmdKey × Nat) := none
  /-- version of the image that runs (R436) -/
  fwVersion : W32 := 0
  /-- configuration image being loaded into the staging area, the area in force, and the length of a complete staged image (R373) -/
  load     : Option Load := none
  /-- configuration area in force (R434) -/
  cfgArea  : Nat := 0
  /-- length of a verified image in the staging area (R373) -/
  stagedLen : Option Nat := none
  /-- overlay load in progress (R373, R375) -/
  overlayLoad : Option Load := none
  /-- CRC of the overlay in force (R375, R376) -/
  overlayCrc  : Option W32 := none
  /-- OTP write in progress (R373, R431) -/
  otpWrite : Option OtpWrite := none
  /-- generation in force (R434) -/
  gen      : Nat := 0
  /-- hash of its record (R433, R434) -/
  hash     : List Byte := List.replicate 32 0
  /-- the configuration in force (R372, R434) -/
  image    : CfgImage := {}
  /-- a verified image is in force (R434) -/
  imageOk  : Bool := false
  /-- mirror-map CRC and identity compare (R376) -/
  idOk     : Bool := false
  /-- a difference of identity has been reported (R376) -/
  idTold   : Bool := false
  /-- the lane is split: processor pair without comparator (R385) -/
  split    : Bool := false
deriving DecidableEq, Repr

end Sys2Proof.Machine
end

