-- ==== Sys2Proof/Machine/Areas/Function.lean ====
section
/-! DEFINITION. State of the functions: steering, braking, slack adjustment, spring-brake cell and retarder supervision (chapter Steering, braking and retarder supervision). -/

namespace Sys2Proof.Machine

/-- Cell modes of R217. -/
inductive Cell where
  | passive | hold | apply
deriving DecidableEq, Repr

/-- A setpoint that awaits its apply cycle (R205, R360). -/
structure Setpoint where
  vals  : List F32
  mask  : Nat
  apply : Nat
deriving DecidableEq, Repr

/-- One function (R205 to R208, R215). -/
structure Fn where
  enabled   : Bool := false
  /-- 1 hardware, 2 host-assisted, 3 command hold, 4 return or breakaway, 5 parked (Table FN-2) -/
  mode      : Nat := 1
  host      : Bool := false
  /-- the source switch that takes effect at the next outer period (R208) -/
  srcNext   : Option Bool := none
  pending   : List Setpoint := []
  /-- network cycle in which the last accepted setpoint command arrived, none before the first (R215) -/
  lastCycle : Option Nat := none
  lastAt    : Nat := 0
  missed    : Nat := 0
  limited   : Bool := false
  /-- setpoint that this lane itself received last, the cycles in a row in which it differs from the one in force, and the cycle last compared (R206) -/
  rx        : List F32 := []
  misCnt    : Nat := 0
  misCycle  : Nat := 0
deriving DecidableEq, Repr

/-- One braked wheel (R211 to R214). -/
structure Wheel where
  fHost    : F32 := 0
  fBlend   : F32 := 0
  clamp    : F32 := 0
  xC       : F32 := 0
  xC0      : F32 := 0
  learned  : Bool := false
  misSince : Option Nat := none
  useMin   : Bool := false
  /-- contact recorded in this application (R212) -/
  contact  : Bool := false
  due      : Bool := false
  learning : Bool := false
  quietAt  : Option Nat := none
  /-- travel of the adjustment move that waits for the quiet time, 0 for the wear estimate -/
  wanted   : Option F32 := none
  running  : Bool := false
  /-- target of the running adjustment move, in microsteps -/
  goal     : W64 := 0
deriving DecidableEq, Repr

/-- One retarder channel of a lane (R223 to R225). -/
structure Chopper where
  inService : Bool := false
  armed     : Bool := false
  /-- since when the driver fault input is inactive while pre-armed (R223) -/
  preAt     : Option Nat := none
  duty      : F32 := 0
  faulty    : Bool := false
  misCnt    : Nat := 0
  quietAt   : Option Nat := none
deriving DecidableEq, Repr

/-- Test of the lane's own cell in progress (R220). -/
inductive CellTest where
  | none | veto | hold
deriving DecidableEq, Repr

/-- Functions of one lane. -/
structure Fns where
  /-- the 5 functions: steering, braking, slack adjustment, spring brake, retarder (R205) -/
  fn        : List Fn := List.replicate 5 {}
  /-- last commanded vehicle speed (R216) -/
  v         : F32 := 0
  /-- steering setpoint in force (R210) -/
  steerSet  : F32 := 0
  /-- the steering setpoint returns under the rate limit (R208, R210) -/
  returning : Bool := false
  /-- the 4 wheels (R211, R213) -/
  wheel     : List Wheel := List.replicate 4 {}
  /-- breakaway: start of the profile and of the hold (R216) -/
  baAt      : Option Nat := none
  /-- instant at which the present hold of a lost function began (R216) -/
  holdAt    : Nat := 0
  /-- the function's decision: apply (true) or hold, none before the first command (R219) -/
  sbApply   : Option Bool := none
  /-- mode of the spring-brake cell (R219) -/
  cell      : Cell := .passive
  /-- switch contacts commanded and sensed closed: HOLD, VETO1, VETO2 (R217) -/
  cmdHold   : Bool := false
  /-- VETO1 contact as commanded (R217) -/
  cmdVeto1  : Bool := true
  /-- VETO2 contact as commanded (R217) -/
  cmdVeto2  : Bool := true
  /-- contacts as sensed (R220) -/
  sense     : List Bool := [false, true, true]
  /-- contacts whose sense contradicts the command (R220) -/
  senseBad  : List Bool := [false, false, false]
  /-- step of the cell test (R220) -/
  cellTest  : CellTest := .none
  /-- start of that step (R220) -/
  testAt    : Nat := 0
  /-- cell tests have stopped after a fault (R220) -/
  testStop  : Bool := false
  /-- refresh period in which this lane last tested (R220) -/
  testedPer : Option Nat := none
  /-- the last cell test passed (R220, R251) -/
  testOk    : Bool := true
  /-- last refresh of the spring-brake command (R221, R208) -/
  sbAt      : Nat := 0
  /-- the 2 retarder channels (R223) -/
  ch        : List Chopper := List.replicate 2 {}
  /-- firmware assertion of REGEN_INH since (R225, R227) -/
  inhAt     : Option Nat := none
  /-- P_lim of the authority (R224) -/
  pLim      : F32 := 0
  /-- retarding demand (R224) -/
  fDem      : F32 := 0
  /-- electric share of the demand (R224) -/
  fEl       : F32 := 0
  /-- a speed reduction is requested (R225) -/
  speedReq  : Bool := false
  /-- target of that request (R225) -/
  speedTgt  : F32 := 0
  /-- the link stands below its release threshold since (R227) -/
  linkLow   : Option Nat := none
  /-- good inverter frames in a row (R227) -/
  invGood   : Nat := 0
  /-- since when P_lim is cut to 0 by a chopper fault or a notice (R225, R227) -/
  cutAt     : Option Nat := none
  /-- the loss of the inverter link has been reported (R225) -/
  invLostTold : Bool := false
  /-- channels that peers reported faulty: lane code and channel (R225, R237) -/
  notice    : List (Nat × Nat) := []
  /-- a notice waits for the link to be high (R225) -/
  noticeDue : Bool := false
  /-- steps 1 and 5 of R225 await the authority's next drive-link frame and status publication -/
  limCut    : Bool := false
  /-- a speed request waits for the next drive-link frame (R225) -/
  speedDue  : Bool := false
  /-- setpoints accepted since the last outer period, for lanes without a channel (R237) -/
  fwd       : List (List Byte) := []
  /-- OV2 reaction of the lane (R229) -/
  ov2On     : Bool := false
  /-- driving sets per slot index of this outer period (R209) -/
  nD        : List Nat := List.replicate 8 0
  /-- standstill since, for the final stop (R265) -/
  stopSince : Option Nat := none
  /-- stream value of the limit (R208) -/
  strLimit  : Option F32 := none
  /-- streamed pre-arm of the retarder (R208, R223) -/
  strArm    : Bool := false
deriving DecidableEq, Repr

end Sys2Proof.Machine
end

