-- ==== Sys2Proof/Machine/Areas/Links.lean ====
section
/-! DEFINITION. State of the inter-lane links (R20, R21, Table LN-3). -/

namespace Sys2Proof.Machine

/-- What a lane's HEALTH block tells its peers beside the 12 bytes of Table RD-1, which name no carrier for it: DESIGN CHOICE (log entry 49). -/
structure LaneNews where
  /-- configuration identity and seniority order (R234, R376) -/
  cfgCrc : W32 := 0
  order  : Nat := 0
  /-- the two drive links are lost (R244) -/
  dlLost : List Bool := [true, true]
  /-- mode of the cell, and its switches sensed closed: HOLD, VETO1, VETO2 (R218, R220) -/
  cell   : Cell := .passive
  closed : List Bool := [false, true, true]
  /-- the second retarder channel is in service, and the fault flags of the two channels (R223, R225) -/
  second : Bool := false
  rtFault : List Bool := [false, false]
  /-- health word that the lane's tap brought within two network cycles (R250) -/
  tap    : Option W32 := none
  /-- chains on which the lane votes (R238) -/
  votes  : List Bool := []
deriving DecidableEq, Repr

/-- One 16-byte inter-lane block without its CRC: type, sequence number and 12 payload bytes. -/
structure Block where
  /-- type, with the relay bit 7 (R236, R255) -/
  kind    : Byte := 0
  /-- sequence number (R21), given when the block goes out -/
  seq     : Byte := 0
  /-- 12 bytes (R236) -/
  payload : List Byte := []
  /-- the lane that a block is meant for, none for one that goes to both peers (R255, log entry 29) -/
  dest    : Option LaneId := none
  /-- in a HEALTH block (log entry 49) -/
  side    : Option LaneNews := none
deriving DecidableEq, Repr

/-- One inter-lane link as its lane sees it (R20, R21). -/
structure Link where
  /-- the link is in use: not lost (R21) -/
  up         : Bool := false
  /-- instant of the last valid block -/
  lastValid  : Nat := 0
  /-- start of the present clean reception (Table LN-3) -/
  cleanSince : Nat := 0
  /-- instants of the blocks discarded within the last 1 ms (R21) -/
  badTimes   : List Nat := []
  /-- blocks discarded since reset (R21) -/
  badCount   : Nat := 0
  /-- sequence number of the last valid block, none before the first -/
  seqRx      : Option Byte := none
  /-- the resynchronisation handshake of a lost link has been exchanged; a link that was never lost asks for none (R21) -/
  shook      : Bool := true
  /-- sequence number of the next block to go out, idle ones counted (R20, R21) -/
  seqTx      : Byte := 0
  /-- urgent and bulk blocks that wait for a block boundary, oldest first (R20) -/
  urgent     : List Block := []
  bulk       : List Block := []
  /-- the last 256 blocks that went out, idle ones left out -/
  wire       : List Block := []
deriving DecidableEq, Repr

end Sys2Proof.Machine
end

