-- ==== Sys2Proof/Machine/Areas/Operand.lean ====
section
/-! DEFINITION. The operands that commands carry: the lane and instant of a command, host messages, frames, blocks, bus transfers and measured values. -/

namespace Sys2Proof.Machine

/-- The lane a command acts on and its instant, in 2.5 ns counts of that lane (R12); for SPRING_BRAKE and SB_TEST_START, what the lane's spring-brake switches sense: HOLD, VETO1 and VETO2 closed (R220), none where nothing differs from the last state. -/
structure At where
  lane : LaneId
  t    : Nat
  sw   : Option (List Bool) := none
deriving DecidableEq, Repr

/-- A host message as a lane takes it: the transport and sender, the header fields of Table MB-4 and the argument bytes. -/
structure Msg where
  tr     : Transport
  host   : Nat := 0
  tag    : Nat := 0
  ver    : Nat := 2
  /-- EXPIRE, low 32 bits of the cycle counter, 0 for none -/
  expire : Nat := 0
  noResp : Bool := false
  bcast  : Bool := false
  msgId  : Nat := 0
  /-- CAN controller that brought it -/
  port   : Nat := 0
  args   : List Byte := []
deriving DecidableEq, Repr

/-- A received Icbex frame: port (2 and 3 are the taps, R268), MAC header of R300 (none on Icbex-1), the octets of the layout of Table NF-1 or Table NF-5, and the FCS or CRC as received. -/
structure RxFrame where
  port    : Nat := 0
  mac     : List Byte := []
  hdr     : List Byte := []
  payload : List Byte := []
  tag     : W32 := 0
  fcs     : W32 := 0
deriving DecidableEq, Repr

/-- The newest values of a delta-sigma input in V: the sinc3 result and the running sinc2 value (R97 to R99). -/
structure DsRes where
  v    : F32
  fast : F32
deriving DecidableEq, Repr

/-- A VDS monitor's report (R50): the switch, its VDS in mV, and since when it stands there without a drop below the threshold. -/
structure VdsOver where
  high  : Bool
  vds   : Nat
  since : Nat
deriving DecidableEq, Repr

/-- A period start of a timebase, with the bootstraps (bit k of half-bridge k) that stand below BST_LOW at the end of the last period (R46). -/
structure Period where
  tb     : Nat
  bstLow : W16 := 0
deriving DecidableEq, Repr

/-- A received CAN frame: controller, FD or XL, identifier and data. -/
structure CanRx where
  /-- CAN controller that received the frame (R317) -/
  port : Nat := 0
  /-- the frame is CAN XL (R317) -/
  xl   : Bool := false
  /-- the frame is classical CAN (R317) -/
  classic : Bool := false
  /-- 29-bit identifier, on CAN XL in the acceptance field (R317, R318) -/
  id   : Nat := 0
  /-- priority identifier, SDU type and VCID of CAN XL (R317) -/
  prio : Nat := id / 2 ^ 18
  sdu  : Nat := 0x0B
  vcid : Nat := 0
  /-- data field with freshness and tag (R319) -/
  data : List Byte := []
deriving DecidableEq, Repr

/-- How a bus transaction arrived: its CRCs right, its length whole (R341). -/
structure Wire where
  crcOk : Bool := true
  lenOk : Bool := true
deriving DecidableEq, Repr

/-- A host SPI transaction (R339): word address of the first data word, and the data words of a write or the number of words of a read. -/
structure SpiXfer where
  wire  : Wire := {}
  addr  : Nat := 0
  data  : List W32 := []
  count : Nat := 1
deriving DecidableEq, Repr

/-- A Hall code of a group, and the first sample at which it stood (R106). -/
structure HallEdge where
  code  : Nat
  since : Nat
deriving DecidableEq, Repr

/-- A level of an input pin, and the first sample at it (R112). -/
structure PinLvl where
  lvl   : Bool
  since : Nat
deriving DecidableEq, Repr

/-- What a serial position port met on its pairs in one exchange (R114 to R125). -/
structure PosFrame where
  /-- SSI: the level of the data line before its first change, and its changes with their instants -/
  rest  : Bool := true
  line  : List (Nat × Bool) := []
  /-- BiSS-C after CDS, and SSI in pass-through: the bits as they were sampled -/
  bits  : List Bool := []
  /-- from the clock edge to the start of the answer, in 2.5 ns counts: BiSS-C, and SSI in pass-through -/
  delay : Nat := 0
  /-- BiSS-C: length of the busy phase, in 2.5 ns counts -/
  busy  : Nat := 0
  /-- KPP: the reply's bytes, none for one with a framing error, and the instant of its first start bit -/
  bytes : List (Option Byte) := []
  start : Nat := 0
  /-- pass-through: the request of the downstream drive (KPP), and the instant of the relayed first clock edge or of the request's end -/
  req   : List (Option Byte) := []
  first : Nat := 0
  /-- pass-through: the instant of the last relayed clock edge (SSI) -/
  last  : Nat := 0
deriving DecidableEq, Repr

/-- An SRAM access (R386): side, 2.5 ns cycle, byte address, and for a write its bytes with enables; `ecc` is the check of the word read: 0 good, 1 single-bit error, 2 single-bit error that stays after the write-back, 3 double-bit error. -/
structure SramXfer where
  dma   : Bool := false
  /-- core 1 of a split lane (R385), and an instruction fetch (Table BT-9) -/
  core1 : Bool := false
  fetch : Bool := false
  cycle : Nat := 0
  addr  : Nat := 0
  write : Option (List (Option Byte)) := none
  ecc   : Nat := 0
deriving DecidableEq, Repr

/-- Results of the quick checks (Table BT-2). -/
structure Checks where
  vgdOk      : Bool := true
  /-- pass bits of the comparator self-test of HB00 to HB15 and the number of comparators tested -/
  cmpPass    : List Byte := List.replicate 16 0xFF
  cmpCount   : Nat := 128
  trimOk     : Bool := true
  /-- codes of the 12 amplifiers with shorted inputs, and with the internal 25 mV reference (R90) -/
  trimShort  : List Nat := List.replicate 12 2048
  trimRef    : List Nat := List.replicate 12 2731
  adcRefOk   : Bool := true
  calTaps    : Nat := 64
  calOk      : Bool := true
  temps      : List F32 := [0x41C80000, 0x41C80000, 0x41C80000]
  crackR     : F32 := 0x41200000
  /-- spare rows found bad -/
  badSpares  : Nat := 0
  /-- half-bridges that read no current -/
  openHb     : W16 := 0
  cellSense  : List Bool := [false, true, true]
  calDataOk  : Bool := true
  /-- the currents read by the winding check lie within 20 % of V_bus × 2 µs / L, but for the half-bridges that read none -/
  windOk     : Bool := true
deriving DecidableEq, Repr

end Sys2Proof.Machine
end

