-- ==== Sys2Proof/Syntax.lean ====
section
/-! DEFINITION. The commands of the block, one constructor per row of the operation table. Every command names the lane it acts on and its instant. -/

namespace Sys2Proof

open Sys2Proof.Machine

/-- The commands and events of a module. -/
inductive Instr where
  /-- IDENTIFY, R362. Command 0x00 returns the lane's identity, firmware version, configuration generation and configuration identity. -/
  | identify (at_ : At) (m : Msg)
  /-- SESSION_CHALLENGE, R352. Command 0x01 closes any open session on the transport and returns a fresh 16-byte nonce with the unique identifier. -/
  | sessionChallenge (at_ : At) (m : Msg)
  /-- SESSION_RESPONSE, R352. Command 0x02 checks the CMAC response against the nonce and opens a session of the requested level, or fails and voids the nonce. -/
  | sessionResponse (at_ : At) (m : Msg)
  /-- SESSION_CLOSE, R353. Command 0x03 closes the session on its transport. -/
  | sessionClose (at_ : At) (m : Msg)
  /-- PARAM_READ, R364. Command 0x08 returns the values in force, or the staged values, of a range of parameter instances. -/
  | paramRead (at_ : At) (m : Msg)
  /-- PARAM_WRITE, R366. Command 0x09 writes parameter instances, applying them at once, refusing them by state, or placing them in the staged set by write class. -/
  | paramWrite (at_ : At) (m : Msg)
  /-- PARAM_COMMIT, R368. Command 0x0A checks the staged set against the values in force and applies it in one step, or discards it. -/
  | paramCommit (at_ : At) (m : Msg)
  /-- PARAM_INFO, R362. Command 0x0B returns the type, instance count, element count, write class and limits of a parameter. -/
  | paramInfo (at_ : At) (m : Msg)
  /-- STREAM_PUSH, R354. Command 0x0C delivers 1 to 63 stream entries, which move into their targets' FIFOs or are rejected and counted. -/
  | streamPush (at_ : At) (m : Msg)
  /-- FN_ENABLE, R205. Command 0x10 enables or disables a function, refusing a disable of steering, braking or retarder above FN_SB_VMAX. -/
  | fnEnable (at_ : At) (m : Msg)
  /-- FN_SOURCE_SET, R208. Command 0x11 switches a function between hardware and host-assisted mode from the next outer period. -/
  | fnSourceSet (at_ : At) (m : Msg)
  /-- STEER_SET, R210. Command 0x12 sets the steering wheel-angle setpoint for an apply cycle, rate-limited through the profile generator. -/
  | steerSet (at_ : At) (m : Msg)
  /-- BRAKE_SET, R213. Command 0x13 sets the clamp-force setpoints of the masked wheels for an apply cycle. -/
  | brakeSet (at_ : At) (m : Msg)
  /-- SPRING_BRAKE, R221. Command 0x14 sets the spring-brake function to hold or apply, refusing a non-emergency apply above FN_SB_VMAX. -/
  | springBrake (at_ : At) (m : Msg)
  /-- SLACK_ADJUST, R214. Command 0x15 requests an adjustment move of one wheel's slack adjuster under the quiet-time rule. -/
  | slackAdjust (at_ : At) (m : Msg)
  /-- RETARD_SET, R224. Command 0x16 sets the retarding force demand that the authority splits into electric and friction shares. -/
  | retardSet (at_ : At) (m : Msg)
  /-- FN_STATUS, R207. Command 0x17 returns the status word of one function. -/
  | fnStatus (at_ : At) (m : Msg)
  /-- BRAKE_LEARN, R212. Command 0x18 starts a slow application that learns the contact point and wear reference of the masked wheels. -/
  | brakeLearn (at_ : At) (m : Msg)
  /-- FN_BATCH, R350. Command 0x19 applies the record naming this module as a steering and two-wheel braking setpoint. -/
  | fnBatch (at_ : At) (m : Msg)
  /-- MOT_ENABLE, R134. Command 0x20 enables a motor slot after checking its data, or disables it with work in flight. -/
  | motEnable (at_ : At) (m : Msg)
  /-- MOT_STATUS, R362. Command 0x21 returns the angle, speed, currents and flags of a motor slot. -/
  | motStatus (at_ : At) (m : Msg)
  /-- MOT_TABLE_LOAD, R137. Command 0x22 loads one block of a custom sine table and, at the last block, checks the CRC and zero sum. -/
  | motTableLoad (at_ : At) (m : Msg)
  /-- MOT_ANGLE_SRC_SET, R152. Command 0x23 changes the angle source of an enabled slot with a blended offset from the next period start. -/
  | motAngleSrcSet (at_ : At) (m : Msg)
  /-- TRIP_CLEAR, R84. Command 0x30 moves each named trip source in HELD to RESUMING and reports the state of all sources. -/
  | tripClear (at_ : At) (m : Msg)
  /-- TRIP_FORCE, R77. Command 0x31 makes software trip source 12 active or inactive. -/
  | tripForce (at_ : At) (m : Msg)
  /-- TRIP_STATUS, R362. Command 0x32 returns the state and trip count of every trip source. -/
  | tripStatus (at_ : At) (m : Msg)
  /-- GD_FAULT_CLEAR, R51. Command 0x34 clears VDS latches of disabled slots, except latches held until power cycle. -/
  | gdFaultClear (at_ : At) (m : Msg)
  /-- GD_SET_STRENGTH, R40. Command 0x35 sets the fixed turn-on and turn-off strength codes of a gate channel. -/
  | gdSetStrength (at_ : At) (m : Msg)
  /-- GD_SELFTEST, R58. Command 0x36 starts the comparator self-test of the named idle half-bridges one after another. -/
  | gdSelftest (at_ : At) (m : Msg)
  /-- GD_SELFTEST_END, R59. The comparator self-test finishes its last half-bridge and the response gives the pass bits and the count tested. -/
  | gdSelftestEnd (at_ : At) (pass : List Byte) (count : Nat)
  /-- LOOP_OPEN, R171. Command 0x40 puts a loop slot in OPEN holding its output or taking it from the host stream. -/
  | loopOpen (at_ : At) (m : Msg)
  /-- LOOP_CLOSE, R171. Command 0x41 closes a loop slot through BLEND from its held output. -/
  | loopClose (at_ : At) (m : Msg)
  /-- LOOP_INJECT, R172. Command 0x42 starts a step, sweep, PRBS or host test signal on a closed slot. -/
  | loopInject (at_ : At) (m : Msg)
  /-- LOOP_CAPTURE, R174. Command 0x43 starts a capture of four channels of a loop slot into a capture queue. -/
  | loopCapture (at_ : At) (m : Msg)
  /-- LOOP_CHAIN_SET, R175. Command 0x44 changes the upstream source of a consumer slot with a hand-over blend. -/
  | loopChainSet (at_ : At) (m : Msg)
  /-- LOOP_CAPTURE_STOP, R174. Command 0x45 stops a capture, which writes its END record. -/
  | loopCaptureStop (at_ : At) (m : Msg)
  /-- MP_MOVE, R186. Command 0x50 plans an absolute, relative or velocity move on a profile generator from its present state. -/
  | mpMove (at_ : At) (m : Msg)
  /-- MP_STOP, R186. Command 0x51 stops a generator at the normal or quick-stop deceleration. -/
  | mpStop (at_ : At) (m : Msg)
  /-- MP_SOURCE_SET, R189. Command 0x52 switches a generator between planning and the host stream at the next tick. -/
  | mpSourceSet (at_ : At) (m : Msg)
  /-- MP_REFERENCE, R197. Command 0x53 starts a stall or switch reference run on a slot's generator. -/
  | mpReference (at_ : At) (m : Msg)
  /-- RED_STATUS, R250. Command 0x60 returns the three health words and the module status word. -/
  | redStatus (at_ : At) (m : Msg)
  /-- RED_LANE_RESET, R254. Command 0x61 restarts a lane in FAILSILENT, forwarded by a peer as a RESET block. -/
  | redLaneReset (at_ : At) (m : Msg)
  /-- RED_FAULT_CLEAR, R265. Command 0x62 clears the parked stop state at standstill with at most one fault instance, in the authority only. -/
  | redFaultClear (at_ : At) (m : Msg)
  /-- NET_STATUS, R362. Command 0x70 returns the controller state, epoch, counter, offset, return delay and receive totals of a channel. -/
  | netStatus (at_ : At) (m : Msg)
  /-- NET_COLDSTART, R285. Command 0x71 makes the master contend for cold start like every other cold-start node. -/
  | netColdstart (at_ : At) (m : Msg)
  /-- NET_TX_SRC_SET, R297. Command 0x72 switches one own static slot between firmware and host payload from the next cycle start. -/
  | netTxSrcSet (at_ : At) (m : Msg)
  /-- NET_KEY_EPOCH, R309. Command 0x73 schedules the next key epoch of the own or tapped channel for a start cycle. -/
  | netKeyEpoch (at_ : At) (m : Msg)
  /-- NET_WAKE, R327. Command 0x74 sends the Cicada pattern on both own ports. -/
  | netWake (at_ : At) (m : Msg)
  /-- NET_CAN_RESTART, R321. Command 0x75 restarts a CAN controller that its bus-off limit switched off. -/
  | netCanRestart (at_ : At) (m : Msg)
  /-- PWR_REQUEST, R406. Command 0x80 requests a power state, refused by refusers 0-4 or accepted into the entry steps. -/
  | pwrRequest (at_ : At) (m : Msg)
  /-- PWR_STATUS, R362. Command 0x81 returns AON_STATUS and the refusal and abort counters. -/
  | pwrStatus (at_ : At) (m : Msg)
  /-- BIST_RUN, R453. Command 0x90 runs the masked self-test sections in ascending order under the host's sequence. -/
  | bistRun (at_ : At) (m : Msg)
  /-- BIST_SECTION, R453. Command 0x91 runs one self-test section, or its idle subset in a driving state. -/
  | bistSection (at_ : At) (m : Msg)
  /-- BIST_RESULT, R447. Command 0x92 returns the newest recorded result of one section. -/
  | bistResult (at_ : At) (m : Msg)
  /-- BIST_ABORT, R453. Command 0x93 ends the running host-sequenced section as aborted. -/
  | bistAbort (at_ : At) (m : Msg)
  /-- CFG_IMAGE_LOAD, R373. Command 0xA0 loads one block of a signed configuration image into staging and checks the signature at the last block. -/
  | cfgImageLoad (at_ : At) (m : Msg)
  /-- CFG_GEN_BURN, R373. Command 0xA1 starts writing a generation record for the staged image into the next OTP record slot. -/
  | cfgGenBurn (at_ : At) (m : Msg)
  /-- CFG_GEN_BURN_END, R373. The generation record is written and read back, and the burn completes. -/
  | cfgGenBurnEnd (at_ : At) (ok : Bool)
  /-- CFG_OVERLAY_LOAD, R375. Command 0xA2 loads a signed overlay and applies its entries as one commit once no spare generation remains. -/
  | cfgOverlayLoad (at_ : At) (m : Msg)
  /-- CFG_STATUS, R362. Command 0xA3 returns the generation, spare count, overlay state, lifecycle and image hash. -/
  | cfgStatus (at_ : At) (m : Msg)
  /-- LIFECYCLE_SET, R431. Command 0xA4 starts writing the next forward lifecycle marker. -/
  | lifecycleSet (at_ : At) (m : Msg)
  /-- LIFECYCLE_WRITE_END, R431. The lifecycle marker is written and read back, and the command completes. -/
  | lifecycleWriteEnd (at_ : At) (ok : Bool)
  /-- MOLT_BEGIN, R437. Command 0xB0 opens a non-running, unworn firmware image slot for loading. -/
  | moltBegin (at_ : At) (m : Msg)
  /-- MOLT_DATA, R437. Command 0xB1 writes image bytes at an offset of the open slot. -/
  | moltData (at_ : At) (m : Msg)
  /-- MOLT_VERIFY, R437. Command 0xB2 starts verifying the loaded slot's header, length, signature and rollback floor. -/
  | moltVerify (at_ : At) (m : Msg)
  /-- MOLT_VERIFY_END, R437. Verification ends with the slot in state verified or refused. -/
  | moltVerifyEnd (at_ : At)
  /-- MOLT_SWAP, R437. Command 0xB3 commits a swap to a verified slot at the next start, or withdraws and restarts at once. -/
  | moltSwap (at_ : At) (m : Msg)
  /-- MOLT_STATUS, R362. Command 0xB4 returns the running slot and the state and version of both slots. -/
  | moltStatus (at_ : At) (m : Msg)
  /-- EVENT_READ, R362. Command 0xC0 returns event records from the log of the last 1,024 events. -/
  | eventRead (at_ : At) (m : Msg)
  /-- LOG_READ, R396. Command 0xC1 returns fault-log entries. -/
  | logRead (at_ : At) (m : Msg)
  /-- COUNTER_CLEAR, R362. Command 0xC2 clears one or all instances of a counter parameter. -/
  | counterClear (at_ : At) (m : Msg)
  /-- TRACE_CTRL, R362. Command 0xC3 switches trace recording on or off. -/
  | traceCtrl (at_ : At) (m : Msg)
  /-- UNKNOWN_OPCODE, R362. A command whose opcode no table lists returns UNSUPPORTED. -/
  | unknownOpcode (at_ : At) (op : Nat) (m : Msg)
  /-- DOORBELL_WRITE, R342. A DOORBELL write hands the host's new entries of Q00, Q11 or Q16-Q47 to the lane. -/
  | doorbellWrite (at_ : At) (w : Wire) (q tail : Nat)
  /-- IRQ_STAT_CLEAR, R343. A write of ones to IRQ_STAT clears those interrupt bits and releases HIRQ when no enabled bit remains. -/
  | irqStatClear (at_ : At) (w : Wire) (mask : W32)
  /-- SPI_STAT_CLEAR, R341. A write of ones to SPI_STAT clears the named error flags. -/
  | spiStatClear (at_ : At) (w : Wire) (mask : W32)
  /-- QHEAD_WRITE, R334. A host write of QHEAD of a queue it consumes frees the consumed entries. -/
  | qheadWrite (at_ : At) (w : Wire) (q head : Nat)
  /-- REGISTER_WRITE, R341. A host SPI write to ring memory or a plain register takes effect within 200 ns of HCS rising. -/
  | registerWrite (at_ : At) (x : SpiXfer)
  /-- HIRQ_HOLDOFF_END, R343. After the IRQ_HOLD time HIRQ may go low again for pending enabled interrupts. -/
  | hirqHoldoffEnd (at_ : At)
  /-- SP_MB_IN_WRITE, R344. A service-port write to MB_IN appends command bytes to the message in progress. -/
  | spMbInWrite (at_ : At) (bytes : List Byte) (crcOk : Bool)
  /-- SP_COMMIT, R344. Writing COMMIT in SP_CTRL closes the message in progress into Q04. -/
  | spCommit (at_ : At) (crcOk : Bool)
  /-- SP_ABORT, R344. Writing ABORT in SP_CTRL discards the message in progress. -/
  | spAbort (at_ : At) (crcOk : Bool)
  /-- SP_MB_OUT_READ, R344. A read of MB_OUT returns and consumes the next response bytes of Q05. -/
  | spMbOutRead (at_ : At) (crcOk : Bool)
  /-- SP_STAT_READ, R344. A read of SP_STAT returns the status and clears CRC_ERR and DROP. -/
  | spStatRead (at_ : At) (crcOk : Bool)
  /-- SP_MESSAGE_TIMEOUT, R345. A message opened with MB_IN and not committed within 1 s is discarded and DROP set. -/
  | spMessageTimeout (at_ : At)
  /-- SERVICE_PORT_WAKE, R345. A service-port pointer other than an AON_STATUS read, in a sleeping or starting state, raises a wake event. -/
  | servicePortWake (at_ : At) (ptr : Nat) (read : Bool)
  /-- MAILBOX_FRAME_RX, R346. An accepted MAILBOX frame adds a segment to reassembly and completes a message into Q02. -/
  | mailboxFrameRx (at_ : At) (f : RxFrame)
  /-- CAN_FRAME_RX, R318. A CAN frame for this lane is authenticated, checked for freshness and added to reassembly into Q06. -/
  | canFrameRx (at_ : At) (f : CanRx)
  /-- REASM_TIMEOUT, R347. A message still incomplete after its reassembly time is abandoned and counted. -/
  | reasmTimeout (at_ : At) (tr : Transport) (host msgId : Nat)
  /-- CAN_BUS_OFF, R321. A CAN controller goes bus-off and recovers under ISO 11898-1 unless the bus-off limit is reached. -/
  | canBusOff (at_ : At) (port : Nat)
  /-- CAN_STATUS_SEND, R320. At each multiple of NET_CAN_STAT_T the lane builds and sends its CAN status frame. -/
  | canStatusSend (at_ : At) (port : Nat)
  /-- SESSION_IDLE_TIMEOUT, R353. A session without a command for SYS_SESSION_IDLE closes. -/
  | sessionIdleTimeout (at_ : At) (tr : Transport)
  /-- STAGE_TIMEOUT, R367. A staged set without a write or commit from its owner for 5 s is discarded. -/
  | stageTimeout (at_ : At)
  /-- PERIOD_START, R62. A timebase period starts and pending maps, re-arms, resumes and refresh pulses take effect. -/
  | periodStart (at_ : At) (p : Period)
  /-- SHADOW_LOAD, R67. At the load point all ready shadows and trigger positions of the timebase load together. -/
  | shadowLoad (at_ : At) (tb : Nat)
  /-- TRIGGER_FIRE, R69. An extra compare register fires and starts its ADC sequence, position request, snapshot or loop sequence. -/
  | triggerFire (at_ : At) (cmp : Nat)
  /-- ADC_CONVERSION_END, R92. A sequence entry's conversion result reaches the loop-engine input latch. -/
  | adcConversionEnd (at_ : At) (adc : Nat) (code : Nat)
  /-- DELAY_CAL, R70. The 1 ms calibration measures the replica line and stages a new fine-step map. -/
  | delayCal (at_ : At) (count : Nat)
  /-- TRIP_INPUT_ACTIVE, R80. A trip source becomes active and drives its covered channels to their safe levels. -/
  | tripInputActive (at_ : At) (src : Nat)
  /-- TRIP_INPUT_INACTIVE, R82. An active trip source's input goes inactive and the source goes to HELD or RESUMING. -/
  | tripInputInactive (at_ : At) (src : Nat)
  /-- DEBUG_HALT_ENTRY, R85. A debug halt freezes the PWM state, or trips source 12, per PWM_HALT_ACTION. -/
  | debugHaltEntry (at_ : At)
  /-- DEBUG_HALT_EXIT, R86. Halt exit resumes counters from their frozen values and leaves tripped channels to R83. -/
  | debugHaltExit (at_ : At)
  /-- GATE_EDGE_MEASURED, R38. A valid switching-time measurement moves the channel's strength code by at most one step. -/
  | gateEdgeMeasured (at_ : At) (ch : Nat) (on : Bool) (time : Nat) (valid : Bool)
  /-- VDS_FAULT, R50. VDS above threshold for the filter time after blanking soft-turns off the switch and latches the half-bridge. -/
  | vdsFault (at_ : At) (hb : Nat) (v : VdsOver)
  /-- VDS_AUTO_CLEAR, R51. 10 ms after a VDS fault the firmware clears the latch if retries remain, or holds it until power cycle. -/
  | vdsAutoClear (at_ : At) (hb : Nat)
  /-- VGD_FAULT, R43. VGD crossing its UVLO or overvoltage threshold turns off every gate channel of the lane. -/
  | vgdFault (at_ : At) (ov : Bool)
  /-- VGD_RECOVERY, R43. VGD inside both thresholds for 1 ms lets drive resume at the next period start. -/
  | vgdRecovery (at_ : At)
  /-- BST_UV, R45. A bootstrap below its UVLO threshold turns off that high side only. -/
  | bstUv (at_ : At) (hb : Nat)
  /-- BST_UV_RECOVER, R45. A bootstrap rising above its UVLO threshold lets the high side return at the next period start or pulse. -/
  | bstUvRecover (at_ : At) (hb : Nat)
  /-- SHOOT_REQ, R53. Both switches of a half-bridge commanded on are turned off within 2 ns. -/
  | shootReq (at_ : At) (hb : Nat)
  /-- GATE_DOUBLE_DRIVE, R54. Both gate voltages above threshold for 20 ns latch the half-bridge off until power cycle. -/
  | gateDoubleDrive (at_ : At) (hb : Nat)
  /-- DIRECT_PULSE_EDGE, R55. An edge on DPUL of a direct-mode half-bridge switches high and low side with dead time. -/
  | directPulseEdge (at_ : At) (hb : Nat) (level : Bool)
  /-- DIRECT_ENABLE_CHANGE, R55. DEN going low turns both switches off within 20 ns; going high lets the pulse input drive. -/
  | directEnableChange (at_ : At) (hb : Nat) (level : Bool)
  /-- BUS_OV1, R228. OV1 rising makes the actuator-bus chopper conduct at full duty. -/
  | busOv1 (at_ : At) (drn : Nat)
  /-- BUS_OV1_CLEAR, R228. OV1 falling turns the actuator-bus chopper off. -/
  | busOv1Clear (at_ : At) (drn : Nat)
  /-- BUS_OV2, R229. OV2 rising puts fast three-phase slots into active short and turns other slots off. -/
  | busOv2 (at_ : At) (drn : Nat)
  /-- OV2_RELEASE, R230. The bus below OV2 minus hysteresis for FN_OV2_HOLD_T ends the OV2 reaction. -/
  | ov2Release (at_ : At) (drn : Nat)
  /-- OV_HARD, R97. A sinc2 comparator crossing OV_HARD trips its source and may set the REGEN latch. -/
  | ovHard (at_ : At) (ds : Nat)
  /-- DS_MOD_FAULT, R99. A stuck stream or lost modulator clock raises the fault and may set the REGEN latch. -/
  | dsModFault (at_ : At) (ds : Nat)
  /-- TEMP_SAMPLE, R102. The 1 ms temperature reading updates derating and recovery on the highest valid sensor. -/
  | tempSample (at_ : At) (t0 t1 t2 : F32)
  /-- TEMP_SHUTDOWN, R102. 145 °C held for 1 ms sends the lane to FAILSILENT. -/
  | tempShutdown (at_ : At)
  /-- TEMP_SENSOR_FAULT, R102. Two sensors more than 15 °C apart for 100 ms drop the outlier or report the disagreement. -/
  | tempSensorFault (at_ : At)
  /-- CRACK_MEASURE, R103. The 10 ms crack-loop measurement compares the loop resistance with the stored value. -/
  | crackMeasure (at_ : At) (r : F32)
  /-- HALL_TRANSITION, R106. An accepted Hall transition is stamped and updates sector, direction and speed. -/
  | hallTransition (at_ : At) (group : Nat) (e : HallEdge)
  /-- HALL_ILLEGAL, R108. An illegal Hall code held for POS_HALL_ILL_T raises the event and may declare the group lost. -/
  | hallIllegal (at_ : At) (group : Nat) (e : HallEdge)
  /-- HALL_SPEED_TIMEOUT, R110. 100 ms without a Hall transition sets the Hall speed to zero. -/
  | hallSpeedTimeout (at_ : At) (group : Nat)
  /-- ENCODER_EDGE, R112. An A or B edge counts the encoder or is a quadrature error. -/
  | encoderEdge (at_ : At) (enc : Nat) (a b : PinLvl)
  /-- ENC_Z_EDGE, R113. A rising Z edge captures the count, checks the line count and may reset the counter. -/
  | encZEdge (at_ : At) (enc : Nat)
  /-- PP_FRAME_END, R118. A serial position reply ends and is checked for CRC, echo, ALIVE and timing. -/
  | ppFrameEnd (at_ : At) (port : Nat) (f : PosFrame)
  /-- PP_PRESENT, R121. At trigger plus POS_PP_PRESENT the result is placed in the loop-engine latch. -/
  | ppPresent (at_ : At) (port : Nat)
  /-- PT_FRAME_RELAYED, R125. A frame relayed in pass-through is decoded and stamped. -/
  | ptFrameRelayed (at_ : At) (port : Nat) (f : PosFrame)
  /-- PT_LOST, R125. No valid pass-through frame within 3 times POS_PP_XPECT declares the port lost. -/
  | ptLost (at_ : At) (port : Nat)
  /-- POS_FROZEN, R130. A position source that does not move over its window under current and speed is declared frozen. -/
  | posFrozen (at_ : At) (slot : Nat)
  /-- CURRENT_SEQUENCE, R164. A current-slot sequence runs its slots back to back and writes the PWM shadows. -/
  | currentSequence (at_ : At) (tb : Nat) (ds : List (Option DsRes))
  /-- OUTER_SEQUENCE, R165. The outer timer starts the speed, position and force slots in sequence order. -/
  | outerSequence (at_ : At) (ds : List (Option DsRes))
  /-- FALLBACK_RAMP_END, R178. The fallback ramp reaches the safe output and a current slot's motor slot takes its lane-safe state. -/
  | fallbackRampEnd (at_ : At) (slot : Nat)
  /-- FLYING_START_PROBE, R151. At each probe time the slot fires zero-vector probes or starts the zero-current run. -/
  | flyingStartProbe (at_ : At) (slot : Nat)
  /-- SOURCE_BLEND_END, R152. The angle-source offset reaches zero at the end of MOT_SRC_BLEND_T. -/
  | sourceBlendEnd (at_ : At) (slot : Nat)
  /-- PROFILE_TICK, R185. A profile generator integrates one tick and publishes p, v and a. -/
  | profileTick (at_ : At) (gen : Nat)
  /-- REF_SWITCH_EDGE, R199. The reference switch edge latches the position as MP_REF_OFFSET and stops the generator. -/
  | refSwitchEdge (at_ : At) (pin : Nat) (e : PinLvl)
  /-- STEPPER_STAGE_UPDATE, R194. Each PWM period the stepper stage computes its phase voltages and writes the H-bridge shadows. -/
  | stepperStageUpdate (at_ : At) (slot : Nat)
  /-- STEP_IDLE_TIMEOUT, R196. MP_STEP_IDLE_T after motion the run current ramps to the hold current. -/
  | stepIdleTimeout (at_ : At) (slot : Nat)
  /-- STEP_HOLD_TIMEOUT, R196. After MOT_STEP_HOLD_T in the lane-safe state the stepper turns off and may become unreferenced. -/
  | stepHoldTimeout (at_ : At) (slot : Nat)
  /-- FN_OUTER_PERIOD, R223. Each outer period the functions count winding sets, blend friction, run the retarder balance and check release. -/
  | fnOuterPeriod (at_ : At) (ds : List (Option DsRes))
  /-- CHOPPER_PREARM_CHECK, R223. After its driver fault input has been inactive for 1 ms a pre-armed channel's enable goes high. -/
  | chopperPrearmCheck (at_ : At) (ch : Nat)
  /-- CHOPPER_DISARM, R223. A channel with no surplus and low link voltage for 1 s disarms. -/
  | chopperDisarm (at_ : At) (ch : Nat)
  /-- CMD_LOST, R215. A setpoint not refreshed for 3 cycles holds and sets MODE 3. -/
  | cmdLost (at_ : At) (fn : Nat)
  /-- CMD_HOLD_TIMEOUT, R215. No setpoint within FN_CMD_HOLD_T starts the straight-ahead return and the breakaway profile. -/
  | cmdHoldTimeout (at_ : At)
  /-- REJOIN_HOLD_TIMEOUT, R215. In a partitioned module, braking starts breakaway if commands have not returned within T_rejoin. -/
  | rejoinHoldTimeout (at_ : At)
  /-- PARK_TIMEOUT, R216. The computed standstill time after breakaway parks the vehicle. -/
  | parkTimeout (at_ : At)
  /-- STOP_PARK_TIMEOUT, R265. Under STOP, speed at or below FN_SB_VMAX for FN_PARK_T sends every live lane to APPLY and sets PARKED. -/
  | stopParkTimeout (at_ : At)
  /-- SB_REFRESH_TIMEOUT, R208. A missed spring-brake refresh returns the function to hardware mode. -/
  | sbRefreshTimeout (at_ : At)
  /-- SB_TEST_START, R220. In its test period the owning lane opens its vetoes to test its cell switches. -/
  | sbTestStart (at_ : At)
  /-- SB_TEST_STEP, R220. Each FN_SB_TEST_T step checks the sensed switch state and moves to the next switch. -/
  | sbTestStep (at_ : At) (sense : List Bool)
  /-- SLACK_QUIET_TIMEOUT, R214. A wheel at zero clamp for FN_SA_QUIET_T starts its pending adjustment move. -/
  | slackQuietTimeout (at_ : At) (wheel : Nat)
  /-- BRAKE_EST_MISMATCH, R211. Clamp estimates differing beyond tolerance for 50 ms switch to the smaller estimate. -/
  | brakeEstMismatch (at_ : At) (wheel : Nat)
  /-- REF_BLOCK_RX, R168. A received REF block places the authority's references in the latches at the next read point. -/
  | refBlockRx (at_ : At) (from_ : LaneId) (b : Block)
  /-- CMP_BLOCK_RX, R238. A received CMP block updates the disagreement counts of each chain. -/
  | cmpBlockRx (at_ : At) (from_ : LaneId) (b : Block)
  /-- WITHDRAW_BLOCK_RX, R242. A WITHDRAW from a peer counts its fault class and, for the authority, starts duplicate transmission and the claim. -/
  | withdrawBlockRx (at_ : At) (from_ : LaneId) (b : Block)
  /-- AUTH_CLAIM_RX, R242. A claim is accepted from a more senior lane or refused with a counter-claim. -/
  | authClaimRx (at_ : At) (from_ : LaneId) (b : Block)
  /-- AUTH_ACK_RX, R242. The first accepting AUTH_ACK puts the claimant in AUTHORITY and ends duplicate transmission. -/
  | authAckRx (at_ : At) (from_ : LaneId) (b : Block)
  /-- VOTE_OUT_RX, R240. A lane that receives VOTE_OUT enters FAILSILENT. -/
  | voteOutRx (at_ : At) (from_ : LaneId) (b : Block)
  /-- TRIP_NOTICE_RX, R236. A peer's trip notice is recorded without tripping. -/
  | tripNoticeRx (at_ : At) (from_ : LaneId) (b : Block)
  /-- CHOP_NOTICE_RX, R237. A peer's chopper notice asserts REGEN_INH at the next outer period once the link is high. -/
  | chopNoticeRx (at_ : At) (from_ : LaneId) (b : Block)
  /-- CYCLE_BLOCK_RX, R283. A peer's CYCLE block places its cycle start and aligns a lane without its own channel. -/
  | cycleBlockRx (at_ : At) (from_ : LaneId) (b : Block)
  /-- MIRROR_BLOCK_RX, R248. A MIRROR block adds three entries to the mirror set in progress. -/
  | mirrorBlockRx (at_ : At) (from_ : LaneId) (b : Block)
  /-- HEALTH_BLOCK_RX, R250. A peer's HEALTH block updates its health word, module status and fault counts. -/
  | healthBlockRx (at_ : At) (from_ : LaneId) (b : Block)
  /-- RESYNC_REQ_RX, R252. The authority answers a rejoining lane's request with RESYNC_ACK. -/
  | resyncReqRx (at_ : At) (from_ : LaneId) (b : Block)
  /-- RESYNC_ACK_RX, R252. A rejoining lane checks cycle counter, period index and map CRC against the ACK. -/
  | resyncAckRx (at_ : At) (from_ : LaneId) (b : Block)
  /-- RESET_BLOCK_RX, R254. A lane in FAILSILENT receiving RESET restarts through WAKING. -/
  | resetBlockRx (at_ : At) (from_ : LaneId) (b : Block)
  /-- PAIR_POS_RX, R202. A peer's microstep count is compared with the paired stack's own. -/
  | pairPosRx (at_ : At) (from_ : LaneId) (b : Block)
  /-- SETPOINT_BLOCK_RX, R237. A forwarded setpoint is applied as a command received on the lane's own channel. -/
  | setpointBlockRx (at_ : At) (from_ : LaneId) (b : Block)
  /-- INTERLANE_BAD_BLOCK, R21. A block with a bad CRC or sequence is discarded and counted towards link loss. -/
  | interlaneBadBlock (at_ : At) (from_ : LaneId)
  /-- LINK_LOSS_TIMEOUT, R21. No valid block for 20 µs declares the inter-lane link lost. -/
  | linkLossTimeout (at_ : At) (peer : LaneId)
  /-- LINK_RESTORE, R21. 1 ms of clean reception and the resynchronisation handshake restore a lost link. -/
  | linkRestore (at_ : At) (peer : LaneId)
  /-- SPLIT_DECISION, R256. After RED_SPLIT_DECIDE_T cycles a lane with both links lost takes its split state. -/
  | splitDecision (at_ : At)
  /-- FOLLOWER_AGE_TIMEOUT, R257. References older than RED_FOLLOW_AGE_MAX or a silent tap send a follower to ISLAND. -/
  | followerAgeTimeout (at_ : At)
  /-- TAP_FRAME_RX, R257. A frame on the tap is checked and its references written to a follower's latches. -/
  | tapFrameRx (at_ : At) (f : RxFrame)
  /-- ISLAND_GRACE_END, R259. The island grace time ends and a holding island lane goes PASSIVE. -/
  | islandGraceEnd (at_ : At)
  /-- RESYNC_TIMEOUT, R252. A rejoin step timeout restarts the rejoin or ends it with RESYNC_FAIL. -/
  | resyncTimeout (at_ : At)
  /-- JOIN_RAMP_END, R253. A joining set's weight reaches 1 at the end of RED_JOIN_RAMP_T. -/
  | joinRampEnd (at_ : At) (set : LaneId)
  /-- FAILOVER_LATE, R243. A failover that misses the two-outer-period bound raises the event and counts an internal fault. -/
  | failoverLate (at_ : At)
  /-- MODULE_START_SHADOW, R427. A lane in SYNC with no driving peer enters SHADOW once its identity and channel conditions hold. -/
  | moduleStartShadow (at_ : At)
  /-- CLOCK_FAIL, R400. A failed crystal or PLL switches the lane to the backup PLL and into LIMP. -/
  | clockFail (at_ : At) (pll : Bool)
  /-- LIMP_REF_TIMEOUT, R402. A LIMP lane without a REF block for 2 outer periods takes its lane-safe state. -/
  | limpRefTimeout (at_ : At)
  /-- LOCKSTEP_MISMATCH, R381. A compare mismatch trips source 13 and sends the lane to FAILSILENT. -/
  | lockstepMismatch (at_ : At) (cycles : Nat) (group : Nat)
  /-- CYCLE_START, R276. A network cycle starts and the controller updates counters, sync and channel loss, quorum and claims. -/
  | cycleStart (at_ : At)
  /-- STATIC_SLOT_INSERT, R273. The node inserts its own static frame 960 ns after its slot start. -/
  | staticSlotInsert (at_ : At) (slot : Nat)
  /-- DYNAMIC_FRAME_START, R278. A node starts a dynamic frame in an allowed minislot. -/
  | dynamicFrameStart (at_ : At) (slot : Nat) (payload : List Byte)
  /-- NIT_START, R279. In the network idle time the node applies offset and rate correction and exchanges delay frames. -/
  | nitStart (at_ : At)
  /-- ICBEX_RELAY, R271. A received frame is relayed cut-through to the other port. -/
  | icbexRelay (at_ : At) (f : RxFrame)
  /-- ICBEX_FRAME_DROP, R311. A frame failing a receive check is discarded and counted with no effect. -/
  | icbexFrameDrop (at_ : At) (f : RxFrame)
  /-- DATA_FRAME_RX, R303. An accepted DATA frame delivers health, references, status and authority-class content. -/
  | dataFrameRx (at_ : At) (f : RxFrame)
  /-- FIREFLY_RX, R281. An accepted Firefly frame gives the time reference for integration or correction. -/
  | fireflyRx (at_ : At) (f : RxFrame)
  /-- HOST_STATUS_RX, R304. The host's presence map is taken for the split decision. -/
  | hostStatusRx (at_ : At) (f : RxFrame)
  /-- CLAIM_FRAME_RX, R296. A claim frame for a watched slot causes back-off. -/
  | claimFrameRx (at_ : At) (f : RxFrame)
  /-- REJOIN_FRAME_RX, R295. A rejoin notice makes the lower-ranked side integrate on the other time base. -/
  | rejoinFrameRx (at_ : At) (f : RxFrame)
  /-- DELAY_REQ_RX, R302. A delay request on port 1 is answered with a delay response. -/
  | delayReqRx (at_ : At) (f : RxFrame)
  /-- DELAY_RESP_RX, R280. A delay response updates the hop delay and the loop offset. -/
  | delayRespRx (at_ : At) (f : RxFrame)
  /-- LISTEN_TIMEOUT, R286. A cold-start node's listen timeout expires and it enters COLDSTART. -/
  | listenTimeout (at_ : At)
  /-- LINK_DOWN, R275. A lost Icbex link reshapes the loop into head and end nodes. -/
  | linkDown (at_ : At) (port : Nat)
  /-- LINK_UP, R275. A returning Icbex link joins at the next cycle start or starts the rejoin procedure. -/
  | linkUp (at_ : At) (port : Nat)
  /-- SLOT_WATCH_END, R296. A spare slot free for 8 cycles lets the late-comer send its claim. -/
  | slotWatchEnd (at_ : At)
  /-- CLAIM_BACKOFF_END, R296. The random back-off ends and the claim watch restarts. -/
  | claimBackoffEnd (at_ : At)
  /-- CICADA_RECOGNISED, R328. A recognised Cicada pattern is a wake event and may be forwarded. -/
  | cicadaRecognised (at_ : At) (port : Nat)
  /-- LINK_ACTIVITY_WAKE, R328. Link activity for 1 ms is a wake event. -/
  | linkActivityWake (at_ : At) (port : Nat)
  /-- DL_FRAME_SEND, R322. Every 50 µs the lane sends its drive-link frame. -/
  | dlFrameSend (at_ : At) (link : Nat)
  /-- DL_FRAME_RX, R325. An inverter frame is checked for CRC, type and ALIVE and its data taken. -/
  | dlFrameRx (at_ : At) (link : Nat) (bytes : List Byte)
  /-- DL_LOSS_TIMEOUT, R325. No valid frame for NET_DL_LOSS_N frames declares the drive link lost. -/
  | dlLossTimeout (at_ : At) (link : Nat)
  /-- POWER_ON, R399. VSUP rising above 5.5 V starts the AON domain and, above 9.0 V, a cold wake. -/
  | powerOn (at_ : At) (mv : Nat)
  /-- WAKE_EVENT, R410. An armed wake source in STANDBY or SLEEP starts a warm wake. -/
  | wakeEvent (at_ : At) (src : Nat)
  /-- REGULATORS_READY, R411. All regulators report ready and the wake moves to the crystal step. -/
  | regulatorsReady (at_ : At)
  /-- REGULATOR_TIMEOUT, R412. A regulator not ready in time turns every regulator off for a retry or latches WAKE_FAIL_REG. -/
  | regulatorTimeout (at_ : At) (reg : Nat)
  /-- REGULATOR_RETRY, R412. 10 ms after a regulator failure the regulator step is retried. -/
  | regulatorRetry (at_ : At)
  /-- CRYSTAL_READY, R411. The crystal oscillator starts and the wake moves to the PLL step. -/
  | crystalReady (at_ : At)
  /-- CRYSTAL_TIMEOUT, R413. A crystal missing its timeout is retried once, then the lane goes to LIMP. -/
  | crystalTimeout (at_ : At)
  /-- PLL_LOCK, R411. The main PLL locks and the lane enters BOOT. -/
  | pllLock (at_ : At)
  /-- PLL_TIMEOUT, R413. A PLL missing its timeout is retried once, then the lane goes to LIMP. -/
  | pllTimeout (at_ : At)
  /-- OTP_READ_END, R428. The boot ROM has read the OTP, decoded the lifecycle and applied the SRAM repairs. -/
  | otpReadEnd (at_ : At)
  /-- COMPARATOR_TEST_END, R384. The lockstep comparator test ends with pass, or sends the lane to FAILSILENT with its result latched. -/
  | comparatorTestEnd (at_ : At) (sig : W32) (count : Nat) (sigOk : Bool)
  /-- IMAGE_VERIFY_END, R436. The firmware slot and configuration image are verified, or the other slot or defaults are used. -/
  | imageVerifyEnd (at_ : At) (cfg : CfgImage)
  /-- BOOT_HANDOVER, R439. The boot ROM loads the keys, locks the protection unit and jumps to the firmware. -/
  | bootHandover (at_ : At)
  /-- FIRMWARE_START_END, R425. Firmware start completes and the shutdown record chooses quick checks or the full start-up test. -/
  | firmwareStartEnd (at_ : At)
  /-- CHECKS_END, R425. The quick checks or start-up test end and the lane enters SYNC or FAILSILENT. -/
  | checksEnd (at_ : At) (c : Checks)
  /-- BOOT_WATCHDOG, R424. No entry to CHECK within 50 ms of hand-over resets the lane to WAKING. -/
  | bootWatchdog (at_ : At)
  /-- RETENTION_CHECK_END, R411. A warm wake's retention check and comparator test end and the lane goes on to SYNC or a cold wake. -/
  | retentionCheckEnd (at_ : At) (ok : Bool) (cmpOk : Bool)
  /-- MOLT_TRIAL_TIMEOUT, R438. A trial start without a driving state within 30 s fails the trial. -/
  | moltTrialTimeout (at_ : At)
  /-- HOLDUP_CHARGE_TIMEOUT, R415. HOLD below 28.5 V 200 ms after the regulator step raises HOLDUP_LOW. -/
  | holdupChargeTimeout (at_ : At) (mv : Nat)
  /-- IDLE_WAKE_EVENT, R404. In IDLE an event ungates the processor pair for 50 µs. -/
  | idleWakeEvent (at_ : At)
  /-- IDLE_GATE_TIMEOUT, R404. After 50 µs in IDLE the processor pair is gated again. -/
  | idleGateTimeout (at_ : At)
  /-- SUPPLY_SAG, R416. VSUP below 7.0 V connects the hold-up capacitor to the regulators. -/
  | supplySag (at_ : At) (mv : Nat)
  /-- SUPPLY_RECOVER, R416. VSUP above 7.5 V within the save filter returns the lane to VSUP. -/
  | supplyRecover (at_ : At) (mv : Nat)
  /-- SAVE_ENTRY, R416. The save filter expires and the lane enters SAVE, withdraws and begins the Chrysalis write. -/
  | saveEntry (at_ : At) (holdMv : Nat)
  /-- SAVE_IMAGE_DONE, R418. The Chrysalis image is written and verified and the lane goes OFF or wakes. -/
  | saveImageDone (at_ : At)
  /-- SAVE_STOP, R417. HOLD reaching 8 V or 4 ms passing stops an incomplete save with SAVE_FAIL. -/
  | saveStop (at_ : At) (bytes : Nat)
  /-- SAVE_SUPPLY_RETURN, R416. VSUP above 7.5 V for 1 ms during SAVE wakes the lane with source 8. -/
  | saveSupplyReturn (at_ : At)
  /-- PWR_ENTRY_WITHDRAW, R407. At the end of the outer period the entering lane withdraws into CHECK with cause 0. -/
  | pwrEntryWithdraw (at_ : At)
  /-- SHUTDOWN_TEST_END, R441. The shutdown self-test ends and its record is written. -/
  | shutdownTestEnd (at_ : At)
  /-- PWR_ENTRY_PERSIST_END, R407. Persistent state is written and the entry commits with CMD_COMPLETE. -/
  | pwrEntryPersistEnd (at_ : At)
  /-- PWR_POWER_DOWN_END, R409. Power-down completes and a latched wake is replayed or a waiting request continues. -/
  | pwrPowerDownEnd (at_ : At)
  /-- BIST_SECTION_END, R446. A self-test section ends and its signature and count give pass, fail or incomplete. -/
  | bistSectionEnd (at_ : At) (sig : W32) (count : Nat) (sigOk : Bool) (detail : W32)
  /-- BIST_SECTION_TIMEOUT, R442. The step timer ends a section at its maximum time with the count reached. -/
  | bistSectionTimeout (at_ : At) (sig : W32) (count : Nat) (sigOk : Bool) (detail : W32)
  /-- SRAM_ACCESS, R386. A processor or DMA access to SRAM takes effect in phase order with ECC checking. -/
  | sramAccess (at_ : At) (x : SramXfer)
  /-- WEEVIL_PASS_START, R391. Every MEM_WEEVIL_INT a pass starts copying the next region to the save buffer. -/
  | weevilPassStart (at_ : At)
  /-- WEEVIL_PASS_END, R392. A pass ends its test phase, spares or retires failing rows and restores and verifies the region. -/
  | weevilPassEnd (at_ : At) (rows : List Nat) (sigOk : Bool) (count : Nat) (verifyOk : Bool)
  /-- MRAM_SCRUB, R395. The background scrub reads MRAM and rewrites corrected words each MEM_MRAM_SCRUB_T. -/
  | mramScrub (at_ : At) (corrected uncorrectable : Nat)
  /-- MRAM_WRITE_END, R395. An MRAM write is read back, and repeated failures wear and relocate the sector. -/
  | mramWriteEnd (at_ : At) (addr : Nat) (bytes : List Byte) (ok : Bool)
  /-- AON_POWER_LOSS, R412. VSUP falls until the AON domain loses power, clearing the AON latches, ending a lane halted in WAKING and rearming the power-on detector. -/
  | aonPowerLoss (at_ : At)
  /-- TAP_OTP_PROGRAM, R431. A test-access-port write provisions OTP areas and writes the FACTORY marker in BLANK or FACTORY. -/
  | tapOtpProgram (at_ : At) (area : Nat) (bytes : List Byte)
  /-- SPI_READ_TRANSACTION, R341. A host SPI read transaction is checked for CRC, length and address, counted in TXN or refused with its error flag and event. -/
  | spiReadTransaction (at_ : At) (x : SpiXfer)
  /-- GATE_COMPARATOR_TEST, R251. Every 1 s a lane in a driving state tests the comparators of half-bridges in no enabled slot to keep STEST. -/
  | gateComparatorTest (at_ : At) (pass : List Byte)
deriving DecidableEq, Repr

end Sys2Proof
end

