-- ==== Sys2Proof/Decode.lean ====
section
/-! DEFINITION. The commands that words of the operation table spell: the table gives its rows no bits, so no word spells one. -/

namespace Sys2Proof

/-- The command that an nbits-wide word of the table spells; every row has no bits (opcode_table.json), so none. -/
def decodeTableWord (_nbits _w : Nat) : Option Instr := none

end Sys2Proof
end

