-- ==== Sys2Proof/Config.lean ====
section
/-! DEFINITION. The free values: what the spec leaves open, as constants without a body. Nothing is known of any of them. -/

namespace Sys2Proof.Config

/-- What a state object of the mirror map holds (R247). -/
inductive MirObj where
  | other | integrator | generator | steerAngle | clampForce | speed | sbDecision | contact | rtFlags | inhibit | pLim | fDem | faults | speedReq
deriving DecidableEq, Repr, Inhabited

/-- The state object of an object ID in RED_MIRROR_MAP: Jarholt's numbering, which the spec does not state (R247). -/
opaque mirrorObj : Nat → MirObj

/-- A value that the spec leaves open, numbered by the model's own counter (log entry 2). -/
opaque freeNat : Nat → Nat

/-- The angle of the zero vector in radians, which the spec does not state (R143, R151). -/
opaque atan2Zero : F32 → F32 → F32

/-- The limit of the wear counters, which the spec names but does not state (R39, Table RD-4). -/
opaque wearLimit : Nat

/-- The share of its endurance that an MRAM word may use, which the spec names but does not state (R483). -/
opaque mramShare : Nat → Nat

/-- Resistance in Ω of the shunt of a current-sense amplifier, which stands outside the module and which the spec does not state. -/
opaque shunt : Nat → F32

/-- Least significant bit of a sinc3 result in V, by full scale and oversampling ratio; the spec states none (R101, log entry 125). -/
opaque sincLsb : F32 → Nat → F32

end Sys2Proof.Config
end

