-- ==== Sys2Proof/Machine/Cells.lean ====
section
/-! DEFINITION. Byte memories as lists of cells: addresses strictly rising, no listed byte zero, an unlisted address reads as zero (log entry 3). -/

namespace Sys2Proof.Machine

/-- The byte at an address; an unlisted address reads as zero. -/
def cellRead (m : List Host.Cell) (a : Nat) : Byte :=
  match m with
  | [] => 0
  | (k, v) :: r => if k == a then v else cellRead r a

/-- Drops the cell of an address. -/
def cellDrop (a : Nat) : List Host.Cell → List Host.Cell
  | [] => []
  | (k, v) :: r => if k == a then r else (k, v) :: cellDrop a r

/-- Places a byte in address order, in place of a listed one. -/
def cellPut (a : Nat) (v : Byte) : List Host.Cell → List Host.Cell
  | [] => [(a, v)]
  | (k, w) :: r =>
    if a < k then (a, v) :: (k, w) :: r
    else if a == k then (a, v) :: r
    else (k, w) :: cellPut a v r

/-- Writes one byte; writing zero unlists the address. -/
def cellWrite (m : List Host.Cell) (a : Nat) (v : Byte) : List Host.Cell :=
  if v == 0 then cellDrop a m else cellPut a v m

/-- Addresses strictly rise and no listed byte is zero. -/
def cellsOk : List Host.Cell → Bool
  | [] => true
  | [(_, v)] => v != 0
  | (a, v) :: (b, w) :: r => v != 0 && decide (a < b) && cellsOk ((b, w) :: r)

/-- n bytes from an address. -/
def cellBytes (m : List Host.Cell) (a : Nat) : Nat → List Byte
  | 0 => []
  | n + 1 => cellRead m a :: cellBytes m (a + 1) n

/-- Writes bytes from an address. -/
def cellStore (m : List Host.Cell) (a : Nat) : List Byte → List Host.Cell
  | [] => m
  | b :: r => cellStore (cellWrite m a b) (a + 1) r

/-- Writes the enabled bytes from an address. -/
def cellMerge (m : List Host.Cell) (a : Nat) : List (Option Byte) → List Host.Cell
  | [] => m
  | none :: r => cellMerge m (a + 1) r
  | some b :: r => cellMerge (cellWrite m a b) (a + 1) r

end Sys2Proof.Machine
end

