-- ==== Sys2Proof/Machine/Areas/Bist.lean ====
section
/-! DEFINITION. State of the self-test (chapter Shutdown self-test). -/

namespace Sys2Proof.Machine

/-- One result entry (Table ST-3). -/
structure BistEntry where
  sig      : W32 := 0
  count    : Nat := 0
  status   : Nat := 0
  duration : Nat := 0
  detail   : W32 := 0xFFFFFFFF
deriving DecidableEq, Repr

/-- What a BIST record says (Table ST-2); its bytes stand in MRAM. -/
structure BistRec where
  kind    : Nat := 0
  result  : Nat := 2
  boot    : Nat := 0
  stamp   : Nat := 0
  cycle   : Nat := 0
  cycleOk : Bool := false
  sleep   : Bool := false
  cfg     : W32 := 0
  fw      : W32 := 0
  tmax    : Int := 0
  spares  : Nat := 32
  results : List BistEntry := List.replicate 16 {}
deriving DecidableEq, Repr

/-- A running test: kind (1 shutdown, 2 start-up, 3 host), section, instants, sections left, expected count. -/
structure BistRun where
  /-- 1 shutdown, 2 start-up, 3 host (R447) -/
  kind     : Nat
  /-- section that runs (R442) -/
  section_ : Nat
  /-- its start (R442) -/
  startAt  : Nat
  /-- sections still to run (R441, R453) -/
  left     : List Nat
  /-- sections that the record must show passed (R447) -/
  want     : List Nat
  /-- expected completion count (R446) -/
  expected : Nat
  /-- maximum time of the section in counts (R442) -/
  limit    : Nat
  /-- BIST_RUN or BIST_SECTION that awaits its completion (R453) -/
  key      : Option CmdKey
  /-- results so far (R446) -/
  results  : List BistEntry := List.replicate 16 {}
  /-- half-bridges under test (R453) -/
  hbs      : W16 := 0
  /-- highest die temperature so far (R447) -/
  tmax     : F32 := 0
  /-- the test was aborted (R451) -/
  aborted  : Bool := false
deriving DecidableEq, Repr

/-- Self-test state of one lane. -/
structure Bist where
  /-- the running test (R441, R453) -/
  run      : Option BistRun := none
  /-- place of the next record in the ring of 120 of the BIST record area; the records stand in MRAM (R448) -/
  ringAt   : Nat := 0
  /-- failed or short comparator test latched in AON: signature, count, status, start count (R384) -/
  latch    : Option (W32 × Nat × Nat × Nat) := none
  /-- result of the last comparator test of this start (R383, R384) -/
  cmp      : BistEntry := {}
  /-- quick checks are due or running: 1 quick, 2 full start-up test (R425) -/
  plan     : Nat := 0
  /-- sections of a failed shutdown record still to pass (R450) -/
  retest   : List Nat := []
  /-- the lane enters FAILSILENT after the checks with this section's status (R450) -/
  bad      : Option (Nat × Nat) := none
  /-- the failed shutdown record has been retested with success (R450) -/
  cleared  : Bool := false
deriving DecidableEq, Repr

end Sys2Proof.Machine
end

