-- ==== Sys2Proof/Machine/Areas/Drive.lean ====
section
/-! DEFINITION. State of the gate drive (chapter Gate drive) and of the PWM unit with its trips (chapter PWM timebases and trips). -/

namespace Sys2Proof.Machine

/-- One gate channel: its codes in use, the counts of R38, and its turn-off under a protection (R41, R54). -/
structure GateCh where
  codeOn    : Nat := 32
  codeOff   : Nat := 32
  pinnedOn  : Nat := 0
  pinnedOff : Nat := 0
  /-- a VDS fault of this switch is latched: it turns off at the soft-off code (R41, R81) -/
  soft      : Bool := false
  /-- sink code of the last turn-off by a VDS fault, a trip or the double-drive latch (R41, R54, R81) -/
  sink      : Option Nat := none
deriving DecidableEq, Repr

/-- The VDS latch of a half-bridge (R50, R51). -/
inductive VdsLatch where
  | clear
  | latched (t : Nat)
  | untilPowerCycle
deriving DecidableEq, Repr

/-- The both-on interlock of a half-bridge (R53). -/
inductive Interlock where
  | clear
  | waitBothOff
  | waitPeriod
deriving DecidableEq, Repr

/-- One half-bridge driver. -/
structure HalfBridge where
  /-- VDS latch (R50, R51) -/
  vds          : VdsLatch := .clear
  /-- instants of the automatic clears (R51) -/
  autoClears   : List Nat := []
  /-- GD_VDS_RETRY as the last VDS fault found it: a new value acts from the next fault (R51, Table GD-7) -/
  vdsRetry     : Nat := 1
  /-- an automatic clear of the VDS latch awaits the next period start (R51) -/
  vdsHold      : Bool := false
  /-- latched off until power cycle by the gate-voltage comparators (R54) -/
  doubleDrive  : Bool := false
  /-- both-on interlock (R53) -/
  interlock    : Interlock := .clear
  /-- bootstrap below its UVLO threshold (R45) -/
  bstUv        : Bool := false
  /-- high side held off until the next period start or pulse after a bootstrap UVLO (R45) -/
  bstHold      : Bool := false
  /-- a refresh pulse is due in the next period (R46) -/
  refreshDue   : Bool := false
  /-- a trip has kept the refresh pulse waiting: it is inserted only if the bootstrap still asks for it (Table PW-11) -/
  refreshTrip  : Bool := false
  /-- this period carries a refresh pulse (R46, R47) -/
  refreshing   : Bool := false
  /-- the instant at which a both-on request was turned off (R53) -/
  shootAt      : Nat := 0
  /-- the high side is free again after a bootstrap UVLO since this instant (R45) -/
  bstAt        : Nat := 0
  /-- the bootstrap last rose above its rising UVLO threshold at this instant (R45, R46) -/
  bstRose      : Nat := 0
  /-- the low side is held on for the precharge of R48: start and end of its command, in fine steps -/
  precharge    : Option (Nat × Nat) := none
  /-- the first high-side pulse waits for the rising UVLO threshold (R48) -/
  waitBst      : Bool := false
  /-- a gate self-test holds the half-bridge (R58) -/
  underTest    : Bool := false
  /-- pins DPUL and DEN (R55) -/
  dpul         : Bool := false
  /-- DEN pin (R55) -/
  den          : Bool := false
  /-- level of DPUL that the driver follows: pulses shorter than 20 ns are ignored (R55) -/
  dpulOk       : Bool := false
  /-- instant of the last edge at the pin DPUL (R55) -/
  dpulAt       : Nat := 0
  /-- instant from which the followed level counts: its acceptance, or the rise of DEN (R55) -/
  dirAt        : Nat := 0
deriving DecidableEq, Repr

/-- A running comparator self-test (R58, R59). -/
structure GdTest where
  mask  : W16
  start : Nat
deriving DecidableEq, Repr

/-- Gate drive of one lane. -/
structure Gd where
  /-- the 32 gate channels (R34) -/
  ch        : List GateCh := List.replicate 32 {}
  /-- the 16 half-bridge drivers (R9, R50) -/
  hb        : List HalfBridge := List.replicate 16 {}
  /-- VGD below its UVLO (R43) -/
  vgdUv     : Bool := false
  /-- VGD above its overvoltage threshold (R43) -/
  vgdOv     : Bool := false
  /-- timebases (bit n) that still await the period start at which drive resumes after VGD (R43) -/
  vgdHold   : W16 := 0
  /-- the running comparator self-test (R58) -/
  test      : Option GdTest := none
  /-- ADAPT_LIMIT events counted into the wear counters of the health word (R39) -/
  wear      : Nat := 0
  /-- GD_PWR_EST of the last accepted commit, mW (R60) -/
  pwrEst    : Nat := 0
  /-- end of the latest background comparator test that passed, for STEST (R251) -/
  lastCmpTest : Nat := 0
deriving DecidableEq, Repr

/-- One timebase of the PWM unit. -/
structure TimeBase where
  /-- instant of the last period start (R65) -/
  started    : Nat := 0
  /-- the shadow burst is complete (R67) -/
  ready      : Bool := false
  /-- a burst has begun and not finished (R67) -/
  burst      : Bool := false
  /-- instant at which the last burst was complete (R68) -/
  readyAt    : Nat := 0
  /-- pending and running delay-line map: taps per tick (R70) -/
  pendingMap : Option Nat := none
  /-- taps per tick of the map in force (R70) -/
  mapTaps    : Nat := 64
  /-- coarse placement in force (R71) -/
  coarse     : Bool := false
  /-- phase error still to be removed, in ticks (R65) -/
  syncErr    : Int := 0
  /-- carries are cleared at the next period start: a change of period or policy (R74) -/
  carryClear : Bool := false
  /-- count of periods since reset (R67) -/
  periods    : Nat := 0
deriving DecidableEq, Repr

/-- What a channel's slot commands since the last load point: nothing, the active short on the low sides, a probe on the low sides up to the valley, or the pulses (R147, R148, R151). -/
inductive ChAct where
  | off | short | probe | run
deriving DecidableEq, Repr

/-- One PWM channel; on-intervals and carries in fine steps of 39.0625 ps (R66). -/
structure PwmCh where
  /-- active on-interval (R67) -/
  tOn      : Nat := 0
  /-- shadow on-interval (R67) -/
  shadow   : Nat := 0
  /-- on-interval that the present period shows after the short-pulse policy (R73, R74) -/
  emitted  : Nat := 0
  /-- high carry (R74) -/
  carryHi  : Nat := 0
  /-- low carry (R74) -/
  carryLo  : Nat := 0
  /-- the channel is held at its safe level until it resumes under R83 -/
  tripped  : Bool := false
  /-- the first period after a resume (R83) -/
  resumed  : Bool := false
  /-- what the slot commands since the last load point (R147) -/
  act      : ChAct := .off
  /-- the last load point and the period it began, in fine steps -/
  loadAt   : Nat := 0
  frame    : Nat := 0
  /-- the side commanded when the last load point came, high or low, and since when; none for neither -/
  side     : Option Bool := none
  sideAt   : Nat := 0
  /-- output began anew at this instant: no earlier edge counts (R51, R53, R83) -/
  cutAt    : Nat := 0
  /-- length of the refresh pulse that the period's conduction interval begins with, 0 for none (R46) -/
  refresh  : Nat := 0
  /-- `emitted` is the remainder of a pulse from a valley on (R83) -/
  half     : Bool := false
  /-- safe level held, kept until the channel resumes (R83), since when, and which switches were on then (R80) -/
  level    : Nat := 0
  levelAt  : Nat := 0
  onHigh   : Option Nat := none
  onLow    : Option Nat := none
deriving DecidableEq, Repr

/-- One extra compare register: active and shadow trigger word and destination (R69). -/
structure Compare where
  pos      : W32 := 0
  dest     : Nat := 0
deriving DecidableEq, Repr

/-- One trip source (R77 to R84, Table PW-8). -/
structure TripSrc where
  st       : TripSt := .armed
  /-- the pin level of sources 0 to 7 (high = true), and the active input of the others -/
  pin      : Bool := false
  /-- the input is active as the latch judges it -/
  input    : Bool := false
  count    : W32 := 0
  /-- a burst is open (R82) -/
  burst    : Bool := false
  /-- covered timebases with a period start seen since ARMED, and with a complete clean period (R82) -/
  seen     : W16 := 0
  clean    : W16 := 0
deriving DecidableEq, Repr

/-- PWM unit and trips of one lane. -/
structure Pwm where
  /-- the 8 timebases (R62) -/
  tb         : List TimeBase := List.replicate 8 {}
  /-- the 16 channels (R64) -/
  ch         : List PwmCh := List.replicate 16 {}
  /-- the 32 extra compare registers (R69) -/
  cmp        : List Compare := List.replicate 32 {}
  /-- the pins of sources 0 to 7 stand inactive under the reset polarity (R77) -/
  src        : List TripSrc := List.replicate 8 ({ pin := true } : TripSrc) ++ List.replicate 6 ({ pin := false } : TripSrc)
  /-- failed delay-line calibrations in a row (R70, R71) -/
  calBad     : Nat := 0
  /-- coarse placement after three failed calibrations (R71) -/
  coarseOnly : Bool := false
  /-- taps counted by the last good calibration (R70) -/
  calTaps    : Nat := 0
  /-- instant of the last calibration (R70) -/
  calAt      : Nat := 0
  /-- debug halt in force (R85) -/
  halted     : Bool := false
  /-- instant at which the halt began (R85, R86) -/
  haltAt     : Nat := 0
  /-- the halt froze the counters (PWM_HALT_ACTION = 0, R85) -/
  frozen     : Bool := false
  /-- TRIP_FORCE holds source 12 (Table PW-5) -/
  force      : Bool := false
  /-- the halt tripped source 12 on all channels (PWM_HALT_ACTION = 1, R85) -/
  haltTrip   : Bool := false
deriving DecidableEq, Repr

end Sys2Proof.Machine
end

