-- ==== Sys2Proof/Machine/Areas/Memory.lean ====
section
/-! DEFINITION. State of the processor pair, the SRAM, the Weevil pass, the MRAM and the fault log (chapter Lane processor and memory). -/

namespace Sys2Proof.Machine

/-- The two sides of the SRAM port (R386). -/
inductive Side where
  | processor | dma
deriving DecidableEq, Repr

/-- The write part of a partial write, due in the same phase of the next cycle (R386). -/
structure Partial where
  side   : Side
  cycle  : Nat
  addr   : Nat
  bytes  : List (Option Byte)
deriving DecidableEq, Repr

/-- A Weevil pass runs or not; its phases follow one another in slots that DMA leaves free (R391, Table CX-4). -/
inductive WPhase where
  | idle | running
deriving DecidableEq, Repr

/-- Weevil state (R391 to R393). -/
structure Weevil where
  phase   : WPhase := .idle
  region  : Nat := 0
  startAt : Nat := 0
  sweeps  : Nat := 0
  lastAt  : Nat := 0
  /-- the pass repeats its region at the next start -/
  again   : Bool := false
  /-- the region whose turn is next in the sweep -/
  next    : Nat := 0
  /-- regions to test out of turn -/
  urgent  : List Nat := []
  paused  : Bool := false
deriving DecidableEq, Repr

/-- One fault-log entry (Table CX-6). -/
structure LogEntry where
  stamp : Nat := 0
  code  : Nat := 0
  st    : LaneSt := .off
  lane  : Nat := 0
  pin   : Bool := false
  aon   : Bool := false
  arg   : W32 := 0
  entry : Nat := 0
  boot  : Nat := 0
  cycle : Nat := 0
deriving DecidableEq, Repr

/-- An access to MRAM under write-verify (R395): sector and consecutive failures. -/
structure Wear where
  sector : Nat
  fails  : Nat
deriving DecidableEq, Repr

/-- Memory of one lane. -/
structure Mem where
  /-- SRAM array, byte by byte (R386) -/
  sram     : List Host.Cell := []
  /-- partial-word writes that still merge in the array (R386) -/
  partials : List Partial := []
  /-- last word read by the processor and the DMA side, with the byte order of the array (R386) -/
  rdProc   : W64 := 0
  /-- last word read by the DMA side (R386) -/
  rdDma    : W64 := 0
  /-- the last processor read met an uncorrectable word (R387, R388) -/
  errProc  : Bool := false
  /-- the last DMA read met an uncorrectable word (R387, R388) -/
  errDma   : Bool := false
  /-- rows hard-failed under R387 and not yet replaced -/
  hard     : List Nat := []
  /-- spare rows left (R389) -/
  spares   : Nat := 32
  /-- field repairs: rows replaced, in order (R389) -/
  repairs  : List Nat := []
  /-- retired regions (R390) -/
  retired  : List Nat := []
  /-- capacity is reduced (R390) -/
  cap      : Bool := false
  /-- a memory wear limit is reached (R395) -/
  wear     : Bool := false
  /-- counters of corrected and uncorrectable words (R387) -/
  ecc      : List W32 := [0, 0, 0, 0]
  /-- the Weevil pass (R391, R393) -/
  weevil   : Weevil := {}
  /-- MRAM array, byte by byte (R394) -/
  mram     : List Host.Cell := []
  /-- MRAM words of 8 bytes with the count of their writes, by word (R483) -/
  writes   : List (Nat × Nat) := []
  /-- write-verify failures per sector (R395) -/
  fails    : List Wear := []
  /-- reserve sectors used (R395) -/
  reserve  : Nat := 0
  /-- relocated sectors: sector and its reserve sector (R395) -/
  reloc    : List (Nat × Nat) := []
  /-- log spares used (R396) -/
  logSpare : Nat := 0
  /-- worn sectors that no reserve replaces (R395) -/
  dead     : List Nat := []
  /-- pinned entries that stand in spare sectors of the fault log, oldest first (R396) -/
  logKept  : List LogEntry := []
  /-- image slot 0 is worn (R395) -/
  worn0    : Bool := false
  /-- image slot 1 is worn (R395) -/
  worn1    : Bool := false
  /-- writes dropped for want of a writable copy (R395) -/
  dropped  : Nat := 0
  /-- last MRAM scrub (R395) -/
  scrubAt  : Nat := 0
  /-- fault-log entries not yet in MRAM (R418), and the ring in MRAM, oldest first -/
  logBuf   : List LogEntry := []
  /-- entries written to MRAM (R396) -/
  log      : List LogEntry := []
  /-- next entry number (R396) -/
  logNext  : Nat := 0
  /-- pinning has ended: the log is a ring of fixed size (R396) -/
  logRing  : Bool := false
  /-- data sectors in use (R396) -/
  logSectors : Nat := 256
  /-- injections of the last comparator test and its pass flag (R384) -/
  lsCount  : Nat := 0
  /-- the SHA-256 of the verified image in the retention store (Table PS-4, E4); none outside SLEEP -/
  retSha   : List Byte := []
  /-- the CRC-32 of that image in the retention store (Table PS-6); none outside SLEEP -/
  retCrc   : Option W32 := none
  /-- the comparator test of this start passed (R383, R384) -/
  lsPass   : Bool := false
  /-- cycle count and group latched by the last mismatch (R381) -/
  lsLatch  : Option (Nat × Nat) := none
  /-- bytes of learned calibration that differ between the two copies (R425) -/
  calBad   : Bool := false
deriving DecidableEq, Repr

end Sys2Proof.Machine
end

