-- ==== Sys2Proof/Machine/Areas/Network.lean ====
section
/-! DEFINITION. State of the Icbex controller, the frames, CAN, the drive links and the Cicada detectors (chapters Icbex network timing; Frames, authentication and the other links). -/

namespace Sys2Proof.Machine

/-- Controller states (Table NT-4). -/
inductive NetSt where
  | offline | listen | coldstart | integrate | synced | passive
deriving DecidableEq, Repr

/-- The code of a controller state in NET_STATE. -/
def NetSt.code : NetSt → Nat
  | .offline => 0 | .listen => 1 | .coldstart => 2 | .integrate => 3 | .synced => 4 | .passive => 5

/-- What a port sends, as its guardian tells it apart (Table NT-6). -/
inductive TxKind where
  | static_ | dynamic | linkLocal | relayed
deriving DecidableEq, Repr

/-- A frame as sent: header, padded payload, tag, and the port it leaves on. -/
structure TxFrame where
  /-- port (R271) -/
  port    : Nat := 1
  /-- kind of transmission (Table NT-6) -/
  kind    : TxKind := .static_
  /-- instant at which it is cut before its end: receivers discard it by its FCS (R272) -/
  cutAt   : Option Nat := none
  /-- 14-byte MAC header; none on Icbex-1 (R300) -/
  mac     : List Byte := []
  /-- 12-byte header (R301) -/
  hdr     : List Byte := []
  /-- payload with its padding (R300) -/
  payload : List Byte := []
  /-- tag (R307) -/
  tag     : W32 := 0
  /-- FCS, or CRC-16 on Icbex-1 (R300, R316) -/
  fcs     : W32 := 0
  /-- instant of insertion (R273), or at which the relay passes the frame's SFD on (R271) -/
  t       : Nat := 0
deriving DecidableEq, Repr

/-- Time on the wire in 2.5 ns counts, preamble and gap included: (payload + 54) × 80 ns (R277, R278). -/
def wireTime (payload : List Byte) : Nat := (payload.length + 54) * 32

/-- End of a frame on its port: its own, or the cut. -/
def TxFrame.stop (f : TxFrame) : Nat := let e := f.t + wireTime f.payload; match f.cutAt with | some c => min c e | none => e

/-- End of its signal: the gap of 0.96 µs in the wire time is silence (R277). -/
def TxFrame.signalEnd (f : TxFrame) : Nat := let e := f.t + wireTime f.payload - 384; match f.cutAt with | some c => min c e | none => e

/-- The frame is cut at an instant (R272, R289). -/
def TxFrame.cutBy (f : TxFrame) (t : Nat) : TxFrame := { f with cutAt := some (match f.cutAt with | some c => min c t | none => t) }

/-- Slot guardian of one transmitting port: what it has learnt from Firefly frames, at the 20 ns of its oscillator (R289). -/
structure Guard where
  /-- cycle start by the last Firefly frame -/
  at_   : Nat := 0
  /-- Firefly frames seen -/
  views : Nat := 0
  /-- its last eight measurements of R, newest first -/
  ret   : List Nat := []
  /-- the last cold-start Firefly frame that it passed (Table NT-6) -/
  csAt  : Option Nat := none
deriving DecidableEq, Repr

/-- The tapped channel as one tap port follows it (R268): counter and cycle start by the last Firefly frame, and the dynamic frames accepted per sender in one cycle. -/
structure TapTime where
  known : Bool := false
  cycle : Nat := 0
  base  : Nat := 0
  /-- cycle that the counts belong to (R313) -/
  dynIn : Nat := 0
  /-- sender and frames (R313) -/
  dyn   : List (Nat × Nat) := []
deriving DecidableEq, Repr

/-- Seven receive counters of one sender (R311). -/
structure RxCnt where
  fcs       : W32 := 0
  malformed : W32 := 0
  window    : W32 := 0
  auth      : W32 := 0
  replay    : W32 := 0
  flood     : W32 := 0
  accepted  : W32 := 0
deriving DecidableEq, Repr

/-- Claim of a spare slot by a late-comer (R296). -/
inductive ClaimSt where
  | none | watch | sent | backoff | owned
deriving DecidableEq, Repr

/-- One own static slot (R297, R306). -/
structure OwnSlot where
  host    : Bool := false
  hostNext : Option Bool := none
  app     : List Byte := []
  fresh   : Bool := false
  age     : Nat := 0
  stale   : Nat := 0
deriving DecidableEq, Repr

/-- Value of a received slot: payload and age (R306). -/
structure RxSlot where
  slot    : Nat
  node    : Nat
  payload : List Byte
  age     : Nat
  cycle   : Nat
deriving DecidableEq, Repr

/-- A channel as this lane holds it: epoch, pending epoch, accepted freshness and loss by authentication. -/
structure Chan where
  /-- epoch in use (R309) -/
  epoch     : Nat := 0
  /-- epoch waiting for its first cycle (R309) -/
  next      : Option (Nat × Nat × Option CmdKey) := none
  /-- end cycle of the grace after a change: epochs e and e + 1 accepted until then (R309) -/
  graceTo   : Nat := 0
  /-- epoch still accepted until the grace ends (R309) -/
  graceOld  : Option Nat := none
  /-- freshness accepted in this cycle and the one before: counter, slot, node, type (R308) -/
  seen      : List (Nat × Nat × Nat × Nat) := []
  /-- static frames that passed step 1 and that failed steps 4 to 6 in this cycle (R312) -/
  statics   : Nat := 0
  /-- authentication failures of this cycle (R312) -/
  fails     : Nat := 0
  /-- cycles in a row with too many failures (R312) -/
  failRun   : Nat := 0
  /-- good cycles in a row (R312) -/
  okRun     : Nat := 0
  /-- the channel is lost by the authentication rule (R312) -/
  lostAuth  : Bool := false
deriving DecidableEq, Repr

/-- Icbex controller of one lane. -/
structure Net where
  /-- controller state (R284) -/
  st        : NetSt := .offline
  /-- 48-bit cycle counter (R308, R310) -/
  cycle     : W48 := 0
  /-- the cycle counter is known (R288) -/
  known     : Bool := false
  /-- start of the present cycle in local time, and the start due next (R273) -/
  cycleAt   : Nat := 0
  /-- start due next (R273, R279) -/
  nextAt    : Nat := 0
  /-- start of listening (R286) -/
  listenAt  : Nat := 0
  /-- cycle from which a lone cold start counts (R286) -/
  csFrom    : Nat := 0
  /-- NET_COLDSTART that awaits its completion (R285, R363) -/
  csKey     : Option CmdKey := none
  /-- the master contends by command (R285) -/
  contend   : Bool := false
  /-- this node is the source of its own time base (R281, R293) -/
  acting    : Bool := false
  /-- parameter values taken at the last entry to LISTEN (R299) -/
  latched   : List PVal := []
  /-- step of R288 reached in INTEGRATE -/
  step      : Nat := 0
  /-- cycle of the present integration step (R288) -/
  stepCycle : Nat := 0
  /-- offset of the last Firefly frame, 2.5 ns counts (R279) -/
  delta     : Int := 0
  /-- rate correction, ppb (R281) -/
  rate      : Int := 0
  /-- lowest valid Firefly slot of this cycle and the cycle start that its frame shows (R281) -/
  ffNow     : Option Nat := none
  /-- cycle start that this frame shows (R281) -/
  ffCur     : Nat := 0
  /-- cycle start that the frame used in the cycle before showed (R281) -/
  ffBase    : Nat := 0
  /-- offset of a Firefly frame in the diagnostic window alone (R281) -/
  ffDiag    : Option Int := none
  /-- the last Firefly frame of a higher slot heard in step 1: slot, node, counter and cycle start (R288) -/
  cand      : Option (Nat × Nat × Nat × Nat) := none
  /-- the same of the last cycle with such a frame (R281) -/
  ffLast    : Option Nat := none
  /-- slot rank of the source in use (R281) -/
  ffSrc     : Nat := 0
  /-- node of that source (R281) -/
  ffNode    : Nat := 0
  /-- cycles without a Firefly measurement (R290) -/
  ffMiss    : Nat := 0
  /-- Firefly slots heard in this cycle (R281, R293) -/
  ffSlots   : List Nat := []
  /-- cycle whose NIT has been taken (R279) -/
  nitCycle  : Option Nat := none
  /-- last eight return delays, newest first (R274) -/
  retR      : List Nat := []
  /-- they are those of a closed ring (R274) -/
  retRing   : Bool := false
  /-- stored ring delay L (R274) -/
  ringL     : Nat := 0
  /-- the phase was adopted from a frame on the return pass before R was known: it still lies R late (R273, R274) -/
  provis    : Bool := false
  /-- counter in use when the node left its time base for a higher-ranked one (R295) -/
  adoptOld  : Option Nat := none
  /-- link delay exchanges, newest first, at most 64 (R280) -/
  dly       : List Int := []
  /-- they are stored ones that no exchange of this start has checked (R280) -/
  dlyOld    : Bool := false
  /-- number of the last delay request (R280) -/
  reqNo     : Nat := 0
  /-- instant of the last delay request (R280) -/
  reqAt     : Nat := 0
  /-- instant at which the next delay request is due (R279) -/
  reqDue    : Option Nat := none
  /-- loop offset A (R280) -/
  offA      : Int := 0
  /-- cycles in which that offset held (R280) -/
  aSame     : Nat := 0
  /-- network time is valid (R282) -/
  timeOk    : Bool := false
  /-- nodes heard in this cycle (R292) -/
  heard     : List Nat := []
  /-- static slots heard in this cycle (R292, R296) -/
  heardSlots : List Nat := []
  /-- the channel is PARTITIONED (R292) -/
  part      : Bool := false
  /-- cycles in a row without quorum (R292) -/
  partBad   : Nat := 0
  /-- cycles in a row with quorum (R292) -/
  partGood  : Nat := 0
  /-- this node is the timekeeper of its partition (R293) -/
  keeper    : Bool := false
  /-- cycles out of SYNCED (R291) -/
  outRun    : Nat := 0
  /-- the channel counts as lost (R291) -/
  chLost    : Bool := false
  /-- instants at which the guardian cut this node's own frames (R289) -/
  cuts      : List Nat := []
  /-- the guardians of ports 0 and 1 (R289) -/
  grd       : List Guard := [{}, {}]
  /-- their schedule, taken at configuration load (R289) -/
  grdCfg    : List PVal := []
  /-- CRC of the configuration under which this master has yielded (R287) -/
  yielded   : Option W32 := none
  /-- link of port 0 (R275) -/
  link0     : Bool := false
  /-- link of port 1 (R275) -/
  link1     : Bool := false
  /-- a link that came up and is not yet relayed across, and whether its other side runs this time base (R275, R295) -/
  joinPort  : Option Nat := none
  /-- the joining link may take traffic (R275) -/
  joinOk    : Bool := false
  /-- a rejoin notice came or went out: the node integrates anew at the next cycle start (R295) -/
  rejoin    : Bool := false
  /-- this junction node's rejoin notice waits for its minislot (R295) -/
  notice    : Bool := false
  /-- claim of a spare slot (R296) -/
  claim     : ClaimSt := .none
  /-- that slot (R296) -/
  claimSlot : Nat := 0
  /-- cycles watched, or cycles of back-off left (R296) -/
  claimCnt  : Nat := 0
  /-- a rival claimed the slot (R296) -/
  claimRival : Bool := false
  /-- claims of other nodes: slot, node, and cycles for which the slot stayed empty (R296) -/
  claimed   : List (Nat × Nat × Nat) := []
  /-- the 4 own static slots (R297, R306) -/
  own       : List OwnSlot := List.replicate 4 {}
  /-- own static slots inserted in this cycle (R272) -/
  sent      : List Nat := []
  /-- last accepted static frame per slot (R306) -/
  rx        : List RxSlot := []
  /-- dynamic frames sent in this cycle (R278) -/
  txDyn     : Nat := 0
  /-- dynamic airtime in this cycle, ns (R278) -/
  txAir     : Nat := 0
  /-- frames sent, oldest first (R273) -/
  tx        : List TxFrame := []
  /-- dynamic frames accepted per sender in this cycle (R313) -/
  dynRx     : List (Nat × Nat) := []
  /-- frames relayed (R271) -/
  relayed   : Nat := 0
  /-- own channel and tapped channel (R309) -/
  chan      : List Chan := [{}, {}]
  /-- receive counters per node, with instance 64 for the rest (R312) -/
  cnt       : List RxCnt := List.replicate 65 {}
  /-- check, sender and instant of the last event of each (R311) -/
  evAt      : List (Nat × Nat × Nat) := []
  /-- stored high-water mark (R310) -/
  hwm       : Nat := 0
  /-- the tapped channel on ports 2 and 3 (R268) -/
  tap       : List TapTime := [{}, {}]
  /-- freshness accepted on the tap: port, counter, slot, node, type (R308) -/
  tapSeen   : List (Nat × Nat × Nat × Nat × Nat) := []
  /-- counter and start of a cycle that a CYCLE block gave while the controller integrates (R283) -/
  given     : Option (Nat × Nat) := none
  /-- cycle start reported by each lane (R283, R237) -/
  peerStart : List (Option Nat) := [none, none, none]
  /-- cycle counter reported by each lane (R237) -/
  peerCyc   : List Nat := [0, 0, 0]
  /-- that lane reports SYNCED (R237) -/
  peerSync  : List Bool := [false, false, false]
  /-- the skew between channels has been reported (R283) -/
  skewTold  : Bool := false
deriving DecidableEq, Repr

/-- FRESH of one host and identifier kind on CAN (R319): the last value accepted, or after a restart the highest value that could have been; the accepts; the value stored in MRAM. -/
structure CanFresh where
  host  : Nat
  kind  : Nat
  last  : Nat
  count : Nat
  stored : Nat
deriving DecidableEq, Repr

/-- One CAN controller (R317 to R321). -/
structure Can where
  off      : Bool := false
  busOff   : List Nat := []
  fresh    : List CanFresh := []
  txFresh  : W32 := 0
  txStored : W32 := 0
  epoch    : Nat := 0
  rate     : List (Nat × Nat) := []
  flooded  : Nat := 0
  lastMult : Option Nat := none
  tx       : List (Nat × List Byte) := []
  msgId    : Nat := 0
deriving DecidableEq, Repr

/-- One drive link (R322 to R326). -/
structure DLink where
  txAlive : Byte := 0
  rxAlive : Option Nat := none
  missed  : Nat := 0
  good    : Nat := 0
  lost    : Bool := true
  ever    : Bool := false
  lastAt  : Nat := 0
  errAt   : Option Nat := none
  frame   : Option Nat := none
  pInv    : F32 := 0
  pAcc    : F32 := 0
  pAvail  : F32 := 0
  wMot    : F32 := 0
  vLink   : F32 := 0
  ackSeq  : W16 := 0
  invInh  : Bool := false
  invFault : Bool := false
  tx      : List (List Byte) := []
deriving DecidableEq, Repr

/-- CAN, drive links and Cicada detectors of one lane. -/
structure Ports where
  /-- the 2 CAN controllers (R317) -/
  can    : List Can := [{}, {}]
  /-- the 2 drive links (R322) -/
  dl     : List DLink := [{}, {}]
  /-- last recognised Cicada pattern per own port (R328) -/
  cicAt  : List (Option Nat) := [none, none]
  /-- patterns sent: port and instant (R327) -/
  cicTx  : List (Nat × Nat) := []
  /-- wake patterns are forwarded to the other port (R328) -/
  fwd    : Bool := true
deriving DecidableEq, Repr

end Sys2Proof.Machine
end

