-- ==== Sys2Proof/Machine/Areas/Position.lean ====
section
/-! DEFINITION. State of position feedback (chapter Position feedback). -/

namespace Sys2Proof.Machine

/-- Snapshot of a Hall group (R111). -/
structure HallSnap where
  sector : Nat := 0
  fwd    : Bool := true
  speed  : F32 := 0
  stamp  : Nat := 0
  at_    : Nat := 0
  valid  : Bool := false
  /-- net transitions since enable -/
  net    : Int := 0
deriving DecidableEq, Repr

/-- What a Hall group has accepted so far (R106, R107, R110). -/
structure HallCore where
  code      : Nat := 0
  sector    : Nat := 0
  fwd       : Bool := true
  lastT     : Option Nat := none
  /-- last transition intervals, newest first, at most 6, with their directions -/
  ivals     : List (Nat × Bool) := []
  /-- the last transition interval, a skip's included (R110) -/
  lastIval  : Option Nat := none
  /-- 100 ms passed without a transition (R110) -/
  stopped   : Bool := true
  legal     : Bool := false
  /-- net transitions since enable (R127) -/
  net       : Int := 0
deriving DecidableEq, Repr

/-- One Hall group (R106 to R111). -/
structure Hall extends HallCore where
  /-- the group before the transition accepted last, and the instant of that acceptance (R111) -/
  before    : HallCore := {}
  accAt     : Nat := 0
  illegalAt : Option Nat := none
  /-- instants of HALL_ILLEGAL within the last second -/
  illTimes  : List Nat := []
  /-- the last 64 transitions, newest first: a skip or not (R109) -/
  skips     : List Bool := []
  lost      : Bool := false
  snap      : HallSnap := {}
deriving DecidableEq, Repr

/-- Snapshot of an incremental input (R112). -/
structure EncSnap where
  count : Int := 0
  stamp : Nat := 0
  at_   : Nat := 0
  valid : Bool := false
deriving DecidableEq, Repr

/-- One incremental A/B/Z input (R112, R113). -/
structure Enc where
  a         : Bool := false
  b         : Bool := false
  count     : Int := 0
  fwd       : Bool := true
  lastT     : Nat := 0
  quadTimes : List Nat := []
  /-- a quadrature error since the last snapshot (Table PF-7) -/
  quadNew   : Bool := false
  /-- count and direction at the last rising edge of Z -/
  zCap      : Option (Int × Bool) := none
  zSeen     : Bool := false
  /-- mode 2: the first Z edge since the slot enable is still due -/
  zFirst    : Bool := false
  /-- instant of the last rising edge of Z -/
  zAt       : Option Nat := none
  zSkip     : Bool := false
  zMis      : Nat := 0
  lost      : Bool := false
  snap      : EncSnap := {}
  /-- the last snapshot with an earlier edge, for the speed from stamped counts -/
  prevSnap  : EncSnap := {}
deriving DecidableEq, Repr

/-- A position result (Table PF-6) with its stamp. -/
structure PosRes where
  pos   : W32 := 0
  stat  : W32 := 0
  stamp : Nat := 0
deriving DecidableEq, Repr

/-- A request of a port whose result is due at its presentation time (R121, R122). -/
structure PosJob where
  trigAt : Nat
  /-- the checked result, none until the reply has been checked -/
  res    : Option PosRes := none
  /-- instant of that check (Table PF-4) -/
  doneAt : Nat := 0
  /-- the frame error or overrun of this request has been reported -/
  told   : Bool := false
deriving DecidableEq, Repr

/-- One serial position port (R114 to R126). -/
structure PosPort where
  /-- a request runs -/
  busy     : Bool := false
  trigAt   : Nat := 0
  /-- instant of the last trigger: a second one in its tick is the same (R69) -/
  firedAt  : Option Nat := none
  /-- last clock edge of the last SSI frame (R115) -/
  lastClk  : Option Nat := none
  /-- requests that await their presentation, oldest first (R121) -/
  jobs     : List PosJob := []
  reqCnt   : Nat := 0
  /-- the last KPP request, sent or relayed to the encoder (Table PF-2) -/
  request  : List Byte := []
  /-- the bytes of the last reply relayed to the downstream drive (R124) -/
  relayed  : List Byte := []
  /-- last DATA per KPP command, oldest first: temperature, flags, supply, identifier (Table PF-3) -/
  data     : List (Nat × List Byte) := []
  /-- the loop-engine input latch -/
  shown    : PosRes := {}
  prevShown : PosRes := {}
  /-- frame errors since the last valid reply (R119) -/
  errRun   : Nat := 0
  alive    : Option Nat := none
  /-- consecutive bad samples (Table PF-7) -/
  bad      : Nat := 0
  stale    : Nat := 0
  lost     : Bool := false
  frozen   : Bool := false
  /-- pass-through: newest valid frame, new since the last latch, instant of the last valid one -/
  ptNew    : Bool := false
  ptRes    : PosRes := {}
  ptAt     : Nat := 0
deriving DecidableEq, Repr

/-- One compare unit (R127 to R129). -/
structure CmpUnit where
  val     : Int := 0
  left    : Nat := 0
  running : Bool := false
  miss    : W32 := 0
  last    : Option Int := none
  /-- notices to the firmware function that owns the unit, with the stamp of the last (R129) -/
  notices : W32 := 0
  noticeAt : Nat := 0
deriving DecidableEq, Repr

/-- Freeze window of one position source (R130), with the values in force over the window that runs (Table PF-8). -/
structure Freeze where
  since : Option Nat := none
  start : Nat := 0
  moved : Nat := 0
  frozen : Bool := false
  win   : Nat := 20
  smin  : F32 := 0x3d4ccccd
  imin  : F32 := 0x3e99999a
  dmin  : Nat := 2048
deriving DecidableEq, Repr

/-- Position feedback of one lane. -/
structure Pos where
  /-- the 6 Hall groups (R106, R107) -/
  hall   : List Hall := List.replicate 6 {}
  /-- the 2 incremental inputs (R112) -/
  enc    : List Enc := List.replicate 2 {}
  /-- the 6 serial position ports (R114) -/
  pp     : List PosPort := List.replicate 6 {}
  /-- the 8 compare units (R127) -/
  cmp    : List CmpUnit := List.replicate 8 {}
  /-- freeze watch of each position source, by its code (R130, Table PF-10) -/
  freeze : List Freeze := List.replicate 22 {}
deriving DecidableEq, Repr

end Sys2Proof.Machine
end

