-- ==== Sys2Proof/Machine/Areas/Power.lean ====
section
/-! DEFINITION. State of the supplies, the clocks, the power states, the AON domain and the Chrysalis image (chapter Power states, clocks and wake). -/

namespace Sys2Proof.Machine

/-- Steps of a wake or a cold start that stand before the firmware (Tables PS-6 and BT-1). -/
inductive WakeStep where
  | idle
  | supply | regulators | regWait | crystal | pll
  | otp | comparator | image | handover | firmware | checks
  | done
  /-- halted in WAKING until the AON domain loses power (R412) -/
  | halted
deriving DecidableEq, Repr

/-- Steps of a power-state entry (Table PS-4). -/
inductive EntryStep where
  | withdraw | test | persist | powerDown
deriving DecidableEq, Repr

/-- A power-state entry in progress (R407, R408). -/
structure PwrEntry where
  target : Nat
  step   : EntryStep
  key    : Option CmdKey
  startAt : Nat
  /-- the shutdown test has run in this entry -/
  tested : Bool := false
  /-- the entry continues behind a committed one, without CMD_COMPLETE (R408) -/
  behind : Bool := false
  /-- instant of the withdrawal: own insertion stops at the end of its cycle (E2) -/
  outAt : Option Nat := none
deriving DecidableEq, Repr

/-- What a Chrysalis image says (Table PS-10); its bytes stand in MRAM. -/
structure Chrysalis where
  /-- MAGIC set: not yet used -/
  magic  : Bool := false
  stamp  : Nat := 0
  cycle  : Nat := 0
  /-- lane state before SAVE, and the lane code -/
  st     : LaneSt := .off
  lane   : Nat := 0
  wasAuth : Bool := false
  cycleOk : Bool := false
  part   : Bool := false
  cfg    : W32 := 0
  boot   : Nat := 0
  mirror : List W32 := []
  fnstat : List W32 := []
  cell   : Nat := 0
  trips  : List Nat := []
  vds    : List Nat := []
  log    : List LogEntry := []
deriving DecidableEq, Repr

/-- Power state of one lane. -/
structure Pwr where
  /-- PSTATE of Table PS-7 -/
  pstate  : Nat := 5
  /-- WAKE_SRC (R414) -/
  wakeSrc : Nat := 1
  /-- first wake event latched for replay (R409) -/
  pend    : Option Nat := none
  /-- MAYFLY as read from OTP (R429) -/
  mayfly  : Bool := false
  /-- REG_FAIL (R412, R414) -/
  regFail : Bool := false
  /-- regulator that failed (R412, R414) -/
  reg     : Nat := 0
  /-- OSC_FAIL (R413, R414) -/
  oscFail : Bool := false
  /-- SAVE_FAIL (R417, R414) -/
  saveFail : Bool := false
  /-- last refuser (R406, R414) -/
  refuser : Nat := 15
  /-- WAKES (R414) -/
  wakes   : Nat := 0
  /-- the wake and refuser counters (R406) -/
  counters : List W32 := List.replicate 8 0
  /-- entry in progress (R407) -/
  entry   : Option PwrEntry := none
  /-- request waiting behind a committed entry (R408) -/
  waiting : Option Nat := none
  /-- a RUN request awaiting entry to SYNC (R408) -/
  runKey  : Option CmdKey := none
  /-- the AON domain is powered (R405, R414) -/
  aonOn   : Bool := false
  /-- VSUP fell below 4.0 V since the request to OFF: the power-on detector is rearmed (R405) -/
  rearmed : Bool := true
  /-- VSUP and HOLD, mV (R416) -/
  vsup    : Nat := 0
  /-- HOLD, mV (R411, R416) -/
  hold    : Nat := 0
  /-- the hold-up switch is closed since (R416) -/
  sagAt   : Option Nat := none
  /-- VSUP stands above 7.5 V since (R405) -/
  goodAt  : Option Nat := none
  /-- the wake in progress or the start reached (R411, R422) -/
  step    : WakeStep := .idle
  /-- start of that step (R411) -/
  stepAt  : Nat := 0
  /-- the wake is warm (R411) -/
  warm    : Bool := false
  /-- warm wake from SLEEP, else from STANDBY (R411) -/
  fromSleep : Bool := false
  /-- retries of the regulators or the clocks (R412, R413) -/
  retries : Nat := 0
  /-- instant of the regulator step (R415) -/
  regAt   : Option Nat := none
  /-- the slow charge of HOLD has been reported (R411) -/
  holdTold : Bool := false
  /-- the lane runs on the backup clock (R400) -/
  backup  : Bool := false
  /-- SAVE since (R416) -/
  save    : Option Nat := none
  /-- lane state and authority at SAVE entry (Table PS-10) -/
  saveFrom : LaneSt := .off
  /-- image being written (R418) -/
  saveImg  : Option Chrysalis := none
  /-- the copy of the Chrysalis area that the next save writes: 1 when set (R418) -/
  chrysTurn : Bool := false
  /-- copy taken over at start (R419) -/
  restore : Option Chrysalis := none
  /-- end of the ungated time in IDLE (R404) -/
  gateAt  : Option Nat := none
  /-- start count of the lane, kept in MRAM (R396, R418) -/
  boot    : Nat := 0
  /-- a generation has been burnt since the last start (R449) -/
  burned  : Bool := false
  /-- events latched in the AON domain for the fault log of the next start (R396) -/
  aonEv   : List EventRec := []
  /-- instant of the last E5, while the AON domain stayed powered since (R449) -/
  e5At    : Option Nat := none
deriving DecidableEq, Repr

end Sys2Proof.Machine
end

