-- ==== Sys2Proof/Machine/Areas/Redund.lean ====
section
/-! DEFINITION. State of lane redundancy (chapter Lane redundancy and fault handling). -/

namespace Sys2Proof.Machine

/-- What a lane holds of one peer. -/
structure PeerView where
  /-- health word of the peer (R250) -/
  health  : W32 := 0
  /-- its module status word (R262) -/
  modStat : W32 := 0
  /-- its fault instances (R261) -/
  faults  : W32 := 0
  /-- the peer has been heard (R250) -/
  known   : Bool := false
  /-- the peer has withdrawn and not returned, with the class it counts under (R261) -/
  gone    : Bool := false
  /-- class of its withdrawal (R242) -/
  goneCls : Nat := 0
  /-- the peer has been voted out (R240) -/
  outVoted : Bool := false
  /-- its blocks are ignored: from the period after the outcome (R240) -/
  ignored  : Bool := false
  /-- what its last HEALTH block brought beside Table RD-1 (log entry 49) -/
  side     : Option LaneNews := none
  /-- CMP values of the peer for the 8 chains, with the period index they belong to (R238) -/
  cmp     : List (Option Int) := List.replicate 8 none
  /-- outer period of those values (R238) -/
  cmpIdx  : Nat := 0
  /-- last trip notice: source, channel mask and time stamp (Table RD-1) -/
  trip    : Option (Nat × Nat × Nat) := none
deriving DecidableEq, Repr

/-- One fault instance (R261): class and the lane and key it belongs to. -/
structure FaultInst where
  cls  : Nat
  lane : Nat
  key  : Nat
deriving DecidableEq, Repr

/-- A claim of this lane awaiting its answer (R242). -/
structure Claim where
  cycle   : Nat
  period  : Nat
  startAt : Nat
deriving DecidableEq, Repr

/-- Split decision in progress (R256). -/
structure Split where
  startCycle : Nat
  wasAuth    : Bool
  /-- lane codes of the peers that were live before the loss -/
  live       : List Nat
deriving DecidableEq, Repr

/-- Rejoin in progress (R252): step of Table RD-6, failures so far, start of the step. -/
structure Rejoin where
  step    : Nat := 1
  tries   : Nat := 0
  startAt : Nat := 0
  good    : Nat := 0
  periods : Nat := 0
  spent   : Bool := false
  /-- RESYNC_REQ has gone out for this attempt -/
  sent    : Bool := false
  /-- the period so far shows a disagreement with the authority -/
  bad     : Bool := false
  /-- the authority that the attempt is made with -/
  auth    : Nat := 0
deriving DecidableEq, Repr

/-- Redundancy state of one lane. -/
structure Red where
  /-- view of each lane (R250) -/
  peer     : List PeerView := List.replicate 3 {}
  /-- lane held for the authority, 0 for unresolved (R242) -/
  auth     : Nat := 0
  /-- duplicate transmission is in force (R256) -/
  dup      : Bool := false
  /-- own claim in progress (R243) -/
  claim    : Option Claim := none
  /-- start of the failover in progress (R243) -/
  failAt   : Option Nat := none
  /-- instant at which the last reference reaches the latches (R243) -/
  refAt    : Nat := 0
  /-- a late hand-over has been reported (R243) -/
  lateTold : Bool := false
  /-- own computed reference per chain, Q1.14 in units of I_rated (R238) -/
  own      : List Int := List.replicate 8 0
  /-- network cycle in which they were computed (Table NF-3) -/
  ownCyc   : Nat := 0
  /-- disagreement counts per chain for the pairs A-B, B-C, C-A (R238, R239) -/
  disAB    : List Nat := List.replicate 8 0
  /-- disagreement counts of the pair B-C (R238, R239) -/
  disBC    : List Nat := List.replicate 8 0
  /-- disagreement counts of the pair C-A (R238, R239) -/
  disCA    : List Nat := List.replicate 8 0
  /-- vote result already reported, per chain (R239) -/
  voteTold : List Nat := List.replicate 8 0
  /-- this lane has been voted out (R240) -/
  selfOut  : Bool := false
  /-- mirror set in progress and the last complete set (R248) -/
  mirNext  : List W32 := []
  /-- mirror set last taken whole (R248) -/
  mirror   : List W32 := []
  /-- a block of the authority's set was lost (R248) -/
  mirGap   : Bool := false
  /-- no first authority has sent a complete set yet (R427) -/
  mirStart : Bool := false
  /-- a mirror set has been taken (R248) -/
  mirOk    : Bool := false
  /-- mirror sets missed (R249) -/
  mirMiss  : Nat := 0
  /-- the mirror set counts as lost (R249) -/
  mirBad   : Bool := false
  /-- split decision in progress (R246, R256) -/
  split    : Option Split := none
  /-- rejoin in progress (R252) -/
  rejoin   : Rejoin := {}
  /-- fault instances per class as the mirror set brought them (R247, R261) -/
  mirFaults : List Nat := List.replicate 8 0
  /-- join ramp of each lane's set: start instant (R253) -/
  joinAt   : List (Option Nat) := [none, none, none]
  /-- ISLAND since (R259) -/
  islandAt : Option Nat := none
  /-- the grace time of ISLAND runs (R259) -/
  graceOn  : Bool := false
  /-- cycle stamp of the newest references in a follower (R257) -/
  refCycle : Nat := 0
  /-- references come from the tap (R257) -/
  tapRefs  : Bool := false
  /-- last frame on the tap (R257) -/
  tapAt    : Option Nat := none
  /-- health word of that frame (R257) -/
  tapHealth : W32 := 0
  /-- the host's presence map: bits of the three lanes, with the cycle of the frame (R258) -/
  hostMap  : Option (Nat × Nat) := none
  /-- fault instances of the module as this lane counts them (R261) -/
  inst     : List FaultInst := []
  /-- common-cause indications counted (R260) -/
  ccCount  : Nat := 0
  /-- vehicle request in force (R263) -/
  vehReq   : Nat := 0
  /-- the module is PARKED (R265) -/
  parked   : Bool := false
  /-- module status word last taken (R262) -/
  modStat  : W32 := 0x0000FFFF
  /-- sequence number of authority-class content (R245) -/
  seq      : Nat := 0
  /-- instant of the last counted internal fault (R241) -/
  intAt    : Option Nat := none
  /-- a wear limit is reached (R39, R260) -/
  wearLim  : Bool := false
  /-- a source of the outer loops is lost (R235) -/
  srcBad   : Bool := false
  /-- the chains to which such a source belongs (R235, R238) -/
  chainBad : List Bool := List.replicate 8 false
  /-- a position source in use is lost or frozen: SENSOR of the health word (R131, Table RD-4) -/
  sensor   : Bool := false
  /-- a difference of configuration has been reported (R234) -/
  cfgTold  : Bool := false
  /-- instant of the last REF block taken in LIMP (R402) -/
  limpAt   : Option Nat := none
  /-- own microstep counts of paired slots at the last outer sequence (R202) -/
  pairM    : List (Option Int) := List.replicate 8 none
deriving DecidableEq, Repr

end Sys2Proof.Machine
end

