-- ==== Sys2Proof/Machine/Areas/Sense.lean ====
section
/-! DEFINITION. State of current and voltage sensing (chapter Current and voltage sensing). -/

namespace Sys2Proof.Machine

/-- One SAR ADC (R92 to R94). -/
structure Adc where
  /-- sources of the running sequence not yet delivered -/
  left    : List Nat := []
  /-- instant of the trigger of the running sequence -/
  trigAt  : Nat := 0
  /-- instant of the last trigger: a second one in its tick is the same (R69) -/
  firedAt : Option Nat := none
  /-- position of the next entry in its sequence, 1 to 8 -/
  entry   : Nat := 1
  /-- conversion count modulo 128 (Table SN-3) -/
  count   : Nat := 0
  /-- source of the background scan whose turn is next (R93) -/
  scanPos : Nat := 0
  /-- results of dropped triggers, delivered with VALID = 0: source, trigger and instant of delivery (R94) -/
  lost    : List (Nat × Nat × Nat) := []
deriving DecidableEq, Repr

/-- Noise tests of one analog source (R101). -/
structure Noise where
  last   : Option Int := none
  same   : Nat := 0
  n      : Nat := 0
  sum    : Int := 0
  sumSq  : Nat := 0
  frozen : Bool := false
  /-- SNS_NV_WIN and SNS_NV_MIN of the window that runs (Table SN-8) -/
  win    : Nat := 256
  floor  : F32 := 0x3ca3d70a
  /-- trigger of the last conversion counted: several readers of one conversion count it once -/
  stamp  : Option Nat := none
deriving DecidableEq, Repr

/-- One drain-sense input with its two window comparators (R95). -/
structure Drn where
  ov1 : Bool := false
  ov2 : Bool := false
  /-- last rise of OV2, or the instant at which the input was disabled with OV2 high (R230) -/
  ov2At : Nat := 0
deriving DecidableEq, Repr

/-- One delta-sigma input (R97 to R99). -/
structure DsIn where
  /-- sinc2 comparator output -/
  above    : Bool := false
  /-- the sinc2 value is at or above SNS_DS_OVH_REL -/
  aboveRel : Bool := false
  value    : F32 := 0
  stamp    : Nat := 0
  valid    : Bool := false
  regen    : Bool := false
  modFault : Bool := false
deriving DecidableEq, Repr

/-- One die temperature sensor (R102). -/
structure Temp where
  value   : F32 := 0
  dropped : Bool := false
deriving DecidableEq, Repr

/-- Learned trim of one current-sense amplifier (Table SN-1). -/
structure Trim where
  gain   : F32 := 0x3F800000
  offset : F32 := 0
deriving DecidableEq, Repr

/-- Sensing of one lane. -/
structure Sns where
  /-- the 4 ADCs (R92) -/
  adc          : List Adc := List.replicate 4 {}
  /-- newest result word per source code 0 to 48 (Table SN-3), the loop-engine input latch -/
  latch        : List W32 := List.replicate 49 0
  /-- instant of the trigger each latched result belongs to (R92) -/
  latchAt      : List Nat := List.replicate 49 0
  /-- instants of the switch-node edges per half-bridge within the last 4 µs, newest first (R91) -/
  edges        : List (List Nat) := List.replicate 16 []
  /-- noise monitors, one per monitored source (R101) -/
  noise        : List Noise := List.replicate 53 {}
  /-- the 4 drain-sense inputs (R95) -/
  drn          : List Drn := List.replicate 4 {}
  /-- the 4 delta-sigma inputs (R97) -/
  ds           : List DsIn := List.replicate 4 {}
  /-- the firmware asserts REGEN_INH (R98) -/
  regenFw      : Bool := false
  /-- the 3 die sensors (R102) -/
  temp         : List Temp := List.replicate 3 {}
  /-- since when the highest valid reading stands at 145 °C or more (R102) -/
  hotSince     : Option Nat := none
  /-- instants of the last temperature reading and the last crack-loop measurement (Table RD-5) -/
  tempAt       : Nat := 0
  /-- instant of the last ring measurement (R103) -/
  crackAt      : Nat := 0
  /-- temperature derating is in force (R102) -/
  derating     : Bool := false
  /-- the current-limit factor in force under derating (Table SN-7) -/
  derateK      : F32 := 0x3F800000
  /-- start of the recovery ramp of Table SN-7 -/
  recoverAt    : Option Nat := none
  /-- instant at which an enabled OV1 comparator last rose (R228) -/
  ov1At        : Nat := 0
  /-- since when two valid readings stand more than 15 °C apart (R102) -/
  disagree     : Option Nat := none
  /-- since when the two remaining readings agree again (R102) -/
  agreeAt      : Option Nat := none
  /-- the two-sensor disagreement has been reported (R102) -/
  pairTold     : Bool := false
  /-- last ring resistance (R103) -/
  crackR       : F32 := 0
  /-- stored reference resistance (R103) -/
  crackRef     : F32 := 0
  /-- die temperature of the reference (R103) -/
  crackRefT    : F32 := 0
  /-- a reference is stored (R103) -/
  crackSet     : Bool := false
  /-- readings in a row above the limit (R103) -/
  crackRun     : Nat := 0
  /-- a crack is declared (R103) -/
  cracked      : Bool := false
  /-- common-cause flag of the health word (R103) -/
  commonCause  : Bool := false
  /-- gain and offset of the 12 amplifiers (R90) -/
  trim         : List Trim := List.replicate 12 {}
  /-- SNS_ADC_OCC of the last accepted commit, % (R93) -/
  occ          : Nat := 0
deriving DecidableEq, Repr

end Sys2Proof.Machine
end

