-- ==== Sys2Proof/Machine/Areas/Lane.lean ====
section
/-! DEFINITION. The state of one lane, area by area. -/

namespace Sys2Proof.Machine

/-- A value that still acts although a newer one was accepted at the instant `since`: the newer one is in force from the instant that its column names (R366, Table CP-8). -/
structure Held where
  id    : Nat
  inst  : Nat
  vals  : List Nat
  since : Nat
deriving DecidableEq, Repr

/-- One lane of the module (R14 to R30). -/
structure Lane where
  id     : LaneId
  /-- time stamp of the lane in 2.5 ns counts (R12) -/
  now    : Nat := 0
  st     : LaneSt := .off
  /-- pin LANE_OK_x (R25) -/
  laneOk : Bool := false
  /-- links to lanes A, B, C; the own entry is unused (R20) -/
  link   : List Link := List.replicate 3 {}
  /-- parameter values that differ from the defaults, sorted by ID and instance (R372) -/
  params : List PVal := []
  /-- values that still act in place of accepted ones (R366) -/
  held   : List Held := []
  /-- the model's own count of free values drawn -/
  fresh  : Nat := 0
  gd     : Gd := {}
  pwm    : Pwm := {}
  sns    : Sns := {}
  pos    : Pos := {}
  mot    : Mot := {}
  le     : Le := {}
  mp     : Mp := {}
  fn     : Fns := {}
  red    : Red := {}
  net    : Net := {}
  ports  : Ports := {}
  mb     : Mb := {}
  pwr    : Pwr := {}
  mem    : Mem := {}
  boot   : Boot := {}
  bist   : Bist := {}
deriving DecidableEq, Repr

end Sys2Proof.Machine
end

