-- ==== Sys2Proof/Machine/Crc.lean ====
section
/-! DEFINITION. Byte-order helpers and the checksums of the links and images: CRC-32, CRC-16 and CRC-8. -/

namespace Sys2Proof.Machine

/-- The n low bytes of a number, least significant first (R6). -/
def leBytes : Nat → Nat → List Byte
  | 0, _ => []
  | n + 1, v => BitVec.ofNat 8 v :: leBytes n (v / 256)

/-- The number whose bytes stand least significant first (R6). -/
def leNat : List Byte → Nat
  | [] => 0
  | b :: r => b.toNat + 256 * leNat r

/-- The number whose bytes stand most significant first. -/
def beNat (l : List Byte) : Nat := leNat l.reverse

def beBytes (n v : Nat) : List Byte := (leBytes n v).reverse

/-- The little-endian number of n bytes from offset k. -/
def leAt (l : List Byte) (k n : Nat) : Nat := leNat ((l.drop k).take n)

def byteAt (l : List Byte) (k : Nat) : Nat := (l.getD k 0).toNat

/-- One reflected CRC step. -/
def crcStepR (poly : Nat) : Nat → Nat → Nat
  | 0, c => c
  | n + 1, c => crcStepR poly n (if c % 2 == 1 then Nat.xor (c / 2) poly else c / 2)

/-- One forward CRC step of width w. -/
def crcStepF (w poly : Nat) : Nat → Nat → Nat
  | 0, c => c
  | n + 1, c =>
    crcStepF w poly n (if c / 2 ^ (w - 1) % 2 == 1 then Nat.xor (c * 2 % 2 ^ w) poly else c * 2 % 2 ^ w)

/-- f n, written so that an evaluator reduces n to a numeral first. -/
def evalNat {α : Type} (n : Nat) (f : Nat → α) : α :=
  match n with
  | 0 => f 0
  | k + 1 => f (k + 1)

theorem evalNat_eq {α : Type} (n : Nat) (f : Nat → α) : evalNat n f = f n := by cases n <;> rfl

/-- The reflected CRC-32 over bytes, from a start value. -/
def crcBytes : List Byte → Nat → Nat
  | [], c => c
  | b :: r, c => evalNat (crcStepR 0xEDB88320 8 (Nat.xor c b.toNat)) (crcBytes r)

/-- CRC-32 of IEEE 802.3 (polynomial 0x04C11DB7 reflected, start and final XOR all ones). -/
def crc32 (l : List Byte) : W32 := .ofNat 32 (Nat.xor (crcBytes l 0xFFFFFFFF) 0xFFFFFFFF)

/-- CRC-16, polynomial 0x1021, start 0xFFFF, no final XOR. -/
def crc16 (l : List Byte) : W16 :=
  .ofNat 16 (l.foldl (fun c b => crcStepF 16 0x1021 8 (Nat.xor c (b.toNat * 256))) 0xFFFF)

/-- CRC-8, polynomial 0x2F, start and final XOR 0xFF. -/
def crc8 (l : List Byte) : Byte :=
  .ofNat 8 (Nat.xor (l.foldl (fun c b => crcStepF 8 0x2F 8 (Nat.xor c b.toNat)) 0xFF) 0xFF)

/-- Bit n of a number. -/
def bit (v n : Nat) : Bool := v / 2 ^ n % 2 == 1

/-- Bits hi to lo of a number. -/
def bits (v hi lo : Nat) : Nat := v / 2 ^ lo % 2 ^ (hi + 1 - lo)

/-- The low byte of a number. -/
def b8 (n : Nat) : Byte := BitVec.ofNat 8 n

def b2n (b : Bool) : Nat := if b then 1 else 0

/-- The number whose bit n is the n-th item. -/
def ofBits : List Bool → Nat
  | [] => 0
  | b :: r => b2n b + 2 * ofBits r

/-- The two's complement reading of the low w bits. -/
def sext (w v : Nat) : Int :=
  let u := v % 2 ^ w
  if u ≥ 2 ^ (w - 1) then (u : Int) - 2 ^ w else u

/-- The low w bits of an integer. -/
def wrap (w : Nat) (v : Int) : Nat := (v % (2 ^ w : Nat)).toNat

end Sys2Proof.Machine
end

