-- ==== Sys2Proof/Machine/ParamRows.lean ====
section
/-! DEFINITION. The parameter tables of the spec as rows (R361 to R370, R488): one row per parameter, in the encoding of R365. -/

namespace Sys2Proof.Machine

/-- Type codes (Table CP-7). -/
inductive PTy where
  | u8 | u16 | u32 | s32 | f32 | edge | angle | u64 | s16
deriving DecidableEq, Repr

def PTy.code : PTy → Nat
  | .u8 => 1 | .u16 => 2 | .u32 => 3 | .s32 => 4 | .f32 => 5 | .edge => 6 | .angle => 7 | .u64 => 8 | .s16 => 9

def PTy.bytes : PTy → Nat
  | .u8 => 1 | .u16 => 2 | .u32 => 4 | .s32 => 4 | .f32 => 4 | .edge => 4 | .angle => 2 | .u64 => 8 | .s16 => 2

/-- State conditions of Table CP-8. -/
inductive PCond where
  | always | slotOff | checkSync | idle | unitStop | fnOff | armed | maskClear | outerOff | open_
deriving DecidableEq, Repr

/-- Write classes (Table CP-8). -/
inductive PCls where
  | direct
  | bound (c : PCond)
  | staged (c : PCond)
  | ro
deriving DecidableEq, Repr

def PCls.code : PCls → Nat
  | .direct => 0 | .bound _ => 1 | .staged _ => 2 | .ro => 3

/-- One parameter: ID, instances, type, elements, lowest and highest value as words of the type, default of an instance, write class. -/
structure PRow where
  id   : Nat
  n    : Nat
  ty   : PTy
  elems : Nat
  lo   : Nat
  hi   : Nat
  dflt : List Nat
  cls  : PCls
deriving DecidableEq, Repr

/-- Rows of block SYS (Table CP-9). -/
def rowsSys : List PRow := [
  ⟨0x1100, 64, .u16, 1, 8, 1024, [0], .staged .checkSync⟩,  -- SYS_Q_SIZE
  ⟨0x1101, 64, .u16, 1, 16, 2048, [0], .staged .checkSync⟩,  -- SYS_Q_BUF
  ⟨0x1102, 1, .u8, 1, 1, 4, [2], .direct⟩,  -- SYS_STREAM_DEPTH
  ⟨0x1103, 1, .u8, 1, 1, 16, [4], .direct⟩,  -- SYS_REASM_T_NET
  ⟨0x1104, 1, .u8, 1, 5, 200, [20], .direct⟩,  -- SYS_REASM_T_CAN
  ⟨0x1105, 1, .u16, 1, 5, 600, [60], .direct⟩,  -- SYS_SESSION_IDLE
  ⟨0x1106, 1, .u8, 1, 8, 119, [88], .direct⟩,  -- SYS_SP_ADDR
  ⟨0x1107, 4, .u32, 8, 0, 0xffffffff, [0, 0, 0, 0, 0, 0, 0, 0], .ro⟩,  -- SYS_MB_COUNTERS
  ⟨0x1108, 96, .u32, 5, 0, 0xffffffff, [0, 0, 0, 0, 0], .ro⟩,  -- SYS_STREAM_COUNTERS
  ⟨0x1110, 1, .u8, 12, 0, 255, List.replicate 12 0, .ro⟩,  -- SYS_IDENT
  ⟨0x1111, 1, .u32, 1, 0, 0xffffffff, [0], .ro⟩,  -- SYS_FW_VERSION
  ⟨0x1112, 1, .u16, 1, 0, 65535, [0], .ro⟩,  -- SYS_CFG_GEN
  ⟨0x1113, 1, .u32, 1, 0, 0xffffffff, [0], .ro⟩,  -- SYS_CFG_CRC
  ⟨0x1114, 1, .u8, 1, 0, 255, [0], .ro⟩,  -- SYS_OVERLAY_STATE
  ⟨0x1115, 1, .u8, 1, 0, 1, [0], .direct⟩,  -- SYS_MB_COMPAT
  ⟨0x1116, 1, .u32, 1, 0, 0xffffffff, [0], .ro⟩]  -- SYS_STAGED

/-- Rows of block GD (Table CP-9). -/
def rowsGd : List PRow := [
  ⟨0x2100, 32, .u8, 1, 0, 1, [1], .direct⟩,  -- GD_ADAPT_EN
  ⟨0x2101, 32, .u16, 1, 50, 400, [120], .direct⟩,  -- GD_TARGET_TON
  ⟨0x2102, 32, .u16, 1, 50, 400, [120], .direct⟩,  -- GD_TARGET_TOFF
  ⟨0x2103, 1, .u8, 1, 1, 20, [5], .direct⟩,  -- GD_ADAPT_BAND
  ⟨0x2104, 32, .u8, 1, 0, 63, [16], .staged .always⟩,  -- GD_CODE_MIN_ON
  ⟨0x2105, 32, .u8, 1, 0, 63, [63], .direct⟩,  -- GD_CODE_MAX_ON
  ⟨0x2106, 32, .u8, 1, 0, 63, [16], .staged .always⟩,  -- GD_CODE_MIN_OFF
  ⟨0x2107, 32, .u8, 1, 0, 63, [63], .direct⟩,  -- GD_CODE_MAX_OFF
  ⟨0x2108, 32, .u8, 1, 0, 63, [32], .direct⟩,  -- GD_CODE_FIX_ON
  ⟨0x2109, 32, .u8, 1, 0, 63, [32], .direct⟩,  -- GD_CODE_FIX_OFF
  ⟨0x210A, 1, .u8, 1, 12, 100, [24], .direct⟩,  -- GD_ADAPT_VMIN
  ⟨0x210B, 1, .u8, 1, 0, 63, [8], .direct⟩,  -- GD_SOFTOFF_CODE
  ⟨0x2110, 16, .u8, 1, 0, 2, [1], .direct⟩,  -- GD_BST_REFRESH
  ⟨0x2111, 16, .u8, 1, 5, 50, [20], .direct⟩,  -- GD_BST_REFRESH_T
  ⟨0x2112, 16, .u8, 1, 5, 200, [20], .direct⟩,  -- GD_BST_PRECHARGE_T
  ⟨0x2120, 32, .u8, 1, 0, 31, [9], .direct⟩,  -- GD_VDS_THR
  ⟨0x2121, 32, .u16, 1, 100, 3000, [1000], .direct⟩,  -- GD_VDS_BLANK
  ⟨0x2122, 32, .u16, 1, 50, 1000, [200], .direct⟩,  -- GD_VDS_FILT
  ⟨0x2123, 16, .u8, 1, 0, 3, [0], .bound .slotOff⟩,  -- GD_VDS_DRN_MAP
  ⟨0x2124, 1, .u8, 1, 0, 3, [1], .direct⟩,  -- GD_VDS_RETRY
  ⟨0x2130, 16, .u8, 1, 0, 1, [0], .bound .slotOff⟩,  -- GD_MODE
  ⟨0x2131, 16, .u16, 1, 20, 2000, [200], .bound .slotOff⟩,  -- GD_DIRECT_DEADTIME
  ⟨0x2140, 4, .u8, 1, 0, 255, [255], .staged .slotOff⟩,  -- GD_EXT_MAP
  ⟨0x2150, 32, .u16, 1, 10, 2000, [100], .staged .always⟩,  -- GD_QG
  ⟨0x2151, 32, .u16, 1, 0, 1000, [22], .staged .always⟩,  -- GD_RG_EXT
  ⟨0x2152, 32, .u8, 1, 0, 200, [10], .staged .always⟩,  -- GD_RG_INT
  ⟨0x2153, 1, .u32, 1, 0, 0xffffffff, [0], .ro⟩]  -- GD_PWR_EST

/-- Rows of block PWM (Table CP-9). -/
def rowsPwm : List PRow := [
  ⟨0x3100, 8, .u8, 1, 0, 1, [1], .bound .slotOff⟩,  -- PWM_MODE
  ⟨0x3101, 8, .u16, 1, 1, 65535, [10000], .staged .always⟩,  -- PWM_PERIOD
  ⟨0x3102, 8, .u8, 1, 1, 8, [1], .staged .slotOff⟩,  -- PWM_PRESCALE
  ⟨0x3103, 8, .edge, 1, 0, 0xc35000, [0], .bound .slotOff⟩,  -- PWM_PHASE
  ⟨0x3104, 1, .u8, 1, 0, 1, [1], .bound .slotOff⟩,  -- PWM_SYNC_SRC
  ⟨0x3105, 1, .u8, 1, 1, 40, [4], .direct⟩,  -- PWM_SYNC_SLEW
  ⟨0x3110, 16, .u8, 1, 0, 7, [0], .bound .slotOff⟩,  -- PWM_TB_SEL
  ⟨0x3111, 16, .edge, 1, 512, 0x19000, [10240], .direct⟩,  -- PWM_DT_RISE
  ⟨0x3112, 16, .edge, 1, 512, 0x19000, [10240], .direct⟩,  -- PWM_DT_FALL
  ⟨0x3113, 8, .edge, 1, 0, 0x1f400, [5120], .direct⟩,  -- PWM_MIN_PULSE
  ⟨0x3114, 8, .u8, 1, 0, 2, [0], .direct⟩,  -- PWM_SHORT_POLICY
  ⟨0x3120, 32, .u32, 1, 0, 0xffffffff, [0], .direct⟩,  -- PWM_TRIG_POS
  ⟨0x3121, 32, .u8, 1, 0, 11, [0], .direct⟩,  -- PWM_TRIG_DEST
  ⟨0x3130, 8, .u8, 1, 0, 1, [0], .bound .maskClear⟩,  -- PWM_TRIP_POL
  ⟨0x3131, 8, .u16, 1, 0, 400, [0], .bound .armed⟩,  -- PWM_TRIP_FILT
  ⟨0x3132, 13, .u16, 1, 0, 65535, [0], .bound .armed⟩,  -- PWM_TRIP_MASK
  ⟨0x3133, 208, .u8, 1, 0, 2, [0], .bound .armed⟩,  -- PWM_TRIP_SAFE
  ⟨0x3134, 12, .u8, 1, 0, 1, [0], .bound .armed⟩,  -- PWM_TRIP_MODE
  ⟨0x3135, 14, .u32, 1, 0, 0xffffffff, [0], .ro⟩,  -- PWM_TRIP_COUNT
  ⟨0x3140, 1, .u16, 1, 0, 65535, [0], .ro⟩,  -- PWM_CAL_STATUS
  ⟨0x3150, 1, .u8, 1, 0, 1, [0], .direct⟩]  -- PWM_HALT_ACTION

/-- Rows of block SNS (Table CP-9). -/
def rowsSns : List PRow := [
  ⟨0x4100, 12, .u8, 1, 5, 40, [20], .bound .slotOff⟩,  -- SNS_CSA_GAIN
  ⟨0x4101, 12, .u16, 1, 100, 1000, [300], .direct⟩,  -- SNS_CSA_SETTLE
  ⟨0x4110, 4, .u8, 8, 0, 48, [], .staged .slotOff⟩,  -- SNS_ADC_SEQ
  ⟨0x4111, 1, .u8, 1, 0, 255, [0], .ro⟩,  -- SNS_ADC_OCC
  ⟨0x4120, 4, .u8, 1, 60, 110, [105], .direct⟩,  -- SNS_BUS_OV1
  ⟨0x4121, 4, .u8, 1, 65, 115, [112], .direct⟩,  -- SNS_BUS_OV2
  ⟨0x4122, 1, .u8, 1, 1, 10, [3], .direct⟩,  -- SNS_BUS_HYST
  ⟨0x4123, 1, .u8, 1, 0, 15, [1], .direct⟩,  -- SNS_BUS_EN
  ⟨0x4130, 1, .u8, 1, 10, 153, [20], .bound .checkSync⟩,  -- SNS_DS_CLK
  ⟨0x4131, 4, .u16, 1, 32, 256, [64], .direct⟩,  -- SNS_DS_OSR
  ⟨0x4132, 4, .f32, 1, 0, 0x7f7fffff, [0], .bound .checkSync⟩,  -- SNS_DS_SCALE
  ⟨0x4133, 4, .f32, 1, 0, 0x7f7fffff, [0], .staged .checkSync⟩,  -- SNS_DS_OVH
  ⟨0x4134, 4, .f32, 1, 0, 0x7f7fffff, [0], .direct⟩,  -- SNS_DS_OVH_REL
  ⟨0x4135, 4, .u8, 1, 0, 1, [0], .bound .checkSync⟩,  -- SNS_DS_REGEN
  ⟨0x4136, 4, .u8, 1, 0, 15, [0], .staged .checkSync⟩,  -- SNS_DS_PERSIST
  ⟨0x4140, 1, .u16, 1, 64, 1024, [256], .direct⟩,  -- SNS_NV_WIN
  ⟨0x4141, 1, .f32, 1, 0x3ba3d70a, 0x3da3d70a, [0x3ca3d70a], .direct⟩,  -- SNS_NV_MIN
  ⟨0x4142, 1, .u8, 1, 16, 255, [64], .direct⟩,  -- SNS_NV_SAME
  ⟨0x4150, 1, .u8, 1, 110, 135, [135], .direct⟩,  -- SNS_TEMP_DERATE
  ⟨0x4151, 3, .f32, 1, 0xff7fffff, 0x7f7fffff, [0], .ro⟩,  -- SNS_TEMP_READ
  ⟨0x4160, 1, .u8, 1, 10, 100, [30], .direct⟩,  -- SNS_CRACK_LIMIT
  ⟨0x4161, 1, .f32, 1, 0xff7fffff, 0x7f7fffff, [0], .ro⟩]  -- SNS_CRACK_R

/-- Rows of block POS (Table CP-9). -/
def rowsPos : List PRow := [
  ⟨0x5100, 6, .u16, 1, 0, 10000, [500], .direct⟩,  -- POS_HALL_FILT
  ⟨0x5101, 6, .angle, 1, 0, 65535, [0], .bound .slotOff⟩,  -- POS_HALL_OFFSET
  ⟨0x5102, 6, .u8, 1, 0, 1, [1], .direct⟩,  -- POS_HALL_PULLUP
  ⟨0x5103, 1, .u8, 1, 5, 200, [20], .direct⟩,  -- POS_HALL_ILL_T
  ⟨0x5104, 1, .u8, 1, 1, 16, [2], .direct⟩,  -- POS_HALL_SKIP_MAX
  ⟨0x5110, 2, .u32, 1, 1, 0x100000, [1024], .bound .slotOff⟩,  -- POS_ENC_LINES
  ⟨0x5111, 2, .u8, 1, 0, 200, [20], .direct⟩,  -- POS_ENC_FILT
  ⟨0x5112, 2, .u8, 1, 0, 2, [1], .bound .slotOff⟩,  -- POS_ENC_ZMODE
  ⟨0x5113, 2, .u8, 1, 0, 64, [4], .direct⟩,  -- POS_ENC_ZTOL
  ⟨0x5120, 6, .u8, 1, 0, 6, [0], .bound .slotOff⟩,  -- POS_PP_MODE
  ⟨0x5121, 6, .u8, 1, 1, 100, [20], .staged .slotOff⟩,  -- POS_PP_CLK
  ⟨0x5122, 6, .u8, 1, 8, 32, [24], .bound .slotOff⟩,  -- POS_PP_ST_BITS
  ⟨0x5123, 6, .u8, 1, 0, 16, [0], .bound .slotOff⟩,  -- POS_PP_MT_BITS
  ⟨0x5124, 6, .u8, 1, 0, 1, [0], .bound .slotOff⟩,  -- POS_PP_CODE
  ⟨0x5125, 6, .u16, 1, 0, 1000, [300], .staged .slotOff⟩,  -- POS_PP_CABLE
  ⟨0x5126, 6, .u8, 1, 2, 100, [12], .staged .slotOff⟩,  -- POS_PP_PRESENT
  ⟨0x5127, 6, .u8, 1, 1, 64, [20], .staged .slotOff⟩,  -- POS_PP_TM
  ⟨0x5128, 6, .u8, 1, 1, 10, [3], .direct⟩,  -- POS_PP_LOSS_N
  ⟨0x5129, 6, .u16, 1, 10, 1000, [100], .direct⟩,  -- POS_PP_XPECT
  ⟨0x512A, 6, .u8, 1, 0, 20, [2], .staged .slotOff⟩,  -- POS_PP_BUSY
  ⟨0x5130, 1, .u8, 1, 5, 200, [20], .staged .always⟩,  -- POS_FRZ_WIN
  ⟨0x5131, 1, .f32, 1, 0x3c23d70a, 0x3f000000, [0x3d4ccccd], .direct⟩,  -- POS_FRZ_SMIN
  ⟨0x5132, 1, .f32, 1, 0x3d4ccccd, 0x3f800000, [0x3e99999a], .direct⟩,  -- POS_FRZ_IMIN
  ⟨0x5133, 1, .angle, 1, 0, 65535, [2048], .direct⟩,  -- POS_FRZ_DMIN
  ⟨0x5140, 8, .u8, 1, 0, 255, [255], .bound .unitStop⟩,  -- POS_CMP_SRC
  ⟨0x5141, 8, .s32, 1, 0x80000000, 0x7fffffff, [0], .bound .unitStop⟩,  -- POS_CMP_VAL
  ⟨0x5142, 8, .s32, 1, 0x80000000, 0x7fffffff, [1], .bound .unitStop⟩,  -- POS_CMP_INC
  ⟨0x5143, 8, .u16, 1, 0, 65535, [0], .bound .unitStop⟩,  -- POS_CMP_CNT
  ⟨0x5144, 8, .u8, 1, 0, 255, [0], .bound .unitStop⟩,  -- POS_CMP_ACT
  ⟨0x5145, 8, .u8, 1, 0, 2, [2], .bound .unitStop⟩,  -- POS_CMP_DIR
  ⟨0x5146, 8, .u32, 1, 0, 0xffffffff, [0], .ro⟩,  -- POS_CMP_MISS
  ⟨0x5150, 14, .u8, 1, 0, 31, [0], .bound .slotOff⟩]  -- POS_SNAP_TRIG

/-- Rows of block MOT (Table CP-9). -/
def rowsMot : List PRow := [
  ⟨0x6100, 8, .u8, 1, 1, 32, [4], .bound .slotOff⟩,  -- MOT_POLE_PAIRS
  ⟨0x6101, 8, .f32, 1, 0x41200000, 0x469c4000, [0x447a0000], .bound .slotOff⟩,  -- MOT_RATED_SPEED
  ⟨0x6102, 8, .f32, 1, 0x3dcccccd, 0x43fa0000, [0x41200000], .bound .slotOff⟩,  -- MOT_RATED_CURRENT
  ⟨0x6103, 8, .f32, 1, 0x3a83126f, 0x41200000, [0x3dcccccd], .bound .slotOff⟩,  -- MOT_RS
  ⟨0x6104, 8, .f32, 1, 0x358637bd, 0x3dcccccd, [0x3a03126f], .bound .slotOff⟩,  -- MOT_LD
  ⟨0x6105, 8, .f32, 1, 0x358637bd, 0x3dcccccd, [0x3a03126f], .staged .slotOff⟩,  -- MOT_LQ
  ⟨0x6106, 8, .f32, 1, 0x38d1b717, 0x3f800000, [0x3ca3d70a], .staged .slotOff⟩,  -- MOT_PSI
  ⟨0x6107, 8, .f32, 1, 0x41400000, 0x42e60000, [0x42400000], .staged .slotOff⟩,  -- MOT_VBUS_MIN
  ⟨0x6110, 8, .u8, 1, 0, 5, [0], .bound .slotOff⟩,  -- MOT_ANGLE_SRC
  ⟨0x6111, 8, .u8, 1, 0, 21, [0], .bound .slotOff⟩,  -- MOT_ANGLE_DEV
  ⟨0x6112, 8, .angle, 1, 0, 65535, [0], .bound .slotOff⟩,  -- MOT_ANGLE_OFFSET
  ⟨0x6113, 8, .f32, 1, 0, 0x40000000, [0x3f800000], .direct⟩,  -- MOT_DELAY_COMP
  ⟨0x6114, 8, .u8, 1, 0, 4, [0], .bound .slotOff⟩,  -- MOT_TABLE_SEL
  ⟨0x6115, 8, .u8, 3, 0, 255, [0, 1, 255], .bound .slotOff⟩,  -- MOT_CS_MAP
  ⟨0x6116, 8, .f32, 1, 0x3c23d70a, 0x3e4ccccd, [0x3d4ccccd], .direct⟩,  -- MOT_CS_SUM_LIM
  ⟨0x6120, 8, .f32, 1, 0x3ca3d70a, 0x3f000000, [0x3d4ccccd], .staged .slotOff⟩,  -- MOT_BLEND_LO
  ⟨0x6121, 8, .f32, 1, 0x3d23d70a, 0x3f19999a, [0x3dcccccd], .staged .slotOff⟩,  -- MOT_BLEND_HI
  ⟨0x6122, 8, .f32, 1, 0x42480000, 0x459c4000, [0x44480000], .staged .slotOff⟩,  -- MOT_OBS_BW
  ⟨0x6123, 8, .f32, 1, 0x40a00000, 0x447a0000, [0x42c80000], .staged .slotOff⟩,  -- MOT_PLL_BW
  ⟨0x6124, 8, .f32, 1, 0x3f000000, 0x40000000, [0x3f333333], .bound .slotOff⟩,  -- MOT_PLL_ZETA
  ⟨0x6125, 8, .u16, 1, 16, 1024, [64], .direct⟩,  -- MOT_LOCK_N
  ⟨0x6130, 8, .f32, 1, 0x3d4ccccd, 0x3e4ccccd, [0x3e4ccccd], .direct⟩,  -- MOT_PLAUS_DSPD
  ⟨0x6131, 8, .u16, 1, 512, 5461, [5461], .direct⟩,  -- MOT_PLAUS_DANG
  ⟨0x6132, 8, .f32, 1, 0x3d4ccccd, 0x3e800000, [0x3e800000], .direct⟩,  -- MOT_PLAUS_EMF
  ⟨0x6133, 8, .u8, 1, 1, 8, [8], .direct⟩,  -- MOT_PLAUS_N
  ⟨0x6140, 8, .f32, 1, 0x3d4ccccd, 0x3f800000, [0x3f000000], .staged .slotOff⟩,  -- MOT_AS_THR
  ⟨0x6141, 8, .f32, 1, 0x3d4ccccd, 0x3f800000, [0x3f19999a], .direct⟩,  -- MOT_RECATCH
  ⟨0x6142, 8, .u8, 1, 1, 100, [10], .direct⟩,  -- MOT_FS_PERIOD
  ⟨0x6143, 8, .u8, 1, 2, 100, [20], .direct⟩,  -- MOT_FS_PULSE
  ⟨0x6144, 8, .u16, 1, 1, 500, [20], .direct⟩,  -- MOT_FS_RAMP
  ⟨0x6145, 8, .u8, 1, 1, 10, [3], .direct⟩,  -- MOT_FS_TRIES
  ⟨0x6150, 8, .u16, 1, 0, 10000, [500], .direct⟩,  -- MOT_STEP_HOLD_T
  ⟨0x6151, 8, .u16, 1, 5, 1000, [50], .direct⟩,  -- MOT_SRC_BLEND_T
  ⟨0x6152, 8, .angle, 1, 0, 65535, [2731], .direct⟩,  -- MOT_SRC_DANG
  ⟨0x6153, 8, .u32, 1, 0, 0xffffffff, [0], .ro⟩]  -- MOT_THETA

/-- Rows of block LE (Table CP-9). -/
def rowsLe : List PRow := [
  ⟨0x7100, 32, .u8, 1, 0, 4, [0], .staged .slotOff⟩,  -- LE_TEMPLATE
  ⟨0x7101, 32, .u8, 1, 0, 7, [0], .bound .slotOff⟩,  -- LE_MOTOR_SLOT
  ⟨0x7102, 32, .u8, 1, 0, 15, [0], .staged .slotOff⟩,  -- LE_TRIG
  ⟨0x7103, 32, .u8, 1, 0, 31, [0], .staged .slotOff⟩,  -- LE_SEQ_POS
  ⟨0x7104, 32, .u8, 1, 1, 16, [1], .staged .slotOff⟩,  -- LE_RATE_DIV
  ⟨0x7105, 32, .u8, 1, 0, 255, [255], .bound .slotOff⟩,  -- LE_UPSTREAM
  ⟨0x7106, 32, .u8, 1, 0, 255, [255], .bound .slotOff⟩,  -- LE_FB_SRC
  ⟨0x7107, 32, .f32, 1, 0xff7fffff, 0x7f7fffff, [0x3f800000], .bound .slotOff⟩,  -- LE_FB_SCALE
  ⟨0x7110, 32, .f32, 2, 0, 0x7f7fffff, [0, 0], .bound .open_⟩,  -- LE_KP
  ⟨0x7111, 32, .f32, 2, 0, 0x7f7fffff, [0, 0], .bound .open_⟩,  -- LE_KI
  ⟨0x7112, 32, .f32, 1, 0x3727c5ac, 0x41200000, [0x3c23d70a], .bound .open_⟩,  -- LE_TT
  ⟨0x7113, 32, .f32, 1, 0xff7fffff, 0x7f7fffff, [0], .bound .open_⟩,  -- LE_KFF
  ⟨0x7114, 32, .u8, 1, 0, 1, [1], .bound .open_⟩,  -- LE_DECOUPLE
  ⟨0x7115, 32, .f32, 1, 0xff7fffff, 0x7f7fffff, [0xbf800000], .bound .open_⟩,  -- LE_OUT_MIN
  ⟨0x7116, 32, .f32, 1, 0xff7fffff, 0x7f7fffff, [0x3f800000], .bound .open_⟩,  -- LE_OUT_MAX
  ⟨0x7117, 32, .f32, 1, 0x800000, 0x7f7fffff, [0x3f800000], .bound .open_⟩,  -- LE_INT_MAX
  ⟨0x7118, 32, .f32, 1, 0x3f000000, 0x3f800000, [0x3f733333], .bound .open_⟩,  -- LE_VLIM
  ⟨0x7119, 32, .u8, 1, 0, 1, [1], .bound .open_⟩,  -- LE_DTCOMP
  ⟨0x711A, 32, .f32, 1, 0xff7fffff, 0x7f7fffff, [0], .direct⟩,  -- LE_ID_REF
  ⟨0x711B, 32, .u8, 1, 0, 1, [0], .bound .slotOff⟩,  -- LE_FORCE_OUT
  ⟨0x711C, 32, .f32, 1, 0x800000, 0x7f7fffff, [0x3f800000], .bound .open_⟩,  -- LE_IN_RANGE
  ⟨0x7120, 32, .u8, 1, 1, 32, [3], .direct⟩,  -- LE_HOLD_N
  ⟨0x7121, 32, .u16, 1, 1, 5000, [200], .direct⟩,  -- LE_RAMP_T
  ⟨0x7130, 32, .u16, 1, 5, 5000, [100], .direct⟩,  -- LE_BLEND_T
  ⟨0x7131, 32, .f32, 1, 0x3c23d70a, 0x3f800000, [0x3dcccccd], .direct⟩,  -- LE_HO_DISAGREE
  ⟨0x7132, 32, .f32, 1, 0x3fc00000, 0x41200000, [0x40400000], .direct⟩,  -- LE_HO_ERR_MAX
  ⟨0x7133, 32, .u16, 1, 4, 1000, [32], .direct⟩,  -- LE_HO_SAT_N
  ⟨0x7140, 32, .f32, 1, 0, 0x3f000000, [0x3e4ccccd], .direct⟩,  -- LE_INJ_AMAX
  ⟨0x7150, 1, .u8, 1, 1, 100, [2], .staged .outerOff⟩,  -- LE_OUTER_DIV
  ⟨0x7151, 1, .edge, 1, 0, 0xc34fff, [0x1f400], .staged .outerOff⟩,  -- LE_OUTER_PHASE
  ⟨0x7160, 32, .u16, 1, 0, 65535, [0], .ro⟩,  -- LE_STATE
  ⟨0x7161, 1, .u16, 1, 0, 65535, [0], .ro⟩]  -- LE_LOAD

/-- Rows of block MP (Table CP-9). -/
def rowsMp : List PRow := [
  ⟨0x8100, 8, .u8, 1, 0, 23, [0], .staged .idle⟩,  -- MP_TICK_SRC
  ⟨0x8101, 8, .u16, 1, 1, 1000, [1], .staged .idle⟩,  -- MP_TICK_DIV
  ⟨0x8102, 8, .f32, 1, 0x800000, 0x7f7fffff, [0x3f800000], .direct⟩,  -- MP_VMAX
  ⟨0x8103, 8, .f32, 1, 0x800000, 0x7f7fffff, [0x41200000], .direct⟩,  -- MP_AMAX
  ⟨0x8104, 8, .f32, 1, 0x800000, 0x7f7fffff, [0x41200000], .direct⟩,  -- MP_DMAX
  ⟨0x8105, 8, .f32, 1, 0x800000, 0x7f7fffff, [0x42c80000], .direct⟩,  -- MP_JMAX
  ⟨0x8106, 8, .f32, 1, 0x800000, 0x7f7fffff, [0x41a00000], .direct⟩,  -- MP_QSTOP_D
  ⟨0x8107, 8, .f32, 1, 0xff7fffff, 0x7f7fffff, [0xce6e6b28], .bound .idle⟩,  -- MP_POS_MIN
  ⟨0x8108, 8, .f32, 1, 0xff7fffff, 0x7f7fffff, [0x4e6e6b28], .bound .idle⟩,  -- MP_POS_MAX
  ⟨0x810A, 8, .u8, 1, 1, 32, [3], .direct⟩,  -- MP_STREAM_HOLD_N
  ⟨0x810B, 8, .u8, 1, 0, 255, [0], .ro⟩,  -- MP_STATE
  ⟨0x8110, 8, .u8, 1, 0, 7, [0], .bound .slotOff⟩,  -- MP_STEP_GEN
  ⟨0x8111, 8, .f32, 1, 0x3d4ccccd, 0x41000000, [0x3f800000], .direct⟩,  -- MP_STEP_I_RUN
  ⟨0x8112, 8, .f32, 1, 0, 0x41000000, [0x3e99999a], .direct⟩,  -- MP_STEP_I_HOLD
  ⟨0x8113, 8, .u16, 1, 1, 5000, [200], .direct⟩,  -- MP_STEP_IDLE_T
  ⟨0x8114, 8, .f32, 1, 0x3c23d70a, 0x42480000, [0x3f800000], .bound .slotOff⟩,  -- MP_STEP_R
  ⟨0x8115, 8, .f32, 1, 0x3727c5ac, 0x3f000000, [0x3b03126f], .bound .slotOff⟩,  -- MP_STEP_L
  ⟨0x8116, 8, .f32, 1, 0, 0x3f800000, [0], .bound .slotOff⟩,  -- MP_STEP_KE
  ⟨0x8117, 8, .f32, 1, 0x3f000000, 0x3f800000, [0x3f733333], .direct⟩,  -- MP_STEP_VLIM
  ⟨0x8118, 4, .s32, 1, 0x80000000, 0x7fffffff, [0], .ro⟩,  -- MP_STEP_POS
  ⟨0x8119, 4, .u16, 1, 1, 65535, [1024], .direct⟩,  -- MP_STEP_MAXJUMP
  ⟨0x811A, 8, .u8, 1, 0, 1, [0], .bound .slotOff⟩,  -- MP_STEP_SELFLOCK
  ⟨0x8120, 8, .u8, 1, 0, 255, [255], .bound .slotOff⟩,  -- MP_ENC_SRC
  ⟨0x8121, 8, .f32, 1, 0x800000, 0x7f7fffff, [0x43000000], .bound .slotOff⟩,  -- MP_ENC_RATIO
  ⟨0x8122, 8, .u16, 1, 128, 4096, [384], .direct⟩,  -- MP_DEV_WIN
  ⟨0x8123, 8, .u8, 1, 1, 16, [3], .direct⟩,  -- MP_DEV_N
  ⟨0x8130, 8, .u8, 1, 0, 1, [1], .staged .idle⟩,  -- MP_REF_METHOD
  ⟨0x8131, 8, .u8, 1, 0, 1, [0], .bound .idle⟩,  -- MP_REF_DIR
  ⟨0x8132, 8, .f32, 1, 0, 0x7f7fffff, [0], .bound .idle⟩,  -- MP_REF_SPEED
  ⟨0x8133, 8, .f32, 1, 0, 0x41000000, [0x3f000000], .bound .idle⟩,  -- MP_REF_I
  ⟨0x8134, 8, .u8, 1, 0, 255, [255], .staged .idle⟩,  -- MP_REF_PIN
  ⟨0x8135, 8, .u8, 1, 0, 1, [1], .bound .idle⟩,  -- MP_REF_EDGE
  ⟨0x8136, 8, .f32, 1, 0xff7fffff, 0x7f7fffff, [0], .direct⟩,  -- MP_REF_OFFSET
  ⟨0x8137, 8, .f32, 1, 0x800000, 0x7f7fffff, [0x49742400], .direct⟩,  -- MP_REF_MAXTRAVEL
  ⟨0x8140, 8, .u8, 1, 0, 3, [0], .bound .slotOff⟩,  -- MP_PAIR
  ⟨0x8141, 8, .u16, 1, 16, 1024, [64], .direct⟩]  -- MP_PAIR_DEV

/-- Rows of block FN (Table CP-9). -/
def rowsFn : List PRow := [
  ⟨0x9100, 1, .u16, 1, 20, 2000, [200], .direct⟩,  -- FN_CMD_HOLD_T
  ⟨0x9101, 1, .u8, 1, 1, 100, [20], .direct⟩,  -- FN_STREAM_HOLD_N
  ⟨0x9102, 1, .f32, 1, 0x3f000000, 0x40800000, [0x40000000], .direct⟩,  -- FN_BA_DECEL
  ⟨0x9103, 1, .f32, 1, 0x3f000000, 0x41200000, [0x40000000], .direct⟩,  -- FN_BA_JERK
  ⟨0x9104, 1, .f32, 1, 0x3f800000, 0x48c35000, [0x461c4000], .bound .fnOff⟩,  -- FN_BA_MASS
  ⟨0x9105, 1, .u8, 1, 5, 100, [20], .direct⟩,  -- FN_PARK_T
  ⟨0x9110, 1, .f32, 1, 0xc2700000, 0, [0xc2340000], .bound .fnOff⟩,  -- FN_ST_ANG_MIN
  ⟨0x9111, 1, .f32, 1, 0, 0x42700000, [0x42340000], .bound .fnOff⟩,  -- FN_ST_ANG_MAX
  ⟨0x9112, 1, .f32, 1, 0x3f800000, 0x42700000, [0x41a00000], .direct⟩,  -- FN_ST_RATE_MAX
  ⟨0x9113, 1, .f32, 1, 0x3f000000, 0x41a00000, [0x40000000], .direct⟩,  -- FN_ST_RETURN_RATE
  ⟨0x9120, 4, .f32, 1, 0x3f800000, 0x43480000, [0x42a00000], .bound .fnOff⟩,  -- FN_BR_FMAX
  ⟨0x9121, 4, .f32, 1, 0x3e4ccccd, 0x41200000, [0x40000000], .direct⟩,  -- FN_BR_CONTACT_F
  ⟨0x9122, 4, .f32, 16, 0xff7fffff, 0x7f7fffff, [0, 0, 0x3f800000, 0x41a00000, 0x40000000, 0x42200000, 0x40400000, 0x42700000, 0x40800000, 0x42a00000, 0x40a00000, 0x42c80000, 0x40c00000, 0x42f00000, 0x40e00000, 0x430c0000], .bound .fnOff⟩,  -- FN_BR_STIFF
  ⟨0x9123, 4, .f32, 1, 0x3d4ccccd, 0x3f000000, [0x3e4ccccd], .direct⟩,  -- FN_BR_EST_TOL
  ⟨0x9124, 4, .f32, 1, 0x800000, 0x7f7fffff, [0x3f800000], .bound .fnOff⟩,  -- FN_BR_KF
  ⟨0x9125, 4, .f32, 1, 0xff7fffff, 0x7f7fffff, [0x40000000], .direct⟩,  -- FN_BR_XC_NOM
  ⟨0x9126, 4, .f32, 1, 0xff7fffff, 0x7f7fffff, [0x40200000], .direct⟩,  -- FN_BR_XC_MAX
  ⟨0x9127, 4, .f32, 1, 0x800000, 0x7f7fffff, [0x3e428f5c], .bound .fnOff⟩,  -- FN_BR_GAIN
  ⟨0x9128, 4, .f32, 1, 0xff7fffff, 0x7f7fffff, [0], .ro⟩,  -- FN_BR_WEAR
  ⟨0x9129, 4, .f32, 1, 0xff7fffff, 0x7f7fffff, [0x49fa0000], .bound .fnOff⟩,  -- FN_SA_RATIO
  ⟨0x912A, 1, .u16, 1, 5, 300, [20], .direct⟩,  -- FN_SA_QUIET_T
  ⟨0x9130, 1, .f32, 1, 0x3dcccccd, 0x40a00000, [0x3fb33333], .direct⟩,  -- FN_SB_VMAX
  ⟨0x9131, 1, .u16, 1, 20, 1000, [100], .direct⟩,  -- FN_SB_REFRESH_T
  ⟨0x9132, 1, .u16, 1, 1, 600, [60], .direct⟩,  -- FN_SB_TEST_PERIOD
  ⟨0x9133, 1, .u8, 1, 5, 100, [20], .direct⟩,  -- FN_SB_TEST_T
  ⟨0x9140, 1, .f32, 1, 0x3f800000, 0x43480000, [0x41a00000], .bound .fnOff⟩,  -- FN_RT_CLINK
  ⟨0x9141, 1, .f32, 1, 0x42c80000, 0x44fa0000, [0x44bb8000], .bound .fnOff⟩,  -- FN_RT_VCH_ON
  ⟨0x9142, 2, .f32, 1, 0x3dcccccd, 0x42c80000, [0x40400000], .bound .fnOff⟩,  -- FN_RT_RSEC
  ⟨0x9143, 1, .f32, 1, 0x3f000000, 0x3f733333, [0x3f666666], .direct⟩,  -- FN_RT_MARGIN
  ⟨0x9144, 1, .f32, 1, 0x3dcccccd, 0x3f000000, [0x3e800000], .direct⟩,  -- FN_RT_CH_TOL
  ⟨0x9145, 1, .u8, 1, 2, 10, [3], .direct⟩,  -- FN_RT_CH_N
  ⟨0x9146, 1, .u8, 1, 0, 1, [0], .bound .fnOff⟩,  -- FN_RT_SECOND
  ⟨0x9147, 1, .u8, 1, 5, 200, [20], .direct⟩,  -- FN_RT_INH_MIN_T
  ⟨0x9148, 1, .f32, 1, 0x3f000000, 0x41a00000, [0x40a00000], .direct⟩,  -- FN_RT_LIM_SLEW
  ⟨0x9149, 1, .u8, 1, 1, 100, [20], .direct⟩,  -- FN_RT_HORIZON
  ⟨0x914A, 1, .f32, 1, 0, 0x3dcccccd, [0x3c23d70a], .direct⟩,  -- FN_RT_KV
  ⟨0x914B, 1, .u16, 1, 0, 819, [528], .bound .checkSync⟩,  -- FN_RT_DS_MAP
  ⟨0x914C, 1, .f32, 1, 0xff7fffff, 0x7f7fffff, [0], .ro⟩,  -- FN_RT_PLIM
  ⟨0x9150, 1, .u8, 1, 1, 100, [10], .direct⟩]  -- FN_OV2_HOLD_T

/-- Rows of block RED (Table CP-9). -/
def rowsRed : List PRow := [
  ⟨0xA100, 1, .u8, 1, 0, 63, [27], .bound .checkSync⟩,  -- RED_SENIORITY
  ⟨0xA101, 8, .f32, 1, 0x3ca3d70a, 0x3f000000, [0x3dcccccd], .direct⟩,  -- RED_VOTE_TOL
  ⟨0xA102, 1, .u8, 1, 2, 50, [5], .direct⟩,  -- RED_VOTE_N
  ⟨0xA103, 1, .u32, 256, 0, 0xfffffffe, [0], .bound .checkSync⟩,  -- RED_MIRROR_MAP
  ⟨0xA104, 1, .u16, 1, 0, 65535, [0], .ro⟩,  -- RED_MIRROR_LEN
  ⟨0xA105, 1, .u8, 1, 1, 10, [3], .direct⟩,  -- RED_MIRROR_MISS_N
  ⟨0xA110, 1, .u8, 1, 5, 120, [30], .direct⟩,  -- RED_ISLAND_GRACE
  ⟨0xA111, 1, .u8, 1, 1, 8, [2], .direct⟩,  -- RED_SPLIT_DECIDE_T
  ⟨0xA112, 1, .u8, 1, 1, 8, [3], .direct⟩,  -- RED_FOLLOW_AGE_MAX
  ⟨0xA120, 1, .u16, 1, 8, 256, [16], .direct⟩,  -- RED_RESYNC_N
  ⟨0xA121, 1, .u8, 1, 1, 10, [3], .direct⟩,  -- RED_RESYNC_TRIES
  ⟨0xA122, 1, .u16, 1, 5, 500, [20], .direct⟩,  -- RED_JOIN_RAMP_T
  ⟨0xA130, 1, .f32, 1, 0x40000000, 0x41f00000, [0x41b1999a], .direct⟩,  -- RED_VLIM1
  ⟨0xA131, 1, .f32, 1, 0x3f800000, 0x41700000, [0x4104cccd], .direct⟩,  -- RED_VLIM2
  ⟨0xA140, 1, .u32, 1, 0, 0xffffffff, [0], .ro⟩,  -- RED_HEALTH
  ⟨0xA141, 1, .u32, 1, 0, 0xffffffff, [0], .ro⟩]  -- RED_MODULE_STATUS

/-- Rows of block NET (Table CP-9). -/
def rowsNet : List PRow := [
  ⟨0xB100, 1, .u8, 1, 0, 1, [0], .direct⟩,  -- NET_TOPOLOGY
  ⟨0xB101, 1, .u16, 1, 250, 5000, [500], .staged .always⟩,  -- NET_CYCLE
  ⟨0xB102, 1, .u16, 1, 3, 400, [24], .staged .always⟩,  -- NET_STATIC_N
  ⟨0xB103, 1, .u16, 1, 0, 2000, [110], .staged .always⟩,  -- NET_MINISLOT_N
  ⟨0xB104, 1, .u8, 1, 40, 200, [40], .staged .always⟩,  -- NET_NIT
  ⟨0xB105, 1, .u8, 1, 0, 63, [0], .direct⟩,  -- NET_NODE_ID
  ⟨0xB106, 1, .u8, 1, 0, 63, [0], .staged .always⟩,  -- NET_LOOP_POS
  ⟨0xB107, 1, .u16, 4, 0, 400, [0, 0, 0, 0], .direct⟩,  -- NET_OWN_SLOTS
  ⟨0xB108, 1, .u8, 1, 0, 3, [0], .direct⟩,  -- NET_MASTER_RANK
  ⟨0xB109, 1, .u8, 1, 0, 3, [0], .direct⟩,  -- NET_CS_PRIO
  ⟨0xB10A, 1, .u8, 1, 5, 200, [10], .direct⟩,  -- NET_CS_BASE
  ⟨0xB10B, 1, .u8, 1, 2, 16, [4], .direct⟩,  -- NET_CS_CYCLES
  ⟨0xB10C, 1, .u8, 1, 0, 1, [0], .direct⟩,  -- NET_START_MODE
  ⟨0xB10D, 1, .u8, 1, 0, 255, [0], .direct⟩,  -- NET_DYN_ID
  ⟨0xB10E, 1, .u8, 1, 0, 8, [2], .direct⟩,  -- NET_DYN_MAX
  ⟨0xB10F, 1, .u8, 1, 0, 200, [40], .direct⟩,  -- NET_DYN_BUDGET
  ⟨0xB110, 1, .u8, 1, 1, 64, [9], .direct⟩,  -- NET_QUORUM
  ⟨0xB111, 1, .u8, 1, 1, 16, [3], .direct⟩,  -- NET_PART_N
  ⟨0xB112, 1, .u8, 1, 1, 10, [5], .direct⟩,  -- NET_OCORR_MAX
  ⟨0xB113, 1, .u16, 1, 50, 500, [200], .direct⟩,  -- NET_RATE_MAX
  ⟨0xB114, 1, .u8, 1, 2, 32, [8], .direct⟩,  -- NET_SYNC_LOSS_N
  ⟨0xB115, 1, .u8, 1, 2, 100, [16], .direct⟩,  -- NET_CH_LOSS_T
  ⟨0xB116, 1, .u8, 1, 1, 32, [8], .direct⟩,  -- NET_HOST_HOLD_N
  ⟨0xB118, 1, .u8, 1, 5, 50, [10], .direct⟩,  -- NET_SKEW_MAX
  ⟨0xB119, 1, .u16, 1, 50, 5000, [500], .direct⟩,  -- NET_T_REJOIN
  ⟨0xB120, 1, .u8, 1, 0, 255, [0], .ro⟩,  -- NET_STATE
  ⟨0xB121, 1, .f32, 2, 0xff7fffff, 0x7f7fffff, [0, 0], .ro⟩,  -- NET_OFFSET
  ⟨0xB122, 1, .f32, 2, 0xff7fffff, 0x7f7fffff, [0, 0], .ro⟩,  -- NET_HOP
  ⟨0xB123, 1, .f32, 2, 0xff7fffff, 0x7f7fffff, [0, 0], .ro⟩,  -- NET_RETURN
  ⟨0xB124, 1, .u64, 1, 0, 0xffffffffffffffff, [0], .ro⟩,  -- NET_CYCLE_CNT
  ⟨0xB130, 1, .u8, 1, 0, 1, [0], .direct⟩,  -- NET_PROTOCOL
  ⟨0xB131, 1, .u16, 1, 1536, 65535, [34997], .direct⟩,  -- NET_ETHERTYPE
  ⟨0xB132, 1, .u8, 1, 4, 64, [16], .direct⟩,  -- NET_AUTH_LOSS_N
  ⟨0xB133, 1, .u8, 1, 1, 64, [8], .direct⟩,  -- NET_EPOCH_GRACE
  ⟨0xB134, 1, .u8, 1, 1, 8, [4], .direct⟩,  -- NET_DYN_RX_MAX
  ⟨0xB135, 2, .u8, 1, 0, 255, [0], .ro⟩,  -- NET_EPOCH
  ⟨0xB136, 65, .u32, 7, 0, 0xffffffff, [0, 0, 0, 0, 0, 0, 0], .ro⟩,  -- NET_RX_COUNTERS
  ⟨0xB137, 1, .u8, 1, 3, 63, [16], .staged .always⟩,  -- NET_I1_SLOT_N
  ⟨0xB138, 1, .u16, 1, 100, 500, [200], .staged .always⟩,  -- NET_I1_NIT
  ⟨0xB140, 2, .u8, 1, 0, 2, [0], .bound .checkSync⟩,  -- NET_DL_ROLE
  ⟨0xB141, 1, .u8, 1, 0, 36, [10], .bound .checkSync⟩,  -- NET_DL_PHASE
  ⟨0xB142, 2, .u8, 1, 2, 10, [3], .direct⟩,  -- NET_DL_LOSS_N
  ⟨0xB150, 2, .u8, 1, 0, 2, [0], .bound .checkSync⟩,  -- NET_CAN_MODE
  ⟨0xB151, 2, .u16, 1, 125, 1000, [500], .bound .checkSync⟩,  -- NET_CAN_ARB
  ⟨0xB152, 2, .u8, 1, 1, 10, [2], .bound .checkSync⟩,  -- NET_CAN_DATA
  ⟨0xB153, 2, .u16, 1, 0, 1000, [10], .direct⟩,  -- NET_CAN_STAT_T
  ⟨0xB154, 2, .u8, 1, 1, 64, [16], .direct⟩,  -- NET_CAN_RX_MAX
  ⟨0xB155, 2, .u8, 1, 1, 16, [8], .direct⟩,  -- NET_CAN_BOFF_N
  ⟨0xB170, 1, .u8, 1, 0, 1, [1], .direct⟩]  -- NET_CICADA_FWD

/-- Rows of block PWR (Table CP-9). -/
def rowsPwr : List PRow := [
  ⟨0xC100, 1, .u8, 1, 0, 1, [1], .direct⟩,  -- PWR_SHUTDOWN_BIST
  ⟨0xC101, 1, .u8, 1, 0, 7, [7], .direct⟩,  -- PWR_WAKE_EN
  ⟨0xC102, 1, .u8, 1, 0, 1, [1], .direct⟩,  -- PWR_SAVE_EN
  ⟨0xC103, 1, .u16, 1, 1, 600, [20], .direct⟩,  -- PWR_CHRYS_AGE_MAX
  ⟨0xC104, 1, .f32, 1, 0xff7fffff, 0x7f7fffff, [0], .ro⟩,  -- PWR_HOLD_V
  ⟨0xC105, 1, .f32, 1, 0xff7fffff, 0x7f7fffff, [0], .ro⟩,  -- PWR_VSUP_V
  ⟨0xC106, 1, .u32, 1, 0, 0xffffffff, [0], .ro⟩,  -- PWR_AON_STATUS
  ⟨0xC107, 8, .u32, 1, 0, 0xffffffff, [0], .ro⟩,  -- PWR_REQ_COUNTERS
  ⟨0xD100, 1, .u16, 1, 0, 65535, [65534], .direct⟩,  -- BIST_SHUTDOWN_MASK
  ⟨0xD101, 1, .u8, 1, 85, 135, [125], .direct⟩,  -- BIST_TMAX
  ⟨0xD102, 1, .u16, 1, 1, 720, [168], .direct⟩,  -- BIST_FRESH_MAX
  ⟨0xD103, 1, .u8, 1, 0, 1, [1], .direct⟩,  -- BIST_FRESH_UNKNOWN
  ⟨0xD104, 1, .u16, 1, 0, 65535, [0], .ro⟩,  -- BIST_STATE
  ⟨0xD105, 16, .u32, 1, 0, 0xffffffff, [0], .ro⟩,  -- BIST_EXPECT
  ⟨0xD106, 1, .u32, 1, 0, 0xffffffff, [0], .ro⟩,  -- BIST_SUMMARY
  ⟨0xE100, 1, .u8, 1, 0, 1, [1], .direct⟩,  -- MEM_WEEVIL_EN
  ⟨0xE101, 1, .u16, 1, 1, 1000, [10], .direct⟩,  -- MEM_WEEVIL_INT
  ⟨0xE102, 1, .u32, 1, 0, 0xffffffff, [0], .ro⟩,  -- MEM_WEEVIL_POS
  ⟨0xE103, 1, .u32, 1, 0, 0xffffffff, [0], .ro⟩,  -- MEM_SPARES
  ⟨0xE104, 1, .u32, 32, 0, 0xffffffff, List.replicate 32 0, .ro⟩,  -- MEM_CRITICAL
  ⟨0xE105, 1, .u32, 4, 0, 0xffffffff, [0, 0, 0, 0], .ro⟩,  -- MEM_ECC_COUNT
  ⟨0xE106, 1, .u16, 1, 1, 3600, [60], .direct⟩,  -- MEM_MRAM_SCRUB_T
  ⟨0xE107, 1, .u32, 1, 0, 0xffffffff, [0], .ro⟩,  -- MEM_MRAM_WEAR
  ⟨0xE108, 1, .u16, 1, 0, 65535, [65534], .direct⟩,  -- MEM_LOG_MASK
  ⟨0xE109, 1, .u32, 1, 0, 0xffffffff, [0], .ro⟩,  -- MEM_LOG_STATE
  ⟨0xE10A, 1, .u32, 1, 0, 0xffffffff, [0], .ro⟩]  -- MEM_LOCKSTEP_TEST

/-- The rows of the block that the top nibble of an ID names (R369). -/
def prowsOf (id : Nat) : List PRow :=
  match id / 0x1000 with
  | 1 => rowsSys | 2 => rowsGd | 3 => rowsPwm | 4 => rowsSns | 5 => rowsPos | 6 => rowsMot
  | 7 => rowsLe | 8 => rowsMp | 9 => rowsFn | 10 => rowsRed | 11 => rowsNet
  | 12 => rowsPwr | 13 => rowsPwr | 14 => rowsPwr
  | _ => []

/-- The row of a parameter ID; none for an ID that no table defines (R369). -/
def prow (id : Nat) : Option PRow := (prowsOf id).find? (fun r => r.id == id)

end Sys2Proof.Machine
end

