-- ==== Sys2Proof/Machine/Float.lean ====
section
/-! DEFINITION. Binary32 and binary64 arithmetic as R158 asks for it: round to nearest even, results below the smallest normal number replaced by zero. -/

namespace Sys2Proof.Machine

/-- A binary interchange format: exponent and fraction widths. -/
structure Fmt where
  eb : Nat
  fb : Nat
deriving DecidableEq, Repr

def b32 : Fmt := ⟨8, 23⟩
def b64 : Fmt := ⟨11, 52⟩

/-- An unpacked number: `fin s m e` is (−1)^s · m · 2^e. -/
inductive Num where
  | nan
  | inf (s : Bool)
  | fin (s : Bool) (m : Nat) (e : Int)
deriving DecidableEq, Repr

def Fmt.bias (f : Fmt) : Nat := 2 ^ (f.eb - 1) - 1
def Fmt.emax (f : Fmt) : Nat := 2 ^ f.eb - 1
def Fmt.inf (f : Fmt) (s : Bool) : Nat := (if s then 2 ^ (f.eb + f.fb) else 0) + f.emax * 2 ^ f.fb
def Fmt.nan (f : Fmt) : Nat := f.inf false + 2 ^ (f.fb - 1)
def Fmt.zero (f : Fmt) (s : Bool) : Nat := if s then 2 ^ (f.eb + f.fb) else 0

/-- Reads a word; a subnormal operand counts as zero (R158). -/
def Fmt.dec (f : Fmt) (w : Nat) : Num :=
  let s := w / 2 ^ (f.eb + f.fb) % 2 == 1
  let e := w / 2 ^ f.fb % 2 ^ f.eb
  let m := w % 2 ^ f.fb
  if e == f.emax then (if m == 0 then .inf s else .nan)
  else if e == 0 then .fin s 0 0
  else .fin s (m + 2 ^ f.fb) ((e : Int) - f.bias - f.fb)

/-- Rounds (m + ε)·2^e to nearest even, where ε in (0, 1) stands when `sticky` holds; a result below the normal range is zero (R158). -/
def Fmt.round (f : Fmt) (s : Bool) (m : Nat) (e : Int) (sticky : Bool) : Nat :=
  if m == 0 then f.zero s else
  let sh : Int := (Nat.log2 m : Int) - f.fb
  let k := sh.toNat
  let q0 := if sh ≤ 0 then m * 2 ^ (-sh).toNat else m / 2 ^ k
  let rem := if sh ≤ 0 then 0 else m % 2 ^ k
  let half := if sh ≤ 0 then 1 else 2 ^ (k - 1)
  let up := decide (rem > half) || (rem == half && (sticky || q0 % 2 == 1))
  let q1 := if up then q0 + 1 else q0
  let carry := q1 == 2 ^ (f.fb + 1)
  let q := if carry then 2 ^ f.fb else q1
  let be : Int := e + sh + (if carry then 1 else 0) + f.fb + f.bias
  if be ≥ f.emax then f.inf s
  else if be ≤ 0 then f.zero s
  else f.zero s + be.toNat * 2 ^ f.fb + (q - 2 ^ f.fb)

/-- The integer m·2^(e − d) with its sign, for an exponent d not above e. -/
def scaled (s : Bool) (m : Nat) (e d : Int) : Int :=
  let v : Int := (m * 2 ^ (e - d).toNat : Nat)
  if s then -v else v

def Fmt.add (f : Fmt) (a b : Nat) : Nat :=
  match f.dec a, f.dec b with
  | .nan, _ => f.nan
  | _, .nan => f.nan
  | .inf s, .inf t => if s == t then f.inf s else f.nan
  | .inf s, _ => f.inf s
  | _, .inf t => f.inf t
  | .fin s m e, .fin t n g =>
    if m == 0 && n == 0 then f.zero (s && t) else
    let d := if m == 0 then g else if n == 0 then e else min e g
    let v := (if m == 0 then 0 else scaled s m e d) + (if n == 0 then 0 else scaled t n g d)
    f.round (decide (v < 0)) v.natAbs d false

def Fmt.neg (f : Fmt) (a : Nat) : Nat :=
  if a / 2 ^ (f.eb + f.fb) % 2 == 1 then a - 2 ^ (f.eb + f.fb) else a + 2 ^ (f.eb + f.fb)

def Fmt.mul (f : Fmt) (a b : Nat) : Nat :=
  match f.dec a, f.dec b with
  | .nan, _ => f.nan
  | _, .nan => f.nan
  | .inf s, .inf t => f.inf (s != t)
  | .inf s, .fin t n _ => if n == 0 then f.nan else f.inf (s != t)
  | .fin s m _, .inf t => if m == 0 then f.nan else f.inf (s != t)
  | .fin s m e, .fin t n g => f.round (s != t) (m * n) (e + g) false

/-- Fused multiply-add a·b + c, rounded once (R158). -/
def Fmt.fma (f : Fmt) (a b c : Nat) : Nat :=
  match f.dec a, f.dec b, f.dec c with
  | .fin s m e, .fin t n g, .fin u k h =>
    let p := m * n
    if p == 0 && k == 0 then f.zero ((s != t) && u) else
    let d := if p == 0 then h else if k == 0 then e + g else min (e + g) h
    let v := (if p == 0 then 0 else scaled (s != t) p (e + g) d) + (if k == 0 then 0 else scaled u k h d)
    f.round (decide (v < 0)) v.natAbs d false
  | _, _, _ => f.add (f.mul a b) c

def Fmt.div (f : Fmt) (a b : Nat) : Nat :=
  match f.dec a, f.dec b with
  | .nan, _ => f.nan
  | _, .nan => f.nan
  | .inf _, .inf _ => f.nan
  | .inf s, .fin t _ _ => f.inf (s != t)
  | .fin s _ _, .inf t => f.zero (s != t)
  | .fin s m e, .fin t n g =>
    if n == 0 then (if m == 0 then f.nan else f.inf (s != t))
    else
      let k := 2 * f.fb + 4
      let num := m * 2 ^ k
      f.round (s != t) (num / n) (e - g - k) (num % n != 0)

/-- Square root; of a negative number NaN. -/
def Fmt.sqrt (f : Fmt) (a : Nat) : Nat :=
  match f.dec a with
  | .nan => f.nan
  | .inf s => if s then f.nan else f.inf false
  | .fin s m e =>
    if m == 0 then f.zero s
    else if s then f.nan
    else
      let e' := if e % 2 == 0 then e else e - 1
      let m' := (if e % 2 == 0 then m else 2 * m) * 2 ^ (2 * f.fb + 4)
      let r := Nat.sqrt m'
      f.round false r (e' / 2 - (f.fb + 2)) (r * r != m')

/-- Less than; false where either is NaN. -/
def Fmt.lt (f : Fmt) (a b : Nat) : Bool :=
  match f.dec a, f.dec b with
  | .nan, _ => false
  | _, .nan => false
  | .inf s, .inf t => s && !t
  | .inf s, _ => s
  | _, .inf t => !t
  | .fin s m e, .fin t n g =>
    let d := if m == 0 then g else if n == 0 then e else min e g
    decide ((if m == 0 then 0 else scaled s m e d) < (if n == 0 then 0 else scaled t n g d))

def Fmt.isNan (f : Fmt) (a : Nat) : Bool := match f.dec a with | .nan => true | _ => false
def Fmt.isFin (f : Fmt) (a : Nat) : Bool := match f.dec a with | .fin .. => true | _ => false

/-- The quotient of an integer and a positive number, rounded. -/
def Fmt.ofRat (f : Fmt) (n : Int) (d : Nat) : Nat :=
  if d == 0 then f.nan else
  let k := 2 * f.fb + 4 + Nat.log2 d
  let num := n.natAbs * 2 ^ k
  f.round (decide (n < 0)) (num / d) (-(k : Int)) (num % d != 0)

/-- Numerator and denominator of a finite number; 0 for NaN and infinity. -/
def Fmt.toRat (f : Fmt) (a : Nat) : Int × Nat :=
  match f.dec a with
  | .fin s m e =>
    let v : Int := (m * 2 ^ e.toNat : Nat)
    (if s then -v else v, 2 ^ (-e).toNat)
  | _ => (0, 1)

/-- Rounds n/d to the nearest integer, halves to even. -/
def ratRound (n : Int) (d : Nat) : Int :=
  let q := n / d
  let r := n % d
  if 2 * r > d then q + 1 else if 2 * r == d then (if q % 2 == 0 then q else q + 1) else q

def fadd (a b : F32) : F32 := .ofNat 32 (b32.add a.toNat b.toNat)
def fneg (a : F32) : F32 := .ofNat 32 (b32.neg a.toNat)
def fsub (a b : F32) : F32 := fadd a (fneg b)
def fmul (a b : F32) : F32 := .ofNat 32 (b32.mul a.toNat b.toNat)
def ffma (a b c : F32) : F32 := .ofNat 32 (b32.fma a.toNat b.toNat c.toNat)
def fdiv (a b : F32) : F32 := .ofNat 32 (b32.div a.toNat b.toNat)
def fsqrt (a : F32) : F32 := .ofNat 32 (b32.sqrt a.toNat)
def flt (a b : F32) : Bool := b32.lt a.toNat b.toNat
def fle (a b : F32) : Bool := !(b32.isNan a.toNat || b32.isNan b.toNat) && !flt b a
def fgt (a b : F32) : Bool := flt b a
def fge (a b : F32) : Bool := fle b a
def ffinite (a : F32) : Bool := b32.isFin a.toNat
def fabs (a : F32) : F32 := if flt a 0 then fneg a else a
def fmin (a b : F32) : F32 := if flt b a then b else a
def fmax (a b : F32) : F32 := if flt a b then b else a
def fclamp (lo hi a : F32) : F32 := fmin hi (fmax lo a)
/-- The binary32 number nearest n/d. -/
def fq (n : Int) (d : Nat) : F32 := .ofNat 32 (b32.ofRat n d)
def fi (n : Int) : F32 := fq n 1
/-- The integer nearest a·n/d, halves to even. -/
def fto (a : F32) (n : Int) (d : Nat) : Int :=
  let r := b32.toRat a.toNat
  ratRound (r.1 * n) (r.2 * d)
/-- The floor of a·n/d. -/
def ffloor (a : F32) (n : Int) (d : Nat) : Int :=
  let r := b32.toRat a.toNat
  (r.1 * n) / ((r.2 * d : Nat) : Int)
def f0 : F32 := 0
def f1 : F32 := 0x3F800000

def dadd (a b : W64) : W64 := .ofNat 64 (b64.add a.toNat b.toNat)
def dneg (a : W64) : W64 := .ofNat 64 (b64.neg a.toNat)
def dsub (a b : W64) : W64 := dadd a (dneg b)
def dmul (a b : W64) : W64 := .ofNat 64 (b64.mul a.toNat b.toNat)
def ddiv (a b : W64) : W64 := .ofNat 64 (b64.div a.toNat b.toNat)
def dlt (a b : W64) : Bool := b64.lt a.toNat b.toNat
def dle (a b : W64) : Bool := !(b64.isNan a.toNat || b64.isNan b.toNat) && !dlt b a
def dabs (a : W64) : W64 := if dlt a 0 then dneg a else a
def dq (n : Int) (d : Nat) : W64 := .ofNat 64 (b64.ofRat n d)
/-- Widens a binary32 number. -/
def dofF (a : F32) : W64 :=
  match b32.dec a.toNat with
  | .nan => .ofNat 64 b64.nan
  | .inf s => .ofNat 64 (b64.inf s)
  | .fin s m e => .ofNat 64 (b64.round s m e false)
/-- Narrows a binary64 number to binary32. -/
def fofD (a : W64) : F32 :=
  match b64.dec a.toNat with
  | .nan => .ofNat 32 b32.nan
  | .inf s => .ofNat 32 (b32.inf s)
  | .fin s m e => .ofNat 32 (b32.round s m e false)
/-- The integer nearest a, halves to even. -/
def dto (a : W64) : Int :=
  let r := b64.toRat a.toNat
  ratRound r.1 r.2

end Sys2Proof.Machine
end

