-- ==== Sys2Proof/Machine/Trig.lean ====
section
/-! DEFINITION. Sine, cosine, the angle of a vector, and powers, which rules name as mathematical functions (R143, R144, R151, R173, R194): summed as series in fixed point and rounded to the nearest binary32 number (log entry 88). -/

namespace Sys2Proof.Machine

/-- Fixed-point numbers with 96 fraction bits. -/
def fx1 : Int := 2 ^ 96
def fxMul (a b : Int) : Int := a * b / fx1
def fxQ (n : Int) (d : Nat) : Int := n * fx1 / (max 1 d : Nat)
def fxF (a : F32) : Int := let r := b32.toRat a.toNat; fxQ r.1 r.2
def fxToF (v : Int) : F32 := fq v (2 ^ 96)

/-- π in units of 2^-240. -/
def piBig : Int := 5550713758724461735233077129787137796835226094488409880962709825408003150
def fxPi : Int := 248902613312231085230521944622
def fxLn2 : Int := 54916777467707473351141471128
/-- The arc tangent of 1/2. -/
def fxAtanHalf : Int := 36733948115265955625643942646

/-- An angle in radians brought into one revolution about zero, in fixed point. -/
def fxAngle (a : F32) : Int :=
  let r := b32.toRat a.toNat
  let k := ratRound (r.1 * 2 ^ 240) (r.2 * (2 * piBig).toNat)
  (r.1 * 2 ^ 240 / (r.2 : Int) - 2 * k * piBig) / 2 ^ 144

/-- Sum of a power series: from a term to the next by x² over a product that grows. -/
def fxSeries (sq : Int) (div : Nat → Int) : Nat → Nat → Int → Int
  | 0, _, _ => 0
  | f + 1, n, t => t + fxSeries sq div f (n + 1) (-(fxMul t sq) / div n)

/-- Sine and cosine of an angle within one revolution. -/
def fxSin (x : Int) : Int := fxSeries (fxMul x x) (fun n => ((2 * n + 2) * (2 * n + 3) : Nat)) 34 0 x
def fxCos (x : Int) : Int := fxSeries (fxMul x x) (fun n => ((2 * n + 1) * (2 * n + 2) : Nat)) 34 0 fx1

/-- x − x³/3 + x⁵/5 … for the given sign of x², below 0.35 in magnitude. -/
def fxOdd (sq : Int) : Nat → Nat → Int → Int
  | 0, _, _ => 0
  | f + 1, n, t => t / ((2 * n + 1 : Nat) : Int) + fxOdd sq f (n + 1) (fxMul t sq)

/-- Arc tangent of a number from 0 to 1. -/
def fxAtan (x : Int) : Int :=
  let small (y : Int) : Int := fxOdd (-(fxMul y y)) 36 0 y
  if 4 * x ≤ fx1 then small x else fxAtanHalf + small (fxQ (2 * x - fx1) (2 * fx1 + x).toNat)

/-- Angle of the vector (y, x), of which one is not zero. -/
def fxAtan2 (y x : Int) : Int :=
  let ay : Int := y.natAbs
  let ax : Int := x.natAbs
  let a := if ay ≤ ax then fxAtan (fxQ ay ax.toNat) else fxPi / 2 - fxAtan (fxQ ax ay.toNat)
  let a := if x < 0 then fxPi - a else a
  if y < 0 then -a else a

/-- Natural logarithm of a positive fraction. -/
def fxLn (n d : Nat) : Int :=
  let e : Int := (Nat.log2 n : Int) - Nat.log2 d
  let m := if 0 ≤ e then fxQ n (d * 2 ^ e.toNat) else fxQ (n * 2 ^ (-e).toNat : Nat) d
  let z := fxQ (m - fx1) (m + fx1).toNat
  2 * fxOdd (fxMul z z) 40 0 z + e * fxLn2

/-- e to a power, as a fraction. -/
def fxExp (y : Int) : Int × Nat :=
  let k := y / fxLn2
  let z := y - k * fxLn2
  let s := fxSeries (-z) (fun n => ((n + 1 : Nat) : Int)) 34 0 fx1
  if 0 ≤ k then (s * 2 ^ k.toNat, 2 ^ 96) else (s, 2 ^ (96 + (-k).toNat))

def sinF (a : F32) : F32 := if ffinite a then fxToF (fxSin (fxAngle a)) else .ofNat 32 b32.nan
def cosF (a : F32) : F32 := if ffinite a then fxToF (fxCos (fxAngle a)) else .ofNat 32 b32.nan

/-- Numerators of two finite numbers over one denominator, scaled so that small ones keep their digits. -/
def commonNum (y x : F32) : Int × Int :=
  let p := b32.toRat y.toNat
  let q := b32.toRat x.toNat
  (p.1 * q.2, q.1 * p.2)

/-- The angle of a vector (y, x) in radians; of the zero vector a free value, since none is stated (R143). -/
def atan2F (y x : F32) : F32 :=
  if !(ffinite y && ffinite x) then .ofNat 32 b32.nan
  else
    let r := commonNum y x
    if r.1 == 0 && r.2 == 0 then Config.atan2Zero y x else fxToF (fxAtan2 r.1 r.2)

/-- A positive number to a power. -/
def powF (b e : F32) : F32 :=
  let r := b32.toRat b.toNat
  if !(ffinite b && ffinite e) || r.1 ≤ 0 then .ofNat 32 b32.nan
  else let x := fxExp (fxMul (fxF e) (fxLn r.1.toNat r.2)); fq x.1 x.2

end Sys2Proof.Machine
end

