-- ==== Sys2Proof/Machine/Params.lean ====
section
/-! DEFINITION. The working values of the parameters: defaults, overrides and the checks of a value against its row (R361, R364, R365, R372). -/

namespace Sys2Proof.Machine

/-- Default depth and buffer of a queue (Table MB-1). -/
def qDefault (n : Nat) : Nat × Nat :=
  if n < 4 then (32, 256) else if n < 6 then (8, 256) else if n < 8 then (32, 256)
  else if n == 8 then (256, 16) else if n < 11 then (64, 16) else if n == 11 then (64, 32)
  else if n < 16 then (32, 32) else if n < 48 then (2, 64) else if n < 56 then (16, 64)
  else if n < 60 then (2, 32) else if n < 62 then (128, 16) else (2, 16)

/-- Order of parameter instances (R368). -/
def PVal.before (a : PVal) (id inst : Nat) : Bool := decide (a.id < id) || (a.id == id && decide (a.inst < inst))

/-- The value that a list of values holds for an instance. -/
def pfind (l : List PVal) (id inst : Nat) : Option (List Nat) :=
  (l.find? (fun p => p.id == id && p.inst == inst)).map PVal.vals

/-- Places a value in its order, in place of any value of the same instance. -/
def pinsert (v : PVal) : List PVal → List PVal
  | [] => [v]
  | p :: r =>
    if p.id == v.id && p.inst == v.inst then v :: r
    else if p.before v.id v.inst then p :: pinsert v r
    else v :: p :: r

def pdrop (id inst : Nat) (l : List PVal) : List PVal := l.filter (fun p => !(p.id == id && p.inst == inst))

/-- The default of an instance where the table names a rule instead of a number: Table MB-1, SYS_SP_ADDR and NET_CS_BASE. -/
def Lane.dflt (l : Lane) (id inst : Nat) : List Nat :=
  if id == 0x1100 then [(qDefault inst).1]
  else if id == 0x1101 then [(qDefault inst).2]
  else if id == 0x1106 then [0x58 + l.id.idx]
  else if id == 0xB10A then
    [2 * ((pfind l.params 0xB101 0).getD [500]).headD 500 / 100]
  else match prow id with
    | some r => r.dflt
    | none => []

/-- The working value of a parameter instance, as last accepted: all its elements (R372). -/
def Lane.pwork (l : Lane) (id inst : Nat) : List Nat :=
  (pfind l.params id inst).getD (l.dflt id inst)

/-- The value of an instance that acts: the working value, or the one before it until the instant that its column names (R366, Table CP-8). -/
def Lane.pvals (l : Lane) (id inst : Nat) : List Nat :=
  match l.held.find? (fun h => h.id == id && h.inst == inst) with
  | some h => h.vals
  | none => l.pwork id inst

/-- The instant has come from which the newest values of the chosen instances act (Table CP-8). -/
def Lane.release (l : Lane) (sel : Nat → Nat → Bool) : Lane := { l with held := l.held.filter (fun h => !sel h.id h.inst) }

/-- The newest values of listed parameters act, whatever the instance, or on one instance. -/
def Lane.releaseIds (l : Lane) (ids : List Nat) : Lane := l.release (fun id _ => ids.contains id)
def Lane.releaseOf (l : Lane) (ids : List Nat) (inst : Nat) : Lane := l.release (fun id i => ids.contains id && i == inst)

/-- The lane as it will stand when every accepted value acts. -/
def Lane.settled (l : Lane) : Lane := { l with held := [] }

/-- Parameters whose new value acts later than its acceptance and that something reads in between (the columns "Takes effect"). -/
def deferredIds : List Nat :=
  [0x2110, 0x2111, 0x3101, 0x3105, 0x3111, 0x3112, 0x3113, 0x3114, 0x4101, 0x6113,
   0x2120, 0x2121, 0x2122, 0x4131, 0x6144, 0x6150, 0x6151, 0x6152,
   0x7121, 0x7130, 0x7131, 0x7132, 0x7133, 0x7140, 0x8102, 0x8103, 0x8104, 0x8105, 0x8111, 0x8112, 0x8113, 0x8136, 0x8137,
   0x9102, 0x9103, 0x9112, 0x9113, 0x9121, 0x9125, 0x9132, 0x9133, 0xA110, 0xA120, 0xA121, 0xA122,
   0xB10D, 0xB10E, 0xB10F, 0xB110, 0xB112, 0xB113, 0xB133, 0xB134, 0xB170, 0xC100, 0xC101, 0xD100, 0xD101, 0xD102, 0xD103,
   0xE101, 0xE106, 0x1106]

/-- The value that acts for what began at an instant: a newer value acts only on what begins after it was accepted. -/
def Lane.pFrom (l : Lane) (id inst t : Nat) : Nat :=
  match l.held.find? (fun h => h.id == id && h.inst == inst) with
  | some h => (if t < h.since then h.vals else l.pwork id inst).headD 0
  | none => (l.pwork id inst).headD 0

/-- First element of a working value. -/
def Lane.p (l : Lane) (id : Nat) (inst : Nat := 0) : Nat := (l.pvals id inst).headD 0

/-- A network parameter as the controller holds it: the value at its last entry to LISTEN (R299). -/
def Lane.np (l : Lane) (id : Nat) (inst : Nat := 0) : Nat := ((pfind l.net.latched id inst).getD (l.pvals id inst)).headD 0
def Lane.nps (l : Lane) (id : Nat) : List Nat := (pfind l.net.latched id 0).getD (l.pvals id 0)

/-- The same as a binary32 word. -/
def Lane.pf (l : Lane) (id : Nat) (inst : Nat := 0) : F32 := BitVec.ofNat 32 (l.p id inst)

/-- Element k as a binary32 word. -/
def Lane.pfk (l : Lane) (id inst k : Nat) : F32 := BitVec.ofNat 32 ((l.pvals id inst).getD k 0)

/-- The same as a signed 32-bit value. -/
def Lane.psgn (l : Lane) (id : Nat) (inst : Nat := 0) : Int := sext 32 (l.p id inst)

/-- Sets a working value; a value equal to the default leaves the list of overrides. -/
def Lane.pset (l : Lane) (id inst : Nat) (v : List Nat) : Lane :=
  if v == l.dflt id inst then { l with params := pdrop id inst l.params }
  else { l with params := pinsert ⟨id, inst, v⟩ l.params }

/-- A value lies between the bounds of its row, read in the row's type. -/
def PRow.inRange (r : PRow) (v : Nat) : Bool :=
  match r.ty with
  | .f32 =>
    let x : F32 := .ofNat 32 v
    ffinite x && fle (.ofNat 32 r.lo) x && fle x (.ofNat 32 r.hi)
  | .s32 => decide (sext 32 r.lo ≤ sext 32 v) && decide (sext 32 v ≤ sext 32 r.hi)
  | .s16 => decide (sext 16 r.lo ≤ sext 16 v) && decide (sext 16 v ≤ sext 16 r.hi)
  | _ => decide (r.lo ≤ v) && decide (v ≤ r.hi)

/-- Ranges that are sets of values and not intervals, by parameter. -/
def inSet (id v : Nat) : Bool :=
  if id == 0x1100 then [8, 16, 32, 64, 128, 256, 512, 1024].contains v
  else if id == 0x1101 then v % 16 == 0
  else if id == 0x2140 then decide (v < 16) || v == 0xFF
  else if id == 0x3102 then [1, 2, 4, 8].contains v
  else if id == 0x3120 then bits v 30 26 == 0
  else if id == 0x4100 then [5, 10, 20, 40].contains v
  else if id == 0x4110 then decide (v < 12) || decide (16 ≤ v)
  else if id == 0x4130 then decide (10 ≤ v % 128) && decide (v % 128 ≤ 25)
  else if id == 0x4131 then [32, 64, 128, 256].contains v
  else if id == 0x5140 then decide (v < 6) || v == 8 || v == 9 || (decide (0x10 ≤ v) && decide (v ≤ 0x15)) || (decide (0x18 ≤ v) && decide (v ≤ 0x1B)) || v == 0xFF
  else if id == 0x5142 then v != 0
  else if id == 0x6111 then decide (v < 6) || v == 8 || v == 9 || decide (0x10 ≤ v)
  else if id == 0x7102 then decide (v < 8) || v == 15
  else if id == 0x7105 then decide (v < 32) || (decide (0x40 ≤ v) && decide (v ≤ 0x47)) || v == 0x80 || v == 0xFF
  else if id == 0x7106 then decide (v < 6) || v == 8 || v == 9 || (decide (0x10 ≤ v) && decide (v ≤ 0x15)) || (decide (0x20 ≤ v) && decide (v ≤ 0x37)) || v == 0x80 || v == 0xFF
  else if id == 0x7107 then v != 0 && v != 0x80000000
  else if id == 0x8100 then v == 0 || decide (0x10 ≤ v)
  else if id == 0x8120 then v == 8 || v == 9 || (decide (0x10 ≤ v) && decide (v ≤ 0x15)) || v == 0xFF
  else if id == 0x8134 then decide (v ≤ 0x11) || v == 0x20 || v == 0x21 || v == 0xFF
  else if id == 0xA100 then [27, 30, 39, 45, 54, 57].contains v
  else if id == 0xB153 then v == 0 || decide (5 ≤ v)
  else if id == 0x914B then bits v 3 0 < 4 && bits v 7 4 < 4 && bits v 11 8 < 4
  else true

/-- The values of an instance fit their row: number of elements, ranges and sets (R361, R364). -/
def PRow.fits (r : PRow) (v : List Nat) : Bool :=
  (if r.dflt.length == r.elems then v.length == r.elems else decide (1 ≤ v.length) && decide (v.length ≤ r.elems)) &&
  v.all (fun x => r.inRange x && inSet r.id x)

/-- A parameter with a variable number of items (R364). -/
def PRow.isVar (r : PRow) : Bool := r.dflt.length != r.elems

end Sys2Proof.Machine
end

