-- ==== Sys2Proof/Machine/Crypto.lean ====
section
/-! DEFINITION. AES-128, AES-CMAC, the key derivation and SHA-256 as the frames, sessions and images use them (FIPS 197, SP 800-38B, SP 800-108, FIPS 180-4). -/

namespace Sys2Proof.Machine

/-- f l, written so that an evaluator reduces every element of l first. -/
def evalNats {α : Type} : List Nat → (List Nat → α) → α
  | [], f => f []
  | x :: r, f => evalNat x (fun x => evalNats r (fun r => f (x :: r)))

theorem evalNats_eq {α : Type} (l : List Nat) (f : List Nat → α) : evalNats l f = f l := by
  induction l generalizing f with
  | nil => rfl
  | cons x r ih => simp only [evalNats, evalNat_eq, ih]

/-- The S-box of FIPS 197. -/
def aesSbox : List Nat :=
  [0x63, 0x7C, 0x77, 0x7B, 0xF2, 0x6B, 0x6F, 0xC5, 0x30, 0x01, 0x67, 0x2B, 0xFE, 0xD7, 0xAB, 0x76] ++
  [0xCA, 0x82, 0xC9, 0x7D, 0xFA, 0x59, 0x47, 0xF0, 0xAD, 0xD4, 0xA2, 0xAF, 0x9C, 0xA4, 0x72, 0xC0] ++
  [0xB7, 0xFD, 0x93, 0x26, 0x36, 0x3F, 0xF7, 0xCC, 0x34, 0xA5, 0xE5, 0xF1, 0x71, 0xD8, 0x31, 0x15] ++
  [0x04, 0xC7, 0x23, 0xC3, 0x18, 0x96, 0x05, 0x9A, 0x07, 0x12, 0x80, 0xE2, 0xEB, 0x27, 0xB2, 0x75] ++
  [0x09, 0x83, 0x2C, 0x1A, 0x1B, 0x6E, 0x5A, 0xA0, 0x52, 0x3B, 0xD6, 0xB3, 0x29, 0xE3, 0x2F, 0x84] ++
  [0x53, 0xD1, 0x00, 0xED, 0x20, 0xFC, 0xB1, 0x5B, 0x6A, 0xCB, 0xBE, 0x39, 0x4A, 0x4C, 0x58, 0xCF] ++
  [0xD0, 0xEF, 0xAA, 0xFB, 0x43, 0x4D, 0x33, 0x85, 0x45, 0xF9, 0x02, 0x7F, 0x50, 0x3C, 0x9F, 0xA8] ++
  [0x51, 0xA3, 0x40, 0x8F, 0x92, 0x9D, 0x38, 0xF5, 0xBC, 0xB6, 0xDA, 0x21, 0x10, 0xFF, 0xF3, 0xD2] ++
  [0xCD, 0x0C, 0x13, 0xEC, 0x5F, 0x97, 0x44, 0x17, 0xC4, 0xA7, 0x7E, 0x3D, 0x64, 0x5D, 0x19, 0x73] ++
  [0x60, 0x81, 0x4F, 0xDC, 0x22, 0x2A, 0x90, 0x88, 0x46, 0xEE, 0xB8, 0x14, 0xDE, 0x5E, 0x0B, 0xDB] ++
  [0xE0, 0x32, 0x3A, 0x0A, 0x49, 0x06, 0x24, 0x5C, 0xC2, 0xD3, 0xAC, 0x62, 0x91, 0x95, 0xE4, 0x79] ++
  [0xE7, 0xC8, 0x37, 0x6D, 0x8D, 0xD5, 0x4E, 0xA9, 0x6C, 0x56, 0xF4, 0xEA, 0x65, 0x7A, 0xAE, 0x08] ++
  [0xBA, 0x78, 0x25, 0x2E, 0x1C, 0xA6, 0xB4, 0xC6, 0xE8, 0xDD, 0x74, 0x1F, 0x4B, 0xBD, 0x8B, 0x8A] ++
  [0x70, 0x3E, 0xB5, 0x66, 0x48, 0x03, 0xF6, 0x0E, 0x61, 0x35, 0x57, 0xB9, 0x86, 0xC1, 0x1D, 0x9E] ++
  [0xE1, 0xF8, 0x98, 0x11, 0x69, 0xD9, 0x8E, 0x94, 0x9B, 0x1E, 0x87, 0xE9, 0xCE, 0x55, 0x28, 0xDF] ++
  [0x8C, 0xA1, 0x89, 0x0D, 0xBF, 0xE6, 0x42, 0x68, 0x41, 0x99, 0x2D, 0x0F, 0xB0, 0x54, 0xBB, 0x16]

def sub (b : Nat) : Nat := aesSbox.getD b 0
def xtime (b : Nat) : Nat := Nat.xor (b * 2 % 256) (if b ≥ 128 then 0x1B else 0)
def xorL (a b : List Nat) : List Nat := List.zipWith Nat.xor a b

/-- The round keys of FIPS 197, 16 bytes each, from the last key and round constant. -/
def aesKeys : Nat → Nat → List Nat → List (List Nat)
  | 0, _, k => [k]
  | n + 1, rc, k =>
    let g := fun i => k.getD i 0
    let t := [Nat.xor (sub (g 13)) rc, sub (g 14), sub (g 15), sub (g 12)]
    let w0 := xorL (k.take 4) t
    let w1 := xorL ((k.drop 4).take 4) w0
    let w2 := xorL ((k.drop 8).take 4) w1
    let w3 := xorL (k.drop 12) w2
    k :: evalNats (w0 ++ w1 ++ w2 ++ w3) (aesKeys n (xtime rc))

def aesShift (s : List Nat) : List Nat :=
  [0, 5, 10, 15, 4, 9, 14, 3, 8, 13, 2, 7, 12, 1, 6, 11].map (fun i => s.getD i 0)

def aesMixCol (a b c d : Nat) : List Nat :=
  let t := Nat.xor (Nat.xor a b) (Nat.xor c d)
  [Nat.xor a (Nat.xor t (xtime (Nat.xor a b))), Nat.xor b (Nat.xor t (xtime (Nat.xor b c))),
   Nat.xor c (Nat.xor t (xtime (Nat.xor c d))), Nat.xor d (Nat.xor t (xtime (Nat.xor d a)))]

def aesMix (s : List Nat) : List Nat :=
  let g := fun i => s.getD i 0
  [0, 4, 8, 12].flatMap (fun i => aesMixCol (g i) (g (i + 1)) (g (i + 2)) (g (i + 3)))

def aesRounds : List (List Nat) → List Nat → List Nat
  | [], s => s
  | [k], s => xorL (aesShift (s.map sub)) k
  | k :: r, s => evalNats (xorL (aesMix (aesShift (s.map sub))) k) (aesRounds r)

/-- One AES-128 block. -/
def aesBlock (key block : List Nat) : List Nat :=
  match aesKeys 10 1 key with
  | [] => block
  | k :: r => aesRounds r (xorL block k)

/-- Doubling in GF(2^128) for the CMAC subkeys. -/
def cmacDbl (l : List Nat) : List Nat :=
  let v := l.foldl (fun a b => a * 256 + b) 0
  let d := Nat.xor (v * 2 % 2 ^ 128) (if v ≥ 2 ^ 127 then 0x87 else 0)
  (beBytes 16 d).map BitVec.toNat

/-- The CBC chain of CMAC over whole blocks; the fuel is the message length. -/
def cmacChain (key k1 k2 : List Nat) : Nat → List Nat → List Nat → List Nat
  | 0, st, _ => st
  | n + 1, st, m =>
    if m.length > 16 then evalNats (aesBlock key (xorL st (m.take 16))) (fun st => cmacChain key k1 k2 n st (m.drop 16))
    else if m.length == 16 then aesBlock key (xorL st (xorL m k1))
    else aesBlock key (xorL st (xorL (m ++ [0x80] ++ List.replicate (15 - m.length) 0) k2))

/-- AES-128-CMAC (SP 800-38B). -/
def cmac (key msg : List Byte) : List Byte :=
  let k := key.map BitVec.toNat
  let l := aesBlock k (List.replicate 16 0)
  let k1 := cmacDbl l
  (cmacChain k k1 (cmacDbl k1) (msg.length + 1) (List.replicate 16 0) (msg.map BitVec.toNat)).map (BitVec.ofNat 8)

/-- The constants of FIPS 180-4. -/
def shaK : List Nat :=
  [0x428A2F98, 0x71374491, 0xB5C0FBCF, 0xE9B5DBA5, 0x3956C25B, 0x59F111F1, 0x923F82A4, 0xAB1C5ED5, 0xD807AA98, 0x12835B01, 0x243185BE, 0x550C7DC3, 0x72BE5D74, 0x80DEB1FE, 0x9BDC06A7, 0xC19BF174] ++
  [0xE49B69C1, 0xEFBE4786, 0x0FC19DC6, 0x240CA1CC, 0x2DE92C6F, 0x4A7484AA, 0x5CB0A9DC, 0x76F988DA, 0x983E5152, 0xA831C66D, 0xB00327C8, 0xBF597FC7, 0xC6E00BF3, 0xD5A79147, 0x06CA6351, 0x14292967] ++
  [0x27B70A85, 0x2E1B2138, 0x4D2C6DFC, 0x53380D13, 0x650A7354, 0x766A0ABB, 0x81C2C92E, 0x92722C85, 0xA2BFE8A1, 0xA81A664B, 0xC24B8B70, 0xC76C51A3, 0xD192E819, 0xD6990624, 0xF40E3585, 0x106AA070] ++
  [0x19A4C116, 0x1E376C08, 0x2748774C, 0x34B0BCB5, 0x391C0CB3, 0x4ED8AA4A, 0x5B9CCA4F, 0x682E6FF3, 0x748F82EE, 0x78A5636F, 0x84C87814, 0x8CC70208, 0x90BEFFFA, 0xA4506CEB, 0xBEF9A3F7, 0xC67178F2]
def shaH : List Nat :=
  [0x6A09E667, 0xBB67AE85, 0x3C6EF372, 0xA54FF53A, 0x510E527F, 0x9B05688C, 0x1F83D9AB, 0x5BE0CD19]

def ror (n v : Nat) : Nat := v / 2 ^ n + v % 2 ^ n * 2 ^ (32 - n)
def xor3 (a b c : Nat) : Nat := Nat.xor a (Nat.xor b c)

/-- Extends a message schedule, newest word first. -/
def shaSched : Nat → List Nat → List Nat
  | 0, w => w
  | n + 1, w =>
    let g := fun i => w.getD i 0
    let s0 := xor3 (ror 7 (g 14)) (ror 18 (g 14)) (g 14 / 8)
    let s1 := xor3 (ror 17 (g 1)) (ror 19 (g 1)) (g 1 / 1024)
    evalNat ((g 15 + s0 + g 6 + s1) % 2 ^ 32) (fun x => shaSched n (x :: w))

def shaRound (st : List Nat) (kw : Nat × Nat) : List Nat :=
  let g := fun i => st.getD i 0
  let e := g 4
  let a := g 0
  let ch := Nat.xor (Nat.land e (g 5)) (Nat.land (0xFFFFFFFF - e) (g 6))
  let t1 := g 7 + xor3 (ror 6 e) (ror 11 e) (ror 25 e) + ch + kw.1 + kw.2
  let mj := xor3 (Nat.land a (g 1)) (Nat.land a (g 2)) (Nat.land (g 1) (g 2))
  let t2 := xor3 (ror 2 a) (ror 13 a) (ror 22 a) + mj
  [(t1 + t2) % 2 ^ 32, a, g 1, g 2, (g 3 + t1) % 2 ^ 32, e, g 5, g 6]

/-- Rounds over the pairs of constant and schedule word. -/
def shaRounds : List (Nat × Nat) → List Nat → List Nat
  | [], st => st
  | kw :: r, st => evalNats (shaRound st kw) (shaRounds r)

def shaWords : Nat → List Byte → List Nat
  | 0, _ => []
  | n + 1, l => beNat (l.take 4) :: shaWords n (l.drop 4)

def shaBlocks : Nat → List Nat → List Byte → List Nat
  | 0, h, _ => h
  | n + 1, h, l =>
    let w := (shaSched 48 (shaWords 16 (l.take 64)).reverse).reverse
    evalNats (List.zipWith (fun x y => (x + y) % 2 ^ 32) h (shaRounds (shaK.zip w) h)) (fun h => shaBlocks n h (l.drop 64))

/-- SHA-256 (FIPS 180-4). -/
def sha256 (m : List Byte) : List Byte :=
  let pad := (119 - m.length % 64) % 64
  let full := m ++ [0x80] ++ List.replicate pad 0 ++ beBytes 8 (8 * m.length)
  (shaBlocks (full.length / 64) shaH full).flatMap (beBytes 4)

/-! ### ECDSA P-256 (FIPS 186-4, R435) -/

/-- The prime, the coefficient b, the order and the base point of P-256. -/
def ecP : Nat := 0xFFFFFFFF00000001000000000000000000000000FFFFFFFFFFFFFFFFFFFFFFFF
def ecB : Nat := 0x5AC635D8AA3A93E7B3EBBD55769886BC651D06B0CC53B0F63BCE3C3E27D2604B
def ecN : Nat := 0xFFFFFFFF00000000FFFFFFFFFFFFFFFFBCE6FAADA7179E84F3B9CAC2FC632551
def ecG : Nat × Nat :=
  (0x6B17D1F2E12C4247F8BCE6E563A440F277037D812DEB33A0F4A13945D898C296, 0x4FE342E2FE1A7F9B8EE7EB4A7C0F9E162BCE33576B315ECECBB6406837BF51F5)

/-- acc · a^e modulo m by squaring; the fuel is the number of exponent bits. -/
def powMod (m : Nat) : Nat → Nat → Nat → Nat → Nat
  | 0, _, _, acc => acc % m
  | k + 1, a, e, acc => evalNat (a * a % m) (fun a2 => evalNat (e / 2) (fun e2 => evalNat (if e % 2 == 1 then a * acc % m else acc) (powMod m k a2 e2)))

/-- The inverse modulo a 256-bit prime. -/
def invMod (m a : Nat) : Nat := powMod m 256 a (m - 2) 1

/-- A point in Jacobian coordinates modulo ecP: it stands for (x / z², y / z³), and for the point at infinity where z is 0. -/
structure EcPoint where
  x : Nat
  y : Nat
  z : Nat
deriving DecidableEq, Repr

/-- The point at infinity. -/
def EcPoint.zero : EcPoint := ⟨1, 1, 0⟩

/-- The point with these affine coordinates. -/
def EcPoint.ofXY (q : Nat × Nat) : EcPoint := ⟨q.1, q.2, 1⟩

/-- f q, written so that an evaluator reduces the coordinates of q first. -/
def evalPoint {α : Type} (q : EcPoint) (f : EcPoint → α) : α :=
  evalNat q.x (fun x => evalNat q.y (fun y => evalNat q.z (fun z => f ⟨x, y, z⟩)))

theorem evalPoint_eq {α : Type} (q : EcPoint) (f : EcPoint → α) : evalPoint q f = f q := by simp only [evalPoint, evalNat_eq]

/-- a − b modulo ecP. -/
def ecSub (a b : Nat) : Nat := (a + (ecP - b % ecP)) % ecP

/-- Twice a point; the curve's coefficient a is −3. -/
def ecDbl (q : EcPoint) : EcPoint :=
  evalNat (q.y * q.y % ecP) (fun y2 => evalNat (4 * q.x * y2 % ecP) (fun s =>
    evalNat (3 * ecSub (q.x * q.x) (q.z * q.z % ecP * (q.z * q.z % ecP)) % ecP) (fun m =>
      evalNat (ecSub (m * m) (2 * s)) (fun x => ⟨x, ecSub (m * ecSub s x) (8 * y2 * y2), 2 * q.y * q.z % ecP⟩))))

/-- The sum of two points. -/
def ecAdd (p q : EcPoint) : EcPoint :=
  if p.z == 0 then q
  else if q.z == 0 then p
  else
    evalNat (p.z * p.z % ecP) (fun pz2 => evalNat (q.z * q.z % ecP) (fun qz2 =>
      evalNat (p.x * qz2 % ecP) (fun u => evalNat (p.y * qz2 % ecP * q.z % ecP) (fun s =>
        evalNat (ecSub (q.x * pz2) u) (fun h => evalNat (ecSub (q.y * pz2 % ecP * p.z) s) (fun r =>
          if h == 0 then (if r == 0 then ecDbl p else EcPoint.zero)
          else
            evalNat (h * h % ecP) (fun h2 => evalNat (h2 * h % ecP) (fun h3 =>
              evalNat (ecSub (r * r) (h3 + 2 * (u * h2 % ecP))) (fun x =>
                ⟨x, ecSub (r * ecSub (u * h2) x) (s * h3), h * p.z % ecP * q.z % ecP⟩)))))))))

/-- acc and k times a point q; the fuel is the number of bits of k. -/
def ecMul : Nat → Nat → EcPoint → EcPoint → EcPoint
  | 0, _, _, acc => acc
  | f + 1, k, q, acc =>
    evalPoint (ecDbl q) (fun q2 => evalNat (k / 2) (fun k2 => evalPoint (if k % 2 == 1 then ecAdd q acc else acc) (ecMul f k2 q2)))

/-- The point of a public key X, Y, where it lies on the curve. -/
def ecKey (key : List Byte) : Option (Nat × Nat) :=
  let x := beNat (key.take 32)
  let y := beNat ((key.drop 32).take 32)
  if x < ecP && y < ecP && (y * y) % ecP == (x * x * x + (ecP - 3) * x + ecB) % ecP then some (x, y) else none

/-- A signature r, s over a digest verifies under a public key. -/
def ecdsaOk (key digest sig : List Byte) : Bool :=
  let r := beNat (sig.take 32)
  let s := beNat ((sig.drop 32).take 32)
  match ecKey key with
  | none => false
  | some key =>
    if r == 0 || s == 0 || decide (ecN ≤ r) || decide (ecN ≤ s) then false
    else
      let w := invMod ecN s
      let u1 := beNat digest * w % ecN
      let u2 := r * w % ecN
      let q := ecMul 256 u1 (.ofXY ecG) (ecMul 256 u2 (.ofXY key) .zero)
      if q.z == 0 then false else q.x * invMod ecP (q.z * q.z % ecP) % ecP % ecN == r

end Sys2Proof.Machine
end

