-- ==== Sys2Proof/Machine/OtpMap.lean ====
section
/-! DEFINITION. The OTP map (Tables BT-3 to BT-6), and the images in MRAM with their checks (R435, Tables BT-6 and CX-5). -/

namespace Sys2Proof.Machine

def Lane.otpBytes (l : Lane) (off n : Nat) : List Byte := cellBytes l.boot.otp off n

/-- The CRC-32 over n bytes of an area stands after them. -/
def Lane.otpCrc (l : Lane) (off n : Nat) : Bool := (crc32 (l.otpBytes off n)).toNat == leAt (l.otpBytes (off + n) 4) 0 4

/-- Programs bits; a programmed bit cannot be cleared (R428). -/
def Lane.otpProgram (l : Lane) (off : Nat) (bs : List Byte) : Lane :=
  { l with boot.otp := cellStore l.boot.otp off (List.zipWith (fun a b => a ||| b) (l.otpBytes off bs.length) bs) }

/-! ### Areas -/

def Lane.uid (l : Lane) : List Byte := l.otpBytes 0 8
def Lane.identOk (l : Lane) : Bool := l.otpCrc 0 60
def Lane.pubOk (l : Lane) : Bool := l.otpCrc 0x60 128
def Lane.secOk (l : Lane) : Bool := l.otpCrc 0xF0 96
def Lane.protOk (l : Lane) : Bool :=
  l.otpCrc 0x160 284 && (List.range 16).all (fun g => [0, 5, 6, 7, 10, 14].contains g || bits (leAt (l.otpBytes 0x160 284) 128 4) (2 * g + 1) (2 * g) != 3)

/-- FACTORY, FIELD and RETURNED markers. -/
def Lane.marker (l : Lane) (k : Nat) : Nat := (cellRead l.boot.otp (0x40 + k)).toNat

/-- Lifecycle state by the markers; none where a RETURNED marker stops the lane (R430). -/
def Lane.lifeOf (l : Lane) : Option Nat :=
  if l.marker 2 == 0xA5 then some 3
  else if l.marker 2 != 0 then none
  else if l.marker 1 != 0 then some 2
  else if l.marker 0 != 0 then some 1
  else some 0

/-- Boot options (Table BT-4); an area whose CRC is bad gives none of them (log entry 149). -/
def Lane.bootOpt (l : Lane) : Nat := if l.otpCrc 0x50 4 then leAt (l.otpBytes 0x50 4) 0 4 else 0

/-- The rollback floor: bits set in the thermometer. -/
def Lane.svnFloor (l : Lane) : Nat :=
  let v := leAt (l.otpBytes 0x58 8) 0 8
  ((List.range 64).filter (bit v)).length

/-- Key k in the order of SECKEYS. -/
def Lane.secOtp (l : Lane) (k : Nat) : List Byte := l.otpBytes (0xF0 + 16 * k) 16

/-- The firmware (0) or configuration (1) signing key. -/
def Lane.pubKey (l : Lane) (k : Nat) : List Byte := l.otpBytes (0x60 + 64 * k) 64

def Lane.prot (l : Lane) : List Byte := l.otpBytes 0x160 284

/-- A record slot (R374, Table BT-5): its bytes, whether any bit is programmed, whether its CRC is good. -/
def Lane.record (l : Lane) (k : Nat) : List Byte := l.otpBytes (0x280 + 64 * k) 64
def Lane.recWritten (l : Lane) (k : Nat) : Bool := (l.record k).any (fun b => b != 0)
def recGood (r : List Byte) : Bool := (crc32 (r.take 60)).toNat == leAt r 60 4

/-- Factory repairs: row numbers. -/
def Lane.repairRows (l : Lane) : List Nat :=
  if l.otpCrc 0x3C0 76 then (List.range (min 32 (byteAt (l.otpBytes 0x3C0 1) 0))).map (fun k => leAt (l.otpBytes (0x3C2 + 2 * k) 2) 0 2) else []

/-- Spare generations: record slots 1 to 4 not yet written (R375). -/
def Lane.spareGens (l : Lane) : Nat := ([1, 2, 3, 4].filter (fun k => !l.recWritten k)).length

/-! ### Images (Tables BT-6 and CX-5) -/

def fwBase (slot : Nat) : Nat := 0x200000 * slot
def cfgBase (area : Nat) : Nat := 0x400000 + 0x80000 * area

def Lane.mramBytes (l : Lane) (off n : Nat) : List Byte := cellBytes l.mem.mram off n
def Lane.mramPut (l : Lane) (off : Nat) (bs : List Byte) : Lane := { l with mem.mram := cellStore l.mem.mram off bs }

/-- Unlists the bytes of a range. -/
def Lane.mramErase (l : Lane) (off n : Nat) : Lane :=
  { l with mem.mram := l.mem.mram.filter (fun c => decide (c.1 < off) || decide (off + n ≤ c.1)) }

/-- Length of header and body, LEN of Table BT-6. -/
def Lane.imgLen (l : Lane) (base : Nat) : Nat := leAt (l.mramBytes (base + 8) 4) 0 4
def Lane.imgVersion (l : Lane) (base : Nat) : Nat := leAt (l.mramBytes (base + 12) 4) 0 4
def Lane.imgSvn (l : Lane) (base : Nat) : Nat := byteAt (l.mramBytes (base + 6) 1) 0
def Lane.imgRaise (l : Lane) (base : Nat) : Bool := bit (byteAt (l.mramBytes (base + 7) 1) 0) 0
def Lane.imgMajor (l : Lane) (base : Nat) : Nat := byteAt (l.mramBytes (base + 20) 1) 0

/-- The conditions of R435 for an image at an offset: magic, length, signature, rollback floor. -/
def Lane.imageOk (l : Lane) (base : Nat) (magic : List Byte) (maxLen key : Nat) : Bool :=
  let n := l.imgLen base
  l.mramBytes base 4 == magic && decide (256 ≤ n) && decide (n ≤ maxLen) &&
  decide (l.svnFloor ≤ l.imgSvn base || key == 1) &&
  ecdsaOk (l.pubKey key) (sha256 (l.mramBytes base n)) (l.mramBytes (base + n) 64)

/-- The firmware image that runs, signature apart. -/
def Lane.fwImage (l : Lane) : List Byte :=
  let b := fwBase l.boot.running
  l.mramBytes b (min (l.imgLen b) 0x200000)

/-- Its SHA-256 (Table PS-4, E4). -/
def Lane.fwSha (l : Lane) : List Byte := sha256 l.fwImage

/-- Its CRC-32 (R485, Table PS-6). -/
def Lane.fwCrc (l : Lane) : W32 := crc32 l.fwImage

/-- A firmware slot passes R435. -/
def Lane.fwOk (l : Lane) (slot : Nat) : Bool := l.imageOk (fwBase slot) [0x42, 0x4D, 0x56, 0x4E] 2097088 0

/-- A configuration image in an area passes R435. -/
def Lane.cfgOk (l : Lane) (area : Nat) : Bool := l.imageOk (cfgBase area) [0x4B, 0x43, 0x46, 0x47] 524224 1

end Sys2Proof.Machine
end

