-- ==== Sys2Proof/Machine/Records.lean ====
section
/-! DEFINITION. The records of the MRAM byte by byte, least significant byte first (R6), each with its CRC-32 (R485): fault-log entries (Table CX-6), the Chrysalis image (R418, Table PS-10), BIST records (R447, R448, Tables ST-2 and ST-3) and custom sine tables (R137). -/

namespace Sys2Proof.Machine

/-- A list filled up with zeros to n bytes, or cut there. -/
def padTo (n : Nat) (b : List Byte) : List Byte := b.take n ++ List.replicate (n - b.length) 0

/-- A record followed by its CRC-32. -/
def sealed (b : List Byte) : List Byte := b ++ leBytes 4 (crc32 b).toNat

/-- The CRC-32 at offset n covers the n bytes before it. -/
def sealOk (n : Nat) (b : List Byte) : Bool := (crc32 (b.take n)).toNat == leAt b n 4

/-- n little-endian words of 4 bytes from offset k. -/
def wordsAt (b : List Byte) (k n : Nat) : List W32 := (List.range n).map (fun i => BitVec.ofNat 32 (leAt b (k + 4 * i) 4))

/-! ### Fault log (Table CX-6) -/

/-- The bytes of a fault-log entry. -/
def LogEntry.bytes (e : LogEntry) : List Byte :=
  let b := leBytes 8 e.stamp ++ leBytes 2 e.code ++ [.ofNat 8 (e.st.code * 16 + e.lane), .ofNat 8 (b2n e.pin + 2 * b2n e.aon)] ++
    leBytes 4 e.arg.toNat ++ leBytes 4 e.entry ++ leBytes 4 e.boot ++ leBytes 6 e.cycle
  b ++ leBytes 2 (crc16 b).toNat

/-- The entry that 32 bytes hold. -/
def LogEntry.ofBytes (b : List Byte) : LogEntry :=
  { stamp := leAt b 0 8, code := leAt b 8 2, st := LaneSt.ofCode (byteAt b 10 / 16), lane := byteAt b 10 % 4, pin := bit (byteAt b 11) 0, aon := bit (byteAt b 11) 1,
    arg := .ofNat 32 (leAt b 12 4), entry := leAt b 16 4, boot := leAt b 20 4, cycle := leAt b 24 6 }

/-! ### The Chrysalis image (R418, Table PS-10) -/

/-- "CHRY". -/
def chrysMagic : List Byte := [0x43, 0x48, 0x52, 0x59]

/-- LEN: the bytes written before the CRC. -/
def Chrysalis.len (c : Chrysalis) : Nat := 1152 + 32 * (c.log.take 987).length

/-- Bytes 0 to LEN − 1. -/
def Chrysalis.body (c : Chrysalis) : List Byte :=
  (if c.magic then chrysMagic else List.replicate 4 0) ++ leBytes 2 1 ++ leBytes 2 c.len ++ leBytes 8 c.stamp ++ leBytes 6 c.cycle ++
  [b8 (c.st.code * 16 + c.lane), b8 (b2n c.wasAuth + 2 * b2n c.cycleOk + 4 * b2n c.part)] ++ leBytes 4 c.cfg.toNat ++ leBytes 4 c.boot ++
  padTo 1024 (c.mirror.flatMap (fun w => leBytes 4 w.toNat)) ++ padTo 20 (c.fnstat.flatMap (fun w => leBytes 4 w.toNat)) ++
  [b8 c.cell, 0, 0, 0] ++ padTo 14 (c.trips.map b8) ++ [0, 0] ++ padTo 16 (c.vds.map b8) ++ List.replicate 40 0 ++ (c.log.take 987).flatMap LogEntry.bytes

/-- The image that a copy holds: MAGIC set, and the CRC good over bytes 0 to 32,763 with the unwritten ones taken as 0. -/
def Chrysalis.ofBytes (b : List Byte) : Option Chrysalis :=
  let n := leAt b 6 2
  if (crc32 (padTo 32764 (b.take n))).toNat != leAt b 32764 4 then none
  else some
    { magic := b.take 4 == chrysMagic, stamp := leAt b 8 8, cycle := leAt b 16 6, st := LaneSt.ofCode (byteAt b 22 / 16), lane := byteAt b 22 % 4,
      wasAuth := bit (byteAt b 23) 0, cycleOk := bit (byteAt b 23) 1, part := bit (byteAt b 23) 2, cfg := .ofNat 32 (leAt b 24 4), boot := leAt b 28 4,
      mirror := wordsAt b 32 256, fnstat := wordsAt b 1056 5, cell := byteAt b 1076, trips := (List.range 14).map (fun n => byteAt b (1080 + n)),
      vds := (List.range 16).map (fun k => byteAt b (1096 + k)), log := (List.range ((n - 1152) / 32)).map (fun i => LogEntry.ofBytes ((b.drop (1152 + 32 * i)).take 32)) }

/-- A copy of the Chrysalis area (Table CX-5). -/
def chrysAt (k : Nat) : Nat := 0x500000 + 0x8000 * k

/-- The image in a copy; none where MAGIC is not set or the CRC is bad. -/
def Lane.chrysCopy (l : Lane) (k : Nat) : Option Chrysalis :=
  if l.mramBytes (chrysAt k) 4 == chrysMagic then Chrysalis.ofBytes (l.mramBytes (chrysAt k) 32768) else none

/-- The images that can still be used. -/
def Lane.chrysCopies (l : Lane) : List Chrysalis := [0, 1].filterMap l.chrysCopy

/-- Writes the first n bytes of an image to the copy whose turn it is; the copies take turns (R418). -/
def Lane.chrysWrite (l : Lane) (c : Chrysalis) (n : Nat) : Lane :=
  { l.mramPut (chrysAt (b2n l.pwr.chrysTurn)) (c.body.take n) with pwr.chrysTurn := !l.pwr.chrysTurn }

/-- Writes a whole image: bytes 0 to LEN − 1, then the CRC (R418). -/
def Lane.chrysStore (l : Lane) (c : Chrysalis) : Lane :=
  (l.mramPut (chrysAt (b2n l.pwr.chrysTurn) + 32764) (leBytes 4 (crc32 (padTo 32764 c.body)).toNat)).chrysWrite c c.len

/-- Clears MAGIC in both copies (R419). -/
def Lane.chrysUsed (l : Lane) : Lane := (l.mramPut (chrysAt 0) (List.replicate 4 0)).mramPut (chrysAt 1) (List.replicate 4 0)

/-- An image is newer: by BOOT, then STAMP (R419). -/
def Chrysalis.newer (a b : Chrysalis) : Bool := decide (b.boot < a.boot) || (a.boot == b.boot && decide (b.stamp ≤ a.stamp))

/-! ### BIST records (R447, R448, Tables ST-2 and ST-3) -/

/-- "BSTR", and VER = 1. -/
def bistMagic : List Byte := [0x42, 0x53, 0x54, 0x52, 1, 0]

/-- The 16 bytes of the entry of section s. -/
def BistEntry.bytes (e : BistEntry) (s : Nat) : List Byte :=
  leBytes 4 e.sig.toNat ++ leBytes 4 e.count ++ [b8 s, b8 e.status] ++ leBytes 2 e.duration ++ leBytes 4 e.detail.toNat

/-- The entry that 16 bytes hold. -/
def BistEntry.ofBytes (b : List Byte) : BistEntry :=
  { sig := .ofNat 32 (leAt b 0 4), count := leAt b 4 4, status := byteAt b 9, duration := leAt b 10 2, detail := .ofNat 32 (leAt b 12 4) }

/-- Bytes 0 to 507 of a record. -/
def BistRec.body (r : BistRec) : List Byte :=
  bistMagic ++ [b8 r.kind, b8 r.result] ++ leBytes 4 r.boot ++ leBytes 8 r.stamp ++ leBytes 6 r.cycle ++ [b8 (b2n r.cycleOk + 2 * b2n r.sleep), 0] ++
  leBytes 4 r.cfg.toNat ++ leBytes 4 r.fw.toNat ++ leBytes 2 (wrap 16 r.tmax) ++ leBytes 2 r.spares ++ List.replicate 8 0 ++
  padTo 256 (r.results.zipIdx.flatMap (fun x => x.1.bytes x.2)) ++ List.replicate 204 0

/-- The 512 bytes of a record. -/
def BistRec.bytes (r : BistRec) : List Byte := sealed r.body

/-- The record that 512 bytes hold; none where the CRC is bad. -/
def BistRec.ofBytes (b : List Byte) : Option BistRec :=
  if !sealOk 508 b then none
  else some
    { kind := byteAt b 6, result := byteAt b 7, boot := leAt b 8 4, stamp := leAt b 12 8, cycle := leAt b 20 6, cycleOk := bit (byteAt b 26) 0, sleep := bit (byteAt b 26) 1,
      cfg := .ofNat 32 (leAt b 28 4), fw := .ofNat 32 (leAt b 32 4), tmax := sext 16 (leAt b 36 2), spares := leAt b 38 2,
      results := (List.range 16).map (fun s => BistEntry.ofBytes ((b.drop (48 + 16 * s)).take 16)) }

/-- A copy of the record of a kind: 1 shutdown, 2 start-up, 3 host (R448). -/
def bistBase (kind k : Nat) : Nat := 0x510000 + 0x400 * (kind - 1) + 0x200 * k

/-- The record in a copy; none where MAGIC, VER or the CRC is bad. -/
def Lane.bistCopy (l : Lane) (kind k : Nat) : Option BistRec :=
  if l.mramBytes (bistBase kind k) 6 == bistMagic then BistRec.ofBytes (l.mramBytes (bistBase kind k) 512) else none

/-- A record is newer: by BOOT, then STAMP (R448). -/
def BistRec.newer (a b : BistRec) : Bool := decide (b.boot < a.boot) || (a.boot == b.boot && decide (b.stamp ≤ a.stamp))

/-- The newest of a list of records. -/
def newestOf : List BistRec → Option BistRec
  | [] => none
  | r :: rs => match newestOf rs with
    | some q => if r.newer q then some r else some q
    | none => some r

/-- The newer copy of a kind (R448). -/
def Lane.bistOf (l : Lane) (kind : Nat) : Option BistRec := newestOf ([0, 1].filterMap (l.bistCopy kind))

/-- The older copy of a kind, or one that holds no record (R448). -/
def Lane.bistOlder (l : Lane) (kind : Nat) : Nat :=
  match l.bistCopy kind 0, l.bistCopy kind 1 with
  | some x, some y => if x.newer y then 1 else 0
  | some _, none => 1
  | none, _ => 0

/-- Writes a record to the older copy of its kind, and one of a shutdown or a start to the ring of 120 as well (R447, R448). -/
def Lane.bistStore (l : Lane) (r : BistRec) : Lane :=
  let l := l.mramPut (bistBase r.kind (l.bistOlder r.kind)) r.bytes
  if r.kind == 3 then l
  else { l.mramPut (0x511000 + 0x200 * l.bist.ringAt) r.bytes with bist.ringAt := (l.bist.ringAt + 1) % 120 }

/-! ### Custom sine tables (R137) -/

/-- Place of table n of 4 in a copy of the learned calibration (Table CX-5; the place inside the copy is the model's, log entry 150). -/
def tabBase (n copy : Nat) : Nat := 0x524000 + 0x2800 * n + 0x10000 * copy

/-- The bytes of a table and its CRC-32. -/
def tabBytes (t : List W16) : List Byte := sealed (t.flatMap (fun w => leBytes 2 w.toNat))

/-- Writes an accepted table to both copies. -/
def Lane.tabStore (l : Lane) (n : Nat) (t : List W16) : Lane := (l.mramPut (tabBase n 0) (tabBytes t)).mramPut (tabBase n 1) (tabBytes t)

/-- A copy of a table holds something: a table of zeros alone has a CRC that is not 0. -/
def Lane.tabWritten (l : Lane) (n copy : Nat) : Bool := l.mem.mram.any (fun c => decide (tabBase n copy ≤ c.1) && decide (c.1 < tabBase n copy + 8196))

/-- The table in a copy, none where its CRC is bad. -/
def Lane.tabCopy (l : Lane) (n copy : Nat) : Option (List W16) :=
  let b := l.mramBytes (tabBase n copy) 8196
  if l.tabWritten n copy && sealOk 8192 b then some ((List.range 4096).map (fun i => BitVec.ofNat 16 (leAt b (2 * i) 2))) else none

end Sys2Proof.Machine
end

