-- ==== Sys2Proof/Machine/Flags.lean ====
section
/-! DEFINITION. Status words and flags: SPI_STAT, IRQ_STAT and HIRQ, AON_STATUS, SPI_ID, the health word's lane code, and the instants of the clock. -/

namespace Sys2Proof.Machine

/-- Microseconds, milliseconds and seconds in 2.5 ns counts (R12). -/
def us (n : Nat) : Nat := 400 * n
def ms (n : Nat) : Nat := 400000 * n
def sec (n : Nat) : Nat := 400000000 * n

/-- Reads item i, or the reset value of its type. -/
def at_ {α : Type} [Inhabited α] (l : List α) (i : Nat) : α := l.getD i default

/-- HIRQ is driven while IRQ_STAT AND IRQ_EN is not zero, no sooner than IRQ_HOLD after it went high, and released in OFF, WAKING and BOOT (R343). -/
def Lane.irqLine (l : Lane) : Lane :=
  let q := l.mb.spi
  let want := (q.irqStat &&& q.irqEn) != 0 && l.st != .off && l.st != .waking && l.st != .boot
  let free := !q.hirqEver || decide (q.hirqHigh + us (q.irqHold.toNat % 65536) ≤ l.now)
  if want then (if q.hirq || !free then l else { l with mb.spi.hirq := true })
  else if q.hirq then { l with mb.spi.hirq := false, mb.spi.hirqEver := true, mb.spi.hirqHigh := l.now }
  else l

/-- Sets bit n of IRQ_STAT (Table MB-9). -/
def Lane.irqSet (l : Lane) (n : Nat) : Lane :=
  ({ l with mb.spi.irqStat := l.mb.spi.irqStat ||| BitVec.ofNat 32 (2 ^ n) }).irqLine

/-- SPI_ID (R341); the lane code is the lane's own. -/
def Lane.spiId (l : Lane) : Nat :=
  0x7096 * 65536 + 2 * 256 + l.boot.life * 16 + l.id.code

/-- A session is open on a transport. -/
def Lane.sesOpen (l : Lane) (tr : Transport) : Bool :=
  match l.mb.ses[tr.code - 1]? with
  | some s => s.level != 0
  | none => false

/-- SPI_STAT (Table MB-8). -/
def Lane.spiStat (l : Lane) : Nat :=
  let q := l.mb.spi
  l.st.code * 2 ^ 28 + b2n (l.sesOpen .spi) * 2 ^ 27 + b2n q.crcErr * 2 ^ 26 + b2n q.frameErr * 2 ^ 25 +
  b2n q.addrErr * 2 ^ 24 + b2n q.overrun * 2 ^ 23 + b2n q.noSession * 2 ^ 22 + q.txn.toNat

/-- HOLD_OK: HOLD at or above 28.5 V. -/
def Lane.holdOk (l : Lane) : Bool := decide (28500 ≤ l.pwr.hold)

/-- A valid, unused Chrysalis image is stored. -/
def Lane.chrysOk (l : Lane) : Bool := !l.chrysCopies.isEmpty

/-- TARGET of AON_STATUS: the waiting or the pending request, 7 none (R408). -/
def Lane.pwrTarget (l : Lane) : Nat :=
  match l.pwr.waiting, l.pwr.entry with
  | some t, _ => t
  | none, some e => e.target
  | none, none => 7

/-- AON_STATUS (Table PS-7). -/
def Lane.aonStatus (l : Lane) : Nat :=
  let p := l.pwr
  p.pstate * 2 ^ 29 + l.pwrTarget * 2 ^ 26 + b2n p.waiting.isSome * 2 ^ 25 + p.wakeSrc * 2 ^ 21 +
  b2n p.pend.isSome * 2 ^ 20 + b2n p.mayfly * 2 ^ 19 + b2n p.regFail * 2 ^ 18 + p.reg * 2 ^ 16 +
  b2n p.oscFail * 2 ^ 15 + b2n l.chrysOk * 2 ^ 14 + b2n p.saveFail * 2 ^ 13 + b2n l.holdOk * 2 ^ 12 +
  p.refuser * 2 ^ 8 + p.wakes % 256

end Sys2Proof.Machine
end

