-- ==== Sys2Proof/Machine/State.lean ====
section
/-! DEFINITION. The state of a module: its three lanes and the queue of commands that are waiting; its faults and refusals; the state after reset. -/

namespace Sys2Proof.Machine

/-- Why a step stops. -/
inductive Fault where
  /-- Raised by every meaning whose command names a unit that the spec does not give the lane (a timebase above 7, a half-bridge above 15). Safe: no such command exists, and the run stops. -/
  | noSuchUnit
deriving DecidableEq, Repr

/-- Why a command is not modelled. -/
inductive Refusal where
  /-- Raised by an arm of the dispatch whose command has no meaning yet. Safe: the run stops. -/
  | notModelled (mnemonic : String)
deriving DecidableEq, Repr

/-- A module: three lanes (R14) and the commands that wait, oldest first. -/
structure State where
  a : Lane
  b : Lane
  c : Lane
  pending : List Instr
deriving DecidableEq, Repr

/-- The module before VSUP is applied: every lane OFF (Table LN-4), nothing waiting. -/
def State.reset : State :=
  { a := { id := .a }, b := { id := .b }, c := { id := .c }, pending := [] }

end Sys2Proof.Machine
end

