-- ==== Sys2Proof/Machine/Ops.lean ====
section
/-! DEFINITION. The shared operations: acting on one lane, events, queues and messages, blocks to the peers, the lane state. -/

namespace Sys2Proof.Machine

abbrev Out := Host.Outcome State Fault Refusal

def State.lane (s : State) : LaneId → Lane
  | .a => s.a | .b => s.b | .c => s.c

def State.setLane (s : State) (i : LaneId) (l : Lane) : State :=
  match i with
  | .a => { s with a := l } | .b => { s with b := l } | .c => { s with c := l }

/-- A link over n block boundaries: at each the oldest waiting urgent block goes out, else the oldest bulk one, else an idle block; every block takes the next sequence number as it goes (R20, R21). -/
def Link.drain (k : Link) (n : Nat) : Link :=
  let out := ((k.urgent ++ k.bulk).take n).mapIdx (fun i (b : Block) => { b with seq := k.seqTx + BitVec.ofNat 8 i })
  { k with seqTx := k.seqTx + BitVec.ofNat 8 n, urgent := k.urgent.drop n, bulk := k.bulk.drop (n - k.urgent.length),
           wire := (k.wire ++ out).drop (k.wire.length + out.length - 256) }

/-- One block takes 0.8 µs (Table LN-3); the boundaries lie at the whole multiples of it in the lane's own count (log entry 80). -/
def blockTicks : Nat := 320

/-- The link hardware of a lane that has power. -/
def Lane.linkOn (l : Lane) : Bool := l.st != .off && l.st != .waking

/-- The lane at an instant: a clock never runs back, and the links have sent what the time since then lets them send. -/
def Lane.advance (l : Lane) (t : Nat) : Lane :=
  let n := max l.now t
  { l with now := n, link := if l.linkOn then l.link.map (fun k => k.drain (n / blockTicks - l.now / blockTicks)) else l.link }

/-- The lane of a command, with its clock moved to the command's instant. -/
def State.laneAt (s : State) (a : At) : Lane := (s.lane a.lane).advance a.t

/-- What the wiring of a lane fixes whatever a command does: its lane code (R361), and the pin LANE_OK, which is high in the driving states alone (R25). -/
def Lane.wired (l : Lane) (i : LaneId) : Lane := { l with id := i, laneOk := l.st.driving }

/-- Puts the lane of a command back into the module. -/
def State.put (s : State) (a : At) (l : Lane) : State := s.setLane a.lane (l.wired a.lane)

/-- Acts on the lane that a command names. -/
def State.upd (s : State) (a : At) (f : Lane → Lane) : State := s.put a (f (s.laneAt a))

/-- The outcome of a command that acts on one lane: the next state, or the fault of a unit that does not exist. -/
def run (ok : Bool) (s : State) (a : At) (f : Lane → Lane) : Out :=
  if ok then .next (s.upd a f) else .fault .noSuchUnit

/-- Acts when a condition holds. -/
def Lane.when (l : Lane) (c : Bool) (f : Lane → Lane) : Lane := if c then f l else l

/-! ### Time that has passed -/

/-- An instant has come. -/
def Lane.due (l : Lane) (t : Nat) : Bool := decide (t ≤ l.now)

/-- An optional instant has come. -/
def Lane.dueAt (l : Lane) : Option Nat → Bool
  | some t => decide (t ≤ l.now)
  | none => false

/-- Instants not older than w, with the present one put in front. -/
def recent (now w : Nat) (ts : List Nat) : List Nat := now :: ts.filter (fun t => decide (now < t + w))

/-! ### Free values -/

/-- The next free value of the lane: nothing is known of it (log entry 2). -/
def Lane.freeNat (l : Lane) : Nat × Lane := (Config.freeNat l.fresh, { l with fresh := l.fresh + 1 })

/-- Counter and start of the network cycle that the lane goes by: its own, or while its controller integrates that of the CYCLE blocks (R283). -/
def Lane.cycRef (l : Lane) : Nat × Nat :=
  match l.net.given with
  | some (c, t) => let len := max 1 (us (l.np 0xB101)); let n := (l.now - t) / len; (c + n, t + n * len)
  | none => (l.net.cycle.toNat, l.net.cycleAt)

/-- The cycle counter, 48 bits. -/
def Lane.cyc (l : Lane) : Nat := l.cycRef.1

/-! ### Ring memory and queues -/

def qVisible (n : Nat) : Bool := n < 2 || (decide (8 ≤ n) && decide (n < 48))
/-- Queues that the host produces (Table MB-7). -/
def qHostIn (n : Nat) : Bool := n == 0 || n == 11 || (decide (16 ≤ n) && decide (n < 48))
/-- Queues that the host consumes. -/
def qHostOut (n : Nat) : Bool := n == 1 || (decide (8 ≤ n) && decide (n < 48) && n != 11)

def Lane.qDepth (l : Lane) (n : Nat) : Nat := if n < 60 then l.p 0x1100 n else (qDefault n).1
def Lane.qBuf (l : Lane) (n : Nat) : Nat := if n < 60 then l.p 0x1101 n else (qDefault n).2

def Lane.qBytes (l : Lane) (n : Nat) : Nat := if qVisible n then l.qDepth n * (16 + l.qBuf n) else 0

/-- Byte address of descriptor 0 of a host-visible queue: the queues follow one another from 0x4000, each with its descriptors and then its buffers (log entry 4). -/
def Lane.qBase (l : Lane) (n : Nat) : Nat := 0x4000 + ((List.range n).map l.qBytes).sum

def Lane.qDesc (l : Lane) (n i : Nat) : Nat := l.qBase n + 16 * i
def Lane.qBufAt (l : Lane) (n i : Nat) : Nat := l.qBase n + 16 * l.qDepth n + l.qBuf n * i

def Lane.q (l : Lane) (n : Nat) : Queue := l.mb.q.getD n {}
def Lane.setQ (l : Lane) (n : Nat) (q : Queue) : Lane := { l with mb.q := l.mb.q.set n q }
def Lane.qFree (l : Lane) (n : Nat) : Nat := l.qDepth n - 1 - (l.q n).items.length
def Lane.qFull (l : Lane) (n : Nat) : Bool := l.qFree n == 0

/-- Drops the oldest entry of a queue. -/
def Lane.qPop (l : Lane) (n : Nat) : Lane :=
  let q := l.q n
  match q.items with
  | [] => l
  | _ :: r => l.setQ n { q with items := r, head := (q.head + 1) % l.qDepth n }

/-- Bits of IRQ_STAT that new entries of a queue set (Table MB-9). -/
def qIrq (n : Nat) : Option Nat :=
  if n == 1 then some 0 else if n == 8 then some 1 else if n == 9 then some 2
  else if 12 ≤ n ∧ n ≤ 15 then some (n - 8) else none

/-- Writes one entry at TAIL: buffer, then descriptor, then TAIL (R334). -/
def Lane.qPut (l : Lane) (n flags : Nat) (data : List Byte) : Lane :=
  let q := l.q n
  let fl := flags + b2n q.lost * 0x1000
  let e : QEntry := { flags := .ofNat 16 fl, seq := .ofNat 16 q.seq, stamp := .ofNat 32 l.now, data := data }
  let ring := if qVisible n then
      cellStore (cellStore l.mb.ring (l.qBufAt n q.tail) data) (l.qDesc n q.tail)
        (leBytes 4 (l.qBufAt n q.tail) ++ leBytes 2 data.length ++ leBytes 2 fl ++ leBytes 2 q.seq ++ [0, 0] ++ leBytes 4 l.now)
    else l.mb.ring
  let q' : Queue := { q with items := q.items ++ [e], tail := (q.tail + 1) % l.qDepth n, seq := (q.seq + 1) % 65536, lost := false }
  let l := ({ l with mb.ring := ring }).setQ n q'
  match qIrq n with
  | some b => l.irqSet b
  | none => l

/-- Descriptor flags SOP and EOP together. -/
def sopEop : Nat := 0xC000

/-- Marks DROP at the head of a queue: entries were lost before that one, or before the next to come (Table MB-3). -/
def Lane.qMarkDrop (l : Lane) (n : Nat) : Lane :=
  let q := l.q n
  match q.items with
  | [] => l.setQ n { q with lost := true }
  | e :: r =>
    let fl := e.flags ||| 0x1000
    let l := l.setQ n { q with items := { e with flags := fl } :: r }
    if qVisible n then { l with mb.ring := cellStore l.mb.ring (l.qDesc n q.head + 6) (leBytes 2 fl.toNat) } else l

/-- One single-buffer record into a queue that overwrites its oldest entry when full. -/
def Lane.qOverwrite (l : Lane) (n : Nat) (data : List Byte) : Lane :=
  (l.when (l.qFull n) (fun l => (l.qPop n).qMarkDrop n)).qPut n sopEop data

/-- One record into a queue that drops the newest record when full. -/
def Lane.qDropNew (l : Lane) (n : Nat) (data : List Byte) : Lane :=
  if l.qFull n then l.setQ n { l.q n with lost := true } else l.qPut n sopEop data

/-- Cuts bytes into buffers of n, the last one short; the fuel is the length. -/
def chunks (n : Nat) : Nat → List Byte → List (List Byte)
  | 0, _ => []
  | k + 1, l => if l.length ≤ n then [l] else l.take n :: chunks n k (l.drop n)

/-- Puts the buffers of a message: SOP on the first, EOP on the last (R335). -/
def Lane.qPutAll (l : Lane) (n : Nat) (first : Bool) : List (List Byte) → Lane
  | [] => l
  | [c] => l.qPut n (b2n first * 0x8000 + 0x4000) c
  | c :: r => (l.qPut n (b2n first * 0x8000) c).qPutAll n false r

def Lane.msgBufs (l : Lane) (n : Nat) (m : List Byte) : List (List Byte) := chunks (l.qBuf n) m.length m

/-- The free descriptors hold a message (R335). -/
def Lane.qFits (l : Lane) (n : Nat) (m : List Byte) : Bool := decide ((l.msgBufs n m).length ≤ l.qFree n)

def Lane.qPutMsg (l : Lane) (n : Nat) (m : List Byte) : Lane := l.qPutAll n true (l.msgBufs n m)

/-- The entries of the message at the head of a queue: up to the first EOP. -/
def headEntries : List QEntry → List QEntry
  | [] => []
  | e :: r => if bit e.flags.toNat 14 then [e] else e :: headEntries r

def Lane.qHeadMsg (l : Lane) (n : Nat) : List Byte := (headEntries (l.q n).items).flatMap QEntry.data

/-- Drops k entries from the head of a queue. -/
def Lane.qDropN (l : Lane) (n k : Nat) : Lane :=
  let q := l.q n
  let k := min k q.items.length
  l.setQ n { q with items := q.items.drop k, head := (q.head + k) % l.qDepth n }

/-- An entry that its consumer inside the lane takes as it comes (Table MB-1). -/
def Lane.qPass (l : Lane) (n : Nat) (data : List Byte) : Lane := (l.qPut n sopEop data).qDropN n 1

/-! ### Events and the fault log -/

/-- Codes whose fault-log entries are pinned whatever the lane state (R396). -/
def pinned (code : Nat) : Bool := [0xE105, 0xE102, 0xE104, 0xC106].contains code

/-- The bytes of an event record (R334). -/
def EventRec.bytes (l : Lane) (e : EventRec) : List Byte :=
  leBytes 8 e.t ++ leBytes 2 e.code ++ [BitVec.ofNat 8 (e.st.code * 16 + l.id.code)] ++ [BitVec.ofNat 8 (b2n e.after)] ++ leBytes 4 e.arg.toNat

/-- Adds an entry to the fault-log buffer when MEM_LOG_MASK selects its block (R396). -/
def Lane.logAdd (l : Lane) (code : Nat) (arg : W32) (t : Nat) (aon : Bool) : Lane :=
  if bit (l.p 0xE108) (code / 0x1000) then
    { l with mem.logBuf := l.mem.logBuf ++ [{ stamp := t, code := code, st := l.st, lane := l.id.code, pin := pinned code, aon := aon, arg := arg, entry := l.mem.logNext, boot := l.pwr.boot, cycle := l.cyc }],
             mem.logNext := l.mem.logNext + 1 }
  else l

/-- Puts one event record: the log of the last 1,024 events, Q08, which overwrites its oldest record when full, and the fault log. -/
def Lane.eventRaw (l : Lane) (code arg : Nat) (after : Bool) : Lane :=
  let e : EventRec := { code := code, arg := .ofNat 32 arg, t := l.now, st := l.st, after := after }
  let lost := b2n (l.qFull 8)
  let l := { l with mb.log := (l.mb.log ++ [e]).drop (l.mb.log.length - 1023), mb.evtCnt := l.mb.evtCnt + 1, mb.evtLost := l.mb.evtLost + lost }
  (l.qOverwrite 8 (e.bytes l)).logAdd code e.arg l.now false

/-- Raises an event (R334, R371). The first record that Q08 has room for after a loss is EVENT_LOST with the number of overwritten records (log entry 5). -/
def Lane.event (l : Lane) (code : Nat) (arg : Nat := 0) : Lane :=
  if l.mb.evtLost != 0 && !l.qFull 8 then
    ({ l with mb.evtLost := 0 } |>.eventRaw 0x1105 l.mb.evtLost true).eventRaw code arg false
  else l.eventRaw code arg false

/-- Raises an event whose argument the spec does not state: the argument is a free value (log entry 2). -/
def Lane.eventU (l : Lane) (code : Nat) : Lane :=
  ({ l with fresh := l.fresh + 1 }).event code (Config.freeNat l.fresh)

/-- Latches an event in the AON domain for the fault log of the next start (R381, R417). -/
def Lane.aonEvent (l : Lane) (code : Nat) (arg : Nat := 0) : Lane :=
  { l with pwr.aonEv := l.pwr.aonEv ++ [{ code := code, arg := .ofNat 32 arg, t := l.now, st := l.st }] }

/-- Reports the end of a command answered ACCEPTED and not ended in silence (R360): TAG, opcode and final status. -/
def Lane.complete (l : Lane) (k : CmdKey) (status : Nat) : Lane :=
  if l.mb.accepted.contains k then
    ({ l with mb.accepted := l.mb.accepted.erase k }).event 0x110B (k.tag.toNat * 65536 + k.op * 256 + status)
  else l

def Lane.completeOpt (l : Lane) (k : Option CmdKey) (status : Nat) : Lane :=
  match k with
  | some k => l.complete k status
  | none => l

/-! ### Lane state -/

/-- Enters a lane state (Table LN-4): LANE_OK follows (R25) and STATE of IRQ_STAT is set (R343). -/
def Lane.setSt (l : Lane) (st : LaneSt) : Lane :=
  if l.st == st then l
  else (({ l with st := st, laneOk := st.driving }).irqSet 8).irqLine

/-- The states in which the lane holds the module's authority or may follow it. -/
def Lane.driving (l : Lane) : Bool := l.st.driving

/-! ### Inter-lane blocks -/

def Lane.lnk (l : Lane) (p : LaneId) : Link := l.link.getD p.idx {}
def Lane.setLnk (l : Lane) (p : LaneId) (k : Link) : Lane := { l with link := l.link.set p.idx k }
def Lane.linkUp (l : Lane) (p : LaneId) : Bool := p != l.id && (l.lnk p).up

/-- Hands a block to the link towards a peer: it waits for a block boundary, urgent ahead of bulk (R20). -/
def Lane.send (l : Lane) (p : LaneId) (urgent : Bool) (kind : Nat) (payload : List Byte) (dest : Option LaneId := none) (side : Option LaneNews := none) : Lane :=
  if p == l.id then l else
  let k := l.lnk p
  let b : Block := { kind := .ofNat 8 kind, payload := payload ++ List.replicate (12 - payload.length) 0, dest := dest, side := side }
  l.setLnk p (if urgent then { k with urgent := k.urgent ++ [b] } else { k with bulk := k.bulk ++ [b] })

/-- Hands a block to both links. -/
def Lane.sendBoth (l : Lane) (urgent : Bool) (kind : Nat) (payload : List Byte) (side : Option LaneNews := none) : Lane :=
  (l.send l.id.next urgent kind payload none side).send l.id.prev urgent kind payload none side

end Sys2Proof.Machine
end

