-- ==== Sys2Proof/Machine/Keys.lean ====
section
/-! DEFINITION. Keys and tags: the key derivation, the tags of Icbex and CAN frames and the session response (R307, R309, R319, R352). -/

namespace Sys2Proof.Machine

/-- ASCII bytes. -/
def ascii (l : List Nat) : List Byte := l.map (BitVec.ofNat 8)

/-- The KDF in counter mode of SP 800-108: one iteration, L = 128 (R309). The counter and L are 32 bits, most significant byte first (log entry 6). -/
def kdf (root label : List Byte) (ctx : List Byte) : List Byte :=
  cmac root (beBytes 4 1 ++ label ++ [0] ++ ctx ++ beBytes 4 128)

/-- The first four bytes of a CMAC as a number in the byte order of the standard (R307). -/
def tag32 (key msg : List Byte) : W32 := .ofNat 32 (beNat ((cmac key msg).take 4))

/-- Channel code of the own (false) or the tapped channel (true): a lane taps the next lane's channel (R268). -/
def Lane.chanCode (l : Lane) (tapped : Bool) : Nat := if tapped then l.id.next.code else l.id.code

/-- A secret key of the OTP, usable while its slot is loaded (Table BT-12). -/
def Lane.secKey (l : Lane) (n : Nat) : List Byte :=
  if bit l.boot.pu.keyLock.toNat n then l.secOtp n else []

/-- Key slot n is loaded. -/
def Lane.keyLoaded (l : Lane) (n : Nat) : Bool := bit l.boot.pu.keyLock.toNat n

/-- The channel key of an epoch (R309). -/
def Lane.chanKey (l : Lane) (tapped : Bool) (epoch : Nat) : List Byte :=
  kdf (l.secKey (b2n tapped)) (ascii [0x49, 0x43, 0x42, 0x58]) [.ofNat 8 (l.chanCode tapped), .ofNat 8 epoch]

/-- The CAN key of a port and epoch (R319): the context is the channel code, as in R309. -/
def Lane.canKey (l : Lane) (port epoch : Nat) : List Byte :=
  kdf (l.secKey (2 + port)) (ascii [0x49, 0x43, 0x41, 0x4E]) [.ofNat 8 l.id.code, .ofNat 8 epoch]

/-- The tag of an Icbex frame (R307). -/
def Lane.frameTag (l : Lane) (tapped : Bool) (epoch cycHi : Nat) (hdr payload : List Byte) : W32 :=
  tag32 (l.chanKey tapped epoch) ([.ofNat 8 (l.chanCode tapped)] ++ leBytes 2 cycHi ++ hdr ++ payload)

/-- The tag of a CAN frame (R319). -/
def Lane.canTag (l : Lane) (port epoch id : Nat) (data : List Byte) : W32 :=
  tag32 (l.canKey port epoch) (leBytes 4 id ++ data)

/-- The response value of a session (R352). -/
def Lane.sesValue (l : Lane) (level : Nat) (nonce : List Byte) (tr : Transport) (host : Nat) : List Byte :=
  cmac (l.secKey (3 + level))
    (ascii [0x4B, 0x53, 0x45, 0x53] ++ nonce ++ l.uid ++
      [.ofNat 8 l.id.code, .ofNat 8 tr.code, .ofNat 8 host, .ofNat 8 level])

end Sys2Proof.Machine
end

