-- ==== Sys2Proof/Machine/Operands.lean ====
section
/-! DEFINITION. The operand forms of host commands: argument layouts (R361, Tables CP-2 to CP-6), the command and response headers (Tables MB-4 and MB-5), status codes (Table CP-1). -/

namespace Sys2Proof.Machine

/-! ### Status codes (Table CP-1) -/
def stDone : Nat := 0x00
def stAccepted : Nat := 0x01
def stBusy : Nat := 0x02
def stBusySelftest : Nat := 0x03
def stRefusedState : Nat := 0x04
def stRefusedAuth : Nat := 0x05
def stBadParam : Nat := 0x06
def stLoopNotOpen : Nat := 0x07
def stAbortedDisable : Nat := 0x08
def stAbortedSuperseded : Nat := 0x09
def stClearRefused : Nat := 0x0A
def stGenExhausted : Nat := 0x0B
def stNotAuthority : Nat := 0x0C
def stTimeout : Nat := 0x0D
def stUnsupported : Nat := 0x0E

/-- The layout of an opcode's arguments: length, bytes that must be 0, offsets of f32 values; none for an opcode that no table lists (R362). -/
structure Layout where
  len    : Nat
  zeros  : List Nat := []
  floats : List Nat := []
deriving DecidableEq, Repr

/-- Fixed-length layouts of Tables CP-2 to CP-5; the layouts that end in a repeated part give their fixed part. -/
def layoutOf (op : Nat) : Option Layout :=
  match op with
  | 0x00 => some { len := 0 }
  | 0x01 => some { len := 0 }
  | 0x02 => some { len := 20, zeros := [1, 2, 3] }
  | 0x03 => some { len := 0 }
  | 0x08 => some { len := 8, zeros := [7] }
  | 0x09 => some { len := 12, zeros := [7, 10, 11] }
  | 0x0A => some { len := 4, zeros := [1, 2, 3] }
  | 0x0B => some { len := 4, zeros := [2, 3] }
  | 0x0C => some { len := 4, zeros := [1, 2, 3] }
  | 0x10 => some { len := 8, zeros := [2, 3], floats := [4] }
  | 0x11 => some { len := 4, zeros := [2, 3] }
  | 0x12 => some { len := 12, floats := [0, 4] }
  | 0x13 => some { len := 28, zeros := [1, 2, 3], floats := [4] }
  | 0x14 => some { len := 8, zeros := [1, 2, 3], floats := [4] }
  | 0x15 => some { len := 8, zeros := [1, 2, 3], floats := [4] }
  | 0x16 => some { len := 12, floats := [0, 4] }
  | 0x17 => some { len := 4, zeros := [1, 2, 3] }
  | 0x18 => some { len := 8, zeros := [1, 2, 3], floats := [4] }
  | 0x19 => some { len := 12, zeros := [9, 10, 11], floats := [0] }
  | 0x20 => some { len := 4, zeros := [2, 3] }
  | 0x21 => some { len := 4, zeros := [1, 2, 3] }
  | 0x22 => some { len := 516, zeros := [2, 3] }
  | 0x23 => some { len := 4, zeros := [3] }
  | 0x30 => some { len := 4, zeros := [2, 3] }
  | 0x31 => some { len := 4, zeros := [1, 2, 3] }
  | 0x32 => some { len := 0 }
  | 0x34 => some { len := 4, zeros := [2, 3] }
  | 0x35 => some { len := 4, zeros := [3] }
  | 0x36 => some { len := 4, zeros := [2, 3] }
  | 0x40 => some { len := 4, zeros := [2, 3] }
  | 0x41 => some { len := 4, zeros := [1, 2, 3] }
  | 0x42 => some { len := 24, floats := [4, 12, 16] }
  | 0x43 => some { len := 12, zeros := [3] }
  | 0x44 => some { len := 4, zeros := [2, 3] }
  | 0x45 => some { len := 4, zeros := [1, 2, 3] }
  | 0x50 => some { len := 12, zeros := [2, 3], floats := [4] }
  | 0x51 => some { len := 4, zeros := [2, 3] }
  | 0x52 => some { len := 4, zeros := [2, 3] }
  | 0x53 => some { len := 4, zeros := [1, 2, 3] }
  | 0x60 => some { len := 0 }
  | 0x61 => some { len := 4, zeros := [1, 2, 3] }
  | 0x62 => some { len := 4, floats := [0] }
  | 0x70 => some { len := 4, zeros := [1, 2, 3] }
  | 0x71 => some { len := 0 }
  | 0x72 => some { len := 4, zeros := [3] }
  | 0x73 => some { len := 12, zeros := [2, 3, 10, 11] }
  | 0x74 => some { len := 0 }
  | 0x75 => some { len := 4, zeros := [1, 2, 3] }
  | 0x80 => some { len := 4, zeros := [1, 2, 3] }
  | 0x81 => some { len := 0 }
  | 0x90 => some { len := 4 }
  | 0x91 => some { len := 4, zeros := [1, 2, 3] }
  | 0x92 => some { len := 4, zeros := [1, 2, 3] }
  | 0x93 => some { len := 0 }
  | 0xA0 => some { len := 8, zeros := [3] }
  | 0xA1 => some { len := 64 }
  | 0xA2 => some { len := 8, zeros := [3] }
  | 0xA3 => some { len := 0 }
  | 0xA4 => some { len := 4, zeros := [1, 2, 3] }
  | 0xB0 => some { len := 8, zeros := [1, 2, 3] }
  | 0xB1 => some { len := 4 }
  | 0xB2 => some { len := 0 }
  | 0xB3 => some { len := 4, zeros := [1, 2, 3] }
  | 0xB4 => some { len := 0 }
  | 0xC0 => some { len := 4, zeros := [3] }
  | 0xC1 => some { len := 8, zeros := [6, 7] }
  | 0xC2 => some { len := 4 }
  | 0xC3 => some { len := 4, zeros := [1, 2, 3] }
  | _ => none

/-- The length that a layout asks for, given the arguments: its fixed part, or the fixed part and a whole number of repeats. -/
def layoutLen (op fixed : Nat) (a : List Byte) : Bool :=
  let n := a.length
  match op with
  | 0x09 => decide (12 ≤ n)
  | 0x0C => n == 4 + 32 * byteAt a 0 && decide (1 ≤ byteAt a 0) && decide (byteAt a 0 ≤ 63)
  | 0x19 => n == 12 + 8 * byteAt a 8 && decide (1 ≤ byteAt a 8) && decide (byteAt a 8 ≤ 32)
  | 0x22 => n == (if byteAt a 1 == 15 then 520 else 516)
  | 0xA0 => decide (9 ≤ n) && decide (n ≤ 2032)
  | 0xA2 => decide (9 ≤ n) && decide (n ≤ 2032)
  | 0xB1 => decide (5 ≤ n) && decide (n ≤ 2032)
  | _ => n == fixed

/-- Bits that the layouts mark 0 inside a byte, and the prefix of PARAM_WRITE (Table CP-6), whose TYPE and ELEM must match the parameter. -/
def layoutBits (op : Nat) (a : List Byte) : Bool :=
  match op with
  | 0x08 => decide (byteAt a 6 < 2)
  | 0x09 =>
    let count := leAt a 4 2
    let elem := leAt a 8 2
    match prow (leAt a 0 2) with
    | none => true
    | some r =>
      byteAt a 6 == r.ty.code && decide (1 ≤ count) &&
      (if r.isVar then (if count == 1 then decide (1 ≤ elem) && decide (elem ≤ r.elems) else elem == r.elems) else elem == r.elems) &&
      a.length == 12 + count * elem * r.ty.bytes
  | 0x13 => decide (byteAt a 0 < 16) && (List.range 4).all (fun w => !bit (byteAt a 0) w || ffinite (.ofNat 32 (leAt a (12 + 4 * w) 4)))
  | 0x14 => bits (byteAt a 0) 6 1 == 0
  | 0x19 => (List.range (byteAt a 8)).all (fun k => decide (byteAt a (13 + 8 * k) < 4))
  | 0xA0 => leAt a 0 2 == 0 || leAt a 4 4 == 0
  | 0xA2 => leAt a 0 2 == 0 || leAt a 4 4 == 0
  | _ => true

/-- Check 6 of R337: the arguments meet the layout of their opcode (R361). -/
def layoutOk (op : Nat) (a : List Byte) : Bool :=
  match layoutOf op with
  | none => false
  | some y =>
    layoutLen op y.len a && y.zeros.all (fun k => byteAt a k == 0) &&
    y.floats.all (fun k => ffinite (.ofNat 32 (leAt a k 4))) && layoutBits op a

/-- Version-1 argument forms of PARAM_READ and PARAM_WRITE (R377). -/
def layoutOkV1 (op : Nat) (a : List Byte) : Bool :=
  match op with
  | 0x08 => a.length == 3
  | 0x09 =>
    match prow (leAt a 0 2) with
    | none => decide (4 ≤ a.length)
    | some r => decide (4 ≤ a.length) && byteAt a 3 == 0 &&
      (if r.isVar then decide (a.length ≤ 4 + r.elems * r.ty.bytes) && decide (4 < a.length) && (a.length - 4) % r.ty.bytes == 0
       else a.length == 4 + r.elems * r.ty.bytes)
  | _ => layoutOk op a

/-- Read-only commands (R362). -/
def opRO (op : Nat) : Bool :=
  [0x00, 0x08, 0x0B, 0x17, 0x21, 0x32, 0x60, 0x70, 0x81, 0x92, 0xA3, 0xB4, 0xC0, 0xC1].contains op

/-- Session commands. -/
def opSession (op : Nat) : Bool := [0x01, 0x02, 0x03].contains op

/-- Opcodes that version 1 accepts (R377). -/
def opV1 (op : Nat) : Bool :=
  op < 4 || op == 8 || op == 9 || (decide (0x10 ≤ op) && decide (op ≤ 0x18)) || op == 0x30 || op == 0x60

/-- Status mapping for version 1 (Table CP-12). -/
def stV1 (s : Nat) : Nat :=
  match s with
  | 0 => 0 | 1 => 1 | 2 => 2 | 3 => 2
  | 4 => 3 | 7 => 3 | 0xA => 3 | 0xB => 3 | 0xC => 3
  | 6 => 4 | 5 => 5 | 0xD => 6 | _ => 7

/-- The header and arguments of a command as a ring holds them (Table MB-4). -/
def Msg.bytes (m : Msg) (op : Nat) : List Byte :=
  [.ofNat 8 op, .ofNat 8 m.ver] ++ leBytes 2 m.tag ++ leBytes 2 m.args.length ++
  [.ofNat 8 m.host, .ofNat 8 (b2n m.noResp + 2 * b2n m.bcast)] ++ leBytes 4 m.expire ++ [0, 0, 0, 0] ++ m.args

def Msg.key (m : Msg) (op : Nat) : CmdKey :=
  { tr := m.tr, host := m.host, tag := .ofNat 16 m.tag, op := op, ver := m.ver, msgId := m.msgId, port := m.port,
    noResp := (m.ver != 1 && m.noResp) || m.bcast }

/-- Argument accessors: an unsigned field of n bytes, and a binary32 value. -/
def Msg.u8 (m : Msg) (k : Nat) : Nat := byteAt m.args k
def Msg.u16 (m : Msg) (k : Nat) : Nat := leAt m.args k 2
def Msg.u32 (m : Msg) (k : Nat) : Nat := leAt m.args k 4
def Msg.f32 (m : Msg) (k : Nat) : F32 := .ofNat 32 (leAt m.args k 4)

end Sys2Proof.Machine
end

