-- ==== Sys2Proof/Machine/Serve.lean ====
section
/-! DEFINITION. Taking a command from its queue, the checks of R337, and the response with its ways out (R334 to R338, R346 to R353, R377, R378). -/

namespace Sys2Proof.Machine

/-! ### Ways out of responses -/

def Lane.canOf (l : Lane) (port : Nat) : Can := l.ports.can.getD port {}
def Lane.setCan (l : Lane) (port : Nat) (c : Can) : Lane := { l with ports.can := l.ports.can.set port c }

/-- Data lengths of CAN FD. -/
def fdLen (n : Nat) : Nat :=
  if n ≤ 8 then n else if n ≤ 12 then 12 else if n ≤ 16 then 16 else if n ≤ 20 then 20
  else if n ≤ 24 then 24 else if n ≤ 32 then 32 else if n ≤ 48 then 48 else 64

/-- The identifier of a frame from the lane (Table NF-6). -/
def Lane.canId (l : Lane) (prio kind host : Nat) : Nat :=
  prio * 2 ^ 26 + 2 ^ 25 + l.np 0xB105 * 2 ^ 19 + l.id.code * 2 ^ 17 + kind * 2 ^ 13 + host * 2 ^ 8

/-- Sends one CAN frame with its FRESH and its tag, which fills the last four bytes of the data field (R318, R319). -/
def Lane.canSend (l : Lane) (port id seg msgId : Nat) (body : List Byte) (fd : Bool) : Lane :=
  let c := l.canOf port
  let c' : Can := { c with txFresh := c.txFresh + 1,
                           txStored := if (c.txFresh + 1).toNat % 4096 == 0 then c.txFresh + 1 else c.txStored }
  let head := [.ofNat 8 seg, .ofNat 8 msgId, .ofNat 8 c.epoch] ++ leBytes 4 c'.txFresh.toNat ++ body
  let n := if fd then fdLen (head.length + 4) else head.length + 4
  let data := head ++ List.replicate (n - 4 - head.length) 0
  let frame := data ++ beBytes 4 (l.canTag port c.epoch id data).toNat
  l.setCan port { c' with tx := c'.tx ++ [(id, frame)] }

/-- SEG byte of segment i of n (R318). -/
def segByte (i n : Nat) : Nat :=
  (if n ≤ 1 then 0 else if i == 0 then 1 else if i + 1 == n then 3 else 2) * 64 + i % 64

/-- Sends the segments of a response on CAN: KIND 1, DIR 1 (R349). -/
def Lane.canSegs (l : Lane) (port host msgId n i : Nat) (fd : Bool) : List (List Byte) → Lane
  | [] => l
  | c :: r => (l.canSend port (l.canId 4 1 host) (segByte i n) msgId c fd).canSegs port host msgId n (i + 1) fd r

def Lane.canRespond (l : Lane) (k : CmdKey) (msg : List Byte) : Lane :=
  let xl := l.p 0xB150 k.port == 2
  let cs := chunks (if xl then 2037 else 53) msg.length msg
  l.canSegs k.port k.host k.msgId cs.length 0 (!xl) cs

/-- Puts the MAILBOX payloads of a response into Q49 (R349, Table NF-2). -/
def Lane.netSegs (l : Lane) (node msgId n i : Nat) : List (List Byte) → Lane
  | [] => l
  | c :: r => (l.qPut 49 sopEop ([.ofNat 8 node, .ofNat 8 (segByte i n), .ofNat 8 msgId, 0] ++ c)).netSegs node msgId n (i + 1) r

/-- Moves responses from Q03 to Q49 while Q49 has room for all segments of the oldest; the fuel is the number of responses. -/
def Lane.netPump (l : Lane) : Nat → Lane
  | 0 => l
  | f + 1 =>
    match l.mb.metaNet with
    | [] => l
    | k :: r =>
      let msg := l.qHeadMsg 3
      let cs := chunks 60 msg.length msg
      if cs.length ≤ l.qFree 49 then
        (((({ l with mb.metaNet := r }).qDropN 3 (headEntries (l.q 3).items).length)).netSegs k.host k.msgId cs.length 0 cs).netPump f
      else l

/-! ### Responses -/

def respQ : Transport → Nat
  | .spi => 1 | .net => 3 | .sp => 5 | .can => 7

def cmdQ : Transport → Nat
  | .spi => 0 | .net => 2 | .sp => 4 | .can => 6

def Lane.cntOf (l : Lane) (tr : Transport) : MbCounters := l.mb.cnt.getD (tr.code - 1) {}
def Lane.setCnt (l : Lane) (tr : Transport) (c : MbCounters) : Lane := { l with mb.cnt := l.mb.cnt.set (tr.code - 1) c }

/-- The bytes of a response (Table MB-5; version 1: R377, Table CP-12). -/
def Lane.respBytes (l : Lane) (k : CmdKey) (status : Nat) (res : List Byte) : List Byte :=
  let v1 := k.ver == 1
  [.ofNat 8 k.op, .ofNat 8 (if v1 then stV1 status else status)] ++ leBytes 2 k.tag.toNat ++ leBytes 2 res.length ++ [.ofNat 8 k.host] ++
  (if v1 then List.replicate 9 0 else [.ofNat 8 (l.st.code * 16 + l.id.code)] ++ leBytes 8 l.now) ++ res

/-- Remembers a response for its MSG_ID: the last 4 of each host (R348). -/
def remember (ms : List Remembered) (host msgId : Nat) (resp : List Byte) : List Remembered :=
  let mine := ms.filter (fun r => r.host == host)
  let rest := ms.filter (fun r => r.host != host)
  let r : Remembered := ⟨host, msgId, resp⟩
  rest ++ (mine ++ [r]).drop (mine.length - 3)

/-- Hands a finished response message to its queue and onwards. -/
def Lane.respSend (l : Lane) (k : CmdKey) (msg : List Byte) : Lane :=
  let q := respQ k.tr
  if l.qFits q msg && l.mb.respWait.all (fun w => w.1.tr != k.tr) then
    let l := l.qPutMsg q msg
    match k.tr with
    | .net => ({ l with mb.metaNet := l.mb.metaNet ++ [k] }).netPump (l.mb.metaNet.length + 1)
    | .can => (l.canRespond k msg).qDropN 7 (headEntries (l.q 7).items).length
    | _ => l
  else { l with mb.respWait := l.mb.respWait ++ [(k, msg)] }

/-- Writes the one response of a command (R336), unless it asked for none or was broadcast, and counts it. -/
def Lane.respond (l : Lane) (k : CmdKey) (status : Nat) (res : List Byte) : Lane :=
  let c := l.cntOf k.tr
  let l := l.setCnt k.tr (if status == stTimeout then { c with timeout := c.timeout + 1 }
                          else if status == stDone || status == stAccepted then c
                          else { c with refused := c.refused + 1 })
  if k.noResp then l else
  let msg := l.respBytes k status res
  let l := match k.tr with
    | .net => { l with mb.memNet := remember l.mb.memNet k.host k.msgId msg }
    | .can => { l with mb.memCan := remember l.mb.memCan k.host k.msgId msg }
    | _ => l
  l.respSend k msg

/-- Hands waiting responses to their queues again, in order. -/
def Lane.respFlush (l : Lane) : Lane :=
  l.mb.respWait.foldl (fun l w => l.respSend w.1 w.2) { l with mb.respWait := [] }

/-- Ends a deferred command: its response is written and the transport's queue moves on (R336). -/
def Lane.answer (l : Lane) (k : CmdKey) (status : Nat) (res : List Byte := []) : Lane :=
  if l.mb.deferred.contains k then ({ l with mb.deferred := l.mb.deferred.erase k }).respond k status res else l

def Lane.answerOpt (l : Lane) (k : Option CmdKey) (status : Nat) : Lane :=
  match k with
  | some k => l.answer k status
  | none => l

/-! ### Taking a command -/

/-- The firmware runs: after its start, outside SAVE and OFF (Tables BT-1 and LN-4). -/
def Lane.fwRuns (l : Lane) : Bool :=
  (l.pwr.step == .done || l.pwr.step == .checks) && l.st != .off && l.st != .waking && l.st != .boot && l.st != .save

/-- The lane may take a command of a transport now (R336, Table MB-1, Table MB-16; a lane in FAILSILENT serves its own service port, R254): the previous one has its response, the response queue is not full, no debug halt holds it. -/
def Lane.canTake (l : Lane) (tr : Transport) : Bool :=
  (l.fwRuns || (l.st == .failSilent && tr == .sp)) && !l.pwm.halted && l.mb.deferred.all (fun k => k.tr != tr) && l.mb.respWait.all (fun w => w.1.tr != tr) && !l.qFull (respQ tr)

/-- Takes a command: from the head of its queue, where it must stand, or directly when the queue is empty (log entry 7). -/
def Lane.take (l : Lane) (op : Nat) (m : Msg) : Option Lane :=
  let q := cmdQ m.tr
  if !l.canTake m.tr then none
  else
    let items := (l.q q).items
    if items.isEmpty || l.qHeadMsg q == m.bytes op then
      let full := l.qFull q
      let l := l.qDropN q (headEntries items).length
      let l := l.when (full && q == 0) (fun l => l.irqSet 3)
      let c := l.cntOf m.tr
      let l := l.setCnt m.tr { c with taken := c.taken + 1 }
      some { l with mb.ses := l.mb.ses.modify (m.tr.code - 1) (fun s => { s with lastCmd := l.now }) }
    else none

/-- Opcode masks of the protection unit (Table BT-11). -/
def Lane.senderMask (l : Lane) : Transport → W16
  | .spi => l.boot.pu.hspi | .net => l.boot.pu.icbex | .sp => l.boot.pu.sport | .can => l.boot.pu.can

/-- The session level that an opcode needs on a transport (R351, R432). -/
def Lane.sesNeed (l : Lane) (op : Nat) (tr : Transport) : Nat :=
  let wired := tr == .spi || tr == .sp
  if l.boot.life == 3 && wired then 0
  else if 0xA0 ≤ op && op ≤ 0xBF then 2
  else if wired && !opRO op && !opSession op then 1
  else 0

/-- A session of the level is open for the sender. -/
def Lane.sesHas (l : Lane) (level : Nat) (m : Msg) : Bool :=
  let s := l.mb.ses.getD (m.tr.code - 1) {}
  level == 0 || (decide (level ≤ s.level) && ((m.tr == .spi || m.tr == .sp) || s.host == m.host))

/-- EXPIRE has passed: the low 32 bits of the cycle counter lie after it by less than 2^31 (R337, R360). -/
def Lane.expired (l : Lane) (e : Nat) : Bool :=
  let d := (l.cyc + 2 ^ 32 - e % 2 ^ 32) % 2 ^ 32
  e != 0 && d != 0 && decide (d < 2 ^ 31)

/-- The checks of R337 in order; the status of the first that fails. -/
def Lane.gate (l : Lane) (op : Nat) (m : Msg) : Option Nat :=
  let v1 := m.ver == 1
  if !v1 && l.expired m.expire then some stTimeout
  else if !(m.ver == 2 || (v1 && l.p 0x1115 == 1)) then some stUnsupported
  else if !bit (l.senderMask m.tr).toNat (op / 16) then some stRefusedAuth
  else if !l.sesHas (l.sesNeed op m.tr) m then some stRefusedAuth
  else if (layoutOf op).isNone || (v1 && !opV1 op) then some stUnsupported
  else if !(if v1 then layoutOkV1 op m.args else layoutOk op m.args) then some stBadParam
  else none

/-- What a command's own rules answer: a status with result bytes now, or a response that a later step writes. -/
inductive Reply where
  | now (status : Nat) (res : List Byte)
  | later
deriving DecidableEq, Repr

/-- A refusal: no effect, no result bytes (R359). -/
def refuse (l : Lane) (status : Nat) : Lane × Reply := (l, .now status [])
def done (l : Lane) (res : List Byte := []) : Lane × Reply := (l, .now stDone res)

/-- MB_V1 once per transport (R377). -/
def Lane.noteV1 (l : Lane) (m : Msg) : Lane :=
  if m.ver == 1 && l.p 0x1115 == 1 && !bit l.mb.v1Seen.toNat m.tr.code then
    ({ l with mb.v1Seen := l.mb.v1Seen ||| BitVec.ofNat 16 (2 ^ m.tr.code) }).event 0x1112 m.tr.code
  else l

/-- What taking a command does: the checks of R337, then its own rules, then its response. -/
def Lane.execute (l : Lane) (op : Nat) (m : Msg) (h : Lane → Lane × Reply) : Lane :=
  match l.gate op m with
  | some st => l.respond (m.key op) st []
  | none =>
    let r := h (l.noteV1 m)
    match r.2 with
    | .now st res => r.1.respond (m.key op) st res
    | .later => { r.1 with mb.deferred := r.1.mb.deferred ++ [m.key op] }

/-- The response that a lane remembers for a command's MSG_ID (R348). -/
def Lane.recall (l : Lane) (m : Msg) : Option (List Byte) :=
  let mem := match m.tr with | .net => l.mb.memNet | .can => l.mb.memCan | _ => []
  if m.bcast then none else (mem.find? (fun r => r.host == m.host && r.msgId == m.msgId)).map Remembered.resp

/-- A taken command that is not executed: a broadcast outside opcodes 0x10 to 0x1F is discarded and counted (R349), a repeated MSG_ID gets the stored response again (R348). -/
def Lane.aside (l : Lane) (op : Nat) (m : Msg) : Option Lane :=
  if m.bcast && (m.tr == .net || m.tr == .can) && !(decide (0x10 ≤ op) && decide (op ≤ 0x1F)) then some { l with mb.bcastDrop := l.mb.bcastDrop + 1 }
  else (l.recall m).map (fun b => (l.setCnt m.tr { l.cntOf m.tr with dup := (l.cntOf m.tr).dup + 1 }).respSend (m.key op) b)

/-- Serves a command: nothing happens while the lane cannot take it (R336). -/
def Lane.serve (l : Lane) (op : Nat) (m : Msg) (h : Lane → Lane × Reply) : Lane :=
  match l.take op m with
  | none => l
  | some l => (l.aside op m).getD (l.execute op m h)

/-- The command is answered ACCEPTED and completes later (R360). -/
def accept (l : Lane) (k : CmdKey) : Lane × Reply :=
  ({ l with mb.accepted := l.mb.accepted ++ [k] }, .now stAccepted [])

/-- Returns from IDLE to RUN before a command takes effect (R404). -/
def Lane.idleToRun (l : Lane) : Lane := if l.pwr.pstate == 1 then { l with pwr.pstate := 0 } else l

end Sys2Proof.Machine
end

