-- ==== Sys2Proof/Machine/Mailbox.lean ====
section
/-! DEFINITION. The mailbox commands and the transports: sessions, streams, host SPI, service port, reassembly (chapter Mailboxes and queues). -/

namespace Sys2Proof.Machine

/-- SYS_CFG_CRC (R376): generation, image hash, overlay CRC-32. -/
def Lane.cfgCrcOf (l : Lane) (overlay : W32) : W32 :=
  crc32 ([BitVec.ofNat 8 l.boot.gen] ++ l.boot.hash ++ leBytes 4 overlay.toNat)

def Lane.cfgCrc (l : Lane) : W32 := l.cfgCrcOf (l.boot.overlayCrc.getD 0)

/-! ### Sessions (R351 to R353) -/

def Lane.ses (l : Lane) (tr : Transport) : Session := l.mb.ses.getD (tr.code - 1) {}
def Lane.setSes (l : Lane) (tr : Transport) (s : Session) : Lane := { l with mb.ses := l.mb.ses.set (tr.code - 1) s }
def Lane.closeSes (l : Lane) (tr : Transport) : Lane := l.setSes tr { l.ses tr with level := 0 }
/-- Closes every session, as a lane reset or leaving RUN does (R353). -/
def Lane.closeAll (l : Lane) : Lane := { l with mb.ses := l.mb.ses.map (fun s => { s with level := 0, nonce := none }) }

def Lane.hSessionChallenge (m : Msg) (l : Lane) : Lane × Reply :=
  if l.now < l.mb.lockUntil then refuse l stRefusedAuth
  else
    let nonce := (List.range 16).map (fun i => BitVec.ofNat 8 (Config.freeNat (l.fresh + i)))
    let s := l.ses m.tr
    let l := { l with fresh := l.fresh + 16 }
    done (l.setSes m.tr { s with level := 0, nonce := some (nonce, l.now), nonceHost := m.host }) (nonce ++ l.uid)

/-- A failed response: counted over all transports; from the third on challenges are locked out (R353). -/
def Lane.sesFail (l : Lane) : Lane :=
  let l := ({ l with mb.failCount := l.mb.failCount + 1 }).eventU 0x1107
  if 3 ≤ l.mb.failCount then
    ({ l with mb.lockUntil := l.now + sec l.mb.lockLen, mb.lockLen := min 640 (2 * l.mb.lockLen) }).eventU 0x1108
  else l

def Lane.hSessionResponse (m : Msg) (l : Lane) : Lane × Reply :=
  let level := m.u8 0
  if level != 1 && level != 2 then refuse l stBadParam
  else
    let s := l.ses m.tr
    let good := match s.nonce with
      | some (n, t) => decide (l.now < t + sec 10) && s.nonceHost == m.host && l.keyLoaded (3 + level) &&
          l.sesValue level n m.tr m.host == (m.args.drop 4).take 16
      | none => false
    let l := l.setSes m.tr { s with nonce := none }
    if good then
      let l := l.setSes m.tr { s with nonce := none, level := level, host := m.host, lastCmd := l.now, idle := sec (l.p 0x1105) }
      done (({ l with mb.failCount := 0, mb.lockLen := 10 }).eventU 0x1106)
    else (l.sesFail, .now stRefusedAuth [])

def Lane.hSessionClose (m : Msg) (l : Lane) : Lane × Reply := done (l.closeSes m.tr)

def execSessionChallenge (a : At) (m : Msg) (s : State) : Out := run true s a (fun l => l.serve 0x01 m (Lane.hSessionChallenge m))
def execSessionResponse (a : At) (m : Msg) (s : State) : Out := run true s a (fun l => l.serve 0x02 m (Lane.hSessionResponse m))
def execSessionClose (a : At) (m : Msg) (s : State) : Out := run true s a (fun l => l.serve 0x03 m (Lane.hSessionClose m))

/-- A session idle for its limit closes (R353). -/
def Lane.sesIdle (l : Lane) (tr : Transport) : Lane :=
  let s := l.ses tr
  if s.level != 0 && l.due (s.lastCmd + s.idle) then l.closeSes tr else l

def execSessionIdleTimeout (a : At) (tr : Transport) (s : State) : Out := run true s a (fun l => l.sesIdle tr)

/-- Any opcode that no table lists (R337, R362). -/
def execUnknownOpcode (a : At) (op : Nat) (m : Msg) (s : State) : Out :=
  run ((layoutOf op).isNone && decide (op < 256)) s a (fun l => l.serve op m (fun l => refuse l stUnsupported))

def Lane.hIdentify (l : Lane) : Lane × Reply :=
  done l (leBytes 4 l.spiId ++ l.uid ++ leBytes 4 l.boot.fwVersion.toNat ++ leBytes 2 (l.boot.gen + 256 * l.spareGens) ++
    [.ofNat 8 (b2n l.boot.overlayCrc.isSome), 0] ++ leBytes 4 l.cfgCrc.toNat)

def execIdentify (a : At) (m : Msg) (s : State) : Out := run true s a (fun l => l.serve 0x00 m Lane.hIdentify)

/-! ### Streams (R354, R355) -/

/-- Instance of a stream target (R354); 95 for an unknown kind or index. -/
def streamInst (kind index : Nat) : Nat :=
  match kind with
  | 1 => if index < 8 then index else 95
  | 2 => if index < 8 then 8 + index else 95
  | 3 => if index < 32 then 16 + index else 95
  | 4 => if index < 32 then 48 + index else 95
  | 5 => if index < 8 then 80 + index else 95
  | 6 => if index < 4 then 88 + index else 95
  | 7 => if index == 0 then 92 else if index == 1 then 93 else if index == 4 then 94 else 95
  | _ => 95

/-- The current loop slot of a motor slot: template 1 with LE_MOTOR_SLOT naming it. -/
def Lane.curSlotOf (l : Lane) (ms : Nat) : Option Nat :=
  (List.range 32).find? (fun k => l.p 0x7100 k == 1 && l.p 0x7101 k == ms)

def Lane.loop (l : Lane) (k : Nat) : LoopSlot := l.le.slot.getD k {}
def Lane.setLoop (l : Lane) (k : Nat) (x : LoopSlot) : Lane := { l with le.slot := l.le.slot.set k x }
def Lane.motor (l : Lane) (k : Nat) : MotSlot := l.mot.slot.getD k {}
def Lane.setMotor (l : Lane) (k : Nat) (x : MotSlot) : Lane := { l with mot.slot := l.mot.slot.set k x }
def Lane.gen (l : Lane) (k : Nat) : Gen := l.mp.gen.getD k {}
def Lane.setGen (l : Lane) (k : Nat) (x : Gen) : Lane := { l with mp.gen := l.mp.gen.set k x }
def Lane.func (l : Lane) (k : Nat) : Fn := l.fn.fn.getD k {}
def Lane.setFunc (l : Lane) (k : Nat) (x : Fn) : Lane := { l with fn.fn := l.fn.fn.set k x }

/-- The generator that drives step generator k: that of the motor slot whose stepper uses it. Stepper slots take the step generators in slot order (log entry 8). -/
def Lane.stepSlots (l : Lane) : List Nat := (List.range 8).filter (fun k => (l.motor k).cfg.kind == .stepper)

/-- The target is in the state of Table MB-15. A slot on its way to source 5 takes angles already, so that its first sample finds one (R152): DESIGN CHOICE (log entry 173). -/
def Lane.streamOpen (l : Lane) (kind index : Nat) : Bool :=
  match kind with
  | 1 => match l.curSlotOf index with
    | some k => ((l.loop k).st == .open_ || (l.loop k).st == .blend) && (l.loop k).mode == .stream
    | none => false
  | 2 => (l.motor index).enabled && ((l.motor index).angleSrc == 5 || (l.motor index).blend.any (fun b => !b.active && b.oldSrc == 5))
  | 3 => l.p 0x7100 index != 1 && ((l.loop index).st == .open_ || (l.loop index).st == .blend) && (l.loop index).mode == .stream
  | 4 => match (l.loop index).inj with
    | some i => i.form == 3
    | none => false
  | 5 => (l.gen index).st == .stream
  | 6 => match l.stepSlots[index]? with
    | some k => (l.gen (l.p 0x8110 k)).st == .stream
    | none => false
  | 7 => (l.func index).host || (l.func index).srcNext == some true
  | _ => false

def Lane.stream (l : Lane) (i : Nat) : Stream := l.mb.stream.getD i {}
def Lane.setStream (l : Lane) (i : Nat) (x : Stream) : Lane := { l with mb.stream := l.mb.stream.set i x }

/-- A discarded entry: counted, with STREAM_REJECT at most once per second (R354). -/
def Lane.streamReject (l : Lane) (i : Nat) : Lane :=
  let x := l.stream i
  let l := l.setStream i { x with rejected := x.rejected + 1 }
  let told := match l.mb.lastRejEv with
    | some t => decide (l.now < t + sec 1)
    | none => false
  if told then l else ({ l with mb.lastRejEv := some l.now }).eventU 0x1109

/-- Moves one 32-byte entry into the FIFO of its target, or discards it; true when it was taken (R354, R355). -/
def Lane.streamTake (l : Lane) (e : List Byte) : Lane × Bool :=
  let kind := byteAt e 0
  let index := byteAt e 1
  let i := streamInst kind index
  let x := l.stream i
  let q : W16 := .ofNat 16 (leAt e 2 2)
  if i == 95 || !l.streamOpen kind index || x.lastSeq == some q then (l.streamReject i, false)
  else
    let gap := match x.lastSeq with
      | some p => q != p + 1
      | none => false
    let v : StreamVal := { stamp := .ofNat 64 (leAt e 8 8), v0 := .ofNat 32 (leAt e 16 4), v1 := .ofNat 32 (leAt e 20 4),
                           v2 := .ofNat 32 (leAt e 24 4), v3 := .ofNat 32 (leAt e 28 4) }
    let full := decide (l.p 0x1102 ≤ x.fifo.length)
    let fifo := (if full then x.fifo.drop 1 else x.fifo) ++ [v]
    (l.setStream i { x with fifo := fifo, lastSeq := some q, accepted := x.accepted + 1,
                            gaps := if gap then x.gaps + 1 else x.gaps, replaced := if full then x.replaced + 1 else x.replaced }, true)

def Lane.streamAll (l : Lane) : List (List Byte) → Lane × Nat
  | [] => (l, 0)
  | e :: r =>
    let x := l.streamTake e
    let y := x.1.streamAll r
    (y.1, b2n x.2 + y.2)

/-- Takes the oldest entry of a target at its read point (R355); none counts one missed sample (R30). -/
def Lane.streamRead (l : Lane) (i : Nat) : Lane × Option StreamVal :=
  let x := l.stream i
  match x.fifo with
  | [] => (l.setStream i { x with missed := x.missed + 1 }, none)
  | v :: r => (l.setStream i { x with fifo := r }, some v)

/-- Discards and counts the entries of a target, as a disable does (R180, Table MB-16). -/
def Lane.streamFlush (l : Lane) (i : Nat) : Lane :=
  let x := l.stream i
  l.setStream i { x with fifo := [], rejected := x.rejected + BitVec.ofNat 32 x.fifo.length }

def Lane.hStreamPush (m : Msg) (l : Lane) : Lane × Reply :=
  let es := (List.range (m.u8 0)).map (fun k => (m.args.drop (4 + 32 * k)).take 32)
  let r := l.streamAll es
  done r.1 [.ofNat 8 r.2, 0, 0, 0]

def execStreamPush (a : At) (m : Msg) (s : State) : Out := run true s a (fun l => l.serve 0x0C m (Lane.hStreamPush m))

/-! ### Event log, trace -/

/-- EVENT_READ (R362): events are numbered by EVTCNT after they were raised. -/
def Lane.hEventRead (m : Msg) (l : Lane) : Lane × Reply :=
  let n := m.u8 2
  if n < 1 || 126 < n then refuse l stBadParam
  else
    let len := l.mb.log.length
    let back := (l.mb.evtCnt + 65536 - m.u16 0) % 65536
    let start := if back < len then len - 1 - back else if back < 32768 then 0 else len
    let es := (l.mb.log.drop start).take n
    let first := l.mb.evtCnt + 1 - (len - start)
    done l (leBytes 2 first ++ [.ofNat 8 es.length, 0] ++ es.flatMap (fun e => e.bytes l))

def execEventRead (a : At) (m : Msg) (s : State) : Out := run true s a (fun l => l.serve 0xC0 m (Lane.hEventRead m))

def Lane.hTraceCtrl (m : Msg) (l : Lane) : Lane × Reply :=
  if 1 < m.u8 0 then refuse l stBadParam else done { l with mb.traceOn := m.u8 0 == 1 }

def execTraceCtrl (a : At) (m : Msg) (s : State) : Out := run true s a (fun l => l.serve 0xC3 m (Lane.hTraceCtrl m))

/-- LOG_READ (R362, R396): entries from the first number asked for, as many as a response holds. -/
def Lane.hLogRead (m : Msg) (l : Lane) : Lane × Reply :=
  let es := ((l.mem.logKept ++ l.mem.log ++ l.mem.logBuf).filter (fun e => decide (m.u32 0 ≤ e.entry))).take (min (m.u16 4) 63)
  done l (es.flatMap LogEntry.bytes)

def execLogRead (a : At) (m : Msg) (s : State) : Out := run true s a (fun l => l.serve 0xC1 m (Lane.hLogRead m))

/-! ### Host SPI (R339 to R343) -/

/-- Sets error flags of SPI_STAT and the ERR interrupt (Table MB-9). -/
def Lane.spiErr (l : Lane) (crc frame addr ovr nos : Bool) : Lane :=
  if crc || frame || addr || ovr || nos then
    let q := l.mb.spi
    ({ l with mb.spi.crcErr := q.crcErr || crc, mb.spi.frameErr := q.frameErr || frame, mb.spi.addrErr := q.addrErr || addr,
              mb.spi.overrun := q.overrun || ovr, mb.spi.noSession := q.noSession || nos }).irqSet 9
  else l

/-- The status word of a transaction (R341). -/
def spiWordOf (acc crc frame addr ovr nos : Bool) (count : Nat) : W32 :=
  let v := b2n acc * 2 ^ 31 + b2n crc * 2 ^ 30 + b2n frame * 2 ^ 29 + b2n addr * 2 ^ 28 + b2n ovr * 2 ^ 27 + b2n nos * 2 ^ 26 + count % 2 ^ 18 * 256
  .ofNat 32 (v + (crc8 ((beBytes 4 v).take 3)).toNat)

/-- An event raised at most once per second (R341). -/
def Lane.oncePerSec (l : Lane) (last : Option Nat) : Bool :=
  match last with
  | some t => decide (t + sec 1 ≤ l.now)
  | none => true

/-- Host SPI answers: powered, out of SAVE (Table PS-9). -/
def Lane.spiOn (l : Lane) : Bool := l.st != .off && l.st != .waking && l.st != .save

/-- One transaction: refused as a whole with its flag, or carried out; `f` gives the flags overrun, no session, address error of what it does. -/
def Lane.spiTxn (l : Lane) (w : Wire) (addrOk : Bool) (f : Lane → Lane × Bool × Bool × Bool) : Lane :=
  if !l.spiOn then l else
  let n := l.mb.spi.count + 1
  let l := { l with mb.spi.count := n }
  if !w.crcOk then
    let l := { l with mb.spi.status := spiWordOf false true false false false false n, mb.spi.crcCnt := if l.mb.spi.crcCnt == 0xFFFF then l.mb.spi.crcCnt else l.mb.spi.crcCnt + 1 }
    let l := l.setCnt .spi { l.cntOf .spi with crc := (l.cntOf .spi).crc + 1 }
    let l := l.spiErr true false false false false
    if l.oncePerSec l.mb.spi.lastCrcEv then ({ l with mb.spi.lastCrcEv := some l.now }).eventU 0x1101 else l
  else if !w.lenOk || !addrOk then
    let l := { l with mb.spi.status := spiWordOf false false (!w.lenOk) (w.lenOk && !addrOk) false false n,
                      mb.spi.frameCnt := if w.lenOk || l.mb.spi.frameCnt == 0xFFFF then l.mb.spi.frameCnt else l.mb.spi.frameCnt + 1 }
    let l := l.setCnt .spi { l.cntOf .spi with framing := (l.cntOf .spi).framing + 1 }
    let l := l.spiErr false (!w.lenOk) w.lenOk false false
    if l.oncePerSec l.mb.spi.lastFrmEv then ({ l with mb.spi.lastFrmEv := some l.now }).eventU 0x1102 else l
  else
    let r := f { l with mb.spi.txn := l.mb.spi.txn + 1 }
    let l := { r.1 with mb.spi.status := spiWordOf true false false r.2.2.2 r.2.1 r.2.2.1 n }
    l.spiErr false false r.2.2.2 r.2.1 r.2.2.1

/-- The queue, descriptor index and word of a descriptor, or queue alone for a buffer, at a byte address of ring memory. -/
def Lane.ringWhere (l : Lane) (a : Nat) : Option (Nat × Option (Nat × Nat)) :=
  match (List.range 48).find? (fun n => qVisible n && decide (l.qBase n ≤ a) && decide (a < l.qBase n + l.qBytes n)) with
  | none => none
  | some n =>
    let o := a - l.qBase n
    if o < 16 * l.qDepth n then some (n, some (o / 16, o % 16 / 4)) else some (n, none)

/-- A word of ring memory as the host reads it: the BUF word of a descriptor is the lane's (R334). -/
def Lane.ringWord (l : Lane) (wa : Nat) : W32 :=
  match l.ringWhere (4 * wa) with
  | some (n, some (i, 0)) => .ofNat 32 (l.qBufAt n i)
  | _ => .ofNat 32 (leNat (cellBytes l.mb.ring (4 * wa) 4))

/-- A word that the host may write (Table MB-7). -/
def Lane.spiCanWrite (l : Lane) (wa : Nat) : Bool :=
  if wa < 7 then decide (1 ≤ wa) && decide (wa ≤ 5)
  else if 0x100 ≤ wa && wa < 0x200 then (wa % 4 == 2) && qHostOut ((wa - 0x100) / 4)
  else if 0x1000 ≤ wa && wa < 0x4000 then
    match l.ringWhere (4 * wa) with
    | some (n, _) => qHostIn n
    | none => false
  else false

/-- A word that the host may read; the write-only DOORBELL reads 0 (R7). -/
def spiCanRead (wa : Nat) : Bool :=
  decide (wa < 7) || (decide (0x100 ≤ wa) && decide (wa < 0x200)) || (decide (0x1000 ≤ wa) && decide (wa < 0x4000))

/-- The regions of Table MB-7: control registers, queue registers, ring memory (log entry 9). -/
def spiRegion (wa : Nat) : Nat :=
  if wa < 7 then 1 else if 0x100 ≤ wa && wa < 0x200 then 2 else if 0x1000 ≤ wa && wa < 0x4000 then 3 else 0

/-- A register or ring word as read. -/
def Lane.spiRead (l : Lane) (wa : Nat) : W32 :=
  if wa == 0 then .ofNat 32 l.spiId
  else if wa == 1 then .ofNat 32 l.spiStat
  else if wa == 2 then l.mb.spi.irqStat
  else if wa == 3 then l.mb.spi.irqEn
  else if wa == 4 then 0
  else if wa == 5 then l.mb.spi.irqHold
  else if wa == 6 then .ofNat 32 (l.mb.spi.crcCnt.toNat * 65536 + l.mb.spi.frameCnt.toNat)
  else if 0x100 ≤ wa && wa < 0x200 then
    let n := (wa - 0x100) / 4
    if !qVisible n then 0
    else if wa % 4 == 0 then .ofNat 32 (l.qBase n / 4)
    else if wa % 4 == 1 then .ofNat 32 (l.qBuf n * 65536 + l.qDepth n)
    else if wa % 4 == 2 then .ofNat 32 (l.q n).head
    else .ofNat 32 (l.q n).tail
  else l.ringWord wa

/-- The entry that the host wrote at descriptor i of a queue, stamped with its arrival (R297). -/
def Lane.ringEntry (l : Lane) (n i : Nat) : QEntry :=
  let d := cellBytes l.mb.ring (l.qDesc n i) 16
  { flags := .ofNat 16 (leAt d 6 2 / 0x4000 * 0x4000), seq := .ofNat 16 (leAt d 8 2), stamp := .ofNat 32 l.now,
    data := cellBytes l.mb.ring (l.qBufAt n i) (min (leAt d 4 2) (l.qBuf n)) }

/-- Takes the k entries after TAIL into a queue that the host produces. -/
def Lane.ringTake (l : Lane) (n : Nat) : Nat → Lane
  | 0 => l
  | k + 1 =>
    let q := l.q n
    (l.setQ n { q with items := q.items ++ [l.ringEntry n q.tail], tail := (q.tail + 1) % l.qDepth n }).ringTake n k

/-- Moves every entry of Q11 to its target's FIFO (R354); a full Q11 has room again (Table MB-9). -/
def Lane.drainQ11 (l : Lane) : Lane :=
  let es := (l.q 11).items
  let l := l.when (l.qFull 11) (fun l => l.irqSet 3)
  ((l.qDropN 11 es.length).streamAll (es.map QEntry.data)).1

/-- DOORBELL (R342): flags overrun, no session, address error. -/
def Lane.doorbell (l : Lane) (n tail : Nat) : Lane × Bool × Bool × Bool :=
  if !qHostIn n then (l, false, false, true)
  else if n != 0 && !l.sesOpen .spi then (l, false, true, false)
  else
    let q := l.q n
    let d := l.qDepth n
    let k := (tail + d - q.tail) % d
    let room := if 16 ≤ n then d - 1 else l.qFree n
    if d ≤ tail || room < k then (l, true, false, false)
    else
      let l := if 16 ≤ n then l.qDropN n (k - l.qFree n) else l
      let l := l.ringTake n k
      (if n == 11 then l.drainQ11 else l, false, false, false)

/-- A host write of QHEAD frees the entries before it (R334); an index beyond TAIL frees nothing. -/
def Lane.qhead (l : Lane) (n head : Nat) : Lane :=
  let q := l.q n
  let d := l.qDepth n
  let k := (head + d - q.head) % d
  if d ≤ head || q.items.length < k then l
  else
    let l := l.qDropN n k
    if n == 1 then l.respFlush else l

/-- A word written to a descriptor or a buffer: BUF is the lane's, and of FLAGS only SOP and EOP are the host's (R7, Table MB-3). -/
def Lane.ringWrite (l : Lane) (wa x : Nat) : Lane :=
  let old := leNat (cellBytes l.mb.ring (4 * wa) 4)
  let put (v : Nat) : Lane := { l with mb.ring := cellStore l.mb.ring (4 * wa) (leBytes 4 v) }
  match l.ringWhere (4 * wa) with
  | some (_, some (_, 0)) => l
  | some (_, some (_, 1)) => put (bits x 31 30 * 2 ^ 30 + bits old 29 16 * 2 ^ 16 + x % 2 ^ 16)
  | _ => put x

/-- One written word: register or ring memory. -/
def Lane.spiWrite (l : Lane) (wa : Nat) (v : W32) : Lane × Bool × Bool × Bool :=
  let x := v.toNat
  let ok := fun (l : Lane) => (l, false, false, false)
  if wa == 1 then
    let q := l.mb.spi
    ok { l with mb.spi.crcErr := q.crcErr && !bit x 26, mb.spi.frameErr := q.frameErr && !bit x 25, mb.spi.addrErr := q.addrErr && !bit x 24,
                mb.spi.overrun := q.overrun && !bit x 23, mb.spi.noSession := q.noSession && !bit x 22 }
  else if wa == 2 then ok ({ l with mb.spi.irqStat := l.mb.spi.irqStat &&& ~~~v }).irqLine
  else if wa == 3 then ok ({ l with mb.spi.irqEn := .ofNat 32 (x % 1024) }).irqLine
  else if wa == 4 then l.doorbell (x % 64) (x / 65536)
  else if wa == 5 then ok { l with mb.spi.irqHold := .ofNat 32 (x % 65536) }
  else if wa < 0x1000 then ok (l.qhead ((wa - 0x100) / 4) (x % 65536))
  else ok (l.ringWrite wa x)

def Lane.spiWrites (l : Lane) (wa : Nat) : List W32 → Lane × Bool × Bool × Bool
  | [] => (l, false, false, false)
  | v :: r =>
    let x := l.spiWrite wa v
    let y := x.1.spiWrites (wa + 1) r
    (y.1, x.2.1 || y.2.1, x.2.2.1 || y.2.2.1, x.2.2.2 || y.2.2.2)

/-- A write transaction of data words from a word address. -/
def Lane.spiWriteTxn (l : Lane) (w : Wire) (wa : Nat) (vs : List W32) : Lane :=
  let ok := (List.range vs.length).all (fun i => l.spiCanWrite (wa + i) && spiRegion (wa + i) == spiRegion wa)
  l.spiTxn w ok (fun l => l.spiWrites wa vs)

/-- A read transaction. -/
def Lane.spiReadTxn (l : Lane) (w : Wire) (wa n : Nat) : Lane :=
  let ok := (List.range n).all (fun i => spiCanRead (wa + i) && spiRegion (wa + i) == spiRegion wa)
  l.spiTxn w ok (fun l => ({ l with mb.spi.rdata := (List.range n).map (fun i => l.spiRead (wa + i)) }, false, false, false))

def execDoorbellWrite (a : At) (w : Wire) (q tail : Nat) (s : State) : Out :=
  run (decide (q < 64)) s a (fun l => l.spiWriteTxn w 4 [.ofNat 32 (tail * 65536 + q)])
def execIrqStatClear (a : At) (w : Wire) (mask : W32) (s : State) : Out := run true s a (fun l => l.spiWriteTxn w 2 [mask])
def execSpiStatClear (a : At) (w : Wire) (mask : W32) (s : State) : Out := run true s a (fun l => l.spiWriteTxn w 1 [mask])
def execQheadWrite (a : At) (w : Wire) (q head : Nat) (s : State) : Out :=
  run (decide (q < 64)) s a (fun l => l.spiWriteTxn w (0x102 + 4 * q) [.ofNat 32 head])
def execRegisterWrite (a : At) (x : SpiXfer) (s : State) : Out := run true s a (fun l => l.spiWriteTxn x.wire x.addr x.data)
def execSpiReadTransaction (a : At) (x : SpiXfer) (s : State) : Out := run true s a (fun l => l.spiReadTxn x.wire x.addr x.count)
def execHirqHoldoffEnd (a : At) (s : State) : Out := run true s a Lane.irqLine

/-! ### Service port (R344, R345) -/

/-- The window answers from the end of BOOT on (Table MB-11). -/
def Lane.spOn (l : Lane) : Bool := l.st != .off && l.st != .waking && l.st != .boot && l.st != .save

/-- A write whose CRC fails is discarded and sets CRC_ERR. -/
def Lane.spWrite (l : Lane) (crcOk : Bool) (f : Lane → Lane) : Lane :=
  if !l.spOn then l
  else if crcOk then f l
  else
    let c := l.cntOf .sp
    (({ l with mb.sp.crcErr := true }).setCnt .sp { c with crc := c.crc + 1 }).eventU 0x1101

def Lane.spIn (l : Lane) (b : List Byte) : Lane :=
  let msg := l.mb.sp.inBytes ++ b
  let l := { l with mb.sp.openAt := some (l.mb.sp.openAt.getD l.now) }
  if decide (msg.length ≤ 2048) && l.qFits 4 msg then { l with mb.sp.inBytes := msg } else { l with mb.sp.drop := true }

def Lane.spCommit (l : Lane) : Lane :=
  let msg := l.mb.sp.inBytes
  let l := { l with mb.sp.inBytes := [], mb.sp.openAt := none }
  if msg.isEmpty then l
  else if l.qFits 4 msg then
    -- HOST is overwritten by the lane, 0 on the service port; BCAST is the lane's (Table MB-4)
    l.qPutMsg 4 ((msg.set 6 0).set 7 (.ofNat 8 (byteAt msg 7 % 2)))
  else
    let c := l.cntOf .sp
    ({ l with mb.sp.drop := true }).setCnt .sp { c with dropped := c.dropped + 1 }

def Lane.spDiscard (l : Lane) : Lane := { l with mb.sp.inBytes := [], mb.sp.openAt := none }

def Lane.spOut (l : Lane) : Lane :=
  let msg := l.qHeadMsg 5
  let b := (msg.drop l.mb.sp.outPos).take 32
  let pos := l.mb.sp.outPos + b.length
  let l := { l with mb.sp.rdata := BitVec.ofNat 8 b.length :: b, mb.sp.outPos := pos }
  if !msg.isEmpty && decide (msg.length ≤ pos) then
    let l := ({ l with mb.sp.outPos := 0 }).qDropN 5 (headEntries (l.q 5).items).length
    l.respFlush
  else l

/-- SP_STAT (Table MB-12). -/
def Lane.spStat (l : Lane) : Nat :=
  b2n (l.sesOpen .sp) * 128 + b2n (l.qFits 4 (l.mb.sp.inBytes ++ List.replicate 32 0)) * 64 + b2n (!(l.q 5).items.isEmpty) * 32 +
  b2n l.mb.sp.crcErr * 16 + b2n l.mb.sp.drop * 8

def execSpMbInWrite (a : At) (bytes : List Byte) (crcOk : Bool) (s : State) : Out :=
  run (decide (1 ≤ bytes.length) && decide (bytes.length ≤ 32)) s a (fun l => l.spWrite crcOk (fun l => l.spIn bytes))
def execSpCommit (a : At) (crcOk : Bool) (s : State) : Out := run true s a (fun l => l.spWrite crcOk Lane.spCommit)
def execSpAbort (a : At) (crcOk : Bool) (s : State) : Out := run true s a (fun l => l.spWrite crcOk Lane.spDiscard)
def execSpMbOutRead (a : At) (crcOk : Bool) (s : State) : Out := run true s a (fun l => l.spWrite crcOk Lane.spOut)
def execSpStatRead (a : At) (crcOk : Bool) (s : State) : Out :=
  run true s a (fun l => l.spWrite crcOk (fun l =>
    { l with mb.sp.rdata := [.ofNat 8 l.spStat], mb.sp.crcErr := false, mb.sp.drop := false }))
/-- A message open for 1 s is discarded (R345). -/
def execSpMessageTimeout (a : At) (s : State) : Out :=
  run true s a (fun l => l.when (l.dueAt (l.mb.sp.openAt.map (· + sec 1))) (fun l => { l.spDiscard with mb.sp.drop := true }))

/-! ### Reassembly on Icbex and CAN (R346 to R349) -/

def Lane.reasms (l : Lane) (tr : Transport) : List Reasm := if tr == .can then l.mb.reasmCan else l.mb.reasmNet
def Lane.setReasms (l : Lane) (tr : Transport) (r : List Reasm) : Lane :=
  if tr == .can then { l with mb.reasmCan := r } else { l with mb.reasmNet := r }

/-- An abandoned message: counted, with MB_REASM_TIMEOUT (R347). -/
def Lane.reasmFail (l : Lane) (tr : Transport) : Lane :=
  let c := l.cntOf tr
  (l.setCnt tr { c with reasm := c.reasm + 1 }).eventU 0x1104

def reasmDrop (rs : List Reasm) (host msgId : Nat) : List Reasm := rs.filter (fun r => !(r.host == host && r.msgId == msgId))

/-- A complete message: the stored response again (R348), a discarded broadcast (R349), or into its queue (Table MB-1). -/
def Lane.msgComplete (l : Lane) (tr : Transport) (port host msgId : Nat) (bcast : Bool) (b : List Byte) : Lane :=
  let n := 16 + leAt b 4 2
  let op := byteAt b 0
  let mem := if tr == .can then l.mb.memCan else l.mb.memNet
  if b.length < n then l.reasmFail tr
  else if bcast && !(decide (0x10 ≤ op) && decide (op ≤ 0x1F)) then { l with mb.bcastDrop := l.mb.bcastDrop + 1 }
  else
    match mem.find? (fun r => r.host == host && r.msgId == msgId && !bcast) with
    | some r =>
      let c := l.cntOf tr
      (l.setCnt tr { c with dup := c.dup + 1 }).respSend { tr := tr, host := host, msgId := msgId, port := port } r.resp
    | none =>
      let msg := ((b.take n).set 6 (.ofNat 8 host)).set 7 (.ofNat 8 (byteAt b 7 % 2 + 2 * b2n bcast))
      let q := cmdQ tr
      if l.qFits q msg then l.qPutMsg q msg
      else
        let c := l.cntOf tr
        (l.setCnt tr { c with dropped := c.dropped + 1 }).eventU 0x1103

/-- One accepted segment (R318, R346, R347). -/
def Lane.segment (l : Lane) (tr : Transport) (port host seg msgId : Nat) (bcast : Bool) (b : List Byte) : Lane :=
  let ty := seg / 64
  let ix := seg % 64
  let rs := l.reasms tr
  let old := rs.find? (fun r => r.host == host && r.msgId == msgId)
  let l0 := match old with
    | some _ => (l.setReasms tr (reasmDrop rs host msgId)).reasmFail tr
    | none => l
  if ty == 0 then (if ix == 0 then l0.msgComplete tr port host msgId bcast b else l0.reasmFail tr)
  else if ty == 1 then
    if ix != 0 then l0.reasmFail tr
    else if 8 ≤ (l0.reasms tr).length then l0.reasmFail tr
    else l0.setReasms tr (l0.reasms tr ++ [{ host := host, msgId := msgId, next := 1, start := l.now, cycle := l.net.cycle.toNat, bcast := bcast, bytes := b }])
  else
    match old with
    | none => l.reasmFail tr
    | some r =>
      if r.next % 64 != ix then l0
      else if ty == 3 then (l.setReasms tr (reasmDrop rs host msgId)).msgComplete tr port host msgId r.bcast (r.bytes ++ b)
      else l.setReasms tr (rs.map (fun x => if x.host == host && x.msgId == msgId then { x with next := x.next + 1, bytes := x.bytes ++ b } else x))

/-- The reassembly time of a message has passed (R347). -/
def Lane.reasmLate (l : Lane) (tr : Transport) (r : Reasm) : Bool :=
  if tr == .can then l.due (r.start + ms (l.p 0x1104)) else decide (r.cycle + l.p 0x1103 ≤ l.net.cycle.toNat)

def execReasmTimeout (a : At) (tr : Transport) (host msgId : Nat) (s : State) : Out :=
  run (tr == .net || tr == .can) s a (fun l =>
    match (l.reasms tr).find? (fun r => r.host == host && r.msgId == msgId) with
    | some r => if l.reasmLate tr r then (l.setReasms tr (reasmDrop (l.reasms tr) host msgId)).reasmFail tr else l
    | none => l)

end Sys2Proof.Machine
end

