-- ==== Sys2Proof/Machine/Slots.lean ====
section
/-! DEFINITION. What the units of a lane share: half-bridges, channels, trip sources and motor slots by number, the period of a timebase, trip cover and safe levels, lane-safe states (R9, R26, R27, R62, R77, R79, R147, R148). -/

namespace Sys2Proof.Machine

def Lane.hb (l : Lane) (k : Nat) : HalfBridge := l.gd.hb.getD k {}
def Lane.setHb (l : Lane) (k : Nat) (x : HalfBridge) : Lane := { l with gd.hb := l.gd.hb.set k x }
def Lane.gch (l : Lane) (k : Nat) : GateCh := l.gd.ch.getD k {}
def Lane.setGch (l : Lane) (k : Nat) (x : GateCh) : Lane := { l with gd.ch := l.gd.ch.set k x }
def Lane.tbase (l : Lane) (k : Nat) : TimeBase := l.pwm.tb.getD k {}
def Lane.setTb (l : Lane) (k : Nat) (x : TimeBase) : Lane := { l with pwm.tb := l.pwm.tb.set k x }
def Lane.pch (l : Lane) (k : Nat) : PwmCh := l.pwm.ch.getD k {}
def Lane.setPch (l : Lane) (k : Nat) (x : PwmCh) : Lane := { l with pwm.ch := l.pwm.ch.set k x }
def Lane.src (l : Lane) (k : Nat) : TripSrc := l.pwm.src.getD k {}
def Lane.setSrc (l : Lane) (k : Nat) (x : TripSrc) : Lane := { l with pwm.src := l.pwm.src.set k x }
def Lane.stepper (l : Lane) (k : Nat) : Stepper := l.mp.stp.getD k {}
def Lane.setStepper (l : Lane) (k : Nat) (x : Stepper) : Lane := { l with mp.stp := l.mp.stp.set k x }

/-- Applies an update to each number below n. -/
def Lane.each (l : Lane) (n : Nat) (f : Nat → Lane → Lane) : Lane := (List.range n).foldl (fun l k => f k l) l

/-- Applies an update to each listed number. -/
def Lane.eachOf (l : Lane) (ks : List Nat) (f : Nat → Lane → Lane) : Lane := ks.foldl (fun l k => f k l) l

/-- The status of the first condition that holds (R359). -/
def firstOf : List (Bool × Nat) → Option Nat
  | [] => none
  | (c, st) :: r => if c then some st else firstOf r

/-- Answers the first refusal that applies, or serves the command. -/
def guarded (l : Lane) (cs : List (Bool × Nat)) (f : Lane → Lane × Reply) : Lane × Reply :=
  match firstOf cs with
  | some st => refuse l st
  | none => f l

/-- A half-bridge is under test: by GD_SELFTEST or by a self-test section (R58, R452). -/
def Lane.hbTested (l : Lane) (k : Nat) : Bool :=
  (l.hb k).underTest || (match l.bist.run with | some r => bit r.hbs.toNat k | none => false)

/-- A self-test section runs (R452). -/
def Lane.inSection (l : Lane) (s : Nat) : Bool := match l.bist.run with | some r => r.section_ == s | none => false

/-- No PWM trigger with destination 1 to 4 starts the ADC (Table ST-7). -/
def Lane.adcIdle (l : Lane) (k : Nat) : Bool := l.pwm.cmp.all (fun c => c.dest != k + 1)

/-- The ADC is under section 2: in a driving state the section covers the idle converters alone (R489). -/
def Lane.adcTested (l : Lane) (k : Nat) : Bool := l.inSection 2 && (!l.st.driving || l.adcIdle k)

/-- Argument of LOOP_FEEDBACK_LOST: the slot in [7:0], the source above it (R178, log entry 145). -/
def lossArg (slot source : Nat) : Nat := 256 * source + slot

/-- An injection ends early (R173). -/
def Lane.injAbort (l : Lane) (j : Nat) : Lane :=
  let x := l.loop j
  if x.inj.isSome then (l.setLoop j { x with inj := none }).eventU 0x7106 else l

/-! ### Which slot owns what -/

/-- A slot whose half-bridges are integrated drivers (Table LN-5). -/
def SlotCfg.integrated (c : SlotCfg) : Bool := c.kind != .none && c.kind != .external

/-- The slot that a half-bridge belongs to (R26). -/
def Lane.slotOfHb (l : Lane) (hb : Nat) : Option Nat :=
  (List.range 8).find? (fun k => (l.motor k).cfg.integrated && (l.motor k).cfg.hbs.contains hb)

/-- The slot that a PWM channel belongs to, external stages included (R27). -/
def Lane.slotOfCh (l : Lane) (ch : Nat) : Option Nat :=
  (List.range 8).find? (fun k => (l.motor k).cfg.kind != .none && (l.motor k).cfg.hbs.contains ch)

/-- The channel is routed to an external-stage output (R27, GD_EXT_MAP). -/
def Lane.extCh (l : Lane) (ch : Nat) : Bool :=
  (List.range 4).any (fun o => l.p 0x2140 o == ch) ||
  (List.range 8).any (fun k => (l.motor k).cfg.kind == .external && (l.motor k).cfg.hbs.contains ch)

/-- The half-bridge of a low-side-only slot (R486). -/
def Lane.lowOnly (l : Lane) (ch : Nat) : Bool :=
  match l.slotOfHb ch with
  | some k => (l.motor k).cfg.lowOnly
  | none => false

def Lane.inEnabledSlot (l : Lane) (ch : Nat) : Bool :=
  match l.slotOfCh ch with
  | some k => (l.motor k).enabled
  | none => false

/-- Timebase of a channel and of a slot (R64). -/
def Lane.tbOf (l : Lane) (ch : Nat) : Nat := l.p 0x3110 ch
def Lane.slotTb (l : Lane) (k : Nat) : Nat := l.tbOf ((l.motor k).cfg.hbs.headD 0)

/-- Channels that follow a timebase. -/
def Lane.tbChs (l : Lane) (tb : Nat) : List Nat := (List.range 16).filter (fun c => l.tbOf c == tb)

/-- Period of a timebase in ticks of 2.5 ns (Table PW-1). -/
def Lane.periodTicks (l : Lane) (tb : Nat) : Nat :=
  let n := l.p 0x3101 tb * l.p 0x3102 tb
  if l.p 0x3100 tb == 0 then n + l.p 0x3102 tb else 2 * n

/-- The same in fine steps of 39.0625 ps (R66). -/
def Lane.periodFine (l : Lane) (tb : Nat) : Nat := 64 * l.periodTicks tb

/-! ### The tick of a profile generator (R183, R185) -/

def dHalf : W64 := 0x3FE0000000000000
def di (n : Int) : W64 := dq n 1

/-- Tick of a generator in 2.5 ns counts: the outer timer or a timebase, times MP_TICK_DIV (R183). -/
def Lane.tickCounts (l : Lane) (g : Nat) : Nat :=
  let s := l.p 0x8100 g
  (if s == 0 then l.p 0x7150 * l.periodTicks 0 else l.periodTicks (s - 0x10)) * l.p 0x8101 g


/-- First phase from ph with ticks left. -/
def nextPhase (n : List Nat) : Nat → Nat → Nat
  | 0, ph => ph
  | f + 1, ph => if ph < 7 && n.getD ph 0 == 0 then nextPhase n f (ph + 1) else ph

/-- One tick within the present phase. -/
def Gen.integrate (g : Gen) (t : W64) : Gen :=
  if 7 ≤ g.ph then g
  else
    let j := g.j.getD g.ph 0
    let t2 := dmul t t
    let t3 := dmul t2 t
    let n := g.n.set g.ph (g.n.getD g.ph 0 - 1)
    { g with p := dadd (dadd (dadd g.p (dmul g.v t)) (dmul (dmul dHalf g.a) t2)) (ddiv (dmul j t3) (di 6)),
             v := dadd (dadd g.v (dmul g.a t)) (dmul (dmul dHalf j) t2), a := dadd g.a (dmul j t),
             n := n, ph := nextPhase n 7 g.ph }

/-- A reference run that comes to rest: its edge has come, or it ends without success (R199, R200). -/
def Gen.refStops (g : Gen) : Bool := g.ref.any (fun r => r.edgeSeen || r.failing)

/-- The end of a move or stop. Mode 2 cruises on in phase 7 (R186). -/
def Gen.settle (g : Gen) (t : W64) : Gen :=
  if g.ph < 7 then g
  else match g.st with
    | .moving => if g.mode == 2 then { g with p := dadd g.p (dmul g.v t), a := 0 } else { g with p := g.target, v := 0, a := 0 }
    | .referencing => if g.refStops then { g with v := 0, a := 0 } else { g with p := dadd g.p (dmul g.v t), a := 0 }
    | _ => { g with v := 0, a := 0 }

/-- One tick: inside a phase, or past the last one. -/
def Gen.tick (g : Gen) (t : W64) : Gen :=
  if 7 ≤ g.ph then g.settle t
  else
    let h := g.integrate t
    if h.ph < 7 then h
    else match h.st with
      | .moving => if h.mode == 2 then { h with a := 0 } else { h with p := h.target, v := 0, a := 0 }
      | .referencing => if h.refStops then { h with v := 0, a := 0 } else { h with a := 0 }
      | _ => { h with v := 0, a := 0 }

/-- A generator stops without a ramp once its current tick is complete: its move, its waiting commands and a reference end with a status (R203). -/
def Lane.genHalt (l : Lane) (g status : Nat) : Lane :=
  let x := l.gen g
  let ks := (x.active.toList ++ x.cmds.filterMap Prod.snd)
  let p := (x.tick (dq (l.tickCounts g) 400000000)).p
  let l := l.setGen g { x with st := .idle, p := p, v := 0, a := 0, target := p, ph := 7, cmds := [], active := none, ref := none, soft := false }
  ks.foldl (fun l k => l.complete k status) l

/-- The current of a stepper goes off: a drive that is not self-locking loses its reference (R196). -/
def Lane.stepOff (l : Lane) (k : Nat) : Lane :=
  if (l.motor k).cfg.kind == .stepper && (l.stepper k).referenced && l.p 0x811A k == 0 then
    (l.setStepper k { l.stepper k with referenced := false }).eventU 0x8109
  else l

/-- A trip covers a stepper slot's channels (Table MP-3): its generator stops without a ramp; without an encoder it loses its reference, with one its count is set from it at the next tick. -/
def Lane.stepTrip (l : Lane) (k : Nat) : Lane :=
  if (l.motor k).cfg.kind != .stepper then l
  else
    let l := l.genHalt (l.p 0x8110 k) 0x08
    let enc := l.p 0x8120 k != 0xFF
    let l := if enc then l else l.stepOff k
    l.setStepper k { l.stepper k with referenced := (l.stepper k).referenced && enc, resync := enc, refI := false }

/-! ### Step generators (R190, R191) -/

/-- A 32-bit signed count, wrapped. -/
def s32 (v : Int) : Int := sext 32 (wrap 32 v)

def Lane.sgen (l : Lane) (k : Nat) : StepGen := l.mp.sg.getD k {}
def Lane.setSg (l : Lane) (k : Nat) (x : StepGen) : Lane := { l with mp.sg := l.mp.sg.set k x }

/-- The microstep count with the accumulator as its fraction, in units of 2^-48, at an instant of the present velocity word. -/
def StepGen.pos (x : StepGen) (t : Nat) : Int := sext 32 x.m.toNat * 2 ^ 48 + x.acc.toNat + x.w * ((t : Int) - x.lastT)

/-- The same at an instant that may lie before the present velocity word was loaded (R201). -/
def StepGen.posAt (x : StepGen) (t : Nat) : Int :=
  if x.lastT ≤ t then x.pos t
  else match (x.past.find? (fun s => decide (s.1 ≤ t))).or x.past.getLast? with
    | some s => s.2.1 + s.2.2 * ((t : Int) - s.1)
    | none => x.pos x.lastT

/-- Brings count and accumulator to an instant. Words that follow one another with one value make one entry of the history. -/
def StepGen.at_ (x : StepGen) (t : Nat) : StepGen :=
  let v := x.pos t
  { x with acc := .ofNat 48 (wrap 48 v), m := .ofNat 32 (wrap 32 (v / 2 ^ 48)), lastT := t,
           past := if (x.past.head?.map (fun e => e.2.2)) == some x.w then x.past else ((x.lastT, x.pos x.lastT, x.w) :: x.past).take 64 }

def StepGen.micro (x : StepGen) : Int := sext 32 x.m.toNat

/-- The count moved by a distance in units of 2^-48, its history with it. -/
def StepGen.move (x : StepGen) (d : Int) : StepGen :=
  let v := sext 32 x.m.toNat * 2 ^ 48 + x.acc.toNat + d
  { x with acc := .ofNat 48 (wrap 48 v), m := .ofNat 32 (wrap 32 (v / 2 ^ 48)), past := x.past.map (fun s => (s.1, s.2.1 + d, s.2.2)) }

/-- Step generator of a stepper slot (log entry 8). -/
def Lane.sgOf (l : Lane) (k : Nat) : Option Nat := l.stepSlots.findIdx? (fun s => s == k)

/-! ### Channels and trips -/

/-- The same in seconds. -/
def Lane.periodF (l : Lane) (tb : Nat) : F32 := fq (l.periodTicks tb) 400000000

/-- Fine steps of an edge value (R66, Table PW-2). -/
def edgeFine (v : Nat) : Nat := v % 2 ^ 26

/-! ### Trip cover -/

/-- A source covers a channel: its mask, all channels for source 13 (Table PW-5) and for a debug halt that trips source 12 (R85). -/
def Lane.covers (l : Lane) (n ch : Nat) : Bool := n == 13 || (n == 12 && l.pwm.haltTrip) || bit (l.p 0x3132 n) ch

def Lane.coveredChs (l : Lane) (n : Nat) : List Nat := (List.range 16).filter (l.covers n)

/-- Timebases that carry a channel the source covers; timebase 0 where it covers none (Table PW-8, R82). -/
def Lane.coveredTbs (l : Lane) (n : Nat) : List Nat :=
  let cs := l.coveredChs n
  if cs.isEmpty then [0] else (List.range 8).filter (fun tb => cs.any (fun c => l.tbOf c == tb))

/-- Sources outside ARMED that cover a channel (R83). -/
def Lane.covering (l : Lane) (ch : Nat) : List Nat :=
  (List.range 14).filter (fun n => (l.src n).st != .armed && l.covers n ch)

/-- Safe level of one source on one channel, bit 0 the low side and bit 1 the high side (Table PW-6, R77). -/
def Lane.safeOf (l : Lane) (n ch : Nat) : Nat :=
  if n == 13 || l.extCh ch then 0 else l.p 0x3133 (16 * n + ch)

/-- The safe level of a channel under every source that covers it: a switch is on only if each holds it on (R79). Once the last of them has re-armed, the level stays until the channel resumes (R83). -/
def Lane.safeLevel (l : Lane) (ch : Nat) : Nat :=
  match l.covering ch with
  | [] => (l.pch ch).level
  | ns => b2n (ns.all (fun n => bit (l.safeOf n ch) 0)) + 2 * b2n (ns.all (fun n => bit (l.safeOf n ch) 1))

/-- What a slot commands on its channels: its pulses, which a disable leaves in force for one more load point, its lane-safe state, or a probe of flying start (R147, R148, R151, R180, R196). -/
def Lane.slotAct (l : Lane) (k : Nat) : ChAct :=
  let m := l.motor k
  if m.enabled && !m.laneSafe || m.tail then .run
  else if m.cfg.kind == .stepper then (if m.holdAt.isSome && !m.ov2 && !(l.stepper k).off then .run else .off)
  else if m.short then .short
  else if m.fly == .acquire && !m.ov2 && (match m.probe with | some p => p.loads == 0 || p.loads == 4 | none => false) then .probe
  else .off

/-- VGD keeps all gates off (R43). -/
def Lane.vgdBad (l : Lane) : Bool := l.gd.vgdUv || l.gd.vgdOv

/-- Lane states in which a lane may drive or hold gates on (Table LN-4). -/
def mayDrive : LaneSt → Bool
  | .sync | .shadow | .authority | .follower | .island | .limp | .save => true
  | _ => false

/-- The result word of a source as the latch holds it: a dropped trigger's result, once delivered, takes VALID from an older one (R94). -/
def Lane.adcLatch (l : Lane) (src : Nat) : W32 :=
  let w := l.sns.latch.getD src 0
  if l.sns.adc.any (fun c => c.lost.any (fun x => x.1 == src && decide (l.sns.latchAt.getD src 0 < x.2.1) && decide (x.2.2 ≤ l.now))) then w &&& 0x7FFFFFFF else w

/-! ### Lane-safe states -/

/-- Speed threshold of a slot, rad/s (R148). -/
def Lane.asThr (l : Lane) (k : Nat) : F32 := fmul (l.pf 0x6140 k) (l.pf 0x6101 k)

/-- The speed that decides between active short and high impedance (R148): the slot's valid speed, and under SYNC_LOST the last one that could be trusted. -/
def Lane.safeSpeed (l : Lane) (k : Nat) : Option F32 :=
  let m := l.motor k
  if m.syncLost then m.lastW else if m.speedOk then some m.omega else none

/-- The speed of a slot stands at or above a threshold; with no speed known it counts as above (R148). -/
def Lane.fastFor (l : Lane) (k : Nat) (x : F32) : Bool := match l.safeSpeed k with | some w => fge (fabs w) x | none => true

/-- Active short is in force in the lane-safe state of a slot (Table CM-5, R148); under the OV2 reaction, for a three-phase slot at or above its threshold alone (R96, R229). -/
def Lane.safeShort (l : Lane) (k : Nat) : Bool :=
  let m := l.motor k
  if l.vgdBad then false
  else if m.ov2 then m.cfg.kind == .threePhase && l.fastFor k (l.asThr k)
  else match m.cfg.kind with
    | .threePhase => match m.cfg.winding with
      | .brake => true
      | .steer =>
        l.fastFor k (if m.short then fmul (fq 9 10) (l.asThr k) else l.asThr k)
    | _ => false

/-- A stepper that takes its lane-safe state stands at its present microstep (R196). Its generator stops there without a ramp, as a trip stops it: DESIGN CHOICE (log entry 178). -/
def Lane.stepStand (l : Lane) (k : Nat) : Lane :=
  match l.sgOf k with
  | some i =>
    if (l.motor k).laneSafe then l
    else (l.genHalt (l.p 0x8110 k) 0x08).setStepper k { l.stepper k with holdM := (l.sgen i).pos l.now / 2 ^ 48 }
  | none => l

/-- A slot takes its lane-safe state (R147); a new MOT_STEP_HOLD_T acts from here on (Table CM-7). -/
def Lane.takeSafe (l : Lane) (k : Nat) : Lane :=
  let m := l.motor k
  if m.cfg.kind == .none then l
  else ((if m.laneSafe then l else l.releaseOf [0x6150] k).stepStand k).setMotor k { m with
    laneSafe := true, short := l.safeShort k,
    holdAt := if m.cfg.kind == .stepper then (if m.laneSafe then m.holdAt else some l.now) else none }

def Lane.takeSafeAll (l : Lane) : Lane := l.each 8 (fun k l => l.takeSafe k)

/-- Every slot high-impedance and every enable low, as FAILSILENT asks (R147). -/
def Lane.allOff (l : Lane) : Lane :=
  l.each 8 (fun k l => (l.setMotor k { l.motor k with enabled := false, laneSafe := true, short := false, tail := false, holdAt := none }).stepOff k)

/-- A winding fault of a slot: it is lost until power cycle (R51, R54, R139, R151). -/
def Lane.windFault (l : Lane) (k : Nat) : Lane := l.setMotor k { l.motor k with windFault := true }

/-- Loop slots bound to a motor slot. -/
def Lane.loopsOf (l : Lane) (ms : Nat) : List Nat := (List.range 32).filter (fun k => l.p 0x7100 k != 0 && l.p 0x7101 k == ms)

/-- Follows the consumers of a loop slot to the motor slot at the end of its chain; the fuel bounds the chain. -/
def Lane.chainEnd (l : Lane) : Nat → Nat → Option Nat
  | 0, _ => none
  | f + 1, j =>
    if l.p 0x7100 j == 1 then some (l.p 0x7101 j)
    else match (List.range 32).find? (fun k => l.p 0x7100 k != 0 && l.p 0x7105 k == j) with
      | some k => l.chainEnd f k
      | none => none

def Lane.motorOf (l : Lane) (j : Nat) : Option Nat := l.chainEnd 6 j

/-- The position slot whose chain ends in a motor slot. -/
def Lane.posSlotOf (l : Lane) (k : Nat) : Option Nat := (List.range 32).find? (fun j => l.p 0x7100 j == 3 && l.motorOf j == some k)

/-- The current loop of a motor slot stands in FALLBACK with its output already at the lane-safe state (R151, R178). -/
def Lane.loopSafe (l : Lane) (k : Nat) : Lane :=
  l.eachOf (l.loopsOf k) (fun j l =>
    let l := l.injAbort j
    let x := l.loop j
    if l.p 0x7100 j == 1 && x.st != .disabled && !(x.st == .fallback && x.fbDone) then
      (l.releaseOf [0x7121] j |>.setLoop j { x with st := .fallback, xD := f0, xQ := f0, uD := f0, uQ := f0, blend := none, fbAt := l.now, fbD := f0, fbQ := f0, fbDone := true, told := true, ref := f0, refNext := [] }).event 0x7101 (lossArg j 0xFF)
    else l)

/-- Flying start returns to step 1: the slot takes its lane-safe state and looks for the rotor again (R151, R154). -/
def Lane.flyBack (l : Lane) (k : Nat) : Lane :=
  let m := l.motor k
  ((l.setMotor k { m with fly := .acquire, syncLost := true, probe := none, acq := false }).takeSafe k).loopSafe k

/-- Step 2 or 3 of flying start ends without counting an attempt (Table CM-7a). -/
def Lane.flyStop (l : Lane) (k : Nat) : Lane :=
  let m := l.motor k
  if m.fly == .zeroRun || m.fly == .ramp then l.flyBack k else l

/-- What a load point does to a slot beside its channels: a disabled slot's last output has loaded (R180), and probes count their load points (R151). -/
def Lane.slotLoaded (l : Lane) (k : Nat) : Lane :=
  let m := l.motor k
  if m.tail || m.probe.isSome then l.setMotor k { m with tail := false, probe := m.probe.map (fun (p : Probe) => { p with loads := p.loads + 1 }) } else l

/-- The highest valid die temperature (R102). -/
def Lane.hottest (l : Lane) : F32 :=
  (l.sns.temp.filter (fun t => !t.dropped)).foldl (fun m t => fmax m t.value) (fi (-273))

/-- Median of some measurements (R274). -/
def median (xs : List Nat) : Option Nat :=
  let xs := xs.mergeSort (fun a b => decide (a ≤ b))
  if xs.isEmpty then none else some (xs.getD (xs.length / 2) 0)

/-- Median of the return delays measured (R274). -/
def Lane.retDelay (l : Lane) : Option Nat := median l.net.retR

end Sys2Proof.Machine
end

