-- ==== Sys2Proof/Machine/Gates.lean ====
section
/-! DEFINITION. The switches of a half-bridge from instant to instant: commands, dead times, safe levels and protections in their order of precedence (R43, R45, R48, R53, R55, R72, R80, R83, R87), and the enable pairs of external stages (R56). Instants are in fine steps of 39.0625 ps (R66). -/

namespace Sys2Proof.Machine

/-- An instant in fine steps. -/
def fine (t : Nat) : Nat := 64 * t

/-! ### Direct mode (R55) -/

/-- The level of DPUL that stands for 20 ns is followed (log entry 132); a low level, or DEN low, brings both commands off and ends the first wait of the interlock, and a rising edge with DEN high ends the second and frees a high side held off after a bootstrap UVLO (R45, R53): these two where the half-bridge is in direct mode. -/
def HalfBridge.follow (h : HalfBridge) (direct : Bool) (t : Nat) : HalfBridge :=
  if h.dpul == h.dpulOk || decide (t < h.dpulAt + 8) then h
  else if !direct then { h with dpulOk := h.dpul, dirAt := h.dpulAt + 8 }
  else
    let rise := h.dpul && h.den
    let il := match h.interlock with
      | .waitBothOff => Interlock.waitPeriod
      | .waitPeriod => if rise then .clear else .waitPeriod
      | .clear => .clear
    let free := rise && h.bstHold && !h.bstUv
    { h with dpulOk := h.dpul, dirAt := h.dpulAt + 8, interlock := il, bstHold := h.bstHold && !free, bstAt := if free then h.dpulAt + 8 else h.bstAt }

/-- A half-bridge with what its pin DPUL has come to command by an instant. -/
def Lane.dirHb (l : Lane) (k t : Nat) : HalfBridge := (l.hb k).follow (l.p 0x2130 k == 1) t

/-! ### Commanded sides -/

/-- Fine steps as a timebase places them: whole ticks while its placement is coarse (R71). -/
def TimeBase.place (b : TimeBase) (v : Nat) : Nat := if b.coarse then v / 64 * 64 else v

/-- Dead times of a channel in fine steps: rising and falling; none on a low-side-only slot, and the one of direct mode there (R55, R71, R72, R486). -/
def Lane.deadTimes (l : Lane) (ch : Nat) : Nat × Nat :=
  if l.lowOnly ch then (0, 0)
  else if l.p 0x2130 ch == 1 then (l.p 0x2131 ch * 128 / 5, l.p 0x2131 ch * 128 / 5)
  else
    let b := l.tbase (l.tbOf ch)
    (b.place (edgeFine (l.p 0x3111 ch)), b.place (edgeFine (l.p 0x3112 ch)))

/-- Dead time before a switch turns on. -/
def Lane.deadOf (l : Lane) (ch : Nat) (high : Bool) : Nat := if high then (l.deadTimes ch).1 else (l.deadTimes ch).2

/-- A refresh pulse in the period that runs: the high side off, a dead time, and the low side on for GD_BST_REFRESH_T (R46). -/
def Lane.refreshLen (l : Lane) (ch : Nat) : Nat := (l.deadTimes ch).2 + l.p 0x2111 ch * 2560

/-- The sides that a channel's timebase commands from its last load point on, in order: true the high side (Table PW-1). On a low-side-only slot the conduction interval is the low side's (R486). A refresh pulse stands at the start of the conduction interval (R46). -/
def Lane.rawEdges (l : Lane) (ch : Nat) : List (Bool × Nat) :=
  let c := l.pch ch
  let e := c.emitted
  let t0 := c.loadAt
  let up := l.p 0x3100 (l.tbOf ch) == 0
  let on := !l.lowOnly ch
  let r := c.refresh
  match c.act with
  | .off => []
  | .short => [(false, t0)]
  | .probe => []
  | .run =>
    if up then
      if e == 0 then [(!on, t0)]
      else (if r == 0 then [(on, t0)] else if r < e then [(!on, t0), (on, t0 + r)] else [(!on, t0)]) ++ (if c.frame ≤ e then [] else [(!on, t0 + e)])
    else
      let v := t0 + c.frame / 2
      let fall := if c.half then v + e else v + e / 2
      if e == 0 then [(!on, t0)]
      else
        (if c.half then [(on, v)] else if c.frame ≤ e then [(on, t0)] else if r < e then [(!on, t0), (on, v - e / 2 + r)] else [(!on, t0)]) ++
        (if c.frame ≤ e then [] else [(!on, fall)])

/-- The same edges where the timebase places them (R71). -/
def Lane.placedEdges (l : Lane) (ch : Nat) : List (Bool × Nat) := (l.rawEdges ch).map (fun e => (e.1, (l.tbase (l.tbOf ch)).place e.2))

/-- The end of the refresh pulse of the period's conduction interval, dead times included (R46). -/
def Lane.refreshEnd (l : Lane) (ch : Nat) : Nat :=
  let c := l.pch ch
  (if l.p 0x3100 (l.tbOf ch) == 0 then c.loadAt else c.loadAt + (c.frame - c.emitted) / 2) + c.refresh + l.deadOf ch true

/-- The high side has returned behind its refresh pulse: the bootstrap stood above its rising UVLO threshold by then (R46). -/
def Lane.refreshFreed (l : Lane) (ch t : Nat) : Bool :=
  0 < (l.pch ch).refresh && decide (fine (l.hb ch).bstRose ≤ l.refreshEnd ch) && decide (l.refreshEnd ch ≤ t)

/-- Takes an edge into the commanded side: a command of the same side changes nothing; no edge counts before `cut`. -/
def takeEdge (cut t : Nat) (s : Option Bool × Nat) (e : Bool × Nat) : Option Bool × Nat :=
  let at_ := max cut e.2
  if t < at_ || s.1 == some e.1 then s else (some e.1, at_)

/-- The low sides conduct for MOT_FS_PULSE up to the valley of the period, without a dead time before it since all switches are off (R151). -/
def Lane.probeWin (l : Lane) (ch : Nat) : Nat × Nat :=
  let c := l.pch ch
  let stop := if l.p 0x3100 (l.tbOf ch) == 0 then c.loadAt + c.frame else c.loadAt + c.frame / 2
  (stop - min stop (match l.slotOfCh ch with | some k => l.p 0x6143 k * 25600 | none => 0), stop)

/-- The side that a channel's timebase commands at an instant, and since when; none while it commands neither. -/
def Lane.rawSide (l : Lane) (ch t : Nat) : Option Bool × Nat :=
  let c := l.pch ch
  let cut := match (l.hb ch).precharge with
    | some p => max c.cutAt p.2
    | none => c.cutAt
  let s0 : Option Bool × Nat := match (l.hb ch).precharge with
    | some p => if decide (p.1 ≤ t) && c.side.isNone then (some false, p.1) else (c.side, c.sideAt)
    | none => (c.side, c.sideAt)
  match c.act with
  | .off => if t < cut then s0 else (none, 0)
  | .probe =>
    let w := l.probeWin ch
    if w.1 ≤ t && decide (t < w.2) then (some false, w.1) else (none, 0)
  | _ => (l.placedEdges ch).foldl (takeEdge cut t) s0

/-- The side of a half-bridge in direct mode (R55). -/
def Lane.directSide (l : Lane) (k t : Nat) : Option Bool × Nat :=
  let h := l.dirHb k (t / 64)
  if h.den then (some h.dpulOk, max (fine h.dirAt) (l.pch k).cutAt) else (none, 0)

/-! ### Switches -/

/-- A half-bridge is held off by the protections that only turn off (R43, R50, R51, R54, R58, R87). -/
def Lane.hbHeld (l : Lane) (k : Nat) : Bool :=
  let h := l.hb k
  h.vds != .clear || h.vdsHold || h.doubleDrive || l.hbTested k || l.vgdBad || bit l.gd.vgdHold.toNat (l.tbOf k)

/-- The actuator-bus chopper's channel conducts by hardware while an enabled OV1 comparator is high (R228). -/
def Lane.busSink (l : Lane) (ch : Nat) : Bool :=
  match l.slotOfHb ch with
  | some k => (l.motor k).cfg.kind == .chopper && (l.motor k).enabled && (List.range 4).any (fun d => (l.sns.drn.getD d {}).ov1)
  | none => false

/-- A half-bridge of no slot, not in direct mode, or whose channel goes to an external stage: both gates stay off (R26, R27). -/
def Lane.hbUnused (l : Lane) (k : Nat) : Bool := l.extCh k || ((l.slotOfHb k).isNone && l.p 0x2130 k != 1)

/-- The instant at which the halt froze the counters, else the instant itself (R85). -/
def Lane.haltTime (l : Lane) (t : Nat) : Nat := if l.pwm.frozen then min t (fine l.pwm.haltAt) else t

/-- A switch under a trip: on since when, if its safe level holds it on (R80); behind a protection that ended meanwhile, from a fresh start on (R43, R51, R53). -/
def Lane.tripSince (l : Lane) (k : Nat) (high : Bool) (t : Nat) : Option Nat :=
  let c := l.pch k
  if bit c.level (b2n high) then
    match (if c.cutAt ≤ c.levelAt then (if high then c.onHigh else c.onLow) else none) with
    | some s => some s
    | none => let s := max c.levelAt c.cutAt + l.deadOf k high; if s ≤ t then some s else none
  else none

/-- A switch as its half-bridge commands it: the interlock, direct mode, the bus sink or the timebase, each turn-on after its full dead time (R53, R55, R72, R228). -/
def Lane.cmdSince (l : Lane) (k : Nat) (high : Bool) (t : Nat) : Option Nat :=
  let t := l.haltTime t
  let direct := l.p 0x2130 k == 1
  if (if direct then (l.dirHb k (t / 64)).interlock else (l.hb k).interlock) != .clear then none
  else if l.busSink k then (if high == l.lowOnly k then none else some (fine l.sns.ov1At))
  else
    let s := if direct then l.directSide k t else l.rawSide k t
    let lone := l.lowOnly k
    if s.1 == some high && !(lone && high) then
      let on := if !direct && (l.pch k).act == .probe then s.2 else s.2 + l.deadOf k high
      if on ≤ t then some on else none
    else none

/-- Since when a switch is on at an instant, none while it is off: the order of precedence of Table PW-10, with the off-only protections outside it (R45, R48, R87). -/
def Lane.gateSince (l : Lane) (k : Nat) (high : Bool) (t : Nat) : Option Nat :=
  let h := if l.p 0x2130 k == 1 then l.dirHb k (t / 64) else l.hb k
  if l.hbHeld k || l.hbUnused k || !mayDrive l.st || (high && (h.bstUv || (h.bstHold && !l.refreshFreed k t) || h.waitBst)) then none
  else
    match (if (l.pch k).tripped then l.tripSince k high t else l.cmdSince k high t) with
    | some s => some (if high then max s (fine h.bstAt) else s)
    | none => none

/-- A switch is on now. -/
def Lane.switchOn (l : Lane) (k : Nat) (high : Bool) : Bool := (l.gateSince k high (fine l.now)).isSome

/-- Both gates of a half-bridge are off for as long as nothing changes. -/
def Lane.gatesOff (l : Lane) (k : Nat) : Bool :=
  if l.hbHeld k || l.hbUnused k || !mayDrive l.st then true
  else if (l.pch k).tripped then l.safeLevel k == 0
  else if (l.hb k).interlock != .clear then true
  else if l.busSink k then false
  else if l.p 0x2130 k == 1 then !(l.hb k).den
  else (l.pch k).act == .off && (match (l.hb k).precharge with | some p => decide (p.2 ≤ fine l.now) | none => true)

/-- The enable pair of an external-stage channel is high (R56); after a trip it returns when the channel resumes (R83). -/
def Lane.extEnable (l : Lane) (ch : Nat) : Bool :=
  l.extCh ch && l.st.driving && (match l.slotOfCh ch with | some k => (l.motor k).enabled | none => false) && (l.covering ch).isEmpty && !(l.pch ch).tripped &&
  (match l.slotOfCh ch with
   | some k => match (l.motor k).cfg.rtCh with
     | some c => (l.fn.ch.getD c {}).armed
     | none => true
   | none => true)

/-! ### Load points and safe levels -/

/-- The FINE part of a timebase's phase: its periods begin and load that much after the tick (R65). -/
def Lane.phaseFine (l : Lane) (tb : Nat) : Nat := if tb == 0 then 0 else bits (l.p 0x3103 tb) 5 0

/-- A load point opens a frame: the side commanded so far stands as it is. -/
def Lane.openFrame (l : Lane) (ch : Nat) : Lane :=
  let c := l.pch ch
  let s := l.rawSide ch (fine l.now)
  l.setPch ch { c with side := s.1, sideAt := s.2, loadAt := fine l.now + l.phaseFine (l.tbOf ch), frame := l.periodFine (l.tbOf ch), half := false }

/-- Output begins anew now, with a full dead time from the safe state (R43, R51, R53, R83). -/
def Lane.freshStart (l : Lane) (ch : Nat) : Lane :=
  l.setPch ch { l.pch ch with side := none, sideAt := 0, cutAt := fine l.now }

/-- The safe level of a tripped channel changes now: a switch that is on and stays held on stays on (R79, R80). -/
def Lane.takeLevel (l : Lane) (ch : Nat) : Lane :=
  let t := fine l.now
  let hi := l.gateSince ch true t
  let lo := l.gateSince ch false t
  l.setPch ch { l.pch ch with level := l.safeLevel ch, levelAt := t, onHigh := hi, onLow := lo }

end Sys2Proof.Machine
end

