-- ==== Sys2Proof/Machine/Lanes.lean ====
section
/-! DEFINITION. Lane states and the health of a lane: seniority, eligibility, the health word, the cell by state, withdrawal, and the entries to each lane state (R22 to R25, R217 to R219, R234, R235, R241 to R246, R250 to R261). -/

namespace Sys2Proof.Machine

/-! ### Seniority and peers -/

/-- Rank 0 to 2 of a lane code under RED_SENIORITY (R234). -/
def Lane.rankOf (l : Lane) (code : Nat) : Nat :=
  let v := l.p 0xA100
  if bits v 5 4 == code then 0 else if bits v 3 2 == code then 1 else 2

def Lane.rank (l : Lane) : Nat := l.rankOf l.id.code

/-- Lane x stands before lane y in the order of authority. -/
def Lane.senior (l : Lane) (x y : LaneId) : Bool := decide (l.rankOf x.code < l.rankOf y.code)

def Lane.peer (l : Lane) (p : LaneId) : PeerView := l.red.peer.getD p.idx {}
def Lane.setPeer (l : Lane) (p : LaneId) (v : PeerView) : Lane := { l with red.peer := l.red.peer.set p.idx v }

/-- The two peers, next first. -/
def Lane.peers (l : Lane) : List LaneId := [l.id.next, l.id.prev]

/-- State code in a health word (Table RD-4). -/
def healthState (h : W32) : Nat := bits h.toNat 31 28
def healthElig (h : W32) : Bool := bit h.toNat 25

/-- A peer is reachable: by its own link, or relayed by the third lane (R255). -/
def Lane.reach (l : Lane) (p : LaneId) : Bool :=
  l.linkUp p || (l.peers.any (fun q => q != p && l.linkUp q && bit (l.peer q).health.toNat (if q.next == p then 23 else 22)))

/-- A driving state by a health word: SHADOW, AUTHORITY or FOLLOWER (R209). -/
def healthDrives (h : W32) : Bool := healthState h == 5 || healthState h == 6 || healthState h == 7

/-- A peer that a link reaches and that is driving by its last health word. -/
def Lane.peerDrives (l : Lane) (p : LaneId) : Bool :=
  (l.peer p).known && !(l.peer p).gone && l.reach p && healthDrives (l.peer p).health

/-- The tap has been heard within two network cycles (R250). -/
def Lane.tapHeard (l : Lane) : Bool := match l.red.tapAt with | some t => decide (l.now < t + us (l.np 0xB101 * 2)) | none => false

/-- The health word that this lane's tap carries. -/
def Lane.tapWord (l : Lane) : Option W32 := if l.tapHeard then some l.red.tapHealth else none

/-- The health word by which a peer counts: that of its HEALTH blocks while a link reaches it, else that of the next lane on the own tap, or that of this lane's predecessor on the third lane's tap (R209, R250, R257). A lane that has withdrawn has none. -/
def Lane.seenHealth (l : Lane) (p : LaneId) : Option W32 :=
  let v := l.peer p
  if v.gone then none
  else if l.reach p then (if v.known then some v.health else none)
  else if p == l.id.next then l.tapWord
  else match (l.peer l.id.next).side with
    | some x => if l.reach l.id.next then x.tap else none
    | none => none

/-- A peer that drives, isolated followers too (R209). -/
def Lane.seenDrives (l : Lane) (p : LaneId) : Bool :=
  match l.seenHealth p with
  | some h => healthDrives h
  | none => false

/-- Hands a block that is meant for one peer to its own link, else to the third lane, which relays it (R255). -/
def Lane.sendTo (l : Lane) (p : LaneId) (urgent : Bool) (kind : Nat) (payload : List Byte) : Lane :=
  if l.linkUp p then l.send p urgent kind payload (some p)
  else (l.peers.filter (fun q => q != p && l.linkUp q)).foldl (fun l q => l.send q urgent kind payload (some p)) l

/-! ### Health word (Table RD-4) -/

/-- A lane's supply warning: VGD, or HOLD below 28.5 V more than 200 ms after the regulator step (R415). -/
def Lane.supplyBad (l : Lane) : Bool :=
  l.vgdBad || (!l.holdOk && match l.pwr.regAt with
    | some t => decide (t + ms 200 < l.now)
    | none => false)

/-- A latched ADC result is valid, no older than 100 µs and within 8 LSB of its value in thirds of a code (Table RD-5). -/
def Lane.refOk (l : Lane) (s want3 : Nat) : Bool :=
  let w := (l.adcLatch s).toNat
  let c := 3 * (w % 4096)
  bit w 31 && decide (l.now ≤ l.sns.latchAt.getD s 0 + us 100) && decide (c ≤ want3 + 24) && decide (want3 ≤ c + 24)

/-- A half-bridge in no enabled slot exists, so the 1 s comparator test applies (Table RD-5). -/
def Lane.idleHb (l : Lane) : Bool := (List.range 16).any (fun k => !l.inEnabledSlot k)

/-- The continuous self-tests pass, each within its interval (R251, Table RD-5); the vote has passed unless it has put this lane out. The tests that this model has no instant for count as passing (log entry 20). -/
def Lane.selfTests (l : Lane) : Bool :=
  !l.boot.split && !l.red.selfOut &&
  ((l.refOk 47 6144 && l.refOk 48 1024) || (match l.bist.run with | some r => r.kind == 3 && r.section_ == 2 | none => false)) &&
  !l.pwm.coarseOnly && l.pwm.calBad == 0 && decide (l.now ≤ l.pwm.calAt + us 1010) &&
  decide (l.now ≤ l.sns.tempAt + ms 1) && l.sns.disagree.isNone &&
  !l.sns.cracked && decide (l.now ≤ l.sns.crackAt + ms 10) &&
  l.fn.testOk && decide (l.now ≤ l.mem.weevil.lastAt + 3 * 40000 * l.p 0xE101) &&
  (!l.idleHb || decide (l.now ≤ l.gd.lastCmpTest + sec 1))

/-- What eligibility asks beside the sources of the outer loops (R235). -/
def Lane.fitFor (l : Lane) : Bool :=
  (l.st == .shadow || l.st == .authority) && !l.boot.split && (l.st == .authority || l.red.mirOk) && l.selfTests && !l.red.selfOut

/-- A lane is eligible for authority (R235). -/
def Lane.eligible (l : Lane) : Bool := l.fitFor && !l.red.srcBad

/-- This lane votes on chain c: it lacks no more than eligibility on other chains (R238). -/
def Lane.votesOn (l : Lane) (c : Nat) : Bool := l.fitFor && !l.red.chainBad.getD c false

/-- The current slot of motor slot k stands in FALLBACK (R178, R209). -/
def Lane.curFallback (l : Lane) (k : Nat) : Bool :=
  (List.range 32).any (fun j => l.p 0x7100 j == 1 && l.p 0x7101 j == k && (l.loop j).st == .fallback)

/-- Motor slot k is capable of torque (R209). -/
def Lane.torque (l : Lane) (k : Nat) : Bool :=
  let m := l.motor k
  !l.curFallback k && m.cfg.kind != .none && m.enabled && !m.laneSafe && !m.windFault && !m.csLost && (m.fly == .none || m.fly == .ramp) && (l.st.driving || l.st == .limp) && !l.vgdBad

def Lane.fallback (l : Lane) : Bool := l.le.slot.any (fun x => x.told)

/-- Outer period in counts (R165). -/
def Lane.outerTicks (l : Lane) : Nat := l.p 0x7150 * l.periodTicks 0

/-- A LIMP lane drives its sets: a reference came within 2 outer periods, and the module status word last received shows at most one other lane driving (R402). -/
def Lane.limpDrive (l : Lane) : Bool :=
  l.st == .limp && (match l.red.limpAt with | some t => decide (l.now < t + 2 * l.outerTicks) | none => false) &&
  decide (((List.range 3).filter (fun i => i != l.id.idx && bit l.red.modStat.toNat (24 + i))).length ≤ 1)

/-- The health word (Table RD-4). -/
def Lane.healthWord (l : Lane) : Nat :=
  l.st.code * 2 ^ 28 + l.rank * 2 ^ 26 + b2n l.eligible * 2 ^ 25 + b2n (l.sns.commonCause || l.sns.derating) * 2 ^ 24 +
  b2n (l.linkUp l.id.next) * 2 ^ 23 + b2n (l.linkUp l.id.prev) * 2 ^ 22 +
  b2n l.tapHeard * 2 ^ 21 +
  b2n (l.net.st == .synced && !l.net.chLost) * 2 ^ 20 + b2n l.red.dup * 2 ^ 19 + b2n l.boot.split * 2 ^ 18 + b2n l.red.sensor * 2 ^ 17 +
  b2n l.red.mirOk * 2 ^ 16 + ofBits ((List.range 8).map l.torque) * 2 ^ 8 + b2n l.selfTests * 2 ^ 7 +
  b2n l.mem.cap * 2 ^ 6 + b2n (l.red.wearLim || l.mem.wear) * 2 ^ 5 + b2n l.supplyBad * 2 ^ 4 +
  b2n (match l.red.intAt with | some t => decide (l.now < t + sec 1) | none => false) * 2 ^ 3 +
  b2n l.fallback * 2 ^ 2 + l.red.seq % 4

/-- What the HEALTH block carries beside Table RD-1 (log entry 49). -/
def Lane.mySide (l : Lane) : LaneNews :=
  { cfgCrc := l.cfgCrc, order := l.p 0xA100, dlLost := l.ports.dl.map DLink.lost, cell := l.fn.cell, closed := l.fn.sense,
    second := (l.fn.ch.getD 1 {}).inService, rtFault := l.fn.ch.map Chopper.faulty, tap := l.tapWord, votes := (List.range 8).map l.votesOn }

/-- An internal fault: INT stands for 1 s (Table RD-4). -/
def Lane.internalFault (l : Lane) : Lane := { l with red.intAt := some l.now }

/-! ### Fault instances (R261) -/

def Lane.addInst (l : Lane) (cls lane key : Nat) : Lane :=
  let i : FaultInst := ⟨cls, lane, key⟩
  if l.red.inst.contains i then l else { l with red.inst := l.red.inst ++ [i] }

def Lane.dropInst (l : Lane) (cls lane key : Nat) : Lane := { l with red.inst := l.red.inst.erase ⟨cls, lane, key⟩ }

/-- The instance of a lane's withdrawal clears once the lane is back in SHADOW (R261). -/
def Lane.dropLane (l : Lane) (lane : Nat) : Lane := { l with red.inst := l.red.inst.filter (fun i => i.lane != lane) }

/-! ### The spring-brake cell (R217 to R219) -/

/-- The switches as commanded, closed as true: HOLD, VETO1, VETO2. -/
def Lane.cmdClosed (l : Lane) : List Bool := [l.fn.cmdHold, l.fn.cmdVeto1, l.fn.cmdVeto2]

/-- The switches sense what they are commanded, unless a check has found one to differ (R220, log entry 158). -/
def Lane.senseFollow (l : Lane) : Lane :=
  { l with fn.sense := (List.range 3).map (fun i => if l.fn.senseBad.getD i false then l.fn.sense.getD i false else l.cmdClosed.getD i false) }

/-- Sets the cell's mode and its switch commands (Table of R217). -/
def Lane.setCell (l : Lane) (c : Cell) : Lane :=
  ({ l with fn.cell := c, fn.cmdHold := c == .hold, fn.cmdVeto1 := c != .apply, fn.cmdVeto2 := c != .apply } : Lane).senseFollow

/-- The cell mode that the function's decision gives in a driving state. -/
def Lane.cellWanted (l : Lane) : Cell :=
  match l.fn.sbApply with
  | none => .passive
  | some true => .apply
  | some false => .hold

/-- The cell follows the lane state (R219). -/
def Lane.cellFollow (l : Lane) : Lane :=
  match l.st with
  | .shadow | .authority | .follower => if l.fn.cell == l.cellWanted then l else l.setCell l.cellWanted
  | .island | .save => l
  | _ => if l.fn.cell == .passive then l else l.setCell .passive

/-! ### Authority in the view of a lane -/

def Lane.dupStart (l : Lane) : Lane := if l.red.dup then l else ({ l with red.dup := true }).eventU 0xA10C
def Lane.dupEnd (l : Lane) : Lane := if l.red.dup then ({ l with red.dup := false }).eventU 0xA10D else l

/-- The 6-byte cycle counter. -/
def Lane.cycleBytes (l : Lane) : List Byte := leBytes 6 l.net.cycle.toNat

/-! ### Leaving the driving states -/

/-- The link hardware sends one WITHDRAW block to each peer (R242). -/
def Lane.withdraw (l : Lane) (code cause : Nat) : Lane := l.sendBoth true 0x12 [b8 code, b8 cause]

/-- The old authority logs its step-down (R243). -/
def Lane.stepDown (l : Lane) : Lane :=
  if l.st == .authority then ({ l with red.auth := 0 }).eventU 0xA102 else l

/-- Ends what runs for a lane that loses its processor or leaves service: tests and their responses. -/
def Lane.testsGone (l : Lane) : Lane :=
  { l with bist.run := none, gd.test := none,
           gd.hb := l.gd.hb.map (fun h => { h with underTest := false }) }

/-- The fault log takes a pinned entry for an entry to FAILSILENT (R396). The spec names no event for it: code and argument are free values (log entry 58). -/
def Lane.logSilent (l : Lane) : Lane :=
  let e : LogEntry := { stamp := l.now, code := Config.freeNat l.fresh, st := .failSilent, lane := l.id.code, pin := true,
                        arg := .ofNat 32 (Config.freeNat (l.fresh + 1)), entry := l.mem.logNext, boot := l.pwr.boot, cycle := l.cyc }
  { l with fresh := l.fresh + 2, mem.logBuf := l.mem.logBuf ++ [e], mem.logNext := l.mem.logNext + 1 }

/-- Enters FAILSILENT with the fault class of its WITHDRAW (R241, R242, Table LN-4); a trial start fails (R438). -/
def Lane.failSilent (l : Lane) (cause : Nat) : Lane :=
  if l.st == .failSilent then l
  else
    let l := l.stepDown.testsGone
    let l := { l with boot.trialBad := l.boot.trialBad || l.boot.trial, boot.wdAt := none, red.dup := false, red.claim := none, red.split := none, pwr.entry := none, mb.accepted := [],
                      mem.weevil := { l.mem.weevil with phase := .idle, paused := false } }
    ((l.setSt .failSilent).logSilent.withdraw 11 cause).allOff.cellFollow

/-- Enters LIMP (R400, R401). -/
def Lane.enterLimp (l : Lane) : Lane :=
  if l.st == .limp || l.st == .failSilent then l
  else
    let l := { l.stepDown with red.dup := false, red.claim := none, red.split := none }
    ((l.setSt .limp).withdraw 9 1).takeSafeAll.cellFollow

/-- Parameters that the controller takes at its entry to LISTEN (Tables NT-8 and NF-11). -/
def latchIds : List Nat := [0xB100, 0xB101, 0xB102, 0xB103, 0xB104, 0xB105, 0xB106, 0xB107, 0xB108, 0xB109, 0xB10A, 0xB10B, 0xB10C, 0xB130, 0xB131, 0xB137, 0xB138]

/-- The guardians take their schedule: at configuration load, and from values written while the controller is not SYNCED (R289, log entry 185). -/
def Lane.grdTake (l : Lane) : Lane := { l with net.grdCfg := latchIds.map (fun id => (⟨id, 0, l.pvals id 0⟩ : PVal)) }

/-- The controller enters LISTEN (Table NT-4, R299). -/
def Lane.netListen (l : Lane) : Lane :=
  { l with net.latched := latchIds.map (fun id => (⟨id, 0, l.pvals id 0⟩ : PVal)), net.st := .listen, net.listenAt := l.now, net.step := 0, net.acting := false, net.ffNow := none, net.ffLast := none, net.cand := none, net.given := none }

/-- A peer counts as SYNCED for two cycles from the last cycle start that its CYCLE blocks placed (R283, log entry 190). -/
def Lane.peerLive (l : Lane) (p : LaneId) : Bool :=
  l.net.peerSync.getD p.idx false && (match l.net.peerStart.getD p.idx none with | some t => decide (l.now < t + 2 * us (l.np 0xB101)) | none => false)

/-- A node starts the time base of its channel: its counter begins at the stored mark plus 2^17 (R310). -/
def Lane.netStart (l : Lane) (st : NetSt) : Lane :=
  { l with net.given := if st == .coldstart && l.net.known && l.peers.any l.peerLive then some l.cycRef else none,
           net.st := st, net.acting := true, net.known := true, net.cycle := .ofNat 48 (l.net.hwm + 2 ^ 17), net.cycleAt := l.now,
           net.nextAt := l.now + us (l.np 0xB101), net.csFrom := l.net.hwm + 2 ^ 17, net.grd := l.net.grd.map (fun (g : Guard) => { g with at_ := l.now / 8 * 8, views := 0 }), net.rate := 0, net.delta := 0 }

/-- This master has yielded under the configuration in force (R287). -/
def Lane.hasYielded (l : Lane) : Bool := l.net.yielded == some l.cfgCrc

/-- The controller leaves OFFLINE on entry to SYNC (R284); the configured master in normal service starts at once, without listening, unless a command makes it contend (R285, log entry 51). -/
def Lane.netEnter (l : Lane) : Lane :=
  if l.net.st != .offline then l
  else
    let l := l.netListen
    if l.np 0xB108 == 1 && l.np 0xB10C == 0 && !l.hasYielded && !l.net.contend then l.netStart .synced else l

/-- Enters SYNC: lane-safe states, the setpoints held before dropped, and the end of a RUN request that waited for it (R22, R206, R252, R408). -/
def Lane.enterSync (l : Lane) : Lane :=
  let l := if l.st == .limp then l else l.setSt .sync
  let key := l.pwr.runKey
  let l := { l with fn.fn := l.fn.fn.map (fun (x : Fn) => { x with pending := [], rx := [], misCnt := 0 }), red.rejoin := { startAt := l.now }, red.dup := false, red.claim := none, red.mirOk := false, red.graceOn := false, pwr.pstate := if l.pwr.pstate == 1 then 1 else 0, pwr.runKey := none }
  ((l.takeSafeAll.cellFollow).netEnter).completeOpt key stDone

/-- The saved state of a trip source comes back with the pin as it stands now: a latch still needs its clear (R419). -/
def Lane.tripBack (l : Lane) (n code : Nat) : Lane :=
  let x := l.src n
  if code == 0 || x.st != .armed then l
  else
    let l := l.setSrc n { x with st := if x.input then .active else if code == 3 then .resuming else .held }
    l.eachOf (l.coveredChs n) (fun c l => l.setPch c { l.pch c with tripped := true })

/-- The saved latch of a half-bridge: until power cycle, latched, retries within the last second (R419, Table PS-10). -/
def Lane.vdsBack (l : Lane) (k v : Nat) : Lane :=
  let h := l.hb k
  l.setHb k { h with vds := if bit v 7 then .untilPowerCycle else if bit v 6 then .latched l.now else h.vds, autoClears := List.replicate (v % 16) l.now }

/-- Case 1 of R419, in SYNC: the log entries, trip states and VDS latches of the Chrysalis image; MAGIC is cleared in both copies. -/
def Lane.chrysBase (l : Lane) : Lane :=
  match l.pwr.restore with
  | none => l
  | some c =>
    if !c.magic then l
    else
      let l := { l.chrysUsed with pwr.restore := some { c with magic := false }, mem.logBuf := c.log ++ l.mem.logBuf }
      (l.each 14 (fun n l => l.tripBack n (c.trips.getD n 0))).each 16 (fun k l => l.vdsBack k (c.vds.getD k 0))

/-! ### Power-state requests (R404, R406 to R408) -/

def Lane.burning (l : Lane) : Bool := match l.boot.otpWrite with | some (.gen _ _ _) => true | _ => false
def Lane.moltOn (l : Lane) : Bool := l.boot.moltOpen.isSome

/-- A motor slot is enabled. -/
def Lane.motorOn (l : Lane) : Bool := l.mot.slot.any MotSlot.enabled
/-- A function or a motor slot is enabled (Tables PS-3 and CP-5). -/
def Lane.driveOn (l : Lane) : Bool := l.motorOn || l.fn.fn.any Fn.enabled

/-- The refusers with codes 0 to 4, in code order (Table PS-3); a lane in CHECK for an entry in progress is no ground. -/
def Lane.refuserOf (l : Lane) (target : Nat) : Option Nat :=
  let deep := decide (2 ≤ target)
  if (if deep then l.driveOn else l.motorOn || l.le.slot.any (fun x => x.st != .disabled) || l.mp.gen.any (fun g => g.st != .idle)) then some 0
  else if deep && fgt l.fn.v (l.pf 0x9130) then some 1
  else if l.gd.test.isSome || (match l.bist.run with | some r => r.kind == 3 | none => false) then some 2
  else if deep && (l.boot.load.isSome || l.burning || l.boot.overlayLoad.isSome || l.moltOn || l.mb.staged.isSome) then some 3
  else match l.st with
    | .waking | .boot | .save | .failSilent => some 4
    | .check => if l.pwr.entry.isSome then none else some 4
    | .limp => if target == 4 then none else some 4
    | _ => none

/-- A refusal or an abort: its event, its counter and the REFUSER field (R406). -/
def Lane.refused (l : Lane) (code src : Nat) (abort : Bool) : Lane :=
  let n := l.pwr.counters.getD code 0
  { l with pwr.refuser := code, pwr.counters := l.pwr.counters.set code (if n == 0xFFFFFFFF then n else n + 1) }.event (if abort then 0xC109 else 0xC108) (code * 256 + src)

/-- Carries out a request that no refuser stops: IDLE at once, the others by an entry (R407). -/
def Lane.requestNew (l : Lane) (target : Nat) (key : Option CmdKey) : Lane :=
  let l := l.releaseIds [0xC100, 0xC101, 0xD100, 0xD101]
  if target == 1 then { l.closeAll with pwr.pstate := 1, pwr.gateAt := none }.completeOpt key stDone
  else { l with pwr.entry := some { target := target, step := .withdraw, key := key, startAt := l.now } }

/-- A shallower request that waited behind a committed entry is made anew once the lane is up again (R408). -/
def Lane.requestWaiting (l : Lane) : Lane :=
  match l.pwr.waiting with
  | none => l
  | some t =>
    let l := { l with pwr.waiting := none }
    match l.refuserOf t with
    | some c => l.refused c 0 false
    | none => l.requestNew t none

/-- The start is over: SYNC, with what the Chrysalis image restores there (Table BT-1, R419). -/
def Lane.startDone (l : Lane) : Lane := (({ l with pwr.step := .done }.enterSync).chrysBase).requestWaiting

/-- Enters ISLAND (R259). -/
def Lane.enterIsland (l : Lane) : Lane :=
  let l := { l.stepDown.releaseIds [0xA110] with red.claim := none, red.split := none, red.islandAt := some l.now, red.graceOn := l.fn.cell == Cell.hold }
  let l := (l.setSt .island).dupEnd
  (l.takeSafeAll.cellFollow).eventU 0xA10A

/-- A trial start passes on the first driving state within 30 s (R438). -/
def Lane.trialPass (l : Lane) : Lane :=
  if l.boot.trial && !l.boot.trialBad && (match l.boot.trialAt with | some t => decide (l.now < t + sec 30) | none => true) then
    let base := fwBase l.boot.running
    let l := { l with boot.trial := false, boot.trialAt := none, boot.prev := l.boot.running }
    let l := if l.imgRaise base then l.otpProgram 0x58 (leBytes 8 (2 ^ l.imgSvn base - 1)) else l
    l.event 0x1115 l.boot.running
  else l

/-- Enters FOLLOWER (R257). -/
def Lane.enterFollower (l : Lane) : Lane :=
  let l := { l.stepDown with red.claim := none, red.split := none, red.auth := 0 }
  (((l.setSt .follower).dupEnd.cellFollow).eventU 0xA109).trialPass

/-- Enters SHADOW, by a rejoin or at the start of a module (R252, R427). -/
def Lane.enterShadow (l : Lane) : Lane :=
  let l := { l with red.mirOk := true, red.selfOut := false, red.rejoin := {} }
  let l := l.dropLane l.id.code
  (l.setSt .shadow).cellFollow.trialPass

end Sys2Proof.Machine
end

