-- ==== Sys2Proof/Machine/SelfTest.lean ====
section
/-! DEFINITION. Ending a self-test section, its record, and the abort by a safety request (R58, R59, R446 to R448, R451). -/

namespace Sys2Proof.Machine

/-- Highest die temperature in 0.1 °C (Table ST-2). -/
def tenths (t : F32) : Int := fto t 10 1

/-- Sections of a record that passed, failed or fell short, and did not finish, judged over the sections of its kind (Table ST-2). -/
def bistResult (want : List Nat) (rs : List BistEntry) : Nat :=
  let st := want.map (fun s => (rs.getD s {}).status)
  if st.all (fun x => x == 1) then 0
  else if st.any (fun x => x == 2 || x == 3) then 1
  else 2

/-- Writes the record of a run (R447, R448). -/
def Lane.bistRecord (l : Lane) (r : BistRun) : Lane :=
  let rec_ : BistRec :=
    { kind := r.kind, result := bistResult r.want r.results, boot := l.pwr.boot, stamp := l.now,
      cycle := l.cyc, cycleOk := l.net.known || l.net.given.isSome,
      sleep := match l.pwr.entry with | some e => e.target == 3 | none => false,
      cfg := l.cfgCrcOf 0, fw := l.boot.fwVersion, tmax := tenths r.tmax, spares := l.mem.spares, results := r.results }
  let l := l.bistStore rec_
  if r.kind == 1 then { l with bist.cleared := false } else l

/-- Puts the result of the running section into its entry and raises its event (R446); a comparator section that fails, falls short or is aborted raises GD_SELFTEST_FAIL too (R59). -/
def Lane.bistPut (l : Lane) (r : BistRun) (sig : W32) (count status : Nat) (detail : W32) : Lane × BistRun :=
  let e : BistEntry := { sig := sig, count := count, status := status, duration := (l.now - r.startAt) / ms 1, detail := detail }
  ((l.event (0xD100 + status) r.section_).when (r.section_ == 7 && status != 1) (fun l => l.eventU 0x2108), { r with results := r.results.set r.section_ e })

/-- Section code of a run whose last section has ended and whose record is still to be written. -/
def noSection : Nat := 255

/-- Ends a start-up test: the record stands, and the lane goes on to SYNC, or to FAILSILENT after a failed check or section (R425, R450). -/
def Lane.startTestEnd (l : Lane) (r : BistRun) : Lane :=
  let l := if l.bist.bad.isNone && !l.bist.retest.isEmpty && !r.aborted then { l with bist.cleared := true } else l
  if l.bist.bad.isSome then { l with bist.bad := none }.failSilent 1 else l.startDone

/-- Ends a whole run: its record, and what follows it: the persist step of the entry, the end of the start, or the end of the host's command (R363, R407, R447). -/
def Lane.bistFinish (l : Lane) (r : BistRun) : Lane :=
  let l := { l with bist.run := none }.bistRecord r
  match r.kind with
  | 1 => { l with pwr.entry := l.pwr.entry.map (fun (e : PwrEntry) => { e with step := .persist, startAt := l.now, tested := true }) }
  | 2 => l.startTestEnd r
  | _ => l.completeOpt r.key stDone

/-- A safety request or a command aborts the running section; the sections after it are not run (R451, R453). The count as reached is a free value (log entry 2). A start-up sequence goes on to SYNC, as an aborted section is no failed one (log entry 21). -/
def Lane.bistAbort (l : Lane) : Lane :=
  match l.bist.run with
  | none => l
  | some r =>
    if r.section_ == noSection then l
    else
      let n := l.freeNat
      let q := n.2.bistPut { r with aborted := true } 0 n.1 4 0xFFFFFFFF
      q.1.bistFinish q.2

/-- Ends the running test at once: its section as aborted, and its record (R409). -/
def Lane.bistStop (l : Lane) : Lane :=
  let l := l.bistAbort
  match l.bist.run with
  | none => l
  | some r => l.bistFinish r

/-- The response of GD_SELFTEST: one byte per half-bridge and the number of comparators tested (Table CP-4). -/
def gdTestResult (mask : Nat) (pass : List Byte) (count : Nat) : List Byte :=
  (List.range 16).map (fun k => if bit mask k then pass.getD k 0 else 0) ++ leBytes 2 count ++ [0, 0]

/-- Ends the comparator self-test of GD_SELFTEST and answers it (R59). -/
def Lane.gdTestEnd (l : Lane) (pass : List Byte) (count : Nat) (aborted : Bool) : Lane :=
  match l.gd.test with
  | none => l
  | some g =>
    let m := g.mask.toNat
    let ks := (List.range 16).filter (bit m)
    let good := !aborted && ks.all (fun k => pass.getD k 0 == 0xFF) && count == 8 * ks.length
    let l := { l with gd.test := none, gd.hb := l.gd.hb.map (fun (h : HalfBridge) => { h with underTest := false }) }
    let l := if good then l else l.eventU 0x2108
    match l.mb.deferred.find? (fun (k : CmdKey) => k.op == 0x36) with
    | some k => l.answer k stDone (gdTestResult m pass count)
    | none => l

/-- A safety request that needs a half-bridge under test aborts GD_SELFTEST (R58); its pass bits and its count so far are free values (log entry 2). -/
def Lane.gdTestAbort (l : Lane) (hbs : List Nat) : Lane :=
  match l.gd.test with
  | some g =>
    if hbs.any (bit g.mask.toNat) then
      let bytes := (List.range 16).map (fun i => BitVec.ofNat 8 (Config.freeNat (l.fresh + i)))
      ({ l with fresh := l.fresh + 17 }).gdTestEnd bytes (Config.freeNat (l.fresh + 16)) true
    else l
  | none => l

/-- Half-bridges of the integrated slots that meet a condition. -/
def Lane.hbsWhere (l : Lane) (f : SlotCfg → Bool) : List Nat :=
  (List.range 16).filter (fun h => (List.range 8).any (fun k => (l.motor k).cfg.integrated && f (l.motor k).cfg && (l.motor k).cfg.hbs.contains h))

/-- What a handover of authority needs: every integrated slot (R58; log entry 152). -/
def Lane.slotHbs (l : Lane) : List Nat := l.hbsWhere (fun _ => true)

/-- What a brake apply needs: the brake windings, slack adjusters and solenoids (R58; log entry 152). -/
def Lane.brakeHbs (l : Lane) : List Nat :=
  l.hbsWhere (fun c => (c.kind == .threePhase && c.winding == .brake) || (c.kind == .stepper && c.wheel.isSome) || c.kind == .solenoid)

/-- A safety request: the running section and the comparator self-test of its half-bridges end (R58, R451). -/
def Lane.safetyRequest (l : Lane) (hbs : List Nat) : Lane := (l.gdTestAbort hbs).bistAbort

/-! ### Taking authority (R242, R246) -/

/-- Sends AUTH_CLAIM to both peers (Table RD-1). -/
def Lane.sendClaim (l : Lane) : Lane :=
  ({ l with red.claim := some ⟨l.cyc, l.le.outerIdx % 256, l.now⟩ }).sendBoth true 0x13
    (l.cycleBytes ++ [b8 l.le.outerIdx, b8 l.id.code] ++ leBytes 4 l.healthWord)

/-- Enters AUTHORITY (R242, R243); a handover of authority ends the tests of what it needs (R58, R451). -/
def Lane.enterAuthority (l : Lane) : Lane :=
  let l := l.safetyRequest l.slotHbs
  let l := { l with red.auth := l.id.code, red.claim := none }
  let l := ((l.setSt .authority).eventU 0xA101).dupEnd
  (l.setPeer l.id { l.peer l.id with gone := false }).cellFollow

/-- Peers that could answer a claim: reached, and in a driving state by their last health words. -/
def Lane.answerers (l : Lane) : List LaneId := l.peers.filter (fun p => l.peerDrives p && !(l.peer p).outVoted)

/-- This lane is the most senior eligible lane by the health words it holds (R242). -/
def Lane.mostSenior (l : Lane) : Bool :=
  l.eligible && l.answerers.all (fun p => !(healthElig (l.peer p).health) || l.senior l.id p)

/-- Step 2 of R242: the most senior eligible lane claims, or enters AUTHORITY when no peer remains. -/
def Lane.claimStep (l : Lane) : Lane :=
  if l.st == .shadow && l.red.auth == 0 && l.red.claim.isNone && l.red.split.isNone && l.mostSenior then
    (if l.answerers.isEmpty then l.enterAuthority else l.sendClaim)
  else l

/-- The authority is lost in this lane's view (R242 step 1, R246). -/
def Lane.authLost (l : Lane) : Lane :=
  let l := { l with red.auth := 0, red.failAt := some (l.red.failAt.getD l.now), red.claim := none }
  if l.st == .shadow || l.st == .authority || l.st == .follower then l.dupStart.claimStep else l

end Sys2Proof.Machine
end

