-- ==== Sys2Proof/Machine/GateDrive.lean ====
section
/-! DEFINITION. Gate drive: adaptive and fixed strength, VDS, VGD and bootstrap protection, the both-on interlock, direct mode and the comparator self-test (R34 to R61). -/

namespace Sys2Proof.Machine

/-! ### Strength codes (R37 to R40) -/

/-- Minimum code of a channel and direction, raised by 8 while the temperature derating holds (R40, R102). -/
def Lane.codeMin (l : Lane) (ch : Nat) (on : Bool) : Nat :=
  let m := l.p (if on then 0x2104 else 0x2106) ch
  if l.sns.derating then min (l.p (if on then 0x2105 else 0x2107) ch) (m + 8) else m

def Lane.codeMax (l : Lane) (ch : Nat) (on : Bool) : Nat := l.p (if on then 0x2105 else 0x2107) ch

/-- The code in use: the adapted code, within the channel's minimum and maximum (R38), or the higher of the fixed code and the minimum (R40). -/
def Lane.codeUse (l : Lane) (ch : Nat) (on : Bool) : Nat :=
  if l.p 0x2100 ch == 1 then min (l.codeMax ch on) (max (if on then (l.gch ch).codeOn else (l.gch ch).codeOff) (l.codeMin ch on))
  else max (l.p (if on then 0x2108 else 0x2109) ch) (l.codeMin ch on)

/-- The sink code of a turn-off: the soft-off code while a VDS fault of the switch is latched, else the present code (R41, R81). -/
def Lane.sinkCode (l : Lane) (ch : Nat) : Nat := if (l.gch ch).soft then l.p 0x210B else l.codeUse ch false

/-- A protection turns a switch off at a sink code (R41, R54). -/
def Lane.sinkAt (l : Lane) (ch code : Nat) : Lane := l.setGch ch { l.gch ch with sink := some code }

/-- A slot enable starts the codes at the fixed codes (R40). The counts of pinned edges start again with them: DESIGN CHOICE, since R39 names no enable (log entry 134). -/
def Lane.codesStart (l : Lane) (ch : Nat) : Lane :=
  l.setGch ch { codeOn := max (l.p 0x2108 ch) (l.codeMin ch true), codeOff := max (l.p 0x2109 ch) (l.codeMin ch false), soft := (l.gch ch).soft, sink := (l.gch ch).sink }

/-- A frozen channel (R37). -/
def Lane.frozenCh (l : Lane) (ch : Nat) : Bool :=
  let k := ch / 2
  let h := l.hb k
  !(l.covering k).isEmpty || l.gd.vgdUv || (h.bstUv && ch % 2 == 0) || h.vds != .clear || l.pwm.halted

/-- The mapped drain-sense voltage is below GD_ADAPT_VMIN: newest result of the mapped DRN input, 120 V full scale (R37, Table SN-2). -/
def Lane.drnLow (l : Lane) (k : Nat) : Bool :=
  let code := (l.adcLatch (40 + l.p 0x2123 k)).toNat % 4096
  decide (code * 120 < l.p 0x210A * 4096)

/-- One measured edge moves the code by at most one step (R38, R39); the time counts 0.3125 ns. The argument of ADAPT_LIMIT packs 2 × channel + direction with 0 for turn-on: DESIGN CHOICE, no table of the spec lays it out (log entry 167). -/
def Lane.gateEdge (l : Lane) (ch : Nat) (on : Bool) (time : Nat) (valid : Bool) : Lane :=
  if !valid || l.p 0x2100 ch == 0 || l.frozenCh ch || l.drnLow (ch / 2) then l
  else
    let g := l.gch ch
    let t := 5 * time
    let tgt := 16 * l.p (if on then 0x2101 else 0x2102) ch
    let band := 16 * l.p 0x2103
    let hi := l.codeMax ch on
    let c0 := l.codeUse ch on
    let c := if tgt + band < t then min (c0 + 1) hi else if t + band < tgt then max (c0 - 1) (l.codeMin ch on) else c0
    let p := if c == hi && decide (tgt + band < t) then (if on then g.pinnedOn else g.pinnedOff) + 1 else 0
    let l := l.setGch ch (if on then { g with codeOn := c, pinnedOn := p } else { g with codeOff := c, pinnedOff := p })
    if p == 1000 then
      ({ l with gd.wear := l.gd.wear + 1, red.wearLim := decide (Config.wearLimit < l.gd.wear + 1) }).event 0x2107 (2 * ch + b2n !on)
    else l

def execGateEdgeMeasured (a : At) (ch : Nat) (on : Bool) (time : Nat) (valid : Bool) (s : State) : Out :=
  run (ch < 32) s a (fun l => ({ l with sns.edges := l.sns.edges.set (ch / 2) (recent l.now (us 4) (l.sns.edges.getD (ch / 2) [])) }).gateEdge ch on time valid)

def Lane.hGdSetStrength (m : Msg) (l : Lane) : Lane × Reply :=
  let ch := m.u8 0
  guarded l [(l.hbTested (ch / 2), stBusySelftest),
    (decide (32 ≤ ch) || decide (m.u8 1 < l.p 0x2104 ch) || decide (l.p 0x2105 ch < m.u8 1) || decide (m.u8 2 < l.p 0x2106 ch) || decide (l.p 0x2107 ch < m.u8 2), stBadParam)]
    (fun l => done ((l.pset 0x2108 ch [m.u8 1]).pset 0x2109 ch [m.u8 2]))

def execGdSetStrength (a : At) (m : Msg) (s : State) : Out := run true s a (fun l => l.serve 0x35 m (Lane.hGdSetStrength m))

/-! ### VDS monitors (R50, R51) -/

/-- A gate-drive event of a half-bridge; none of one that belongs to no slot and is not in direct mode (R466). -/
def Lane.hbEvent (l : Lane) (k : Nat) (raise : Lane → Lane) : Lane :=
  if (l.slotOfHb k).isSome || l.p 0x2130 k == 1 then raise l else l

/-- The automatic clears of a half-bridge within the 1 s that ends now. -/
def recentClears (h : HalfBridge) (now : Nat) : Nat := (h.autoClears.filter (fun t => decide (now < t + sec 1))).length

/-- A half-bridge is lost until power cycle: its slot reports a winding fault, one instance of class W (R51, R54, Table RD-8). -/
def Lane.hbLost (l : Lane) (k : Nat) : Lane :=
  match l.slotOfHb k with
  | some s => l.windFault s
  | none => l

/-- VDS of a switch, in mV, has stood above the threshold since an instant, and the filter time has passed after blanking: each setting is the one of its turn-on (R50, Table GD-7). A switch that a trip turns off at this instant counts as on (Table PW-11). -/
def Lane.vdsHolds (l : Lane) (k : Nat) (v : VdsOver) : Bool :=
  let c := l.pch k
  let ch := 2 * k + b2n (!v.high)
  match (if c.tripped && c.levelAt == fine l.now then (if v.high then c.onHigh else c.onLow) else l.gateSince k v.high (fine l.now)) with
  | some on =>
    let t := on / 64
    let blank := on + l.pFrom 0x2121 ch t * 128 / 5
    decide (100 + 100 * l.pFrom 0x2120 ch t < v.vds) && decide (max blank (fine v.since) + l.pFrom 0x2122 ch t * 128 / 5 ≤ fine l.now)
  | none => false

/-- VDS_FAULT: the switch turns off at the soft-off code, both switches are latched off, and the slot goes to its lane-safe state (R41, R50). -/
def Lane.vdsFault (l : Lane) (k : Nat) (v : VdsOver) : Lane :=
  let h := l.hb k
  let ch := 2 * k + b2n (!v.high)
  if h.vds != .clear || h.doubleDrive || !l.vdsHolds k v then l
  else
    let stay := l.p 0x2124 == 0
    let l := (l.setHb k { h with vds := if stay then .untilPowerCycle else .latched l.now, vdsRetry := l.p 0x2124 }).setGch ch { l.gch ch with soft := true }
    let l := (l.sinkAt ch (l.sinkCode ch)).hbEvent k (fun l => l.event 0x2105 ch)
    let l := if stay then l.hbLost k else l
    match l.slotOfHb k with
    | some s => (l.takeSafe s).stepOff s
    | none => l

def execVdsFault (a : At) (hb : Nat) (v : VdsOver) (s : State) : Out := run (hb < 16) s a (fun l => l.vdsFault hb v)

/-- The soft-off turn-off ends with the latch (R41). -/
def Lane.softEnd (l : Lane) (k : Nat) : Lane := l.eachOf [2 * k, 2 * k + 1] (fun ch l => l.setGch ch { l.gch ch with soft := false })

/-- 10 ms after the fault; output waits for the next period start of the half-bridge's timebase (R51). A half-bridge in direct mode has no period, and its output resumes at once, with a full dead time: DESIGN CHOICE (log entry 135). -/
def Lane.vdsAuto (l : Lane) (k : Nat) : Lane :=
  let h := l.hb k
  match h.vds with
  | .latched t =>
    if l.due (t + ms 10) && l.fwRuns then
      (if recentClears h l.now < h.vdsRetry then
         ((l.setHb k { h with vds := .clear, vdsHold := l.p 0x2130 k == 0, autoClears := recent l.now (sec 1) h.autoClears }).softEnd k).freshStart k
       else (l.setHb k { h with vds := .untilPowerCycle }).hbLost k)
    else l
  | _ => l

def execVdsAutoClear (a : At) (hb : Nat) (s : State) : Out := run (hb < 16) s a (fun l => l.vdsAuto hb)

/-- Half-bridges named whose latch the host may clear: none that is held until power cycle (R51, R54). -/
def Lane.clearable (l : Lane) (mask : Nat) : List Nat :=
  (List.range 16).filter (fun k => bit mask k && !(l.hb k).doubleDrive && (match (l.hb k).vds with | .latched _ => true | _ => false))

def Lane.hGdFaultClear (m : Msg) (l : Lane) : Lane × Reply :=
  let mask := m.u16 0
  let named := (List.range 16).filter (bit mask)
  guarded l [(named.any l.hbTested, stBusySelftest), (named.any l.inEnabledSlot, stRefusedState)] (fun l =>
    let ks := l.clearable mask
    done (l.eachOf ks (fun k l => ((l.setHb k { l.hb k with vds := .clear }).softEnd k).freshStart k))
      (leBytes 2 ((ks.map (fun k => 2 ^ k)).sum) ++ [0, 0]))

def execGdFaultClear (a : At) (m : Msg) (s : State) : Out := run true s a (fun l => l.serve 0x34 m (Lane.hGdFaultClear m))

/-! ### VGD and bootstraps (R43, R45) -/

def Lane.vgdFault (l : Lane) (ov : Bool) : Lane :=
  let l := (if ov then { l with gd.vgdOv := true } else { l with gd.vgdUv := true }).eventU (if ov then 0x2102 else 0x2101)
  l.each 8 (fun k l => (if (l.motor k).laneSafe then l.takeSafe k else l).stepOff k)

def execVgdFault (a : At) (ov : Bool) (s : State) : Out := run true s a (fun l => l.vgdFault ov)

/-- VGD stands inside both thresholds for 1 ms: drive resumes at the next period start of each timebase (R43). -/
def Lane.vgdBack (l : Lane) : Lane :=
  if !l.vgdBad then l
  else
    let l := { l with gd.vgdUv := false, gd.vgdOv := false, gd.vgdHold := 0x00FF }
    l.each 8 (fun k l => if (l.motor k).laneSafe then l.takeSafe k else l)

def execVgdRecovery (a : At) (s : State) : Out := run true s a (fun l => l.vgdBack)

/-- A bootstrap falls below its UVLO threshold: only that high side goes off (R45, R46). -/
def Lane.bstLow (l : Lane) (k : Nat) : Lane :=
  let h := l.dirHb k l.now
  if h.bstUv then l
  else (l.setHb k { h with bstUv := true, bstHold := true, refreshDue := l.p 0x2110 k != 0 && l.p 0x2130 k == 0 }).hbEvent k (fun l => l.eventU 0x2103)

def execBstUv (a : At) (hb : Nat) (s : State) : Out := run (hb < 16) s a (fun l => l.bstLow hb)

/-- Half-bridges whose first high-side pulse waited for this bootstrap: in flying start the pulse waits for every bootstrap of the slot (R48, R151). -/
def Lane.waitFree (l : Lane) (k : Nat) : List Nat :=
  match l.slotOfHb k with
  | some s =>
    let m := l.motor s
    if m.fly != .none && m.cfg.hbs.any (fun i => i != k && (l.hb i).bstUv) then []
    else k :: m.cfg.hbs.filter (fun i => i != k && (l.hb i).waitBst && !(l.hb i).bstUv)
  | none => [k]

/-- The bootstrap stands above its rising UVLO threshold: the high side stays off until the next period start, the end of a refresh pulse that still runs, or the next rising edge in direct mode (R45, R46); a first pulse that waited comes at once (R48). The refresh that would have followed a pulse still running at a valley is called off, unless BST_LOW asks for it (R46). -/
def Lane.bstRise (l : Lane) (k : Nat) : Lane :=
  let h := l.dirHb k l.now
  let last := h.refreshing && l.p 0x2110 k == 1 && 0 < (l.pch k).refresh && decide ((l.pch k).loadAt < fine (l.tbase (l.tbOf k)).started) && decide (fine l.now ≤ l.refreshEnd k)
  let l := l.setHb k { h with bstUv := false, bstRose := l.now, refreshing := h.refreshing && !last }
  if h.waitBst then l.eachOf (l.waitFree k) (fun i l => l.setHb i { l.hb i with waitBst := false, bstHold := false, bstAt := l.now }) else l

def execBstUvRecover (a : At) (hb : Nat) (s : State) : Out := run (hb < 16) s a (fun l => l.bstRise hb)

/-! ### Interlock and double drive (R53, R54) -/

/-- Both switches commanded on are turned off, until both commands are off together and a period start, or a rising edge in direct mode, follows (R53). -/
def Lane.shoot (l : Lane) (k : Nat) : Lane :=
  (l.setHb k { l.dirHb k l.now with interlock := if l.p 0x2130 k == 1 && !(l.hb k).den then .waitPeriod else .waitBothOff, shootAt := l.now }).hbEvent k (fun l => l.eventU 0x2104)

def execShootReq (a : At) (hb : Nat) (s : State) : Out := run (hb < 16) s a (fun l => l.shoot hb)

/-- Both gates sink at code 63, and the half-bridge is latched off until power cycle (R54). -/
def Lane.doubleDrive (l : Lane) (k : Nat) : Lane :=
  let h := l.hb k
  if h.doubleDrive then l
  else
    let l := (((l.setHb k { h with doubleDrive := true }).sinkAt (2 * k) 63).sinkAt (2 * k + 1) 63).hbEvent k (fun l => l.eventU 0x2106)
    let l := l.hbLost k
    match l.slotOfHb k with
    | some s => (l.takeSafe s).stepOff s
    | none => l

def execGateDoubleDrive (a : At) (hb : Nat) (s : State) : Out := run (hb < 16) s a (fun l => l.doubleDrive hb)

/-! ### Direct mode (R55) -/

/-- An edge at the pin DPUL: what stood before it counts first, and the driver follows the new level once it has stood for 20 ns (log entry 132). -/
def Lane.directPulse (l : Lane) (k : Nat) (level : Bool) : Lane :=
  let h := l.hb k
  if h.dpul == level then l
  else
    let g := l.dirHb k l.now
    let l := l.when (g.dpulOk != h.dpulOk) (fun l => { l with held := l.held.filter (fun x => !((x.id == 0x2120 || x.id == 0x2121 || x.id == 0x2122) && x.inst / 2 == k && l.p 0x2130 k == 1 && decide (x.since ≤ h.dirAt))) })
    l.setHb k { g with dpul := level, dpulAt := l.now }

def execDirectPulseEdge (a : At) (hb : Nat) (level : Bool) (s : State) : Out := run (hb < 16) s a (fun l => l.directPulse hb level)

/-- DEN goes low: both switches turn off, an instant with both commands off (R53); DEN goes high: the level of DPUL counts from now, after a full dead time. -/
def Lane.directEnable (l : Lane) (k : Nat) (level : Bool) : Lane :=
  let h := l.dirHb k l.now
  if h.den == level then l
  else if level then l.setHb k { h with den := true, dirAt := l.now }
  else l.setHb k { h with den := false, interlock := if h.interlock == .waitBothOff && l.p 0x2130 k == 1 then .waitPeriod else h.interlock }

def execDirectEnableChange (a : At) (hb : Nat) (level : Bool) (s : State) : Out := run (hb < 16) s a (fun l => l.directEnable hb level)

/-! ### Comparator self-test (R58, R59) -/

def Lane.hGdSelftest (m : Msg) (l : Lane) : Lane × Reply :=
  let mask := m.u16 0
  let named := (List.range 16).filter (bit mask)
  guarded l [(l.gd.test.isSome || l.inSection 7, stBusy), (named.any l.hbTested, stBusySelftest),
    (l.pwr.entry.isSome || named.any (fun k => l.inEnabledSlot k || !l.gatesOff k), stRefusedState)] (fun l =>
    let l := { l with gd.test := some { mask := .ofNat 16 mask, start := l.now } }
    (l.eachOf named (fun k l => l.setHb k { l.hb k with underTest := true }), .later))

def execGdSelftest (a : At) (m : Msg) (s : State) : Out := run true s a (fun l => l.serve 0x36 m (Lane.hGdSelftest m))

/-- The last half-bridge of the mask is done: 20 µs each (R58). -/
def Lane.gdTestDue (l : Lane) : Bool :=
  match l.gd.test with
  | some g => l.due (g.start + us (20 * ((List.range 16).filter (bit g.mask.toNat)).length))
  | none => false

def execGdSelftestEnd (a : At) (pass : List Byte) (count : Nat) (s : State) : Out :=
  run true s a (fun l => l.when l.gdTestDue (fun l => l.gdTestEnd pass count false))

/-- The background comparator test of half-bridges in no enabled slot (Table RD-5): a pass bit set for each counts as passed, and a failure raises GD_SELFTEST_FAIL. -/
def Lane.gateTest (l : Lane) (pass : List Byte) : Lane :=
  if !l.st.driving then l
  else if (List.range 16).all (fun k => l.inEnabledSlot k || pass.getD k 0 == 0xFF) then { l with gd.lastCmpTest := l.now }
  else l.eventU 0x2108

def execGateComparatorTest (a : At) (pass : List Byte) (s : State) : Out := run true s a (fun l => l.gateTest pass)

end Sys2Proof.Machine
end

