-- ==== Sys2Proof/Machine/Pwm.lean ====
section
/-! DEFINITION. PWM timebases, shadows, the short-pulse policies, delay-line calibration, and the trip latches (R62 to R88, R486, R487). -/

namespace Sys2Proof.Machine

/-! ### Shadows and short pulses (R67, R68, R73, R74, R486) -/

/-- The loop engine writes a shadow: a burst has begun (R67). -/
def Lane.shadowWrite (l : Lane) (ch v : Nat) : Lane :=
  let tb := l.tbOf ch
  (l.setPch ch { l.pch ch with shadow := v }).setTb tb { l.tbase tb with burst := true }

/-- The last write of a burst sets the ready flag at an instant (R67, R68). -/
def Lane.burstDone (l : Lane) (tb t : Nat) : Lane :=
  l.setTb tb { l.tbase tb with ready := true, burst := false, readyAt := t }

/-- A pulse's limits in fine steps: period, shortest on-interval and shortest off-interval that are not short (R73). -/
structure Pulse where
  period : Nat
  minOn  : Nat
  minOff : Nat
deriving DecidableEq, Repr

def Pulse.highShort (p : Pulse) (t : Nat) : Bool := decide (0 < t) && decide (t < p.minOn)
def Pulse.lowShort (p : Pulse) (t : Nat) : Bool := decide (t < p.period) && decide (p.period - t < p.minOff)

/-- CARRY (R74): emitted on-interval, high carry and low carry after. An interval of exactly 0 or the whole period is emitted as asked and leaves the carries (log entry 23). -/
def Pulse.carry (p : Pulse) (t ch cl : Nat) : Nat × Nat × Nat :=
  if t == 0 || p.period ≤ t then (min t p.period, ch, cl)
  else
    let low := p.lowShort t
    let high := p.highShort t
    let ch := if low then 0 else ch
    let cl := if high then 0 else cl
    if 0 < ch then
      let u := t + ch
      if p.highShort u then (0, u, cl)
      else
        let e := min u (p.period - p.minOff)
        (e, u - e, cl)
    else if 0 < cl then
      let u := t - cl
      if p.lowShort u then (p.period, ch, p.period - u)
      else
        let e := max u p.minOn
        (e, ch, (cl + e) - t)
    else if high then (0, t, 0)
    else if low then (p.period, 0, p.period - t)
    else (t, 0, 0)

/-- The policy of the timebase on a commanded interval (Table PW-4): emitted interval and the two carries after. -/
def Pulse.emit (p : Pulse) (policy t ch cl : Nat) : Nat × Nat × Nat :=
  match policy with
  | 0 => p.carry t ch cl
  | 1 => (if p.highShort t then p.minOn else if p.lowShort t then p.period - p.minOff else t, 0, 0)
  | _ => (t, 0, 0)

def Lane.pulse (l : Lane) (ch : Nat) : Pulse :=
  let tb := l.tbOf ch
  let dt := l.deadTimes ch
  let m := edgeFine (l.p 0x3113 tb)
  { period := l.periodFine tb, minOn := dt.1 + m, minOff := dt.2 + m }

/-- The duty cap of a period that carries a refresh pulse (R47); the refresh time counts 0.1 µs. -/
def Lane.refreshCap (l : Lane) (ch : Nat) : Nat :=
  let dt := l.deadTimes ch
  l.periodFine (l.tbOf ch) - (l.p 0x2111 ch * 2560 + dt.1 + dt.2)

/-- The slot of a channel commands no pulses: it is disabled or in its lane-safe state (R74, R147, R148). -/
def Lane.chSafe (l : Lane) (ch : Nat) : Bool :=
  match l.slotOfCh ch with
  | some k => l.slotAct k != .run
  | none => false

/-- The conduction interval that a load point now opens begins with a refresh pulse (R46): edge-aligned, its period has begun with it; centre-aligned, it begins after the peak of the period that carries the pulse. -/
def Lane.refreshNow (l : Lane) (ch : Nat) : Bool :=
  (l.hb ch).refreshing && (l.p 0x3100 (l.tbOf ch) == 1 || (l.tbase (l.tbOf ch)).started == l.now)

/-- The emitted interval stays below the duty cap of a period that carries a refresh pulse, also where the policy raises it (R47, R76). -/
def Lane.capped (l : Lane) (ch t : Nat) : Nat := if l.refreshNow ch then min t (l.refreshCap ch) else t

/-- The short-pulse policy on a commanded interval, behind the duty cap and below it (R47, R73 to R76): what the cap takes from a carried interval stays in the high carry. -/
def Lane.shaped (l : Lane) (ch t carryHi carryLo : Nat) : Nat × Nat × Nat :=
  let r := (l.pulse ch).emit (l.p 0x3114 (l.tbOf ch)) (l.capped ch t) carryHi carryLo
  let e := l.capped ch r.1
  (e, if l.p 0x3114 (l.tbOf ch) == 0 && 0 < carryHi then r.2.1 + (r.1 - e) else r.2.1, r.2.2)

/-- What a channel emits from a load point on (R73 to R76), with the command of its slot (R147). A tripped channel emits nothing of its own (R80), and through the first period after a resume, from its period start to the next, a dropped pulse enters no carry (R83). -/
def Lane.emitCh (l : Lane) (ch : Nat) : Lane :=
  let l := l.openFrame ch
  let act := match l.slotOfCh ch with | some k => l.slotAct k | none => .off
  let c := { l.pch ch with act := act, refresh := if l.refreshNow ch then l.refreshLen ch else 0 }
  if !c.tripped && l.busSink ch then l.setPch ch { c with emitted := l.periodFine (l.tbOf ch), carryHi := 0, carryLo := 0 }
  else if c.tripped || l.chSafe ch then l.setPch ch { c with emitted := 0, carryHi := 0, carryLo := 0 }
  else
    let r := l.shaped ch c.tOn c.carryHi c.carryLo
    if c.resumed then l.setPch ch { c with emitted := r.1, carryHi := 0, carryLo := 0 }
    else l.setPch ch { c with emitted := r.1, carryHi := r.2.1, carryLo := r.2.2 }

/-- Loads the shadows and trigger positions of a timebase together (R67, R69). -/
def Lane.loadShadows (l : Lane) (tb : Nat) : Lane :=
  let l := l.eachOf (l.tbChs tb) (fun c l => l.setPch c { l.pch c with tOn := (l.pch c).shadow })
  let l := l.eachOf ((List.range 4).map (fun i => 4 * tb + i))
    (fun i l => { l with pwm.cmp := l.pwm.cmp.set i { pos := .ofNat 32 (l.p 0x3120 i), dest := l.p 0x3121 i } })
  l.setTb tb { l.tbase tb with ready := false, burst := false }

/-- The load point of a timebase (R67, R68): a burst whose last write is still to come is not finished. -/
def Lane.loadPoint (l : Lane) (tb : Nat) : Lane :=
  let b := l.tbase tb
  if l.pwm.frozen then l
  else
    let l := if b.ready && decide (b.readyAt ≤ l.now) then
        (if b.readyAt + 80 ≤ l.now then l.loadShadows tb else l.eventU 0x3105)
      else if b.ready || b.burst then l.eventU 0x3104 else l
    let l := l.eachOf (l.tbChs tb) (fun c l => l.emitCh c)
    l.eachOf ((List.range 8).filter (fun k => (l.motor k).cfg.kind != .none && l.slotTb k == tb)) (fun k l => l.slotLoaded k)

/-! ### Delay-line calibration (R70, R71) -/

def Lane.delayCal (l : Lane) (n : Nat) : Lane :=
  if l.pwm.frozen then l
  else if n < 48 || 90 < n then
    let bad := l.pwm.calBad + 1
    let l := { l with pwm.calBad := bad, pwm.calTaps := n, pwm.calAt := l.now }
    if bad == 3 && !l.pwm.coarseOnly then
      ({ l with pwm.coarseOnly := true, pwm.tb := l.pwm.tb.map (fun (b : TimeBase) => { b with coarse := true }) }).eventU 0x3106
    else l
  else { l with pwm.calBad := 0, pwm.calTaps := n, pwm.calAt := l.now, pwm.coarseOnly := false,
                pwm.tb := l.pwm.tb.map (fun (b : TimeBase) => { b with pendingMap := some n }) }

def execDelayCal (a : At) (count : Nat) (s : State) : Out := run true s a (fun l => l.delayCal count)

/-- Physical tap of a requested fine step in the running map (R70), 0 at coarse placement (R71). -/
def TimeBase.tap (b : TimeBase) (f : Nat) : Nat := if b.coarse then 0 else (f * b.mapTaps + 32) / 64

/-! ### Trip latches (R77 to R84, Table PW-8) -/

/-- A source in latched mode; 12 and 13 always are (R82). -/
def Lane.latched (l : Lane) (n : Nat) : Bool := decide (12 ≤ n) || l.p 0x3134 n == 0

def satInc (w : W32) : W32 := if w == 0xFFFFFFFF then w else w + 1

/-- TRIP_LATCHED and the urgent notice to both peers (Table PW-7). -/
def Lane.tripNotice (l : Lane) (n : Nat) : Lane :=
  (l.eventU 0x3101).sendBoth true 0x16 ([b8 n] ++ leBytes 2 (((l.coveredChs n).map (fun c => 2 ^ c)).sum) ++ leBytes 8 l.now)

/-- A channel goes to its safe level: its switches that go off do so at the present code, or the soft-off code (R41, R80, R81). -/
def Lane.tripCh (l : Lane) (ch : Nat) : Lane :=
  let hi := l.switchOn ch true
  let lo := l.switchOn ch false
  let l := l.takeLevel ch
  let l := l.setPch ch { l.pch ch with tripped := true, emitted := 0, carryHi := 0, carryLo := 0, resumed := false }
  let l := l.when (hi && !bit (l.pch ch).level 1) (fun l => l.sinkAt (2 * ch) (l.sinkCode (2 * ch)))
  l.when (lo && !bit (l.pch ch).level 0) (fun l => l.sinkAt (2 * ch + 1) (l.sinkCode (2 * ch + 1)))

/-- Safe levels on the covered channels (R80): carries cleared (R74), tests of a covered half-bridge aborted (R58, R451), and a flying start past step 1 returns to it (Table CM-7a). -/
def Lane.tripCover (l : Lane) (n : Nat) : Lane :=
  let cs := l.coveredChs n
  let l := l.eachOf cs (fun c l => l.tripCh c)
  let l := l.each 8 (fun k l => if (l.motor k).cfg.hbs.any cs.contains then l.flyStop k else l)
  let l := l.each 32 (fun j l => if l.p 0x7100 j == 1 && (l.motor (l.p 0x7101 j)).cfg.hbs.any cs.contains then l.injAbort j else l)
  let l := l.each 8 (fun k l => if (l.motor k).cfg.hbs.any cs.contains then l.stepTrip k else l)
  l.safetyRequest cs

/-- A source enters ACTIVE from ARMED or RESUMING (R82). -/
def Lane.tripEnter (l : Lane) (n : Nat) : Lane :=
  let x := l.src n
  let told := !l.latched n && x.burst
  let l := l.setSrc n { x with st := .active, count := satInc x.count, burst := !l.latched n, seen := 0, clean := 0 }
  (if told then l else l.tripNotice n).tripCover n

/-- Covers the channels that an active source has come to cover beside those it tripped on entry (R85). -/
def Lane.tripWiden (l : Lane) (n : Nat) : Lane :=
  if (l.src n).st == .armed || (l.coveredChs n).all (fun c => (l.pch c).tripped) then l else l.tripCover n

/-- The input of a source becomes active (Table PW-8). -/
def Lane.tripOn (l : Lane) (n : Nat) : Lane :=
  let x := l.src n
  if x.input then l
  else
    let l := l.setSrc n { x with input := true, pin := if n < 8 then l.p 0x3130 n == 1 else true }
    match x.st with
    | .armed | .resuming => l.tripEnter n
    | .held =>
      let y := l.src n
      (l.setSrc n { y with st := .active, count := satInc y.count }).safetyRequest (l.coveredChs n)
    | .active => l

/-- The input of a source becomes inactive (Table PW-8). -/
def Lane.tripOff (l : Lane) (n : Nat) : Lane :=
  let x := l.src n
  let pin := if n < 8 then l.p 0x3130 n == 0 else false
  let l := if 8 ≤ n && n < 12 then { l with sns.ds := l.sns.ds.set (n - 8) { l.sns.ds.getD (n - 8) {} with above := false } } else l
  match x.st with
  | .active => l.setSrc n { x with input := false, pin := pin, st := if l.latched n then .held else .resuming }
  | _ => l.setSrc n { x with input := false, pin := pin }

def execTripInputInactive (a : At) (src : Nat) (s : State) : Out := run (src < 13) s a (fun l => l.tripOff src)

/-- The states of the 14 sources and two zero bytes (Table CP-4). -/
def Lane.tripStates (l : Lane) : List Byte := (List.range 14).map (fun n => b8 (l.src n).st.code) ++ [0, 0]

/-- TRIP_CLEAR (R84): each named source in HELD goes to RESUMING, whatever the status. -/
def Lane.hTripClear (m : Msg) (l : Lane) : Lane × Reply :=
  let mask := m.u16 0
  let named := (List.range 14).filter (bit mask)
  if decide (2 ^ 14 ≤ mask) then refuse l stBadParam
  else if l.inSection 9 then refuse l stBusySelftest
  else
    let act := named.filter (fun n => (l.src n).st == .active)
    let l := l.eachOf (named.filter (fun n => n != 13)) (fun n l =>
      let x := l.src n
      if x.st == .held then l.setSrc n { x with st := .resuming } else l)
    let l := l.eachOf act (fun _ l => l.eventU 0x3102)
    (l, .now (if named.contains 13 then stRefusedState else if !act.isEmpty then stClearRefused else stDone) l.tripStates)

def execTripClear (a : At) (m : Msg) (s : State) : Out := run true s a (fun l => l.serve 0x30 m (Lane.hTripClear m))

/-- The input of source 12: TRIP_FORCE, or a debug halt that trips it (Table PW-5, R85). -/
def Lane.source12 (l : Lane) : Lane :=
  if l.pwm.force || (l.pwm.halted && l.pwm.haltTrip) then l.tripOn 12 else l.tripOff 12

def Lane.hTripForce (m : Msg) (l : Lane) : Lane × Reply :=
  guarded l [(l.inSection 9, stBusySelftest), (decide (1 < m.u8 0), stBadParam)] (fun l =>
    let l := { l with pwm.force := m.u8 0 == 1 }.source12
    done l [b8 (l.src 12).st.code, 0, 0, 0])

def execTripForce (a : At) (m : Msg) (s : State) : Out := run true s a (fun l => l.serve 0x31 m (Lane.hTripForce m))

def Lane.hTripStatus (l : Lane) : Lane × Reply :=
  done l (l.tripStates ++ (List.range 14).flatMap (fun n => leBytes 4 (l.src n).count.toNat))

def execTripStatus (a : At) (m : Msg) (s : State) : Out := run true s a (fun l => l.serve 0x32 m Lane.hTripStatus)

/-! ### Period start (R70, R82, R83, R45, R46, R53, R43) -/

/-- Re-arms a RESUMING source whose covered channels this timebase carries, and counts clean periods of an armed one (R82, Table PW-8). A channel that other sources still cover takes their level (R79). -/
def Lane.rearm (l : Lane) (tb n : Nat) : Lane :=
  let x := l.src n
  let cov := l.coveredTbs n
  if !cov.contains tb then l
  else match x.st with
    | .resuming =>
      let cs := l.coveredChs n
      let l := l.setSrc n { x with st := .armed, seen := BitVec.ofNat 16 (2 ^ tb), clean := 0 }
      let l := if n == 12 then { l with pwm.haltTrip := false } else l
      (l.eachOf (cs.filter (fun c => !(l.covering c).isEmpty)) (fun c l => l.takeLevel c)).eventU 0x3103
    | .armed =>
      let clean := if bit x.seen.toNat tb then x.clean ||| BitVec.ofNat 16 (2 ^ tb) else x.clean
      l.setSrc n { x with seen := x.seen ||| BitVec.ofNat 16 (2 ^ tb), clean := clean,
                          burst := x.burst && !cov.all (bit clean.toNat) }
    | _ => l

/-- The first pulse after a resume: the remainder of the commanded pulse after the period start, under the duty cap and the short-pulse policy without carries (R76, R83). -/
def Lane.remainder (l : Lane) (ch : Nat) : Nat :=
  let c := l.pch ch
  let tb := l.tbOf ch
  let t := if l.p 0x3100 tb == 1 then (if c.tOn == l.periodFine tb then c.tOn else c.tOn / 2) else c.tOn
  (l.shaped ch t 0 0).1

/-- The side that a safe level holds on at a resume, and the instant whose dead time it has spent: it stays on where the output commands it (R83). -/
def Lane.heldSide (l : Lane) (ch : Nat) : Option Bool × Nat :=
  match l.gateSince ch false (fine l.now), l.gateSince ch true (fine l.now) with
  | some t, _ => (some false, t - l.deadOf ch false)
  | none, some t => (some true, t - l.deadOf ch true)
  | none, none => (none, 0)

/-- A tripped channel resumes when no source that covers it is outside ARMED (R83): what its output turns off goes off now, what it turns on waits its full dead time. -/
def Lane.resumeCh (l : Lane) (ch : Nat) : Lane :=
  let c := l.pch ch
  if c.tripped && (l.covering ch).isEmpty then
    let s := l.heldSide ch
    l.setPch ch { c with tripped := false, resumed := true, carryHi := 0, carryLo := 0, emitted := if l.chSafe ch then 0 else l.remainder ch,
                         half := l.p 0x3100 (l.tbOf ch) == 1, level := 0, side := s.1, sideAt := s.2, cutAt := fine l.now }
  else l.setPch ch { c with resumed := false }

/-- An instant with both commands off has come since a both-on request, before now (R53): an edge of the timebase, or no command at all. -/
def Lane.bothOff (l : Lane) (k : Nat) : Bool :=
  let s := l.rawSide k (fine l.now - 1)
  decide ((l.hb k).shootAt < l.now) && (s.1.isNone || (decide (fine (l.hb k).shootAt ≤ s.2) && decide (0 < l.deadOf k (s.1 == some true))))

/-- A refresh pulse falls due in the period that begins (R46): as the bootstrap stands, after a UVLO or, in mode 2, below BST_LOW. -/
def Lane.refreshWanted (l : Lane) (k : Nat) (bstLow : W16) : Bool :=
  let h := l.hb k
  if l.p 0x2110 k == 0 then false
  else (h.refreshDue && (h.bstUv || !h.refreshTrip)) || (h.refreshing && h.bstHold && !l.refreshFreed k (fine l.now)) || (l.p 0x2110 k == 2 && bit bstLow.toNat k)

/-- Edge-aligned, a load point that came just before its period start takes the refresh pulse and the duty cap of the period (R46, R47; log entry 168). -/
def Lane.refreshOpen (l : Lane) (k : Nat) : Lane :=
  let c := l.pch k
  if l.p 0x3100 (l.tbOf k) == 0 && c.loadAt / 64 == l.now && (l.hb k).refreshing then
    l.setPch k { c with refresh := l.refreshLen k, emitted := min c.emitted (l.refreshCap k) }
  else l

/-- What a period start does to one half-bridge: a refresh pulse due is inserted unless a trip holds the channel, which it then awaits (R46, Table PW-11), and the interlock, the waits after VDS and VGD and the bootstrap hold end (R43, R45, R51, R53). -/
def Lane.periodHb (l : Lane) (k : Nat) (bstLow : W16) (vgd : Bool) : Lane :=
  let h := l.hb k
  if l.p 0x2130 k == 1 then l.when vgd (fun l => l.freshStart k)
  else
    let want := l.refreshWanted k bstLow
    let held := (l.pch k).tripped && !(l.covering k).isEmpty
    let free := h.interlock == .waitBothOff && l.bothOff k
    let back := h.bstHold && !h.bstUv && !l.refreshFreed k (fine l.now)
    let l := l.when (h.vdsHold || free || vgd) (fun l => l.freshStart k)
    l.setHb k { h with vdsHold := false, interlock := if free then .clear else h.interlock,
                       bstHold := h.bstHold && h.bstUv, bstAt := if back then l.now else h.bstAt,
                       refreshing := want && !held, refreshDue := want && held, refreshTrip := want && held } |>.refreshOpen k

/-- A precharge that has ended leaves its low side as the side commanded before (R48). -/
def Lane.preEnd (l : Lane) (k : Nat) : Lane :=
  match (l.hb k).precharge with
  | some p =>
    if p.2 ≤ fine l.now then
      let c := l.pch k
      (l.setHb k { l.hb k with precharge := none }).when (!c.tripped) fun l => l.setPch k { c with cutAt := max c.cutAt p.2, side := some (c.side.getD false), sideAt := if c.side.isNone then p.1 else c.sideAt }
    else l
  | none => l

/-- A change of period or policy clears the carries at the next period start (R74). -/
def Lane.carryStart (l : Lane) (tb : Nat) : Lane :=
  if (l.tbase tb).carryClear then
    l.eachOf (l.tbChs tb) (fun c l => l.setPch c { l.pch c with carryHi := 0, carryLo := 0 })
  else l

/-- Removes at most PWM_SYNC_SLEW ticks of the phase error from one period (R65). -/
def slewSync (err : Int) (slew : Nat) : Int :=
  if (slew : Int) < err then err - slew else if err < -(slew : Int) then err + slew else 0

/-- The newest values act from this period start on (Tables GD-7, PW-12, SN-8, CM-9); those of a VDS monitor once its switch has turned on since. -/
def Lane.periodRelease (l : Lane) (tb : Nat) : Lane :=
  { l with held := l.held.filter (fun h =>
      let i := h.inst
      !(match h.id with
        | 0x2110 | 0x2111 | 0x3111 | 0x3112 => l.tbOf i == tb
        | 0x3101 | 0x3113 | 0x3114 => i == tb
        | 0x3105 => tb == 0
        | 0x4101 => ((List.range 8).find? (fun k => (l.motor k).cfg.kind != .none && (l.pvals 0x6115 k).contains i)).all (fun k => l.slotTb k == tb)
        | 0x6113 => l.slotTb i == tb
        | 0x2120 | 0x2121 | 0x2122 =>
          let c := l.pch (i / 2)
          l.tbOf (i / 2) == tb && decide (h.since ≤ (l.tbase tb).started) && c.act == .run && decide (0 < c.emitted) && decide (c.emitted < c.frame)
        | _ => false)) }

/-- An error in ticks, brought within half a period of zero. -/
def centred (e : Int) (period : Nat) : Int :=
  let n : Int := max 1 period
  let e := e % n
  if n < 2 * e then e - n else e

/-- A slot on a timebase is enabled. -/
def Lane.tbBusy (l : Lane) (tb : Nat) : Bool := (List.range 8).any (fun k => (l.motor k).cfg.kind != .none && (l.motor k).enabled && l.slotTb k == tb)

/-- A timebase takes its phase from timebase 0 (R65): at once while no slot on it is enabled, else it removes the error, with what timebase 0 itself still removes, through the slew limit. -/
def Lane.followTb (l : Lane) (tb : Nat) : Lane :=
  let b := l.tbase tb
  let b0 := l.tbase 0
  let d := centred ((b0.started : Int) + (bits (l.p 0x3103 tb) 25 6 : Nat) - b.started) (l.periodTicks tb)
  if l.tbBusy tb then l.setTb tb { b with syncErr := d + b0.syncErr }
  else l.setTb tb { b with started := ((b.started : Int) + d).toNat, syncErr := b0.syncErr }

/-- After a change of its period or mode a timebase takes its offset from timebase 0 again; after one of timebase 0, all others do (R65). -/
def Lane.refollow (l : Lane) (tb : Nat) : Lane := l.eachOf (if tb == 0 then [1, 2, 3, 4, 5, 6, 7] else [tb]) (fun i l => l.followTb i)

/-- The start of a period, with the bootstraps that stand below BST_LOW at the end of the last one. -/
def Lane.periodStart (l : Lane) (tb : Nat) (bstLow : W16) : Lane :=
  if l.pwm.frozen then l
  else
    let l := (l.periodRelease tb).carryStart tb
    let b := l.tbase tb
    let l := l.setTb tb { b with started := l.now, periods := b.periods + 1, mapTaps := b.pendingMap.getD b.mapTaps, pendingMap := none,
                                 coarse := b.coarse && b.pendingMap.isNone, carryClear := false,
                                 syncErr := slewSync b.syncErr (l.p 0x3105) } |>.when b.carryClear (fun l => l.refollow tb)
    let vgd := bit l.gd.vgdHold.toNat tb
    let l := { l with gd.vgdHold := l.gd.vgdHold &&& ~~~(BitVec.ofNat 16 (2 ^ tb)) }
    let l := l.each 14 (fun n l => l.rearm tb n)
    l.eachOf (l.tbChs tb) (fun c l => ((l.preEnd c).periodHb c bstLow vgd).resumeCh c)

end Sys2Proof.Machine
end

