-- ==== Sys2Proof/Machine/Sense.lean ====
section
/-! DEFINITION. Sensing: the ADC sequences and their result words, the delta-sigma inputs, die temperature and the crack loop (R90 to R104). -/

namespace Sys2Proof.Machine

/-! ### SAR ADCs (R91 to R94, Table SN-3) -/

def Lane.adc (l : Lane) (k : Nat) : Adc := l.sns.adc.getD k {}
def Lane.setAdc (l : Lane) (k : Nat) (x : Adc) : Lane := { l with sns.adc := l.sns.adc.set k x }

def Lane.setLatch (l : Lane) (src : Nat) (w : W32) (t : Nat) : Lane :=
  { l with sns.latch := l.sns.latch.set src w, sns.latchAt := l.sns.latchAt.set src t }

/-- The half-bridge that a current-sense amplifier measures: phase i of the slot whose MOT_CS_MAP names it is the slot's half-bridge i, of a stepper winding i its half-bridge 2i (R91, log entry 123). -/
def Lane.csaHb (l : Lane) (amp : Nat) : Option Nat :=
  (List.range 8).findSome? (fun k =>
    let m := l.motor k
    let cs := l.pvals 0x6115 k
    if m.cfg.kind == .none then none
    else (List.range 3).findSome? (fun i => if cs.getD i 0xFF == amp then m.cfg.hbs[if m.cfg.kind == .stepper then 2 * i else i]? else none))

/-- SETTLE of a sample (R91): a switch-node edge of the mapped half-bridge less than SNS_CSA_SETTLE before it. -/
def Lane.settle (l : Lane) (src sample : Nat) : Bool :=
  if 12 ≤ src then false
  else match l.csaHb src with
    | none => false
    | some hb => (l.sns.edges.getD hb []).any (fun t => decide (t ≤ sample) && decide (5 * (sample - t) < 2 * l.p 0x4101 src))

/-- The result word (Table SN-3). -/
def adcWord (valid settle : Bool) (src cnt code : Nat) : W32 :=
  BitVec.ofNat 32 (b2n valid * 2 ^ 31 + b2n settle * 2 ^ 30 + b2n (code == 0 || decide (4095 ≤ code)) * 2 ^ 29 + src * 2 ^ 23 + cnt % 128 * 2 ^ 16 + code % 4096)

/-- The sources of the background scan of an ADC: those that no triggered sequence names (R93). -/
def Lane.scanList (l : Lane) : List Nat :=
  let named := (List.range 4).flatMap (fun k => l.pvals 0x4110 k)
  ((List.range 49).filter (fun s => decide (s < 12) || decide (16 ≤ s))).filter (fun s => !named.contains s)

/-- A trigger reaches an ADC: its sequence starts, or the running one completes and the trigger is dropped, its results to be delivered with VALID = 0 at their own times (R92 to R94). A second trigger in one tick is the same trigger (R69). -/
def Lane.adcTrigger (l : Lane) (k : Nat) : Lane :=
  let c := l.adc k
  let sq := l.pvals 0x4110 k
  if sq.isEmpty || c.firedAt == some l.now then l
  else if c.left.isEmpty then l.setAdc k { c with left := sq, trigAt := l.now, entry := 1, firedAt := some l.now }
  else (l.setAdc k { c with firedAt := some l.now, lost := (c.lost.filter (fun x => decide (l.now < x.2.1 + us 100))) ++ sq.mapIdx (fun i s => (s, l.now, l.now + 84 + 80 * i)) }).eventU 0x410A

/-- A conversion ends: the next entry of the running sequence, else the next source of the background scan (R92, R93), which rests on a converter under self-test (R489). A background result carries VALID = 1 as one that completed: DESIGN CHOICE, since Table SN-3 speaks of a trigger and the scan has none (log entry 137). -/
def Lane.adcEnd (l : Lane) (k code : Nat) : Lane :=
  let c := l.adc k
  match c.left with
  | s :: r =>
    let sample := c.trigAt + 2 + 80 * (c.entry - 1)
    (l.setLatch s (adcWord true (l.settle s sample) s (c.count + 1) code) c.trigAt).setAdc k
      { c with left := r, entry := c.entry + 1, count := (c.count + 1) % 128, lost := c.lost.filter (fun x => x.1 != s || decide (c.trigAt ≤ x.2.1)) }
  | [] =>
    let scan := if l.adcTested k then [] else l.scanList
    match scan[c.scanPos % max 1 scan.length]? with
    | some s =>
      (l.setLatch s (adcWord true (l.settle s (l.now - 82)) s (c.count + 1) code) l.now).setAdc k { c with scanPos := (c.scanPos + 1) % scan.length, count := (c.count + 1) % 128 }
    | none => l

def execAdcConversionEnd (a : At) (adc code : Nat) (s : State) : Out := run (adc < 4 && code < 4096) s a (fun l => l.adcEnd adc code)

/-! ### Noise tests (R101) -/

/-- One sample of a source under test, in units of its least significant bit. Either test declares it frozen; a full window that passes both ends that (log entry 125). -/
def Lane.noiseCode (l : Lane) (i : Nat) (c : Int) (raise : Lane → Lane) : Lane :=
  let x := l.sns.noise.getD i {}
  let put (l : Lane) (y : Noise) : Lane := { l with sns.noise := l.sns.noise.set i y }
  match x.last with
  | none => put l { x with last := some c }
  | some p =>
    let d := c - p
    let same := if d == 0 then x.same + 1 else 0
    let n := x.n + 1
    let sum := x.sum + d
    let sq := x.sumSq + d.natAbs * d.natAbs
    let win := if x.n == 0 then l.p 0x4140 else x.win
    let floor := if x.n == 0 then l.pf 0x4141 else x.floor
    let full := decide (win ≤ n)
    let r := b32.toRat floor.toNat
    let quiet := full && decide (((sq * n : Nat) - sum * sum) * r.2 < r.1 * n * n)
    let frozen := quiet || decide (l.p 0x4142 ≤ same + 1) || (x.frozen && !full)
    let y : Noise := { last := some c, same := same, n := if full then 0 else n, sum := if full then 0 else sum, sumSq := if full then 0 else sq, frozen := frozen, win := win, floor := floor, stamp := x.stamp }
    if frozen && !x.frozen then raise (put l y) else put l y

/-- One conversion of an analog source that feeds a closed loop; another reader of the same conversion adds no sample. -/
def Lane.noise (l : Lane) (src : Nat) : Lane :=
  let w := l.adcLatch src
  let x := l.sns.noise.getD src {}
  let t := some (l.sns.latchAt.getD src 0)
  if x.stamp == t then l
  else if bit w.toNat 31 then ({ l with sns.noise := l.sns.noise.set src { x with stamp := t } }).noiseCode src (w.toNat % 4096 : Nat) (fun l => l.event 0x4105 src) else l

def Lane.frozenSrc (l : Lane) (src : Nat) : Bool := (l.sns.noise.getD src {}).frozen

/-- A delta-sigma input feeds the retarder's control of the link (FN_RT_DS_MAP). -/
def Lane.dsFeeds (l : Lane) (k : Nat) : Bool :=
  (l.func 4).enabled && (List.range 3).any (fun n => bits (l.p 0x914B) (4 * n + 3) (4 * n) == k)

/-- The same tests on a sinc3 result, in units of its least significant bit, which the spec does not state (log entry 125). -/
def Lane.noiseDs (l : Lane) (k : Nat) (v : F32) : Lane :=
  if l.dsFeeds k then l.noiseCode (49 + k) (fto (fdiv v (Config.sincLsb (l.pf 0x4132 k) (l.p 0x4131 k))) 1 1) (fun l => l.eventU 0x4105) else l

/-! ### Delta-sigma inputs (R97 to R99) -/

def Lane.dsIn (l : Lane) (k : Nat) : DsIn := l.sns.ds.getD k {}
def Lane.setDs (l : Lane) (k : Nat) (x : DsIn) : Lane := { l with sns.ds := l.sns.ds.set k x }

/-- Takes the newest sinc3 results: a value ends a modulator fault, none stands for a stream that is stuck or has no clock (R99). -/
def Lane.dsTake (l : Lane) (ds : List (Option DsRes)) : Lane :=
  l.each 4 (fun k l =>
    match ds[k]? with
    | some (some r) =>
      let l := l.noiseDs k r.v
      let d := l.dsIn k
      (l.setDs k { d with value := r.v, stamp := l.now, valid := true, modFault := false, above := l.p 0x4133 k != 0 && fge r.fast (l.pf 0x4133 k), aboveRel := fge r.fast (l.pf 0x4134 k) }).releaseOf [0x4131] k
    | some none => l.setDs k { l.dsIn k with valid := false }
    | none => l)

/-- REGEN_INH is high while a latch is set or the firmware asserts it; an unpowered lane leaves it low (R98). -/
def Lane.regenInh (l : Lane) : Bool := l.st != .off && (l.sns.regenFw || l.sns.ds.any (fun d => d.regen))

/-- The firmware clears a REGEN latch, unless the input stands at or above its release level (R98). -/
def Lane.regenClear (l : Lane) (k : Nat) : Lane :=
  let d := l.dsIn k
  if !d.regen then l
  else if l.p 0x4133 k != 0 && d.aboveRel then l.eventU 0x410B
  else l.setDs k { d with regen := false }

/-- The inhibit timer of R227 runs from the first assertion. -/
def Lane.inhStart (l : Lane) (on : Bool) : Lane := if on then { l with fn.inhAt := some (l.fn.inhAt.getD l.now) } else l

/-- OV_HARD: the comparator output is trip source 8 + k and sets the REGEN latch (R97). -/
def Lane.ovHard (l : Lane) (k : Nat) : Lane :=
  if l.p 0x4133 k == 0 then l
  else
    let d := l.dsIn k
    let l := ((l.setDs k { d with above := true, aboveRel := true, regen := d.regen || l.p 0x4135 k == 1 }).inhStart (l.p 0x4135 k == 1)).eventU 0x4103
    l.tripOn (8 + k)

def execOvHard (a : At) (ds : Nat) (s : State) : Out := run (ds < 4) s a (fun l => l.ovHard ds)

def Lane.dsModFault (l : Lane) (k : Nat) : Lane :=
  let d := l.dsIn k
  if d.modFault then l
  else ((l.setDs k { d with modFault := true, valid := false, regen := d.regen || l.p 0x4135 k == 1 }).inhStart (l.p 0x4135 k == 1)).eventU 0x4104

def execDsModFault (a : At) (ds : Nat) (s : State) : Out := run (ds < 4) s a (fun l => l.dsModFault ds)

/-! ### Temperature (R102, Table SN-7) -/

/-- Numbers of the sensors that are not dropped. -/
def Lane.validTemps (l : Lane) : List Nat := (List.range 3).filter (fun k => !(l.sns.temp.getD k {}).dropped)

def Lane.tempOf (l : Lane) (k : Nat) : F32 := (l.sns.temp.getD k {}).value

/-- Two valid readings stand more than 15 °C apart. -/
def Lane.tempsApart (l : Lane) : Bool :=
  l.validTemps.any (fun i => l.validTemps.any (fun j => fgt (fsub (l.tempOf i) (l.tempOf j)) (fi 15)))

/-- The current-limit factor of the present reading: 1 at the derate start, falling linearly to 0.33 at 142 °C. -/
def Lane.derateNow (l : Lane) : F32 :=
  let t0 := fi (l.p 0x4150)
  fclamp (fq 33 100) f1 (fsub f1 (fdiv (fmul (fq 67 100) (fsub l.hottest t0)) (fsub (fi 142) t0)))

/-- The factor in force: the lowest reached while derating, and from recovery a rise to 1 over 1 s (log entry 24). -/
def Lane.tempLimit (l : Lane) : F32 :=
  if l.sns.derating then l.sns.derateK
  else match l.sns.recoverAt with
    | some t =>
      if t + sec 1 ≤ l.now then f1
      else fadd l.sns.derateK (fmul (fsub f1 l.sns.derateK) (fq (l.now - t) (sec 1)))
    | none => f1

/-- Keeps an instant while a condition lasts. -/
def since (old : Option Nat) (c : Bool) (now : Nat) : Option Nat := if c then some (old.getD now) else none

def Lane.tempSample (l : Lane) (ts : List F32) : Lane :=
  let l := { l with sns.temp := (l.sns.temp.zip ts).map (fun (p : Temp × F32) => { p.1 with value := p.2 }), sns.tempAt := l.now }
  let hot := l.hottest
  let apart := l.tempsApart
  let q := l.sns
  let agree := since q.agreeAt (!apart) l.now
  let l := { l with sns.hotSince := since q.hotSince (fge hot (fi 145)) l.now, sns.disagree := since q.disagree apart l.now, sns.agreeAt := agree,
                    sns.pairTold := q.pairTold && !(match agree with | some t => decide (t + ms 100 ≤ l.now) | none => false),
                    bist.run := l.bist.run.map (fun (r : BistRun) => { r with tmax := fmax r.tmax hot }) }
  let start := fi (l.p 0x4150)
  if !q.derating && fgt hot start then
    ({ l with sns.derating := true, sns.recoverAt := none, sns.derateK := l.derateNow }).eventU 0x4106
  else if q.derating && fle hot (fsub start (fi 5)) then { l with sns.derating := false, sns.recoverAt := some l.now }
  else if q.derating then { l with sns.derateK := fmin q.derateK l.derateNow }
  else l

def execTempSample (a : At) (t0 t1 t2 : F32) (s : State) : Out := run true s a (fun l => l.tempSample [t0, t1, t2])

/-- 145 °C held for 1 ms (Table SN-7). -/
def Lane.tempShut (l : Lane) : Lane :=
  if (match l.sns.hotSince with | some t => l.due (t + ms 1) | none => false) && l.st != .off && l.st != .waking && l.st != .save && l.st != .failSilent then
    (l.eventU 0x4107).failSilent 1
  else l

def execTempShutdown (a : At) (s : State) : Out := run true s a (fun l => l.tempShut)

/-- The outlying sensor of three: the reading farther from the median, on a tie the lower extreme (Table SN-7). -/
def outlier (v : Nat → F32) : Nat :=
  let before (i j : Nat) : Bool := flt (v i) (v j) || (!flt (v j) (v i) && decide (i < j))
  let lo := if before 0 1 && before 0 2 then 0 else if before 1 2 then 1 else 2
  let hi := if before 1 0 && before 2 0 then 0 else if before 2 1 then 1 else 2
  let mid := 3 - lo - hi
  if flt (fsub (v mid) (v lo)) (fsub (v hi) (v mid)) then hi else lo

def Lane.tempFault (l : Lane) : Lane :=
  if !(match l.sns.disagree with | some t => l.due (t + ms 100) | none => false) then l
  else if l.validTemps.length == 3 then
    let k := outlier l.tempOf
    let l := { l with sns.temp := l.sns.temp.set k { l.sns.temp.getD k {} with dropped := true } }
    ({ l with sns.disagree := since none l.tempsApart l.now, sns.hotSince := if fge l.hottest (fi 145) then l.sns.hotSince else none }).event 0x4108 k
  else if l.sns.pairTold then l
  else ({ l with sns.pairTold := true }).event 0x4108 0xFF

def execTempSensorFault (a : At) (s : State) : Out := run true s a (fun l => l.tempFault)

/-! ### Crack loop (R103) -/

/-- Mean of the valid die temperatures. -/
def Lane.meanTemp (l : Lane) : F32 :=
  fdiv (l.validTemps.foldl (fun x k => fadd x (l.tempOf k)) f0) (fi (max 1 l.validTemps.length))

/-- The stored resistance corrected by 0.39 %/K to the present temperature. -/
def Lane.crackRefNow (l : Lane) : F32 :=
  fmul l.sns.crackRef (fadd f1 (fmul (fq 39 10000) (fsub l.meanTemp l.sns.crackRefT)))

/-- A reading exceeds the corrected stored value by more than the limit, or 1 kΩ. -/
def Lane.crackBad (l : Lane) (r : F32) : Bool :=
  fgt r (fi 1000) || (l.sns.crackSet && fgt r (fmul l.crackRefNow (fadd f1 (fq (l.p 0x4160) 100))))

def Lane.crackDeclare (l : Lane) : Lane :=
  if l.sns.cracked then l else ({ l with sns.cracked := true, sns.commonCause := true }).eventU 0x4109

def Lane.crackMeasure (l : Lane) (r : F32) : Lane :=
  let n := if l.crackBad r then l.sns.crackRun + 1 else 0
  let l := { l with sns.crackR := r, sns.crackAt := l.now, sns.crackRun := n }
  if n == 3 then l.crackDeclare else l

def execCrackMeasure (a : At) (r : F32) (s : State) : Out := run true s a (fun l => l.crackMeasure r)

end Sys2Proof.Machine
end

