-- ==== Sys2Proof/Machine/Position.lean ====
section
/-! DEFINITION. Position feedback: Hall groups, incremental inputs, serial ports, pass-through, compare units and triggers (R105 to R133). -/

namespace Sys2Proof.Machine

def Lane.hall (l : Lane) (k : Nat) : Hall := l.pos.hall.getD k {}
def Lane.setHall (l : Lane) (k : Nat) (x : Hall) : Lane := { l with pos.hall := l.pos.hall.set k x }
def Lane.enc (l : Lane) (k : Nat) : Enc := l.pos.enc.getD k {}
def Lane.setEnc (l : Lane) (k : Nat) (x : Enc) : Lane := { l with pos.enc := l.pos.enc.set k x }
def Lane.pp (l : Lane) (k : Nat) : PosPort := l.pos.pp.getD k {}
def Lane.setPp (l : Lane) (k : Nat) (x : PosPort) : Lane := { l with pos.pp := l.pos.pp.set k x }
def Lane.cmpU (l : Lane) (k : Nat) : CmpUnit := l.pos.cmp.getD k {}
def Lane.setCmpU (l : Lane) (k : Nat) (x : CmpUnit) : Lane := { l with pos.cmp := l.pos.cmp.set k x }
def Lane.frz (l : Lane) (k : Nat) : Freeze := l.pos.freeze.getD k {}
def Lane.setFrz (l : Lane) (k : Nat) (x : Freeze) : Lane := { l with pos.freeze := l.pos.freeze.set k x }

/-! ### Compare units (R127 to R129) -/

/-- The source reaches or passes a value in the direction of POS_CMP_DIR, over the wrap of its 32-bit count (R127). The first value that a unit sees hits where it stands at the value or beyond it in that direction. -/
def cmpHit (dir : Nat) (last : Option Int) (val new : Int) : Bool :=
  match last with
  | none => new == val || (dir == 0 && decide (val ≤ new)) || (dir == 1 && decide (new ≤ val))
  | some p =>
    let d := s32 (new - p)
    let v := s32 (val - p)
    (dir != 1 && decide (0 < v) && decide (v ≤ d)) || (dir != 0 && decide (v < 0) && decide (d ≤ v))

/-- Hits skipped because the source lies beyond the next value already (R128). A source that stands exactly at that value counts as beyond it, since it cannot reach it any more: DESIGN CHOICE (log entry 142). -/
def cmpSkips (next inc new : Int) : Nat :=
  let d := s32 (new - next)
  if 0 < inc then (if 0 ≤ d then (d / inc + 1).toNat else 0)
  else if inc < 0 then (if d ≤ 0 then (-d / (-inc) + 1).toNat else 0)
  else 0

/-- The action of a hit, with its stamp (R127, R129). -/
def Lane.cmpAct (l : Lane) (k : Nat) (hit : Int) (skips t : Nat) : Lane :=
  let act := l.p 0x5144 k
  let l := if bit act 0 then l.qDropNew (12 + bits act 7 6) (leBytes 8 t ++ leBytes 4 (wrap 32 hit) ++ leBytes 2 k ++ leBytes 2 skips) else l
  let l := if bit act 1 then l.adcTrigger (bits act 5 4) else l
  if bit act 2 then l.setCmpU k { l.cmpU k with notices := (l.cmpU k).notices + 1, noticeAt := t } else l

/-- A compare unit sees a new value of its source, taken at an instant (R127, R128). -/
def Lane.cmpEval (l : Lane) (k : Nat) (new : Int) (t : Nat) : Lane :=
  let u := l.cmpU k
  if !u.running then l
  else if cmpHit (l.p 0x5145 k) u.last u.val new then
    let inc := l.psgn 0x5142 k
    let left := u.left - 1
    let sk0 := cmpSkips (u.val + inc) inc new
    let sk := if u.left == 0 then sk0 else min sk0 left
    let val := s32 (u.val + inc * (1 + sk))
    let left := if u.left == 0 then 0 else left - sk
    let l := l.setCmpU k { u with val := val, left := left, running := u.left == 0 || left != 0, last := some new, miss := u.miss + BitVec.ofNat 32 sk }
    let l := (l.pset 0x5141 k [wrap 32 val]).cmpAct k u.val sk t
    if sk == 0 then l else l.eventU 0x510B
  else l.setCmpU k { u with last := some new }

/-- Every unit on a source code sees its new value, taken at an instant. -/
def Lane.cmpSource (l : Lane) (code : Nat) (new : Int) (t : Nat) : Lane :=
  l.each 8 (fun k l => if l.p 0x5140 k == code then l.cmpEval k new t else l)

/-- A jump of a source that no unit takes as a hit (R113). -/
def Lane.cmpJump (l : Lane) (code : Nat) (new : Int) : Lane :=
  l.each 8 (fun k l => if l.p 0x5140 k == code then l.setCmpU k { l.cmpU k with last := some new } else l)

/-- A unit starts from its parameters when a source is written to it (log entry 30). -/
def Lane.cmpStart (l : Lane) (k : Nat) : Lane :=
  if l.p 0x5140 k == 0xFF then l.setCmpU k { l.cmpU k with running := false, last := none }
  else
    let c := l.p 0x5140 k
    let now := if c < 6 then some (s32 (l.hall c).net) else if c == 8 || c == 9 then some (l.enc (c - 8)).count
               else if 0x18 ≤ c ∧ c ≤ 0x1B then some (s32 ((l.sgen (c - 0x18)).pos l.now / 2 ^ 48)) else none
    l.setCmpU k { l.cmpU k with val := l.psgn 0x5141 k, left := l.p 0x5143 k, running := true, last := now }

/-! ### Hall groups (R106 to R111) -/

/-- Sector of a Hall code (Table PF-1); none for an illegal code. -/
def hallSector : Nat → Option Nat
  | 1 => some 0 | 3 => some 1 | 2 => some 2 | 6 => some 3 | 4 => some 4 | 5 => some 5
  | _ => none

/-- Sixty degrees in radians, binary32. -/
def piThird : F32 := 0x3F860A92

/-- Hall speed at an instant, electrical rad/s, positive forward (R110). -/
def HallCore.speed (h : HallCore) (t : Nat) : F32 :=
  match h.lastT, h.lastIval with
  | some t0, some i =>
    let gap := t - t0
    if h.stopped || ms 100 ≤ gap then f0
    else
      let one := h.ivals.length == 6 && h.ivals.all (fun x => x.2 == h.fwd)
      let v := if i < gap then fdiv piThird (fq gap 400000000)
               else if one then fdiv piThird (fq ((h.ivals.map Prod.fst).sum) (6 * 400000000))
               else fdiv piThird (fq (max 1 i) 400000000)
      if h.fwd then v else fneg v
  | _, _ => f0

def Lane.hallFault (l : Lane) (g : Nat) : Lane :=
  let h := l.hall g
  if h.lost then l else (l.setHall g { h with lost := true }).eventU 0x5103

/-- A time in ns has passed since an instant. -/
def Lane.stood (l : Lane) (since ns : Nat) : Bool := decide (since ≤ l.now) && decide (2 * ns ≤ 5 * (l.now - since))

/-- A code that has held for POS_HALL_FILT is accepted, with the stamp of its first sample (R106, R107, R109). After a skip the direction is that of the shorter way round, and over half a turn the one before: DESIGN CHOICE, since R109 names none (log entry 140). -/
def Lane.hallMove (l : Lane) (g : Nat) (e : HallEdge) : Lane :=
  let h := l.hall g
  let code := e.code
  let t := e.since
  if !l.stood t (l.p 0x5100 g) then l
  else match hallSector code with
  | none => l.setHall g { h with code := code, illegalAt := some (h.illegalAt.getD l.now), before := h.toHallCore, accAt := l.now }
  | some s =>
    if !h.legal then l.setHall g { h with code := code, sector := s, legal := true, illegalAt := none, lastT := some t, before := h.toHallCore, accAt := l.now }
    else if s == h.sector then l.setHall g { h with code := code, illegalAt := none, before := h.toHallCore, accAt := l.now }
    else
      let d := (s + 6 - h.sector) % 6
      let skip := d != 1 && d != 5
      let fwd := if d == 3 then h.fwd else decide (d < 3)
      let step : Int := if d < 3 || (d == 3 && h.fwd) then d else (d : Int) - 6
      let ivals := if skip then [] else match h.lastT with
        | some u => ((t - u, fwd) :: h.ivals).take 6
        | none => []
      let sk := (skip :: h.skips).take 64
      let l := l.setHall g { h with code := code, sector := s, fwd := fwd, lastT := some t, ivals := ivals, lastIval := h.lastT.map (fun u => t - u), stopped := false,
                                    illegalAt := none, skips := sk, net := h.net + step, before := h.toHallCore, accAt := l.now }
      let l := if skip then l.eventU 0x5102 else l
      let l := if l.p 0x5104 < (sk.filter (fun x => x)).length then l.hallFault g else l
      l.cmpSource g (s32 (h.net + step)) t

def execHallTransition (a : At) (group : Nat) (e : HallEdge) (s : State) : Out := run (group < 6 && e.code < 8) s a (fun l => l.hallMove group e)

/-- An illegal code has persisted for POS_HALL_ILL_T after filtering (R108). -/
def Lane.hallBad (l : Lane) (g : Nat) (e : HallEdge) : Lane :=
  if (hallSector e.code).isSome || !l.stood e.since (l.p 0x5100 g + 1000 * l.p 0x5103) then l
  else
    let h := l.hall g
    let ts := recent l.now (sec 1) h.illTimes
    let l := (l.setHall g { h with code := e.code, illegalAt := some (h.illegalAt.getD l.now), illTimes := ts }).eventU 0x5101
    if 3 ≤ ts.length then l.hallFault g else l

def execHallSpeedTimeout (a : At) (group : Nat) (s : State) : Out :=
  run (group < 6) s a (fun l =>
    let h := l.hall group
    match h.lastT with
    | some t => if l.due (t + ms 100) then l.setHall group { h with stopped := true } else l
    | none => l)

/-- A snapshot of a Hall group (R111): a transition accepted in this tick belongs to the next one. -/
def Lane.hallSnap (l : Lane) (g : Nat) : Lane :=
  let h := l.hall g
  let c := if h.accAt == l.now then h.before else h.toHallCore
  l.setHall g { h with snap := { sector := c.sector, fwd := c.fwd, speed := c.speed l.now, stamp := c.lastT.getD 0, at_ := l.now,
                                 valid := c.legal && (hallSector c.code).isSome, net := c.net } }

/-! ### Incremental inputs (R112, R113) -/

/-- Phase of the two levels in the forward order 00, 10, 11, 01 (A leads B, log entry 31). -/
def quadPhase (a b : Bool) : Nat := if a then (if b then 2 else 1) else (if b then 3 else 0)

/-- Levels of A and B that have held for POS_ENC_FILT count, with the stamp of their edge; both at once are a quadrature error (R112). -/
def Lane.encEdge (l : Lane) (k : Nat) (a b : PinLvl) : Lane :=
  let e := l.enc k
  let f := l.p 0x5111 k
  let x := if l.stood a.since f then a.lvl else e.a
  let y := if l.stood b.since f then b.lvl else e.b
  let d := (quadPhase x y + 4 - quadPhase e.a e.b) % 4
  if d == 0 then l
  else if d == 2 then
    let ts := recent l.now (ms 1) e.quadTimes
    (l.setEnc k { e with a := x, b := y, quadTimes := ts, quadNew := true, zSkip := e.zSkip || e.zAt == some l.now, lost := e.lost || decide (16 ≤ ts.length) }).eventU 0x5104
  else
    let c := s32 (e.count + (if d == 1 then 1 else -1))
    let t := if x != e.a then a.since else b.since
    (l.setEnc k { e with a := x, b := y, count := c, fwd := d == 1, lastT := t }).cmpSource (8 + k) c t

def execEncoderEdge (a : At) (enc : Nat) (x y : PinLvl) (s : State) : Out := run (enc < 2) s a (fun l => l.encEdge enc x y)

/-- A rising edge of Z: the check of the interval in modes 1 and 2, and the first edge after a slot enable in mode 2 zeroes the counter (R113). -/
def Lane.encZ (l : Lane) (k : Nat) : Lane :=
  let e := l.enc k
  let mode := l.p 0x5112 k
  let quad := e.quadTimes.head? == some l.now
  if mode == 0 then l
  else
    let judged := match e.zCap with | some (_, f) => f == e.fwd && !e.zSkip | none => false
    let turn := match e.zCap with | some (c, _) => (s32 (e.count - c)).natAbs | none => 0
    let bad := judged && decide (l.p 0x5113 k < (turn - 4 * l.p 0x5110 k) + (4 * l.p 0x5110 k - turn))
    let n := if bad then e.zMis + 1 else if judged then 0 else e.zMis
    let zero := mode == 2 && e.zFirst
    let c := if zero then 0 else e.count
    let l := l.setEnc k { e with count := c, zCap := some (c, e.fwd), zSeen := true, zFirst := e.zFirst && !zero, zAt := some l.now, zSkip := quad, zMis := n, lost := e.lost || decide (3 ≤ n) }
    let l := if bad then l.eventU 0x5105 else l
    if zero then l.cmpJump (8 + k) 0 else l

def execEncZEdge (a : At) (enc : Nat) (s : State) : Out := run (enc < 2) s a (fun l => l.encZ enc)

/-- A snapshot of an incremental input; a quadrature error since the last one makes it invalid (R112, Table PF-7). -/
def Lane.encSnap (l : Lane) (k : Nat) : Lane :=
  let e := l.enc k
  l.setEnc k { e with snap := { count := e.count, stamp := e.lastT, at_ := l.now, valid := !e.quadNew }, quadNew := false,
                      prevSnap := if e.snap.stamp == e.lastT then e.prevSnap else e.snap }

/-! ### Serial ports (R114 to R125) -/

/-- Nanoseconds in 2.5 ns counts. -/
def nsCounts (n : Nat) : Nat := n * 2 / 5

/-- Gray to binary over n bits. -/
def ungray : Nat → Nat → Nat
  | 0, _ => 0
  | n + 1, g => (List.range (n + 1)).foldl (fun x i => Nat.xor x (g / 2 ^ i)) 0 % 2 ^ (n + 1)

/-- The STAT word (Table PF-6). -/
def posStat (valid err warn stale : Bool) (mode mt : Nat) : W32 :=
  BitVec.ofNat 32 (b2n valid * 2 ^ 31 + b2n err * 2 ^ 30 + b2n warn * 2 ^ 29 + b2n stale * 2 ^ 28 + mode * 2 ^ 25 + mt % 65536)

def PosRes.valid (r : PosRes) : Bool := bit r.stat.toNat 31
def PosRes.err (r : PosRes) : Bool := bit r.stat.toNat 30
def PosRes.stale (r : PosRes) : Bool := bit r.stat.toNat 28

/-- The compared value of a serial port: MT × 65,536 + ST[31:16] (R127). -/
def PosRes.cmpVal (r : PosRes) : Int := sext 32 ((r.stat.toNat % 65536) * 65536 + r.pos.toNat / 65536)

/-- Bits received most significant first, as a number. -/
def msb (l : List Bool) : Nat := l.foldl (fun x b => 2 * x + b2n b) 0

/-- The level of a line at an instant, from its level at rest and its changes. -/
def lineAt (rest : Bool) (line : List (Nat × Bool)) (t : Nat) : Bool := line.foldl (fun x e => if e.1 ≤ t then e.2 else x) rest

/-- The CRC of BiSS-C: polynomial 0x43 over bits, start 0 (R116, log entry 143). -/
def crc6 (l : List Bool) : Nat := l.foldl (fun c b => crcStepF 6 0x03 1 (Nat.xor c (32 * b2n b))) 0

/-- Single-turn position, left-aligned, and multi-turn count of a data word (R115, R116, R123). An SSI Gray code spans the whole word, multi-turn first (log entry 32). -/
def Lane.ppWord (l : Lane) (k w : Nat) (gray : Bool) : Nat × Nat :=
  let st := l.p 0x5122 k
  let w := if gray && l.p 0x5124 k == 1 then ungray (st + l.p 0x5123 k) w else w
  (w % 2 ^ st * 2 ^ (32 - st), w / 2 ^ st)

/-- A reply as it was read: the checks of its protocol, the position it carries (none for a KPP command without one), the encoder's bits, ALIVE, the one-way delay in counts, and a reply that is sound but for a delay past POS_PP_CABLE and 50 ns (R120). -/
structure PosRead where
  ok    : Bool
  pos   : Option (Nat × Nat) := none
  err   : Bool := false
  warn  : Bool := false
  alive : Nat := 0
  d     : Nat := 0
  far   : Bool := false
deriving DecidableEq, Repr

/-- Data bits of a port. -/
def Lane.ppBits (l : Lane) (k : Nat) : Nat := l.p 0x5122 k + l.p 0x5123 k

/-- The instant, in whole counts, of a rising clock edge of an SSI request, the first one half a period behind the request (log entry 169), plus a time in ns (R115). The clock counts 0.1 MHz. -/
def Lane.ssiEdge (l : Lane) (k reqAt i ns : Nat) : Nat :=
  let c := max 1 (l.p 0x5121 k)
  reqAt + (5 * (2000 + 4000 * i) + 2 * ns * c) / (5 * c)

/-- The last clock edge of an SSI request, rounded up to a count: the rising edge of its trailing bit (R115). -/
def Lane.ssiLast (l : Lane) (k reqAt : Nat) : Nat :=
  let c := max 1 (l.p 0x5121 k)
  reqAt + (2000 + 4000 * l.ppBits k + c - 1) / c

/-- The clock of an SSI request has rested for the monoflop time since its last edge (R115). -/
def Lane.ssiRested (l : Lane) (k t : Nat) : Bool := (l.pp k).lastClk.all (fun e => decide (e + us (l.p 0x5127 k) ≤ t))

/-- SSI as the master: the line at 1 before the request, each bit sampled 2 × POS_PP_CABLE after its rising clock edge, and a trailing 0 (R115). -/
def Lane.ssiRead (l : Lane) (k : Nat) (f : PosFrame) (reqAt : Nat) : PosRead :=
  let n := l.ppBits k
  let at_ (i : Nat) : Bool := lineAt f.rest f.line (l.ssiEdge k reqAt i (2 * l.p 0x5125 k))
  { ok := lineAt f.rest f.line reqAt && !at_ n, pos := some (l.ppWord k (msb ((List.range n).map at_)) true), d := nsCounts (l.p 0x5125 k) }

/-- SSI in pass-through: the bits and the delay as measured at the lane, under the checks of R115 (R125). -/
def Lane.ssiHear (l : Lane) (k : Nat) (f : PosFrame) : PosRead :=
  let n := l.ppBits k
  { ok := f.bits.length == n + 1 && !(f.bits.getD n true) && lineAt f.rest f.line f.first && l.ssiRested k f.first, pos := some (l.ppWord k (msb (f.bits.take n)) true), d := f.delay / 2 }

/-- BiSS-C: data, nE, nW and the inverted CRC; the busy phase and the wait for the answer within their limits (R116, log entry 143). -/
def Lane.bissRead (l : Lane) (k : Nat) (f : PosFrame) : PosRead :=
  let n := l.ppBits k
  { ok := f.bits.length == n + 8 && msb (f.bits.drop (n + 2)) + crc6 (f.bits.take (n + 2)) == 63 && decide (f.busy ≤ us (l.p 0x512A k)) && decide (f.delay ≤ us (l.p 0x5127 k)),
    pos := some (l.ppWord k (msb (f.bits.take n)) false), err := !(f.bits.getD n true), warn := !(f.bits.getD (n + 1) true), d := f.delay / 2 }

/-- A KPP request (Table PF-2). -/
def kppRequest (cmd cnt : Nat) : List Byte := [0x5A, b8 (16 * cmd + cnt % 16)] ++ leBytes 2 (crc16 [b8 (16 * cmd + cnt % 16)]).toNat

/-- KPP: every byte framed, SYNC, CRC-16, the echo of the request's count, and a reply that starts in time; DATA by command (Tables PF-2 and PF-3, R118, R120). A reply with NAK carries no position. -/
def Lane.kppRead (l : Lane) (k : Nat) (f : PosFrame) (req : List Byte) (reqEnd : Nat) : PosRead :=
  let b := f.bytes.filterMap (fun x => x)
  let st := byteAt b 1
  let cmd := byteAt req 1 / 16
  let gap := f.start - reqEnd
  let sound := b.length == 11 && f.bytes.length == 11 && byteAt b 0 == 0xA5 && leAt b 9 2 == (crc16 ((b.drop 1).take 8)).toNat && st % 16 == byteAt req 1 % 16 &&
          decide (reqEnd ≤ f.start)
  { ok := sound && decide (5 * gap ≤ 2200 + 4 * l.p 0x5125 k),
    pos := if bit st 5 || cmd == 2 || cmd == 3 || 5 ≤ cmd then none else some (leAt b 2 4, if cmd == 1 then 0 else leAt b 6 2),
    err := bit st 7, warn := bit st 6, alive := byteAt b 8, d := (gap - 400) / 2, far := sound && decide (4 * (l.p 0x5125 k + 50) < 5 * (gap - 400)) }

/-- ALIVE of a KPP reply advances by 1 to 1 + m, by 0 on a stale one (R119). The first reply counts as an advance of 1, and a stale reply as valid for m: DESIGN CHOICE (log entry 141). -/
def PosPort.advance (p : PosPort) (alive : Nat) : Nat := match p.alive with | some v => (alive + 256 - v % 256) % 256 | none => 1

/-- Judges a reply: frame error, and the result it gives (R115 to R120, R123). -/
def Lane.ppJudge (l : Lane) (k : Nat) (r : PosRead) (sample : Nat) : Bool × PosRes :=
  let mode := l.p 0x5120 k
  let kpp := mode == 3 || mode == 6
  let p := l.pp k
  let adv := p.advance r.alive
  let bad := !r.ok || (kpp && decide (1 + p.errRun < adv))
  let q := r.pos.getD (p.shown.pos.toNat, 0)
  (bad, { pos := .ofNat 32 q.1, stat := posStat (!bad && r.pos.isSome) r.err r.warn (kpp && adv == 0) mode q.2, stamp := sample + r.d })

/-- The relay works in every powered state after BOOT (R126). In SAVE, entered on a falling supply, it still works, as the supply has not fallen away: DESIGN CHOICE (log entry 170). -/
def relays : LaneSt → Bool
  | .off | .waking | .boot => false
  | _ => true

/-- What a pair of a port does (R114, R124, R126). -/
inductive PairSt where
  | highZ | input | idleHigh | driven | relayed
deriving DecidableEq, Repr

/-- The pairs CLK, DAT, XC and XD of a port (R114, R124, R126). In KPP the lane drives DAT for the 2.5 µs of its request, and CLK stays at 1. That CLK idles at 1 in SSI, BiSS-C and KPP pass-through too, and that XC is high-impedance in KPP pass-through, is the model's: DESIGN CHOICE (log entry 169). -/
def Lane.ppPairs (l : Lane) (k : Nat) : List PairSt :=
  let p := l.pp k
  if !relays l.st then [.highZ, .highZ, .highZ, .highZ]
  else match l.p 0x5120 k with
    | 1 | 2 => [if p.busy then .driven else .idleHigh, .input, .highZ, .highZ]
    | 3 => [.idleHigh, if p.busy && decide (l.now < p.trigAt + 1000) then .driven else .input, .highZ, .highZ]
    | 4 | 5 => [.relayed, .input, .input, .relayed]
    | 6 => [.idleHigh, .relayed, .highZ, .relayed]
    | _ => [.highZ, .highZ, .highZ, .highZ]

/-- A port starts its request on its trigger, or drops the trigger on a busy port (R114, R117, R121, R122, R126). In KPP it always sends CMD 0, POS, as the spec says of no other command when a lane sends it: DESIGN CHOICE (log entry 171). In SSI not before the monoflop time has passed since the last clock edge (R115). -/
def Lane.ppTrigger (l : Lane) (k : Nat) : Lane :=
  let p := l.pp k
  let mode := l.p 0x5120 k
  if mode == 0 || 4 ≤ mode || !relays l.st || p.firedAt == some l.now then l
  else
  let p := { p with firedAt := some l.now }
  if p.busy then (l.setPp k { p with jobs := p.jobs ++ [{ trigAt := l.now, told := true }] }).eventU 0x5109
  else
    if mode == 1 && !l.ssiRested k l.now then (l.setPp k { p with jobs := p.jobs ++ [{ trigAt := l.now, told := true }] }).eventU 0x5106
    else
      let cnt := if mode == 3 then (p.reqCnt + 1) % 16 else p.reqCnt
      l.setPp k { p with busy := true, trigAt := l.now, reqCnt := cnt, jobs := p.jobs ++ [{ trigAt := l.now }],
                         request := if mode == 3 then kppRequest 0 cnt else p.request, lastClk := if mode == 1 then some (l.ssiLast k l.now) else p.lastClk }

/-- What a reply teaches beside the position: ALIVE, frame errors, the data of its command. -/
def Lane.ppLearn (l : Lane) (k : Nat) (f : PosFrame) (r : PosRead) (bad : Bool) : Lane :=
  let p := l.pp k
  let mode := l.p 0x5120 k
  let kpp := mode == 3 || mode == 6
  let cmd := byteAt p.request 1 / 16
  let data := ((f.bytes.filterMap (fun x => x)).drop 2).take 6
  let l := l.setPp k { p with errRun := if bad then p.errRun + 1 else 0, alive := if bad || !kpp then p.alive else some r.alive,
                              data := if bad || !kpp then p.data else p.data.filter (fun x => x.1 != cmd) ++ [(cmd, data)] }
  let l := if bad then l.eventU 0x5106 else l
  let l := if !bad && r.err then l.eventU 0x5108 else l
  if kpp && r.far then l.eventU 0x510D else l

/-- The reply of a request ends and is checked, 0.1 µs later (R118, Table PF-4). -/
def Lane.ppEnd (l : Lane) (k : Nat) (f : PosFrame) : Lane :=
  let p := l.pp k
  let mode := l.p 0x5120 k
  if !p.busy || mode == 0 || 4 ≤ mode then l
  else
    let r := if mode == 1 then l.ssiRead k f p.trigAt else if mode == 2 then l.bissRead k f else l.kppRead k f p.request (p.trigAt + 1000)
    let j := l.ppJudge k r (p.trigAt + (if mode == 3 then 1000 else 0))
    let l := (l.setPp k { p with busy := false, jobs := p.jobs.map (fun (x : PosJob) => if x.trigAt == p.trigAt && !x.told then { x with res := some j.2, doneAt := l.now + 40 } else x) }).ppLearn k f r j.1
    if j.1 then l else l.cmpSource (16 + k) j.2.cmpVal j.2.stamp

def execPpFrameEnd (a : At) (port : Nat) (f : PosFrame) (s : State) : Out := run (port < 6) s a (fun l => l.ppEnd port f)

/-- Counts a presented sample under Table PF-7. -/
def Lane.ppSample (l : Lane) (k : Nat) (r : PosRes) : Lane :=
  let p := l.pp k
  let bad := !r.valid || r.err || r.stale
  let n := if bad then p.bad + 1 else 0
  let st := if r.stale then p.stale + 1 else 0
  let lost := decide (l.p 0x5128 k ≤ n)
  let frz := decide (2 ≤ st) && l.p 0x5120 k == 3
  let l := l.setPp k { p with prevShown := if p.shown.valid && p.shown.stamp != r.stamp then p.shown else p.prevShown, shown := r, bad := n, stale := st, lost := (p.lost && bad) || lost, frozen := (p.frozen && bad) || frz }
  let l := if lost && !p.lost then l.eventU 0x5107 else l
  if frz && !p.frozen then l.event 0x510A (16 + k) else l

/-- A result with VALID = 0 (R121, R122). -/
def Lane.noSample (l : Lane) (k : Nat) : PosRes := { (l.pp k).shown with stat := posStat false false false false (l.p 0x5120 k) 0 }

/-- The presentation time of a port's oldest request: its result, checked by then, or none that is valid; a dropped trigger presents an invalid one (R121, R122). -/
def Lane.ppPresent (l : Lane) (k : Nat) : Lane :=
  let p := l.pp k
  let mode := l.p 0x5120 k
  if mode == 0 || 4 ≤ mode then l
  else match p.jobs with
    | [] => l
    | x :: rest =>
      let t := x.trigAt + us (l.p 0x5126 k)
      if !l.due t then l
      else
        let l := l.setPp k { p with jobs := rest }
        match (if x.doneAt ≤ t then x.res else none) with
        | some r => l.ppSample k r
        | none => (if x.told then l else l.eventU 0x5106).ppSample k (l.noSample k)

def execPpPresent (a : At) (port : Nat) (s : State) : Out := run (port < 6) s a (fun l => l.ppPresent port)

/-- The 4 bytes of a KPP request that the relay passes on to the encoder, and whether their SYNC stands (R124). -/
def PosFrame.asked (f : PosFrame) : List Byte := (f.req.filterMap (fun x => x)).take 4
def PosFrame.synced (f : PosFrame) : Bool := byteAt f.asked 0 == 0x5A

/-- What the relay passes back of a KPP reply: the bytes that come within 20 µs, at most 11 (R124). -/
def PosFrame.passed (f : PosFrame) : List (Option Byte) := f.bytes.take (min 11 ((f.first + us 20 - f.start) / 250))

/-- A frame relayed in pass-through, decoded under the checks of its protocol (R125); in KPP the request passes its CRC too. -/
def Lane.ptRead (l : Lane) (k : Nat) (f : PosFrame) : PosRead :=
  match l.p 0x5120 k with
  | 4 => l.ssiHear k f
  | 5 => l.bissRead k f
  | _ =>
    let r := l.kppRead k { f with bytes := f.passed } f.asked f.first
    { r with ok := f.asked.length == 4 && leAt f.asked 2 2 == (crc16 ((f.asked.drop 1).take 1)).toNat && r.ok }

/-- A frame relayed in pass-through is stamped from the relayed clock or request and kept for the next latch (R124, R125). In KPP nothing passes before a SYNC. -/
def Lane.ptFrame (l : Lane) (k : Nat) (f : PosFrame) : Lane :=
  let mode := l.p 0x5120 k
  if mode < 4 || !relays l.st || (mode == 6 && !f.synced) then l
  else
      let l := if mode == 6 then l.setPp k { l.pp k with request := f.asked, relayed := f.passed.filterMap (fun x => x) } else l
      let r := l.ptRead k f
      let j := l.ppJudge k r f.first
      let l := if mode == 4 then l.setPp k { l.pp k with lastClk := some (max f.first f.last) } else l
      let l := l.ppLearn k f r j.1
      if j.1 || r.pos.isNone then l
      else (l.setPp k { l.pp k with ptNew := true, ptRes := j.2, ptAt := l.now, lost := false }).cmpSource (16 + k) j.2.cmpVal j.2.stamp

def execPtFrameRelayed (a : At) (port : Nat) (f : PosFrame) (s : State) : Out := run (port < 6) s a (fun l => l.ptFrame port f)

/-- No valid frame within 3 times POS_PP_XPECT (R125). -/
def Lane.ptLost (l : Lane) (k : Nat) : Lane :=
  let p := l.pp k
  if l.p 0x5120 k < 4 || p.lost || !l.due (p.ptAt + us (3 * l.p 0x5129 k)) then l
  else (l.setPp k { p with lost := true }).eventU 0x510C

/-- The latch of a port in pass-through at its presentation time: STALE without a new frame (R125). -/
def Lane.ptLatch (l : Lane) (k : Nat) : Lane :=
  let p := l.pp k
  if l.p 0x5120 k < 4 then l
  else
    let r : PosRes := if p.ptNew then p.ptRes else { p.ptRes with stat := p.ptRes.stat ||| 0x10000000 }
    l.setPp k { p with ptNew := false, prevShown := if p.shown.valid && p.shown.stamp != r.stamp then p.shown else p.prevShown, shown := r }

/-! ### Triggers (R69, R111) -/

/-- Snapshots that an extra compare register takes (POS_SNAP_TRIG, Table PF-8). -/
def Lane.snapshots (l : Lane) (cmp : Nat) : Lane :=
  l.each 14 (fun i l =>
    if l.p 0x5150 i == cmp then (if i < 6 then l.hallSnap i else if i < 8 then l.encSnap (i - 6) else l.ptLatch (i - 8)) else l)

/-- An extra compare register fires (R69): snapshots, then its destination. Destination 11 opens the current sequence, which CURRENT_SEQUENCE runs. -/
def Lane.trigger (l : Lane) (cmp : Nat) : Lane :=
  if l.pwm.frozen then l
  else
    let l := l.snapshots cmp
    let d := (l.pwm.cmp.getD cmp {}).dest
    if 1 ≤ d ∧ d ≤ 4 then l.adcTrigger (d - 1)
    else if 5 ≤ d ∧ d ≤ 10 then l.ppTrigger (d - 5)
    else l

def execTriggerFire (a : At) (cmp : Nat) (s : State) : Out := run (cmp < 32) s a (fun l => l.trigger cmp)

/-! ### Validity of a source (R130, R131) -/

/-- A position source counts as lost or frozen. -/
def Lane.posLost (l : Lane) (code : Nat) : Bool :=
  if (l.frz code).frozen then true
  else if code < 6 then (l.hall code).lost
  else if code == 8 || code == 9 then (l.enc (code - 8)).lost
  else if 0x10 ≤ code && code ≤ 0x15 then (l.pp (code - 16)).lost || (l.pp (code - 16)).frozen
  else false

end Sys2Proof.Machine
end

