-- ==== Sys2Proof/Machine/Commutation.lean ====
section
/-! DEFINITION. Commutation: sine and custom tables, phase currents, angle sources, the blend, the observer with its PLL and tests, flying start (R134 to R155). -/

namespace Sys2Proof.Machine

/-! ### Tables (R135 to R137) -/

/-- π · 2^62, rounded down. -/
def pi62 : Nat := 14488038916154245684

/-- Sine of i/4096 of a revolution for i from 0 to 1,024 in units of 2^-62: a Taylor sum. -/
def sinFix (i : Nat) : Nat :=
  let x := pi62 * i / 2048
  let x2 := x * x / 2 ^ 62
  let step (p : Nat × Int) (n : Nat) : Nat × Int :=
    let t := p.1 * x2 / 2 ^ 62 / (2 * n * (2 * n + 1))
    (t, if n % 2 == 1 then p.2 - t else p.2 + t)
  ([1, 2, 3, 4, 5, 6, 7, 8, 9, 10, 11].foldl step (x, (x : Int))).2.toNat

/-- The same as round(32768 · sin). -/
def sinQuarter (i : Nat) : Nat := (sinFix i * 32768 + 2 ^ 61) / 2 ^ 62

/-- Entry i of the built-in table, Q1.15 (R135). The entry for sine -1 is -32,767, as the one for sine 1 is 32,767, though s16 has -32,768: DESIGN CHOICE (log entry 172). -/
def sinEntry (i : Nat) : Int :=
  let i := i % 4096
  let m : Int := min 32767 (sinQuarter (if i % 2048 ≤ 1024 then i % 2048 else 2048 - i % 2048))
  if i < 2048 then m else -m

/-- Entry i of a table: 0 built in, 1 to 4 custom (R136). -/
def Lane.tabEntry (l : Lane) (sel i : Nat) : Int :=
  if sel == 0 then sinEntry i else sext 16 ((l.mot.tab.getD (sel - 1) {}).entries.getD (i % 4096) 0).toNat

/-- Interpolated value of a table at a 16-bit angle, in units of 1/524,288 (R135). -/
def Lane.tabNum (l : Lane) (sel th : Nat) : Int :=
  let i := th / 16 % 4096
  let w : Int := (th % 16 : Nat)
  (16 - w) * l.tabEntry sel i + w * l.tabEntry sel (i + 1)

def Lane.tabSin (l : Lane) (sel th : Nat) : F32 := fq (l.tabNum sel th) 524288
def Lane.tabCos (l : Lane) (sel th : Nat) : F32 := l.tabSin sel (th + 0x4000)

/-- The conditions on a custom table other than its CRC (R137): the three phases sum to at most 0.01 at every entry. -/
def Lane.tabZeroSum (l : Lane) (sel : Nat) : Bool :=
  (List.range 4096).all (fun i =>
    let s := l.tabNum sel (16 * i) + l.tabNum sel (16 * i + 0x10000 - 0x5555) + l.tabNum sel (16 * i + 0x10000 - 0xAAAB)
    decide (100 * s.natAbs ≤ 524288))

def Lane.table (l : Lane) (k : Nat) : SineTab := l.mot.tab.getD k {}
def Lane.setTable (l : Lane) (k : Nat) (x : SineTab) : Lane := { l with mot.tab := l.mot.tab.set k x }

/-- An enabled slot selects table n (R137). -/
def Lane.tabInUse (l : Lane) (n : Nat) : Bool := (List.range 8).any (fun k => (l.motor k).enabled && l.p 0x6114 k == n)

/-- Checks the loaded table at its last block; an accepted one is kept in MRAM (R137). -/
def Lane.tabClose (l : Lane) (n : Nat) (es : List W16) (crc : Nat) : Lane × Reply :=
  let old := l.table (n - 1)
  let trial := l.setTable (n - 1) { valid := true, entries := es }
  if (crc32 (es.flatMap (fun e => leBytes 2 e.toNat))).toNat == crc && trial.tabZeroSum n then done (trial.tabStore (n - 1) es)
  else ((l.setTable (n - 1) { old with loading := [], nextBlk := 0 }).eventU 0x6108, .now stBadParam [])

def Lane.hMotTableLoad (m : Msg) (l : Lane) : Lane × Reply :=
  let n := m.u8 0
  let blk := m.u8 1
  guarded l [(decide (1 ≤ n) && decide (n ≤ 4) && l.tabInUse n, stRefusedState), (decide (n < 1) || decide (4 < n) || decide (15 < blk), stBadParam)] (fun l =>
    let t := l.table (n - 1)
    let words := (List.range 256).map (fun i => BitVec.ofNat 16 (leAt m.args (4 + 2 * i) 2))
    if blk != 0 && blk != t.nextBlk then (l.setTable (n - 1) { t with loading := [], nextBlk := 0 }, .now stBadParam [])
    else
      let es := if blk == 0 then words else t.loading ++ words
      if blk == 15 then l.tabClose n es (m.u32 516)
      else done (l.setTable (n - 1) { t with loading := es, nextBlk := blk + 1 }))

def execMotTableLoad (a : At) (m : Msg) (s : State) : Out := run true s a (fun l => l.serve 0x22 m (Lane.hMotTableLoad m))

/-! ### Constants and helpers -/

def twoPi : F32 := 0x40C90FDB
def piF : F32 := 0x40490FDB
def halfPi : F32 := 0x3FC90FDB
/-- 16-bit angle counts per radian. -/
def cntPerRad : F32 := 0x4622F983
def sqrt3 : F32 := 0x3FDDB3D7

/-- Signed 16-bit difference (R142). -/
def wrap16 (v : Int) : Int := sext 16 (wrap 16 v)

/-- A 16-bit angle moved by ω over a number of seconds. -/
def turn (th : Nat) (w t : F32) : Nat := wrap 16 ((th : Int) + fto (fmul (fmul w t) cntPerRad) 1 1)

/-- Brings an angle in radians into one revolution about zero. -/
def wrapRad (x : F32) : F32 :=
  let r := b32.toRat x.toNat
  let t := b32.toRat twoPi.toNat
  fsub x (fmul (fi (ratRound (r.1 * t.2) (r.2 * t.1.toNat))) twoPi)

/-- Counts of 2.5 ns in seconds. -/
def secF (n : Int) : F32 := fq n 400000000

/-- Speed limits ω_lo and ω_hi of a slot (R142). -/
def Lane.wLo (l : Lane) (k : Nat) : F32 := fmul (l.pf 0x6120 k) (l.pf 0x6101 k)
def Lane.wHi (l : Lane) (k : Nat) : F32 := fmul (l.pf 0x6121 k) (l.pf 0x6101 k)

/-- Sample period of a slot's timebase in seconds. -/
def Lane.tsF (l : Lane) (k : Nat) : F32 := l.periodF (l.slotTb k)

/-! ### Phase currents (R138, R139, Table CM-2) -/

def wValid (w : W32) : Bool := bit w.toNat 31
def wSettle (w : W32) : Bool := bit w.toNat 30
def wClip (w : W32) : Bool := bit w.toNat 29
def wClean (w : W32) : Bool := wValid w && !wSettle w && !wClip w

/-- Current of an amplifier from its result word: 3.0 V full scale about 1.5 V, over its gain and its shunt, with the learned trim (R90, Table SN-1). -/
def Lane.ampCurrent (l : Lane) (amp : Nat) (w : W32) : F32 :=
  let t := l.sns.trim.getD amp {}
  let v := fdiv (fq (3 * (((w.toNat % 4096 : Nat) : Int) - 2048)) 4096) (fi (l.p 0x4100 amp))
  fdiv (fmul (fsub v t.offset) t.gain) (Config.shunt amp)

/-- The amplifiers that a slot maps, in phase order (MOT_CS_MAP). -/
def Lane.amps (l : Lane) (k : Nat) : List Nat := (l.pvals 0x6115 k).filter (fun a => decide (a < 12))

def neg2 (a b : F32) : F32 := fneg (fadd a b)

/-- The phase currents of a sample (Table CM-2); none marks it missed. -/
def Lane.phases (l : Lane) (k : Nat) : Option (F32 × F32 × F32) :=
  let as := l.amps k
  let ws := as.map (fun a => l.adcLatch a)
  let is := as.map (fun a => l.ampCurrent a (l.adcLatch a))
  if (l.motor k).cfg.kind != .threePhase then none
  else match ws, is with
    | [u, v, w], [iu, iv, iw] =>
      if wClean u && wClean v && wClean w then
        let m := fdiv (fadd (fadd iu iv) iw) (fi 3)
        some (fsub iu m, fsub iv m, fsub iw m)
      else if wClean u && wClean v then some (iu, iv, neg2 iu iv)
      else if wClean v && wClean w then some (neg2 iv iw, iv, iw)
      else if wClean u && wClean w then some (iu, neg2 iu iw, iw)
      else if ws.all (fun x => wValid x && !wClip x) then some (iu, iv, iw)
      else none
    | [u, v], [iu, iv] => if wValid u && wValid v && !wClip u && !wClip v then some (iu, iv, neg2 iu iv) else none
    | _, _ => none

/-- The current-sum test of three clean amplifiers (R139). -/
def Lane.sumTest (l : Lane) (k : Nat) : Lane :=
  let as := l.amps k
  let m := l.motor k
  if as.length != 3 || as.any (fun a => !wClean (l.adcLatch a)) then l
  else
    let s := as.foldl (fun x a => fadd x (l.ampCurrent a (l.adcLatch a))) f0
    let n := if fgt (fabs s) (fmul (l.pf 0x6116 k) (l.pf 0x6102 k)) then m.csSum + 1 else 0
    let l := l.setMotor k { m with csSum := n, csLost := m.csLost || decide (16 ≤ n) }
    if n == 16 && !m.csLost then l.eventU 0x6105 else l

/-- Source of the slot's bus voltage: the drain-sense input of its first half-bridge. -/
def Lane.busSrc (l : Lane) (k : Nat) : Nat := 40 + l.p 0x2123 ((l.motor k).cfg.hbs.headD 0)

/-- Bus voltage from a drain-sense result: divider 1/40 of 3.0 V full scale (Table SN-2). -/
def Lane.busVolt (l : Lane) (k : Nat) : F32 := fq (120 * (((l.adcLatch (l.busSrc k)).toNat % 4096 : Nat) : Int)) 4096

/-! ### Angle sources (R140, R141, Table CM-3) -/

/-- One source's angle at the instant it describes, and the stamp of the oldest angle it rests on (R141). -/
structure Ang where
  ok : Bool := false
  th : Nat := 0
  tm : Nat := 0
  age : Nat := 0
  w  : F32 := 0
deriving DecidableEq, Repr

/-- Hall angle (Table CM-3): from the boundary last crossed by ω_H, held inside the sector; the sector's centre at rest (log entry 33). -/
def Lane.hallAng (l : Lane) (g : Nat) : Ang :=
  let s := (l.hall g).snap
  let base := l.p 0x5101 g
  let lo : Nat := s.sector * 65536 / 6
  let hi : Nat := (s.sector + 1) * 65536 / 6
  let th : Int :=
    if b32.toRat s.speed.toNat == (0, 1) || !ffinite s.speed || (b32.toRat s.speed.toNat).1 == 0 then ((lo + hi) / 2 : Nat)
    else
      let d := fto (fmul (fmul s.speed (secF ((s.at_ : Int) - s.stamp))) cntPerRad) 1 1
      if s.fwd then min ((hi : Int) - 1) ((lo : Int) + d) else max (lo : Int) (min ((hi : Int) - 1) ((hi : Int) + d))
  { ok := s.valid && !(l.hall g).lost, th := wrap 16 ((base : Int) + th), tm := s.at_, age := s.at_, w := s.speed }

/-- Incremental angle; its speed is the difference of stamped counts (Table CM-3, log entry 34). -/
def Lane.encAng (l : Lane) (k e : Nat) : Ang :=
  let x := l.enc e
  let p := l.p 0x6100 k
  let n := 4 * l.p 0x5110 e
  let th := ((p : Int) * x.snap.count * 65536) / (max 1 n : Nat)
  let dt := x.snap.stamp - x.prevSnap.stamp
  let w := if dt == 0 then f0 else fdiv (fmul (fq ((p : Int) * (x.snap.count - x.prevSnap.count)) (max 1 n)) twoPi) (secF dt)
  { ok := x.snap.valid && x.zSeen && !x.lost, th := wrap 16 th, tm := x.snap.at_, age := x.snap.at_, w := w }

/-- Serial angle p × ST[31:16]; its speed is the difference of stamped angles. A STALE sample is missed (Table PF-7). -/
def Lane.serAng (l : Lane) (k q : Nat) : Ang :=
  let x := l.pp q
  let p := l.p 0x6100 k
  let d : Int := sext 32 (wrap 32 ((x.shown.pos.toNat : Int) - x.prevShown.pos.toNat))
  let dt := x.shown.stamp - x.prevShown.stamp
  let w := if dt == 0 then f0 else fdiv (fmul (fq ((p : Int) * d) (2 ^ 32)) twoPi) (secF dt)
  { ok := x.shown.valid && !x.shown.err && !x.shown.stale && !x.lost && !x.frozen, th := wrap 16 ((p : Int) * (x.shown.pos.toNat / 65536 : Nat)), tm := x.shown.stamp, age := x.shown.stamp, w := w }

/-- θ̂ as a 16-bit angle. -/
def MotSlot.thHat16 (m : MotSlot) : Nat := wrap 16 (fto (fmul m.thHat cntPerRad) 1 1)

/-- Observer angle at the present sample. -/
def Lane.obsAng (l : Lane) (k ts : Nat) : Ang :=
  let m := l.motor k
  { ok := m.locked, th := m.thHat16, tm := ts, age := ts, w := m.wHat }

/-- The blend of Hall group and observer (R142). With the Hall group lost or frozen, no Hall angle stands to weigh against: the slot runs on the observer until Table CM-6 ends it, also through the samples in which a test fails and the lock with it (the worked example of R151, log entry 146). -/
def Lane.blendAng (l : Lane) (k g ts : Nat) : Ang × F32 :=
  let m := l.motor k
  let h := l.hallAng g
  let o := l.obsAng k ts
  if l.posLost g then ({ o with ok := true }, f1)
  else
    let lo := l.wLo k
    let f := fclamp f0 f1 (fdiv (fsub (fabs h.w) lo) (fsub (l.wHi k) lo))
    let cap := fdiv (secF ((ts : Int) - m.lockAt)) (fq (l.p 0x6151 k) 10000)
    let w := if m.locked && !m.imp then fmin f (fclamp f0 f1 cap) else f0
    let hs := turn h.th h.w (secF ((ts : Int) - h.tm))
    ({ ok := h.ok, th := wrap 16 ((hs : Int) + fto (fmul w (fi (wrap16 ((o.th : Int) - hs)))) 1 1), tm := ts, age := h.age, w := fadd h.w (fmul w (fsub o.w h.w)) }, w)

/-- The last streamed angle (R153). -/
def Lane.strAng (l : Lane) (k : Nat) : Ang :=
  let m := l.motor k
  match m.strAng with
  | some (th, t) => { ok := true, th := th.toNat, tm := t, age := t, w := m.strW }
  | none => {}

/-- Angle of a source and device, with the offset of the slot (R140). -/
def Lane.srcAng (l : Lane) (k src dev ts : Nat) : Ang :=
  let x := match src with
    | 0 => l.hallAng dev
    | 1 => l.encAng k (dev - 8)
    | 2 => l.serAng k (dev - 16)
    | 3 => { l.obsAng k ts with ok := true }
    | 4 => (l.blendAng k dev ts).1
    | _ => l.strAng k
  { x with th := wrap 16 ((x.th : Int) + l.p 0x6112 k) }

/-- A source extrapolated to an instant (R141). -/
def Ang.atT (x : Ang) (ts : Nat) : Nat := turn x.th x.w (secF ((ts : Int) - x.tm))

/-- The angle source of a slot counts as lost or frozen (R131, R178): its code. A lost Hall group of source 4 leaves the slot to the observer (Table CM-6). -/
def Lane.angLost (l : Lane) (k : Nat) : Option Nat :=
  let m := l.motor k
  if (m.angleSrc == 0 || m.angleSrc == 1 || m.angleSrc == 2) && l.posLost m.angleDev then some m.angleDev
  else none

/-- Offset of a source blend still in force (R152). -/
def Lane.blendLeft (l : Lane) (k : Nat) (b : SrcBlend) (ts : Nat) : F32 :=
  fclamp f0 f1 (fsub f1 (fdiv (secF ((ts : Int) - b.start)) (fq (l.p 0x6151 k) 10000)))

/-- What a sample finds of its streamed angle (R153): a good entry, none, or one that test A refuses. -/
inductive StrGot where
  | good | missing | refused
deriving DecidableEq, Repr

/-- Takes the streamed angle of a sample (R153). Test A judges the step from the last good entry over the time between their stamps. Once the lost-feedback rule has ended the hold, the last good entry counts no more, and the next one is taken as a first: DESIGN CHOICE (log entry 173). The first entry of a source that takes over goes on at the speed in use (R152). -/
def Lane.strRead (l : Lane) (k : Nat) : Lane × StrGot :=
  let l := l.when (match l.curSlotOf k with | some j => (l.loop j).st == .fallback | none => false) (fun l => l.setMotor k { l.motor k with strAng := none, strW := f0 })
  let r := l.streamRead (8 + k)
  match r.2 with
  | none => (r.1, .missing)
  | some v =>
    let l := r.1
    let m := l.motor k
    let th := v.v0.toNat % 65536
    let bad := match m.strAng with
      | some (p, t) => fge (fabs m.strW) (l.wLo k) && decide (l.p 0x6131 k < (wrap16 ((th : Int) - turn p.toNat m.strW (secF ((v.stamp.toNat : Int) - t)))).natAbs)
      | none => false
    if bad then (l, .refused)
    else
      let w := match m.strAng with
        | some (p, t) => if t < v.stamp.toNat then fdiv (fdiv (fi (wrap16 ((th : Int) - p.toNat))) cntPerRad) (secF ((v.stamp.toNat : Int) - t)) else m.strW
        | none => if m.blend.isSome then m.omega else f0
      (l.setMotor k { m with strAng := some (.ofNat 16 th, v.stamp.toNat), strW := w }, .good)

/-! ### Transforms -/

/-- Amplitude-invariant Clarke transform. -/
def clarke (x : F32 × F32 × F32) : F32 × F32 :=
  (fdiv (fsub (fadd x.1 x.1) (fadd x.2.1 x.2.2)) (fi 3), fdiv (fsub x.2.1 x.2.2) sqrt3)

/-- Rotation into the rotor frame at an angle of the built-in table (R136). -/
def Lane.park (l : Lane) (th : Nat) (v : F32 × F32) : F32 × F32 :=
  let s := l.tabSin 0 th
  let c := l.tabCos 0 th
  (fadd (fmul v.1 c) (fmul v.2 s), fsub (fmul v.2 c) (fmul v.1 s))

/-- Phase voltages of a voltage in the rotor frame, with the slot's table (R136). -/
def Lane.unpark (l : Lane) (k th : Nat) (d q : F32) : F32 × F32 × F32 :=
  let sel := l.p 0x6114 k
  let v (off : Nat) : F32 :=
    let t := wrap 16 ((th : Int) - off)
    fsub (fmul d (l.tabCos sel t)) (fmul q (l.tabSin sel t))
  (v 0, v 0x5555, v 0xAAAB)

/-! ### Observer, PLL and tests (R143 to R146) -/

/-- Sum of both dead times of a phase's channel over twice the period (R72, R143, R160). -/
def Lane.dtRatio (l : Lane) (k phase : Nat) : F32 :=
  let ch := (l.motor k).cfg.hbs.getD phase 0
  let d := l.deadTimes ch
  fq (d.1 + d.2 : Nat) (2 * max 1 (l.periodFine (l.slotTb k)))

def fsign (x : F32) : F32 := if flt x f0 then fneg f1 else if flt f0 x then f1 else f0

/-- The voltage applied since the previous sample (R143): zero in active short, else the commanded one less the dead-time voltage of each phase. -/
def Lane.applied (l : Lane) (k : Nat) (i : F32 × F32 × F32) : F32 × F32 :=
  let m := l.motor k
  if m.laneSafe then (f0, f0)
  else
    let g (phase : Nat) : F32 := fmul m.vbus (l.dtRatio k phase)
    let c := clarke (fmul (g 0) (fsign i.1), fmul (g 1) (fsign i.2.1), fmul (g 2) (fsign i.2.2))
    (fsub m.vA c.1, fsub m.vB c.2)

/-- A test of Table CM-4: does it apply, and does it fail. -/
structure Plaus where
  sOn  : Bool
  sBad : Bool
  aBad : Bool
  eOn  : Bool
  eBad : Bool
deriving DecidableEq, Repr

/-- The Hall group of a slot, where it has one. -/
def Lane.slotHall (l : Lane) (k : Nat) : Option Nat :=
  let m := l.motor k
  if (m.angleSrc == 0 || m.angleSrc == 4) && m.angleDev < 6 then some m.angleDev else none

/-- The tests of Table CM-4 on the observer's values of this sample. -/
def Lane.plaus (l : Lane) (k : Nat) (thE : F32) : Plaus :=
  let m := l.motor k
  let lo := l.wLo k
  let fast := fge (fabs m.wHat) lo
  let s := match l.slotHall k with
    | some g =>
      let h := l.hallAng g
      let on := h.ok && fge (fabs h.w) lo
      (on, on && fgt (fabs (fsub m.wHat h.w)) (fmul (l.pf 0x6130 k) (fabs h.w)))
    | none => (false, false)
  let step := wrapRad (fsub (fsub thE m.thE) (fmul m.wHat (l.tsF k)))
  let e := fsqrt (fadd (fmul m.oEa m.oEa) (fmul m.oEb m.oEb))
  let pw := fmul (l.pf 0x6106 k) (fabs m.wHat)
  { sOn := s.1, sBad := s.2, aBad := fast && fgt (fmul (fabs step) cntPerRad) (fi (l.p 0x6131 k)),
    eOn := fast, eBad := fast && fgt (fabs (fsub e pw)) (fmul (l.pf 0x6132 k) pw) }

/-- The tests and the lock after a sample (R145, R146): a missed sample leaves them as they are. -/
def Lane.judged (l : Lane) (k ts : Nat) (thE : F32) (missed : Bool) : MotSlot :=
  let m := l.motor k
  if missed then m
  else
    let q := l.plaus k thE
    let n := l.p 0x6133 k
    let cs := if q.sBad then m.cntS + 1 else 0
    let ce := if q.eBad then m.cntE + 1 else 0
    let good := fge (fabs m.wHat) (l.wLo k) && !q.sBad && !q.aBad && !q.eBad
    let lc := if good then m.lockCnt + 1 else 0
    let locked := good && (m.locked || decide (l.p 0x6125 k ≤ lc))
    { m with cntS := cs, cntE := ce, imp := q.aBad || decide (n ≤ cs) || decide (n ≤ ce), lockCnt := lc, locked := locked,
             lockAt := if locked && !m.locked then ts else m.lockAt }

/-- One observer sample: the tests and the lock, then the updates of R143 and R144. A slot at high impedance knows no voltage: its observer holds, and the PLL runs on at the speed that the probes gave (log entry 35). -/
def Lane.observe (l : Lane) (k ts : Nat) (i : F32 × F32 × F32) (missed : Bool) : Lane :=
  let m := l.motor k
  let t := l.tsF k
  if m.laneSafe && !m.short then
    (if m.acq then l.setMotor k { m with thHat := wrapRad (fadd m.thHat (fmul t m.wHat)), thE := wrapRad (fadd m.thE (fmul t m.wHat)) } else l)
  else
    let ab := clarke i
    let v := l.applied k i
    let wo := fmul twoPi (l.pf 0x6122 k)
    let lq := l.pf 0x6105 k
    let thE := wrapRad (fadd (atan2F (fneg m.oEa) m.oEb) (if flt m.wHat f0 then piF else f0))
    let up (ih eh vx ix : F32) : F32 × F32 :=
      let eps := fsub ix ih
      (fadd ih (fmul t (fadd (fdiv (fsub (fsub vx (fmul (l.pf 0x6103 k) ix)) eh) lq) (fmul (fmul (fi 2) wo) eps))),
       fsub eh (fmul (fmul (fmul lq (fmul wo wo)) t) eps))
    let a := up m.oIa m.oEa v.1 ab.1
    let b := up m.oIb m.oEb v.2 ab.2
    let wn := fmul twoPi (l.pf 0x6123 k)
    let err := sinF (fsub thE m.thHat)
    let kp := fmul (fmul (fi 2) (l.pf 0x6124 k)) wn
    l.setMotor k { l.judged k ts thE missed with
                          oIa := a.1, oEa := a.2, oIb := b.1, oEb := b.2,
                          wHat := fadd m.wHat (fmul (fmul (fmul wn wn) t) err),
                          thHat := wrapRad (fadd m.thHat (fmul t (fadd m.wHat (fmul kp err)))), thE := thE,
                          acq := m.acq || m.fly == .acquire }

/-! ### Hand-over of a loop slot (R175) -/

/-- A hand-over to a mode begins, under the newest blend parameters (Table LE-7); its sums follow at the first good sample. -/
def Lane.handOver (l : Lane) (j : Nat) (mode : LoopMode) (oldUp : Nat) : Lane :=
  let l := (l.injAbort j).releaseOf [0x7130, 0x7131, 0x7132, 0x7133] j
  let x := l.loop j
  l.setLoop j { x with st := .blend, mode := mode, blend := some { rD := f0, rQ := f0, k := 0, n := 0, e0D := f0, e0Q := f0, old := if x.st == .closed || x.st == .blend then x.mode else if x.mode == .stream then .stream else .hold, oldUp := oldUp, satN := 0 } }

/-! ### SYNC_LOST and flying start (R151) -/

/-- SYNC_LOST: references and integrators cleared, lane-safe state, flying start from step 1; the slot's current loop enters FALLBACK with its output already at the lane-safe state (R151, R178). -/
def Lane.syncLost (l : Lane) (k : Nat) : Lane :=
  let m := l.motor k
  if m.syncLost then l
  else
    let l := (l.setMotor k { m with syncLost := true, fly := .acquire, flyAt := l.now + ms (l.p 0x6142 k), probe := none, acq := false, blend := none }).eventU 0x6102
    (l.takeSafe k).loopSafe k

/-- SYNC_LOST during a source blend is a revert where the old source is valid (R152, Table CM-7a). -/
def Lane.loseSync (l : Lane) (k : Nat) (oldOk : SrcBlend → Bool) : Lane :=
  let m := l.motor k
  match m.blend with
  | some b => if b.active && (b.revert || oldOk b) then l.setMotor k { m with blend := some { b with revert := true } } else l.syncLost k
  | none => l.syncLost k

/-- A failed flying-start attempt; MOT_FS_TRIES within 10 s end them (R151). -/
def Lane.flyFail (l : Lane) (k : Nat) : Lane :=
  let l := l.flyBack k
  let m := l.motor k
  let fs := recent l.now (sec 10) m.flyFails
  if l.p 0x6145 k ≤ fs.length then (l.setMotor k { m with flyFails := fs, fly := .failed }).eventU 0x6104
  else l.setMotor k { m with flyFails := fs }

/-- Angle and speed from two probe vectors (R151 step 1): i = ψ|ω|·t_p/L_d, 90° behind the rotor for ω > 0 and ahead for ω < 0; the advance between the probes gives the sign. -/
def Lane.probeDone (l : Lane) (k : Nat) (p1 p2 : F32 × F32) : Lane :=
  let m := l.motor k
  let mag := fsqrt (fadd (fmul p2.1 p2.1) (fmul p2.2 p2.2))
  let w := fdiv (fmul mag (l.pf 0x6104 k)) (fmul (l.pf 0x6106 k) (fq (l.p 0x6143 k) 1000000))
  let a1 := atan2F p1.2 p1.1
  let a2 := atan2F p2.2 p2.1
  let back := flt (wrapRad (fsub a2 a1)) f0
  let th := wrapRad (if back then fsub a2 halfPi else fadd a2 halfPi)
  let ws := if back then fneg w else w
  let e := fmul (l.pf 0x6106 k) ws
  l.setMotor k { m with probe := none, acq := true, thHat := th, wHat := ws, thE := th, lastW := some ws, oEa := fneg (fmul e (sinF th)), oEb := fmul e (cosF th), oIa := f0, oIb := f0 }

/-- A valley sample of a slot that fires probes: each probe ends at the sample behind its load point, the second four periods after the first (R151). -/
def Lane.probeSample (l : Lane) (k : Nat) (i : F32 × F32 × F32) : Lane :=
  let m := l.motor k
  match m.probe with
  | some p =>
    if p.loads == 1 then l.setMotor k { m with probe := some { p with first := some (clarke i) } }
    else if p.loads == 5 then (match p.first with | some v => l.probeDone k v (clarke i) | none => l.setMotor k { m with probe := none })
    else l
  | none => l

/-- Flying start waits: OV2, VGD out of its thresholds, or a trip on the slot's channels (Table CM-7a). -/
def Lane.flyWaits (l : Lane) (k : Nat) : Bool :=
  (l.motor k).ov2 || l.vgdBad || (l.motor k).cfg.hbs.any (fun h => (l.pch h).tripped || !(l.covering h).isEmpty)

/-- The slot closes its current loop on θ̂ with zero references (R151 step 2); its first high-side pulse waits for every bootstrap of the slot. -/
def Lane.zeroRun (l : Lane) (k : Nat) : Lane :=
  let m := l.motor k
  let wait := m.cfg.hbs.any (fun h => (l.hb h).bstUv)
  let l := l.eachOf m.cfg.hbs (fun h l => l.setHb h { l.hb h with waitBst := wait })
  let l := l.setMotor k { m with fly := .zeroRun, laneSafe := false, short := false, lockCnt := 0, locked := false, cntS := 0, cntE := 0, imp := false, probe := none, vA := f0, vB := f0 }
  l.eachOf (l.loopsOf k) (fun j l => if l.p 0x7100 j == 1 then l.setLoop j { l.loop j with st := .closed, mode := .law, told := false, xD := f0, xQ := f0, missed := 0 } else l)

/-- A probe time of flying start (R151): step 2 when the rotor's speed is known and allows it, else probes from high impedance. Without a Hall group, a rotor slower than ω_lo is a failed attempt. A probe time that must wait passes without effect. -/
def Lane.flyProbe (l : Lane) (k : Nat) : Lane :=
  let m := l.motor k
  if m.fly != .acquire || !l.due m.flyAt then l
  else if l.flyWaits k then l.setMotor k { m with flyAt := m.flyAt + ms (l.p 0x6142 k) }
  else
    let m := { m with flyAt := m.flyAt + ms (l.p 0x6142 k) }
    let l := l.setMotor k m
    let w := fabs m.wHat
    let slow := flt w (l.wLo k)
    if m.acq && !slow && flt w (fmul (l.pf 0x6141 k) (l.pf 0x6101 k)) then l.zeroRun k
    else
      let hall := match l.slotHall k with | some g => !l.posLost g | none => false
      let l := if m.acq && slow && !hall then l.flyFail k else l
      if (l.motor k).short || (l.motor k).fly == .failed then l else l.setMotor k { l.motor k with probe := some {} }

def execFlyingStartProbe (a : At) (slot : Nat) (s : State) : Out := run (slot < 8) s a (fun l => l.flyProbe slot)

/-- Step 3 (R151): torque returns with a ramp under the newest MOT_FS_RAMP, and the integrators start under the hand-over rule. -/
def Lane.recatch (l : Lane) (k : Nat) : Lane :=
  let l := l.releaseOf [0x6144] k
  let l := (l.setMotor k { l.motor k with fly := .ramp, rampAt := l.now, syncLost := false }).eventU 0x6103
  l.eachOf (l.loopsOf k) (fun j l => if l.p 0x7100 j == 1 && (l.loop j).st == .closed then l.handOver j .law (l.p 0x7105 j) else l)

/-- What a sample makes of flying start: lock in the zero-current run gives torque back, a failed test ends the attempt; the end of the ramp ends it all (R151). -/
def Lane.flySample (l : Lane) (k : Nat) : Lane :=
  let m := l.motor k
  match m.fly with
  | .zeroRun =>
    if m.locked then l.recatch k
    else if m.imp || m.cntS != 0 || m.cntE != 0 then l.flyFail k
    else l
  | .ramp => if m.rampAt + ms (l.p 0x6144 k) ≤ l.now then l.setMotor k { m with fly := .none } else l
  | _ => l

/-- Share of the current limit after a re-catch: from 0 to full over MOT_FS_RAMP (R151). -/
def Lane.rampFactor (l : Lane) (k : Nat) : F32 :=
  let m := l.motor k
  if m.fly == .ramp then fclamp f0 f1 (fdiv (secF ((l.now : Int) - m.rampAt)) (fq (l.p 0x6144 k) 1000)) else f1

/-- The slot runs on a Hall group that is lost or frozen, or on none. -/
def Lane.hallGone (l : Lane) (k : Nat) : Bool := match l.slotHall k with | some g => l.posLost g | none => true

/-- The reaction to an observer that has become implausible (Table CM-6), with OBS_IMPLAUSIBLE in every case, on sources without a row of that table too (R151); within a source blend to it, the slot goes back (R152). Without its Hall group and with no observer ever locked, or one below ω_lo, the slot has no trustworthy angle. -/
def Lane.impReact (l : Lane) (k : Nat) (was : Bool) : Lane :=
  let m := l.motor k
  let l := if m.imp && !was then l.eventU 0x6101 else l
  if !(m.angleSrc == 3 || m.angleSrc == 4) then l
  else
    let old (b : SrcBlend) : Bool := (l.srcAng k b.oldSrc b.oldDev l.now).ok
    if m.syncLost then l
    else if m.imp && (match m.blend with | some b => b.active && !b.revert && old b | none => false) then l.loseSync k old
    else if m.imp && l.hallGone k then l.loseSync k old
    else if m.angleSrc == 4 && l.hallGone k && (flt (fabs m.wHat) (l.wLo k) || m.lockAt == 0) then l.loseSync k old
    else l

/-! ### Freeze windows (R130) -/

/-- Position sources that a motor slot reads: its angle source, the feedback of the loop slots above it, and a stepper's encoder (Table PF-10). -/
def Lane.srcCodes (l : Lane) (k : Nat) : List Nat :=
  let m := l.motor k
  let a := if m.cfg.kind == .threePhase && (m.angleSrc < 3 || m.angleSrc == 4) then [m.angleDev] else []
  let b := ((List.range 32).filter (fun j => decide (2 ≤ l.p 0x7100 j) && decide (l.p 0x7106 j < 22) && l.motorOf j == some k)).map (fun j => l.p 0x7106 j)
  let c := if m.cfg.kind == .stepper && l.p 0x8120 k != 0xFF then [l.p 0x8120 k] else []
  (a ++ b ++ c).eraseDups

/-- The sources whose freeze a slot judges: one that several slots read is judged by the first. -/
def Lane.frzCodes (l : Lane) (k : Nat) : List Nat := (l.srcCodes k).filter (fun c => (List.range k).all (fun i => !(l.srcCodes i).contains c))

/-- Electrical angle of a position source of a slot, by its code. -/
def Lane.codeAng (l : Lane) (k c : Nat) : Nat := (if c < 6 then l.hallAng c else if c < 10 then l.encAng k (c - 8) else l.serAng k (c - 16)).th

/-- A window runs on while speed and current stand at or above their floors; one whose position has moved by MIN starts anew (R130, log entry 144). -/
def Lane.frzWatch (l : Lane) (k c : Nat) (w i : F32) : Lane :=
  let f := l.frz c
  let on (smin imin : F32) : Bool := fge w (fmul smin (l.pf 0x6101 k)) && fge i (fmul imin (l.pf 0x6102 k))
  let fresh : Freeze :=
    if on (l.pf 0x5131) (l.pf 0x5132) then { f with since := some l.now, start := l.codeAng k c, moved := 0, win := l.p 0x5130, smin := l.pf 0x5131, imin := l.pf 0x5132, dmin := l.p 0x5133 }
    else { f with since := none }
  if f.frozen then l
  else match f.since with
    | none => l.setFrz c fresh
    | some t =>
      let moved := if c < 6 then (match (l.hall c).lastT with | some u => if t < u then 65536 else 0 | none => 0)
                   else (wrap16 ((l.codeAng k c : Int) - f.start)).natAbs
      if !on f.smin f.imin || f.dmin ≤ moved then l.setFrz c fresh
      else l.setFrz c { f with moved := max f.moved moved }

/-- One sample of every source that a slot judges: its commanded speed, where it has one, or its observer's, and the magnitude of its current; a slot held at zero commanded speed is judged by neither (R130). -/
def Lane.frzSample (l : Lane) (k : Nat) (wCmd : Option F32) (iMag : F32) : Lane :=
  let m := l.motor k
  let c := fabs (wCmd.getD f0)
  let w := if wCmd.isSome && !fgt c f0 then f0 else if m.locked then fmax (fabs m.wHat) c else c
  l.eachOf (l.frzCodes k) (fun c l => l.frzWatch k c w iMag)

/-! ### One sample of a three-phase slot -/

/-- What a current sample hands to the control law. -/
structure Rotor where
  missed : Bool := true
  i  : F32 × F32 × F32 := (0, 0, 0)
  th : Nat := 0
  thV : Nat := 0
  w  : F32 := 0
  id : F32 := 0
  iq : F32 := 0
  vb : F32 := 0
deriving DecidableEq, Repr

/-- Angle and speed in use at a sample: the source with what is left of a source blend (R140, R152). -/
def Lane.useAng (l : Lane) (k ts : Nat) : Ang :=
  let m := l.motor k
  if m.fly == .zeroRun then { l.obsAng k ts with ok := true }
  else
    let x := l.srcAng k m.angleSrc m.angleDev ts
    match m.blend with
    | some b =>
      if b.active then
        let f := l.blendLeft k b ts
        { x with th := wrap 16 ((x.th : Int) + fto (fmul f (fi b.delta)) 1 1), w := fadd x.w (fmul f b.dSpeed) }
      else x
    | none => x

/-- The first streamed angle of a new source 5 gives the offset of its blend (R152, R153). -/
def Lane.blendOpen (l : Lane) (k ts : Nat) (got : Bool) : Lane :=
  let m := l.motor k
  match m.blend with
  | some b =>
    if b.active && b.open_ && got then
      let o := l.srcAng k b.oldSrc b.oldDev ts
      let n := l.srcAng k m.angleSrc m.angleDev ts
      let d := wrap16 ((o.atT ts : Int) - n.atT ts)
      let l := l.setMotor k { m with blend := some { b with delta := d, dSpeed := fsub o.w n.w, open_ := false } }
      if l.p 0x6152 k < d.natAbs then l.eventU 0x6106 else l
    else l
  | none => l

/-- A new source that fails within its blend marks the revert, where the old source is valid; otherwise R151 applies (R152). -/
def Lane.blendCheck (l : Lane) (k ts : Nat) (ok : Bool) : Lane :=
  match (l.motor k).blend with
  | some b => if b.active && !ok && !b.revert then l.loseSync k (fun b => (l.srcAng k b.oldSrc b.oldDev ts).ok) else l
  | none => l

/-- The speed that a slot goes by when the angle fails (R148): of a locked observer or a valid Hall group. -/
def Lane.keepSpeed (l : Lane) (k : Nat) : Lane :=
  let m := l.motor k
  let h : Option F32 := match l.slotHall k with
    | some g => if (l.hallAng g).ok then some (l.hallAng g).w else none
    | none => none
  l.setMotor k { m with lastW := if m.locked then some m.wHat else match h with | some w => some w | none => m.lastW }

/-- The front of a current slot (Table LE-2): currents, angle, transforms, observer and tests. In a sample without phase currents, or with the current feedback lost, observer and PLL stand still: DESIGN CHOICE (log entry 174). -/
def Lane.rotor (l : Lane) (k : Nat) (wCmd : Option F32) : Lane × Rotor :=
  let l := l.sumTest k
  let ts := l.sns.latchAt.getD ((l.amps k).headD 0) 0
  let sr := if (l.motor k).angleSrc == 5 then l.strRead k else (l, .good)
  let l := sr.1.blendOpen k ts (sr.2 == .good)
  let x := l.useAng k ts
  let old := decide (x.age + 2 * l.periodTicks (l.slotTb k) < ts)
  let l := l.blendCheck k ts (x.ok && sr.2 != .refused)
  let m := l.motor k
  let vb := l.busVolt k
  match l.phases k with
  | none => (l.setMotor k { m with speedOk := x.ok && !old }, { vb := vb, th := m.thetaS.toNat, thV := m.thetaS.toNat, w := m.omega, id := m.id, iq := m.iq })
  | some i =>
    let th := x.atT ts
    let thV := turn th x.w (fmul (l.pf 0x6113 k) (l.tsF k))
    let dq := l.park th (clarke i)
    let lost := m.csLost || !wValid (l.adcLatch (l.busSrc k))
    let missed := !x.ok || old || sr.2 != .good || lost
    let was := m.imp
    let l := l.probeSample k i
    let l := l.setMotor k { l.motor k with thetaS := .ofNat 16 th, thetaAt := ts, omega := x.w, speedOk := x.ok && !old, id := dq.1, iq := dq.2, vbus := vb }
    let l := if lost then l else (((l.observe k ts i (missed && m.fly != .acquire)).keepSpeed k).impReact k was).flySample k
    let l := l.frzSample k wCmd (fsqrt (fadd (fmul dq.1 dq.1) (fmul dq.2 dq.2)))
    (l, { missed := missed, i := i, th := th, thV := thV, w := x.w, id := dq.1, iq := dq.2, vb := vb })

/-! ### Source changes (R152) -/

/-- A device fits an angle source of a slot, under the refusals of R140. -/
def Lane.angleFits (l : Lane) (k src dev : Nat) : Bool :=
  match src with
  | 0 => dev < 6
  | 1 => (dev == 8 || dev == 9) && l.p 0x5112 (dev - 8) == 2
  | 2 => decide (0x10 ≤ dev) && decide (dev ≤ 0x15)
  | 3 => (l.motor k).cfg.kind != .threePhase
  | 4 => dev < 6
  | 5 => true
  | _ => false

def Lane.hMotAngleSrcSet (m : Msg) (l : Lane) : Lane × Reply :=
  let k := m.u8 0
  let x := l.motor k
  guarded l [(decide (k < 8) && (!x.enabled || x.blend.isSome), stRefusedState),
    (decide (8 ≤ k) || x.cfg.kind != .threePhase || !l.angleFits k (m.u8 1) (m.u8 2), stBadParam)] (fun l =>
    done (l.setMotor k { x with blend := some { delta := 0, dSpeed := f0, oldSrc := m.u8 1, oldDev := m.u8 2, start := 0, active := false } }))

def execMotAngleSrcSet (a : At) (m : Msg) (s : State) : Out := run true s a (fun l => l.serve 0x23 m (Lane.hMotAngleSrcSet m))

/-- The end of MOT_SRC_BLEND_T. -/
def Lane.blendEnd (l : Lane) (k : Nat) : Lane :=
  let m := l.motor k
  match m.blend with
  | some b => if b.active && !b.revert && 10000 * (l.now - b.start) ≥ l.p 0x6151 k * sec 1 then l.setMotor k { m with blend := none } else l
  | none => l

def execSourceBlendEnd (a : At) (slot : Nat) (s : State) : Out := run (slot < 8) s a (fun l => l.blendEnd slot)

/-- A period start of the slot's timebase: a waiting source takes over with its offset, or a failed one goes back (R152). A waiting blend holds the new source in place of the old one; a streamed source is first read at the sample of the period. -/
def Lane.blendStart (l : Lane) (k : Nat) : Lane :=
  let m := l.motor k
  match m.blend with
  | none => l
  | some b =>
    let put (l : Lane) (src dev : Nat) : Lane := (l.pset 0x6110 k [src]).pset 0x6111 k [dev]
    let l := if b.active || b.revert then l else l.releaseOf [0x6151, 0x6152] k
    if b.revert then
      (put (l.setMotor k { m with blend := none, angleSrc := b.oldSrc, angleDev := b.oldDev }) b.oldSrc b.oldDev).eventU 0x6107
    else if b.active then l
    else
      let o := l.srcAng k m.angleSrc m.angleDev l.now
      let n := l.srcAng k b.oldSrc b.oldDev l.now
      let wait := b.oldSrc == 5
      let d := if wait then 0 else wrap16 ((o.atT l.now : Int) - n.atT l.now)
      let nb : SrcBlend := { delta := d, dSpeed := if wait then f0 else fsub o.w n.w, oldSrc := m.angleSrc, oldDev := m.angleDev, start := l.now, active := true, open_ := wait }
      let m := if wait then { m with strAng := none, strW := f0 } else m
      let l := put (l.setMotor k { m with angleSrc := b.oldSrc, angleDev := b.oldDev, blend := some nb }) b.oldSrc b.oldDev
      if l.p 0x6152 k < d.natAbs then l.eventU 0x6106 else l

/-! ### Period start -/

/-- A condition keeps a slot in its lane-safe state (R22, R147, R151, R229). -/
def Lane.keepSafe (l : Lane) (k : Nat) : Bool :=
  let m := l.motor k
  !m.enabled || !(l.st.driving || l.limpDrive) || m.syncLost && m.fly != .zeroRun && m.fly != .ramp || m.fly == .acquire || m.fly == .failed || m.ov2 ||
  m.cfg.hbs.any (fun h => (l.hb h).vds != .clear || (l.hb h).doubleDrive) ||
  (match l.curSlotOf k with | some j => (l.loop j).st == .fallback && (l.loop j).fbDone | none => false)

/-- A disabled three-phase slot takes no samples: its speed is its angle source's own, where that is valid and no older than 2T, and else unknown (R148). -/
def Lane.idleSpeed (l : Lane) (k : Nat) : Lane :=
  let m := l.motor k
  if m.enabled || m.cfg.kind != .threePhase then l
  else
    let src := l.p 0x6110 k
    let dev := l.p 0x6111 k
    let fresh (x : Ang) : Option F32 := if x.ok && !l.posLost dev && decide (l.now ≤ x.age + 2 * l.periodTicks (l.slotTb k)) then some x.w else none
    let w := match src with
      | 0 | 4 => if (l.hall dev).legal && !l.posLost dev then some ((l.hall dev).toHallCore.speed l.now) else none
      | 1 => fresh (l.encAng k (dev - 8))
      | 2 => fresh (l.serAng k (dev - 16))
      | _ => none
    l.setMotor k { m with omega := w.getD m.omega, speedOk := w.isSome }

/-- A slot leaves its lane-safe state at a load point once nothing keeps it there. -/
def Lane.leaveSafe (l : Lane) (k : Nat) : Lane :=
  let l := l.idleSpeed k
  let m := l.motor k
  if m.laneSafe && m.cfg.kind != .none && !l.keepSafe k then
    (l.setMotor k { m with laneSafe := false, short := false, holdAt := none }).setStepper k { l.stepper k with off := false }
  else if m.laneSafe then l.setMotor k { m with short := l.safeShort k }
  else l

def execPeriodStart (a : At) (p : Period) (s : State) : Out :=
  run (p.tb < 8) s a (fun l =>
    let tb := p.tb
    let l := l.periodStart tb p.bstLow
    if l.pwm.frozen then l
    else l.eachOf ((List.range 8).filter (fun k => (l.motor k).cfg.kind != .none && l.slotTb k == tb)) (fun k l => (l.blendStart k).leaveSafe k))

/-! ### Status -/

/-- MOT_THETA (Table CM-7). -/
def Lane.motTheta (l : Lane) (k : Nat) : Nat :=
  let m := l.motor k
  m.thetaS.toNat * 65536 + m.angleSrc * 256 + b2n m.locked

def Lane.hMotStatus (m : Msg) (l : Lane) : Lane × Reply :=
  let k := m.u8 0
  let x := l.motor k
  guarded l [(decide (8 ≤ k), stBadParam)] (fun l =>
    done l (leBytes 4 (l.motTheta k) ++ leBytes 4 x.omega.toNat ++ leBytes 4 x.id.toNat ++ leBytes 4 x.iq.toNat ++
      [b8 (b2n x.syncLost + 2 * b2n (x.laneSafe && x.short) + 4 * b2n (x.fly == .acquire || x.fly == .zeroRun || x.fly == .ramp) + 8 * b2n (l.torque k)), 0, 0, 0]))

def execMotStatus (a : At) (m : Msg) (s : State) : Out := run true s a (fun l => l.serve 0x21 m (Lane.hMotStatus m))

end Sys2Proof.Machine
end

