-- ==== Sys2Proof/Machine/Profiles.lean ====
section
/-! DEFINITION. Profile generators, step generators, the stepper stage, referencing and lost-step detection (R183 to R204). -/

namespace Sys2Proof.Machine

/-! ### Planner (R184) -/

def d1 : W64 := 0x3FF0000000000000
def d2 : W64 := 0x4000000000000000
def dmax (a b : W64) : W64 := if dlt a b then b else a
def dmin (a b : W64) : W64 := if dlt b a then b else a
def dsqrt (a : W64) : W64 := .ofNat 64 (b64.sqrt a.toNat)

/-- The least integer not below a quotient, at least 0. -/
def dceil (a b : W64) : Nat :=
  let r := b64.toRat (ddiv a b).toNat
  (-((-r.1) / (r.2 : Int))).toNat

/-- Limits of a generator and its tick in seconds (R183). -/
structure Lim where
  v : W64
  a : W64
  d : W64
  j : W64
  t : W64
deriving DecidableEq, Repr

/-- The three continuous phase lengths that lead from (v0, a0) to (v1, 0) under an acceleration limit and a jerk. -/
def ramp3 (v0 a0 v1 lim j : W64) : W64 × W64 × W64 :=
  let vs := dadd v0 (ddiv (dmul a0 (dabs a0)) (dmul d2 j))
  let up := !dlt v1 vs
  let a := if up then a0 else dneg a0
  let dv := if up then dsub v1 v0 else dsub v0 v1
  let sq := dmul a a
  let top := dmin lim (dsqrt (dmax 0 (dadd (dmul j dv) (dmul dHalf sq))))
  let t1 := dmax 0 (ddiv (dsub top a) j)
  let t3 := ddiv top j
  let full := ddiv (dsub (dmul d2 (dmul top top)) sq) (dmul d2 j)
  let t2 := if dlt 0 top then dmax 0 (ddiv (dsub dv full) top) else 0
  (t1, t2, t3)

/-- Displacement of a ramp of three phases with durations, where the middle acceleration is whatever brings the velocity from v0 to v1. -/
def rampMove (v0 a0 v1 : W64) (t : W64 × W64 × W64) : W64 × W64 :=
  let half := dadd (dadd (dmul dHalf t.1) t.2.1) (dmul dHalf t.2.2)
  let top := if dlt 0 half then ddiv (dsub (dsub v1 v0) (dmul (dmul dHalf a0) t.1)) half else 0
  let sixth (x : W64) : W64 := ddiv x (di 6)
  let s1 := dadd (dmul v0 t.1) (dmul (dmul t.1 t.1) (sixth (dadd (dmul d2 a0) top)))
  let va := dadd v0 (dmul (dmul dHalf (dadd a0 top)) t.1)
  let s2 := dadd (dmul va t.2.1) (dmul (dmul dHalf top) (dmul t.2.1 t.2.1))
  let vb := dadd va (dmul top t.2.1)
  let s3 := dadd (dmul vb t.2.2) (dmul (dmul t.2.2 t.2.2) (sixth (dmul d2 top)))
  (top, dadd (dadd s1 s2) s3)

/-- Acceleration limit of a ramp: MP_AMAX where it gains speed, MP_DMAX where it loses speed, the lower of them where it turns round. -/
def Lim.accel (x : Lim) (v0 v1 : W64) : W64 :=
  if dlt (dmul v0 v1) 0 then dmin x.a x.d else if dlt (dabs v0) (dabs v1) then x.a else x.d

/-- Continuous displacement of a move with peak velocity vp. -/
def Lim.moveBy (x : Lim) (v0 a0 vp : W64) : W64 :=
  dadd (rampMove v0 a0 vp (ramp3 v0 a0 vp (x.accel v0 vp) x.j)).2 (rampMove vp 0 0 (ramp3 vp 0 0 x.d x.j)).2

/-- Peak velocity whose move covers a displacement, by halving an interval. -/
def Lim.peak (x : Lim) (v0 a0 s : W64) : Nat → W64 → W64 → W64
  | 0, lo, _ => lo
  | n + 1, lo, hi =>
    let mid := dmul dHalf (dadd lo hi)
    if dle (x.moveBy v0 a0 mid) s then x.peak v0 a0 s n mid hi else x.peak v0 a0 s n lo mid

/-- Ticks of the three phases of a ramp, each rounded up; the outer phases take at least one tick. -/
def Lim.ticks (x : Lim) (t : W64 × W64 × W64) : Nat × Nat × Nat :=
  (max 1 (dceil t.1 x.t), dceil t.2.1 x.t, max 1 (dceil t.2.2 x.t))

def Lim.secs (x : Lim) (n : Nat × Nat × Nat) : W64 × W64 × W64 :=
  (dmul (di n.1) x.t, dmul (di n.2.1) x.t, dmul (di n.2.2) x.t)

/-- Jerks of a ramp of whole ticks. -/
def rampJerks (a0 top : W64) (t : W64 × W64 × W64) : List W64 :=
  [ddiv (dsub top a0) t.1, 0, ddiv (dneg top) t.2.2]

/-- The ticks of a ramp, stretched where its whole ticks would break a limit: from stretch 1 on, the first phase is long enough to take the starting acceleration away and the middle phase grows twofold (log entry 36). -/
def Lim.stretch (x : Lim) (a0 : W64) (t : W64 × W64 × W64) (k : Nat) : Nat × Nat × Nat :=
  let n := x.ticks t
  if k == 0 then n else (max n.1 (dceil (ddiv (dabs a0) x.j) x.t + b2n (decide (2 ≤ k))), n.2.1 + 2 ^ (k - 1), n.2.2)

/-- A value within a limit, but for the rounding of binary64. -/
def within (a b : W64) : Bool := dle (dabs a) (dmul b 0x3FF0000000001000)

/-- Speed at which a starting acceleration has come to 0 under a jerk. -/
def turnV (v0 a0 j : W64) : W64 := dadd v0 (ddiv (dmul a0 (dabs a0)) (dmul d2 j))

/-- A ramp of whole ticks keeps to MP_JMAX, to its acceleration limit and to MP_VMAX; a state that MP_JMAX cannot turn within MP_VMAX turns within one tick of the earliest instant (R184). -/
def Lim.fits (x : Lim) (v0 a0 v1 lim : W64) (n : Nat × Nat × Nat) : Bool :=
  let t := x.secs n
  let top := (rampMove v0 a0 v1 t).1
  let j1 := ddiv (dsub top a0) t.1
  within j1 x.j && within (ddiv top t.2.2) x.j && within top lim && within v1 x.v &&
  (let w := turnV v0 a0 x.j
   !dlt (dmul a0 top) 0 || within (turnV v0 a0 (dabs j1)) (if within w x.v then x.v else dadd (dabs w) (dmul (dabs a0) x.t)))

/-- First ramp of a stretch that keeps to the limits; none where the first eight do not. -/
def Lim.rampFor (x : Lim) (v0 a0 v1 lim : W64) : Option (Nat × Nat × Nat) :=
  ((List.range 8).map (fun k => x.stretch a0 (ramp3 v0 a0 v1 lim x.j) k)).find? (x.fits v0 a0 v1 lim)

/-- Ticks and jerk of each phase of a plan; seven phases in all. -/
abbrev Phases := List (Nat × W64)

/-- The three phases of a ramp of whole ticks. -/
def Lim.rampPhases (x : Lim) (v0 a0 v1 : W64) (n : Nat × Nat × Nat) : Phases :=
  let t := x.secs n
  [n.1, n.2.1, n.2.2].zip (rampJerks a0 (rampMove v0 a0 v1 t).1 t)

/-- A phase that takes the present acceleration away as soon as MP_JMAX can in whole ticks. From it, the ramps that follow start without acceleration, so that whole ticks cannot break a limit. -/
structure Settle where
  phase : Nat × W64
  /-- velocity and displacement at its end -/
  v     : W64
  s     : W64
deriving DecidableEq, Repr

def Lim.settle (x : Lim) (v0 a0 : W64) : Settle :=
  let n := dceil (dmul (ddiv (dabs a0) x.j) 0x3FEFFFFFFFFFE000) x.t
  let t := dmul (di n) x.t
  if n == 0 then { phase := (0, 0), v := v0, s := 0 }
  else { phase := (n, ddiv (dneg a0) t), v := dadd v0 (dmul (dmul dHalf a0) t), s := dadd (dmul v0 t) (ddiv (dmul a0 (dmul t t)) (di 3)) }

/-- The longer of two ramps, phase by phase. -/
def maxTicks (m n : Nat × Nat × Nat) : Nat × Nat × Nat := (max m.1 n.1, max m.2.1 n.2.1, max m.2.2 n.2.2)

/-- Peak velocity of a try: the continuous one, and from try 1 on one that lies below it in the direction of motion by fourfold steps of the velocity that two ticks of MP_JMAX give. -/
def Lim.below (x : Lim) (v0 vp : W64) (k : Nat) : W64 :=
  if k == 0 then vp
  else
    let e := dmul (dmul x.j (dmul x.t x.t)) (di (4 ^ k))
    if dlt (if dlt v0 0 || dlt 0 v0 then v0 else vp) 0 then dmin x.v (dadd vp e) else dmax (dneg x.v) (dsub vp e)

/-- Peak velocity of the continuous move over a displacement, and whether it cruises at MP_VMAX. -/
def Lim.goal (x : Lim) (v0 a0 s : W64) : W64 × Bool :=
  let far := dle (x.moveBy v0 a0 x.v) s
  let back := dle s (x.moveBy v0 a0 (dneg x.v))
  (if far then x.v else if back then dneg x.v else x.peak v0 a0 s 60 (dneg x.v) x.v, far || back)

/-- The speed that meets a displacement exactly, for a displacement that is linear in it. -/
def meets (s : W64) (tc : W64) (ramps : W64 → W64) : W64 := ddiv (dsub s (ramps 0)) (dsub (dadd (ramps d1) tc) (ramps 0))

/-- One try of a move: phase lengths of the continuous move with peak velocity vp, rounded up, long enough too for the lower peak of the try, and the velocity that meets the displacement exactly; none where a limit breaks. -/
def Lim.tryMove (x : Lim) (v0 a0 s vp : W64) (cruise : Bool) (k : Nat) : Option Phases :=
  let vl := x.below v0 vp k
  let r1 (v : W64) : Nat × Nat × Nat := x.ticks (ramp3 v0 a0 v (x.accel v0 v) x.j)
  let r2 (v : W64) : Nat × Nat × Nat := x.ticks (ramp3 v 0 0 x.d x.j)
  let n1 := maxTicks (r1 vp) (r1 vl)
  let n2 := maxTicks (r2 vp) (r2 vl)
  let ramps (v : W64) : W64 := dadd (rampMove v0 a0 v (x.secs n1)).2 (rampMove v 0 0 (x.secs n2)).2
  let nc := if cruise then dceil (dmax 0 (ddiv (dsub s (if k == 0 then x.moveBy v0 a0 vp else ramps vp)) vp)) x.t else 0
  let v := meets s (dmul (di nc) x.t) ramps
  if x.fits v0 a0 v (x.accel v0 v) n1 && x.fits v 0 0 x.d n2 then some (x.rampPhases v0 a0 v n1 ++ [(nc, 0)] ++ x.rampPhases v 0 0 n2) else none

/-- One try of a move without starting acceleration, after a settling phase: a turn of two phases of n ticks each to the speed that meets the displacement, the cruise and the ramp to rest. Try 9 turns and stops as slowly as the widest change of speed asks, and then keeps to every limit. -/
def Lim.tryTurn (x : Lim) (v s vp : W64) (cruise : Bool) (k : Nat) : Option Phases :=
  let last := k == 9
  let dv := if last then dadd (dabs v) x.v else dabs (dsub vp v)
  let lim := if last then dmin x.a x.d else x.accel v vp
  let n := max (max 1 (dceil (ddiv dv lim) x.t)) (dceil (dsqrt (ddiv dv x.j)) x.t) + (if k == 0 || last then 0 else 2 ^ (k - 1))
  let n2 := x.ticks (ramp3 (if last then x.v else vp) 0 0 x.d x.j)
  let t := dmul (di n) x.t
  let ramps (u : W64) : W64 := dadd (dmul (dadd v u) t) (rampMove u 0 0 (x.secs n2)).2
  let nc := if last then dceil (ddiv (dabs s) x.v) x.t else if cruise then dceil (dmax 0 (ddiv (dsub s (ramps vp)) vp)) x.t else 0
  let u := meets s (dmul (di nc) x.t) ramps
  let top := ddiv (dsub u v) t
  let j := ddiv top t
  if last || (within top (x.accel v u) && within j x.j && x.fits u 0 0 x.d n2) then some ([(n, j), (n, dneg j), (nc, 0)] ++ x.rampPhases u 0 0 n2) else none

/-- A move after a settling phase. -/
def Lim.turnMove (x : Lim) (v0 a0 s : W64) : Phases :=
  let y := x.settle v0 a0
  let r := dsub s y.s
  let g := x.goal y.v 0 r
  y.phase :: ((List.range 10).findSome? (x.tryTurn y.v r g.1 g.2)).getD []

/-- Phase lengths and jerks as a generator holds them. -/
def Phases.lists (p : Phases) : List Nat × List W64 :=
  let q := p ++ List.replicate (7 - p.length) (0, 0)
  (q.map Prod.fst, q.map Prod.snd)

/-- Seven phases of a position move: the phase lengths solved in continuous time, rounded up to ticks, and the jerks scaled so that the displacement is met within the limits. From a state in motion whose whole ticks leave no such ramp, the acceleration is first taken away (R184, log entry 36). -/
def Lim.plan (x : Lim) (v0 a0 s : W64) : List Nat × List W64 :=
  let g := x.goal v0 a0 s
  (((List.range 12).findSome? (x.tryMove v0 a0 s g.1 g.2)).getD (x.turnMove v0 a0 s)).lists

/-- Phases to a velocity, at a deceleration or acceleration limit: one ramp, or a settling phase and a ramp from rest acceleration. -/
def Lim.velPhases (x : Lim) (v0 a0 v1 lim : W64) : Phases :=
  match x.rampFor v0 a0 v1 lim with
  | some n => x.rampPhases v0 a0 v1 n
  | none =>
    let y := x.settle v0 a0
    y.phase :: x.rampPhases y.v 0 v1 (x.ticks (ramp3 y.v 0 v1 lim x.j))

def Lim.toVel (x : Lim) (v0 a0 v1 lim : W64) : List Nat × List W64 := (x.velPhases v0 a0 v1 lim).lists

/-- Starts a plan. -/
def Gen.start (g : Gen) (st : GenSt) (mode : Nat) (target : W64) (pl : List Nat × List W64) : Gen :=
  { g with st := st, mode := mode, target := target, n := pl.1, j := pl.2, ph := nextPhase pl.1 7 0 }

/-- Displacement of phases from a velocity and an acceleration. -/
def Phases.move (t : W64) : Phases → W64 → W64 → W64
  | [], _, _ => 0
  | (n, j) :: r, v, a =>
    let d := dmul (di n) t
    let d2 := dmul d d
    dadd (dadd (dadd (dmul v d) (dmul (dmul dHalf a) d2)) (ddiv (dmul j (dmul d2 d)) (di 6)))
      (Phases.move t r (dadd (dadd v (dmul a d)) (dmul (dmul dHalf j) d2)) (dadd a (dmul j d)))

/-- Displacement of a stop at MP_DMAX from the present state. -/
def Lim.stopBy (x : Lim) (v a : W64) : W64 := (x.velPhases v a 0 x.d).move x.t v a

/-! ### Step generators (R190, R191) -/

/-- A position in units of 2^-48 microstep. -/
def fix48 (p : W64) : Int := let r := b64.toRat p.toNat; r.1 * 2 ^ 48 / (r.2 : Int)

/-- The count placed at a position in microsteps; its history moves with it. -/
def StepGen.place (x : StepGen) (p : W64) : StepGen := x.move (fix48 p - (sext 32 x.m.toNat * 2 ^ 48 + x.acc.toNat))

/-- A position as a step generator receives it: microsteps with 16 fraction bits (R185). -/
def fix16 (p : W64) : Int := let r := b64.toRat p.toNat; ratRound (r.1 * 65536) r.2

/-- The velocity word towards the position of the next tick, capped at 2^40 (R190, R191). -/
def stepWord (x : StepGen) (now : Nat) (next : W64) (tick : Nat) : Int :=
  let w := ratRound (fix16 next * 2 ^ 32 - x.pos now) (max 1 tick)
  if 2 ^ 40 < w then 2 ^ 40 else if w < -(2 ^ 40) then -(2 ^ 40) else w

/-- First instant after a count stood at c at which it stands at a value ahead of it, under the present velocity word. -/
def StepGen.crossing (x : StepGen) (c val : Int) : Option Nat :=
  let d := s32 (val - c)
  let m := x.pos x.lastT / 2 ^ 48
  let goal := m + s32 (val - m)
  if 0 < x.w && 0 < d then some (x.lastT + (-((x.pos x.lastT - goal * 2 ^ 48) / x.w)).toNat)
  else if x.w < 0 && d < 0 then some (x.lastT + ((x.pos x.lastT - (goal + 1) * 2 ^ 48) / (-x.w)).toNat + 1)
  else none

/-- The hits of one compare unit on a step generator up to an instant: each at the 2.5 ns instant of its crossing (R127, R191). -/
def Lane.cmpSweep (l : Lane) (i k t : Nat) : Nat → Lane
  | 0 => l
  | f + 1 =>
    let u := l.cmpU k
    let x := l.sgen i
    match (if u.running then u.last else none) with
    | none => l
    | some c =>
      match x.crossing c u.val with
      | some h =>
        if t < h then l
        else (({ l with now := h }.cmpEval k (s32 (x.pos h / 2 ^ 48)) h) |> fun (l : Lane) => { l with now := t }).cmpSweep i k t f
      | none => l

/-- The compare units on a step generator follow its count to the end of a tick: the hits of the tick are worked out then, each with its own instant (log entry 157). -/
def Lane.cmpSteps (l : Lane) (i : Nat) : Lane :=
  let x := l.sgen i
  let c := x.pos l.now / 2 ^ 48
  let n := (c - x.pos x.lastT / 2 ^ 48).natAbs
  (l.each 8 (fun k l => if l.p 0x5140 k == 0x18 + i then l.cmpSweep i k l.now (n + 1) else l)).cmpSource (0x18 + i) (s32 c) l.now

/-! ### Which generator serves which slot -/

/-- Stepper slots on a generator. -/
def Lane.genSteppers (l : Lane) (g : Nat) : List Nat := l.stepSlots.filter (fun k => l.p 0x8110 k == g)

/-- The generator that a reference of a slot uses (R197). -/
def Lane.refGen (l : Lane) (k : Nat) : Option Nat :=
  if (l.motor k).cfg.kind == .stepper then some (l.p 0x8110 k)
  else match l.posSlotOf k with
    | some j => let u := l.p 0x7105 j; if 0x40 ≤ u ∧ u ≤ 0x47 then some (u - 0x40) else none
    | none => none

/-- The generator of the steering function: the one that feeds the position slot of the steer winding (R210). -/
def Lane.steerGen (l : Lane) : Option Nat :=
  match (List.range 8).find? (fun k => (l.motor k).cfg.kind == .threePhase && (l.motor k).cfg.winding == .steer) with
  | some k => l.refGen k
  | none => none

/-- Limits in force of a generator (R183); the steering function sets the velocity limit of its own (R210). -/
def Lane.lim (l : Lane) (g : Nat) : Lim :=
  let v := if (l.func 0).enabled && l.steerGen == some g then l.pf (if l.fn.returning then 0x9113 else 0x9112) else l.pf 0x8102 g
  { v := dofF v, a := dofF (l.pf 0x8103 g), d := dofF (l.pf 0x8104 g), j := dofF (l.pf 0x8105 g), t := dq (l.tickCounts g) 400000000 }

/-! ### Encoder of a stepper (R201) -/

/-- A stepper's encoder is declared lost or frozen, or there is none (R131, R201). -/
def Lane.encGone (l : Lane) (k : Nat) : Bool := l.p 0x8120 k == 0xFF || l.posLost (l.p 0x8120 k)

/-- Count of a stepper's encoder and the instant that it stands for; none while it is lost, and for a bad sample, which counts as missed (R131, Table PF-7). An A/B input is dated by its snapshot, since a frozen one shows as a growing deviation (R201, log entry 179). -/
def Lane.stepEnc (l : Lane) (k : Nat) : Option (Int × Nat) :=
  let s := l.p 0x8120 k
  if l.encGone k then none
  else if s == 8 || s == 9 then
    let e := (l.enc (s - 8)).snap
    if e.valid then some (e.count, e.at_) else none
  else
    let r := (l.pp (s - 16)).shown
    if r.valid && !r.err && !r.stale then some (r.cmpVal, r.stamp) else none

/-- Position by the encoder, in microsteps. -/
def Lane.encPos (l : Lane) (k : Nat) (c : Int) : W64 := dadd (dmul (dofF (l.pf 0x8121 k)) (di c)) (l.stepper k).encOff

/-- The deviation of R201. -/
def Lane.deviation (l : Lane) (k : Nat) : Option W64 :=
  match l.stepEnc k, l.sgOf k with
  | some (c, t), some i => some (dsub (dq ((l.sgen i).posAt t) (2 ^ 48)) (l.encPos k c))
  | _, _ => none

/-! ### Positions of a slot (R162, R199) -/

/-- Raw position of a source in units of 2^-32 revolution, its validity (Table PF-7), and whether it wraps every revolution (log entry 37). -/
def Lane.rawPos (l : Lane) (k code : Nat) : Int × Bool × Bool :=
  if code == 0xFF then ((((l.motor k).thetaS.toNat * 65536 : Nat) : Int), (l.angLost k).isNone && !((match l.curSlotOf k with | some c => (l.loop c).wasMissed | none => false)), true)
  else if code < 6 then (((l.hall code).snap.net * 2 ^ 32) / 6, (l.hall code).snap.valid && !l.posLost code, false)
  else if code < 10 then (((l.enc (code - 8)).snap.count * 2 ^ 32) / (4 * max 1 (l.p 0x5110 (code - 8)) : Nat), (l.enc (code - 8)).snap.valid && !l.posLost code, false)
  else
    let q := (l.pp (code - 16)).shown
    ((q.pos.toNat : Int), q.valid && !q.err && !q.stale && !l.posLost code, true)

/-- Follows a position over its turns (R162). -/
def Lane.unwrapPos (l : Lane) (j k code : Nat) : Lane × Bool :=
  let r := l.rawPos k code
  let x := l.loop j
  if !r.2.1 then (l, false)
  else
    let acc := match x.lastRaw with
      | some p => x.acc + (if r.2.2 then sext 32 (wrap 32 (r.1 - p)) else r.1 - p)
      | none => if r.2.2 && code != 0xFF then ((l.pp (code - 16)).shown.stat.toNat % 65536 : Nat) * 2 ^ 32 + r.1 else r.1
    (l.setLoop j { x with acc := acc, lastRaw := some r.1 }, true)

/-! ### Ends of moves and references -/

/-- The active command of a generator ends. -/
def Lane.genDone (l : Lane) (g status : Nat) : Lane :=
  let x := l.gen g
  (l.setGen g { x with active := none }).completeOpt x.active status

/-- A stop at a deceleration from the present state (R186); a reference run stops within REFERENCING, which leaves to IDLE alone (Table MP-1). -/
def Lane.genStop (l : Lane) (g : Nat) (quick : Bool) : Lane :=
  let x := l.gen g
  let y := l.lim g
  let d := if quick then dofF (l.pf 0x8106 g) else y.d
  l.setGen g (x.start (if x.ref.isSome then .referencing else .stopping) 0 x.target (y.toVel x.v x.a 0 d))

/-- A new move from the present state: absolute, relative to the present target, or a velocity capped at MP_VMAX (R186). -/
def Lane.genMove (l : Lane) (g mode : Nat) (value : W64) : Lane :=
  let x := l.gen g
  let y := l.lim g
  let l := l.eachOf (l.genSteppers g) (fun k l => l.setStepper k { l.stepper k with satTold := false })
  if mode == 2 then
    let v := dmax (dneg y.v) (dmin y.v value)
    l.setGen g { x.start .moving 2 x.target (y.toVel x.v x.a v (y.accel x.v v)) with soft := false }
  else
    let t := if mode == 1 then dadd x.target value else value
    l.setGen g { x.start .moving mode t (y.plan x.v x.a (dsub t x.p)) with soft := false }

/-- A reference ends without success: the run comes to rest, and the slot is unreferenced (R200). -/
def Lane.refEnd (l : Lane) (g slot : Nat) : Lane :=
  let l := l.setGen g { l.gen g with ref := (l.gen g).ref.map (fun (r : RefRun) => { r with edgeSeen := false, failing := true }) }
  l.setStepper slot { l.stepper slot with referenced := false, refI := false }

/-- A reference completes (R200). -/
def Lane.refDone (l : Lane) (g slot : Nat) : Lane :=
  let l := l.setGen g { l.gen g with ref := none, st := .idle, target := (l.gen g).p, v := 0, a := 0, ph := 7 }
  let l := l.setStepper slot { l.stepper slot with referenced := true, refI := false }
  (l.eventU 0x8106).genDone g stDone

/-- Actuator units to a revolution of the raw position that a position slot follows (R162). -/
def Lane.servoUnit (l : Lane) (k j : Nat) : W64 :=
  let u := dofF (l.pf 0x7107 j)
  if l.p 0x7106 j == 0xFF then ddiv u (di (max 1 (l.p 0x6100 k))) else u

/-- The measured position of a servo slot, as its position slot last took it. -/
def Lane.servoHeld (l : Lane) (k : Nat) : W64 :=
  match l.posSlotOf k with
  | some j => dmul (dq (l.loop j).acc (2 ^ 32)) (l.servoUnit k j)
  | none => 0

/-- The latched position of a servo slot: its position feedback, extrapolated to an instant (R141, R199). -/
def Lane.servoPos (l : Lane) (k t : Nat) : W64 :=
  match l.posSlotOf k with
  | some j =>
    let code := l.p 0x7106 j
    let l := (l.unwrapPos j k code).1
    let p := fi (max 1 (l.p 0x6100 k))
    let m := l.motor k
    let a : Ang :=
      if code == 0xFF then { tm := m.thetaAt, w := m.omega }
      else if code < 6 then { tm := (l.hall code).snap.stamp, w := (l.hall code).snap.speed }
      else if code < 10 then { tm := (l.encAng k (code - 8)).tm, w := fdiv (l.encAng k (code - 8)).w p }
      else { tm := (l.serAng k (code - 16)).tm, w := fdiv (l.serAng k (code - 16)).w p }
    let rev := dadd (dq (l.loop j).acc (2 ^ 32)) (ddiv (dmul (dofF a.w) (dq ((t : Int) - a.tm) 400000000)) (dofF twoPi))
    dmul rev (l.servoUnit k j)
  | none => 0

/-- Moves the position frame of a slot and its generator: the position `at_` becomes MP_REF_OFFSET (R198, R199). -/
def Lane.refShift (l : Lane) (g slot : Nat) (at_ : W64) : Lane :=
  let sh := dsub (dofF (l.pf 0x8136 slot)) at_
  let x := l.gen g
  let l := l.setGen g { x with p := dadd x.p sh, target := dadd x.p sh }
  let l := match l.sgOf slot with
    | some i => l.setSg i ((l.sgen i).move (fix48 sh))
    | none => l
  let l := if (l.motor slot).cfg.kind == .stepper then l.setStepper slot { l.stepper slot with encOff := dadd (l.stepper slot).encOff sh } else l
  match l.posSlotOf slot with
  | some j =>
    let y := l.loop j
    let r := b64.toRat (ddiv sh (l.servoUnit slot j)).toNat
    if (l.motor slot).cfg.kind == .stepper then l else l.setLoop j { y with acc := y.acc + r.1 * 2 ^ 32 / (r.2 : Int) }
  | none => l

/-! ### Commands at a tick (R187, R189, R202) -/

/-- A paired move waits for its start cycle (R202). -/
def Lane.cmdReady (l : Lane) (c : GenCmd) : Bool :=
  match c with
  | .move _ _ start => start == 0 || decide ((l.cyc + 2 ^ 32 - start) % 2 ^ 32 < 2 ^ 31)
  | _ => true

/-- Speed of a reference, as it stands when MP_REFERENCE is accepted (R197). -/
def Lane.refSpeed (l : Lane) (g slot : Nat) : W64 :=
  let v := l.pf 0x8132 slot
  let s := if (b32.toRat v.toNat).1 == 0 then dmul (dq 1 10) (dofF (l.pf 0x8102 g)) else dofF v
  if l.p 0x8131 slot == 1 then s else dneg s

/-- A move takes new limits and a new run current, a reference its new offset and travel (Table MP-4). -/
def Lane.moveLoads (l : Lane) (g : Nat) : Lane :=
  l.releaseOf [0x8102, 0x8103, 0x8104, 0x8105] g |>.eachOf (l.genSteppers g) (fun k l => l.releaseOf [0x8111] k)

/-- A command takes effect: it replaces the active one, and a reference that it replaces leaves the slot unreferenced. -/
def Lane.genApply (l : Lane) (g : Nat) (c : GenCmd) (k : Option CmdKey) : Lane :=
  let x := l.gen g
  match c with
  | .move mode value _ =>
    let l := (match x.ref with | some r => l.refEnd g r.slot | none => l).genDone g stAbortedSuperseded
    let l := ((l.setGen g { l.gen g with ref := none }).moveLoads g).genMove g mode (dofF value)
    l.setGen g { l.gen g with active := k }
  | .stop quick =>
    let l := (match x.ref with | some r => l.refEnd g r.slot | none => l).genDone g stAbortedSuperseded
    let l := l.genStop g quick
    l.setGen g { l.gen g with active := k }
  | .source true =>
    let l := l.genDone g stAbortedSuperseded
    let l := l.eachOf ((l.genSteppers g).filterMap l.sgOf) (fun i l => l.setSg i { l.sgen i with lastStr := none })
    l.setGen g { l.gen g with st := .stream, missed := 0, ph := 7 }
  | .source false => if x.st == .stream then l.genStop g false else l
  | .reference slot v =>
    let l := l.releaseOf [0x8136, 0x8137] slot
    let y := l.lim g
    let r : RefRun := { slot := slot, method := l.p 0x8130 slot, startP := x.p, devCnt := 0, edgeSeen := false, holdTo := none }
    let l := l.setGen g { x.start .referencing 2 x.target (y.toVel x.v x.a v (y.accel x.v v)) with ref := some r, active := k }
    l.setStepper slot { l.stepper slot with refI := r.method == 0, satTold := false }

/-- A switch of the source back to planning replaces no move that waits. -/
def GenCmd.replaces : GenCmd → Bool
  | .source b => b
  | _ => true

/-- Applies the commands of a tick in order of arrival. A paired move that waits for its cycle stays behind, until one that comes after it takes effect and replaces it (R187, R202). -/
def Lane.genCmds (l : Lane) (g : Nat) : List (GenCmd × Option CmdKey) → List (GenCmd × Option CmdKey) → Lane
  | [], wait => l.setGen g { l.gen g with cmds := wait }
  | (c, k) :: r, wait =>
    if l.cmdReady c then
      let l := if c.replaces then wait.foldl (fun l w => l.completeOpt w.2 stAbortedSuperseded) l else l
      (l.genApply g c k).genCmds g r (if c.replaces then [] else wait)
    else l.genCmds g r (wait ++ [(c, k)])

/-! ### Stream (R189, R193) -/

/-- Takes the stream entry of a tick: position, velocity and acceleration, or none when it is missed. -/
def Lane.genEntry (l : Lane) (g : Nat) : Lane × Option (W64 × W64 × W64) :=
  let x := l.gen g
  let y := l.lim g
  match (l.genSteppers g).head? with
  | some k =>
    let i := (l.sgOf k).getD 0
    let r := l.streamRead (88 + i)
    match r.2 with
    | none => (r.1, none)
    | some v =>
      let c := sext 32 v.v0.toNat
      let last := ((l.sgen i).lastStr).getD (dto x.p)
      if l.p 0x8119 i < (c - last).natAbs then (r.1, none)
      else (r.1.setSg i { r.1.sgen i with lastStr := some c }, some (di c, ddiv (dsub (di c) x.p) y.t, 0))
  | none =>
    let r := l.streamRead (80 + g)
    match r.2 with
    | none => (r.1, none)
    | some e =>
      let p := dofF e.v0
      let v := dofF e.v1
      let a := dofF e.v2
      let bad := !ffinite e.v0 || !ffinite e.v1 || !ffinite e.v2 || dlt y.v (dabs v) || dlt y.a (dabs a) ||
        dlt (dmul y.v y.t) (dabs (dsub (dsub p x.p) (dmul x.v y.t)))
      (r.1, if bad then none else some (p, v, a))

def Lane.genStream (l : Lane) (g : Nat) : Lane :=
  let r := l.genEntry g
  let l := r.1
  let x := l.gen g
  match r.2 with
  | some (p, v, a) => l.setGen g { x with p := p, v := v, a := a, target := p, missed := 0 }
  | none =>
    let t := (l.lim g).t
    let l := l.setGen g { x with p := dadd x.p (dmul x.v t), a := 0, missed := x.missed + 1 }
    if l.p 0x810A g ≤ x.missed + 1 then (l.genStop g false).eventU 0x8103 else l

/-! ### References at a tick (R198, R200) -/

/-- Measured current amplitude of a stepper, from its two amplifiers. -/
def Lane.stepAmp (l : Lane) (k : Nat) : F32 :=
  match l.amps k with
  | a :: b :: _ =>
    let x := l.ampCurrent a (l.adcLatch a)
    let y := l.ampCurrent b (l.adcLatch b)
    fsqrt (fadd (fmul x x) (fmul y y))
  | _ => f0

/-- The stall test of a tick. -/
def Lane.stalls (l : Lane) (k : Nat) : Bool :=
  if l.p 0x8120 k != 0xFF then
    (match l.deviation k with | some d => dlt (di (l.p 0x8122 k)) (dabs d) | none => false)
  else fgt (l.stepAmp k) (fmul (fq 13 10) (l.pf 0x8133 k))

def Lane.refTick (l : Lane) (g : Nat) : Lane :=
  let x := l.gen g
  match (if x.refStops then none else x.ref) with
  | none => l
  | some r =>
    match r.holdTo with
    | some t =>
      if t ≤ l.now then
        let m := match l.sgOf r.slot with | some i => (l.sgen i).micro | none => 0
        (l.refShift g r.slot (di (256 * ratRound m 256))).refDone g r.slot
      else l
    | none =>
      let n := if r.method == 0 && l.stalls r.slot then r.devCnt + 1 else 0
      let l := l.setGen g { x with ref := some { r with devCnt := n } }
      if r.method == 0 && l.p 0x8123 r.slot ≤ n then
        let l := l.setGen g { l.gen g with v := 0, a := 0, ph := 7 }
        match l.stepEnc r.slot, l.p 0x8120 r.slot != 0xFF with
        | some (c, _), true =>
          let pos := l.encPos r.slot c
          let l := match l.sgOf r.slot with | some i => l.setSg i ((l.sgen i).place pos) | none => l
          (({ l with mp.gen := l.mp.gen.set g { l.gen g with p := pos } }).refShift g r.slot pos).refDone g r.slot
        | _, _ => l.setGen g { l.gen g with ref := some { r with holdTo := some (l.now + ms 50) } }
      else if !r.edgeSeen && dlt (dofF (l.pf 0x8137 r.slot)) (dabs (dsub (l.gen g).p r.startP)) then
        (((l.refEnd g r.slot).genStop g false).eventU 0x8107).genDone g stTimeout
      else l

/-- Lost-step detection of a tick (R201). The profile moves with the count, so that the step generator does not drive it back. -/
def Lane.lostStep (l : Lane) (g k : Nat) : Lane :=
  let s := l.stepper k
  match l.deviation k, l.stepEnc k, l.sgOf k with
  | some d, some (c, _), some i =>
    if s.resync then
      let pos := l.encPos k c
      let l := (l.setSg i ((l.sgen i).place pos)).setStepper k { s with resync := false, devCnt := 0 }
      l.setGen g { l.gen g with p := pos, target := pos }
    else
      let n := if (l.gen g).st != .referencing && dlt (di (l.p 0x8122 k)) (dabs d) then s.devCnt + 1 else 0
      let l := l.setStepper k { s with devCnt := n }
      if l.p 0x8123 k ≤ n then
        let l := ((l.setStepper k { s with devCnt := 0 }).eventU 0x8105).genStop g true
        let pos := l.encPos k c
        let x := l.gen g
        let sh := dsub pos (dq ((l.sgen i).pos l.now) (2 ^ 48))
        ((l.setSg i ((l.sgen i).place pos)).setGen g { x with p := dadd x.p sh, target := dadd x.target sh }).genDone g stAbortedSuperseded
      else l
  | _, _, _ => l

/-! ### The tick (R185) -/

/-- A velocity move, from rest or in motion, starts its stop in time to rest at or before the soft limit that it heads for (R186). -/
def Lane.softCheck (l : Lane) (g : Nat) : Lane :=
  let x := l.gen g
  if x.st != .moving || x.mode != 2 then l
  else
    let y := l.lim g
    let h := x.tick y.t
    let stop := dadd h.p (y.stopBy h.v h.a)
    let beyond := (dlt x.p stop && dlt (dofF (l.pf 0x8108 g)) stop) || (dlt stop x.p && dlt stop (dofF (l.pf 0x8107 g)))
    if beyond then
      let l := l.genStop g false
      l.setGen g { l.gen g with soft := true }
    else l

/-- What follows the end of the last phase. -/
def Lane.genEnd (l : Lane) (g : Nat) (was : Nat) : Lane :=
  let x := l.gen g
  if x.ph < 7 || was == 7 && x.st != .stopping then l
  else match x.st with
    | .moving => if x.mode == 2 then l.genDone g stDone else ((l.setGen g { x with st := .idle }).eventU 0x8101).genDone g stDone
    | .stopping =>
      let l := l.setGen g { x with st := .idle, target := x.p, soft := false }
      (if x.soft then l.eventU 0x8102 else l).genDone g stDone
    | .referencing =>
      match x.ref with
      | some r =>
        if r.edgeSeen then l.refDone g r.slot
        else if r.failing then (l.setGen g { x with st := .idle, target := x.p, ref := none }).genDone g stDone
        else l
      | none => l
    | _ => l

/-- The step generator of a stepper takes its next velocity word; the run current follows the motion, and a new hold current and idle time act from the next rest on (R191, R196, Table MP-4). -/
def Lane.stepLoad (l : Lane) (g k : Nat) : Lane :=
  match l.sgOf k with
  | none => l
  | some i =>
    let l := l.lostStep g k
    let x := l.gen g
    let y := l.sgen i
    let next := if x.st == .stream then x.p else (x.tick (l.lim g).t).p
    let l := l.setSg i { y with w := stepWord y l.now next (l.tickCounts g) }
    let s := l.stepper k
    let move := (b64.toRat x.v.toNat).1 != 0
    let l := if s.moving && !move then l.releaseOf [0x8112, 0x8113] k else l
    l.setStepper k (if move then { s with moving := true, restAt := l.now, rampAt := none } else { s with moving := false })

/-- The step generator of a stepper comes to the tick: its compare units follow its count (R127, R191). -/
def Lane.stepCome (l : Lane) (k : Nat) : Lane :=
  match l.sgOf k with
  | none => l
  | some i => (l.cmpSteps i).setSg i ((l.sgen i).at_ l.now)

/-- A tick of a profile generator. -/
def Lane.profileTick (l : Lane) (g : Nat) : Lane :=
  if l.pwm.halted then l
  else
    let l := l.eachOf (l.genSteppers g) (fun k l => l.stepCome k)
    let l := l.genCmds g (l.gen g).cmds []
    let l := l.softCheck g
    let x := l.gen g
    let was := x.ph
    let l := match x.st with
      | .stream => l.genStream g
      | .idle => l
      | _ => l.setGen g (x.tick (l.lim g).t)
    let l := (if (l.gen g).st == .referencing then l.refTick g else l).genEnd g was
    l.eachOf (l.genSteppers g) (fun k l => l.stepLoad g k)

def execProfileTick (a : At) (gen : Nat) (s : State) : Out := run (gen < 8) s a (fun l => l.profileTick gen)

/-! ### Host commands (R186 to R189, R197) -/

/-- A power-state entry is running: commands that start something are refused (R407). -/
def Lane.entering (l : Lane) : Bool := l.pwr.entry.isSome

def Lane.genPush (l : Lane) (g : Nat) (c : GenCmd) (k : Option CmdKey) : Lane :=
  l.setGen g { l.gen g with cmds := (l.gen g).cmds ++ [(c, k)] }

/-- A reference runs, or waits for the next tick. -/
def Gen.refers (x : Gen) : Bool := x.st == .referencing || x.cmds.any (fun c => match c.1 with | .reference .. => true | _ => false)

/-- The generator rests in IDLE, and no command that would take it out of there waits for the next tick: MP_REFERENCE leaves from IDLE alone (Table MP-1). -/
def Gen.rests (x : Gen) : Bool := x.st == .idle && !x.cmds.any (fun c => c.1.replaces)

/-- A switch back to planning waits for the next tick. -/
def Gen.leaving (x : Gen) : Bool := x.cmds.any (fun c => match c.1 with | .source b => !b | _ => false)

def Lane.hMpMove (m : Msg) (l : Lane) : Lane × Reply :=
  let g := m.u8 0
  let mode := m.u8 1
  let x := l.gen g
  let v := dofF (m.f32 4)
  let t := if mode == 1 then dadd x.target v else v
  let out := mode < 2 && (dlt t (dofF (l.pf 0x8107 g)) || dlt (dofF (l.pf 0x8108 g)) t)
  guarded l [(decide (g < 8) && (l.entering || x.refers || (x.st == .stream && !x.leaving) || (mode == 0 && (l.genSteppers g).any (fun k => !(l.stepper k).referenced))), stRefusedState),
    (decide (8 ≤ g) || decide (2 < mode) || out || ((l.genSteppers g).any (fun k => l.p 0x8140 k != 0) && m.u32 8 == 0), stBadParam)]
    (fun l => accept (l.idleToRun.genPush g (.move mode (m.f32 4) (m.u32 8)) (some (m.key 0x50))) (m.key 0x50))

def execMpMove (a : At) (m : Msg) (s : State) : Out := run true s a (fun l => l.serve 0x50 m (Lane.hMpMove m))

def Lane.hMpStop (m : Msg) (l : Lane) : Lane × Reply :=
  let g := m.u8 0
  guarded l [(decide (8 ≤ g) || decide (1 < m.u8 1), stBadParam)]
    (fun l => accept (l.genPush g (.stop (m.u8 1 == 1)) (some (m.key 0x51))) (m.key 0x51))

def execMpStop (a : At) (m : Msg) (s : State) : Out := run true s a (fun l => l.serve 0x51 m (Lane.hMpStop m))

def Lane.hMpSourceSet (m : Msg) (l : Lane) : Lane × Reply :=
  let g := m.u8 0
  guarded l [(decide (g < 8) && ((l.entering && m.u8 1 == 1) || (l.gen g).refers), stRefusedState),
    (decide (8 ≤ g) || decide (1 < m.u8 1), stBadParam)]
    (fun l => done (l.genPush g (.source (m.u8 1 == 1)) none))

def execMpSourceSet (a : At) (m : Msg) (s : State) : Out := run true s a (fun l => l.serve 0x52 m (Lane.hMpSourceSet m))

/-- Table MP-2: a slot may use its reference method. -/
def Lane.refFits (l : Lane) (k : Nat) : Bool :=
  let c := (l.motor k).cfg
  if l.p 0x8130 k == 0 then c.kind == .stepper && (l.p 0x8120 k != 0xFF || decide (2 ≤ (l.amps k).length))
  else l.p 0x8134 k != 0xFF && (c.kind == .stepper || c.kind == .hBridge || (c.kind == .threePhase && c.winding == .steer))

def Lane.hMpReference (m : Msg) (l : Lane) : Lane × Reply :=
  let k := m.u8 0
  let g := (l.refGen k).getD 0
  let lostEnc := l.p 0x8130 k == 0 && l.p 0x8120 k != 0xFF && l.encGone k
  guarded l [(decide (k < 8) && (l.entering || !(l.motor k).enabled || ((l.refGen k).isSome && !(l.gen g).rests) || lostEnc), stRefusedState),
    (decide (8 ≤ k) || (l.refGen k).isNone || !l.refFits k || fgt (l.pf 0x8132 k) (l.pf 0x8102 g), stBadParam)]
    (fun l => accept (l.genPush g (.reference k (l.refSpeed g k)) (some (m.key 0x53))) (m.key 0x53))

def execMpReference (a : At) (m : Msg) (s : State) : Out := run true s a (fun l => l.serve 0x53 m (Lane.hMpReference m))

/-! ### Switch edge (R199) -/

/-- A level of MP_REF_PIN has stood for the filter time of its Hall group or encoder input (R106, R199, Table PF-11). -/
def Lane.pinStood (l : Lane) (pin since : Nat) : Bool := l.stood since (if pin < 0x20 then l.p 0x5100 (pin / 3) else l.p 0x5111 (pin - 0x20))

/-- The edge of MP_REF_PIN during a switch reference: the position at its stamp becomes MP_REF_OFFSET, and the run comes to rest (R199). -/
def Lane.refEdge (l : Lane) (g pin : Nat) (e : PinLvl) : Lane :=
  let x := l.gen g
  match x.ref with
  | none => l
  | some r =>
    if r.method != 1 || r.edgeSeen || r.failing || x.st != .referencing || l.p 0x8134 r.slot != pin || (l.p 0x8135 r.slot == 1) != e.lvl || !l.pinStood pin e.since then l
    else
      let pos := match l.sgOf r.slot with
        | some i => dq ((l.sgen i).posAt e.since) (2 ^ 48)
        | none => l.servoPos r.slot e.since
      let l := (l.setGen g { x with ref := some { r with edgeSeen := true } }).refShift g r.slot pos
      l.genStop g false

def execRefSwitchEdge (a : At) (pin : Nat) (e : PinLvl) (s : State) : Out :=
  run true s a (fun l => l.each 8 (fun g l => l.refEdge g pin e))

/-! ### Stepper stage (R192, R194 to R196) -/

/-- Entry k of the microstep table in units of 1/65,536 (R192). -/
def stepTab (k : Nat) : Nat := if k == 256 then 65536 else (sinFix (4 * k) * 65536 + 2 ^ 61) / 2 ^ 62

/-- Sine and cosine at a microstep (R192). -/
def stepSinCos (n : Nat) : Int × Int :=
  let k := n % 256
  let a : Int := stepTab k
  let b : Int := stepTab (256 - k)
  match n / 256 % 4 with
  | 0 => (a, b)
  | 1 => (b, -a)
  | 2 => (-a, -b)
  | _ => (-b, a)

/-- The current of a stepper: the reference current, run or hold, or the linear ramp of 100 ms between them (R196, R198). -/
def Lane.stepCurrent (l : Lane) (k : Nat) : F32 :=
  let s := l.stepper k
  let run := l.pf 0x8111 k
  let hold := l.pf 0x8112 k
  if (l.motor k).laneSafe then hold
  else if s.refI then l.pf 0x8133 k
  else match s.rampAt with
    | some t => if t + ms 100 ≤ l.now then hold else fadd run (fmul (fsub hold run) (fq (l.now - t) (ms 100)))
    | none => run

def fofInt48 (v : Int) : F32 := fq v (2 ^ 48)

/-- Duty of one half of an H-bridge in fine steps. -/
def Lane.dutyFine (l : Lane) (ch : Nat) (d : F32) : Nat := (fto (fclamp f0 f1 d) (l.periodFine (l.tbOf ch)) 1).toNat

/-- The stage computes its phase voltages and writes the shadows of its four half-bridges. The lead angle is rounded to the nearest microstep and added to the whole microstep count: DESIGN CHOICE (log entry 180). In the lane-safe state the microstep stands (R196). -/
def Lane.stepStage (l : Lane) (k : Nat) : Lane :=
  let m := l.motor k
  let s := l.stepper k
  match m.cfg.hbs, l.sgOf k with
  | [a1, a2, b1, b2], some i =>
    if s.off || l.pwm.halted then l
    else
      let y := l.sgen i
      let rest := m.laneSafe || s.rampAt.isSome
      let cur := l.stepCurrent k
      let w := if rest then f0 else fmul twoPi (fdiv (fmul (fofInt48 y.w) (fi 400000000)) (fi 1024))
      let vp := fadd (fmul (l.pf 0x8114 k) cur) (fmul (l.pf 0x8116 k) w)
      let vq := fmul (fmul w (l.pf 0x8115 k)) cur
      let raw := fsqrt (fadd (fmul vp vp) (fmul vq vq))
      let vb := l.busVolt k
      let cap := fmul (l.pf 0x8117 k) vb
      let av := fmin raw cap
      let lead := fadd (atan2F vq vp) (fmul w (fadd (fq 1 1000000) (fmul (fq 1 2) (l.tsF k))))
      let m16 := if m.laneSafe then s.holdM else y.pos l.now / 2 ^ 48
      let n := wrap 10 (m16 + fto (fdiv lead twoPi) 1024 1)
      let sc := stepSinCos n
      let va := fmul av (fq sc.1 65536)
      let vbb := fmul av (fq sc.2 65536)
      let duty (v : F32) : F32 := fadd (fq 1 2) (fdiv v (fmul (fi 2) vb))
      let l := (((l.shadowWrite a1 (l.dutyFine a1 (duty va))).shadowWrite a2 (l.dutyFine a2 (duty (fneg va)))).shadowWrite b1 (l.dutyFine b1 (duty vbb))).shadowWrite b2 (l.dutyFine b2 (duty (fneg vbb)))
      let l := l.setStepper k { s with current := cur, satTold := s.satTold || fgt raw cap }
      let l := if fgt raw cap && !s.satTold then l.eventU 0x8104 else l
      let l := l.frzSample k (some w) cur
      l.burstDone (l.slotTb k) l.now
  | _, _ => l

def execStepperStageUpdate (a : At) (slot : Nat) (s : State) : Out := run (slot < 8) s a (fun l => l.stepStage slot)

/-- MP_STEP_IDLE_T after the last tick in motion (R196). -/
def execStepIdleTimeout (a : At) (slot : Nat) (s : State) : Out :=
  run (slot < 8) s a (fun l =>
    let x := l.stepper slot
    if (l.motor slot).cfg.kind == .stepper && !x.moving && x.rampAt.isNone && l.due (x.restAt + ms (l.p 0x8113 slot)) then l.setStepper slot { x with rampAt := some l.now } else l)

/-- MOT_STEP_HOLD_T in the lane-safe state (R196). -/
def Lane.stepHoldEnd (l : Lane) (k : Nat) : Lane :=
  let m := l.motor k
  let x := l.stepper k
  match m.holdAt with
  | some t =>
    if m.cfg.kind == .stepper && m.laneSafe && !x.off && l.due (t + ms (l.p 0x6150 k)) then
      (l.setStepper k { x with off := true }).stepOff k
    else l
  | none => l

def execStepHoldTimeout (a : At) (slot : Nat) (s : State) : Out := run (slot < 8) s a (fun l => l.stepHoldEnd slot)

/-- MP_STATE (Table MP-4): phase and state code. -/
def GenSt.code : GenSt → Nat
  | .idle => 0 | .moving => 1 | .stopping => 2 | .stream => 3 | .referencing => 4

end Sys2Proof.Machine
end

