-- ==== Sys2Proof/Machine/Loop.lean ====
section
/-! DEFINITION. The loop engine: templates, slot states, injection, capture, hand-over, lost feedback, disable, and the enable of a motor slot (R134, R156 to R182). -/

namespace Sys2Proof.Machine

/-! ### Clamp-force estimate (R211) -/

/-- The points of a wheel's stiffness curve, mm and kN. -/
def Lane.stiff (l : Lane) (w : Nat) : List (F32 × F32) :=
  (List.range 8).map (fun i => (l.pfk 0x9122 w (2 * i), l.pfk 0x9122 w (2 * i + 1)))

/-- Linear between points a and b at x. -/
def lerp (a b : F32 × F32) (x : F32) : F32 := fadd a.2 (fdiv (fmul (fsub b.2 a.2) (fsub x a.1)) (fsub b.1 a.1))

/-- Piecewise-linear curve from point p through the rest; beyond the last point the last slope continues. -/
def curveAt (x : F32) (p : F32 × F32) : List (F32 × F32) → F32
  | [] => p.2
  | [q] => lerp p q x
  | q :: r => if fle x q.1 then lerp p q x else curveAt x q r

/-- The stiffness S of a wheel. -/
def Lane.stiffAt (l : Lane) (w : Nat) (x : F32) : F32 :=
  match l.stiff w with
  | [] => f0
  | p :: r => if flt f0 p.1 then curveAt x (f0, f0) (p :: r) else curveAt x p r

/-- The brake winding's motor slot of a wheel. -/
def Lane.brakeSlot (l : Lane) (w : Nat) : Option Nat :=
  (List.range 8).find? (fun k => (l.motor k).cfg.kind == .threePhase && (l.motor k).cfg.winding == .brake && (l.motor k).cfg.wheel == some w)

def Lane.wheel (l : Lane) (w : Nat) : Wheel := l.fn.wheel.getD w {}
def Lane.setWheel (l : Lane) (w : Nat) (x : Wheel) : Lane := { l with fn.wheel := l.fn.wheel.set w x }

/-- Actuator position of a wheel in mm. -/
def Lane.brakePos (l : Lane) (w : Nat) : F32 :=
  match l.brakeSlot w with
  | some k => fofD (l.servoHeld k)
  | none => f0

/-- The estimate by position, the estimate by torque, and the one in use (R211). -/
def Lane.estPos (l : Lane) (w : Nat) : F32 :=
  let d := fsub (l.brakePos w) (l.wheel w).xC
  if fgt d f0 then l.stiffAt w d else f0

def Lane.estTq (l : Lane) (w : Nat) : F32 :=
  match l.brakeSlot w with
  | some k => fmul (l.pf 0x9124 w) (l.motor k).iq
  | none => f0

def Lane.estUse (l : Lane) (w : Nat) : F32 :=
  if (l.wheel w).useMin then fmin (l.estPos w) (l.estTq w) else l.estPos w

/-- The reference that a function gives to a loop slot with LE_UPSTREAM = 0x80: the clamp setpoint of the slot's wheel (R213). -/
def Lane.fnRef (l : Lane) (j : Nat) : F32 :=
  match l.motorOf j with
  | some k => match (l.motor k).cfg.wheel with
    | some w => (l.wheel w).clamp
    | none => f0
  | none => f0

/-! ### Sources of a loop slot -/

/-- Motor slot at the end of a slot's chain. -/
def Lane.endSlot (l : Lane) (j : Nat) : Nat := (l.motorOf j).getD 0

/-- The source of a loop slot that is declared lost or frozen, if one is (R178): its code in Table PF-10, or 0x100 above the code of a sensing source (log entry 145). -/
def Lane.lostSrc (l : Lane) (j : Nat) : Option Nat :=
  let pos (c : Nat) : Option Nat := if l.posLost c then some c else none
  let adc (s : Nat) : Option Nat := if l.frozenSrc s then some (0x100 + s) else none
  if l.p 0x7100 j == 1 then
    let k := l.p 0x7101 j
    if (l.motor k).csLost then some (0x100 + (l.amps k).headD 0)
    else match l.angLost k with
      | some c => some c
      | none => (l.amps k ++ [l.busSrc k]).findSome? adc
  else
    let s := l.p 0x7106 j
    let k := l.endSlot j
    if s == 0xFF then (match l.angLost k with | some c => some c | none => if (l.motor k).syncLost then some 0xFF else none)
    else if s == 0x80 then
      match (l.motor k).cfg.wheel with
      | some w => match l.brakeSlot w with
        | some b => match l.posSlotOf b with
          | some p => if l.p 0x7106 p == 0xFF then l.angLost b else pos (l.p 0x7106 p)
          | none => none
        | none => none
      | none => none
    else if 0x20 ≤ s && s ≤ 0x37 then adc (s - 0x10)
    else pos s

/-- A source that a loop slot reads is declared lost or frozen (R178). -/
def Lane.srcLost (l : Lane) (j : Nat) : Bool := (l.lostSrc j).isSome

/-- What a sample gives a control law: references, feedback and feed-forward per axis, and the quantities that a capture can select. -/
structure LIn where
  missed : Bool := false
  rD : F32 := 0
  rQ : F32 := 0
  bD : F32 := 0
  bQ : F32 := 0
  fD : F32 := 0
  fQ : F32 := 0
  w  : F32 := 0
  th : Nat := 0
  vb : F32 := 0
  /-- sample period in seconds -/
  t  : F32 := 0
  dual : Bool := false
  /-- the integrator stands still: an output that does not reach its channels (R181) -/
  still : Bool := false
deriving DecidableEq, Repr

/-- What a limit leaves of an output: the limited output, the duties of a current slot, and whether the output stands at a limit (R176). -/
structure LOut where
  uD : F32
  uQ : F32
  duty : List F32 := []
  sat  : Bool := false
deriving DecidableEq, Repr

/-! ### Injection (R172, R173, Table LE-6) -/

def prbsTaps : Nat → List Nat
  | 7 => [7, 6] | 8 => [8, 6, 5, 4] | 9 => [9, 5] | 10 => [10, 7] | 11 => [11, 9]
  | 12 => [12, 6, 4, 1] | 13 => [13, 4, 3, 1] | 14 => [14, 5, 3, 1] | 15 => [15, 14]
  | _ => []

/-- One step of the register: the feedback enters at bit 1, the output is bit n. -/
def prbsStep (n r : Nat) : Nat :=
  let fb := ((prbsTaps n).map (fun t => r / 2 ^ (t - 1) % 2)).sum % 2
  (2 * r + fb) % 2 ^ n

/-- Samples of a whole injection; one of none still emits its first sample: DESIGN CHOICE (log entry 175). -/
def Inject.samples (i : Inject) : Nat := if i.form == 2 then (2 ^ i.order - 1) * i.hold * i.reps else i.n

/-- The value of this sample and the injection after it. -/
def Inject.next (i : Inject) (t host : F32) : F32 × Inject :=
  match i.form with
  | 0 => (i.amp, { i with k := i.k + 1 })
  | 1 =>
    let f := fmul i.f0 (powF (fdiv i.f1 i.f0) (fq i.k (max 1 i.n)))
    (fmul i.amp (sinF i.phase), { i with k := i.k + 1, phase := wrapRad (fadd i.phase (fmul (fmul twoPi f) t)) })
  | 2 =>
    let one := i.lfsr / 2 ^ (i.order - 1) % 2 == 1
    (if one then i.amp else fneg i.amp, { i with k := i.k + 1, lfsr := if (i.k + 1) % max 1 i.hold == 0 then prbsStep i.order i.lfsr else i.lfsr })
  | _ => (host, { i with k := i.k + 1 })

/-- Takes the injection value of a sample for a point and axis, ends the injection at its last sample (R173), and says whether a streamed entry was missing (R30). -/
def Lane.injTake (l : Lane) (j : Nat) (t : F32) : Lane × Option (Nat × Nat × F32) × Bool :=
  match (l.loop j).inj with
  | none => (l, none, false)
  | some i =>
    let s := if i.form == 3 then l.streamRead (48 + j) else (l, none)
    let host := match s.2 with | some v => v.v0 | none => f0
    let axis := match s.2 with | some v => v.v1.toNat % 2 | none => i.axis
    let r := i.next t host
    let l := s.1
    (l.setLoop j { l.loop j with inj := if i.samples ≤ r.2.k then none else some r.2 }, some (i.point, if i.form == 3 then axis else i.axis, r.1), i.form == 3 && s.2.isNone)

/-! ### Capture (R174, Tables LE-8 and LE-9) -/

/-- The bytes of one record. -/
def Lane.capRecord (l : Lane) (j : Nat) (c : Capture) (last inj : Bool) : List Byte :=
  let x := l.loop j
  let sel (i : Nat) : Nat := c.chans.getD i 0
  let flags := b2n last * 2 ^ 31 + b2n (c.dropped != 0) * 2 ^ 30 + min 63 c.dropped * 2 ^ 24 + b2n inj * 2 ^ 23 + b2n x.wasMissed * 2 ^ 22 + x.st.code * 2 ^ 19 +
    sel 3 * 2 ^ 12 + sel 2 * 2 ^ 8 + sel 1 * 16 + sel 0
  leBytes 8 x.latchAt ++ leBytes 2 j ++ leBytes 2 x.seq ++ leBytes 4 flags ++ (List.range 4).flatMap (fun i => leBytes 4 (x.vals.getD (sel i) 0).toNat)

/-- Writes a record, or drops it on a full queue. -/
def Lane.capPut (l : Lane) (j : Nat) (c : Capture) (last inj : Bool) : Lane × Capture :=
  if l.qFull c.queue then
    (if c.told then l else l.eventU 0x7107, { c with dropped := c.dropped + 1, told := true })
  else (l.qPut c.queue sopEop (l.capRecord j c last inj), { c with dropped := 0 })

/-- An END record cannot be written yet: its queue is full, or an older one waits for it. -/
def Lane.endWaits (l : Lane) (j q : Nat) : Bool := l.qFull q || (l.loop j).ends.any (fun e => e.1 == q)

/-- Ends a capture with its last record, END = 1. Since every capture ends with one, a record that meets a full queue waits in the slot for room and is not dropped (R174, log entry 147). -/
def Lane.capLast (l : Lane) (j : Nat) (c : Capture) (inj : Bool) : Lane :=
  let b := l.capRecord j c true inj
  let x := { l.loop j with cap := none }
  if l.endWaits j c.queue then l.setLoop j { x with ends := x.ends ++ [(c.queue, b)] } else (l.qPut c.queue sopEop b).setLoop j x

/-- Writes the END records that wait, as far as their queues have room. -/
def Lane.capFlush (l : Lane) : Lane :=
  l.each 32 (fun j l => (l.loop j).ends.foldl (fun l e =>
    if l.qFull e.1 then l else (l.qPut e.1 sopEop e.2).setLoop j { l.loop j with ends := (l.loop j).ends.erase e }) l)

/-- Stops a capture with its END record, of the last sample. -/
def Lane.capEnd (l : Lane) (j : Nat) : Lane :=
  match (l.loop j).cap with
  | none => l
  | some c => l.capLast j c (l.loop j).wasInj

/-- One sample of a capture. -/
def Lane.capSample (l : Lane) (j : Nat) (inj : Bool) : Lane :=
  match (l.loop j).cap with
  | none => l
  | some c =>
    if c.skip != 0 then l.setLoop j { l.loop j with cap := some { c with skip := c.skip - 1 } }
    else if !c.endless && c.left ≤ 1 then l.capLast j c inj
    else
      let r := l.capPut j c false inj
      r.1.setLoop j { r.1.loop j with cap := some { r.2 with skip := c.decim - 1, left := c.left - 1 } }

/-- What a slot takes from its upstream source: value, first derivative and acceleration (R161, R162, R165, R188). -/
def Lane.upstream (l : Lane) (j : Nat) : F32 × F32 × F32 :=
  let u := l.p 0x7105 j
  if u < 32 then ((l.loop u).uD, f0, if l.p 0x7100 u == 3 then (l.loop u).uQ else f0)
  else if 0x40 ≤ u && u ≤ 0x47 then (fofD (l.gen (u - 0x40)).p, fofD (l.gen (u - 0x40)).v, fofD (l.gen (u - 0x40)).a)
  else if u == 0x80 then (l.fnRef j, f0, f0)
  else (f0, f0, f0)

/-! ### Loop commands (R171, R172, R174, R175) -/

def Lane.loopOk (l : Lane) (j : Nat) : Bool := decide (j < 32) && l.p 0x7100 j != 0
def Lane.loopOff (l : Lane) (j : Nat) : Bool := (l.loop j).st == .disabled

def Lane.loopPush (l : Lane) (j : Nat) (c : LoopCmd) (k : Option CmdKey) : Lane :=
  l.setLoop j { l.loop j with cmds := (l.loop j).cmds ++ [(c, k)] }

def Lane.hLoopOpen (m : Msg) (l : Lane) : Lane × Reply :=
  let j := m.u8 0
  guarded l [(decide (j < 32) && l.loopOff j, stRefusedState), (!l.loopOk j || decide (1 < m.u8 1), stBadParam)]
    (fun l => (l.idleToRun.loopPush j (.open_ (m.u8 1)) (some (m.key 0x40)), .later))

def execLoopOpen (a : At) (m : Msg) (s : State) : Out := run true s a (fun l => l.serve 0x40 m (Lane.hLoopOpen m))

def Lane.hLoopClose (m : Msg) (l : Lane) : Lane × Reply :=
  let j := m.u8 0
  guarded l [(decide (j < 32) && ((l.loop j).st != .open_ || l.srcLost j), stRefusedState), (!l.loopOk j, stBadParam)]
    (fun l => (l.loopPush j .close (some (m.key 0x41)), .later))

def execLoopClose (a : At) (m : Msg) (s : State) : Out := run true s a (fun l => l.serve 0x41 m (Lane.hLoopClose m))

/-- Sample period of a slot in seconds: trigger period times LE_RATE_DIV. -/
def Lane.loopT (l : Lane) (j : Nat) : F32 :=
  let n := if l.p 0x7102 j == 15 then l.p 0x7150 * l.periodTicks 0 else l.periodTicks (l.p 0x7102 j)
  fq (n * l.p 0x7104 j : Nat) 400000000

def Lane.outRange (l : Lane) (j : Nat) : F32 := fsub (l.pf 0x7116 j) (l.pf 0x7115 j)

/-- The arguments of an injection are within their ranges (R172, R173). -/
def Lane.injOk (l : Lane) (j : Nat) (m : Msg) : Bool :=
  let point := m.u8 2
  let form := m.u8 3
  let range := if point == 2 then l.outRange j else l.pf 0x711C j
  m.u8 1 < 2 && (m.u8 1 == 0 || l.p 0x7100 j == 1) && point < 3 && form < 4 && fle (fabs (m.f32 4)) (fmul (l.pf 0x7140 j) range) &&
  (form != 1 || (ffinite (m.f32 12) && ffinite (m.f32 16) && flt f0 (m.f32 12) && flt (m.f32 12) (m.f32 16) && fle (fmul (fmul (fi 4) (l.loopT j)) (m.f32 16)) f1)) &&
  (form != 2 || (decide (7 ≤ m.u8 20) && decide (m.u8 20 ≤ 15) && decide (1 ≤ m.u8 21) && decide (m.u8 21 ≤ 16)))

def Lane.hLoopInject (m : Msg) (l : Lane) : Lane × Reply :=
  let j := m.u8 0
  let l := l.releaseOf [0x7140] j
  guarded l [(decide (j < 32) && (l.loop j).st != .closed, stRefusedState), (!l.loopOk j || !l.injOk j m, stBadParam)] (fun l =>
    let i : Inject := { axis := m.u8 1, point := m.u8 2, form := m.u8 3, amp := m.f32 4, n := m.u32 8, f0 := m.f32 12, f1 := m.f32 16, order := m.u8 20, hold := m.u8 21, reps := m.u16 22, k := 0, phase := f0, lfsr := 2 ^ m.u8 20 - 1 }
    (l.loopPush j (.inject i) (some (m.key 0x42)), .later))

def execLoopInject (a : At) (m : Msg) (s : State) : Out := run true s a (fun l => l.serve 0x42 m (Lane.hLoopInject m))

/-- A compare unit writes its records to a capture queue (R129, R174). -/
def Lane.cmpQueue (l : Lane) (q : Nat) : Bool :=
  (List.range 8).any (fun u => l.p 0x5140 u != 0xFF && bit (l.p 0x5144 u) 0 && 12 + bits (l.p 0x5144 u) 7 6 == q)

def Lane.hLoopCapture (m : Msg) (l : Lane) : Lane × Reply :=
  let j := m.u8 0
  let q := m.u8 1
  let cs := (List.range 4).map (fun i => m.u8 (4 + i))
  guarded l [((decide (j < 32) && l.loopOff j) || l.cmpQueue q, stRefusedState),
    (!l.loopOk j || decide (q < 12) || decide (15 < q) || cs.any (fun c => decide (12 < c)), stBadParam)] (fun l =>
    let c : Capture := { queue := q, decim := m.u8 2 + 1, chans := cs, left := m.u32 8, endless := m.u32 8 == 0, skip := 0, dropped := 0, told := false }
    (l.loopPush j (.capture c) (some (m.key 0x43)), .later))

def execLoopCapture (a : At) (m : Msg) (s : State) : Out := run true s a (fun l => l.serve 0x43 m (Lane.hLoopCapture m))

def Lane.hLoopCaptureStop (m : Msg) (l : Lane) : Lane × Reply :=
  let j := m.u8 0
  guarded l [(decide (j < 32) && (l.loop j).cap.isNone, stRefusedState), (decide (32 ≤ j), stBadParam)] (fun l => done (l.capEnd j))

def execLoopCaptureStop (a : At) (m : Msg) (s : State) : Out := run true s a (fun l => l.serve 0x45 m (Lane.hLoopCaptureStop m))

/-- An upstream code that a consumer may take. -/
def Lane.upOk (l : Lane) (j u : Nat) : Bool :=
  inSet 0x7105 u && u != j && (decide (32 ≤ u) || (l.p 0x7100 u != 0 && l.p 0x7100 u != 1))

def Lane.hLoopChainSet (m : Msg) (l : Lane) : Lane × Reply :=
  let j := m.u8 0
  guarded l [(decide (j < 32) && (l.loopOff j || (l.loop j).st == .fallback), stRefusedState), (!l.loopOk j || !l.upOk j (m.u8 1), stBadParam)]
    (fun l => (l.loopPush j (.chain (m.u8 1)) (some (m.key 0x44)), .later))

def execLoopChainSet (a : At) (m : Msg) (s : State) : Out := run true s a (fun l => l.serve 0x44 m (Lane.hLoopChainSet m))

/-! ### Hand-over and fallback (R175, R176, R178) -/

/-- Applies one waiting command at a sample (R171), before the sample takes its inputs: a new upstream source is read in that sample (R175). A current slot takes the new source's last output into its reference latch (log entry 148). A LOOP_CHAIN_SET that comes in a BLEND to the host stream hands over to the control law: DESIGN CHOICE (log entry 176). -/
def Lane.loopApply (l : Lane) (j : Nat) (c : LoopCmd) (k : Option CmdKey) : Lane :=
  let x := l.loop j
  let up := l.p 0x7105 j
  match c with
  | .open_ 0 =>
    let l := l.injAbort j
    (l.setLoop j { l.loop j with st := .open_, mode := .hold, blend := none }).answerOpt k stDone
  | .open_ _ =>
    if x.st == .open_ || x.st == .fallback then (l.setLoop j { x with st := .open_, mode := .stream }).answerOpt k stDone
    else (l.handOver j .stream up).answerOpt k stDone
  | .close => if x.st == .open_ && !l.srcLost j then (l.handOver j .law up).answerOpt k stDone else l.answerOpt k stRefusedState
  | .chain u =>
    if x.st == .fallback || x.st == .disabled then l.answerOpt k stRefusedState
    else
      let l := if x.st == .open_ then l.pset 0x7105 j [u] else (l.handOver j .law up).pset 0x7105 j [u]
      let l := if l.p 0x7100 j == 1 then l.setLoop j { l.loop j with ref := (l.upstream j).1, refNext := [] } else l
      l.answerOpt k stDone
  | .inject i => if x.st == .closed then (l.setLoop j { x with inj := some i }).answerOpt k stDone else l.answerOpt k stRefusedState
  | .capture c =>
    let l := l.capEnd j
    (l.setLoop j { l.loop j with cap := some c }).answerOpt k stDone

/-- A slot that goes back to a control law at this sample takes its inputs from that law's own source again (R176). -/
def Lane.revertUp (l : Lane) (j : Nat) : Lane :=
  match (l.loop j).blend with
  | some b =>
    if b.revert && b.old == .law && b.oldUp != l.p 0x7105 j then
      let l := l.pset 0x7105 j [b.oldUp]
      if l.p 0x7100 j == 1 then l.setLoop j { l.loop j with ref := (l.upstream j).1, refNext := [] } else l
    else l
  | none => l

/-- What a sample does before it takes its inputs: its waiting commands in order, then a due revert's source. -/
def Lane.loopCmds (l : Lane) (j : Nat) : Lane :=
  let cs := (l.loop j).cmds
  (cs.foldl (fun l c => l.loopApply j c.1 c.2) (l.setLoop j { l.loop j with cmds := [] })).revertUp j

/-- The last valid measured position of a wheel's brake: read now where the source gives a valid sample, the last one that did otherwise. A position slot that does not run reads as at its first sample. -/
def Lane.measured (l : Lane) (w : Nat) : F32 :=
  match l.brakeSlot w with
  | some k =>
    match l.posSlotOf k with
    | some j =>
      let x := l.loop j
      ((l.setLoop j { x with lastRaw := if x.st == .disabled then none else x.lastRaw }).unwrapPos j k (l.p 0x7106 j)).1.brakePos w
    | none => f0
  | none => f0

/-- The safe output of a slot (Table LE-5). -/
def Lane.safeOut (l : Lane) (j : Nat) : F32 :=
  if l.p 0x7100 j == 4 && l.p 0x711B j == 0 then l.measured ((l.motor (l.endSlot j)).cfg.wheel.getD 0) else f0

/-- The slot enters FALLBACK under the newest LE_RAMP_T, naming itself and the lost source, 0xFF for none (R178). -/
def Lane.loopFall (l : Lane) (j : Nat) : Lane :=
  let l := (l.injAbort j).releaseOf [0x7121] j
  let x := l.loop j
  (l.setLoop j { x with st := .fallback, blend := none, fbAt := l.now, fbD := x.uD, fbQ := x.uQ, fbS := l.safeOut j, fbDone := false, told := true }).event 0x7101 (lossArg j ((l.lostSrc j).getD 0xFF))

/-- The output of FALLBACK now: a linear ramp from the held value to the safe output (R178). -/
def Lane.fallOut (l : Lane) (j : Nat) : F32 × F32 :=
  let x := l.loop j
  let n := l.p 0x7121 j * sec 1
  let t := 10000 * (l.now - x.fbAt)
  let f := if x.fbDone || n ≤ t then f1 else fq t n
  (fadd x.fbD (fmul f (fsub x.fbS x.fbD)), fmul x.fbQ (fsub f1 f))

/-- FALLBACK for every slot whose source has just been declared lost (R178). -/
def Lane.loopsLost (l : Lane) : Lane :=
  l.each 32 (fun j l => if ((l.loop j).st == .closed || (l.loop j).st == .blend) && l.srcLost j then l.loopFall j else l)

def execFallbackRampEnd (a : At) (slot : Nat) (s : State) : Out :=
  run (slot < 32) s a (fun l =>
    let x := l.loop slot
    if x.st == .fallback && !x.fbDone && decide (l.p 0x7121 slot * sec 1 ≤ 10000 * (l.now - x.fbAt)) then
      let l := l.setLoop slot { x with fbDone := true, uD := x.fbS, uQ := f0 }
      if l.p 0x7100 slot == 1 then l.takeSafe (l.p 0x7101 slot) else l
    else l)

/-! ### One sample (R157 to R163, R169, R175 to R177) -/

/-- Gains of an axis. -/
def Lane.kp (l : Lane) (j ax : Nat) : F32 := l.pfk 0x7110 j ax
def Lane.ki (l : Lane) (j ax : Nat) : F32 := l.pfk 0x7111 j ax

/-- A limit that lets a NaN or an infinity through, which makes the sample a numeric fault (R158). -/
def lclamp (lo hi x : F32) : F32 := if ffinite x then fclamp lo hi x else x

def Lane.clampX (l : Lane) (j : Nat) (x : F32) : F32 := let m := l.pf 0x7117 j; lclamp (fneg m) m x

/-- Integrator update of an axis: x + K_i·T·e + (T/T_t)·(u′ − u), clamped. -/
def Lane.integ (l : Lane) (j ax : Nat) (t x e u u' : F32) : F32 :=
  l.clampX j (ffma (fdiv t (l.pf 0x7112 j)) (fsub u' u) (ffma (fmul (l.ki j ax) t) e x))

/-- Adds an injection value at a point and axis. -/
def injAdd (i : Option (Nat × Nat × F32)) (point axis : Nat) (x : F32) : F32 :=
  match i with
  | some (p, a, v) => if p == point && a == axis then fadd x v else x
  | none => x

/-- Values of one control-law sample: errors, and outputs with and without the integrator. -/
structure Law where
  eD : F32
  eQ : F32
  pD : F32
  pQ : F32
deriving DecidableEq, Repr

def Lane.law (l : Lane) (j : Nat) (n : LIn) (i : Option (Nat × Nat × F32)) : Law :=
  let eD := injAdd i 1 0 (fsub (injAdd i 0 0 n.rD) n.bD)
  let eQ := injAdd i 1 1 (fsub (injAdd i 0 1 n.rQ) n.bQ)
  { eD := eD, eQ := eQ, pD := injAdd i 2 0 (fadd (fmul (l.kp j 0) eD) n.fD), pQ := injAdd i 2 1 (fadd (fmul (l.kp j 1) eQ) n.fQ) }

/-- A good sample of a slot in CLOSED, with a residual of a hand-over added to its output. -/
def Lane.lawSample (l : Lane) (j : Nat) (n : LIn) (a : Law) (rD rQ : F32) (lim : F32 → F32 → LOut) : Lane × LOut :=
  let x := l.loop j
  let uD := fadd (fadd a.pD x.xD) rD
  let uQ := fadd (fadd a.pQ x.xQ) rQ
  let o := lim uD uQ
  let xD := if n.still then x.xD else l.integ j 0 n.t x.xD a.eD uD o.uD
  let xQ := if n.still || !n.dual then x.xQ else l.integ j 1 n.t x.xQ a.eQ uQ o.uQ
  (l.setLoop j { x with xD := xD, xQ := xQ, uD := o.uD, uQ := o.uQ, missed := 0 }, o)

/-- Back-calculates the integrator so that the law starts from an output. -/
def Lane.track (l : Lane) (j : Nat) (a : Law) (uD uQ : F32) : Lane :=
  let x := l.loop j
  l.setLoop j { x with xD := l.clampX j (fsub uD a.pD), xQ := l.clampX j (fsub uQ a.pQ) }

/-- The first sample of the new mode (R175): d0, the integrator, the residual and the length of the blend. -/
def Lane.blendInit (l : Lane) (j : Nat) (n : LIn) (a : Law) (pD pQ : F32) : Lane :=
  let x := l.loop j
  match x.blend with
  | none => l
  | some b =>
    let d := fsub x.uD pD
    let q := if n.dual then fsub x.uQ pQ else f0
    let law := x.mode == .law
    let xD := if law then l.clampX j d else f0
    let xQ := if law then l.clampX j q else f0
    let floor := fmul (fq 2 100) (l.pf 0x711C j)
    let ns := max 1 (fto (fdiv (fq (l.p 0x7130 j) 10000) n.t) 1 1).toNat
    let lim := fmul (l.pf 0x7131 j) (l.outRange j)
    let l := l.setLoop j { x with xD := xD, xQ := xQ, blend := some { b with rD := fsub d xD, rQ := fsub q xQ, n := ns, k := 0, e0D := fmax (fabs a.eD) floor, e0Q := fmax (fabs a.eQ) floor, satN := 0 } }
    let l := if fgt (fabs d) lim then l.event 0x7103 d.toNat else l
    if n.dual && fgt (fabs q) lim then l.event 0x7103 q.toNat else l

/-- The slot goes back to the old mode (R176), or to FALLBACK where the old mode cannot run. The missed count stands: only a good sample clears it (R177). A control law needs a good sample to go back to, and waits for it until its missed count is spent. -/
def Lane.blendRevert (l : Lane) (j : Nat) (n : LIn) (a : Law) (strInst : Nat) : Lane :=
  let x := l.loop j
  match x.blend with
  | none => l
  | some b =>
    let spent := decide (l.p 0x7120 j ≤ x.missed + 1)
    let wait := b.old == .law && n.missed && !spent && !l.srcLost j
    let l := if wait then l else l.eventU 0x7104
    match b.old with
    | .law =>
      if wait then l
      else if l.srcLost j || n.missed then l.loopFall j
      else (l.setLoop j { x with st := .closed, mode := .law, blend := none, told := false }).track j a x.uD x.uQ
    | .stream => if (l.stream strInst).fifo.isEmpty then l.loopFall j else l.setLoop j { x with st := .open_, mode := .stream, blend := none }
    | .hold => l.setLoop j { x with st := .open_, mode := .hold, blend := none }

/-- A BLEND whose n samples have passed leaves to its new mode (R175); one that goes back stays. -/
def LoopSlot.blended (x : LoopSlot) : LoopSlot :=
  match x.blend with
  | some b =>
    if b.n != 0 && b.n ≤ b.k && !b.revert then { x with blend := none, st := if x.mode == .stream then .open_ else .closed, told := x.told && x.mode == .stream }
    else x
  | none => x

/-- A missed sample: the output is repeated, the count rises, the blend counter still advances, and LE_HOLD_N ends the hold (R175, R177, R178, Table LE-10). -/
def Lane.missSample (l : Lane) (j : Nat) : Lane :=
  let x := l.loop j
  let m := x.missed + 1
  let spent := decide (l.p 0x7120 j ≤ m)
  let bl : Option LoopBlend := x.blend.map (fun b => { b with k := b.k + 1, revert := b.revert || spent })
  let l := l.setLoop j ({ x with missed := m, blend := bl, wasMissed := true } : LoopSlot).blended
  if spent && (x.st == .closed || (x.st == .open_ && x.mode == .stream)) then l.loopFall j else l

/-- Instance of the stream that drives a slot's output. -/
def Lane.loopStream (l : Lane) (j : Nat) : Nat := if l.p 0x7100 j == 1 then l.p 0x7101 j else 16 + j

/-- The output of the new mode in BLEND after its first sample, with the tests of R176 and the end of R175. -/
def Lane.blendSample (l : Lane) (j : Nat) (n : LIn) (a : Law) (str : Option LOut) (lim : F32 → F32 → LOut) : Lane × Option LOut :=
  let x := l.loop j
  match x.blend with
  | none => (l, none)
  | some b =>
    let g := fsub f1 (fdiv (fi b.k) (fi (max 1 b.n)))
    let rD := fmul b.rD g
    let rQ := fmul b.rQ g
    let r := match str with
      | some s =>
        let o := lim (fadd s.uD rD) (fadd s.uQ rQ)
        (l.setLoop j { x with uD := o.uD, uQ := o.uQ, missed := 0 }, o, o.sat || s.sat)
      | none =>
        let s := l.lawSample j n a rD rQ lim
        (s.1, s.2, s.2.sat)
    let sat := if r.2.2 then b.satN + 1 else 0
    let k := b.k + 1
    let em := l.pf 0x7132 j
    let wild := fgt (fabs a.eD) (fmul em b.e0D) || (n.dual && fgt (fabs a.eQ) (fmul em b.e0Q))
    let bad := decide (l.p 0x7133 j ≤ sat) || wild
    (r.1.setLoop j ({ r.1.loop j with blend := some { b with k := k, satN := sat, revert := bad } } : LoopSlot).blended, some r.2.1)

/-- A result with a NaN or an infinity (R158). -/
def LOut.bad (o : LOut) : Bool := !ffinite o.uD || !ffinite o.uQ || o.duty.any (fun d => !ffinite d)

/-- What a good sample does in each state; none leaves the output as it is. -/
def Lane.goodSample (l : Lane) (j : Nat) (n : LIn) (a : Law) (str : Option LOut) (lim : F32 → F32 → LOut) : Lane × Option LOut :=
  let x := l.loop j
  match x.st with
  | .disabled => (l, none)
  | .open_ =>
    if x.mode == .stream then
      match str with
      | some s =>
        let l := l.setLoop j { x with uD := s.uD, uQ := s.uQ, missed := 0 }
        (l.track j a s.uD s.uQ, some s)
      | none => (l.missSample j, none)
    else ((l.setLoop j { x with missed := 0 }).track j a x.uD x.uQ, some (lim x.uD x.uQ))
  | .closed => let r := l.lawSample j n a f0 f0 lim; (r.1, some r.2)
  | .blend =>
    if x.mode == .stream && str.isNone then (l.missSample j, none)
    else
      let l := if (x.blend.map LoopBlend.n) == some 0 then
          (match str with | some s => l.blendInit j n a s.uD s.uQ | none => l.blendInit j n a a.pD a.pQ)
        else l
      l.blendSample j n a str lim
  | .fallback =>
    let u := l.fallOut j
    (l.setLoop j { x with uD := u.1, uQ := u.2, missed := if n.missed then x.missed + 1 else 0, wasMissed := n.missed }, some (lim u.1 u.2))

/-- The values that a capture can select (Table LE-9). -/
def Lane.loopVals (l : Lane) (j : Nat) (n : LIn) (a : Law) (i : Option (Nat × Nat × F32)) : List F32 :=
  let x := l.loop j
  [n.rD, n.rQ, n.bD, n.bQ, a.eD, x.xD, x.uD, if n.dual then x.uQ else f0, (match i with | some (_, _, v) => v | none => f0), n.fD, n.w, fq n.th 65536, n.vb]

/-- One sample of a loop slot, its commands applied and its inputs taken: a revert, the sample itself with its numeric check, the capture. -/
def Lane.loopSample (l : Lane) (j : Nat) (n : LIn) (readStr : Lane → Lane × Option LOut) (lim : F32 → F32 → LOut) : Lane × Option LOut :=
  let l := if ((l.loop j).st == .closed || (l.loop j).st == .blend) && l.srcLost j then l.loopFall j else l
  let it := if (l.loop j).st == .closed then l.injTake j n.t else (l, none, false)
  let l := it.1
  let inj := it.2.1
  let n := { n with missed := n.missed || it.2.2 }
  let a := l.law j n inj
  let l := if ((l.loop j).blend.map LoopBlend.revert) == some true then l.blendRevert j n a (l.loopStream j) else l
  let x := l.loop j
  let l := l.setLoop j { x with seq := (x.seq + 1) % 65536, wasMissed := false, cmdRef := n.rD, before := x.missed, wasInj := inj.isSome }
  let sr := if x.mode == .stream && (x.st == .open_ || x.st == .blend) then readStr l else (l, none)
  let l := sr.1
  let r := if n.missed && x.st != .fallback then (l.missSample j, none) else l.goodSample j n a sr.2 lim
  let bad := (match r.2 with | some o => o.bad | none => false) || !ffinite (r.1.loop j).xD || !ffinite (r.1.loop j).xQ
  let r : Lane × Option LOut := if bad then ((l.missSample j).eventU 0x7102, none) else r
  let l := r.1
  let l := l.setLoop j { l.loop j with vals := l.loopVals j n a inj }
  (l.capSample j inj.isSome, r.2)

/-! ### Current slots (R138, R159, R160, R164) -/

/-- Largest duty of a half-bridge: 1, or the cap of R47 where the output of this sample loads in a period that carries a refresh pulse: centre-aligned the period that runs, edge-aligned the next one. Whether BST_LOW asks for a pulse there shows only at its start, so the loop sees that cap one period later: DESIGN CHOICE (log entry 168). -/
def Lane.dMax (l : Lane) (ch : Nat) : F32 :=
  if (if l.p 0x3100 (l.tbOf ch) == 1 then (l.hb ch).refreshing else l.refreshWanted ch 0 || (l.hb ch).refreshing && l.p 0x2110 ch == 2) then fq (l.refreshCap ch) (l.periodFine (l.tbOf ch)) else f1

/-- The limits and the duties of a dq output (R160). -/
def Lane.limitDq (l : Lane) (k j : Nat) (r : Rotor) (uD uQ : F32) : LOut :=
  let vm := fdiv (fmul (l.pf 0x7118 j) r.vb) sqrt3
  let d := lclamp (fneg vm) vm uD
  let qm := fsqrt (fsub (fmul vm vm) (fmul d d))
  let q := lclamp (fneg qm) qm uQ
  let v := l.unpark k r.thV d q
  let v0 := fdiv (fadd (fmax v.1 (fmax v.2.1 v.2.2)) (fmin v.1 (fmin v.2.1 v.2.2))) (fi 2)
  let comp := l.p 0x7119 j == 1
  let raw (phase : Nat) (x i : F32) : F32 :=
    let y := fadd (fq 1 2) (fdiv (fsub x v0) r.vb)
    if comp then fadd y (fmul (fsign i) (l.dtRatio k phase)) else y
  let hs := (l.motor k).cfg.hbs
  let ds := [raw 0 v.1 r.i.1, raw 1 v.2.1 r.i.2.1, raw 2 v.2.2 r.i.2.2]
  let cs := (ds.zip hs).map (fun (p : F32 × Nat) => lclamp f0 (l.dMax p.2) p.1)
  match cs == ds, cs with
  | false, [a, b, c] =>
    let w (x : F32) : F32 := fmul (fsub x (fq 1 2)) r.vb
    let t := l.park r.thV (clarke (w a, w b, w c))
    { uD := t.1, uQ := t.2, duty := cs, sat := true }
  | _, _ => { uD := d, uQ := q, duty := cs, sat := fge (fabs uD) vm || fge (fabs uQ) qm }

/-- Streamed duties of a motor slot (Table MB-15, R355), with the dq output that they stand for. -/
def Lane.streamDuty (l : Lane) (k : Nat) (r : Rotor) (v : StreamVal) : LOut :=
  let hs := (l.motor k).cfg.hbs
  let ds := ([v.v0, v.v1, v.v2, v.v3].zip hs).map (fun (p : F32 × Nat) => p.1)
  let cs := (ds.zip hs).map (fun (p : F32 × Nat) => lclamp f0 (l.dMax p.2) p.1)
  match (l.motor k).cfg.kind, cs with
  | .threePhase, [a, b, c] =>
    let w (x : F32) : F32 := fmul (fsub x (fq 1 2)) r.vb
    let t := l.park r.thV (clarke (w a, w b, w c))
    { uD := t.1, uQ := t.2, duty := cs, sat := cs != ds }
  | _, _ => { uD := f0, uQ := f0, duty := cs, sat := cs != ds }

/-- Writes the duties of a slot to its shadows and keeps the voltage that they apply (R143, R160). -/
def Lane.writeDuty (l : Lane) (k : Nat) (r : Rotor) (o : LOut) : Lane :=
  let hs := (l.motor k).cfg.hbs
  let l := l.eachOf (List.range o.duty.length) (fun i l => match hs[i]? with
    | some ch => l.shadowWrite ch (l.dutyFine ch (o.duty.getD i f0))
    | none => l)
  match o.duty with
  | a :: b :: c :: _ =>
    let w (x : F32) : F32 := fmul (fsub x (fq 1 2)) r.vb
    let v := clarke (w a, w b, w c)
    l.setMotor k { l.motor k with vA := v.1, vB := v.2 }
  | _ => l

/-- The current reference of a slot: its latch within the current limit; zero where R140 and R151 hold it at zero. -/
def Lane.iqRef (l : Lane) (k j : Nat) : F32 :=
  let m := l.motor k
  let lim := fmul (fmul (l.pf 0x6102 k) l.tempLimit) (l.rampFactor k)
  if m.syncLost || m.fly == .zeroRun || (m.angleSrc == 3 && !m.locked) then f0 else fclamp (fneg lim) lim (l.loop j).ref

/-- The reference latch takes the newest value whose read point has come by the slot's input latch (R168, Table LE-2). -/
def Lane.refTake (l : Lane) (j : Nat) : Lane :=
  let x := l.loop j
  let due := x.refNext.filter (fun e => e.2 ≤ x.latchAt)
  match due.getLast? with
  | some e => l.setLoop j { x with ref := e.1, refNext := x.refNext.filter (fun e => x.latchAt < e.2) }
  | none => l

/-- Mechanical speed that the chain above a slot commands: the reference of its nearest speed slot, or the output of a position slot; none without such a slot (R130). -/
def Lane.cmdAbove (l : Lane) : Nat → Nat → Option F32
  | 0, _ => none
  | f + 1, j =>
    let u := l.p 0x7105 j
    if 32 ≤ u then none
    else match l.p 0x7100 u with
      | 2 => some (l.loop u).cmdRef
      | 3 => some (l.loop u).uD
      | _ => l.cmdAbove f u

/-- The same, electrical. -/
def Lane.cmdSpeed (l : Lane) (k j : Nat) : Option F32 := (l.cmdAbove 6 j).map (fun w => fmul w (fi (l.p 0x6100 k)))

/-- The values that a sample keeps in a motor slot are numbers. -/
def MotSlot.finite (m : MotSlot) : Bool :=
  [m.omega, m.id, m.iq, m.vbus, m.oIa, m.oIb, m.oEa, m.oEb, m.thHat, m.wHat, m.thE, m.strW, m.lastW.getD f0].all ffinite

/-- The angle, the currents and the observer of a sample. Where they are no numbers the slot's state of the previous sample stands and the sample is missed with LOOP_NUMERIC (R158). -/
def Lane.rotorSafe (l : Lane) (k : Nat) (wCmd : Option F32) : Lane × Rotor :=
  let r := l.rotor k wCmd
  if (r.1.motor k).finite then r
  else
    let m := l.motor k
    let l := if m.angleSrc == 5 then (l.strRead k).1.setMotor k m else l
    (l.eventU 0x7102, { missed := true, vb := m.vbus, th := m.thetaS.toNat, thV := m.thetaS.toNat, w := m.omega, id := m.id, iq := m.iq })

def Lane.curSample (l : Lane) (j : Nat) : Lane :=
  let k := l.p 0x7101 j
  let l := (l.loopCmds j).refTake j
  let l := ((l.amps k) ++ [l.busSrc k]).foldl (fun l s => l.noise s) l
  let rr := l.rotorSafe k (l.cmdSpeed k j)
  let l := rr.1
  let r := rr.2
  let m := l.motor k
  let dec := l.p 0x7114 j == 1
  let zero := m.syncLost || m.fly == .zeroRun
  let n : LIn :=
    { missed := r.missed, rD := if zero then f0 else l.pf 0x711A j, rQ := l.iqRef k j, bD := r.id, bQ := r.iq,
      fD := if dec then fneg (fmul (fmul r.w (l.pf 0x6105 k)) r.iq) else f0,
      fQ := if dec then fmul r.w (fadd (fmul (l.pf 0x6104 k) r.id) (l.pf 0x6106 k)) else f0,
      w := r.w, th := r.th, vb := r.vb, t := l.loopT j, dual := true,
      still := m.laneSafe || m.cfg.hbs.any (fun c => (l.pch c).tripped) }
  let rd (l : Lane) : Lane × Option LOut :=
    let s := l.streamRead k
    (s.1, s.2.map (l.streamDuty k r))
  let lim := l.limitDq k j r
  let s := l.loopSample j n rd lim
  match s.2 with
  | some o => s.1.writeDuty k r o
  | none => s.1

/-- Slots of a sequence in LE_SEQ_POS order. -/
def Lane.seqSlots (l : Lane) (trig : Nat) : List Nat :=
  (List.range 32).flatMap (fun p => (List.range 32).filter (fun j => l.p 0x7100 j != 0 && l.p 0x7102 j == trig && l.p 0x7103 j == p))

/-- Engine cycles of a template (Table LE-1). -/
def loopCycles : Nat → Nat
  | 1 => 96 | 2 => 48 | 3 => 56 | 4 => 64 | _ => 0

/-- A slot runs on every LE_RATE_DIV-th trigger (R164), the first time at the nth trigger counted from its start at 0: DESIGN CHOICE (log entry 177). It latches its inputs at its start; a disabled slot does not run. -/
def Lane.slotDue (l : Lane) (j start : Nat) (f : Lane → Lane) : Lane :=
  let x := l.loop j
  let d := (x.div + 1) % max 1 (l.p 0x7104 j)
  if d == 0 && x.st != .disabled then f (l.setLoop j { x with div := d, latchAt := start }) else l.setLoop j { x with div := d }

/-- Runs slots back to back from an instant (R164, R165). -/
def Lane.runSlots (l : Lane) (f : Nat → Lane → Lane) : Nat → List Nat → Lane
  | _, [] => l
  | t, j :: r => (l.slotDue j t (f j)).runSlots f (t + loopCycles (l.p 0x7100 j)) r

/-- A sequence starts, or waits for a busy engine (R167): the instant at which its slots begin. -/
def Lane.seqStart (l : Lane) (first : Nat) : Lane × Nat :=
  if l.le.busyTo ≤ first then (l, first)
  else
    let ts := recent l.now (sec 1) l.le.lateTimes
    let l := ({ l with le.lateTimes := ts }).eventU 0x7105
    let l := if 3 ≤ ts.length then (if l.st == .authority then (l.internalFault).failSilent 1 else l.internalFault) else l
    (l, l.le.busyTo)

/-- A sample whose output misses its load point counts as a missed sample, once, in a current slot that the sequence carried (R167, R176, R177). -/
def Lane.lateSample (l : Lane) (j : Nat) : Lane :=
  let x := l.loop j
  if x.st == .disabled || x.wasMissed || x.div != 0 then l
  else
    let spent := decide (l.p 0x7120 j ≤ x.before + 1)
    let l := l.setLoop j { x with missed := x.before + 1, wasMissed := true, blend := x.blend.map (fun (b : LoopBlend) => { b with revert := b.revert || spent }) }
    if spent && (x.st == .closed || (x.st == .open_ && x.mode == .stream)) then l.loopFall j else l

/-- The sequence of a timebase (R164): the slots run back to back, and the last shadow write sets the ready flag 20 ns before the end. -/
def Lane.currentSequence (l : Lane) (tb : Nat) (ds : List (Option DsRes)) : Lane :=
  let js := (l.seqSlots tb).filter (fun j => l.p 0x7100 j == 1)
  if l.pwm.halted || !mayDrive l.st || js.isEmpty then l
  else
    let l := (l.dsTake ds).capFlush
    let b := l.seqStart (l.now + 88)
    let l := b.1.runSlots (fun j l => l.curSample j) b.2 js
    let stop := b.2 + 96 * js.length
    let l := if (l.tbase tb).burst then l.burstDone tb (stop - 8) else l
    { l with le.busyTo := stop }

def execCurrentSequence (a : At) (tb : Nat) (ds : List (Option DsRes)) (s : State) : Out :=
  run (tb < 8) s a (fun l => l.currentSequence tb ds)

/-- The load point: what a burst that came too late leaves of its samples (R68, R167). -/
def Lane.loadTick (l : Lane) (tb : Nat) : Lane :=
  let b := l.tbase tb
  let late := !l.pwm.frozen && b.ready && decide (l.now < b.readyAt + 80)
  let l := l.loadPoint tb
  if late then l.eachOf ((List.range 32).filter (fun j => l.p 0x7100 j == 1 && l.p 0x7102 j == tb)) (fun j l => l.lateSample j) else l

def execShadowLoad (a : At) (tb : Nat) (s : State) : Out := run (tb < 8) s a (fun l => l.loadTick tb)

/-! ### Outer slots (R161 to R163, R165) -/

/-- Mechanical speed of a source from stamped values, rad/s, and its validity (R161, Table PF-7). -/
def Lane.rawSpeed (l : Lane) (k code : Nat) : F32 × Bool :=
  let p := fi (max 1 (l.p 0x6100 k))
  if code == 0xFF then (fdiv (l.motor k).omega p, (l.angLost k).isNone && (l.motor k).speedOk)
  else if code < 6 then (fdiv (l.hall code).snap.speed p, (l.hall code).snap.valid && !l.posLost code)
  else if code < 10 then (fdiv (l.encAng k (code - 8)).w p, (l.enc (code - 8)).snap.valid && !l.posLost code)
  else
    let q := (l.pp (code - 16)).shown
    (fdiv (l.serAng k (code - 16)).w p, q.valid && !q.err && !q.stale && !l.posLost code)

/-- Inputs of an outer slot. -/
def Lane.outerIn (l : Lane) (j : Nat) : Lane × LIn :=
  let k := l.endSlot j
  let src := l.p 0x7106 j
  let up := l.upstream j
  let t := l.loopT j
  let kff := l.pf 0x7113 j
  let gen := decide (0x40 ≤ l.p 0x7105 j) && decide (l.p 0x7105 j ≤ 0x47)
  match l.p 0x7100 j with
  | 2 =>
    let w := l.rawSpeed k src
    let ref := if gen then up.2.1 else up.1
    (l, { missed := !w.2, rD := ref, bD := w.1, fD := fmul kff up.2.2, w := w.1, t := t })
  | 3 =>
    let r := l.unwrapPos j k src
    let l := r.1
    let raw := fmul (fq (l.loop j).acc (2 ^ 32)) (l.pf 0x7107 j)
    let pos := if src == 0xFF then fdiv raw (fi (max 1 (l.p 0x6100 k))) else raw
    (l, { missed := !r.2, rD := up.1, bD := pos, fD := fmul kff up.2.1, t := t })
  | _ =>
    let wv := (l.motor k).cfg.wheel.getD 0
    let w := l.adcLatch (src - 0x10)
    let l := if src == 0x80 then l else l.noise (src - 0x10)
    let fb := if src == 0x80 then l.estUse wv else fmul (fq (3 * (w.toNat % 4096 : Nat)) 4096) (l.pf 0x7107 j)
    (l, { missed := src != 0x80 && !wValid w, rD := up.1, bD := fb, fD := fmul kff up.1, t := t })

/-- One sample of an outer slot. A position slot passes the acceleration of its upstream source on while its control law runs; held and safe outputs stand (R162, Tables LE-4 and LE-5). -/
def Lane.outerSample (l : Lane) (j : Nat) : Lane :=
  let l := l.loopCmds j
  let q := l.outerIn j
  let n := q.2
  let l := q.1
  let lo := l.pf 0x7115 j
  let hi := l.pf 0x7116 j
  let lim (x : F32) : LOut := { uD := lclamp lo hi x, uQ := f0, sat := fle x lo || fge x hi }
  let rd (l : Lane) : Lane × Option LOut :=
    let s := l.streamRead (16 + j)
    (s.1, s.2.map (fun v => lim v.v0))
  let hold := (l.loop j).uQ
  let s := l.loopSample j n rd (fun d _ => lim d)
  let l := s.1
  let y := l.loop j
  if l.p 0x7100 j == 3 && s.2.isSome && y.mode == .law && (y.st == .closed || y.st == .blend) then l.setLoop j { y with uQ := (l.upstream j).2.2 }
  else if l.p 0x7100 j == 3 && y.mode == .hold then l.setLoop j { y with uQ := if y.st == .fallback then y.uQ else hold }
  else l

/-- The outer slots run back to back in sequence order (R165), numbered by the outer period of network time where that is known (log entry 46); a debug halt stops the engine (R181). -/
def Lane.outerLoops (l : Lane) (ds : List (Option DsRes)) : Lane :=
  let js := (l.seqSlots 15).filter (fun j => l.p 0x7100 j != 1)
  if l.pwm.halted then l
  else
    let l := (l.dsTake ds).capFlush
    let b := l.seqStart l.now
    let l := b.1.runSlots (fun j l => l.outerSample j) b.2 js
    let stop := b.2 + (js.map (fun j => loopCycles (l.p 0x7100 j))).sum
    let idx := if l.net.known then (l.cyc * us (l.np 0xB101) + ((l.now : Int) - l.cycRef.2 + l.net.offA).toNat) / max 1 l.outerTicks else l.le.outerIdx + 1
    { l with le.busyTo := max l.le.busyTo stop, le.outerEnd := stop, le.outerAt := l.now, le.outerIdx := idx }

/-! ### Enable and disable (R134, R169, R180, R203) -/

/-- A loop slot is disabled with its work in flight (R180). -/
def Lane.loopDisable (l : Lane) (j : Nat) : Lane :=
  let l := (l.injAbort j).capEnd j
  let x := l.loop j
  if x.st == .disabled then l
  else
    let cs := x.cmds
    let l := (l.streamFlush (l.loopStream j)).streamFlush (48 + j)
    let l := l.setLoop j { x with st := .disabled, mode := .hold, xD := f0, xQ := f0, uD := l.safeOut j, uQ := f0, missed := 0, blend := none, inj := none, cap := none, cmds := [], fbDone := false, ref := f0, refNext := [] }
    cs.foldl (fun l c => match c.1 with
      | .capture _ => l.answerOpt c.2 stRefusedState
      | _ => l.answerOpt c.2 stAbortedDisable) l

/-- A loop slot enters OPEN at its safe output (R169). -/
def Lane.loopEnable (l : Lane) (j : Nat) : Lane :=
  let x := l.loop j
  if x.st == .disabled && l.p 0x7100 j != 0 then
    l.setLoop j { x with st := .open_, mode := .hold, xD := f0, xQ := f0, uD := l.safeOut j, uQ := f0, missed := 0, lastRaw := none }
  else l

/-- The function that owns a loop slot or a motor slot: steering for a steer winding, service braking for a brake winding, slack adjustment for an adjuster, retarder supervision for an external stage with a retarder channel (log entry 38). -/
def SlotCfg.owner (c : SlotCfg) : Option Nat :=
  match c.kind with
  | .threePhase => some (match c.winding with | .steer => 0 | .brake => 1)
  | .stepper => if c.wheel.isSome then some 2 else none
  | .external => if c.rtCh.isSome then some 4 else none
  | _ => none

def Lane.loopOwner (l : Lane) (j : Nat) : Option Nat :=
  match l.motorOf j with
  | some k => (l.motor k).cfg.owner
  | none => none

/-- The owning function closes its slots that stand in OPEN on a held output (R169, log entry 38). -/
def Lane.fnClose (l : Lane) (f : Nat) : Lane :=
  l.each 32 (fun j l =>
    let x := l.loop j
    if l.p 0x7100 j != 0 && l.loopOwner j == some f && x.st == .open_ && x.mode == .hold && x.cmds.isEmpty then l.loopPush j .close none else l)

/-- The motor data of a three-phase slot is present and in range (R134), and its angle source is one that the lane may use (R140). -/
def Lane.motOk (l : Lane) (k : Nat) : Bool :=
  (l.motor k).cfg.kind != .threePhase ||
  ([0x6100, 0x6101, 0x6102, 0x6103, 0x6104, 0x6105, 0x6106, 0x6107].all (fun id => match prow id with | some r => r.fits (l.pvals id k) | none => false) &&
   l.angleFits k (l.p 0x6110 k) (l.p 0x6111 k) && (l.p 0x6114 k == 0 || (l.table (l.p 0x6114 k - 1)).valid))

/-- RAW allows the channels of a timebase (R75): external stages, low-side-only slots, or no slot at all. -/
def Lane.rawOk (l : Lane) (tb : Nat) : Bool :=
  (l.tbChs tb).all (fun c => l.extCh c || l.lowOnly c || (l.slotOfCh c).isNone)

/-- A slot enable starts a position source anew, which no other enabled slot reads: net transitions, the first Z edge, the loss tests and the freeze watch (R108, R109, R112, R113, R127, R130, log entry 144). -/
def Lane.srcFresh (l : Lane) (c : Nat) : Lane :=
  let l := l.setFrz c {}
  if c < 6 then
    let h := l.hall c
    (l.setHall c { h with net := 0, snap := { h.snap with net := 0 }, before := { h.before with net := 0 }, lost := false, illTimes := [], skips := [] }).cmpJump c 0
  else if c == 8 || c == 9 then l.setEnc (c - 8) { l.enc (c - 8) with zSeen := false, zFirst := true, lost := false, quadTimes := [], zMis := 0 }
  else l

/-- The command of a precharge (R48): the low side is on for GD_BST_PRECHARGE_T, after its dead time where it is still off. -/
def Lane.prechargeOf (l : Lane) (h : Nat) : Nat × Nat :=
  let dt := if (l.rawSide h (fine l.now)).1 == some false then 0 else l.deadOf h false
  (fine l.now, fine (l.now + us (l.p 0x2112 h)) + dt)

/-- What a slot enable starts (R40, R48, R113, R127, R169). -/
def Lane.slotEnable (l : Lane) (k : Nat) : Lane :=
  let m := l.motor k
  let integ := m.cfg.integrated
  let slow := !m.speedOk || flt (fabs m.omega) (l.asThr k)
  let l := l.eachOf m.cfg.hbs (fun h l =>
    if integ then
      let l := (l.codesStart (2 * h)).codesStart (2 * h + 1)
      l.setHb h { l.hb h with precharge := if slow then some (l.prechargeOf h) else none, waitBst := !slow && (l.hb h).bstUv }
    else l)
  let dev := l.p 0x6111 k
  let src := l.p 0x6110 k
  let l := l.setMotor k { cfg := m.cfg, enabled := true, laneSafe := true, short := m.short, ov2 := m.ov2, windFault := m.windFault, angleSrc := src, angleDev := dev, omega := m.omega, speedOk := m.speedOk, lastW := m.lastW, holdAt := none }
  let l := l.eachOf ((l.srcCodes k).filter (fun c => (List.range 8).all (fun i => i == k || !(l.motor i).enabled || !(l.srcCodes i).contains c))) (fun c l => l.srcFresh c)
  let l := l.setStepper k { l.stepper k with off := false, rampAt := none, restAt := l.now, holdM := match l.sgOf k with | some i => (l.sgen i).pos l.now / 2 ^ 48 | none => 0 }
  let js := (l.loopsOf k).filter (fun j => l.p 0x7100 j == 1)
  let l := l.eachOf js (fun j l => l.loopEnable j)
  match m.cfg.owner with
  | some f => if (l.func f).enabled then l.fnClose f else l
  | none => l

/-- What a slot disable ends (R147, R180, R203): the output of the sample in progress still loads, and the lane-safe state follows from the load point after it. -/
def Lane.slotDisable (l : Lane) (k : Nat) : Lane :=
  let m := l.motor k
  let tail := l.slotAct k == .run
  let l := l.eachOf ((l.loopsOf k).filter (fun j => l.p 0x7100 j == 1)) (fun j l => l.loopDisable j)
  let l := l.streamFlush (8 + k)
  let l := match l.refGen k with
    | some g => (l.genHalt g stAbortedDisable).streamFlush (match l.sgOf k with | some i => 88 + i | none => 80 + g)
    | none => l
  let l := l.setMotor k { l.motor k with enabled := false, syncLost := false, fly := .none, blend := none, probe := none }
  let l := l.takeSafe k
  let l := l.eachOf m.cfg.hbs (fun c l => l.setPch c { l.pch c with carryHi := 0, carryLo := 0 })
  l.setMotor k { l.motor k with tail := tail }

def Lane.hMotEnable (m : Msg) (l : Lane) : Lane × Reply :=
  let k := m.u8 0
  let x := l.motor k
  let on := m.u8 1 == 1
  let tested := x.cfg.integrated && x.cfg.hbs.any l.hbTested
  guarded l [(on && decide (k < 8) && tested, stBusySelftest),
    (on && decide (k < 8) && (l.entering || x.cfg.kind == .none), stRefusedState),
    (decide (8 ≤ k) || decide (1 < m.u8 1) || (on && (!l.motOk k || (l.p 0x3114 (l.slotTb k) == 2 && !l.rawOk (l.slotTb k)))), stBadParam)] (fun l =>
    if on then (if x.enabled then done l.idleToRun else done (l.idleToRun.slotEnable k))
    else if x.enabled then done (l.slotDisable k) else done l)

def execMotEnable (a : At) (m : Msg) (s : State) : Out := run true s a (fun l => l.serve 0x20 m (Lane.hMotEnable m))

/-! ### Losses that reach the loops (R108, R125, R130, R178) -/

def execHallIllegal (a : At) (group : Nat) (e : HallEdge) (s : State) : Out :=
  run (group < 6 && e.code < 8) s a (fun l => (l.hallBad group e).loopsLost)

def execPtLost (a : At) (port : Nat) (s : State) : Out := run (port < 6) s a (fun l => (l.ptLost port).loopsLost)

/-- The window of R130 of a source has passed without the motion that it asks for. -/
def Lane.codeFrozen (l : Lane) (c : Nat) : Lane :=
  let f := l.frz c
  match f.since with
  | some t =>
    if !f.frozen && l.due (t + ms f.win) && f.moved < f.dmin then ((l.setFrz c { f with frozen := true }).event 0x510A c).loopsLost else l
  | none => l

/-- The sources that a slot judges. -/
def Lane.posFrozen (l : Lane) (k : Nat) : Lane := l.eachOf (l.frzCodes k) (fun c l => l.codeFrozen c)

def execPosFrozen (a : At) (slot : Nat) (s : State) : Out := run (slot < 8) s a (fun l => l.posFrozen slot)

/-- LE_STATE (Table LE-7). -/
def Lane.leState (l : Lane) (j : Nat) : Nat := min 255 (l.loop j).missed * 256 + l.p 0x7100 j * 16 + (l.loop j).st.code

end Sys2Proof.Machine
end

