-- ==== Sys2Proof/Machine/ParamChecks.lean ====
section
/-! DEFINITION. The checks that a parameter value takes part in: state conditions (R366), the gate-drive estimate (R60), timebases, triggers and converters (R62 to R65, R69, R75, R93, R195), position ports (R122, R124), motor data (R142 to R149), the loop schedule (R156, R165, R166), ticks (R183, R190), reference pins (R199), the network cycle (R276, R315, R322), the queues (R333), and ranges that name another parameter (R155, R182, R204, R232; the ends of a range are held against each other when either is written, every other relation when the parameter is written whose row states it). A lane is checked as it would stand with the new values. -/

namespace Sys2Proof.Machine

/-- Sum of fractions with positive denominators. -/
def fracSum (l : List (Nat × Nat)) : Nat × Nat := l.foldl (fun a b => (a.1 * b.2 + b.1 * a.2, a.2 * b.2)) (0, 1)

/-- A fraction rounded to the nearest whole number. -/
def fracRound (x : Nat × Nat) : Nat := (2 * x.1 + x.2) / (2 * x.2)

/-! ### Gate-drive estimate (R34, R60) -/

/-- Source currents of the codes 0 to 63 in nA: 0.1 A × 60^(k/63), rounded (R34). -/
def sourceCurrents : List Nat := [
  100000000, 106714792, 113880469, 121527306, 129687612, 138395865, 147688860, 157605860, 168188766, 179482292, 191534155, 204395276, 218119994, 232766298, 248396071, 265075351,
  282874610, 301869052, 322138932, 343769892, 366853326, 391486764, 417774287, 445826962, 475763316, 507709834, 541801494, 578182339, 617006081, 658436758, 702649418, 749830866,
  800180450, 853910905, 911249248, 972437741, 1037734915, 1107416658, 1181777385, 1261131280, 1345813625, 1436182214, 1532618865, 1635531037, 1745353547, 1862550411, 1987616801, 2121081138,
  2263507329, 2415497143, 2577692756, 2750779468, 2935488593, 3132600552, 3342948170, 3567420193, 3806965045, 4062594837, 4335389638, 4626502043, 4937162041, 5268682213, 5622463275, 6000000000]

/-- Sink currents of the codes 0 to 63 in nA: 0.15 A × (160/3)^(k/63), rounded (R34). -/
def sinkCurrents : List Nat := [
  150000000, 159773201, 170183173, 181271402, 193082081, 205662282, 219062141, 233335064, 248537935, 264731343, 281979828, 300352132, 319921478, 340765858, 362968347, 386617432,
  411807366, 438638541, 467217894, 497659324, 530084156, 564621617, 601409356, 640593988, 682331681, 726788781, 774142468, 824581470, 878306808, 935532604, 996486927, 1061412710,
  1130568711, 1204230549, 1282691801, 1366265169, 1455283733, 1550102274, 1651098685, 1758675485, 1873261416, 1995313156, 2125317138, 2263791488, 2411288089, 2568394783, 2735737712, 2913983816,
  3103843488, 3306073404, 3521479545, 3750920404, 3995310407, 4255623562, 4532897336, 4828236793, 5142818997, 5477897702, 5834808351, 6214973399, 6619907976, 7051225935, 7510646276, 8000000000]

/-- The estimate counts a half-bridge as enabled (R60). -/
def Lane.estHb (l : Lane) (k : Nat) : Bool := (l.slotOfHb k).isSome || l.p 0x2130 k == 1

/-- Gate channels that are driven: both of a counted half-bridge, the low side alone of a low-side-only slot (R60, R486). Channel 2k is the high side of half-bridge k, 2k + 1 its low side. -/
def Lane.drivenCh (l : Lane) : List Nat :=
  (List.range 32).filter (fun ch => l.estHb (ch / 2) && !(ch % 2 == 0 && l.lowOnly (ch / 2)))

/-- Gate power of a channel, Q_G × V_GD × f, in pW. -/
def Lane.gatePower (l : Lane) (ch : Nat) : Nat × Nat := (l.p 0x2150 ch * 4800000000000, max 1 (l.periodTicks (l.tbOf (ch / 2))))

/-- The share k of the driver at a current: R_drv / (R_drv + R_G,ext + R_G,int) with R_drv = 12 V / 2I (R60). -/
def driveShare (i r : Nat) : Nat × Nat := (60000000000, 60000000000 + i * r)

/-- P_int in pW (R60). -/
def Lane.pInt (l : Lane) : Nat × Nat :=
  fracSum ((l.drivenCh.flatMap (fun ch =>
      let g := l.gatePower ch
      let r := l.p 0x2151 ch + l.p 0x2152 ch
      let kOn := driveShare (sourceCurrents.getD (l.p 0x2104 ch) 0) r
      let kOff := driveShare (sinkCurrents.getD (l.p 0x2106 ch) 0) r
      [(g.1 * kOn.1, 2 * g.2 * kOn.2), (g.1 * kOff.1, 2 * g.2 * kOff.2)])) ++
    [(8000000000 * ((List.range 16).filter l.estHb).length + 10000000000 * ((List.range 4).filter (fun o => l.p 0x2140 o != 0xFF)).length, 1)])

/-- VGD load in pW (R60). -/
def Lane.vgdLoad (l : Lane) : Nat × Nat := fracSum ((192000000000, 1) :: l.drivenCh.map l.gatePower)

/-- 3.5 W and 6.0 W hold (R32, R42, R60). -/
def Lane.budgetOk (l : Lane) : Bool :=
  let p := l.pInt
  let v := l.vgdLoad
  decide (p.1 ≤ 3500000000000 * p.2) && decide (v.1 ≤ 6000000000000 * v.2)

/-- GD_PWR_EST in mW, rounded to the nearest (log entry 71). -/
def Lane.pwrEst (l : Lane) : Nat := let p := l.pInt; fracRound (p.1, p.2 * 1000000000)

/-! ### Timebases -/

/-- 10 µs to 500 µs (R62). -/
def Lane.periodOk (l : Lane) (tb : Nat) : Bool := decide (4000 ≤ l.periodTicks tb) && decide (l.periodTicks tb ≤ 200000)

/-- With PWM_SYNC_SRC = 1 the network cycle is a whole multiple of the period of timebase 0 and of the outer period (R65, R165). -/
def Lane.syncOk (l : Lane) : Bool :=
  l.p 0x3104 == 0 || (us (l.p 0xB101) % max 1 (l.periodTicks 0) == 0 && us (l.p 0xB101) % max 1 l.outerTicks == 0)

/-- The outer period is at least 100 µs (R165). -/
def Lane.outerOk (l : Lane) : Bool := decide (us 100 ≤ l.outerTicks)

/-- All half-bridges of a slot share one timebase (R64). -/
def Lane.tbShared (l : Lane) : Bool :=
  (List.range 8).all (fun k => (l.motor k).cfg.kind == .none || (l.motor k).cfg.hbs.all (fun h => l.tbOf h == l.slotTb k))

/-- A stepper slot's timebase carries no current slot (R195). -/
def Lane.stepTbOk (l : Lane) : Bool :=
  l.stepSlots.all (fun k => (List.range 8).all (fun i =>
    (l.motor i).cfg.kind == .none || (l.motor i).cfg.kind == .stepper || (l.curSlotOf i).isNone || l.slotTb i != l.slotTb k))

/-- RAW stands only where R75 allows it. -/
def Lane.rawAllOk (l : Lane) : Bool := (List.range 8).all (fun tb => l.p 0x3114 tb != 2 || l.rawOk tb)

/-! ### Triggers in time -/

/-- An instant that comes back: period and offset from the period start of timebase 0, in ticks. -/
structure Beat where
  per : Nat
  off : Nat
deriving DecidableEq, Repr

/-- Phase of a timebase to timebase 0 in ticks (R65). -/
def Lane.phaseTicks (l : Lane) (tb : Nat) : Nat := if tb == 0 then 0 else bits (l.p 0x3103 tb) 25 6

/-- When an extra compare fires in its timebase (R69): on the down-count of centre-aligned mode, its position before the valley. -/
def Lane.beatOf (l : Lane) (c : Nat) : Beat :=
  let tb := c / 4
  let t := max 1 (l.periodTicks tb)
  let w := l.p 0x3120 c
  let pos := bits w 25 6
  ⟨t, ((if l.p 0x3100 tb == 1 && bit w 31 then t - min t pos else pos) + l.phaseTicks tb) % t⟩

/-- The triggers of a destination. -/
def Lane.beats (l : Lane) (dest : Nat) : List Beat :=
  (((List.range 32).filter (fun c => l.p 0x3121 c == dest)).map l.beatOf).eraseDups

/-- Time from an occurrence of a to the next occurrence of b that can follow it most closely; 0 where they meet. -/
def Beat.to (a b : Beat) : Nat :=
  let g := Nat.gcd a.per b.per
  (b.off + g - a.off % g) % g

/-- Two triggers of one destination fall on one tick (R69). Destination 11 is the sequence of the trigger's own timebase. -/
def Lane.trigMerged (l : Lane) : Bool :=
  (List.range 32).any (fun c => (List.range c).any (fun i =>
    l.p 0x3121 c != 0 && l.p 0x3121 i == l.p 0x3121 c && (l.p 0x3121 c != 11 || i / 4 == c / 4) && (l.beatOf i).to (l.beatOf c) == 0))

/-- TRIG_MERGED, when a configuration comes into force whose triggers meet (R69); a write or commit that makes them meet counts as such a load (log entry 136). -/
def Lane.tellMerged (l : Lane) (before : Bool) : Lane := if l.settled.trigMerged && !before then l.eventU 0x3107 else l

/-- Least time between two different fires of a list of triggers. -/
def leastGap (bs : List Beat) : Nat :=
  (bs.flatMap (fun a => bs.map (fun b =>
    let d := a.to b
    if d == 0 then Nat.gcd a.per b.per else d))).foldl min (2 ^ 32)

/-! ### Converters (R92, R93) -/

def Lane.adcLen (l : Lane) (k : Nat) : Nat := (l.pvals 0x4110 k).length

/-- Triggers that meet: each pair of them does, so all fall on one tick once in the common multiple of their periods. -/
structure Meeting where
  per   : Nat
  beats : List Beat
deriving DecidableEq, Repr

/-- How often a list of triggers fires per tick: two that fall on one tick fire once (R69); the fuel is the length of the list. -/
def fireRate : Nat → List Meeting → Nat × Nat
  | 0, _ => (0, 1)
  | _ + 1, [] => (0, 1)
  | f + 1, m :: r =>
    let a := fireRate f r
    let both := fireRate f (r.filterMap (fun x =>
      if m.beats.all (fun b => x.beats.all (fun c => b.to c == 0)) then some ⟨Nat.lcm m.per x.per, m.beats ++ x.beats⟩ else none))
    let num := (a.1 * both.2 - both.1 * a.2) * m.per + a.2 * both.2
    let den := a.2 * both.2 * m.per
    let g := max 1 (Nat.gcd num den)
    (num / g, den / g)

/-- Occupancy of an ADC by triggered conversions of 200 ns. -/
def Lane.adcOcc (l : Lane) (k : Nat) : Nat × Nat :=
  let bs := l.beats (1 + k)
  let r := fireRate bs.length (bs.map (fun b => ⟨b.per, [b]⟩))
  (80 * l.adcLen k * r.1, r.2)

/-- At most 80 %, and each sequence ends before the ADC's next trigger (R93). -/
def Lane.adcOk (l : Lane) : Bool :=
  (List.range 4).all (fun k =>
    let o := l.adcOcc k
    let bs := l.beats (1 + k)
    decide (5 * o.1 ≤ 4 * o.2) && (bs.isEmpty || l.adcLen k == 0 || decide (4 + 80 * l.adcLen k < leastGap bs)))

/-- SNS_ADC_OCC: the worst occupancy, %. -/
def Lane.adcWorst (l : Lane) : Nat := ((List.range 4).map (fun k => let o := l.adcOcc k; fracRound (100 * o.1, o.2))).foldl max 0

/-! ### Position ports (R122, R124) -/

/-- Worst-case frame time of a port in ps (Table PF-5). -/
def Lane.frameTime (l : Lane) (q : Nat) : Nat :=
  let n := l.p 0x5122 q + l.p 0x5123 q
  let clk := max 1 (l.p 0x5121 q)
  let d := 2000 * l.p 0x5125 q
  match l.p 0x5120 q with
  | 1 => (10000000 * (n + 2) + clk - 1) / clk + d + 100000
  | 2 => (10000000 * (n + 12) + clk - 1) / clk + d + 1000000 * l.p 0x512A q + 100000
  | 3 => 10575000 + d
  | _ => 0

/-- A port is free again this long after a trigger, in ps. -/
def Lane.portBusy (l : Lane) (q : Nat) : Nat := l.frameTime q + (if l.p 0x5120 q == 1 then 1000000 * l.p 0x5127 q else 0)

def Lane.portOk (l : Lane) (q : Nat) : Bool :=
  let bs := l.beats (5 + q)
  let mode := l.p 0x5120 q
  if mode == 0 then true
  else if 4 ≤ mode then bs.isEmpty
  else decide (l.frameTime q ≤ 1000000 * l.p 0x5126 q) && (bs.isEmpty || decide (l.portBusy q ≤ 2500 * leastGap bs))

def Lane.portsOk (l : Lane) : Bool := (List.range 6).all l.portOk

/-! ### Loop schedule (R156, R165, R166) -/

/-- Period of the trigger of a loop slot, in ticks. -/
def Lane.trigTicks (l : Lane) (j : Nat) : Nat := max 1 (if l.p 0x7102 j == 15 then l.outerTicks else l.periodTicks (l.p 0x7102 j))

/-- Sample period of a loop slot. -/
def Lane.loopTicks (l : Lane) (j : Nat) : Nat := l.trigTicks j * max 1 (l.p 0x7104 j)

def Lane.loopsUsed (l : Lane) : List Nat := (List.range 32).filter (fun j => l.p 0x7100 j != 0)

/-- Table LE-1: numbers and rates. -/
def Lane.loopCounts (l : Lane) : Bool :=
  let js := l.loopsUsed
  let cur := js.filter (fun j => l.p 0x7100 j == 1)
  let sp := js.filter (fun j => l.p 0x7100 j == 2 || l.p 0x7100 j == 3)
  let fo := js.filter (fun j => l.p 0x7100 j == 4)
  decide (cur.length ≤ 8) && decide (sp.length ≤ 16) && decide (fo.length ≤ 8) &&
  cur.all (fun j => decide (us 10 ≤ l.loopTicks j)) && decide ((cur.filter (fun j => decide (l.loopTicks j < us 20))).length ≤ 1) &&
  sp.all (fun j => decide (us 100 ≤ l.loopTicks j)) && fo.all (fun j => decide (us 200 ≤ l.loopTicks j))

/-- Engine occupancy U (R166). -/
def Lane.occupancy (l : Lane) : Nat × Nat := fracSum (l.loopsUsed.map (fun j => (loopCycles (l.p 0x7100 j), l.loopTicks j)))

/-- LE_LOAD in units of 0.01 %. -/
def Lane.loadNow (l : Lane) : Nat := let u := l.occupancy; fracRound (10000 * u.1, u.2)

/-- A sequence: its start, the time from there to the start of its first slot (220 ns after a trigger, R164), and its slots in order. -/
structure Seq_ where
  beat  : Beat
  lead  : Nat
  slots : List Nat
deriving DecidableEq, Repr

/-- The sequences of the timebases, each from a trigger with destination 11, and the outer sequence (R164, R165). -/
def Lane.sequences (l : Lane) : List Seq_ :=
  let cur := (List.range 8).flatMap (fun tb =>
    let js := (l.seqSlots tb).filter (fun j => l.p 0x7100 j == 1)
    if js.isEmpty then []
    else ((List.range 4).filter (fun c => l.p 0x3121 (4 * tb + c) == 11)).map (fun c => (⟨l.beatOf (4 * tb + c), 88, js⟩ : Seq_)) |>.eraseDups)
  let out := (l.seqSlots 15).filter (fun j => l.p 0x7100 j != 1)
  if out.isEmpty then cur else cur ++ [⟨⟨max 1 l.outerTicks, bits (l.p 0x7151) 25 6⟩, 0, out⟩]

/-- Length of a sequence in ticks, from its start on. -/
def Lane.seqLen (l : Lane) (s : Seq_) : Nat := s.lead + (s.slots.map (fun j => loopCycles (l.p 0x7100 j))).sum

/-- Two windows, each 20 ns longer than its sequence, never overlap over the schedule frame (R166). -/
def Lane.clear (l : Lane) (a b : Seq_) : Bool :=
  let d := a.beat.to b.beat
  let g := Nat.gcd a.beat.per b.beat.per
  decide (l.seqLen a + 8 ≤ d) && decide (l.seqLen b + 8 + d ≤ g)

/-- Each pair of a list in order. -/
def pairsOf {α : Type} : List α → List (α × α)
  | [] => []
  | x :: r => r.map (fun y => (x, y)) ++ pairsOf r

/-- Time from a start to the latch of an input that a trigger has begun: true when the start comes first. -/
def tooSoon (start : Beat) (trig : Beat) (delay : Nat) : Bool := decide (trig.to start < delay)

/-- Input codes of a loop slot: converter sources, and position ports. -/
def Lane.loopInputs (l : Lane) (j : Nat) : List Nat × List Nat :=
  let port (d : Nat) : List Nat := if 0x10 ≤ d && d ≤ 0x15 then [d - 0x10] else []
  if l.p 0x7100 j == 1 then
    let k := l.p 0x7101 j
    (l.busSrc k :: l.amps k, if l.p 0x6110 k == 2 then port (l.p 0x6111 k) else [])
  else
    let s := l.p 0x7106 j
    let k := l.endSlot j
    if 0x20 ≤ s && s ≤ 0x37 then ([s - 0x10], [])
    else if s == 0xFF then ([], if l.p 0x6110 k == 2 then port (l.p 0x6111 k) else [])
    else ([], port s)

/-- A slot that starts at an instant reads no input before its latch time (R92, R121, R122, R166). -/
def Lane.inputsOk (l : Lane) (j : Nat) (start : Beat) : Bool :=
  let i := l.loopInputs j
  i.1.all (fun src => (List.range 4).all (fun k =>
    match (l.pvals 0x4110 k).findIdx? (fun s => s == src) with
    | some n => !(l.beats (1 + k)).any (fun b => tooSoon start b (84 + 80 * n))
    | none => true)) &&
  i.2.all (fun q => decide (4 ≤ l.p 0x5120 q) || !(l.beats (5 + q)).any (fun b => tooSoon start b (us (l.p 0x5126 q))))

/-- The slots of a sequence with their starts. -/
def Lane.starts (l : Lane) (b : Beat) : List Nat → List (Nat × Beat)
  | [] => []
  | j :: r => (j, b) :: l.starts ⟨b.per, b.off + loopCycles (l.p 0x7100 j)⟩ r

/-- The current slots of a sequence end 200 ns before the load point of their timebase (R68, R166). -/
def Lane.loadOk (l : Lane) (s : Seq_) : Bool :=
  match s.slots with
  | [] => true
  | j :: _ =>
    if l.p 0x7100 j != 1 then true
    else
      let tb := l.p 0x7102 j
      let t := max 1 (l.periodTicks tb)
      let load : Beat := ⟨t, l.phaseTicks tb + (if l.p 0x3100 tb == 1 then t / 2 else 0)⟩
      let d := s.beat.to load
      decide (l.seqLen s + 80 ≤ (if d == 0 then t else d))

/-- The tests of R156, R165 and R166 (R182). -/
def Lane.scheduleOk (l : Lane) : Bool :=
  let ss := l.sequences
  let u := l.occupancy
  l.loopCounts && decide ((l.loopsUsed.map l.loopTicks).foldl Nat.lcm 1 ≤ ms 5) &&
  (pairsOf ss).all (fun p => l.clear p.1 p.2) && ss.all (fun s => decide (l.seqLen s + 8 ≤ s.beat.per)) &&
  ss.all (fun s => (l.starts ⟨s.beat.per, s.beat.off + s.lead⟩ s.slots).all (fun x => l.inputsOk x.1 x.2)) && ss.all l.loadOk &&
  decide (2 * u.1 ≤ u.2)

/-! ### Motor data, ticks, network, queues -/

/-- The bounds of R142, R143, R144 and R149 for a slot. -/
def Lane.motorDataOk (l : Lane) (id k : Nat) : Bool :=
  let wo := fmul twoPi (l.pf 0x6122 k)
  let wn := fmul twoPi (l.pf 0x6123 k)
  if id == 0x6120 || id == 0x6121 then fge (fsub (l.pf 0x6121 k) (l.pf 0x6120 k)) (fq 2 100)
  else if id == 0x6122 then fle (fmul wo (l.tsF k)) (fq 1 2) && fle wn (fdiv wo (fi 4))
  else if id == 0x6123 then fle wn (fdiv wo (fi 4))
  else if id == 0x6105 then fle (fmul wo (l.tsF k)) (fq 1 2)
  else fle (fmul (fmul sqrt3 (l.pf 0x6106 k)) (l.asThr k)) (l.pf 0x6107 k)

/-- The two configurations of an angle source that R140 refuses: an A/B/Z input whose Z mode is not 2, and the observer on a steer or brake winding. -/
def Lane.angleOk (l : Lane) (k : Nat) : Bool :=
  let src := l.p 0x6110 k
  let dev := l.p 0x6111 k
  (l.motor k).cfg.kind != .threePhase || !((src == 1 && (dev == 8 || dev == 9) && l.p 0x5112 (dev - 8) != 2) || src == 3)

/-- The observer's sample period fits on every three-phase slot of a timebase (R143). -/
def Lane.obsOk (l : Lane) (tb : Nat) : Bool :=
  (List.range 8).all (fun k => (l.motor k).cfg.kind != .threePhase || l.slotTb k != tb || l.motorDataOk 0x6105 k)

/-- Tick of a generator, 10 µs to 5 ms (R183). -/
def Lane.tickOk (l : Lane) (g : Nat) : Bool := decide (us 10 ≤ l.tickCounts g) && decide (l.tickCounts g ≤ ms 5)
def Lane.ticksOk (l : Lane) : Bool := (List.range 8).all l.tickOk

/-- A stepper's generator keeps MP_VMAX at or below 1,562,500 microsteps/s (R190). -/
def Lane.stepVmaxOk (l : Lane) (g : Nat) : Bool := (l.genSteppers g).isEmpty || fle (l.pf 0x8102 g) (fi 1562500)

/-- The sums of R276 and R315 for the protocol in use. -/
def Lane.cycleOk (l : Lane) : Bool :=
  let c := l.p 0xB101
  if l.p 0xB130 == 0 then
    c == 10 * l.p 0xB102 + 2 * l.p 0xB103 + l.p 0xB104 && decide (250 ≤ c) && decide (c ≤ 5000)
  else c == 50 * l.p 0xB137 + l.p 0xB138 && decide (500 ≤ c) && decide (c ≤ 5000)

/-- The return delay, where the lane has measured it, is at most half the cycle (R274; log entry 163). -/
def Lane.retOk (l : Lane) : Bool :=
  match l.retDelay with
  | some r => decide (2 * r ≤ us (l.p 0xB101))
  | none => true

/-- With a drive link in use the cycle is a multiple of 50 µs (R322). -/
def Lane.dlCycleOk (l : Lane) : Bool := (l.p 0xB140 0 == 0 && l.p 0xB140 1 == 0) || l.p 0xB101 % 50 == 0

/-- The host-visible queues fit the ring memory (R333). -/
def Lane.queuesOk (l : Lane) : Bool := decide (((List.range 64).map l.qBytes).sum ≤ 49152)

/-- The delay of an enabled OV_HARD comparator is at most 2 µs at 20 MHz or more (R97). -/
def Lane.dsOk (l : Lane) (d : Nat) : Bool :=
  let f := l.p 0x4130 % 128
  l.pf 0x4133 d == f0 || (decide (20 ≤ f) && decide ((36 + l.p 0x4136 d) * 1000 ≤ 1900 * f))

/-- 0 < SNS_DS_OVH_REL < SNS_DS_OVH while OV_HARD is enabled (R98). -/
def Lane.dsRelOk (l : Lane) (d : Nat) : Bool :=
  l.pf 0x4133 d == f0 || (fgt (l.pf 0x4134 d) f0 && flt (l.pf 0x4134 d) (l.pf 0x4133 d))

/-- A Hall-fed slot covers 120° electrical in the freeze window at POS_FRZ_SMIN (R130). -/
def Lane.frzWinOk (l : Lane) : Bool :=
  (List.range 8).all (fun k =>
    (l.motor k).cfg.kind != .threePhase || !(l.p 0x6110 k == 0 || l.p 0x6110 k == 4) ||
    fge (fmul (fmul (l.pf 0x5131) (l.pf 0x6101 k)) (fq (l.p 0x5130) 1000)) (fmul (fi 2) piThird))

/-- POS_CMP_INC goes with POS_CMP_DIR (R128). -/
def Lane.cmpDirOk (l : Lane) (k : Nat) : Bool :=
  let i := l.psgn 0x5142 k
  !(l.p 0x5145 k == 0 && decide (i < 0)) && !(l.p 0x5145 k == 1 && decide (0 < i))

/-- A stiffness curve rises (R211). -/
def curveOk : List (F32 × F32) → Bool
  | [] => true
  | [p] => fge p.1 f0 && fge p.2 f0
  | p :: q :: r => fge p.1 f0 && fge p.2 f0 && flt p.1 q.1 && fle p.2 q.2 && curveOk (q :: r)

/-- Fixed codes inside their range, and no minimum above its maximum (R40). -/
def Lane.codesOk (l : Lane) (ch : Nat) : Bool :=
  decide (l.p 0x2104 ch ≤ l.p 0x2108 ch) && decide (l.p 0x2108 ch ≤ l.p 0x2105 ch) &&
  decide (l.p 0x2106 ch ≤ l.p 0x2109 ch) && decide (l.p 0x2109 ch ≤ l.p 0x2107 ch)

/-- A slot whose reference method is set up has one that its type may use (R197). -/
def Lane.refPairOk (l : Lane) (k : Nat) : Bool :=
  let c := (l.motor k).cfg
  if c.kind == .none then true
  else if l.p 0x8130 k == 0 then c.kind == .stepper && (l.p 0x8120 k != 0xFF || decide (2 ≤ (l.amps k).length))
  else c.kind == .stepper || c.kind == .hBridge || (c.kind == .threePhase && c.winding == .steer)

/-- A reference pin belongs to a Hall group that no slot uses, or to an unused encoder input (R199). -/
def Lane.pinFree (l : Lane) (pin : Nat) : Bool :=
  let feeds (code : Nat) : Bool := (List.range 32).any (fun j => decide (2 ≤ l.p 0x7100 j) && l.p 0x7106 j == code)
  if pin < 18 then
    !((List.range 8).any (fun k => (l.motor k).cfg.kind == .threePhase && (l.p 0x6110 k == 0 || l.p 0x6110 k == 4) && l.p 0x6111 k == pin / 3) || feeds (pin / 3))
  else if pin == 0x20 || pin == 0x21 then
    let c := pin - 24
    !((List.range 8).any (fun k => ((l.motor k).cfg.kind == .threePhase && l.p 0x6110 k == 1 && l.p 0x6111 k == c) || ((l.motor k).cfg.kind == .stepper && l.p 0x8120 k == c)) || feeds c)
  else true

/-- Parameters that are terms of the gate-drive estimate (R60). -/
def budgetIds : List Nat := [0x2104, 0x2106, 0x2130, 0x2140, 0x2150, 0x2151, 0x2152, 0x3100, 0x3101, 0x3102, 0x3110]

/-- The phase of a timebase lies in 0 to its period, and is 0 for timebase 0 (Table PW-12); a change of the period keeps to it too. -/
def Lane.phaseOk (l : Lane) (tb : Nat) : Bool := if tb == 0 then l.p 0x3103 0 == 0 else decide (edgeFine (l.p 0x3103 tb) ≤ l.periodFine tb)

/-- An external-stage output carries no channel of an integrated slot (R27). -/
def Lane.extFree (l : Lane) (o : Nat) : Bool := decide (16 ≤ l.p 0x2140 o) || (l.slotOfHb (l.p 0x2140 o)).isNone

/-- What a change of a timebase's period takes part in. -/
def Lane.periodChecks (l : Lane) (tb : Nat) : Bool :=
  l.periodOk tb && l.phaseOk tb && (tb != 0 || (l.syncOk && l.outerOk)) && l.ticksOk && l.adcOk && l.portsOk && l.obsOk tb && l.scheduleOk

/-- Every check beside range and state that a value of a parameter takes part in (R368); the gate-drive estimate stands apart, since it raises an event. -/
def Lane.checks (l : Lane) (id inst : Nat) : Bool :=
  match id with
  | 0x1100 | 0x1101 => l.queuesOk
  | 0x2104 | 0x2105 | 0x2106 | 0x2107 | 0x2108 | 0x2109 => l.codesOk inst
  | 0x2130 => l.rawAllOk && (l.p id inst == 0 || (l.slotOfCh inst).isNone)
  | 0x2140 => l.rawAllOk && l.extFree inst
  | 0x3114 => l.rawAllOk
  | 0x3100 | 0x3101 | 0x3102 => l.periodChecks inst
  | 0x3103 => l.phaseOk inst && l.adcOk && l.portsOk && l.scheduleOk
  | 0x3104 => l.syncOk
  | 0x3110 => l.tbShared && l.stepTbOk && l.rawAllOk
  | 0x3120 | 0x3121 => l.adcOk && l.portsOk && l.scheduleOk
  | 0x4110 => l.adcOk && l.scheduleOk
  | 0x4120 | 0x4121 => decide (l.p 0x4120 inst + 3 ≤ l.p 0x4121 inst)
  | 0x4130 => (List.range 4).all l.dsOk
  | 0x4133 => l.dsOk inst && l.dsRelOk inst
  | 0x4134 => l.dsRelOk inst
  | 0x4136 => l.dsOk inst
  | 0x5120 | 0x5121 | 0x5122 | 0x5123 | 0x5125 | 0x5126 | 0x5127 | 0x512A => l.portOk inst && l.scheduleOk
  | 0x5112 => (List.range 8).all l.angleOk
  | 0x5130 => l.frzWinOk
  | 0x5142 | 0x5145 => l.cmpDirOk inst
  | 0x6105 | 0x6106 | 0x6107 | 0x6120 | 0x6121 | 0x6122 | 0x6123 | 0x6140 => l.motorDataOk id inst
  | 0x6110 | 0x6111 => l.angleOk inst && l.scheduleOk
  | 0x7105 | 0x7106 => l.scheduleOk
  | 0x7100 | 0x7101 | 0x7102 | 0x7103 | 0x7104 => l.scheduleOk && l.stepTbOk
  | 0x6115 => (l.pvals id inst).length == 3 && (l.pvals id inst).zipIdx.all (fun x => decide (x.1 < 12) || (x.2 == 2 && x.1 == 0xFF))
  | 0x7115 | 0x7116 => flt (l.pf 0x7115 inst) (l.pf 0x7116 inst)
  | 0x7150 => l.outerOk && l.syncOk && l.ticksOk && l.scheduleOk
  | 0x7151 => decide (edgeFine (l.p id 0) < l.periodFine 0) && l.scheduleOk
  | 0x8100 | 0x8101 => l.tickOk inst
  | 0x8102 => l.stepVmaxOk inst
  | 0x8104 | 0x8106 => fle (l.pf 0x8104 inst) (l.pf 0x8106 inst)
  | 0x8107 | 0x8108 => flt (l.pf 0x8107 inst) (l.pf 0x8108 inst)
  | 0x8110 => l.stepVmaxOk (l.p id inst)
  | 0x8111 | 0x8112 | 0x8133 => fle (l.pf 0x8112 inst) (l.pf 0x8111 inst) && fle (l.pf 0x8133 inst) (l.pf 0x8111 inst)
  | 0x8130 => l.refPairOk inst
  | 0x8134 => l.pinFree (l.p id inst)
  | 0x8140 => l.p id inst != l.id.code
  | 0x9125 | 0x9126 => flt (l.pf 0x9125 inst) (l.pf 0x9126 inst)
  | 0x9122 => curveOk (l.stiff inst)
  | 0xB101 => l.cycleOk && l.syncOk && l.dlCycleOk && l.retOk
  | 0xB106 => l.retOk
  | 0xB102 | 0xB103 | 0xB104 | 0xB130 | 0xB137 | 0xB138 => l.cycleOk
  | 0xB140 => l.dlCycleOk
  | 0xB152 => if l.p 0xB150 inst == 2 then true else decide (l.p id inst ≤ 5)
  | _ => true

/-! ### State conditions (R61, R89, R366) -/

/-- A motor slot uses a position source. -/
def Lane.usesSource (l : Lane) (k code : Nat) : Bool :=
  l.p 0x6111 k == code && (l.motor k).cfg.kind == .threePhase || l.p 0x8120 k == code ||
  (List.range 32).any (fun j => l.p 0x7100 j != 0 && l.p 0x7106 j == code && l.motorOf j == some k)

/-- The motor slots that a parameter instance affects, for "slot disabled". -/
def Lane.affects (l : Lane) (id inst : Nat) (v : List Nat) : List Nat :=
  let all := List.range 8
  let users (code : Nat) : List Nat := all.filter (fun k => l.usesSource k code)
  match id with
  | 0x2123 | 0x2130 | 0x2131 | 0x3110 => (l.slotOfCh inst).toList
  | 0x2140 => (l.slotOfCh (l.p id inst)).toList ++ (l.slotOfCh (v.headD 0xFF)).toList
  | 0x3100 | 0x3102 | 0x3103 => all.filter (fun k => (l.motor k).cfg.kind != .none && l.slotTb k == inst)
  | 0x3104 => all.filter (fun k => (l.motor k).cfg.kind != .none && l.slotTb k == 0)
  | 0x4100 => all.filter (fun k => (l.amps k).contains inst)
  | 0x4110 =>
    let ain (k : Nat) : List Nat := ((List.range 32).filter (fun j => l.p 0x7100 j != 0 && decide (0x20 ≤ l.p 0x7106 j) && decide (l.p 0x7106 j ≤ 0x37) && l.motorOf j == some k)).map (fun j => l.p 0x7106 j - 0x10)
    all.filter (fun k => (l.pvals id inst ++ v).any (fun s => (l.busSrc k :: l.amps k ++ ain k).contains s))
  | 0x5101 => users inst
  | 0x5110 | 0x5112 => users (8 + inst)
  | 0x5120 | 0x5121 | 0x5122 | 0x5123 | 0x5124 | 0x5125 | 0x5126 | 0x5127 | 0x512A => users (0x10 + inst)
  | 0x5150 => users (if inst < 6 then inst else if inst < 8 then inst + 2 else inst + 8)
  | 0x7100 | 0x7101 | 0x7102 | 0x7103 | 0x7104 | 0x7105 | 0x7106 | 0x7107 | 0x711B => (l.motorOf inst).toList
  | _ => [inst]

/-- The function whose disable a parameter awaits. -/
def fnOfParam (id : Nat) : Nat :=
  if id == 0x9110 || id == 0x9111 then 0 else if id == 0x9129 then 2 else if id < 0x9130 then 1 else 4

/-- The state condition of a write holds (Table CP-8). -/
def Lane.condOk (l : Lane) (c : PCond) (id inst : Nat) (v : List Nat) : Bool :=
  match c with
  | .always => true
  | .slotOff =>
    (l.affects id inst v).all (fun k => !(l.motor k).enabled) && (!(id / 256 == 0x71) || (l.loop inst).st == .disabled)
  | .checkSync => l.st == .check || l.st == .sync
  | .idle =>
    if id < 0x8110 then (l.gen inst).st == .idle
    else match l.refGen inst with
      | some g => (l.gen g).st == .idle
      | none => true
  | .unitStop => !(l.cmpU inst).running
  | .fnOff => !(l.func (fnOfParam id)).enabled
  | .armed => (l.src (if id == 0x3133 then inst / 16 else inst)).st == .armed
  | .maskClear => l.p 0x3132 inst == 0
  | .outerOff => (List.range 32).all (fun j => l.p 0x7100 j < 2 || (l.loop j).st == .disabled)
  | .open_ => (l.loop inst).st == .open_ || (l.loop inst).st == .disabled

/-- The state condition of a row, none for a direct one. -/
def PCls.cond : PCls → PCond
  | .direct => .always | .bound c => c | .staged c => c | .ro => .always

end Sys2Proof.Machine
end

