-- ==== Sys2Proof/Machine/Functions.lean ====
section
/-! DEFINITION. The functions: setpoints and sources, torque sharing, service braking and slack adjustment, command loss and breakaway, the spring-brake cell, the retarder, the actuator-bus overvoltage, and the vehicle request (R205 to R232, R261 to R265). -/

namespace Sys2Proof.Machine

/-! ### Slots of the functions -/

def Lane.findSlot (l : Lane) (f : SlotCfg → Bool) : Option Nat := (List.range 8).find? (fun k => f (l.motor k).cfg)

def Lane.steerSlot (l : Lane) : Option Nat := l.findSlot (fun c => c.kind == .threePhase && c.winding == .steer)
/-- The stepper slot of a wheel's slack adjuster. -/
def Lane.adjSlot (l : Lane) (w : Nat) : Option Nat := l.findSlot (fun c => c.kind == .stepper && c.wheel == some w)
/-- The external stage of a retarder channel, 0 primary and 1 second (R222). -/
def Lane.chopSlot (l : Lane) (c : Nat) : Option Nat := l.findSlot (fun x => x.kind == .external && x.rtCh == some c)
def Lane.chopPwm (l : Lane) (c : Nat) : Option Nat :=
  match l.chopSlot c with
  | some k => (l.motor k).cfg.hbs.head?
  | none => none

/-- Wheels that the group brakes. -/
def Lane.braked (l : Lane) : List Nat := (List.range 4).filter (fun w => (l.brakeSlot w).isSome)
def Lane.nWheels (l : Lane) : F32 := fi (max 1 l.braked.length)

def Lane.chop (l : Lane) (c : Nat) : Chopper := l.fn.ch.getD c {}
def Lane.setChop (l : Lane) (c : Nat) (x : Chopper) : Lane := { l with fn.ch := l.fn.ch.set c x }

/-- Seconds of a time span in counts, and the outer period in seconds. -/
def Lane.outerF (l : Lane) : F32 := secF (l.p 0x7150 * l.periodTicks 0)

/-! ### Partition and network view (R294) -/

/-- At least two lanes of the module report their own channels PARTITIONED; a peer reports its own in bit PART of the module status word of its HEALTH block (R294, log entry 40). -/
def Lane.modPart (l : Lane) : Bool :=
  decide (2 ≤ b2n l.net.part + ((l.peers.filter (fun p => (l.peer p).known && !(l.peer p).gone && l.reach p && bit (l.peer p).modStat.toNat 18)).length))

/-! ### Setpoints (R205, R206, R210, R213) -/

/-- A lane whose setpoints in force are its own: every lane but one that follows the authority's mirror set (R206). -/
def Lane.ownSet (l : Lane) : Bool := !(l.st == .shadow || l.st == .follower)

/-- An apply cycle has begun: it lies less than 2^31 cycles before the counter (R360). -/
def Lane.begun (l : Lane) (apply : Nat) : Bool := decide ((l.cyc + 2 ^ 32 - apply % 2 ^ 32) % 2 ^ 32 < 2 ^ 31)

/-- A move of the steering generator at its next tick (R210). -/
def Lane.steerMove (l : Lane) (angle : F32) : Lane :=
  match l.steerGen with
  | some g => l.genPush g (.move 0 angle 0) none
  | none => l

/-- A setpoint comes into force, or in a lane that follows the mirror set it is kept for comparison (R206). -/
def Lane.setpointApply (l : Lane) (f : Nat) (s : Setpoint) : Lane :=
  let x := l.func f
  match f with
  | 0 =>
    let v := s.vals.headD f0
    let l := { (l.setFunc 0 { x with rx := [v] }).releaseIds [0x9112] with fn.returning := false }
    if l.ownSet then { l with fn.steerSet := v }.steerMove v else l
  | 1 =>
    let old := if x.rx.length == 4 then x.rx else [f0, f0, f0, f0]
    let rx := (List.range 4).map (fun w => if bit s.mask w then s.vals.getD w f0 else old.getD w f0)
    let l := l.setFunc 1 { x with rx := rx }
    if l.ownSet then (List.range 4).foldl (fun l w => if bit s.mask w then l.setWheel w { l.wheel w with fHost := s.vals.getD w f0 } else l) l else l
  | _ =>
    let v := s.vals.headD f0
    let l := l.setFunc f { x with rx := [v] }
    if l.ownSet then { l with fn.fDem := v } else l

/-- Applies the waiting setpoints whose cycle has begun, in order of arrival. -/
def Lane.setpointsDue (l : Lane) (f : Nat) : Lane :=
  let x := l.func f
  let ready := x.pending.filter (fun s => l.begun s.apply)
  let l := l.setFunc f { x with pending := x.pending.filter (fun s => !l.begun s.apply) }
  ready.foldl (fun l s => l.setpointApply f s) l

/-- A valid command has come: it ends a hold, a return or a breakaway (R215), and in hardware mode what the retarder kept of its stream (R208). -/
def Lane.fnRefresh (l : Lane) (f : Nat) (v : F32) : Lane :=
  let l := l.setFunc f { l.func f with lastCycle := some l.cyc, mode := 1 }
  let l := { l with fn.v := v }
  if f == 1 then { l with fn.baAt := none }
  else if f == 4 && !(l.func 4).host then { l with fn.strLimit := none, fn.strArm := false }
  else l

/-- A setpoint block that this lane would forward to a lane without a channel (Table RD-1, R237). -/
def Lane.fnForward (l : Lane) (own : Bool) (f wheel : Nat) (val v : F32) (apply : Nat) : Lane :=
  if own then { l with fn.fwd := l.fn.fwd ++ [[b8 f, b8 wheel] ++ leBytes 4 val.toNat ++ leBytes 4 v.toNat ++ leBytes 2 apply] } else l

def Lane.setpointTake (l : Lane) (f : Nat) (v : F32) (s : Setpoint) : Lane :=
  let l := l.fnRefresh f v
  l.setFunc f { l.func f with pending := (l.func f).pending ++ [s], limited := false }

/-- STEER_SET (Table FN-1): its status. -/
def Lane.trySteer (l : Lane) (own : Bool) (angle v : F32) (apply : Nat) : Lane × Nat :=
  if !(l.func 0).enabled || (l.func 0).host then (l, stRefusedState)
  else if flt angle (l.pf 0x9110) || flt (l.pf 0x9111) angle then (l, stBadParam)
  else ((l.setpointTake 0 v ⟨[angle], 1, apply⟩).fnForward own 0 0 angle v apply, stAccepted)

/-- BRAKE_SET (Table FN-1). A clamp setpoint above 0 is a safety request (R451). -/
def Lane.tryBrake (l : Lane) (own : Bool) (mask : Nat) (vals : List F32) (v : F32) (apply : Nat) : Lane × Nat :=
  let ws := (List.range 4).filter (bit mask)
  if !(l.func 1).enabled || (l.func 1).host then (l, stRefusedState)
  else if ws.isEmpty || decide (16 ≤ mask) || ws.any (fun w => flt (vals.getD w f0) f0 || flt (l.pf 0x9120 w) (vals.getD w f0)) then (l, stBadParam)
  else
    let l := l.setpointTake 1 v ⟨vals, mask, apply⟩
    (ws.foldl (fun l w => l.fnForward own 1 w (vals.getD w f0) v apply) l, stAccepted)

/-- The commands answered ACCEPTED raise no CMD_COMPLETE here (R360). -/
def answered (r : Lane × Nat) : Lane × Reply := (r.1, .now r.2 [])

def Lane.hSteerSet (m : Msg) (l : Lane) : Lane × Reply := answered (l.trySteer true (m.f32 0) (m.f32 4) (m.u32 8))
def Lane.hBrakeSet (m : Msg) (l : Lane) : Lane × Reply :=
  answered (l.tryBrake true (m.u8 0) ((List.range 4).map (fun w => m.f32 (12 + 4 * w))) (m.f32 4) (m.u32 8))

def execSteerSet (a : At) (m : Msg) (s : State) : Out := run true s a (fun l => l.serve 0x12 m (Lane.hSteerSet m))
def execBrakeSet (a : At) (m : Msg) (s : State) : Out := run true s a (fun l => l.serve 0x13 m (Lane.hBrakeSet m))

/-- RETARD_SET (R224). -/
def Lane.tryRetard (l : Lane) (own : Bool) (force v : F32) (apply : Nat) : Lane × Nat :=
  if !(l.func 4).enabled then (l, stRefusedState)
  else ((l.setpointTake 4 v ⟨[force], 1, apply⟩).fnForward own 4 0 force v apply, stAccepted)

def Lane.hRetardSet (m : Msg) (l : Lane) : Lane × Reply := answered (l.tryRetard true (m.f32 0) (m.f32 4) (m.u32 8))

def execRetardSet (a : At) (m : Msg) (s : State) : Out := run true s a (fun l => l.serve 0x16 m (Lane.hRetardSet m))

/-! ### The cell's commands and test (R219 to R221) -/

/-- A running test of the lane's own cell ends: the switches return to the cell's mode. -/
def Lane.sbTestEnd (l : Lane) : Lane :=
  if l.fn.cellTest == .none then l else { l with fn.cellTest := .none }.setCell l.fn.cell

/-- An apply: by command, on parking, or in the final stop (R216, R219, R265). -/
def Lane.sbSet (l : Lane) (apply : Bool) : Lane :=
  let l := { l.sbTestEnd with fn.sbApply := some apply }
  let l := if apply then l.safetyRequest l.brakeHbs else l
  if apply && l.st == .island then l.setCell .apply else l.cellFollow

/-- Compares the sensed switches with the commanded ones: a difference is reported, and the lane's tests stop until its next cold start (R220). -/
def Lane.sbSense (l : Lane) (sense : List Bool) : Lane :=
  let far (i : Nat) : Bool := sense.getD i false != l.cmdClosed.getD i false
  let bad := (List.range 3).map (fun i => l.fn.senseBad.getD i false || far i)
  let m := { l with fn.sense := (List.range 3).map (fun i => sense.getD i false), fn.senseBad := bad }
  if (List.range 3).any far then ({ m with fn.testStop := true, fn.testOk := false }.eventU 0x9109).sbTestEnd else m

/-- What a command brings of the switches is judged (R220). -/
def Lane.sbJudge (l : Lane) (sw : Option (List Bool)) : Lane :=
  match sw with
  | some x => l.sbSense x
  | none => l

/-- SPRING_BRAKE (R221): after parking under R265 a hold is refused until RED_FAULT_CLEAR. -/
def Lane.trySpring (l : Lane) (own apply emergency : Bool) (v : F32) : Lane × Nat :=
  if apply && !emergency && fgt v (l.pf 0x9130) then (l.eventU 0x9111, stRefusedState)
  else if !apply && l.red.parked then (l, stRefusedState)
  else
    let l := { l with fn.v := v, fn.sbAt := l.now }.setFunc 3 { l.func 3 with mode := 1, lastCycle := some l.cyc }
    ((l.sbSet apply).fnForward own 3 0 (if !apply then f0 else if emergency then fi 2 else f1) v l.cyc, stAccepted)

/-- The bits between the command and the emergency bit are 0 (Table CP-3): the layout check refuses others. -/
def Lane.hSpringBrake (m : Msg) (l : Lane) : Lane × Reply :=
  answered (l.trySpring true (bit (m.u8 0) 0) (bit (m.u8 0) 7) (m.f32 4))

/-- The switches are judged as they stand after the command (R220, log entry 158). -/
def execSpringBrake (a : At) (m : Msg) (s : State) : Out := run true s a (fun l => (l.serve 0x14 m (Lane.hSpringBrake m)).sbJudge a.sw)

/-- Test period of the present cycle: network time divided by FN_SB_TEST_PERIOD (R220). -/
def Lane.sbPeriod (l : Lane) : Nat := l.cyc * l.np 0xB101 / (l.p 0x9132 * 1000000)

/-- The cell of a peer as it last reported it: a lane that is in none of the states that keep a mode is PASSIVE (R219, log entry 41). -/
def Lane.cellOf (l : Lane) (p : LaneId) : Cell × List Bool :=
  let v := l.peer p
  let st := healthState v.health
  match v.side with
  | some x => if v.known && (st == 5 || st == 6 || st == 7 || st == 8 || st == 10) then (x.cell, x.closed) else (.passive, [false, true, true])
  | none => (.passive, [false, true, true])

/-- The other two lanes report HOLD with sensed closed switches (R220, log entry 41). -/
def Lane.peersHold (l : Lane) : Bool := l.peers.all (fun p => l.peerDrives p && l.cellOf p == (.hold, [true, true, true]))

def Lane.sbTestStart (l : Lane) (sw : Option (List Bool)) : Lane :=
  let l := l.sbJudge sw
  let p := l.sbPeriod
  if l.st.driving && l.fn.cell == .hold && l.fn.cellTest == .none && !l.fn.testStop && l.fn.testedPer != some p &&
      p % 3 == l.id.idx && l.cyc % 3 == l.id.idx && l.peersHold then
    ({ l.releaseIds [0x9132, 0x9133] with fn.cellTest := .veto, fn.testAt := l.now, fn.testedPer := some p, fn.cmdVeto1 := false, fn.cmdVeto2 := false } : Lane).senseFollow
  else l

def execSbTestStart (a : At) (s : State) : Out := run true s a (fun l => l.sbTestStart a.sw)

def Lane.sbTestStep (l : Lane) (sense : List Bool) : Lane :=
  if l.fn.cellTest == .none || !l.due (l.fn.testAt + 40000 * l.p 0x9133) then l
  else if l.fn.cell != .hold then { l with fn.cellTest := .none }
  else
    let l := l.sbSense sense
    match l.fn.cellTest with
    | .veto => ({ l with fn.cellTest := .hold, fn.testAt := l.now, fn.cmdVeto1 := true, fn.cmdVeto2 := true, fn.cmdHold := false } : Lane).senseFollow
    | .hold => l.sbTestEnd
    | .none => l

def execSbTestStep (a : At) (sense : List Bool) (s : State) : Out := run (sense.length == 3) s a (fun l => l.sbTestStep sense)

/-- A missed refresh of the host-assisted spring-brake hold (R208). -/
def Lane.sbRefreshLost (l : Lane) : Lane :=
  let x := l.func 3
  if x.enabled && x.host && l.due (l.fn.sbAt + ms (l.p 0x9131)) then (l.setFunc 3 { x with host := false }).event 0x9102 3 else l

def execSbRefreshTimeout (a : At) (s : State) : Out := run true s a Lane.sbRefreshLost

/-! ### Vehicle request (R260 to R265, Tables RD-8 to RD-11) -/

/-- Winding sets of this lane that are lost: a winding fault, CS_SUM_FAULT, or RECATCH_FAIL until the slot is enabled anew (Table RD-8). -/
def Lane.windLost (l : Lane) : Nat :=
  ((List.range 8).filter (fun k => let m := l.motor k; m.windFault || m.csLost || m.fly == .failed)).length

/-- Fault instances that belong to this lane and that only it can know, per class 1 to 8 (log entry 42). -/
def Lane.ownInst (l : Lane) : List Nat :=
  [0, b2n l.red.mirBad, b2n (l.net.chLost || (l.net.part && !l.modPart)), b2n l.red.srcBad, l.windLost, 0, 0, 0]

/-- The same as a live peer reported it. -/
def Lane.peerInst (l : Lane) (c : Nat) : Nat :=
  (l.peers.map (fun p => let v := l.peer p; if v.known && !v.gone && (c == 2 || c == 3 || c == 4 || c == 5) then bits v.faults.toNat (4 * c - 1) (4 * c - 4) else 0)).sum

/-- Notes whether a link is lost; where nothing is known of it the last note stands (R261). -/
def Lane.linkNote (l : Lane) (key : Nat) (down : Option Bool) : Lane :=
  match down with
  | some true => l.addInst 2 0 key
  | some false => l.dropInst 2 0 key
  | none => l

/-- The lost links of the module as this lane knows them: a link lost between lanes that have not withdrawn counts until it is restored (R21, R261). -/
def Lane.linkTrack (l : Lane) : Lane :=
  let n := l.id.next
  let p := l.id.prev
  let live (q : LaneId) : Bool := (l.peer q).known && !(l.peer q).gone
  let own (q : LaneId) : Option Bool := if l.linkUp q then some false else if live q then some true else none
  let up := (if live n then [bit (l.peer n).health.toNat 23] else []) ++ (if live p then [bit (l.peer p).health.toNat 22] else [])
  let far : Option Bool := if up.length == 2 then some (up.any (fun b => !b)) else if up == [true] then some false else none
  ((l.linkNote 0 (own n)).linkNote 1 (own p)).linkNote 2 far

/-- Lanes with CC set that have not withdrawn: one counts as one instance, two or three as two (R260, R261). -/
def Lane.ccLanes (l : Lane) : Nat :=
  b2n (l.sns.commonCause || l.sns.derating) + (l.peers.filter (fun p => (l.peer p).known && !(l.peer p).gone && bit (l.peer p).health.toNat 24)).length

/-- Fault instances of a class in the module (Table RD-8). -/
def Lane.classCount (l : Lane) (c : Nat) : Nat :=
  l.ownInst.getD (c - 1) 0 + l.peerInst c + (l.red.inst.filter (fun i => i.cls == c)).length +
  (match c with
   | 7 => b2n l.modPart
   | 8 => min 2 l.ccLanes
   | _ => 0)

def Lane.classCounts (l : Lane) : List Nat := (List.range 8).map (fun i => l.classCount (i + 1))

/-- VEH_REQ for the instances present (Tables RD-10 and RD-11, R265). -/
def Lane.wanted (l : Lane) : Nat :=
  let cs := l.classCounts
  if l.red.parked then 4
  else if 2 ≤ cs.sum then 3
  else if cs.sum == 1 then (if cs.getD 1 0 == 1 || cs.getD 2 0 == 1 then 1 else 2)
  else 0

/-- The authority judges the faults and sets the vehicle request (R260, R263, R264). -/
def Lane.assess (l : Lane) : Lane :=
  if l.st != .authority then l
  else
    let cc := min 2 l.ccLanes
    let l := if cc == l.red.ccCount then l else ({ l with red.ccCount := cc }).eventU 0xA10F
    let q := l.wanted
    if q == l.red.vehReq then l else ({ l with red.vehReq := q }).eventU 0xA10E

/-- VLIM (Table RD-9): a speed in 0.01 m/s, or none. -/
def Lane.vlim (l : Lane) : Nat :=
  match l.red.vehReq with
  | 2 => min 65534 (fto (l.pf 0xA130) 100 1).toNat
  | 3 => min 65534 (fto (l.pf 0xA131) 100 1).toNat
  | 4 => min 65534 (fto (l.pf 0xA131) 100 1).toNat
  | _ => 0xFFFF

/-- A lane drives torque: it drives or limps, with a set capable of torque. -/
def torqueBit (st : Nat) (tq : Nat) : Bool := (st == 5 || st == 6 || st == 7 || st == 9) && tq != 0

def Lane.driveBits (l : Lane) : Nat :=
  let h := l.healthWord
  b2n (torqueBit l.st.code (bits h 15 8)) * 2 ^ l.id.idx +
  (l.peers.map (fun p =>
    b2n (match l.seenHealth p with | some h => torqueBit (healthState h) (bits h.toNat 15 8) | none => false) * 2 ^ p.idx)).sum

def Lane.dupAny (l : Lane) : Bool := l.red.dup || l.peers.any (fun p => (l.peer p).known && !(l.peer p).gone && bit (l.peer p).health.toNat 19)

/-- The module status word that the authority publishes (Table RD-9). -/
def Lane.moduleStatus (l : Lane) : Nat :=
  l.red.vehReq * 2 ^ 29 + l.red.auth * 2 ^ 27 + l.driveBits * 2 ^ 24 + min 15 l.classCounts.sum * 2 ^ 20 +
  b2n l.dupAny * 2 ^ 19 + b2n l.modPart * 2 ^ 18 + b2n (decide (2 ≤ l.ccLanes)) * 2 ^ 17 + l.vlim

/-- The final stop: every live lane applies, and the module is parked (R265). -/
def Lane.finalStop (l : Lane) : Lane :=
  if l.red.vehReq == 3 && (match l.fn.stopSince with | some t => l.due (t + ms 100 * l.p 0x9105) | none => false) then
    let l := ({ l with red.parked := true, fn.stopSince := none }).sbSet true
    if l.st == .authority then l.assess else l
  else l

def execStopParkTimeout (a : At) (s : State) : Out := run true s a Lane.finalStop

/-- Follows since when the speed is low enough under STOP (R265). -/
def Lane.stopTrack (l : Lane) : Lane :=
  { l with fn.stopSince := since l.fn.stopSince (l.red.vehReq == 3 && fle l.fn.v (l.pf 0x9130)) l.now }

/-! ### Loss of commands, return and breakaway (R215, R216) -/

def Lane.steerReturn (l : Lane) : Lane :=
  let l := l.setFunc 0 { l.func 0 with mode := 4 }
  let l := { l with fn.returning := true }.releaseIds [0x9113]
  if l.ownSet then { l with fn.steerSet := f0 }.steerMove f0 else l

def Lane.breakaway (l : Lane) : Lane :=
  let l := l.releaseIds [0x9102, 0x9103]
  let l := l.setFunc 1 { l.func 1 with mode := 4 }
  let ramp := fto (fdiv (l.pf 0x9102) (l.pf 0x9103)) 400000000 1
  (({ l with fn.baAt := some l.now, fn.holdAt := l.now + ramp.toNat }).eventU 0x9104).safetyRequest l.brakeHbs

/-- A function has gone three whole cycles without a setpoint (R215). -/
def Lane.cmdLost (l : Lane) (f : Nat) : Lane :=
  let x := l.func f
  match x.lastCycle with
  | some c =>
    if x.enabled && !x.host && x.mode == 1 && decide (c + 4 ≤ l.cyc) then
      let l := (l.setFunc f { x with mode := 3, lastAt := l.now }).eventU 0x9101
      if f == 0 && l.modPart then l.steerReturn else l
    else l
  | none => l

def execCmdLost (a : At) (fn : Nat) (s : State) : Out := run (fn == 0 || fn == 1 || fn == 4) s a (fun l => l.cmdLost fn)

/-- A hold that has lasted a time without a command. -/
def Lane.heldFor (l : Lane) (f t : Nat) : Bool :=
  let x := l.func f
  x.enabled && x.mode == 3 && l.due (x.lastAt + t)

/-- No setpoint within FN_CMD_HOLD_T (R215). -/
def Lane.cmdHold (l : Lane) : Lane :=
  let t := ms (l.p 0x9100)
  let l := if l.heldFor 0 t then l.steerReturn else l
  if l.heldFor 1 t && !l.modPart then l.breakaway else l

def execCmdHoldTimeout (a : At) (s : State) : Out := run true s a Lane.cmdHold

/-- T_rejoin of a partitioned module (R215, R294). -/
def execRejoinHoldTimeout (a : At) (s : State) : Out :=
  run true s a (fun l => if l.modPart && l.heldFor 1 (ms (l.p 0xB119)) then l.breakaway else l)

/-- Standstill is taken as reached at v_last / FN_BA_DECEL + FN_PARK_T after the start of the hold (R216). -/
def Lane.parkDue (l : Lane) : Lane :=
  let t := l.fn.holdAt + (fto (fdiv l.fn.v (l.pf 0x9102)) 400000000 1).toNat + ms 100 * l.p 0x9105
  if l.fn.baAt.isSome && (l.func 1).mode == 4 && l.due t then
    let l := (l.setFunc 1 { l.func 1 with mode := 5 }).setFunc 3 { l.func 3 with mode := 5 }
    (l.eventU 0x9105).sbSet true
  else l

def execParkTimeout (a : At) (s : State) : Out := run true s a Lane.parkDue

/-! ### Service braking, wear and slack adjustment (R211 to R214) -/

/-- The clamp setpoint that the breakaway profile gives a wheel, kN (R216). -/
def Lane.baForce (l : Lane) (w : Nat) : F32 :=
  match l.fn.baAt with
  | none => f0
  | some t =>
    let a := fmin (l.pf 0x9102) (fmul (l.pf 0x9103) (secF ((l.now : Int) - t)))
    fdiv (fdiv (fmul (l.pf 0x9104) a) (fmul l.nWheels (l.pf 0x9127 w))) (fi 1000)

/-- The contact point recorded at an application, and the learning application (R212). -/
def Lane.contact (l : Lane) (w : Nat) : Lane :=
  let x := l.wheel w
  let f := l.estTq w
  let fc := l.pf 0x9121 w
  let xm := l.brakePos w
  if x.learning && fge f fc then
    l.setWheel w { x with xC := xm, xC0 := xm, learned := true, learning := false, useMin := false, misSince := none, contact := true, due := fgt xm (l.pf 0x9126 w) }
      |> fun (l : Lane) => if fgt xm (l.pf 0x9126 w) && !x.due then l.eventU 0x9108 else l
  else if !x.learning && !x.contact && fgt x.clamp f0 && fgt f fc then
    let xc := fadd x.xC (fmul (fq 1 10) (fsub xm x.xC))
    let due := fgt xc (l.pf 0x9126 w)
    let l := l.setWheel w { x with xC := xc, contact := true, due := due }
    if due && !x.due then l.eventU 0x9108 else l
  else l

/-- One wheel's clamp setpoint, contact and slack state in an outer period; an application that begins takes a new contact force (Table FN-6). A learning application asks for at least FN_BR_CONTACT_F (R212, R213, log entry 181), and a disabled function for nothing (R231). -/
def Lane.brakeWheel (l : Lane) (w : Nat) : Lane :=
  let l := if l.fn.baAt.isSome && l.ownSet then l.setWheel w { l.wheel w with fHost := l.baForce w } else l
  let x := l.wheel w
  let l := if !fgt x.clamp f0 && (x.learning || ((l.func 1).enabled && fgt (fadd x.fHost x.fBlend) f0)) then l.releaseOf [0x9121] w else l
  let asked := if (l.func 1).enabled then fadd x.fHost x.fBlend else f0
  let want := if x.learning then fmax (l.pf 0x9121 w) asked else asked
  let cap := l.pf 0x9120 w
  let c := fmin want cap
  let on := fgt c f0
  let l := if on && !fgt x.clamp f0 then l.safetyRequest l.brakeHbs else l
  let bad := fgt (fabs (fsub (l.estPos w) (l.estTq w))) (fmul (l.pf 0x9123 w) cap)
  let l := l.setWheel w { x with clamp := c, contact := x.contact && on, quietAt := since x.quietAt (!on) l.now, misSince := since x.misSince bad l.now }
  l.contact w

/-- Travel of a generator that is left, in mm, when its move has stopped short. -/
def Lane.slackLeft (l : Lane) (w g : Nat) : F32 :=
  fdiv (fofD (dsub (l.wheel w).goal (l.gen g).p)) (l.pf 0x9129 w)

/-- A running adjustment: a clamp setpoint above 0 quick-stops it, and its end leaves the remainder for the next quiet time (R214). -/
def Lane.slackRun (l : Lane) (w : Nat) : Lane :=
  match l.adjSlot w with
  | none => l
  | some k =>
    let g := l.p 0x8110 k
    let x := l.wheel w
    let y := l.gen g
    if !x.running then l
    else if y.st == .idle && y.cmds.isEmpty then
      let left := l.slackLeft w g
      let rest := fgt (fabs (fmul left (l.pf 0x9129 w))) f1
      l.setWheel w { x with running := false, wanted := if rest then some left else none, due := x.due && rest }
    else if fgt x.clamp f0 && (y.st == .moving || (y.st == .idle && !y.cmds.isEmpty)) && !y.cmds.any (fun c => match c.1 with | .stop _ => true | _ => false) then l.genPush g (.stop true) none
    else l

/-- The cycle at which a paired move starts: the next multiple of 64 (R202, log entry 39). -/
def Lane.pairCycle (l : Lane) (k : Nat) : Nat := if l.p 0x8140 k == 0 then 0 else (l.cyc / 64 + 1) * 64 % 2 ^ 32

/-- A wheel that has been quiet for FN_SA_QUIET_T starts its adjustment move (R214). -/
def Lane.slackStart (l : Lane) (w : Nat) : Lane :=
  let x := l.wheel w
  match l.adjSlot w with
  | none => l
  | some k =>
    let quiet := match x.quietAt with | some t => l.due (t + ms 100 * l.p 0x912A) | none => false
    let auto := x.due && !(l.func 2).host
    if quiet && (l.func 2).enabled && !x.running && l.st.driving && (l.motor k).enabled && (x.wanted.isSome || auto) then
      let l := l.releaseOf [0x9125] w
      let travel := match x.wanted with
        | some t => if (b32.toRat t.toNat).1 == 0 then fsub x.xC (l.pf 0x9125 w) else t
        | none => fsub x.xC (l.pf 0x9125 w)
      let steps := fmul travel (l.pf 0x9129 w)
      let g := l.p 0x8110 k
      (l.setWheel w { x with running := true, wanted := none, goal := dadd (l.gen g).target (dofF steps) }).genPush g (.move 1 steps (l.pairCycle k)) none
    else l

def execSlackQuietTimeout (a : At) (wheel : Nat) (s : State) : Out := run (wheel < 4) s a (fun l => l.slackStart wheel)

/-- SLACK_ADJUST (R214): refused where this lane does not drive the adjuster. -/
def Lane.trySlack (l : Lane) (own : Bool) (w : Nat) (travel v : F32) : Lane × Nat :=
  let x := l.wheel w
  let k := l.adjSlot w
  if x.running then (l, stBusy)
  else if decide (w < 4) && !(l.st.driving && (match k with | some k => (l.motor k).enabled | none => false)) then (l, stRefusedState)
  else if 4 ≤ w then (l, stBadParam)
  else ((l.setWheel w { x with wanted := some travel }).fnForward own 2 w travel v l.cyc, stAccepted)

def Lane.hSlackAdjust (m : Msg) (l : Lane) : Lane × Reply := answered (l.trySlack true (m.u8 0) (m.f32 4) l.fn.v)

def execSlackAdjust (a : At) (m : Msg) (s : State) : Out := run true s a (fun l => l.serve 0x15 m (Lane.hSlackAdjust m))

/-- BRAKE_LEARN (R212) starts one slow application at FN_BR_CONTACT_F. -/
def Lane.hBrakeLearn (m : Msg) (l : Lane) : Lane × Reply :=
  let ws := (List.range 4).filter (bit (m.u8 0))
  let v := m.f32 4
  guarded l [(fgt v (fq 1 10) || ws.any (fun w => fgt (l.wheel w).clamp f0), stRefusedState), (decide (16 ≤ m.u8 0) || ws.isEmpty, stBadParam)]
    (fun l => done ({ l with fn.v := v }.eachOf ws (fun w l => l.setWheel w { l.wheel w with learning := true, learned := false })))

def execBrakeLearn (a : At) (m : Msg) (s : State) : Out := run true s a (fun l => l.serve 0x18 m (Lane.hBrakeLearn m))

/-- Estimates apart for 50 ms: the smaller of the two is used until the next BRAKE_LEARN (R211). -/
def Lane.estMismatch (l : Lane) (w : Nat) : Lane :=
  let x := l.wheel w
  if !x.useMin && (match x.misSince with | some t => l.due (t + ms 50) | none => false) then (l.setWheel w { x with useMin := true }).eventU 0x9107 else l

def execBrakeEstMismatch (a : At) (wheel : Nat) (s : State) : Out := run (wheel < 4) s a (fun l => l.estMismatch wheel)

/-! ### Torque sharing (R209, R402) -/

/-- A LIMP peer's sets count while at most one other lane drives (R402). -/
def Lane.limpCounts (l : Lane) : Bool :=
  decide (b2n l.st.driving + (l.peers.filter l.seenDrives).length ≤ 1)

/-- n_d of a motor slot: the lanes whose set is capable of torque; slots of one index serve one actuator (log entry 43). -/
def Lane.setsNow (l : Lane) (k : Nat) : Nat :=
  b2n (l.st.driving && l.torque k) +
  (l.peers.filter (fun p => match l.seenHealth p with
    | some h => !(l.peer p).outVoted && bit h.toNat (8 + k) && (healthDrives h || (healthState h == 9 && l.limpCounts))
    | none => false)).length

/-- The count of sets at the start of an outer period, with SETS_REDUCED for each drop at the authority. -/
def Lane.countSets (l : Lane) : Lane :=
  l.each 8 (fun k l =>
    if (l.motor k).cfg.kind != .threePhase then l
    else
      let n := l.setsNow k
      let old := l.fn.nD.getD k 0
      let l := { l with fn.nD := l.fn.nD.set k n }
      if l.st == .authority && n < old then l.eventU 0x9106 else l)

/-! ### Retarder supervision (R222 to R227) -/

def Lane.dlink (l : Lane) (k : Nat) : DLink := l.ports.dl.getD k {}
/-- Drive links that an inverter uses, and those of them that work. -/
def Lane.dlUsed (l : Lane) : List Nat := (List.range 2).filter (fun k => l.p 0xB140 k != 0)
def Lane.dlWork (l : Lane) : List Nat := l.dlUsed.filter (fun k => !(l.dlink k).lost)
def Lane.dlSum (l : Lane) (f : DLink → F32) : F32 := l.dlWork.foldl (fun s k => fadd s (f (l.dlink k))) f0

/-- Link voltage and channel currents by FN_RT_DS_MAP (R222). -/
def Lane.rtInput (l : Lane) (n : Nat) : F32 := (l.dsIn (bits (l.p 0x914B) (4 * n + 3) (4 * n))).value
def Lane.linkV (l : Lane) : F32 := l.rtInput 0

/-- The surplus P_s in kW, 0 without inverter frames (R223, R224). -/
def Lane.surplus (l : Lane) : F32 :=
  if l.dlWork.isEmpty then f0 else fsub (l.dlSum DLink.pInv) (l.dlSum DLink.pAcc)

/-- The predicted link voltage (R223): P_s in kW, FN_RT_HORIZON in ms, FN_RT_CLINK in mF. -/
def Lane.vPred (l : Lane) : F32 :=
  let v := l.linkV
  let x := fadd (fmul v v) (fdiv (fmul (fmul (fi 2) (fmul l.surplus (fi 1000))) (fi (l.p 0x9149))) (l.pf 0x9140))
  fsqrt (fmax f0 x)

/-- The driver's fault input of a channel is inactive: no pin source that covers the channel is active (R57, R223). -/
def Lane.drvOk (l : Lane) (c : Nat) : Bool :=
  match l.chopPwm c with
  | some ch => (List.range 8).all (fun n => !((l.src n).input && l.covers n ch))
  | none => false

/-- Retarder channels of the module that are healthy and in service: the primary of each driving lane, or, where the primary is faulty, its second once that has been brought into service (R223, R225). -/
def Lane.rtChannels (l : Lane) : List Nat :=
  let pick (p0 p1 second : Bool) : List Nat := if !p0 then [0] else if second && !p1 then [1] else []
  let own := if l.st.driving && (l.chopSlot 0).isSome then pick (l.chop 0).faulty (l.chop 1).faulty (l.chop 1).inService else []
  own ++ (l.peers.filter l.seenDrives).flatMap (fun p =>
    if (l.chopSlot 0).isNone then []
    else pick (l.fn.notice.contains (p.code, 0)) (l.fn.notice.contains (p.code, 1)) (match (l.peer p).side with | some x => x.second | none => false))

/-- Σ V_ch_on² / R_sec over channels, kW. -/
def Lane.rtPower (l : Lane) (cs : List Nat) : F32 :=
  let v := l.pf 0x9141
  cs.foldl (fun s c => fadd s (fdiv (fdiv (fmul v v) (l.pf 0x9142 c)) (fi 1000))) f0

/-- The ceiling of R224, kW. -/
def Lane.rtCeiling (l : Lane) (cs : List Nat) : F32 := fadd (l.dlSum DLink.pAcc) (fmul (l.pf 0x9143) (l.rtPower cs))

/-- The firmware asserts REGEN_INH (R225). -/
def Lane.assertInh (l : Lane) : Lane :=
  if l.sns.regenFw then l
  else ({ l with sns.regenFw := true, fn.inhAt := some l.now }).eventU 0x910D

/-- Writes a channel's duty into its shadow, one burst (R67, R223). -/
def Lane.chopDuty (l : Lane) (c : Nat) (d : F32) : Lane :=
  let l := l.setChop c { l.chop c with duty := d }
  match l.chopPwm c with
  | some ch => (l.shadowWrite ch (l.dutyFine ch d)).burstDone (l.tbOf ch) l.now
  | none => l

/-- A faulty channel: its enable goes low, the peers get the notice, and the steps of R225 start. -/
def Lane.chopFault (l : Lane) (c cause : Nat) : Lane :=
  let x := l.chop c
  if x.faulty then l
  else
    let l := (l.setChop c { x with faulty := true, armed := false, preAt := none, misCnt := 0 }).chopDuty c f0
    let l := (l.eventU 0x910A).sendBoth true 0x17 ([b8 l.id.code, b8 c, b8 cause, 0] ++ leBytes 8 l.now)
    let l := { l.assertInh with fn.limCut := true, fn.cutAt := some l.now, fn.pLim := f0, fn.speedDue := true }
    if c == 0 && l.p 0x9146 == 1 then l.setChop 1 { l.chop 1 with preAt := if l.drvOk 1 then some l.now else none } else l

/-- A driver's fault trips its channel (R225 cause 2). -/
def Lane.chopTrip (l : Lane) (n : Nat) : Lane :=
  (List.range 2).foldl (fun l c => match l.chopPwm c with
    | some ch => if n < 8 && l.covers n ch && (l.func 4).enabled then l.chopFault c 2 else l
    | none => l) l

def execTripInputActive (a : At) (src : Nat) (s : State) : Out := run (src < 13) s a (fun l => (l.tripOn src).chopTrip src)

/-- Current tests of a channel: a mismatch at d ≥ 0.1 for FN_RT_CH_N periods, or current with the enable low (R225). -/
def Lane.chopTest (l : Lane) (c : Nat) : Lane :=
  let x := l.chop c
  if (l.chopSlot c).isNone || x.faulty then l
  else
    let full := fdiv l.linkV (l.pf 0x9142 c)
    let i := l.rtInput (c + 1)
    let tol := fmul (l.pf 0x9144) full
    if !x.armed then (if fgt i tol then l.chopFault c 3 else l)
    else
      let bad := fge x.duty (fq 1 10) && fgt (fabs (fsub i (fmul x.duty full))) tol
      let n := if bad then x.misCnt + 1 else 0
      let l := l.setChop c { x with misCnt := n }
      if l.p 0x9145 ≤ n then l.chopFault c 1 else l

/-- A second channel is wanted once the primary is faulty and FN_RT_SECOND asks for it (R225 step 4). -/
def Lane.chopWanted (l : Lane) (c : Nat) : Bool := c == 0 || ((l.chop 0).faulty && l.p 0x9146 == 1)

/-- Pre-arming and the running duty of a channel (R223). -/
def Lane.chopRun (l : Lane) (c : Nat) : Lane :=
  let x := l.chop c
  if (l.chopSlot c).isNone || x.faulty || !l.chopWanted c then l
  else
    let v := l.linkV
    let on := l.pf 0x9141
    let ps := l.surplus
    if x.armed then
      let n := fi (max 1 l.rtChannels.length)
      let full := fmul n (fdiv (fmul v v) (l.pf 0x9142 c))
      let d := fadd (fdiv (fmul ps (fi 1000)) full) (fmul (l.pf 0x914A) (fsub v on))
      let d := if ffinite d then fclamp f0 f1 d else f0
      let quiet := fle ps f0 && flt v (fsub on (fi 20))
      (l.setChop c { x with quietAt := since x.quietAt quiet l.now }).chopDuty c d
    else
      let want := fgt ps f0 || fge l.vPred on || (c == 1 && !x.inService) || l.fn.strArm
      l.setChop c { x with preAt := since x.preAt (want && l.drvOk c) l.now }

/-- The driver fault input has been inactive for 1 ms: the enable goes high with duty 0 (R223); a second channel comes into service (R225). -/
def Lane.chopArm (l : Lane) (c : Nat) : Lane :=
  let x := l.chop c
  if !x.faulty && !x.armed && (l.func 4).enabled && l.st.driving && l.drvOk c && (match x.preAt with | some t => l.due (t + ms 1) | none => false) then
    let l := (l.setChop c { x with armed := true, inService := true, preAt := none, quietAt := none, misCnt := 0 }).chopDuty c f0
    if c == 1 && !x.inService then l.eventU 0x910B else l
  else l

def execChopperPrearmCheck (a : At) (ch : Nat) (s : State) : Out := run (ch < 2) s a (fun l => l.chopArm ch)

/-- 1 s without surplus and with a low link (R223). -/
def Lane.chopDisarm (l : Lane) (c : Nat) : Lane :=
  let x := l.chop c
  if x.armed && (match x.quietAt with | some t => l.due (t + sec 1) | none => false) then
    (l.setChop c { x with armed := false, preAt := none, quietAt := none }).chopDuty c f0
  else l

def execChopperDisarm (a : At) (ch : Nat) (s : State) : Out := run (ch < 2) s a (fun l => l.chopDisarm ch)

/-- Kilowatts that P_lim may rise in one outer period (R224): FN_RT_LIM_SLEW is in MW/s. -/
def Lane.limStep (l : Lane) : F32 := fmul (fmul (l.pf 0x9148) (fi 1000)) l.outerF

/-- P_lim of the authority (R224, R225, R227): it falls at once and rises at its slew; it is 0 while regeneration is inhibited. -/
def Lane.limUpdate (l : Lane) : Lane :=
  let top := if l.fn.limCut || l.regenInh then f0 else l.rtCeiling l.rtChannels
  { l with fn.pLim := if fle top l.fn.pLim then top else fmin top (fadd l.fn.pLim l.limStep) }

/-- P_lim as sent: a streamed limit, which stays after the stream until a command comes, is capped at the lane's own (R208). -/
def Lane.pLimOut (l : Lane) : F32 :=
  match l.fn.strLimit with
  | some x => fmax f0 (fmin x l.fn.pLim)
  | none => l.fn.pLim

/-- The electric share and the friction share per wheel (R224): forces in N, blend in kN. -/
def Lane.blendUpdate (l : Lane) : Lane :=
  let avail := l.dlSum DLink.pAvail
  let v := fmax l.fn.v (fq 1 2)
  let fel := fmin l.fn.fDem (fdiv (fmul (fmin l.pLimOut avail) (fi 1000)) v)
  let fric := fmax f0 (fsub l.fn.fDem fel)
  let l := { l with fn.fEl := fel }
  l.eachOf l.braked (fun w l => l.setWheel w { l.wheel w with fBlend := if !(l.func 1).enabled then f0 else fdiv (fdiv fric (fmul l.nWheels (l.pf 0x9127 w))) (fi 1000) })

/-- The conditions of R227 for what began at t. -/
def Lane.calmSince (l : Lane) (t : Nat) : Bool :=
  l.due (t + ms (l.p 0x9147)) && (match l.fn.linkLow with | some t => l.due (t + ms 10) | none => false) && decide (4 ≤ l.fn.invGood)

/-- The release of the inhibit, and of the cut of P_lim in a lane that never asserted it (R227, log entry 183). -/
def Lane.inhRelease (l : Lane) : Lane :=
  let l := { l with fn.linkLow := since l.fn.linkLow (flt l.linkV (l.pf 0x9141)) l.now }
  if l.regenInh then
    let at0 := l.fn.inhAt.getD l.now
    let l := { l with fn.inhAt := some at0 }
    if l.calmSince at0 then
      let l := { l with sns.regenFw := false, fn.limCut := false, fn.cutAt := none, fn.noticeDue := false }
      let l := l.each 4 (fun k l => l.regenClear k)
      if l.regenInh then l else ({ l with fn.inhAt := none }).eventU 0x910E
    else l
  else if l.fn.limCut && l.calmSince (l.fn.cutAt.getD l.now) then { l with fn.limCut := false, fn.cutAt := none, fn.noticeDue := false }
  else l

/-- The retarder's outer period. -/
def Lane.retard (l : Lane) : Lane :=
  if !(l.func 4).enabled || !l.st.driving then l
  else
    let l := (l.chopTest 0).chopTest 1
    let l := if l.fn.noticeDue && fge l.linkV (l.pf 0x9141) then { l with fn.noticeDue := false }.assertInh else l
    let l := (l.chopRun 0).chopRun 1
    let l := if l.st == .authority then
        let lost := l.dlWork.isEmpty
        let l := if lost && !l.fn.invLostTold && !l.dlUsed.isEmpty then l.eventU 0x9110 else l
        ({ l with fn.invLostTold := lost }).limUpdate
      else l
    l.blendUpdate.inhRelease

/-- A peer's chopper notice, acted on once per channel and fault (R225, R237). -/
def Lane.chopNotice (l : Lane) (code c : Nat) : Lane :=
  if l.fn.notice.contains (code, c) then l
  else { l with fn.notice := l.fn.notice ++ [(code, c)], fn.noticeDue := true, fn.limCut := true, fn.cutAt := some l.now, fn.pLim := f0, fn.speedDue := true }

/-- The fault flags that a peer reports (log entry 49): a flag counts as its notice; a lane that comes back from a power cycle without flags, in SYNC, ends its notices, and with the last of them the speed request ends (R225). -/
def Lane.chopReport (l : Lane) (p : LaneId) (st : Nat) (flags : List Bool) : Lane :=
  let l := if flags.getD 0 false then l.chopNotice p.code 0 else l
  let l := if flags.getD 1 false then l.chopNotice p.code 1 else l
  if st == 4 && !flags.contains true && l.fn.notice.any (fun n => n.1 == p.code) then
    let l := { l with fn.notice := l.fn.notice.filter (fun n => n.1 != p.code) }
    if l.fn.notice.isEmpty && !l.fn.ch.any Chopper.faulty then { l with fn.speedReq := false, fn.speedDue := false } else l
  else l

/-- Step 5 of R225, at the authority's status publication: the target is v × P_lim,0 / (F_dem × v). -/
def Lane.speedRequest (l : Lane) : Lane :=
  if l.st == .authority && l.fn.speedDue then
    let prim := (if (l.chopSlot 0).isSome && !(l.chop 0).faulty then [0] else []) ++
      ((l.peers.filter l.seenDrives).filter (fun p => !l.fn.notice.contains (p.code, 0))).map (fun _ => 0)
    let tgt := fdiv (fmul (l.rtCeiling prim) (fi 1000)) l.fn.fDem
    let l := { l with fn.speedDue := false, fn.speedTgt := tgt }
    if l.fn.speedReq then l else ({ l with fn.speedReq := true }).eventU 0x910C
  else l

/-! ### Actuator-bus overvoltage (R228 to R230) -/

def Lane.drn (l : Lane) (d : Nat) : Drn := l.sns.drn.getD d {}
def Lane.setDrn (l : Lane) (d : Nat) (x : Drn) : Lane := { l with sns.drn := l.sns.drn.set d x }

/-- Channels of the actuator-bus chopper slots. -/
def Lane.sinkChs (l : Lane) : List Nat := (List.range 8).flatMap (fun k => if (l.motor k).cfg.kind == .chopper then (l.motor k).cfg.hbs.take 1 else [])

def Lane.busOv1 (l : Lane) (d : Nat) : Lane :=
  if !bit (l.p 0x4123) d || (l.drn d).ov1 then l
  else
    let l := { l.setDrn d { l.drn d with ov1 := true } with sns.ov1At := l.now }.eventU 0x4101
    l.eachOf (l.sinkChs.filter l.busSink) (fun c l => if (l.pch c).tripped then l else l.setPch c { l.pch c with emitted := l.periodFine (l.tbOf c) })

def execBusOv1 (a : At) (drn : Nat) (s : State) : Out := run (drn < 4) s a (fun l => l.busOv1 drn)

def Lane.busOv1Clear (l : Lane) (d : Nat) : Lane :=
  if !(l.drn d).ov1 then l
  else
    let l := l.setDrn d { l.drn d with ov1 := false }
    l.eachOf (l.sinkChs.filter (fun c => !l.busSink c)) (fun c l => l.setPch c { l.pch c with emitted := 0 })

def execBusOv1Clear (a : At) (drn : Nat) (s : State) : Out := run (drn < 4) s a (fun l => l.busOv1Clear drn)

/-- The OV2 reaction on one slot: active short for a fast three-phase slot, off for every other slot but the chopper (R229). -/
def Lane.ov2Slot (l : Lane) (k : Nat) : Lane :=
  let m := l.motor k
  match m.cfg.kind with
  | .none => l
  | .chopper => l
  | .threePhase =>
    let l := l.flyStop k
    let l := l.setMotor k { l.motor k with ov2 := true, laneSafe := true }
    l.setMotor k { l.motor k with short := l.safeShort k }
  | _ => (l.setMotor k { m with ov2 := true, laneSafe := true, short := false }).stepOff k

/-- BUS_OV2: the output rises, for the first time or again within the hold time of R230; the reaction is one (R95, R229). -/
def Lane.busOv2 (l : Lane) (d : Nat) : Lane :=
  if !bit (l.p 0x4123) d then l
  else
    let l := (l.setDrn d { l.drn d with ov2 := true, ov2At := l.now }).eventU 0x4102
    if l.fn.ov2On then l
    else ({ l with fn.ov2On := true }.eventU 0x910F).each 8 (fun k l => l.ov2Slot k)

def execBusOv2 (a : At) (drn : Nat) (s : State) : Out := run (drn < 4) s a (fun l => l.busOv2 drn)

/-- A function re-closes its loops: those held open, and those in FALLBACK whose sources are valid (R179, R230). -/
def Lane.fnReclose (l : Lane) (f : Nat) : Lane :=
  if !(l.func f).enabled then l
  else (l.each 32 (fun j l =>
    if l.p 0x7100 j != 0 && l.loopOwner j == some f && (l.loop j).st == .fallback && !l.srcLost j && (l.loop j).cmds.isEmpty then
      (l.loopPush j (.open_ 0) none).loopPush j .close none
    else l)).fnClose f

/-- A disabled bus input has no comparator: its OV1 and OV2 fall (R95). -/
def Lane.busOff (l : Lane) (d : Nat) : Lane :=
  let l := l.busOv1Clear d
  if (l.drn d).ov2 then l.setDrn d { l.drn d with ov2 := false, ov2At := l.now } else l

/-- The bus has stayed low for FN_OV2_HOLD_T, which is not yet so before that time has passed since OV2 last rose: slots re-catch and functions re-close (R230). -/
def Lane.ov2Release (l : Lane) (d : Nat) : Lane :=
  if !l.fn.ov2On || !l.due ((l.drn d).ov2At + ms (l.p 0x9150)) then l
  else
    let l := l.setDrn d { l.drn d with ov2 := false }
    if (List.range 4).any (fun i => (l.drn i).ov2) then l
    else
      let l := { l with fn.ov2On := false }
      let l := l.each 8 (fun k l =>
        let m := l.motor k
        if !m.ov2 then l
        else if m.cfg.kind == .threePhase && m.enabled && m.fly != .failed then
          l.setMotor k { m with ov2 := false, fly := .acquire, syncLost := true, probe := none, acq := false, flyAt := if m.fly == .none then l.now + ms (l.p 0x6142 k) else m.flyAt }
        else l.setMotor k { m with ov2 := false })
      (l.fnReclose 0).fnReclose 1

def execOv2Release (a : At) (drn : Nat) (s : State) : Out := run (drn < 4) s a (fun l => l.ov2Release drn)

/-! ### Sources (R208) -/

/-- A function returns from the stream to hardware mode with its last value. -/
def Lane.streamGone (l : Lane) (f : Nat) : Lane :=
  (l.setFunc f { l.func f with host := false, mode := 1, missed := 0, lastCycle := some l.cyc }).event 0x9102 f

/-- A source switch takes effect (R208). -/
def Lane.sourceSwitch (l : Lane) (f : Nat) : Lane :=
  let x := l.func f
  match x.srcNext with
  | none => l
  | some b =>
    let l := l.setFunc f { x with srcNext := none, host := b, mode := 1, missed := 0, lastCycle := some l.cyc }
    let l := { l with fn.sbAt := if f == 3 then l.now else l.fn.sbAt, fn.returning := l.fn.returning && f != 0,
                      fn.baAt := if f == 1 then none else l.fn.baAt }
    l

/-- A streamed value passes through the range of a commanded one; true when it was limited. -/
def limitTo (lo hi x : F32) : F32 × Bool := (fclamp lo hi x, flt x lo || flt hi x)

/-- The values of a stream entry, applied within their limits (Table MB-15). -/
def Lane.streamApply (l : Lane) (f : Nat) (e : StreamVal) : Lane :=
  match f with
  | 0 =>
    let r := limitTo (l.pf 0x9110) (l.pf 0x9111) e.v0
    (l.setFunc 0 { l.func 0 with limited := r.2 }).setpointApply 0 ⟨[r.1], 1, 0⟩
  | 1 =>
    let rs := ([e.v0, e.v1, e.v2, e.v3].zip (List.range 4)).map (fun p => limitTo f0 (l.pf 0x9120 p.2) p.1)
    (l.setFunc 1 { l.func 1 with limited := rs.any Prod.snd }).setpointApply 1 ⟨rs.map Prod.fst, 15, 0⟩
  | _ => { l with fn.strLimit := some e.v0, fn.strArm := fge e.v1 (fq 1 2) }

/-- Finite values of the entry that a function uses; an entry with others counts as missing (log entry 44). -/
def entryOk (f : Nat) (e : StreamVal) : Bool :=
  match f with
  | 0 => ffinite e.v0
  | 1 => ffinite e.v0 && ffinite e.v1 && ffinite e.v2 && ffinite e.v3
  | _ => ffinite e.v0 && ffinite e.v1

/-- The read point of a host-assisted function (R30, R208). -/
def Lane.streamStep (l : Lane) (f inst : Nat) : Lane :=
  if !(l.func f).enabled || !(l.func f).host then l
  else
    let r := l.streamRead inst
    let l := r.1
    match r.2 with
    | some e =>
      if entryOk f e then (l.setFunc f { l.func f with missed := 0 }).streamApply f e
      else l.setFunc f { l.func f with missed := (l.func f).missed + 1 }
    | none => l.setFunc f { l.func f with missed := (l.func f).missed + 1 }

def Lane.streamCheck (l : Lane) (f : Nat) : Lane :=
  if (l.func f).host && decide (l.p 0x9101 ≤ (l.func f).missed) then l.streamGone f else l

def Lane.hFnSourceSet (m : Msg) (l : Lane) : Lane × Reply :=
  let f := m.u8 0
  guarded l [(decide (f < 5) && !(l.func f).enabled, stRefusedState), (decide (5 ≤ f) || decide (1 < m.u8 1), stBadParam)]
    (fun l => done (l.setFunc f { l.func f with srcNext := some (m.u8 1 == 1) }))

def execFnSourceSet (a : At) (m : Msg) (s : State) : Out := run true s a (fun l => l.serve 0x11 m (Lane.hFnSourceSet m))

/-! ### Mismatch of a received setpoint (R206) -/

/-- The setpoint in force of a function. -/
def Lane.inForce (l : Lane) (f : Nat) : List F32 :=
  match f with
  | 0 => [l.fn.steerSet]
  | 1 => (List.range 4).map (fun w => (l.wheel w).fHost)
  | _ => [l.fn.fDem]

/-- A follower of the mirror set compares its own copy once a cycle; three cycles in a row raise the event. -/
def Lane.misCheck (l : Lane) (f : Nat) : Lane :=
  let x := l.func f
  if l.ownSet || !x.enabled || x.rx.isEmpty || x.misCycle == l.cyc then l
  else
    let n := if x.rx == l.inForce f then 0 else x.misCnt + 1
    let l := l.setFunc f { x with misCnt := n, misCycle := l.cyc }
    if n == 3 then l.eventU 0x9103 else l

/-! ### The outer period -/

/-- A peer whose own channel is lost, and this lane as the most senior one whose channel is synchronised (R237). -/
def Lane.needsForward (l : Lane) (p : LaneId) : Bool :=
  let h := (l.peer p).health.toNat
  (l.peer p).known && !(l.peer p).gone && l.reach p && !bit h 20 && l.net.st == .synced &&
  l.peers.all (fun q => q == p || !((l.peer q).known && l.reach q && !(l.peer q).gone && bit (l.peer q).health.toNat 20 && l.senior q l.id))

def Lane.forwardAll (l : Lane) : Lane :=
  let l := l.eachOf [0, 1] (fun i l =>
    let p := l.peers.getD i l.id
    if l.needsForward p then l.fn.fwd.foldl (fun l b => l.sendTo p false 0x26 b) l else l)
  { l with fn.fwd := [] }

/-- Function states in which the functions run: the firmware runs and no debug halt stops it. -/
def Lane.fnRuns (l : Lane) : Bool := l.fwRuns && !l.pwm.halted && l.st != .failSilent && l.st != .check

def Lane.fnPeriod (l : Lane) (ds : List (Option DsRes)) : Lane :=
  if !l.fnRuns then l
  else
    let l := l.dsTake ds
    let l := l.eachOf [0, 1, 2, 3, 4] (fun f l => l.sourceSwitch f)
    let l := l.eachOf [0, 1, 4] (fun f l => l.setpointsDue f)
    let l := ((l.streamStep 0 92).streamStep 1 93).streamStep 4 94
    let l := l.eachOf [0, 1, 4] (fun f l => (l.streamCheck f).misCheck f)
    let l := if (l.func 0).enabled && (l.func 0).mode == 3 && l.modPart then l.steerReturn else l
    let l := l.countSets
    let l := l.retard
    let l := l.eachOf l.braked (fun w l => (l.brakeWheel w).slackRun w)
    l.forwardAll.assess.stopTrack

def execFnOuterPeriod (a : At) (ds : List (Option DsRes)) (s : State) : Out := run true s a (fun l => l.fnPeriod ds)

/-! ### Enable, status, batch (Tables FN-1 and FN-2, R350) -/

/-- Outer loop slots that a function owns. -/
def Lane.ownedOuter (l : Lane) (f : Nat) : List Nat := (List.range 32).filter (fun j => l.p 0x7100 j != 0 && l.p 0x7100 j != 1 && l.loopOwner j == some f)

def Lane.fnStart (l : Lane) (f : Nat) : Lane :=
  if (l.func f).enabled then l
  else
    let l := l.setFunc f { enabled := true, lastCycle := some l.cyc }
    (l.eachOf (l.ownedOuter f) (fun j l => l.loopEnable j)).fnClose f

/-- A function is disabled with its work in flight (Table FN-5). -/
def Lane.fnStop (l : Lane) (f : Nat) : Lane :=
  if !(l.func f).enabled then l
  else
    let l := l.setFunc f {}
    match f with
    | 0 =>
      let l := { l with fn.returning := false }.streamFlush 92
      let l := l.eachOf (l.ownedOuter 0) (fun j l => l.loopDisable j)
      let l := match l.steerGen with | some g => l.genHalt g stAbortedDisable | none => l
      match l.steerSlot with | some k => l.takeSafe k | none => l
    | 1 =>
      let l := { l with fn.baAt := none }.streamFlush 93
      l.each 4 (fun w l => l.setWheel w { l.wheel w with fHost := f0, fBlend := f0, learning := false })
    | 2 => l.each 4 (fun w l => match l.adjSlot w with
      | some k => (l.genHalt (l.p 0x8110 k) stAbortedDisable).setWheel w { l.wheel w with running := false, wanted := none }
      | none => l)
    | 3 => l
    | _ =>
      let l := { l with fn.pLim := f0, fn.fDem := f0, fn.fEl := f0, fn.strLimit := none, fn.strArm := false }.streamFlush 94
      let l := l.each 4 (fun w l => l.setWheel w { l.wheel w with fBlend := f0 })
      let l := l.each 2 (fun c l => (l.setChop c { l.chop c with armed := false, preAt := none, quietAt := none }).chopDuty c f0)
      l.assertInh

def Lane.hFnEnable (m : Msg) (l : Lane) : Lane × Reply :=
  let f := m.u8 0
  let on := m.u8 1 == 1
  let v := m.f32 4
  guarded l [(decide (f < 5) && ((on && l.entering) || (m.u8 1 == 0 && (f == 0 || f == 1 || f == 4) && fgt v (l.pf 0x9130))), stRefusedState),
    (decide (5 ≤ f) || decide (1 < m.u8 1), stBadParam)] (fun l =>
    let l := { l with fn.v := v }
    done (if on then l.idleToRun.fnStart f else l.fnStop f))

def execFnEnable (a : At) (m : Msg) (s : State) : Out := run true s a (fun l => l.serve 0x10 m (Lane.hFnEnable m))

/-- Sets that carry a function's load, 0 to 3 (Table FN-2): of several actuators the fewest. -/
def Lane.setsOf (l : Lane) (f : Nat) : Nat :=
  let least (ks : List Nat) : Nat := min 3 ((ks.map (fun k => l.fn.nD.getD k 0)).foldl min (if ks.isEmpty then 0 else 3))
  match f with
  | 0 => least l.steerSlot.toList
  | 1 => least (l.braked.filterMap l.brakeSlot)
  | 4 => min 3 l.rtChannels.length
  | _ => 0

/-- The solenoid carries current: a HOLD is sensed closed, and one of the three pairs of the bridge, VETO1_A–VETO1_B, VETO2_B–VETO1_C and VETO2_C–VETO2_A (R217, R218, Table FN-2). -/
def Lane.sbReleased (l : Lane) : Bool :=
  let sw (p : LaneId) (i : Nat) : Bool := (if p == l.id then l.fn.sense else (l.cellOf p).2).getD i false
  (sw .a 0 || sw .b 0 || sw .c 0) && ((sw .a 1 && sw .b 1) || (sw .b 2 && sw .c 1) || (sw .c 2 && sw .a 2))

/-- A wheel's setpoint and friction share together pass FN_BR_FMAX (R213). -/
def Lane.forceCapped (l : Lane) (w : Nat) : Bool := fgt (fadd (l.wheel w).fHost (l.wheel w).fBlend) (l.pf 0x9120 w)

/-- VALUE of Table FN-2. -/
def Lane.fnValue (l : Lane) (f : Nat) : Nat :=
  match f with
  | 0 => match l.steerSlot with
    | some k => wrap 16 (fto (fofD (l.servoHeld k)) 100 1)
    | none => 0
  | 1 => min 65535 (fto (l.braked.foldl (fun s w => fadd s (l.estUse w)) f0) 10 1).toNat
  | 2 => ofBits ((List.range 4).map (fun w => (l.wheel w).due))
  | 3 => ofBits (l.fn.sense ++ (List.range 3).map (fun i => l.fn.senseBad.getD i false))
  | _ => min 65535 (if l.fn.speedReq then fto l.fn.speedTgt 100 1 else fto l.pLimOut 1 10).toNat

/-- The status word of a function (Table FN-2). -/
def Lane.fnStatus (l : Lane) (f : Nat) : Nat :=
  let x := l.func f
  let mode := if !x.enabled then (if x.mode == 5 then 5 else 0) else if x.mode == 5 then 5 else if x.host then 2 else x.mode
  let sets := l.setsOf f
  let ref := match f with
    | 0 => (match l.steerSlot with | some k => (l.stepper k).referenced | none => false)
    | 1 => !l.braked.isEmpty && l.braked.all (fun w => (l.wheel w).learned)
    | 2 => (List.range 4).all (fun w => match l.adjSlot w with | some k => (l.stepper k).referenced | none => true)
    | _ => false
  mode * 2 ^ 29 + sets * 2 ^ 27 + b2n (x.limited || (f == 1 && l.braked.any l.forceCapped) || (decide (f < 2) && x.enabled && decide (sets < 3))) * 2 ^ 26 + b2n l.fn.speedReq * 2 ^ 25 +
  b2n l.net.part * 2 ^ 24 + b2n l.sbReleased * 2 ^ 23 + b2n l.regenInh * 2 ^ 22 + b2n (l.fn.wheel.any (fun w => fgt w.fBlend f0)) * 2 ^ 21 +
  b2n (l.fn.ch.any Chopper.faulty || !l.fn.notice.isEmpty) * 2 ^ 20 + b2n (l.fn.wheel.any Wheel.due) * 2 ^ 19 + b2n ref * 2 ^ 18 + l.fnValue f

def Lane.hFnStatus (m : Msg) (l : Lane) : Lane × Reply :=
  if 5 ≤ m.u8 0 then refuse l stBadParam else done l (leBytes 4 (l.fnStatus (m.u8 0)))

def execFnStatus (a : At) (m : Msg) (s : State) : Out := run true s a (fun l => l.serve 0x17 m (Lane.hFnStatus m))

/-- BATCH_REFUSED names the equivalent command and its status; the layout of the argument is that of CMD_COMPLETE (log entry 45). -/
def Lane.batchResult (op : Nat) (r : Lane × Nat) : Lane :=
  if r.2 == stAccepted then r.1 else r.1.event 0x110A (op * 256 + r.2)

/-- One record of FN_BATCH (Table MB-13). -/
def Lane.batchRecord (l : Lane) (m : Msg) (k : Nat) : Lane :=
  let o := 12 + 8 * k
  if m.u8 o != l.np 0xB105 then l
  else
    let v := m.f32 0
    let apply := m.u32 4
    let l := if bit (m.u8 (o + 1)) 0 then Lane.batchResult 0x12 (l.trySteer true (fq (sext 16 (m.u16 (o + 2))) 100) v apply) else l
    if bit (m.u8 (o + 1)) 1 then Lane.batchResult 0x13 (l.tryBrake true 3 [fq (m.u16 (o + 4)) 10, fq (m.u16 (o + 6)) 10] v apply) else l

def Lane.hFnBatch (m : Msg) (l : Lane) : Lane × Reply :=
  done ((List.range (m.u8 8)).foldl (fun l k => l.batchRecord m k) l)

def execFnBatch (a : At) (m : Msg) (s : State) : Out := run true s a (fun l => l.serve 0x19 m (Lane.hFnBatch m))

end Sys2Proof.Machine
end

