-- ==== Sys2Proof/Machine/Redund.lean ====
section
/-! DEFINITION. Lane redundancy: the inter-lane blocks, the vote, step-down and failover, the mirror set, the outer sequence, resynchronisation, lane splits, islands and the commands 0x60 and 0x62 (R233 to R267, R402, R427). -/

namespace Sys2Proof.Machine

/-! ### Chains and references (R168, R209, R253) -/

/-- Current loop slots in slot order: the torque chains of a lane, at most 8 (Table RD-1). -/
def Lane.chains (l : Lane) : List Nat := ((List.range 32).filter (fun j => l.p 0x7100 j == 1)).take 8

/-- A value in units of I_rated as Q1.14. -/
def q14 (x : F32) : Int := if ffinite x then max (-32768) (min 32767 (fto x 16384 1)) else 0

/-- The total reference of a current slot, in units of I_rated: the output of its upstream slot. -/
def Lane.iTot (l : Lane) (j : Nat) : F32 := (l.upstream j).1

/-- The set of motor slot k of a lane is capable of torque. -/
def Lane.joinSet (l : Lane) (p : LaneId) (k : Nat) : Bool := if p == l.id then l.torque k else bit (l.peer p).health.toNat (8 + k)

/-- The weight of a lane's set of motor slot k: r while it joins, else 1 (R253). -/
def Lane.weight (l : Lane) (p : LaneId) (k : Nat) : F32 :=
  match l.red.joinAt.getD p.idx none with
  | some t => if l.joinSet p k then fclamp f0 f1 (fq ((l.now : Int) - t) (ms (l.p 0xA122))) else f1
  | none => f1

/-- Joining sets of motor slot k, the lane's own among them. -/
def Lane.joining (l : Lane) (k : Nat) : List LaneId :=
  (l.id :: l.peers).filter (fun p => (l.red.joinAt.getD p.idx none).isSome && l.joinSet p k)

/-- n_full + Σ r of motor slot k, at least one set (R209, R253). -/
def Lane.shares (l : Lane) (k : Nat) : F32 :=
  let js := l.joining k
  fmax f1 (js.foldl (fun s p => fadd s (l.weight p k)) (fi ((l.fn.nD.getD k 0 : Int) - js.length)))

/-- i_set of one full set of a chain, limited to 1.0 × I_rated (R209). -/
def Lane.iSet (l : Lane) (j : Nat) : F32 := fclamp (fneg f1) f1 (fdiv (l.iTot j) (l.shares (l.p 0x7101 j)))

/-- The next reference of a chain: it enters the latch at the first read point at or after t (R168). Of the references whose time has come the newest alone stays. -/
def Lane.latchRef (l : Lane) (j : Nat) (v : Int) (t : Nat) : Lane :=
  let q := (l.loop j).refNext
  let due := q.filter (fun e => e.2 ≤ l.now)
  l.setLoop j { l.loop j with refNext := due.drop (due.length - 1) ++ q.filter (fun e => l.now < e.2) ++ [(fmul (fq v 16384) (l.pf 0x6102 (l.p 0x7101 j)), t)] }

/-- The references of a block, from its first chain on. -/
def blockVals (p : List Byte) : List (Nat × Int) := (List.range 5).map (fun i => (byteAt p 1 + i, sext 16 (leAt p (2 + 2 * i) 2)))

/-- The payloads of REF or CMP for a list of chain values: five to a block (Table RD-1). -/
def Lane.refBlocks (l : Lane) (vs : List Int) : List (List Byte) :=
  let one (first : Nat) : List (List Byte) :=
    let xs := (vs.drop first).take 5
    if xs.isEmpty then [] else [[b8 l.le.outerIdx, b8 first] ++ xs.flatMap (fun v => leBytes 2 (wrap 16 v))]
  one 0 ++ one 5

/-- A reference has come: a failover in progress ends (R243). -/
def Lane.refCame (l : Lane) (t : Nat) : Lane := { l with red.refAt := t, red.failAt := none, red.lateTold := false }

/-! ### Link loss and the split (R21, R255, R256) -/

/-- No live peer has a working link to this lane. -/
def Lane.isolated (l : Lane) : Bool := l.peers.all (fun p => !l.linkUp p || (l.peer p).gone || !(l.peer p).known)

/-- A lane that drives and has lost sight of every live peer starts its split decision (R246, R256). -/
def Lane.splitStart (l : Lane) (live : List Nat) : Lane :=
  let x : Split := ⟨l.cyc, l.st == .authority, live⟩
  ({ l with red.split := some x, red.auth := (if l.st == .authority then l.red.auth else 0), red.claim := none } : Lane).dupStart

/-- The authority is out of reach, and this lane still has a peer: authority is lost (R242, R256). -/
def Lane.authCheck (l : Lane) : Lane :=
  match LaneId.ofCode l.red.auth with
  | some p => if p != l.id && (l.st == .shadow) && l.red.split.isNone && !l.reach p then l.authLost else l
  | none => l

/-- The payload of a HEALTH block (Table RD-1, log entries 40 and 42): health word, module status word, in which a lane that is not the authority reports its own PARTITIONED, and fault instances. -/
def Lane.healthBytes (l : Lane) : List Byte :=
  let w := l.red.modStat.toNat
  let w := if l.st == .authority then w else w - b2n (bit w 18) * 2 ^ 18 + b2n l.net.part * 2 ^ 18
  let fs := if l.st == .authority then l.classCounts else l.ownInst
  leBytes 4 l.healthWord ++ leBytes 4 w ++ (List.range 4).map (fun i => b8 (min 15 (fs.getD (2 * i) 0) + 16 * min 15 (fs.getD (2 * i + 1) 0)))

/-- A lane that loses a link tells its peers at once, in an urgent HEALTH block: the third lane's word is what shows that a silent authority is lost (R242, R243, log entry 184). -/
def Lane.linkTell (l : Lane) : Lane := if mayDrive l.st && l.fwRuns then l.sendBoth true 0x21 l.healthBytes (some l.mySide) else l

/-- A link is declared lost (R21, R255); on a link that is lost already the clean reception begins anew. -/
def Lane.linkLost (l : Lane) (p : LaneId) : Lane :=
  if p == l.id then l
  else if !l.linkUp p then l.setLnk p { l.lnk p with cleanSince := l.now, shook := false }
  else
    let live := (l.peers.filter (fun q => (l.peer q).known && !(l.peer q).gone && l.reach q)).map LaneId.code
    let k := l.lnk p
    let l := (l.setLnk p { k with up := false, cleanSince := l.now, badTimes := [], seqRx := none, shook := false }).linkTrack.eventU 0xA106
    let l := l.linkTell
    let l := if (l.st == .shadow || l.st == .authority) && l.isolated && !live.isEmpty && l.red.split.isNone then l.splitStart live else l.authCheck
    l.assess

/-- A discarded block (R21). After a discard the next block of the link is taken with any sequence number. -/
def Lane.badBlock (l : Lane) (p : LaneId) : Lane :=
  if p == l.id then l
  else
    let k := l.lnk p
    let ts := recent l.now (ms 1) k.badTimes
    let l := l.setLnk p { k with badTimes := ts, badCount := k.badCount + 1, cleanSince := l.now, seqRx := none, shook := k.shook && k.up }
    let l := if (match LaneId.ofCode l.red.auth with | some x => x == p || !l.linkUp x | none => false) then { l with red.mirGap := true } else l
    if 16 ≤ ts.length then l.linkLost p else l

def execInterlaneBadBlock (a : At) (from_ : LaneId) (s : State) : Out := run true s a (fun l => if l.linkOn then l.badBlock from_ else l)

/-- No valid block for 20 µs (R21). -/
def execLinkLossTimeout (a : At) (peer : LaneId) (s : State) : Out :=
  run true s a (fun l => if l.due ((l.lnk peer).lastValid + us 20) then l.linkLost peer else l)

/-! ### Receiving a block (R21, R236, R240, R255) -/

/-- Blocks that a lane acts on although the link they came on is not yet restored: the resynchronisation handshake (R21). -/
def handshake (kind : Nat) : Bool := kind == 0x22 || kind == 0x23

/-- A block that names no lane goes on where the sender's own health word shows its link to the other peer down; one that names a lane goes to that lane alone (R255, log entry 29). -/
def Lane.goesOn (l : Lane) (from_ q : LaneId) (b : Block) : Bool :=
  match b.dest with
  | some d => d == q
  | none => (l.peer from_).known && !bit (l.peer from_).health.toNat (if from_.next == q then 23 else 22)

/-- Relays a block of one peer to the other, in its class (R255). -/
def Lane.relayBlock (l : Lane) (from_ : LaneId) (b : Block) (urgent : Bool) : Lane :=
  let q := if from_ == l.id.next then l.id.prev else l.id.next
  if bit b.kind.toNat 7 || !l.goesOn from_ q b || !l.linkUp from_ || !l.linkUp q then l
  else l.send q urgent (b.kind.toNat % 128 + 128) b.payload (some q) b.side

/-- Acts on a block that was taken, unless the lane ignores it. -/
def Lane.actOn (l : Lane) (from_ : LaneId) (b : Block) (kind : Nat) (f : LaneId → Lane → Lane) : Lane :=
  let origin := if bit b.kind.toNat 7 then (if from_ == l.id.next then l.id.prev else l.id.next) else from_
  if !(l.lnk from_).up && !handshake kind then l
  else if (b.dest.getD l.id) != l.id then l
  else if l.st == .failSilent && kind != 0x24 then l
  else if (l.peer origin).ignored && kind != 0x12 && kind != 0x22 then l
  else f origin l

/-- Blocks received in order since the last one: no command brings an idle block, so a step of n is in order where n block times lie between, n − 1 of them idle (R20, R21; log entry 153). -/
def Link.inOrder (k : Link) (q seq : Byte) (now : Nat) : Bool :=
  let n := (seq - q).toNat
  decide (1 ≤ n) && decide (n ≤ max 1 ((now - k.lastValid + blockTicks / 2) / blockTicks))

/-- Takes a block: its sequence number, the relay, the blocks ignored, then its own action with the lane that it comes from (R21, R240, R254, R255). -/
def Lane.rxBlock (l : Lane) (from_ : LaneId) (b : Block) (urgent : Bool) (kind : Nat) (f : LaneId → Lane → Lane) : Lane :=
  if from_ == l.id || !l.linkOn then l
  else
    let k := l.lnk from_
    match k.seqRx with
    | some q =>
      if !k.inOrder q b.seq l.now then l.badBlock from_
      else (l.setLnk from_ { k with seqRx := some b.seq, lastValid := l.now }).relayBlock from_ b urgent |>.actOn from_ b kind f
    | none => (l.setLnk from_ { k with seqRx := some b.seq, lastValid := l.now }).relayBlock from_ b urgent |>.actOn from_ b kind f

/-! ### References (R168, R243, R402) -/

def Lane.refRx (l : Lane) (p : List Byte) (origin : LaneId) : Lane :=
  let fromAuth := l.red.auth == origin.code || healthState (l.peer origin).health == 6
  let put (l : Lane) (t : Nat) : Lane := (blockVals p).foldl (fun (l : Lane) (v : Nat × Int) => match l.chains[v.1]? with
    | some j => l.latchRef j v.2 t
    | none => l) l
  if l.st == .shadow && fromAuth then
    let t := l.le.outerEnd + us 5
    (put l t).refCame t
  else if l.st == .limp && fromAuth then put { l with red.limpAt := some l.now } l.now
  else l

def execRefBlockRx (a : At) (from_ : LaneId) (b : Block) (s : State) : Out :=
  run true s a (fun l => l.rxBlock from_ b true 0x10 (fun o l => l.refRx b.payload o))

/-- No REF block for 2 outer periods, or more than one other lane drives: the sets of a LIMP lane take their lane-safe state (R402). -/
def execLimpRefTimeout (a : At) (s : State) : Out := run true s a (fun l => if l.st == .limp && !l.limpDrive then l.takeSafeAll else l)

/-! ### The vote (R238 to R240) -/

/-- The disagreement counts of a pair of lanes, in the order A-B, B-C, C-A. -/
def Lane.disOf (l : Lane) (x y : LaneId) : List Nat :=
  match x.code + y.code with
  | 3 => l.red.disAB | 5 => l.red.disBC | _ => l.red.disCA

def Lane.setDis (l : Lane) (x y : LaneId) (v : List Nat) : Lane :=
  match x.code + y.code with
  | 3 => { l with red.disAB := v } | 5 => { l with red.disBC := v } | _ => { l with red.disCA := v }

/-- Values of a lane for a chain in an outer period. -/
def Lane.cmpVal (l : Lane) (x : LaneId) (c idx : Nat) : Option Int :=
  let v := l.peer x
  if v.cmpIdx == idx then v.cmp.getD c none else none

/-- Compares two lanes on a chain (R238). -/
def Lane.compare (l : Lane) (x y : LaneId) (c idx : Nat) : Lane :=
  match l.cmpVal x c idx, l.cmpVal y c idx with
  | some u, some v =>
    let far := fgt (fq (u - v).natAbs 16384) (l.pf 0xA101 c)
    let n := l.disOf x y
    let l := if far && (x == l.id || y == l.id) && l.st == .sync && (l.red.auth == x.code || l.red.auth == y.code) then { l with red.rejoin.bad := true } else l
    l.setDis x y (n.set c (if far then n.getD c 0 + 1 else 0))
  | _, _ => l

/-- A lane votes on chain c: it is eligible, or lacks no more than eligibility on other chains as it reports it, and is not out-voted (R238, log entries 47 and 49). -/
def Lane.votes (l : Lane) (c : Nat) (x : LaneId) : Bool :=
  let v := l.peer x
  if x == l.id then l.votesOn c
  else l.reach x && v.known && !v.gone && !v.outVoted &&
    (healthElig v.health || (match v.side with | some s => s.votes.getD c false | none => false))

def Lane.disagree (l : Lane) (x y : LaneId) (c : Nat) : Bool := decide (l.p 0xA102 ≤ (l.disOf x y).getD c 0)

/-- Largest difference of a lane from the others on a chain, in units of I_rated. -/
def Lane.farthest (l : Lane) (z : LaneId) (c : Nat) : F32 :=
  let idx := (l.peer z).cmpIdx
  match l.cmpVal z c idx with
  | some v => [z.next, z.prev].foldl (fun m q => match l.cmpVal q c idx with | some u => fmax m (fq (u - v).natAbs 16384) | none => m) f0
  | none => f0

/-- Keys of the fault instances that a chain without a majority counts (R239). -/
def noMajKey (c k : Nat) : Nat := 100 + 2 * c + k

def Lane.noMajority (l : Lane) (c n : Nat) : Lane :=
  let l := l.eventU 0xA105
  if n == 2 then (l.addInst 1 0 (noMajKey c 0)).addInst 1 0 (noMajKey c 1) else l.addInst 1 0 (noMajKey c 0)

/-- A lane is out-voted (R239, R240). -/
def Lane.outVote (l : Lane) (z : LaneId) (c : Nat) : Lane :=
  let l := l.eventU 0xA103
  if z == l.id then ({ l with red.selfOut := true }).failSilent 1
  else
    let l := (l.setPeer z { l.peer z with outVoted := true }).sendTo z true 0x15 ([b8 z.code, b8 c] ++ leBytes 4 (l.farthest z c).toNat)
    let l := l.addInst 1 z.code 0
    if l.red.auth == z.code then (l.safetyRequest l.slotHbs).authLost else l.assess

/-- The outcome of a chain: 0 agreement, 1 marginal, 2 no majority (Table RD-2). -/
def Lane.voteChain (l : Lane) (c : Nat) : Lane :=
  if !(l.st == .shadow || l.st == .authority) then l
  else
    let told := l.red.voteTold.getD c 0
    let mark (l : Lane) (v : Nat) : Lane := { l with red.voteTold := l.red.voteTold.set c v }
    let clear (l : Lane) : Lane := ((l.dropInst 1 0 (noMajKey c 0)).dropInst 1 0 (noMajKey c 1))
    match [LaneId.a, .b, .c].filter (l.votes c) with
    | [x, y, z] =>
      let xy := l.disagree x y c
      let yz := l.disagree y z c
      let zx := l.disagree z x c
      if xy && yz && zx then (if told == 2 then l else (mark l 2).noMajority c 2 |>.assess)
      else if xy && yz then (clear (mark l 0)).outVote y c
      else if yz && zx then (clear (mark l 0)).outVote z c
      else if xy && zx then (clear (mark l 0)).outVote x c
      else if xy || yz || zx then (if told == 1 then l else ((clear (mark l 1)).eventU 0xA104).assess)
      else if told == 0 then l else (clear (mark l 0)).assess
    | [x, y] =>
      if l.disagree x y c then (if told == 2 then l else (mark l 2).noMajority c 1 |>.assess)
      else if told == 0 then l else (clear (mark l 0)).assess
    | _ => l

def Lane.voteAll (l : Lane) : Lane := l.eachOf (List.range l.chains.length) (fun c l => l.voteChain c)

/-- The chain has the values of every voting lane for a period. -/
def Lane.voteReady (l : Lane) (c idx : Nat) : Bool := ([LaneId.a, .b, .c].filter (l.votes c)).all (fun x => (l.cmpVal x c idx).isSome)

/-- Values of a lane have come: its pairs are compared with what the others sent for the same period. -/
def Lane.cmpTake (l : Lane) (x : LaneId) (idx : Nat) (vs : List (Nat × Int)) : Lane :=
  let v := l.peer x
  let old := if v.cmpIdx == idx then v.cmp else List.replicate 8 none
  let vs := vs.filter (fun q => decide (q.1 < l.chains.length) && (old.getD q.1 none).isNone)
  let l := l.setPeer x { v with cmp := vs.foldl (fun m q => m.set q.1 (some q.2)) old, cmpIdx := idx }
  vs.foldl (fun l q =>
    let l := (l.compare x x.next q.1 idx).compare x x.prev q.1 idx
    if l.voteReady q.1 idx then l.voteChain q.1 else l) l

def execCmpBlockRx (a : At) (from_ : LaneId) (b : Block) (s : State) : Out :=
  run true s a (fun l => l.rxBlock from_ b true 0x11 (fun o l => l.cmpTake o (byteAt b.payload 0) (blockVals b.payload)))

def Lane.voteOutRx (l : Lane) (p : List Byte) : Lane :=
  if byteAt p 0 == l.id.code && (l.st == .shadow || l.st == .authority) then ({ l with red.selfOut := true }).failSilent 1 else l

def execVoteOutRx (a : At) (from_ : LaneId) (b : Block) (s : State) : Out :=
  run true s a (fun l => l.rxBlock from_ b true 0x15 (fun _ l => l.voteOutRx b.payload))

/-! ### Withdrawal, claims and acknowledgements (R242, R246, R261, R266) -/

/-- Starts or restarts the rejoin at step 1 with the present authority (R252). -/
def Lane.rejoinSend (l : Lane) : Lane :=
  match LaneId.ofCode l.red.auth with
  | some p =>
    if p == l.id || !l.reach p then l
    else ({ l with red.rejoin := { l.red.rejoin with step := 1, sent := true, startAt := l.now, good := 0, periods := 0, bad := false, auth := p.code } }).sendTo p false 0x22 l.cycleBytes
  | none => l

/-- A rejoin begins once an authority is known (R252). -/
def Lane.rejoinBegin (l : Lane) : Lane :=
  if l.st == .sync && !l.red.rejoin.sent && !l.red.rejoin.spent then (l.releaseIds [0xA120, 0xA121]).rejoinSend else l

/-- Rejoin during failover: it restarts at step 1 after AUTH_TAKEN (Table RD-12). -/
def Lane.rejoinRestart (l : Lane) : Lane :=
  if l.st == .sync && l.red.rejoin.sent then { l with red.rejoin := { l.red.rejoin with sent := false, step := 1, good := 0, periods := 0 } } else l

def Lane.withdrawRx (l : Lane) (p : List Byte) (o : LaneId) : Lane :=
  let v := l.peer o
  let code := byteAt p 0
  let cause := byteAt p 1
  let h : W32 := .ofNat 32 (code % 16 * 2 ^ 28 + v.health.toNat % 2 ^ 25 + bits v.health.toNat 27 26 * 2 ^ 26)
  let l := l.setPeer o { v with gone := true, goneCls := cause, known := true, health := h, outVoted := false, ignored := false }
  let l := (if 1 ≤ cause ∧ cause ≤ 8 then l.addInst cause o.code 0 else l).linkTrack
  let l := { l with red.joinAt := l.red.joinAt.set o.idx none }
  let l :=
    if l.red.auth == o.code then
      let l := if l.st == .shadow && l.mostSenior then l.safetyRequest l.slotHbs else l
      (l.rejoinRestart).authLost
    else if l.red.auth == 0 then ({ l with red.claim := none }).claimStep
    else l
  l.assess

def execWithdrawBlockRx (a : At) (from_ : LaneId) (b : Block) (s : State) : Out :=
  run true s a (fun l => l.rxBlock from_ b true 0x12 (fun o l => l.withdrawRx b.payload o))

def Lane.sendAck (l : Lane) (o : LaneId) (p : List Byte) (ok : Bool) : Lane :=
  l.sendTo o true 0x14 ((List.range 6).map (fun i => p.getD i 0) ++ [b8 o.code, b8 (b2n ok)] ++ leBytes 4 l.healthWord)

/-- A claim: a more senior one is accepted, a less senior one refused and answered by the lane's own claim, where it may claim (R242). -/
def Lane.claimRx (l : Lane) (p : List Byte) (o : LaneId) : Lane :=
  let v := l.peer o
  let l := l.setPeer o { v with health := .ofNat 32 (leAt p 8 4), known := true }
  if byteAt p 7 != o.code then l
  else if l.st == .authority || (v.outVoted && (l.st == .shadow || l.st == .follower)) then l.sendAck o p false
  else if l.st == .shadow || l.st == .follower then
    if l.senior o l.id || !l.eligible then
      let l := (({ l with red.auth := o.code, red.claim := none }).sendAck o p true).dupEnd
      l.safetyRequest l.slotHbs
    else (l.sendAck o p false).claimStep
  else if v.outVoted then l
  else { l with red.auth := o.code }.rejoinBegin

def execAuthClaimRx (a : At) (from_ : LaneId) (b : Block) (s : State) : Out :=
  run true s a (fun l => l.rxBlock from_ b true 0x13 (fun o l => l.claimRx b.payload o))

/-- The first accepting answer makes the claimant the authority (R242); a running test ends for it (Table RD-12). -/
def Lane.ackRx (l : Lane) (p : List Byte) : Lane :=
  match l.red.claim with
  | some c =>
    if byteAt p 6 != l.id.code || leAt p 0 6 != c.cycle || l.st != .shadow then l
    else if byteAt p 7 == 1 then l.enterAuthority.assess
    else { l with red.claim := none }
  | none => l

def execAuthAckRx (a : At) (from_ : LaneId) (b : Block) (s : State) : Out :=
  run true s a (fun l => l.rxBlock from_ b true 0x14 (fun _ l => l.ackRx b.payload))

/-- No reference within two outer periods of the last one (R243). -/
def Lane.failoverLate (l : Lane) : Lane :=
  if l.red.failAt.isSome && !l.red.lateTold && l.due (l.red.refAt + 2 * l.outerTicks + 1) then
    let l := ({ l with red.lateTold := true }).eventU 0xA110
    if l.red.claim.isSome || l.st == .authority then l.internalFault else l
  else l

def execFailoverLate (a : At) (s : State) : Out := run true s a Lane.failoverLate

/-! ### Notices (Table RD-1, R237) -/

def execTripNoticeRx (a : At) (from_ : LaneId) (b : Block) (s : State) : Out :=
  run true s a (fun l => l.rxBlock from_ b true 0x16 (fun o l =>
    l.setPeer o { l.peer o with trip := some (byteAt b.payload 0, leAt b.payload 1 2, leAt b.payload 3 8) }))

def execChopNoticeRx (a : At) (from_ : LaneId) (b : Block) (s : State) : Out :=
  run true s a (fun l => l.rxBlock from_ b true 0x17 (fun _ l => l.chopNotice (byteAt b.payload 0) (byteAt b.payload 1)))

/-- A paired stack's microstep count against the own one, three periods in a row (R202). -/
def Lane.pairSlot (l : Lane) (k : Nat) (m : Int) (o : LaneId) : Lane :=
  if (l.motor k).cfg.kind != .stepper || l.p 0x8140 k != o.code then l
  else
    let x := l.stepper k
    match l.red.pairM.getD k none with
    | none => l
    | some own =>
      let far := l.peerDrives o && decide (l.p 0x8141 k < (own - m).natAbs)
      let n := if far then x.pairCnt + 1 else 0
      let l := l.setStepper k { x with pairCnt := n, pairTold := x.pairTold && far }
      if 3 ≤ n && !x.pairTold then
        ((l.setStepper k { l.stepper k with pairTold := true }).eventU 0x8108).genPush (l.p 0x8110 k) (.stop true) none
      else l

def execPairPosRx (a : At) (from_ : LaneId) (b : Block) (s : State) : Out :=
  run true s a (fun l => l.rxBlock from_ b false 0x25 (fun o l =>
    if byteAt b.payload 0 < 8 then l.pairSlot (byteAt b.payload 0) (sext 32 (leAt b.payload 2 4)) o else l))

/-- A forwarded setpoint (R237): its apply cycle is the one within ±32,768 of the counter whose low 16 bits match. -/
def Lane.setpointRx (l : Lane) (p : List Byte) : Lane :=
  let w := byteAt p 1 % 16
  let x : F32 := .ofNat 32 (leAt p 2 4)
  let v : F32 := .ofNat 32 (leAt p 6 4)
  let c := l.cyc
  let apply := wrap 32 ((c : Int) + sext 16 (wrap 16 ((leAt p 10 2 : Int) - c)))
  if !l.net.chLost || !l.fnRuns || !ffinite x || !ffinite v then l
  else match byteAt p 0 with
    | 0 => (l.trySteer false x v apply).1
    | 1 => (l.tryBrake false (2 ^ w) ((List.range 4).map (fun i => if i == w then x else f0)) v apply).1
    | 2 => (l.trySlack false w x v).1
    | 3 => (l.trySpring false (fge x f1) (fge x (fi 2)) v).1
    | 4 => (l.tryRetard false x v apply).1
    | _ => l

def execSetpointBlockRx (a : At) (from_ : LaneId) (b : Block) (s : State) : Out :=
  run true s a (fun l => l.rxBlock from_ b false 0x26 (fun _ l => l.setpointRx b.payload))

/-! ### The mirror set (R247 to R249) -/

def Lane.mirMap (l : Lane) : List Nat := l.pvals 0xA103 0

/-- Low or high word of a 64-bit value. -/
def half (w : W64) (hi : Nat) : W32 := .ofNat 32 (if hi == 0 then w.toNat else w.toNat / 2 ^ 32)
def setHalf (w : W64) (hi : Nat) (v : W32) : W64 := .ofNat 64 (if hi == 0 then w.toNat / 2 ^ 32 * 2 ^ 32 + v.toNat else v.toNat * 2 ^ 32 + w.toNat % 2 ^ 32)

/-- One 4-bit count or flag list as a word. -/
def flagW (b : Bool) : W32 := .ofNat 32 (b2n b)

/-- The value of a mirror entry in the authority (R247); the elements of an object are numbered in the order given here (log entry 48). -/
def Lane.mirGet (l : Lane) (d : Nat) : W32 :=
  let i := bits d 15 8
  let e := bits d 7 0
  match Config.mirrorObj (d / 65536) with
  | .integrator => if e == 0 then (l.loop i).xD else (l.loop i).xQ
  | .generator =>
    let g := l.gen i
    half (match e / 2 with | 0 => g.p | 1 => g.v | 2 => g.a | _ => g.target) (e % 2)
  | .steerAngle => l.fn.steerSet
  | .clampForce => (l.wheel i).fHost
  | .speed => l.fn.v
  | .fDem => l.fn.fDem
  | .sbDecision => match l.fn.sbApply with | none => 0 | some true => 1 | some false => 2
  | .contact => match e with | 0 => (l.wheel i).xC | 1 => (l.wheel i).xC0 | _ => flagW (l.wheel i).due
  | .rtFlags => flagW (if e == l.id.code then (l.chop i).faulty else l.fn.notice.contains (e, i))
  | .speedReq => if e == 0 then l.fn.speedTgt else flagW l.fn.speedReq
  | .inhibit => .ofNat 32 (match l.fn.inhAt with | some t => (l.now - t) / us 1 + 1 | none => 0)
  | .pLim => l.fn.pLim
  | .faults => .ofNat 32 (l.classCount i)
  | .other => 0

/-- Loads a mirror entry: states only, never coefficients (R248). -/
def Lane.mirPut (l : Lane) (d : Nat) (v : W32) : Lane :=
  let i := bits d 15 8
  let e := bits d 7 0
  match Config.mirrorObj (d / 65536) with
  | .integrator => if i < 32 && l.p 0x7100 i != 1 then l.setLoop i (if e == 0 then { l.loop i with xD := v } else { l.loop i with xQ := v }) else l
  | .generator =>
    let g := l.gen i
    if (List.range 8).contains i then
      l.setGen i (match e / 2 with | 0 => { g with p := setHalf g.p (e % 2) v } | 1 => { g with v := setHalf g.v (e % 2) v } | 2 => { g with a := setHalf g.a (e % 2) v } | _ => { g with target := setHalf g.target (e % 2) v })
    else l
  | .steerAngle => if v == l.fn.steerSet then l else { l with fn.steerSet := v, fn.returning := l.fn.returning && v == f0 }.steerMove v
  | .clampForce => l.setWheel i { l.wheel i with fHost := v }
  | .speed => { l with fn.v := v }
  | .fDem => { l with fn.fDem := v }
  | .sbDecision =>
    let d := if v == 0 then none else some (v == 1)
    if d == l.fn.sbApply then l
    else (match d with
      | some true => l.sbSet true
      | _ => { l.sbTestEnd with fn.sbApply := d }.cellFollow)
  | .contact => l.setWheel i (match e with | 0 => { l.wheel i with xC := v } | 1 => { l.wheel i with xC0 := v } | _ => { l.wheel i with due := v != 0 })
  | .rtFlags => if v == 0 || e == l.id.code || e == 0 || 3 < e || 1 < i || l.fn.notice.contains (e, i) then l else { l with fn.notice := l.fn.notice ++ [(e, i)] }
  | .speedReq => if e == 0 then { l with fn.speedTgt := v } else { l with fn.speedReq := v != 0 }
  | .inhibit => { l with fn.inhAt := if v == 0 then l.fn.inhAt else some (l.now - us (v.toNat - 1)) }
  | .pLim => { l with fn.pLim := v }
  | .faults => { l with red.mirFaults := l.red.mirFaults.set (i - 1) v.toNat }
  | .other => l

/-- MIRROR payloads: three entries to a block, in map order (Table RD-1). -/
def Lane.mirrorBlocks (l : Lane) : List (List Byte) :=
  let ws := l.mirMap.map l.mirGet
  (List.range ((ws.length + 2) / 3)).map (fun i => ((ws.drop (3 * i)).take 3).flatMap (fun w => leBytes 4 w.toNat))

/-- The set received is complete (R248). -/
def Lane.mirComplete (l : Lane) : Bool := !l.red.mirGap && l.red.mirNext.length == 3 * ((l.mirMap.length + 2) / 3)

/-- Withdrawals that this lane did not see itself: where the mirror set brings more instances of a class than the lane counts, one counts for a peer that is not there (R261, log entry 182). -/
def Lane.inheritInst (l : Lane) : Lane :=
  l.eachOf [1, 4, 6, 8] (fun c l =>
    match l.peers.filter (fun p => !l.seenDrives p && !l.red.inst.any (fun x => x.lane == p.code)) with
    | p :: _ => if l.classCount c < l.red.mirFaults.getD (c - 1) 0 then l.addInst c p.code 0 else l
    | [] => l)

/-- The firmware takes what stands in Q60 to Q63 (R236). -/
def Lane.blocksTaken (l : Lane) : Lane := l.eachOf [60, 61, 62, 63] (fun n l => l.qDropN n (l.q n).items.length)

/-- A MIRROR or HEALTH block reaches the firmware through its queue (R236, Table MB-1); true when it was full. -/
def Lane.blockPut (l : Lane) (n : Nat) (from_ : LaneId) (b : Block) : Lane × Bool :=
  let q := n + b2n (from_ != l.id.next)
  let x := [b.kind, b.seq] ++ (List.range 12).map (fun i => b.payload.getD i 0)
  let x := x ++ leBytes 2 (crc16 x).toNat
  if n == 60 then (l.qDropNew q x, l.qFull q) else (l.qOverwrite q x, false)

/-- Loads the set just before an outer sequence, or keeps the own states (R248, R249). -/
def Lane.mirLoad (l : Lane) : Lane :=
  let ok := l.mirComplete
  let set := l.red.mirNext
  let l := { l with red.mirNext := [], red.mirGap := false }
  if ok && !(l.red.mirStart && l.red.auth == 0) then
    let l := { l with red.mirror := set, red.mirOk := true, red.mirMiss := 0, red.mirBad := false, red.mirStart := false }
    ((l.mirMap.zip set).foldl (fun l x => l.mirPut x.1 x.2) l).inheritInst
  else if l.st != .shadow || l.red.mirStart || l.red.auth == 0 then l
  else
    let n := l.red.mirMiss + 1
    ({ l with red.mirOk := false, red.mirMiss := n, red.mirBad := l.red.mirBad || decide (l.p 0xA105 ≤ n) }).eventU 0xA113

def Lane.mirrorRx (l : Lane) (from_ : LaneId) (b : Block) (o : LaneId) : Lane :=
  let r := l.blockPut 60 from_ b
  let l := r.1
  let p := b.payload
  if o.code != l.red.auth || !(l.st == .shadow || (l.st == .sync && l.red.rejoin.step == 3)) then l
  else if r.2 then { l with red.mirGap := true }
  else { l with red.mirNext := l.red.mirNext ++ (List.range 3).map (fun i => BitVec.ofNat 32 (leAt p (4 * i) 4)) }

def execMirrorBlockRx (a : At) (from_ : LaneId) (b : Block) (s : State) : Out :=
  run true s a (fun l => l.rxBlock from_ b false 0x20 (fun o l => l.mirrorRx from_ b o))

/-- CRC-32 of the mirror map: its descriptors in map order, each little-endian (R247, R485). -/
def Lane.mapCrc (l : Lane) : W32 := crc32 (l.mirMap.flatMap (leBytes 4))

/-! ### Health blocks (R250, R253, R261, R262) -/

/-- Takes over the module status word of the authority (R244, R262, R265). -/
def Lane.statusTake (l : Lane) (w : W32) : Lane :=
  let q := bits w.toNat 31 29
  let old := l.red.vehReq
  let l := { l with red.modStat := w, red.vehReq := q }
  if q == 4 && old != 4 then { l with red.parked := true }.sbSet true
  else if q != 4 && old == 4 then { l with red.parked := false }
  else l

def Lane.healthRx (l : Lane) (from_ : LaneId) (b : Block) (o : LaneId) : Lane :=
  let l := (l.blockPut 62 from_ b).1
  let p := b.payload
  let v := l.peer o
  let h : W32 := .ofNat 32 (leAt p 0 4)
  let st := healthState h
  let was := healthState v.health
  let back := v.gone && (st == 5 || st == 6)
  let l := l.setPeer o { v with health := h, modStat := .ofNat 32 (leAt p 4 4), faults := .ofNat 32 (leAt p 8 4), known := true,
                                gone := v.gone && !back && st != 4, side := b.side.or v.side }
  let l := match b.side with | some x => l.chopReport o st x.rtFault | none => l
  let l := (if st == 5 || st == 6 then l.dropLane o.code else l).linkTrack
  let l := if (l.st == .authority || l.st == .shadow) && st == 5 && was != 5 && was != 6 then { l.releaseIds [0xA122] with red.joinAt := l.red.joinAt.set o.idx (some l.now) } else l
  let l := if st == 6 && l.st != .authority then
      let fresh := l.red.auth != o.code
      let l := { l with red.auth := o.code, red.claim := none }
      let l := if l.st == .shadow || l.st == .follower then l.dupEnd else l
      let l := l.statusTake (.ofNat 32 (leAt p 4 4))
      if fresh then l.rejoinRestart.rejoinBegin else l.rejoinBegin
    else l
  let l := if l.st == .limp && !l.limpDrive then l.takeSafeAll else l
  (l.authCheck.claimStep).assess

def execHealthBlockRx (a : At) (from_ : LaneId) (b : Block) (s : State) : Out :=
  run true s a (fun l => l.rxBlock from_ b false 0x21 (fun o l => l.healthRx from_ b o))

/-! ### Resynchronisation (R252, R376, R427) -/

/-- Peers that a lane reaches. -/
def Lane.reached (l : Lane) : List LaneId := l.peers.filter l.reach

/-- Configuration identities and seniority orders of the peers that a lane reaches, where their HEALTH blocks have brought them (log entry 49). -/
def Lane.idents (l : Lane) : List (LaneId × LaneNews) := l.reached.filterMap (fun p => (l.peer p).side.map (fun x => (p, x)))

/-- The identity compare (R376): it passes once the identity matches that of a reached peer, or no peer is reached. -/
def Lane.idCompare (l : Lane) : Lane :=
  if l.boot.idOk then l
  else if l.reached.isEmpty || l.idents.any (fun x => x.2.cfgCrc == l.cfgCrc) then { l with boot.idOk := true, boot.idTold := false }
  else match l.idents with
    | x :: _ => if l.boot.idTold then l else { l with boot.idTold := true }.event 0x1110 x.1.code
    | [] => l

/-- The compare of RED_SENIORITY and of the mirror map (R234, Table RD-14). -/
def Lane.cfgCompare (l : Lane) (ok : Bool) : Lane :=
  if ok then { l with red.cfgTold := false } else if l.red.cfgTold then l else { l with red.cfgTold := true }.eventU 0xA112

def Lane.senOk (l : Lane) : Bool := l.idents.all (fun x => x.2.order == l.p 0xA100)

/-- A failed step restarts the rejoin, until the attempts are spent (R252). -/
def Lane.rejoinFail (l : Lane) : Lane :=
  let n := l.red.rejoin.tries + 1
  if l.p 0xA121 ≤ n then ({ l with red.rejoin := { l.red.rejoin with tries := n, spent := true, step := 1 } }).eventU 0xA111
  else ({ l with red.rejoin := { l.red.rejoin with tries := n, sent := false, step := 1 } }).rejoinSend

/-- Payload of RESYNC_ACK (Table RD-1). -/
def Lane.ackBytes (l : Lane) : List Byte := l.cycleBytes ++ [b8 l.le.outerIdx, b8 (l.mirMap.length + 255)] ++ leBytes 4 l.mapCrc.toNat

/-- The authority answers RESYNC_REQ (R252, Table RD-1). -/
def Lane.resyncReq (l : Lane) (o : LaneId) : Lane :=
  if l.st != .authority then l else (l.setPeer o { l.peer o with outVoted := false, ignored := false }).sendTo o false 0x23 l.ackBytes

/-- A block of the handshake that came over a lost link, after 1 ms of clean reception (R21). -/
def Lane.shakes (l : Lane) (from_ : LaneId) (b : Block) : Bool :=
  !(l.lnk from_).up && !bit b.kind.toNat 7 && l.due ((l.lnk from_).cleanSince + ms 1)

/-- The resynchronisation handshake of a lost link: RESYNC_REQ one way and RESYNC_ACK the other on that link itself, whatever the states of the two lanes; a lane whose own side of the link is up answers as well (R21; log entry 154). -/
def Lane.shakeReq (l : Lane) (from_ : LaneId) : Lane := (l.setLnk from_ { l.lnk from_ with shook := true }).send from_ false 0x23 l.ackBytes

def execResyncReqRx (a : At) (from_ : LaneId) (b : Block) (s : State) : Out :=
  run true s a (fun l => l.rxBlock from_ b false 0x22 (fun o l =>
    if (l.lnk from_).up then (if l.st == .authority || bit b.kind.toNat 7 then l.resyncReq o else l.send from_ false 0x23 l.ackBytes)
    else if l.shakes from_ b then l.shakeReq from_
    else l))

/-- Age of a Chrysalis image in µs, from a cycle counter and its own (R419); none where one of them is not known. -/
def Lane.chrysAge (l : Lane) (c : Chrysalis) (known : Bool) (cycle : Nat) : Option Nat :=
  if known && c.cycleOk && decide (c.cycle ≤ cycle) then some ((cycle - c.cycle) * l.np 0xB101) else none

/-- Case 2 of R419: a lane that rejoins uses nothing else of the image; the event carries its age in ms where one is known. -/
def Lane.chrysRejoin (l : Lane) (cycle : Nat) : Lane :=
  match l.pwr.restore with
  | none => l
  | some c => ({ l with pwr.restore := none }).event 0xC10B (match l.chrysAge c true cycle with | some t => t / 1000 | none => 0xFFFFFFFF)

/-- Steps 1 and 2 of Table RD-6 on the authority's answer. -/
def Lane.resyncAck (l : Lane) (p : List Byte) (o : LaneId) : Lane :=
  if l.st != .sync || l.pwr.step != .done || !l.red.rejoin.sent || l.red.rejoin.step != 1 || l.red.rejoin.auth != o.code then l
  else
    let l := (l.chrysRejoin (leAt p 0 6)).idCompare
    let mapOk := leAt p 8 4 == l.mapCrc.toNat && byteAt p 7 == (l.mirMap.length + 255) % 256
    let l := l.cfgCompare (l.senOk && mapOk)
    if leAt p 0 6 == l.cyc && byteAt p 6 == l.le.outerIdx % 256 && mapOk && l.boot.idOk && l.senOk then
      { l with red.rejoin := { l.red.rejoin with step := 3, startAt := l.now, good := 0, periods := 0, bad := false }, red.mirNext := [], red.mirGap := false }
    else l.rejoinFail

def execResyncAckRx (a : At) (from_ : LaneId) (b : Block) (s : State) : Out :=
  run true s a (fun l => l.rxBlock from_ b false 0x23 (fun o l =>
    if (l.lnk from_).up then l.resyncAck b.payload o
    else if l.shakes from_ b then l.setLnk from_ { l.lnk from_ with shook := true }
    else l))

/-- No answer within 10 ms (Table RD-6). -/
def execResyncTimeout (a : At) (s : State) : Out :=
  run true s a (fun l => if l.st == .sync && l.red.rejoin.sent && l.red.rejoin.step == 1 && !l.red.rejoin.spent && l.due (l.red.rejoin.startAt + ms 10) then l.rejoinFail else l)

/-- Step 3 of Table RD-6, once per outer period; step 4 enters SHADOW. -/
def Lane.rejoinPeriod (l : Lane) (complete : Bool) : Lane :=
  if l.st != .sync || l.pwr.step != .done || l.red.rejoin.step != 3 then l
  else
    let r := l.red.rejoin
    let good := if complete && !r.bad then r.good + 1 else 0
    let l := { l with red.rejoin := { r with good := good, periods := r.periods + 1, bad := false } }
    if l.p 0xA120 ≤ good then
      let auth := l.red.auth
      let l := l.enterShadow.releaseIds [0xA122]
      ({ l with red.auth := auth, red.joinAt := l.red.joinAt.set l.id.idx (some l.now) }).eventU 0xA108
    else if 4 * l.p 0xA120 ≤ r.periods + 1 then l.rejoinFail
    else l

/-- The own channel is SYNCED, or counts as lost after NET_CH_LOSS_T cycles (R291, R427). -/
def Lane.chanReady (l : Lane) : Bool := l.net.st == .synced || l.net.chLost

/-- The modes of the functions from their status words (R419, Table FN-2). -/
def Lane.modesBack (l : Lane) (ws : List W32) : Lane :=
  l.each 5 (fun f l =>
    let m := bits (ws.getD f 0).toNat 31 29
    l.setFunc f { l.func f with enabled := decide (1 ≤ m) && decide (m ≤ 4), mode := if m == 0 || m == 2 then 1 else m, host := m == 2 })

/-- Cases 3 and 4 of R419: with a known age within the limit the image gives mirror states, function modes and a held cell; else the lane starts as from key-on. -/
def Lane.chrysStart (l : Lane) : Lane :=
  match l.pwr.restore with
  | none => l
  | some c =>
    let l := { l with pwr.restore := none }
    match l.chrysAge c (l.net.known || l.net.given.isSome) l.cyc with
    | some t =>
      if l.p 0xC103 * 100000 < t then l
      else
        let l := ((l.mirMap.zip c.mirror).foldl (fun (l : Lane) (x : Nat × W32) => l.mirPut x.1 x.2) { l with red.mirror := c.mirror.take l.mirMap.length }).modesBack c.fnstat
        let l := if c.cell == 1 && (l.func 3).enabled && l.fn.sbApply != some true then { l with fn.sbApply := some false } else l
        l.event 0xC10B (t / 1000)
    | none => l

/-- The lane whose channel the tap carries drives, by its health word of the last two cycles (R250, R268, R427). -/
def Lane.tapDrives (l : Lane) : Bool := l.tapHeard && healthDrives l.red.tapHealth

/-- A lane in SYNC that finds no peer driving enters SHADOW (R427). -/
def Lane.moduleStart (l : Lane) : Lane :=
  if l.st != .sync || l.pwr.step != .done || l.peers.any l.peerDrives || l.tapDrives then l
  else
    let l := l.idCompare.cfgCompare l.senOk
    if l.boot.idOk && l.senOk && l.chanReady then
      let l := l.chrysStart.enterShadow
      ({ l with red.auth := 0, red.mirStart := true, red.mirNext := [], red.mirGap := false, red.failAt := none }).dupStart.claimStep.assess
    else l

def execModuleStartShadow (a : At) (s : State) : Out := run true s a Lane.moduleStart

/-- The ramp of a joining set is complete (R253). -/
def execJoinRampEnd (a : At) (set : LaneId) (s : State) : Out :=
  run true s a (fun l => match l.red.joinAt.getD set.idx none with
    | some t => if l.due (t + ms (l.p 0xA122)) then { l with red.joinAt := l.red.joinAt.set set.idx none } else l
    | none => l)

/-! ### Links that return, the split decision, followers and islands (R255 to R259) -/

/-- A lost link has received cleanly for 1 ms (R21, Table LN-3): the lane asks for the handshake with RESYNC_REQ on that link, and the link is restored once the handshake is done. -/
def Lane.linkBack (l : Lane) (p : LaneId) : Lane :=
  let k := l.lnk p
  if p == l.id || k.up || !l.linkOn || !l.due (k.cleanSince + ms 1) then l
  else if !k.shook then l.send p false 0x22 l.cycleBytes
  else
    let l := (l.setLnk p { k with up := true, badTimes := [] }).linkTrack.eventU 0xA107
    let l := if (l.st == .follower || l.st == .island) && l.red.split.isNone then l.enterSync else l
    l.assess

def execLinkRestore (a : At) (peer : LaneId) (s : State) : Out := run true s a (fun l => l.linkBack peer)

/-- Age of the value of a static slot: that of its last frame plus the cycles since, at most 15 (R306). -/
def Lane.slotAge (l : Lane) (slot : Nat) : Nat :=
  match l.net.rx.find? (fun r => r.slot == slot) with
  | some r => min 15 (r.age + (l.net.cycle.toNat - r.cycle))
  | none => 15

/-- The host publishes that both peers are absent, in a map that is not 3 cycles old (R258, R306). -/
def Lane.hostAlone (l : Lane) : Bool :=
  match l.red.hostMap with
  | some (m, slot) => decide (l.slotAge slot < 3) && !bit m l.id.next.idx && !bit m l.id.prev.idx
  | none => false

/-- The state that Table RD-7 gives; a tapped lane that reports a link to this lane alone is no row of it, and leads to ISLAND (log entry 50), and so does the last row for a lane with a split pair, which may not hold authority (R15; log entry 155). -/
def Lane.splitState (l : Lane) (x : Split) : Lane :=
  let alone (l : Lane) : Lane := if l.boot.split then l.enterIsland else if x.wasAuth then l.dupEnd else l.enterAuthority
  let tapUp := bit l.red.tapHealth.toNat 23
  let tapBack := bit l.red.tapHealth.toNat 22
  match x.live.map LaneId.ofCode with
  | [some p] =>
    if l.senior l.id p then (if x.wasAuth then l.dupEnd else l.dupStart.claimStep)
    else if l.tapHeard && l.id.next == p && l.red.tapRefs then l.enterFollower
    else l.enterIsland
  | _ =>
    if l.tapHeard then
      if tapUp then l.enterFollower
      else if tapBack then l.enterIsland
      else if x.wasAuth then l.dupEnd else l.enterFollower
    else if l.hostAlone then alone l
    else l.enterIsland

/-- The split decision, after RED_SPLIT_DECIDE_T network cycles (R256). -/
def Lane.splitDecide (l : Lane) : Lane :=
  match l.red.split with
  | some x =>
    if (l.st == .shadow || l.st == .authority) && x.startCycle + l.p 0xA111 ≤ l.cyc then
      let l := ({ l with red.split := none, red.refCycle := l.cyc }).splitState x
      let l := if (l.st == .follower || l.st == .island) && l.peers.any l.linkUp then l.enterSync else l
      l.assess
    else l
  | none => l

def execSplitDecision (a : At) (s : State) : Out := run true s a Lane.splitDecide

/-- The tap falls silent, or its references are too old (R257). -/
def Lane.followerAge (l : Lane) : Lane :=
  if l.st == .follower && (!l.tapHeard || decide (l.red.refCycle + l.p 0xA112 < l.cyc)) then l.enterIsland else l

def execFollowerAgeTimeout (a : At) (s : State) : Out := run true s a Lane.followerAge

/-- The island grace ends: a cell in HOLD goes PASSIVE (R259). -/
def Lane.graceEnd (l : Lane) : Lane :=
  if l.st == .island && l.red.graceOn && (match l.red.islandAt with | some t => l.due (t + sec (l.p 0xA110)) | none => false) then
    let l := { l with red.graceOn := false }
    (if l.fn.cell == Cell.hold then l.setCell Cell.passive else l).eventU 0xA10B
  else l

def execIslandGraceEnd (a : At) (s : State) : Out := run true s a Lane.graceEnd

/-! ### The outer sequence (R165, R233, R238, R241, R248, R252) -/

/-- A source that an enabled motor slot reads is lost or frozen: an angle source or a stepper's encoder too (R131, R201). -/
def Lane.slotSrcLost (l : Lane) : Bool := (List.range 8).any (fun k => (l.motor k).enabled && (l.srcCodes k).any l.posLost)

/-- An outer-loop source of an enabled function is lost or frozen (R131, R235). -/
def Lane.outerLost (l : Lane) : Bool :=
  (List.range 32).any (fun j => l.p 0x7100 j != 0 && l.p 0x7100 j != 1 && (l.loop j).st != .disabled && l.srcLost j)

/-- A lost or frozen source among the outer slots upstream of a slot; the fuel is the number of slots. -/
def Lane.pathLost (l : Lane) : Nat → Nat → Bool
  | 0, _ => false
  | n + 1, j =>
    let u := l.p 0x7105 j
    decide (u < 32) && l.p 0x7100 u != 0 && (((l.loop u).st != .disabled && l.srcLost u) || l.pathLost n u)

/-- The chains that such a source feeds, in chain order (R235, R238). -/
def Lane.chainsLost (l : Lane) : List Bool := l.chains.map (l.pathLost 32)

/-- Another lane is eligible to take over (R241). -/
def Lane.heirs (l : Lane) : Bool := l.answerers.any (fun p => healthElig (l.peer p).health)

/-- The own references of the period: computed values, own latch, and the CMP values (R168, R238). -/
def Lane.ownRefs (l : Lane) : Lane :=
  let vs := l.chains.map (fun j => q14 (l.iSet j))
  { l with red.own := vs ++ List.replicate (8 - vs.length) 0, red.ownCyc := l.cyc }

/-- Sends a list of block payloads to a peer. -/
def Lane.sendList (l : Lane) (p : LaneId) (urgent : Bool) (kind : Nat) (bs : List (List Byte)) : Lane :=
  bs.foldl (fun l b => l.sendTo p urgent kind b) l

/-- The authority's references for a peer: r × i_set for a joining set (R253). -/
def Lane.refsFor (l : Lane) (p : LaneId) : List Int :=
  l.chains.map (fun j => q14 (fmul (l.weight p (l.p 0x7101 j)) (l.iSet j)))

/-- The authority's part of the period: its own latch, REF and MIRROR to each peer. -/
def Lane.authPeriod (l : Lane) : Lane :=
  let t := l.le.outerEnd + us 5
  let l := (l.chains.zip l.red.own).foldl (fun (l : Lane) (x : Nat × Int) => l.latchRef x.1 x.2 t) l
  let l := l.refCame t
  let l := l.peers.foldl (fun l p => l.sendList p true 0x10 (l.refBlocks (l.refsFor p))) l
  l.peers.foldl (fun l p => l.sendList p false 0x20 l.mirrorBlocks) l

def Lane.cmpPeriod (l : Lane) : Lane :=
  let vs := l.red.own.take l.chains.length
  let l := l.peers.foldl (fun l p => l.sendList p true 0x11 (l.refBlocks vs)) l
  l.cmpTake l.id (l.le.outerIdx % 256) ((List.range vs.length).zip vs)

/-- Sends HEALTH to both peers (R250). -/
def Lane.healthSend (l : Lane) : Lane :=
  let l := { l with red.seq := l.red.seq + 1 }
  let l := if l.st == .authority then { l with red.modStat := .ofNat 32 l.moduleStatus } else l
  l.sendBoth false 0x21 l.healthBytes (some l.mySide)

/-- Microstep counts of the paired slots (R202, R237). -/
def Lane.pairSend (l : Lane) : Lane :=
  l.each 8 (fun k l =>
    match LaneId.ofCode (l.p 0x8140 k), l.sgOf k with
    | some p, some i =>
      if (l.motor k).cfg.kind != .stepper || p == l.id then l
      else
        let m := ((l.sgen i).at_ l.now).micro
        ({ l with red.pairM := l.red.pairM.set k (some m) }).sendTo p false 0x25 ([b8 k, b8 l.le.outerIdx] ++ leBytes 4 (wrap 32 m))
    | _, _ => l)

/-- The outer timer fires. -/
def Lane.outerSequence (l : Lane) (ds : List (Option DsRes)) : Lane :=
  if l.pwm.halted || !mayDrive l.st || !l.fwRuns then l
  else
    let step3 := l.st == .sync && l.red.rejoin.step == 3
    let complete := l.mirComplete
    let l := if l.st == .shadow || step3 then l.mirLoad else l
    let l := { l.blocksTaken with red.peer := l.red.peer.map (fun (v : PeerView) => { v with ignored := v.outVoted }) }
    let l := { l with red.srcBad := l.outerLost, red.chainBad := l.chainsLost, red.sensor := l.outerLost || l.slotSrcLost }
    let l := if l.st == .authority && l.red.srcBad && l.heirs then l.failSilent 4 else l
    if l.st == .failSilent then l
    else
      let l := l.outerLoops ds
      if l.st == .failSilent then l
      else
        let l := l.ownRefs
        let l := if l.st == .authority then l.authPeriod else l
        let l := if l.st == .shadow || l.st == .authority then l.voteAll else l
        let l := if l.st == .shadow || l.st == .authority || step3 then l.cmpPeriod else l
        let l := if step3 then l.rejoinPeriod complete else l
        if l.st == .failSilent then l else l.pairSend.healthSend

def execOuterSequence (a : At) (ds : List (Option DsRes)) (s : State) : Out := run true s a (fun l => l.outerSequence ds)

/-! ### Commands -/

/-- RED_STATUS: the health words of lanes A, B, C, 0 where unknown, and the module status word (Table CP-3). -/
def Lane.hRedStatus (l : Lane) : Lane × Reply :=
  let w (x : LaneId) : Nat := if x == l.id then l.healthWord else if (l.peer x).known then (l.peer x).health.toNat else 0
  done l (leBytes 4 (w .a) ++ leBytes 4 (w .b) ++ leBytes 4 (w .c) ++ leBytes 4 (if l.st == .authority then l.moduleStatus else l.red.modStat.toNat))

def execRedStatus (a : At) (m : Msg) (s : State) : Out := run true s a (fun l => l.serve 0x60 m Lane.hRedStatus)

/-- RED_FAULT_CLEAR ends PARKED at standstill with at most one fault instance (R265). -/
def Lane.hRedFaultClear (m : Msg) (l : Lane) : Lane × Reply :=
  let v := m.f32 0
  guarded l [(fgt (fabs v) (fq 1 10) || decide (2 ≤ l.classCounts.sum), stRefusedState), (l.st != .authority, stNotAuthority)] (fun l =>
    done ({ l with fn.v := v, red.parked := false, fn.stopSince := none }).assess)

def execRedFaultClear (a : At) (m : Msg) (s : State) : Out := run true s a (fun l => l.serve 0x62 m (Lane.hRedFaultClear m))

end Sys2Proof.Machine
end

