-- ==== Sys2Proof/Machine/Icbex.lean ====
section
/-! DEFINITION. The Icbex controller: frames with their tags and receive checks, the cycle, sending, time and correction, start-up, guardian, partition, rejoin, claims and the commands 0x70 to 0x74 (R268 to R316). -/

namespace Sys2Proof.Machine

/-! ### The cycle (R276, R277, R315) -/

/-- Icbex-1 runs on the channel (R314). -/
def Lane.i1 (l : Lane) : Bool := l.np 0xB130 == 1
def Lane.ring (l : Lane) : Bool := !l.i1 && l.np 0xB100 == 1
/-- Length of a static slot, number of static slots, and of minislots. -/
def Lane.slotLen (l : Lane) : Nat := if l.i1 then us 50 else us 10
def Lane.staticN (l : Lane) : Nat := if l.i1 then l.np 0xB137 else l.np 0xB102
def Lane.miniN (l : Lane) : Nat := if l.i1 then 0 else l.np 0xB103
def Lane.nitLen (l : Lane) : Nat := if l.i1 then us (l.np 0xB138) else us (l.np 0xB104)
/-- Nominal length of a cycle. -/
def Lane.cycNom (l : Lane) : Nat := us (l.np 0xB101)
/-- Length of a cycle in counts of this lane: the nominal length at the rate in force (R281). -/
def Lane.cycLen (l : Lane) : Nat := (((l.cycNom : Int) * (1000000000 + l.net.rate)) / 1000000000).toNat
/-- Half width of the receive window (R274, R315). -/
def Lane.win (l : Lane) : Nat := if l.i1 then 1600 else 400
/-- 960 ns: relay delay and insertion delay (R271, R273); none on Icbex-1. -/
def Lane.insDelay (l : Lane) : Nat := if l.i1 then 0 else 384

/-- Start of a slot of the cycle: a static slot, or a minislot. -/
def Lane.slotStart (l : Lane) (s : Nat) : Nat :=
  if s ≤ l.staticN then (s - 1) * l.slotLen else l.staticN * l.slotLen + (s - l.staticN - 1) * us 2

/-- End of the dynamic segment. -/
def Lane.dynEnd (l : Lane) : Nat := l.staticN * l.slotLen + l.miniN * us 2

def absDiff (a b : Nat) : Nat := if a ≤ b then b - a else a - b

/-- Network time of this instant: cycles counted, less the loop offset (R280). -/
def Lane.netTime (l : Lane) : Nat := l.cyc * l.cycNom + ((l.now : Int) - l.cycRef.2 + l.net.offA).toNat

/-! ### Frames (R300 to R305, R316) -/

/-- The header fields of a frame of either protocol. -/
structure Fr where
  ty    : Nat := 0
  auth  : Bool := false
  cs    : Bool := false
  age   : Nat := 0
  slot  : Nat := 0
  node  : Nat := 0
  epoch : Nat := 0
  cyc   : Nat := 0
  len   : Nat := 0
  ok    : Bool := false
deriving DecidableEq, Repr

/-- The check sequence of a frame: the FCS of IEEE 802.3 (R300), and on Icbex-1, whose header has 8 bytes, the CRC-16 from SLOT to the tag (R316). -/
def frameCheck (mac hdr payload : List Byte) (tag : W32) : W32 :=
  let b := hdr ++ payload ++ beBytes 4 tag.toNat
  if hdr.length ≤ 8 then (crc16 b).setWidth 32 else crc32 (mac ++ b)

/-- Check 1 of Table NF-4. -/
def RxFrame.fcsOk (f : RxFrame) : Bool := f.fcs == frameCheck f.mac f.hdr f.payload f.tag

/-- The MAC header of R300, of a sender on the own or the tapped channel. -/
def Lane.macHdr (l : Lane) (tapped : Bool) (node : Nat) : List Byte :=
  let cc := b8 (l.chanCode tapped)
  [0x03, 0x4B, 0x58, 0, 0, cc, 0x02, 0x4B, 0x58, b8 node, cc, 0] ++ beBytes 2 (l.np 0xB131)

/-- The node that a static slot is assigned to (R277). -/
def Lane.slotNode (l : Lane) (s : Nat) : Option Nat := (l.boot.image.sched.find? (fun n => n.slots.contains s)).map SchedNode.node

/-- A node later in loop order than this one; none where the schedule does not place it (R274, log entry 186). -/
def Lane.later (l : Lane) (node : Nat) : Option Bool :=
  (l.boot.image.sched.find? (fun n => n.node == node)).map (fun n => decide (l.np 0xB106 < n.pos))

/-- A static slot that the schedule gives to no other node (R277). -/
def Lane.slotFits (l : Lane) (slot node : Nat) : Bool := match l.slotNode slot with | some n => n == node | none => true

/-- The part of the cycle that a type may appear in (R302): a static frame in a slot of its sender. -/
def Lane.partOk (l : Lane) (ty slot node : Nat) : Bool :=
  let static_ := decide (1 ≤ slot) && decide (slot ≤ l.staticN)
  if ty == 1 || ty == 3 then static_ && l.slotFits slot node
  else if ty == 2 then static_
  else if ty == 4 || ty == 5 || ty == 6 then decide (l.staticN < slot) && decide (slot ≤ l.staticN + l.miniN)
  else if ty == 7 || ty == 8 then slot == 0xFFFF
  else false

/-- A Firefly frame stands in slots 1 to 3, or is a timekeeper's in its own slot (Table NF-2). -/
def Lane.ffPlace (l : Lane) (x : Fr) (payload : List Byte) : Bool := x.ty != 2 || decide (x.slot ≤ 3) || (byteAt payload 6 == 4 && l.slotFits x.slot x.node)

/-- Reads a header (Tables NF-1 and NF-5) and checks its form (R302). -/
def Lane.parse (l : Lane) (f : RxFrame) : Fr :=
  let h := f.hdr
  if l.i1 then
    let fl := byteAt h 1
    let ty := bits fl 5 4 + 1
    let s := byteAt h 0
    let x : Fr := { ty := ty, auth := bit fl 7, cs := bit fl 6, age := fl % 16, slot := s, node := (l.slotNode s).getD 64, epoch := byteAt h 7, cyc := leAt h 3 4, len := byteAt h 2 }
    { x with ok := h.length == 8 && decide (ty ≤ 3) && decide (x.len ≤ 32) && f.payload.length == x.len && decide (1 ≤ s) && decide (s ≤ l.staticN) && l.ffPlace x f.payload }
  else
    let x : Fr := { ty := byteAt h 0 % 16, auth := bit (byteAt h 1) 7, cs := bit (byteAt h 1) 6, age := byteAt h 1 % 16, slot := leAt h 2 2, node := byteAt h 4, epoch := byteAt h 5, cyc := leAt h 6 4, len := byteAt h 10 }
    { x with ok := h.length == 12 && byteAt h 0 / 16 == 2 && decide (x.len ≤ 64) && f.payload.length == max 30 x.len && decide (x.node < 64) && f.mac == l.macHdr (decide (2 ≤ f.port)) x.node && l.partOk x.ty x.slot x.node && l.ffPlace x f.payload }

/-- The bytes of a header. -/
def Lane.hdrBytes (l : Lane) (x : Fr) : List Byte :=
  if l.i1 then [b8 x.slot, b8 (b2n x.auth * 128 + b2n x.cs * 64 + (x.ty - 1) * 16 + x.age), b8 x.len] ++ leBytes 4 x.cyc ++ [b8 x.epoch]
  else [b8 (32 + x.ty), b8 (b2n x.auth * 128 + b2n x.cs * 64 + x.age)] ++ leBytes 2 x.slot ++ [b8 x.node, b8 x.epoch] ++ leBytes 4 x.cyc ++ [b8 x.len, 0]

def Lane.chan (l : Lane) (k : Nat) : Chan := l.net.chan.getD k {}
def Lane.setChan (l : Lane) (k : Nat) (c : Chan) : Lane := { l with net.chan := l.net.chan.set k c }

/-- Builds a frame of this lane with its tag under the epoch in force (R301, R307), and sends it on a port at an instant. -/
def Lane.sendFrameAt (l : Lane) (port : Nat) (x : Fr) (payload : List Byte) (t : Nat) : Lane :=
  let c := l.net.cycle.toNat
  let x := { x with node := l.np 0xB105, epoch := (l.chan 0).epoch, cyc := c % 2 ^ 32, len := payload.length }
  let body := if l.i1 then payload else payload ++ List.replicate (30 - payload.length) 0
  let h := l.hdrBytes x
  let tag := l.frameTag false x.epoch (c / 2 ^ 32) h body
  let mac := if l.i1 then [] else l.macHdr false x.node
  let kind : TxKind := if x.slot == 0xFFFF then .linkLocal else if x.slot ≤ l.staticN then .static_ else .dynamic
  let f : TxFrame := { port := port, kind := kind, mac := mac, hdr := h, payload := body, tag := tag, fcs := frameCheck mac h body tag, t := t }
  { l with net.tx := l.net.tx ++ [f] }

/-- The same, at once. -/
def Lane.sendFrame (l : Lane) (port : Nat) (x : Fr) (payload : List Byte) : Lane := l.sendFrameAt port x payload l.now

/-- The port that a node inserts on (R269): port 1, or port 0 where it is the end node (R275) and on Icbex-1. -/
def Lane.insPort (l : Lane) : Nat := if l.i1 || !l.net.link1 then 0 else 1

/-! ### Receive checks (Table NF-4) -/

def Lane.rxCnt (l : Lane) (n : Nat) : RxCnt := l.net.cnt.getD n {}
def Lane.bump (l : Lane) (n : Nat) (f : RxCnt → RxCnt) : Lane := { l with net.cnt := l.net.cnt.set n (f (l.rxCnt n)) }

/-- An event of a check, at most once per sender per second (R311). -/
def Lane.checkEvent (l : Lane) (check sender code : Nat) : Lane :=
  if l.net.evAt.any (fun e => e.1 == check && e.2.1 == sender && decide (l.now < e.2.2 + sec 1)) then l
  else ({ l with net.evAt := (check, sender, l.now) :: l.net.evAt.filter (fun e => !(e.1 == check && e.2.1 == sender)) }).eventU code

/-- Counts a failed check for its sender and in the totals; none counts in the totals only. -/
def Lane.failCheck (l : Lane) (check : Nat) (sender : Option Nat) : Lane :=
  let inc (c : RxCnt) : RxCnt :=
    match check with
    | 1 => { c with fcs := c.fcs + 1 }
    | 2 => { c with malformed := c.malformed + 1 }
    | 3 => { c with window := c.window + 1 }
    | 4 => { c with auth := c.auth + 1 }
    | 5 => { c with replay := c.replay + 1 }
    | 6 => { c with auth := c.auth + 1 }
    | _ => { c with flood := c.flood + 1 }
  let l := match sender with | some n => if n < 64 then l.bump n inc else l | none => l
  let l := l.bump 64 inc
  let s := sender.getD 64
  match check with
  | 2 => l.checkEvent 2 s 0xB113
  | 4 => l.checkEvent 4 s 0xB114
  | 5 => l.checkEvent 5 s 0xB115
  | 6 => l.checkEvent 4 s 0xB114
  | 7 => l.checkEvent 7 s 0xB117
  | _ => l

/-- The controller has its own time base, and so receive windows (R284). -/
def Lane.timed (l : Lane) : Bool := l.net.st == .synced || (l.net.st == .integrate && l.net.step != 0)

/-- It judges a frame by that time base; in COLDSTART, where frames of integrated nodes follow its own cycle, all but the Firefly frames of other contenders (R286). -/
def Lane.timedFor (l : Lane) (x : Fr) : Bool := l.timed || (l.net.st == .coldstart && x.ty != 2)

/-- The offset of an arrival from the cycle start, for a frame of this cycle or of the one before (R308). -/
def Lane.rxOffset (l : Lane) (x : Fr) : Int :=
  let d : Int := (l.now : Int) - l.net.cycleAt
  if x.cyc == l.net.cycle.toNat % 2 ^ 32 then d else d + l.cycLen

/-- Deviation of an arrival from its expected time (R274): port 0 expects the first pass, and in a ring the frames of later nodes after the stored ring delay L; port 1 the return pass of a line or of a broken ring (R275). While R or L is unknown, only the reference that the phase was adopted from is expected, at that phase (log entry 160); a node that the schedule does not place is taken at the nearer time (log entry 186). -/
def Lane.rxDev (l : Lane) (port : Nat) (x : Fr) : Option Int :=
  let o := l.rxOffset x - l.slotStart x.slot
  let round := if l.net.ringL == 0 then none else some (o - l.net.ringL)
  if l.i1 then some o
  else if port != 0 then
    match l.retDelay with
    | some r => some (o - (r : Int))
    | none => if l.net.provis && x.ty == 2 then some o else none
  else if !l.ring then (if l.later x.node == some true then none else some o)
  else match l.later x.node with
    | some false => some o
    | some true => if l.net.provis && x.ty == 2 then some o else round
    | none => match round with
      | some b => some (if b.natAbs < o.natAbs then b else o)
      | none => some o

/-- A link-local frame belongs into the NIT of its direction, on port 1 later by R (R279). -/
def Lane.inNit (l : Lane) (port : Nat) : Bool :=
  let r : Int := if port == 1 then l.retDelay.getD 0 else 0
  let o := ((l.now : Int) - l.net.cycleAt - r) % max 1 (l.cycNom : Int)
  decide ((l.cycNom : Int) ≤ o + l.nitLen + l.win) || decide (o ≤ l.win)

/-- Check 3: the receive window of a frame in a slot; a link-local frame has none, its part of the cycle belongs to its form (R302). -/
def Lane.inWindow (l : Lane) (port : Nat) (x : Fr) : Bool :=
  x.slot == 0xFFFF || (match l.rxDev port x with
    | some d => decide (d.natAbs ≤ l.win)
    | none => false)

/-- Epochs that a channel accepts in a cycle (R309). -/
def Lane.epochOk (l : Lane) (k e cyc : Nat) : Bool :=
  let c := l.chan k
  e == c.epoch || (c.graceOld == some e && decide (cyc ≤ c.graceTo)) ||
  (match c.next with | some (n, start, _) => e == n && decide (start ≤ cyc + l.p 0xB133) | none => false)

/-- The cycle counter that a frame belongs to: its low half against the receiver's counter (R308). -/
def fullCyc (own low : Nat) : Nat := if low == own % 2 ^ 32 then own else own - 1

/-- Check 5: the counter is the receiver's, or the one before it on the return path within the first tenth of the cycle; and not yet accepted. -/
def Lane.freshOk (l : Lane) (k own since_ len : Nat) (x : Fr) : Bool :=
  let prev := x.cyc == (own - 1) % 2 ^ 32 && decide (10 * since_ ≤ len)
  (x.cyc == own % 2 ^ 32 || prev) && !(l.chan k).seen.contains (fullCyc own x.cyc, x.slot, x.node, x.ty)

/-- The second pass of a frame already taken in this cycle: it is no replay, and it is not used (R274). -/
def Lane.secondPass (l : Lane) (port : Nat) (x : Fr) : Bool :=
  (port == 1 || l.ring) && x.slot != 0xFFFF && (l.chan 0).seen.contains (fullCyc l.net.cycle.toNat x.cyc, x.slot, x.node, x.ty) && l.timedFor x && l.inWindow port x

/-- Check 7: the dynamic allowance, with n frames of the sender accepted in this cycle (R313). -/
def Lane.dynAllowed (l : Lane) (n : Nat) (x : Fr) : Bool :=
  let id := ((l.boot.image.sched.find? (fun s => s.node == x.node)).map SchedNode.dyn).getD 0
  decide (n < l.p 0xB134) && decide (id + l.staticN ≤ x.slot)

/-- The same with the frames that the own channel has accepted in this cycle. -/
def Lane.dynOk (l : Lane) (x : Fr) : Bool := l.dynAllowed (((l.net.dynRx.find? (fun e => e.1 == x.node)).map Prod.snd).getD 0) x

def isDyn (ty : Nat) : Bool := ty == 4 || ty == 5 || ty == 6
def isStatic (ty : Nat) : Bool := ty == 1 || ty == 2 || ty == 3

/-- The counter that the tag and the freshness of a Firefly frame rest on while the receiver has no time of its own: the one that the frame carries. -/
def ffCounter (f : RxFrame) : Nat := leAt f.payload 0 6

/-- Counts a static frame of the own channel for the authentication rule (R312). -/
def Lane.authCount (l : Lane) (x : Fr) (fail : Bool) : Lane :=
  if isStatic x.ty then l.setChan 0 { l.chan 0 with statics := (l.chan 0).statics + 1, fails := (l.chan 0).fails + b2n fail } else l

/-- In the first cycle after the adoption of another time base, a counter already used on the old one is a replay (R295). -/
def Lane.usedOnce (l : Lane) (c : Nat) : Bool :=
  match l.net.adoptOld with
  | some u => l.net.cycle.toNat == l.net.stepCycle && decide (c ≤ u)
  | none => false

/-- The first check of Table NF-4 that an own-channel frame fails; 0 when it passes all. Without a time of its own a controller uses no windows, and only Firefly frames (log entry 52). -/
def Lane.rxFail (l : Lane) (f : RxFrame) (x : Fr) : Nat :=
  let own := if l.timedFor x then l.net.cycle.toNat else ffCounter f
  let since_ := l.now - l.net.cycleAt
  if !f.fcsOk then 1
  else if !x.ok || (x.slot == 0xFFFF && l.timedFor x && !l.inNit f.port) then 2
  else if l.timedFor x && !l.inWindow f.port x then 3
  else if !l.epochOk 0 x.epoch own then 4
  else if !(if l.timedFor x then l.freshOk 0 own since_ l.cycNom x && !l.usedOnce (fullCyc own x.cyc) else x.cyc == own % 2 ^ 32 && !(l.chan 0).seen.contains (own, x.slot, x.node, x.ty)) then 5
  else if l.frameTag false x.epoch (fullCyc own x.cyc / 2 ^ 32) f.hdr f.payload != f.tag then 6
  else if isDyn x.ty && !l.dynOk x then 7
  else 0

/-- A frame of the own channel that passes every check is marked as taken. -/
def Lane.rxMark (l : Lane) (f : RxFrame) (x : Fr) : Lane :=
  let own := if l.timedFor x then l.net.cycle.toNat else ffCounter f
  let c := l.chan 0
  let l := l.setChan 0 { c with seen := (fullCyc own x.cyc, x.slot, x.node, x.ty) :: c.seen }
  let l := (l.bump x.node (fun c => { c with accepted := c.accepted + 1 })).bump 64 (fun c => { c with accepted := c.accepted + 1 })
  if isDyn x.ty then
    let n := ((l.net.dynRx.find? (fun e => e.1 == x.node)).map Prod.snd).getD 0
    { l with net.dynRx := (x.node, n + 1) :: l.net.dynRx.filter (fun e => e.1 != x.node) }
  else l

/-- The controller receives: the lane is powered past its start and the controller is on (R284). -/
def Lane.netOn (l : Lane) : Bool := l.fwRuns && l.net.st != .offline && l.st != .failSilent && l.st != .limp

/-- Measures the return delay from the own static frame as it was sent: on port 1 in a line, on port 0 in a ring, and on port 1 again where the ring is broken; a frame on the other port starts the measurement anew (R274, R275). No R exceeds half the cycle (R274). In a closed ring R is stored as L. The guardians measure R themselves (R289). A cycle adopted from a later pass moves to its own place (R273, log entry 160). -/
def Lane.ownBack (l : Lane) (f : RxFrame) (x : Fr) : Lane :=
  let d := l.rxOffset x - l.slotStart x.slot
  let closed := l.ring && f.port == 0
  let mine := l.net.tx.any (fun t => t.kind == .static_ && t.hdr == f.hdr && t.payload == f.payload && t.tag == f.tag)
  if (closed || f.port == 1) && (l.net.st == .synced || l.net.st == .coldstart) && mine && 0 < d && 2 * d ≤ l.cycNom then
    let same := closed == l.net.retRing
    let l := { l with net.retR := (d.toNat :: (if same then l.net.retR else [])).take 8, net.retRing := closed,
                      net.grd := l.net.grd.map (fun (g : Guard) => { g with ret := (d.toNat / 8 * 8 :: (if same then g.ret else [])).take 8 }) }
    let l := if closed then { l with net.ringL := l.retDelay.getD 0 } else l
    if l.net.provis then { l with net.provis := false, net.cycleAt := l.net.cycleAt - d.toNat, net.nextAt := l.net.nextAt - d.toNat } else l
  else l

/-- Takes a frame of the own channel: the checks, then its action (R311, R312). -/
def Lane.rxOwn (l : Lane) (f : RxFrame) (tys : List Nat) (act : Lane → Fr → Lane) : Lane :=
  let x := l.parse f
  let own := x.node == l.np 0xB105 && x.ok && f.fcsOk && x.slot != 0xFFFF
  if !l.netOn || 2 ≤ f.port || (l.i1 && f.port != 0) then l
  else if own then l.ownBack f x
  else if l.secondPass f.port x && f.fcsOk then l
  else if !l.timed && l.net.st != .coldstart && x.ty != 2 && x.ok then l
  else
    let k := l.rxFail f x
    let l := if f.fcsOk && l.timed then l.authCount x (k == 4 || k == 5 || k == 6) else l
    if k == 0 then (if tys.contains x.ty then act (l.rxMark f x) x else l)
    else l.failCheck k (if k == 1 then none else if k == 2 && 64 ≤ x.node then none else some x.node)

/-- A frame that fails a check has no effect but its count (R311, R312). -/
def execIcbexFrameDrop (a : At) (f : RxFrame) (s : State) : Out := run true s a (fun l => l.rxOwn f [] (fun l _ => l))

/-! ### Sending (R244 to R246, R273, R278, R289, R297, R303, R306) -/

/-- The channel of a lane works, by its health word. -/
def netBit (h : W32) : Bool := bit h.toNat 20

/-- The AUTH flag of this lane's Icbex and CAN frames (R244, R246): the authority's, delegated to the most senior lane with a channel, or every lane's while authority is unresolved; never an ISLAND's. -/
def Lane.authFlag (l : Lane) : Bool :=
  if l.st == .island then false
  else if l.red.dup then true
  else match LaneId.ofCode l.red.auth with
    | some p =>
      if p == l.id then l.st == .authority && ((l.net.st == .synced && !l.net.chLost) || !l.peers.any (fun q => l.peerDrives q && netBit (l.peer q).health))
      else l.st.driving && !netBit (l.peer p).health && l.net.st == .synced && !l.net.chLost &&
        l.peers.all (fun q => q == p || !(l.peerDrives q && netBit (l.peer q).health && l.senior q l.id))
    | none => false

/-- Bytes 0 to 31 of Table NF-3. -/
def Lane.laneHead (l : Lane) : List Byte :=
  let n := l.chains.length
  leBytes 4 l.healthWord ++ leBytes 4 (if l.st == .authority then l.moduleStatus else l.red.modStat.toNat) ++ leBytes 4 l.pLimOut.toNat ++
  leBytes 2 l.red.ownCyc ++ [b8 l.le.outerIdx, b8 n] ++ (List.range 8).flatMap (fun c => leBytes 2 (wrap 16 (if c < n then l.red.own.getD c 0 else 0)))

def Lane.fnStat (l : Lane) : List Byte := (List.range 5).flatMap (fun f => leBytes 4 (l.fnStatus f))

def Lane.ownSlot (l : Lane) (k : Nat) : OwnSlot := l.net.own.getD k {}
def Lane.setOwn (l : Lane) (k : Nat) (x : OwnSlot) : Lane := { l with net.own := l.net.own.set k x }

/-- Application bytes of own slot k in firmware mode: EVT and EVTCNT in the first slot (R303); the signal list of a further slot is Jarholt's, so its bytes are free values (log entry 53). -/
def Lane.appBytes (l : Lane) (k : Nat) : Lane × List Byte :=
  if k == 0 then
    let evt := match l.mb.log.getLast? with | some e => e.code | none => 0
    (l, leBytes 2 evt ++ leBytes 2 l.mb.evtCnt ++ List.replicate 8 0)
  else ({ l with fresh := l.fresh + 64 }, (List.range 64).map (fun i => b8 (Config.freeNat (l.fresh + i))))

/-- The entries of own slot k's buffer that arrived by its read point, 5 µs before the insertion instant (R297). -/
def Lane.hostApp (l : Lane) (k at_ : Nat) : List QEntry :=
  (l.q (16 + k)).items.takeWhile (fun e => decide ((BitVec.ofNat 32 (at_ + 2 ^ 32 - us 5) - e.stamp).toNat < 2 ^ 31))

/-- The application section at the read point: fresh data with age 0, or the last again, one cycle older (R297, R306). -/
def Lane.appTake (l : Lane) (k at_ : Nat) : Lane :=
  let x := l.ownSlot k
  let n := if k == 0 then 12 else 64
  if !x.host then
    let r := l.appBytes k
    r.1.setOwn k { x with app := r.2, age := 0, stale := 0 }
  else match (l.hostApp k at_).getLast? with
    | some e =>
      let l := l.qDropN (16 + k) (l.hostApp k at_).length
      l.setOwn k { x with app := (e.data ++ List.replicate n 0).take n, age := 0, stale := 0 }
    | none =>
      let st := x.stale + 1
      let y := { x with age := min 15 (x.age + 1), stale := st }
      if l.p 0xB116 ≤ st then (l.setOwn k { y with host := false, stale := 0 }).eventU 0xB10E else l.setOwn k y

/-- The Firefly slot of this node by rank or by cold start (R281, R286, R287). -/
def Lane.ffRank (l : Lane) : Option Nat :=
  let r := l.np 0xB108
  if l.hasYielded then none
  else if r != 0 then some r
  else if l.net.st == .coldstart || l.net.acting then some (l.np 0xB109)
  else none

/-- The Firefly slot of this node: as timekeeper its lowest own slot (R293), else by rank or by cold start. -/
def Lane.ffSlot (l : Lane) : Option Nat := if l.net.keeper then ((l.nps 0xB107).filter (fun s => s != 0)).min? else l.ffRank

/-- The FIREFLY payload (R305). -/
def Lane.ffPayload (l : Lane) : List Byte :=
  l.cycleBytes ++ [b8 (if l.net.keeper then 4 else l.np 0xB108), b8 (l.np 0xB109)] ++ leBytes 2 (l.np 0xB101) ++ leBytes 2 (l.np 0xB102) ++ leBytes 2 l.boot.image.schedCrc.toNat

/-- An entry to a power state has withdrawn the lane in this cycle: own insertion goes on to its end (Table PS-4, E2). -/
def Lane.leaving (l : Lane) : Bool :=
  match l.pwr.entry with
  | some e => (match e.outAt with | some t => decide (l.net.cycleAt ≤ t) | none => false)
  | none => false

/-- The lane may insert frames (Table LN-4, R401, Table NT-7). -/
def Lane.mayInsert (l : Lane) : Bool :=
  l.fwRuns && !l.pwm.halted && (l.net.st == .synced || l.net.st == .coldstart) && (l.st == .sync || l.st.driving || l.st == .island || l.leaving)

/-- Airtime of a dynamic frame in ns: (payload + 54) × 80 (R278). -/
def dynAir (n : Nat) : Nat := (max 30 n + 54) * 80

def Lane.guardOf (l : Lane) (port : Nat) : Guard := l.net.grd.getD port {}

/-- The lane with the schedule that its guardians hold (R289). -/
def Lane.asGuard (l : Lane) : Lane := if l.net.grdCfg.isEmpty then l else { l with net.latched := l.net.grdCfg }

/-- The guardian of a port has a view: two Firefly frames seen, and no more than 3 cycles without one (Table NT-6). -/
def Lane.grdView (l : Lane) (port : Nat) : Bool :=
  let g := l.guardOf port
  decide (2 ≤ g.views) && decide (l.now < g.at_ + 4 * l.asGuard.cycNom)

/-- Offset of this instant in the cycle of a port's guardian. -/
def Lane.grdOff (l : Lane) (port : Nat) : Nat := (l.now - (l.guardOf port).at_) % max 1 l.asGuard.cycNom

/-- Offset of this instant on the return direction, by the R that the guardian measures. -/
def Lane.grdBack (l : Lane) (port : Nat) : Nat :=
  let n := max 1 l.asGuard.cycNom
  (l.grdOff port + n - (median (l.guardOf port).ret).getD 0 % n) % n

/-- The guardian cuts a frame; three cuts of own frames within 1 s bring PASSIVE (R289). -/
def Lane.guardCut (l : Lane) (own : Bool) : Lane :=
  let l := l.eventU 0xB104
  if own then
    let ts := recent l.now (sec 1) l.net.cuts
    if 3 ≤ ts.length then { l with net.cuts := [], net.st := .passive, net.acting := false, net.keeper := false, net.timeOk := false } else { l with net.cuts := ts }
  else l

/-- A node that starts a time base sends only Firefly frames until its guardian has a view (R289, log entry 51). -/
def Lane.grdNew (l : Lane) : Bool := l.net.acting && decide ((l.guardOf l.insPort).views < 2)

/-- This node is the source of its time base: it started it, keeps it, or is a backup whose own Firefly frame is the lowest valid one (R281, log entry 51). -/
def Lane.ownSource (l : Lane) : Bool := l.net.acting || l.net.keeper || (l.ffSlot.isSome && l.net.ffLast == l.ffSlot)

/-- Gate of an own static frame: an own slot of the guardian's schedule, one claimed or the Firefly slot, and a start within the window of the guardian's expectation; a cold-start Firefly frame needs NET_CS_PRIO and a cycle since the last (Table NT-6). A Firefly frame that starts or keeps a time base passes while the guardian has no view (log entry 51). -/
def Lane.grdStatic (l : Lane) (slot : Nat) : Bool :=
  let g := l.asGuard
  if l.net.st == .coldstart then
    g.np 0xB109 != 0 && (match (l.guardOf l.insPort).csAt with | some t => decide (t + g.cycNom ≤ l.now + 400) | none => true)
  else if l.grdView l.insPort then
    ((g.nps 0xB107).contains slot || (l.net.claim == .owned && l.net.claimSlot == slot) || l.ffSlot == some slot) &&
      decide (absDiff (l.grdOff l.insPort) (g.slotStart slot + l.insDelay) ≤ l.win)
  else l.ffSlot == some slot && (l.net.acting || l.net.keeper)

/-- Gate of an own dynamic frame of n payload bytes: inside the dynamic segment; its number and airtime are those of R278 (Table NT-6). -/
def Lane.grdDyn (l : Lane) (n : Nat) : Bool :=
  let g := l.asGuard
  let o := l.grdOff l.insPort
  l.grdView l.insPort && decide (g.slotStart (g.staticN + 1) ≤ o) && decide (o + dynAir n * 2 / 5 ≤ g.dynEnd + 384)

/-- Gate of a link-local frame that starts at an offset on its direction: inside the NIT (Table NT-6). -/
def Lane.grdNit (l : Lane) (port o : Nat) : Bool :=
  let g := l.asGuard
  l.grdView port && decide (g.cycNom ≤ o + g.nitLen + 48) && decide (o + 2688 ≤ g.cycNom + 384 + 48)

/-- The guardians see a Firefly frame that shows a cycle start, at 20 ns resolution (R289). -/
def Lane.grdSee (l : Lane) (base : Nat) : Lane := { l with net.grd := l.net.grd.map (fun (g : Guard) => { g with at_ := base / 8 * 8, views := g.views + 1 }) }

/-- Own frames of some kinds, or relayed ones, that a transmission on a port from an instant on, for a time, would overlap are cut (R272). -/
def Lane.cutTx (l : Lane) (kinds : List TxKind) (port t stop : Nat) : Lane :=
  { l with net.tx := l.net.tx.map (fun f => if kinds.contains f.kind && f.port == port && decide (f.t < stop) && decide (t < f.stop) then f.cutBy t else f) }

/-- The port is free for an insertion at this instant: no frame is under way on it, and no relayed frame's SFD has come within the last 960 ns (R272, R278). -/
def Lane.portFree (l : Lane) (port : Nat) : Bool := l.net.tx.all (fun f => f.port != port || decide (l.now + 384 < f.t) || decide (f.stop ≤ l.now))

/-- Sends an own static frame, which takes precedence over a relayed frame in progress (R272). -/
def Lane.sendStatic (l : Lane) (x : Fr) (payload : List Byte) : Lane :=
  (l.cutTx [.relayed] l.insPort l.now (l.now + (max 30 payload.length + 54) * 32)).sendFrame l.insPort x payload

/-- Inserts a static frame in an own slot, once per cycle, from its insertion instant on; an ISLAND sends its status frame alone (R22, R259), and Firefly frames where it is a time source (log entry 156). -/
def Lane.insertStatic (l : Lane) (slot : Nat) : Lane :=
  let at_ := l.net.cycleAt + l.slotStart slot + l.insDelay
  let ks := (l.nps 0xB107).idxOf? slot
  let claimed := l.net.claim == .owned && l.net.claimSlot == slot
  let ff := l.ffSlot == some slot
  if !l.mayInsert || slot == 0 || l.staticN < slot || !(ks.isSome || claimed || ff) || l.net.sent.contains slot || !l.due at_ || l.net.cycleAt + l.cycLen ≤ l.now then l
  else if (l.net.st == .coldstart || l.grdNew || (l.st == .island && ks.getD 0 != 0)) && !ff then l
  else
    let l := { l with net.sent := slot :: l.net.sent }
    if !l.grdStatic slot then l.guardCut true
    else if ff then
      let cs := l.net.st == NetSt.coldstart
      let l : Lane := if cs || l.ownSource then l.grdSee (l.now - l.slotStart slot - l.insDelay) else l
      let l := { l with net.ffSlots := slot :: l.net.ffSlots, net.grd := if cs then l.net.grd.map (fun (g : Guard) => { g with csAt := some l.now }) else l.net.grd }
      l.sendStatic { ty := 2, slot := slot, cs := cs } l.ffPayload
    else
      let k := ks.getD 0
      let l := l.appTake k at_
      let x := l.ownSlot k
      let l := { l with red.seq := l.red.seq + b2n (k == 0) }
      let l := l.speedRequest
      let pay := if k == 0 then l.laneHead ++ l.fnStat ++ x.app else x.app
      let pay := if l.i1 then pay.take 32 else pay
      l.sendStatic { ty := 1, slot := slot, age := x.age, auth := k == 0 && l.authFlag } pay

def execStaticSlotInsert (a : At) (slot : Nat) (s : State) : Out := run true s a (fun l => l.insertStatic slot)

/-- The rules of R278 for a frame of n payload bytes in the minislot of a slot number. -/
def Lane.dynMay (l : Lane) (slot n : Nat) : Bool :=
  let m := slot - l.staticN
  let f := l.p 0xB10D
  let air := dynAir n
  let start := l.slotStart slot + 384
  l.mayInsert && l.st != .island && l.net.st == .synced && !l.i1 && !l.grdNew && f != 0 && decide (f ≤ m) && decide (m ≤ l.miniN) &&
  decide (2 * (start + 224) + air * 4 / 5 ≤ 2 * l.dynEnd) && decide (l.net.txDyn < l.p 0xB10E) && decide (l.net.txAir + air ≤ 1000 * l.p 0xB10F) &&
  l.due (l.net.cycleAt + start) && decide (l.now < l.net.cycleAt + start + us 2) && l.portFree l.insPort

def Lane.dynCount (l : Lane) (n : Nat) : Lane := { l with net.txDyn := l.net.txDyn + 1, net.txAir := l.net.txAir + dynAir n }

/-- Rank of a time base by the slot of its source: 1 to 3, then a timekeeper (R295). -/
def ffRankOf (slot : Nat) : Nat := min 4 slot

/-- The rejoin notice of a junction node: the counter of its time base and the rank of its source (R295, Table NF-2). -/
def Lane.sendNotice (l : Lane) (slot : Nat) : Lane :=
  let l := ({ l with net.notice := false, net.rejoin := true }).dynCount 7
  if l.grdDyn 7 then l.sendFrame l.insPort { ty := 6, slot := slot } (l.cycleBytes ++ [b8 (ffRankOf l.net.ffSrc)]) else l.guardCut true

/-- Starts a dynamic frame: a rejoin notice that waits, else the oldest waiting frame of Q48 to Q51, which holds a MAILBOX payload, else the given payload (R278, R349). -/
def Lane.dynStart (l : Lane) (slot : Nat) (payload : List Byte) : Lane :=
  let q := ([48, 49, 50, 51].find? (fun n => !(l.q n).items.isEmpty))
  let pay := match q with
    | some n => (match (l.q n).items with | e :: _ => e.data | [] => payload)
    | none => payload
  if l.net.notice && l.dynMay slot 7 then l.sendNotice slot
  else if pay.isEmpty || 64 < pay.length || !l.dynMay slot pay.length then l
  else
    let l := match q with
      | some n => l.qDropN n 1
      | none => l
    let l := l.netPump (l.mb.metaNet.length + 1)
    let l := l.dynCount pay.length
    if l.grdDyn pay.length then l.sendFrame l.insPort { ty := 4, slot := slot } pay else l.guardCut true

def execDynamicFrameStart (a : At) (slot : Nat) (payload : List Byte) (s : State) : Out := run true s a (fun l => l.dynStart slot payload)

/-! ### Relay (R269, R271, R272, R289) -/

/-- The port that a received frame is relayed to; none where it is discarded. -/
def Lane.relayTo (l : Lane) (port : Nat) : Option Nat :=
  if l.i1 then none
  else if port == 0 then some (if l.net.link1 then 1 else 0)
  else if port == 1 && l.net.link0 then some 0
  else none

/-- Offsets in the cycle of a port's guardian at which a frame that arrives on a port may stand: as on the first pass, and where its direction brings frames back, as on the return pass (R274). -/
def Lane.grdOffs (l : Lane) (from_ q : Nat) : List Nat := if from_ == 1 || l.ring then [l.grdOff q, l.grdBack q] else [l.grdOff q]

/-- End of the dynamic segment in the direction of a frame that arrives now, as it leaves on port q, where the frame lies in that segment. -/
def Lane.segEnd (l : Lane) (from_ q : Nat) : Option Nat :=
  let g := l.asGuard
  ((l.grdOffs from_ q).find? (fun o => decide (g.slotStart (g.staticN + 1) ≤ o + 400) && decide (o < g.dynEnd))).map (fun o => l.now + g.dynEnd - o + 384)

/-- A frame that arrives now starts within ±1.0 µs of an expected arrival of a static frame (Table NT-6). -/
def Lane.nearSlot (l : Lane) (from_ q : Nat) : Bool :=
  let g := l.asGuard
  (l.grdOffs from_ q).any (fun o => (List.range g.staticN).any (fun s => decide (absDiff o (g.slotStart (s + 1)) ≤ 400)))

/-- Gate of a relayed frame (Table NT-6): none where it is blocked, else the instant at which it is cut, if at all. While the guardian has no view it lets pass what is at most 9.60 µs long and starts at least 0.40 µs after the one before. -/
def Lane.grdRelay (l : Lane) (f : RxFrame) (q : Nat) : Option (Option Nat) :=
  let t := l.now + 384
  let stop := t + wireTime f.payload - 384
  let cutAfter (e : Nat) : Option Nat := if e < stop then some e else none
  if !l.grdView q then
    if l.net.tx.any (fun o => o.kind == .relayed && o.port == q && decide (t < o.signalEnd + 160)) then none else some (cutAfter (t + 3840))
  else if l.nearSlot f.port q then some (cutAfter (t + 3840))
  else (l.segEnd f.port q).map cutAfter

/-- Relays a frame cut-through. The relay works in every lane state from the end of BOOT (R271). A frame that meets an own static frame in progress stays out, and one that meets an own dynamic or link-local frame cuts it (R272). -/
def Lane.relay (l : Lane) (f : RxFrame) : Lane :=
  let x := l.parse f
  if l.st == .off || l.st == .waking || l.st == .boot || (x.ok && x.slot == 0xFFFF) || l.net.joinPort == some f.port then l
  else match l.relayTo f.port with
    | none => l
    | some q =>
      let t := l.now + 384
      if l.ring && f.port == 0 && x.ok && x.node == l.np 0xB105 then l
      else if l.net.tx.any (fun o => o.kind == .static_ && o.port == q && decide (o.t ≤ t) && decide (t < o.stop)) then l
      else match l.grdRelay f q with
        | none => l.guardCut false
        | some cut =>
          let g : TxFrame := { port := q, kind := .relayed, cutAt := cut, mac := f.mac, hdr := f.hdr, payload := f.payload, tag := f.tag, fcs := f.fcs, t := t }
          let l := l.cutTx [.dynamic, .linkLocal] q t (t + wireTime f.payload)
          let l := { l with net.relayed := l.net.relayed + 1, net.tx := l.net.tx ++ [g] }
          if cut.isSome then l.guardCut false else l

def execIcbexRelay (a : At) (f : RxFrame) (s : State) : Out := run true s a (fun l => l.relay f)

/-! ### Phase of the timebases (R65) -/

/-- Start of this lane's network cycle at the loop head (R280). -/
def Lane.headStart (l : Lane) : Int := (l.cycRef.2 : Int) - l.net.offA

/-- Timebase 0 aligns to the cycle start, and timebases 1 to 7 keep their phase from it: each at once while no slot on it is enabled, else through the slew limit (R65). A halt that froze the counters moves none (R86), and LIMP ignores the cycle (R401). -/
def Lane.phaseAlign (l : Lane) : Lane :=
  if l.p 0x3104 != 1 || l.st == .limp || l.pwm.frozen then l
  else
    let b := l.tbase 0
    let e := centred (l.headStart - b.started) (l.periodTicks 0)
    let l := if l.tbBusy 0 then l.setTb 0 { b with syncErr := e } else l.setTb 0 { b with started := ((b.started : Int) + e).toNat, syncErr := 0 }
    l.eachOf [1, 2, 3, 4, 5, 6, 7] (fun tb l => l.followTb tb)

/-! ### Channel state (R290 to R296, R309, R310, R312) -/

/-- The controller integrates anew. -/
def Lane.reintegrate (l : Lane) : Lane := { l with net.st := .integrate, net.step := 0, net.stepCycle := l.net.cycle.toNat, net.acting := false, net.keeper := false, net.timeOk := false }

/-- Ends a cold-start command (R363). -/
def Lane.csDone (l : Lane) (status : Nat) : Lane := ({ l with net.csKey := none, net.contend := false }).completeOpt l.net.csKey status

/-- Own frames go out: SYNCED (R284). A command to start the channel ends with the status given (R363). -/
def Lane.netSynced (l : Lane) (status : Nat := stDone) : Lane := ({ l with net.st := .synced, net.step := 0, net.ffMiss := 0, net.given := none }).csDone status

/-- A controller that must fall silent: PASSIVE, then listening again (R290). -/
def Lane.netPassive (l : Lane) : Lane := { l with net.st := .passive, net.acting := false, net.keeper := false, net.timeOk := false }

/-- Abandons every message in reassembly from the own channel, as its loss does (R347, Table MB-16). -/
def Lane.reasmAll (l : Lane) : Lane := l.mb.reasmNet.foldl (fun l _ => l.reasmFail .net) { l with mb.reasmNet := [] }

/-- The own channel is lost or returns (R291, R312), which ends the messages in reassembly. -/
def Lane.channelLoss (l : Lane) : Lane :=
  let c := l.chan 0
  let bad := decide (c.statics < 2 * c.fails)
  let fr := if bad then c.failRun + 1 else 0
  let okr := if bad then 0 else c.okRun + 1
  let n := l.p 0xB132
  let lostA := decide (n ≤ fr) || (c.lostAuth && decide (okr < n))
  let l := l.setChan 0 { c with failRun := fr, okRun := okr, lostAuth := lostA, statics := 0, fails := 0 }
  let out := if l.net.st == .synced then 0 else l.net.outRun + 1
  let lost := lostA || decide (l.p 0xB115 ≤ out) || (l.net.chLost && l.net.st != .synced)
  let was := l.net.chLost
  let l := { l with net.outRun := out, net.chLost := lost }
  if lost && !was then ((l.eventU 0xB10F).reasmAll).assess else if was && !lost then l.assess else l

/-- Assigned static slots (R277). -/
def Lane.assigned (l : Lane) : List Nat := l.boot.image.sched.flatMap SchedNode.slots

/-- This node has sent its own Firefly frame in this cycle, on a time base of its own (R281). -/
def Lane.ffSent (l : Lane) : Bool :=
  l.net.st == .synced && (match l.ffSlot with | some s => l.net.sent.contains s | none => false)

/-- Quorum and the partition (R292, R293, R295). The timekeeper is judged anew each cycle: no Firefly frame of another node and no lower slot was heard, and this node has no Firefly slot by rank. -/
def Lane.quorum (l : Lane) : Lane :=
  if l.net.st != .synced then l
  else
    let ok := decide (l.p 0xB110 ≤ l.net.heard.length + 1) && l.net.ffSlots.any (fun s => s == 1 || s == 2)
    let bad := if ok then 0 else l.net.partBad + 1
    let good := if ok then l.net.partGood + 1 else 0
    let n := l.p 0xB111
    let l := { l with net.partBad := bad, net.partGood := good }
    let l := if !l.net.part && n ≤ bad then (({ l with net.part := true }).eventU 0xB108).assess
      else if l.net.part && n ≤ good then (({ l with net.part := false, net.keeper := false }).eventU 0xB109).assess else l
    let mine := ((l.nps 0xB107).filter (fun s => s != 0)).min?
    let others := l.net.heardSlots.min?
    let ff := if l.ffSent then l.net.ffSlots.erase (l.ffSlot.getD 0) else l.net.ffSlots
    { l with net.keeper := l.net.part && ff.isEmpty && l.ffRank.isNone && (match mine, others with | some m, some o => decide (m < o) | some _, none => true | none, _ => false) }

/-- Claims at a cycle start (R296): the watch counts, a claim without rival owns its slot, the claims of others age. -/
def Lane.claims (l : Lane) : Lane :=
  let used := l.net.heardSlots
  let cl := (l.net.claimed.map (fun e => (e.1, e.2.1, if used.contains e.1 then 0 else e.2.2 + 1))).filter (fun e => decide (e.2.2 < 8))
  let l := { l with net.claimed := cl }
  if l.net.st != .synced || l.i1 then { l with net.claim := .none }
  else if (l.nps 0xB107).any (fun s => s != 0) then { l with net.claim := .none }
  else
    let spare := (List.range (l.staticN + 1)).find? (fun s => decide (3 < s) && !l.assigned.contains s && cl.all (fun e => e.1 != s))
    match l.net.claim with
    | .none => (match spare with | some s => { l with net.claim := .watch, net.claimSlot := s, net.claimCnt := 0 } | none => l)
    | .watch => { l with net.claimCnt := if used.contains l.net.claimSlot then 0 else l.net.claimCnt + 1 }
    | .sent => ({ l with net.claim := .owned }).eventU 0xB10A
    | .backoff => if used.contains l.net.claimSlot then { l with net.claim := .watch, net.claimCnt := 0 } else { l with net.claimCnt := l.net.claimCnt - 1 }
    | .owned => l

/-- A key epoch whose start cycle has come is in force (R309). -/
def Lane.epochStart (l : Lane) (k own : Nat) : Lane :=
  let c := l.chan k
  match c.next with
  | some (e, start, key) =>
    if start ≤ own then
      let l := l.setChan k { c with epoch := e, next := none, graceOld := some c.epoch, graceTo := start + l.p 0xB133 }
      (l.eventU 0xB116).completeOpt key stDone
    else l
  | none => l

/-- What of a channel's freshness list still matters. -/
def Lane.seenPrune (l : Lane) (k own : Nat) : Lane :=
  l.setChan k { l.chan k with seen := (l.chan k).seen.filter (fun e => decide (own ≤ e.1 + 2)) }

/-- CYCLE blocks to both peers at a cycle start of a SYNCED channel (R237, R283). -/
def Lane.cycleBlocks (l : Lane) : Lane :=
  if l.net.st != .synced then l
  else l.sendBoth true 0x18 (l.cycleBytes ++ leBytes 2 (min 65535 (l.now - l.net.cycleAt)) ++ [1, 0, 0, 0])

/-- Cycle starts of two lanes further apart than NET_SKEW_MAX, whatever their counters (R283). -/
def Lane.skewTest (l : Lane) : Lane :=
  let own : Option Nat := if l.net.st == .synced then some l.net.cycleAt else none
  let peers := l.peers.map (fun p => if l.peerLive p then l.net.peerStart.getD p.idx none else none)
  let xs := (own :: peers).filterMap (fun x => x)
  let far := xs.any (fun a => xs.any (fun b => decide (us (l.p 0xB118) < 10 * (centred ((a : Int) - b) l.cycNom).natAbs)))
  let l' := { l with net.skewTold := far }
  if far && !l.net.skewTold then l'.eventU 0xB112 else l'

/-- Step 1 starts anew on a frame of a higher slot, heard since the source of step 1 (R288, Table NT-7). -/
def Lane.adoptCand (l : Lane) (x : Nat × Nat × Nat × Nat) : Lane :=
  let (slot, node, ctr, base) := x
  let now_ := decide (l.now < base + l.cycLen)
  let at_ := if now_ then base else base + l.cycLen
  { l with net.step := 1, net.stepCycle := ctr, net.cycle := .ofNat 48 (if now_ then ctr else ctr + 1), net.cycleAt := at_, net.nextAt := at_ + l.cycLen, net.ffSrc := slot, net.ffNode := node,
           net.ffLast := some slot, net.ffBase := base, net.ffCur := base, net.delta := 0, net.cand := none }

/-- The state of the controller at a cycle start (Table NT-4). -/
def Lane.netStep (l : Lane) : Lane :=
  let c := l.net.cycle.toNat
  if l.net.rejoin && l.net.st == .synced then ({ l with net.rejoin := false, net.adoptOld := some c }).reintegrate
  else match l.net.st with
    | .passive => l.reintegrate
    | .coldstart => if l.net.csFrom + l.np 0xB10B ≤ c then l.netSynced stTimeout else l
    | .integrate =>
      if l.net.step == 2 then (l.netSynced).eventU 0xB101
      else if l.net.step == 1 && decide (l.net.stepCycle + 2 ≤ c) then
        (match l.net.cand with
         | some x => if l.now < x.2.2.2 + 2 * l.cycLen then l.adoptCand x else l.netListen
         | none => l.netListen)
      else if l.net.step == 0 && decide (l.net.stepCycle + l.p 0xB114 ≤ c) then l.netListen
      else l
    | .synced =>
      if l.p 0xB114 ≤ l.net.ffMiss && !l.net.acting && !l.net.keeper then (l.eventU 0xB102).netPassive else l
    | _ => l

/-- A link that came up joins at a cycle start once its other side runs the same time base (R275). -/
def Lane.linkJoin (l : Lane) : Lane :=
  match l.net.joinPort with
  | some p => if l.net.joinOk then (({ l with net.joinPort := none, net.joinOk := false, net.link0 := l.net.link0 || p == 0, net.link1 := l.net.link1 || p == 1 }).eventU 0xB10C) else l
  | none => l

/-- The health record of a network cycle: time stamp, health word and module status word (R334). -/
def Lane.healthRecord (l : Lane) : Lane :=
  l.qOverwrite 9 (leBytes 8 l.now ++ leBytes 4 l.healthWord ++ leBytes 4 (if l.st == .authority then l.moduleStatus else l.red.modStat.toNat))

/-- The first cycle after the adoption of another time base is over (R295). -/
def Lane.adoptEnd (l : Lane) : Lane := l.when (l.net.st == .integrate && l.net.step != 0) (fun l => { l with net.adoptOld := none })

/-- The head of the loop, whose A is 0: nothing upstream, or position 0 of a ring that is not broken (R269, R280). -/
def Lane.loopHead (l : Lane) : Bool := !l.net.link0 || (l.ring && l.np 0xB106 == 0 && (l.net.retR.isEmpty || l.net.retRing))

/-- The cycle counter of the tapped channel at this instant, as its Firefly frames give it (R268). -/
def Lane.tapCyc (l : Lane) : Option Nat := (l.net.tap.find? (fun t => t.known)).map (fun t => t.cycle + (l.now - t.base) / max 1 l.cycNom)

/-- A cycle starts. -/
def Lane.cycleStart (l : Lane) : Lane :=
  if l.net.st == .offline || !l.fwRuns || !(l.due l.net.nextAt) then l
  else
    let l := l.releaseIds [0xB10D, 0xB10E, 0xB10F, 0xB110, 0xB112, 0xB113, 0xB134]
    let start := if l.net.known then l.net.nextAt else l.now
    let l := { l with net.cycle := if l.net.known then l.net.cycle + 1 else l.net.cycle, net.cycleAt := start, net.nextAt := start + l.cycLen }
    let c := l.net.cycle.toNat
    let l := l.linkJoin.claims.quorum
    let own := l.net.ffNow.isNone && l.ffSent
    let l := { l with net.ffMiss := if l.net.ffNow.isSome || l.net.ffDiag.isSome || own || l.net.acting || l.net.keeper then 0 else l.net.ffMiss + 1,
                      net.ffBase := if l.net.ffNow.isSome || own then l.net.ffCur else l.net.ffBase,
                      net.ffLast := if l.net.ffNow.isSome then l.net.ffNow else if own then l.ffSlot else l.net.ffLast }
    let l := (l.adoptEnd.netStep).channelLoss
    let l := { l with net.heard := [], net.heardSlots := [], net.ffSlots := [], net.ffNow := none, net.ffDiag := none, net.claimRival := false, net.sent := [], net.txDyn := 0, net.txAir := 0, net.dynRx := [],
                      net.own := l.net.own.map (fun (x : OwnSlot) => { x with host := x.hostNext.getD x.host, hostNext := none, stale := if x.hostNext.isSome then 0 else x.stale }),
                      net.hwm := if c % 65536 == 0 && l.net.known then max l.net.hwm c else l.net.hwm }
    let ok := l.net.timeOk || (l.loopHead && l.net.st == .synced && decide (4 ≤ l.net.aSame + 1))
    let l := { l with net.aSame := if l.loopHead then l.net.aSame + 1 else l.net.aSame, net.timeOk := ok }
    let l := ((l.seenPrune 0 c).epochStart 0 c).epochStart 1 (l.tapCyc.getD c)
    (l.phaseAlign.cycleBlocks.skewTest.healthRecord).respFlush

def execCycleStart (a : At) (s : State) : Out := run true s a Lane.cycleStart

/-! ### Network idle time (R279, R281, R290) -/

/-- An offset after correction above 1.5 µs, on Icbex-1 6 µs (R290, R315). -/
def Lane.driftOut (l : Lane) (d : Int) : Bool := decide ((if l.i1 then 2400 else 600) < (d.natAbs : Int) - 40 * l.p 0xB112)

/-- Applies offset and rate correction and the drift stop, once a cycle, in the NIT. A frame in the diagnostic window alone corrects nothing, but its offset can stop the node (R281, R290). -/
def Lane.nit (l : Lane) : Lane :=
  let c := l.net.cycle.toNat
  if !(l.net.st == .synced || l.net.st == .integrate) || l.net.nitCycle == some c || !l.due (l.net.cycleAt + l.cycNom - l.nitLen) then l
  else
    let l := { l with net.nitCycle := some c }
    let dev := if l.net.ffNow.isSome then some l.net.delta else l.net.ffDiag
    let l : Lane := match l.net.ffNow with
      | none =>
        if l.ffSent then
          let changed := l.net.ffLast.isSome && l.net.ffLast != l.ffSlot
          let l := { l with net.ffSrc := l.ffSlot.getD 0, net.ffNode := l.np 0xB105, net.ffCur := l.net.cycleAt, net.delta := 0 }
          if changed then l.eventU 0xB107 else l
        else l
      | some s =>
        let omax : Int := 40 * l.p 0xB112
        let corr := max (-omax) (min omax l.net.delta)
        let l := { l with net.nextAt := ((l.net.nextAt : Int) + corr).toNat }
        let rmax : Int := 1000 * l.p 0xB113
        let l := if rmax < l.net.rate ∨ l.net.rate < -rmax then ({ l with net.rate := max (-rmax) (min rmax l.net.rate) }).eventU 0xB10D else l
        let changed := match l.net.ffLast with | some o => o != s | none => false
        let l := { l with net.ffSrc := s }
        if changed && l.net.st == .synced then l.eventU 0xB107 else l
    let l : Lane := match dev with
      | some d => if l.net.st == .synced && l.driftOut d then (l.eventU 0xB103).netPassive else l
      | none => l
    { l with net.reqDue := some (l.net.cycleAt + l.cycNom - l.nitLen + (if l.ring then 0 else l.retDelay.getD 0)) }

/-- Wire time of a delay frame: 84 bytes (R277). -/
def delayWire : Nat := 2688

/-- Link-local frames of this lane on a port near an instant: the guardian passes 2 per cycle (Table NT-6). -/
def Lane.linkLocals (l : Lane) (port t : Nat) : Nat :=
  (l.net.tx.filter (fun f => f.kind == .linkLocal && f.port == port && decide (2 * absDiff f.t t < l.cycNom))).length

/-- The delay request on port 0 goes out once in the NIT of that direction, as soon as the port is free: on the return direction of a line from the NIT start + R (R272, R279). -/
def Lane.delayPoll (l : Lane) : Lane :=
  match l.net.reqDue with
  | none => l
  | some t =>
    if !l.due t then l
    else if !l.net.link0 || l.i1 || l.net.st != .synced || !l.mayInsert || l.grdNew || decide (t + l.nitLen < l.now + delayWire) then { l with net.reqDue := none }
    else if !l.portFree 0 then l
    else
      let l := { l with net.reqDue := none, net.reqNo := (l.net.reqNo + 1) % 65536, net.reqAt := l.now }
      if l.grdNit 0 (if l.ring then l.grdOff 0 else l.grdBack 0) && decide (l.linkLocals 0 l.now < 2) then l.sendFrame 0 { ty := 7, slot := 0xFFFF } (leBytes 2 l.net.reqNo) else l.guardCut true

def execNitStart (a : At) (s : State) : Out := run true s a (fun l => l.nit.delayPoll)

/-- The NIT in which a request that comes now is answered on port 1: that of this cycle where it still holds the response, else that of the next; the first and the last launch instant, and the cycles between (R279). -/
def Lane.answerNit (l : Lane) : Nat × Nat × Nat :=
  let lo := l.net.cycleAt + l.cycNom - l.nitLen
  let hi := l.net.cycleAt + l.cycNom - delayWire
  if max l.now lo < hi then (max l.now lo, hi, 0) else (lo + l.cycLen, hi + l.cycLen, 1)

/-- A delay request on port 1 is answered there, in the NIT; the launch instant of the response within it is the lane's own choice, a free value (R279, R280, log entry 53). -/
def Lane.delayReq (l : Lane) (f : RxFrame) : Lane :=
  if f.port != 1 || l.i1 || l.net.st != .synced || !l.mayInsert || l.grdNew then l
  else
    let (lo, hi, k) := l.answerNit
    let n := max 1 l.asGuard.cycNom
    let off (t : Nat) : Nat := (l.grdOff 1 + (t - l.now)) % n
    if !(l.grdNit 1 (off lo) && l.grdNit 1 (off hi)) || decide (2 ≤ l.linkLocals 1 lo) then l.guardCut true
    else
      let r := l.freeNat
      let l := r.2
      let t := lo + r.1 % (hi - lo)
      let m := ({ l with net.cycle := l.net.cycle + BitVec.ofNat 48 k }).sendFrameAt 1 { ty := 8, slot := 0xFFFF } (leBytes 2 (leAt f.payload 0 2) ++ leBytes 8 l.now ++ leBytes 8 t ++ leBytes 4 (wrap 32 l.net.offA)) t
      { l with net.tx := m.net.tx }

def execDelayReqRx (a : At) (f : RxFrame) (s : State) : Out := run true s a (fun l => l.rxOwn f [7] (fun l _ => l.delayReq f))

/-- Link delay and loop offset (R280). The first exchange of a start checks the stored values: they go where it lies more than ±5 ns from them (log entry 187). -/
def Lane.delayResp (l : Lane) (f : RxFrame) : Lane :=
  let p := f.payload
  if f.port != 0 || l.i1 || leAt p 0 2 != l.net.reqNo then l
  else
    let d : Int := (((l.now : Int) - l.net.reqAt) - ((leAt p 10 8 : Int) - leAt p 2 8)) / 2
    let mean (ds : List Int) : Int := ds.sum / max 1 (ds.length : Int)
    let stale := l.net.dlyOld && decide (2 < (d - mean l.net.dly).natAbs)
    let ds := (d :: (if stale then [] else l.net.dly)).take 64
    let l := { l with net.dly := ds, net.dlyOld := false }
    if l.loopHead then { l with net.offA := 0 }
    else
      let a := sext 32 (leAt p 18 4) + 384 + mean ds
      let n := if (a - l.net.offA).natAbs ≤ 2 then l.net.aSame + 1 else 0
      { l with net.offA := a, net.aSame := n, net.timeOk := l.net.timeOk || decide (4 ≤ n) }

def execDelayRespRx (a : At) (f : RxFrame) (s : State) : Out := run true s a (fun l => l.rxOwn f [8] (fun l _ => l.delayResp f))

/-! ### Firefly frames (R281, R285 to R288, R305, R310) -/

/-- The schedule fields of a Firefly frame are the node's own (R305). -/
def Lane.schedOk (l : Lane) (p : List Byte) : Bool :=
  leAt p 8 2 == l.np 0xB101 && leAt p 10 2 == l.np 0xB102 && leAt p 12 2 == l.boot.image.schedCrc.toNat

/-- Adopts phase and cycle counter from a frame: step 1 of R288. What a later pass shows lies R or L behind; where that is not known the phase is adopted as it comes (log entry 160). -/
def Lane.adopt (l : Lane) (x : Fr) (f : RxFrame) : Lane :=
  let round := l.ring && f.port == 0 && l.later x.node == some true
  let base := l.now - l.slotStart x.slot - (if round then l.net.ringL else 0)
  { l with net.given := if l.net.known && l.peers.any l.peerLive then some l.cycRef else none,
           net.st := .integrate, net.step := 1, net.acting := false, net.keeper := false, net.known := true, net.cycle := .ofNat 48 (ffCounter f), net.stepCycle := ffCounter f,
           net.cycleAt := base, net.nextAt := base + l.cycLen, net.ffSrc := x.slot, net.ffNode := x.node, net.ffNow := some x.slot, net.ffCur := base, net.delta := 0, net.nitCycle := none,
           net.cand := none, net.retR := [], net.provis := f.port == 1 || (round && l.net.ringL == 0) }

/-- A frame becomes the time reference of this cycle: its offset, and the rate since the frame used in the cycle before (R281). -/
def Lane.ffTake (l : Lane) (x : Fr) (d : Int) : Lane :=
  let base := ((l.net.cycleAt : Int) + d).toNat
  let gap : Int := (base : Int) - l.net.ffBase
  let n : Int := max 1 l.cycNom
  let k := max 1 ((gap + n / 2) / n)
  let rate := if l.net.ffLast.isSome then (gap - k * n) * 1000000000 / (k * n) else l.net.rate
  { l with net.ffNow := some x.slot, net.ffNode := x.node, net.delta := d, net.ffCur := base, net.rate := rate }

/-- The frame is taken where no lower slot was (R281). -/
def Lane.ffUse (l : Lane) (x : Fr) (d : Int) : Lane :=
  match l.net.ffNow with
  | some s => if s ≤ x.slot then l else l.ffTake x d
  | none => l.ffTake x d

/-- A controller integrates on a frame that its mark and its schedule allow; one that they refuse leaves it where it listens or serves (R288, R305, R310). -/
def Lane.ffListen (l : Lane) (x : Fr) (f : RxFrame) : Lane :=
  let stay (l : Lane) : Lane := if l.net.st == .integrate then l.netListen else l
  if !l.schedOk f.payload then (stay l).eventU 0xB110
  else if ffCounter f < l.net.hwm then (stay l).eventU 0xB118
  else (l.adopt x f).grdSee (l.now - l.slotStart x.slot)

/-- Rank of a time base: its source slot, a timekeeper after slots 1 to 3, then the node of the source (R295). -/
def ffBefore (s n s' n' : Nat) : Bool := let r := ffRankOf s; let r' := ffRankOf s'; decide (r < r') || (r == r' && decide (n < n'))

/-- What an accepted Firefly frame does in each state of the controller. -/
def Lane.ffRx (l : Lane) (f : RxFrame) (x : Fr) : Lane :=
  let l := { l with net.heard := if l.net.heard.contains x.node then l.net.heard else x.node :: l.net.heard,
                    net.heardSlots := if l.net.heardSlots.contains x.slot then l.net.heardSlots else x.slot :: l.net.heardSlots }
  let d := (l.rxDev f.port x).getD 0
  let shown := ((l.net.cycleAt : Int) + d).toNat
  match l.net.st with
  | .listen => l.ffListen x f
  | .passive => l
  | .offline => l
  | .coldstart =>
    let prio := byteAt f.payload 7
    if !x.cs then l.ffListen x f
    else if prio < l.np 0xB109 && prio != 0 then (l.eventU 0xB105).ffListen x f
    else l
  | .integrate =>
    if l.net.step == 0 || x.slot < l.net.ffSrc then l.ffListen x f
    else
      let l := ({ l with net.ffSlots := x.slot :: l.net.ffSlots }).grdSee shown
      if l.net.step != 1 then l
      else if l.net.ffSrc < x.slot then { l with net.cand := some (x.slot, x.node, ffCounter f, shown) }
      else if l.net.cycle.toNat == l.net.stepCycle then l
      else if d.natAbs ≤ l.win then { l.ffUse x d with net.step := 2 } else l.netListen
  | .synced =>
    let l := ({ l with net.ffSlots := x.slot :: l.net.ffSlots }).grdSee shown
    if l.net.acting && !x.cs && l.np 0xB108 != 0 && x.slot < l.np 0xB108 then
      ((({ l with net.yielded := some l.cfgCrc }).eventU 0xB106).ffListen x f)
    else if (l.net.acting && x.cs) || (match l.ffSlot with | some r => decide (r ≤ x.slot) | none => false) then l
    else l.ffUse x d

/-- A Firefly frame outside its window but within ±5 µs measures the drift and does nothing else (R281, R290): one that is fresh and stands below the own Firefly slot. -/
def Lane.ffOutside (l : Lane) (f : RxFrame) : Lane :=
  let x := l.parse f
  let c := fullCyc l.net.cycle.toNat x.cyc
  if !(l.net.st == .synced && f.fcsOk && x.ok && x.ty == 2 && f.port < 2) || l.net.acting || (match l.ffSlot with | some r => decide (r ≤ x.slot) | none => false) then l
  else match l.rxDev f.port x with
    | some d =>
      if l.win < d.natAbs && d.natAbs ≤ 2000 && l.freshOk 0 l.net.cycle.toNat (l.now - l.net.cycleAt) l.cycNom x && l.epochOk 0 x.epoch l.net.cycle.toNat && l.frameTag false x.epoch (c / 2 ^ 32) f.hdr f.payload == f.tag
      then { l with net.ffDiag := some d } else l
    | none => l

/-- A Firefly frame on a link that waits to join (R275, R295): one of the own source with the own counter, where this node expects it, shows the same time base, and so does an own frame that has come round; one of a higher-ranked base calls for the rejoin. While R is unknown port 1 expects the return pass within half a cycle. -/
def Lane.joinJudge (l : Lane) (f : RxFrame) (x : Fr) : Lane :=
  let o := l.rxOffset x - l.slotStart x.slot
  let c := ffCounter f
  let here := match l.rxDev f.port x with
    | some d => decide (d.natAbs ≤ l.win)
    | none => decide (-(l.win : Int) ≤ o) && decide (2 * o ≤ l.cycNom)
  if x.node == l.np 0xB105 || (x.slot == l.net.ffSrc && x.node == l.net.ffNode) then
    (if here && c == fullCyc l.net.cycle.toNat x.cyc && decide (c ≤ l.net.cycle.toNat) then { l with net.joinOk := true } else l)
  else if ffBefore x.slot x.node l.net.ffSrc l.net.ffNode && !l.net.rejoin then
    (if l.p 0xB10D == 0 then { l with net.rejoin := true } else { l with net.notice := true })
  else l

/-- The first check of Table NF-4 that a Firefly frame of another time base fails: all but window and freshness, which are those of its own base. -/
def Lane.baseFail (l : Lane) (f : RxFrame) (x : Fr) : Nat :=
  let c := ffCounter f
  if !f.fcsOk then 1 else if !x.ok then 2 else if !l.epochOk 0 x.epoch c then 4
  else if x.cyc != c % 2 ^ 32 || l.frameTag false x.epoch (c / 2 ^ 32) f.hdr f.payload != f.tag then 6 else 0

def Lane.joinSee (l : Lane) (f : RxFrame) : Lane :=
  let x := l.parse f
  let k := l.baseFail f x
  if k == 0 then l.joinJudge f x else l.failCheck k (if k == 1 || 64 ≤ x.node then none else some x.node)

/-- On the bus of Icbex-1 every node is a junction node: a Firefly frame of a higher-ranked base outside the windows leads each to integrate on it (R295, R314). -/
def Lane.busBase (l : Lane) (f : RxFrame) : Lane :=
  let x := l.parse f
  if l.i1 && l.net.st == .synced && f.port == 0 && l.baseFail f x == 0 && !l.inWindow 0 x && ffBefore x.slot x.node l.net.ffSrc l.net.ffNode then { l with net.rejoin := true } else l

/-- A Firefly frame comes: on a link that waits to join, or on the own channel. -/
def Lane.fireflyIn (l : Lane) (f : RxFrame) : Lane :=
  if !l.netOn then l
  else if l.net.st == .synced && l.net.joinPort == some f.port then l.joinSee f
  else ((l.busBase f).ffOutside f).rxOwn f [2] (fun l x => l.ffRx f x)

def execFireflyRx (a : At) (f : RxFrame) (s : State) : Out :=
  run true s a (fun l => l.fireflyIn f)

/-- The listen timeout of a cold-start node (R286), or of a master that contends (R285). -/
def Lane.listenOver (l : Lane) : Lane :=
  if l.net.st == .listen && l.np 0xB109 != 0 && l.due (l.net.listenAt + 40000 * l.np 0xB10A + us (20 * l.np 0xB105)) then l.netStart .coldstart else l

def execListenTimeout (a : At) (s : State) : Out := run true s a Lane.listenOver

/-! ### DATA, HOST_STATUS, CLAIM, REJOIN, MAILBOX (R295, R296, R303, R304, R306, R349) -/

/-- A valid static frame of another node: presence, the value of its slot with its age, the end of a cold start by a node in its own slot (Table NT-4), and the restart of a watch. -/
def Lane.staticRx (l : Lane) (f : RxFrame) (x : Fr) : Lane :=
  let l := { l with net.heard := if l.net.heard.contains x.node then l.net.heard else x.node :: l.net.heard,
                    net.heardSlots := if l.net.heardSlots.contains x.slot then l.net.heardSlots else x.slot :: l.net.heardSlots }
  let v : RxSlot := { slot := x.slot, node := x.node, payload := f.payload.take x.len, age := x.age, cycle := l.net.cycle.toNat }
  let l := { l with net.rx := v :: l.net.rx.filter (fun r => r.slot != x.slot) }
  let l := (l.boot.image.rxQ.filter (fun e => e.1 == x.slot && decide (16 ≤ e.2) && decide (e.2 < 48))).foldl (fun l e => l.qOverwrite e.2 (v.payload.take (l.qBuf e.2))) l
  let l := if l.net.st == .coldstart && l.slotNode x.slot == some x.node then l.netSynced else l
  if (l.net.claim == .watch || l.net.claim == .backoff) && x.slot == l.net.claimSlot then { l with net.claim := .watch, net.claimCnt := 0 } else l

def execDataFrameRx (a : At) (f : RxFrame) (s : State) : Out := run true s a (fun l => l.rxOwn f [1] (fun l x => l.staticRx f x))

/-- The presence nibble of the own module (R258, R304). -/
def Lane.hostStatus (l : Lane) (f : RxFrame) (x : Fr) : Lane :=
  let m := l.np 0xB105
  let n := byteAt f.payload (m / 2) / (if m % 2 == 0 then 1 else 16) % 16
  { l.staticRx f x with red.hostMap := if bit n 3 then some (n % 8, x.slot) else none }

def execHostStatusRx (a : At) (f : RxFrame) (s : State) : Out := run true s a (fun l => l.rxOwn f [3] (fun l x => l.hostStatus f x))

/-- A competing claim: a random back-off of 1 to 16 cycles, a free value (R296). -/
def Lane.claimBack (l : Lane) : Lane :=
  let r := l.freeNat
  ({ r.2 with net.claim := .backoff, net.claimCnt := r.1 % 16 + 1, net.claimed := l.net.claimed.filter (fun e => e.1 != l.net.claimSlot) }).eventU 0xB10B

/-- A claim of another node: it competes with an own claim in the same cycle, before or after it (R296). -/
def Lane.claimFrame (l : Lane) (f : RxFrame) : Lane :=
  let s := leAt f.payload 0 2
  let n := byteAt f.payload 2
  let l := { l with net.claimed := (s, n, 0) :: l.net.claimed.filter (fun e => e.1 != s) }
  if l.net.claimSlot != s then l
  else if l.net.claim == .sent then l.claimBack
  else { l with net.claimRival := l.net.claimRival || l.net.claim == .watch }

def execClaimFrameRx (a : At) (f : RxFrame) (s : State) : Out := run true s a (fun l => l.rxOwn f [5] (fun l x => (l.qPass 52 (f.payload.take x.len)).claimFrame f))

/-- The watch has seen the slot free for 8 cycles: the claim goes out in the dynamic segment; where another came earlier in this cycle, both back off (R296). -/
def Lane.watchEnd (l : Lane) : Lane :=
  let slot := l.staticN + (l.now - l.net.cycleAt - l.staticN * l.slotLen) / us 2 + 1
  if l.net.claim == .watch && 8 ≤ l.net.claimCnt && l.dynMay slot 3 then
    let l := ({ l with net.claim := .sent }).dynCount 3
    if l.grdDyn 3 then
      let l := l.sendFrame l.insPort { ty := 5, slot := slot } (leBytes 2 l.net.claimSlot ++ [b8 (l.np 0xB105)])
      if l.net.claimRival then l.claimBack else l
    else { l with net.claim := .watch }.guardCut true
  else l

def execSlotWatchEnd (a : At) (s : State) : Out := run true s a Lane.watchEnd

def execClaimBackoffEnd (a : At) (s : State) : Out :=
  run true s a (fun l => if l.net.claim == .backoff && l.net.claimCnt == 0 then { l with net.claim := .watch } else l)

/-- A rejoin notice on the lower-ranked side (R295). -/
def Lane.rejoinRx (l : Lane) (x : Fr) : Lane :=
  if l.net.st == .synced && x.node != l.np 0xB105 then { l with net.rejoin := true, net.claim := if l.net.claim == .watch then .none else l.net.claim } else l

def execRejoinFrameRx (a : At) (f : RxFrame) (s : State) : Out := run true s a (fun l => l.rxOwn f [6] (fun l x => (l.qPass 52 (f.payload.take x.len)).rejoinRx x))

/-- A MAILBOX frame for this module or for all of them (R346, R349). -/
def Lane.mailboxRx (l : Lane) (f : RxFrame) (x : Fr) : Lane :=
  let d := byteAt f.payload 0
  if d != l.np 0xB105 && d != 0xFF then l
  else l.segment .net 0 x.node (byteAt f.payload 1) (byteAt f.payload 2) (d == 0xFF) ((f.payload.take x.len).drop 4)

def execMailboxFrameRx (a : At) (f : RxFrame) (s : State) : Out := run true s a (fun l => l.rxOwn f [4] (fun l x => l.mailboxRx f x))

/-! ### Links of the loop (R275) -/

def Lane.netLinkDown (l : Lane) (port : Nat) : Lane :=
  let had := if port == 0 then l.net.link0 else l.net.link1
  let step := if l.net.st == .integrate then 0 else l.net.step
  let l := { l with net.link0 := l.net.link0 && port != 0, net.link1 := l.net.link1 && port != 1, net.retR := [], net.grd := l.net.grd.map (fun (g : Guard) => { g with ret := [] }),
                    net.offA := if port == 0 then 0 else l.net.offA, net.dly := if port == 0 then [] else l.net.dly, net.aSame := 0, net.timeOk := l.net.timeOk && port != 0,
                    net.joinPort := if l.net.joinPort == some port then none else l.net.joinPort,
                    net.step := step, net.stepCycle := if step == 0 && l.net.st == NetSt.integrate then l.net.cycle.toNat else l.net.stepCycle }
  if had then l.eventU 0xB10C else l

def execLinkDown (a : At) (port : Nat) (s : State) : Out := run (port < 2) s a (fun l => l.netLinkDown port)

/-- A link comes up: it is relayed across only once its time base is known; a controller without a time base takes it at once. -/
def Lane.netLinkUp (l : Lane) (port : Nat) : Lane :=
  let has := if port == 0 then l.net.link0 else l.net.link1
  if has then l
  else if l.net.st == .synced || l.net.st == .coldstart then { l with net.joinPort := some port, net.joinOk := false }
  else
    let step := if l.net.st == .integrate then 0 else l.net.step
    ({ l with net.link0 := l.net.link0 || port == 0, net.link1 := l.net.link1 || port == 1, net.step := step,
               net.stepCycle := if l.net.st == NetSt.integrate then l.net.cycle.toNat else l.net.stepCycle }).eventU 0xB10C

def execLinkUp (a : At) (port : Nat) (s : State) : Out := run (port < 2) s a (fun l => l.netLinkUp port)

/-! ### CYCLE blocks (R237, R283) -/

/-- The lane whose CYCLE blocks give the time to a lane without its own channel: the authority where its channel is SYNCED, else the most senior SYNCED peer. -/
def Lane.cycleSource (l : Lane) : Option LaneId :=
  let sync (p : LaneId) : Bool := l.peerLive p && l.reach p
  match LaneId.ofCode l.red.auth with
  | some p => if p != l.id && sync p then some p else (l.peers.filter sync).find? (fun q => (l.peers.filter sync).all (fun r => r == q || l.senior q r))
  | none => (l.peers.filter sync).find? (fun q => (l.peers.filter sync).all (fun r => r == q || l.senior q r))

/-- Places a peer's cycle start (R237) and takes the time from it while the own channel is not SYNCED: in COLDSTART and from step 1 of INTEGRATE on, where the controller keeps a time of its own, beside it (R283, log entry 54). -/
def Lane.cycleBlock (l : Lane) (p : List Byte) (o : LaneId) : Lane :=
  let t := l.now - us 1 - leAt p 6 2
  let c := leAt p 0 6
  let l := { l with net.peerStart := l.net.peerStart.set o.idx (some t), net.peerCyc := l.net.peerCyc.set o.idx c, net.peerSync := l.net.peerSync.set o.idx (bit (byteAt p 8) 0) }
  let l := l.skewTest
  if l.net.st == .synced || l.cycleSource != some o then l
  else if l.net.st == .coldstart || (l.net.st == .integrate && l.net.step != 0) then ({ l with net.given := some (c, t) }).phaseAlign
  else ({ l with net.cycle := .ofNat 48 c, net.known := true, net.cycleAt := t, net.nextAt := t + l.cycLen }).phaseAlign

def execCycleBlockRx (a : At) (from_ : LaneId) (b : Block) (s : State) : Out :=
  run true s a (fun l => l.rxBlock from_ b true 0x18 (fun o l => l.cycleBlock b.payload o))

/-! ### The tap (R250, R256, R257, R268) -/

def Lane.tapAt (l : Lane) (port : Nat) : TapTime := l.net.tap.getD (port - 2) {}

/-- A tap port has a time base: a Firefly frame within NET_SYNC_LOSS_N cycles (R268). -/
def Lane.tapLive (l : Lane) (t : TapTime) : Bool := t.known && decide (l.now < t.base + (l.p 0xB114 + 1) * l.cycNom)

/-- Offset of an arrival on a tap port from its slot start in the last cycle that the base gives; a link-local frame counts from the middle of its cycle. -/
def Lane.tapOff (l : Lane) (t : TapTime) (x : Fr) : Int := (l.now : Int) - t.base - (if x.slot == 0xFFFF then l.cycNom / 2 else l.slotStart x.slot)

/-- Cycles since the base that an arrival belongs to: the nearest. -/
def Lane.tapSteps (l : Lane) (t : TapTime) (x : Fr) : Int := (l.tapOff t x + l.cycNom / 2) / max 1 (l.cycNom : Int)

/-- The tapped channel's counter for an arrival; without a time base the one that a Firefly frame carries. -/
def Lane.tapOwn (l : Lane) (f : RxFrame) (x : Fr) : Nat :=
  let t := l.tapAt f.port
  if l.tapLive t then ((t.cycle : Int) + l.tapSteps t x).toNat else ffCounter f

/-- Dynamic frames of a sender that a tap port has accepted in a cycle. -/
def TapTime.dynOf (t : TapTime) (c node : Nat) : Nat := if t.dynIn == c then ((t.dyn.find? (fun e => e.1 == node)).map Prod.snd).getD 0 else 0

/-- The checks of Table NF-4 on the tapped channel, as a receiver of that channel makes them (R268, log entry 188): with windows from the Firefly frames of that tap port, a Firefly frame alone where there is no time base yet. -/
def Lane.tapFail (l : Lane) (f : RxFrame) (x : Fr) : Nat :=
  let t := l.tapAt f.port
  let live := l.tapLive t
  let own := l.tapOwn f x
  let dev := l.tapOff t x - l.tapSteps t x * l.cycNom
  let inNit := decide ((l.cycNom : Int) ≤ 2 * (dev + l.nitLen + l.win))
  if !f.fcsOk then 1
  else if !x.ok || (x.slot == 0xFFFF && live && !inNit) then 2
  else if (if live then x.slot != 0xFFFF && decide (l.win < dev.natAbs) else x.ty != 2) then 3
  else if !l.epochOk 1 x.epoch own then 4
  else if x.cyc != own % 2 ^ 32 || l.net.tapSeen.contains (f.port, own, x.slot, x.node, x.ty) then 5
  else if l.frameTag true x.epoch (own / 2 ^ 32) f.hdr f.payload != f.tag then 6
  else if isDyn x.ty && !l.dynAllowed (t.dynOf own x.node) x then 7
  else 0

/-- The DATA frame of the tapped lane: its health word, its references, and its authority-class content (R250, R257). -/
def Lane.tapData (l : Lane) (f : RxFrame) (x : Fr) : Lane :=
  let p := f.payload
  let t := l.id.next
  let h : W32 := .ofNat 32 (leAt p 0 4)
  let seq := leAt p 12 2
  let age := (l.net.cycle.toNat + 65536 - seq) % 65536
  let heardBefore := l.tapHeard
  let l := { l with red.tapAt := some l.now, red.tapHealth := h, red.tapRefs := decide (byteAt p 15 % 16 != 0) && (healthState h == 5 || healthState h == 6) }
  let l := l.setPeer t { l.peer t with health := h, known := true }
  let l := if x.auth && l.st == .follower then l.statusTake (.ofNat 32 (leAt p 4 4)) else l
  let l := if l.st == .follower then
      let n := byteAt p 15 % 16
      let l := { l with red.refCycle := l.net.cycle.toNat - age }
      ((List.range (min n 8)).map (fun c => (c, sext 16 (leAt p (16 + 2 * c) 2)))).foldl (fun (l : Lane) (v : Nat × Int) => match l.chains[v.1]? with
        | some j => l.latchRef j v.2 l.now
        | none => l) l
    else l
  if l.st == .island && !heardBefore then l.enterSync else l

/-- The first own slot of the lanes of this module (R303, R304). -/
def Lane.moduleSlot (l : Lane) (x : Fr) : Bool := x.node == l.np 0xB105 && x.slot == (l.nps 0xB107).headD 0

/-- A frame on the tap: the checks, then the time base, and the DATA frame of the tapped lane on its first copy. -/
def Lane.tapRx (l : Lane) (f : RxFrame) : Lane :=
  let x := l.parse f
  if f.port < 2 || (l.i1 && f.port != 2) || !l.fwRuns || l.st == .failSilent then l
  else
    let k := l.tapFail f x
    if k != 0 then l.failCheck k (if k == 1 || 64 ≤ x.node then none else some x.node)
    else
      let c := l.tapOwn f x
      let first := !l.net.tapSeen.any (fun e => e.2 == (c, x.slot, x.node, x.ty))
      let t := l.tapAt f.port
      let t := if isDyn x.ty then { t with dynIn := c, dyn := (x.node, t.dynOf c x.node + 1) :: (if t.dynIn == c then t.dyn.filter (fun e => e.1 != x.node) else []) } else t
      let t := if x.ty == 2 then { t with known := true, cycle := c, base := l.now - l.slotStart x.slot } else t
      let l := { l with net.tapSeen := ((f.port, c, x.slot, x.node, x.ty) :: l.net.tapSeen).filter (fun e => decide (c ≤ e.2.1 + 2)), net.tap := l.net.tap.set (f.port - 2) t }
      let l := (l.bump x.node (fun c => { c with accepted := c.accepted + 1 })).bump 64 (fun c => { c with accepted := c.accepted + 1 })
      if first && x.ty == 1 && l.moduleSlot x then l.tapData f x else l

def execTapFrameRx (a : At) (f : RxFrame) (s : State) : Out := run true s a (fun l => l.tapRx f)

/-! ### Commands 0x70 to 0x74 -/

/-- NET_STATE (Table NT-8). -/
def Lane.netStateByte (l : Lane) : Nat := l.net.st.code * 16 + 2 * b2n l.net.timeOk + b2n l.net.part

/-- Nanoseconds of a count of 2.5 ns, and microseconds. -/
def nsF (n : Int) : F32 := fq (5 * n) 2
def usF (n : Int) : F32 := fq n 400

def RxCnt.words (c : RxCnt) : List W32 := [c.fcs, c.malformed, c.window, c.auth, c.replay, c.flood, c.accepted]

/-- NET_STATUS (Table CP-3). -/
def Lane.hNetStatus (m : Msg) (l : Lane) : Lane × Reply :=
  let k := m.u8 0
  if 1 < k then refuse l stBadParam
  else
    let cyc := if k == 0 then l.net.cycle.toNat else l.tapCyc.getD 0
    done l ([b8 l.netStateByte, b8 (l.chan k).epoch, 0, 0] ++ leBytes 6 cyc ++ [0, 0] ++ leBytes 4 (nsF l.net.delta).toNat ++
      leBytes 4 (usF (l.retDelay.getD 0)).toNat ++ (l.rxCnt 64).words.flatMap (fun w => leBytes 4 w.toNat))

def execNetStatus (a : At) (m : Msg) (s : State) : Out := run true s a (fun l => l.serve 0x70 m (Lane.hNetStatus m))

/-- The master that started its channel without listening (R285). -/
def Lane.quickMaster (l : Lane) : Bool := l.net.st == .synced && l.net.acting && l.np 0xB108 == 1

/-- NET_COLDSTART makes the node contend like every other cold-start node (R285): it needs a priority number, and a controller that is OFFLINE or listens, or the acting master's, which listens anew (log entry 55). -/
def Lane.hNetColdstart (m : Msg) (l : Lane) : Lane × Reply :=
  guarded l [(!(l.net.st == .offline || l.net.st == .listen || l.quickMaster) || l.net.csKey.isSome, stRefusedState), (l.np 0xB109 == 0, stBadParam)]
    (fun l =>
      let l := l.when l.quickMaster Lane.netListen
      accept { l with net.contend := true, net.csKey := some (m.key 0x71), net.listenAt := l.now } (m.key 0x71))

def execNetColdstart (a : At) (m : Msg) (s : State) : Out := run true s a (fun l => l.serve 0x71 m (Lane.hNetColdstart m))

/-- NET_TX_SRC_SET (R297): Firefly slots, 1 to 3 (R276), cannot be host-supplied. -/
def Lane.hNetTxSrcSet (m : Msg) (l : Lane) : Lane × Reply :=
  let s := m.u16 0
  match (l.nps 0xB107).idxOf? s with
  | some k => guarded l [(decide (s ≤ 3) || l.i1 || decide (1 < m.u8 2), stBadParam)] (fun l => done (l.setOwn k { l.ownSlot k with hostNext := some (m.u8 2 == 1) }))
  | none => refuse l stBadParam

def execNetTxSrcSet (a : At) (m : Msg) (s : State) : Out := run true s a (fun l => l.serve 0x72 m (Lane.hNetTxSrcSet m))

/-- NET_KEY_EPOCH (R309): only the next epoch. -/
def Lane.hNetKeyEpoch (m : Msg) (l : Lane) : Lane × Reply :=
  let k := m.u8 0
  let e := m.u8 1
  let c := l.chan k
  guarded l [(decide (1 < k) || e != c.epoch + 1 || c.next.isSome, stBadParam)]
    (fun l => accept ((l.releaseIds [0xB133]).setChan k { c with next := some (e, leAt m.args 4 6, some (m.key 0x73)) }) (m.key 0x73))

def execNetKeyEpoch (a : At) (m : Msg) (s : State) : Out := run true s a (fun l => l.serve 0x73 m (Lane.hNetKeyEpoch m))

/-- NET_WAKE sends the Cicada pattern on ports 0 and 1, on Icbex-1 on its bus alone (R314, R327). -/
def Lane.hNetWake (l : Lane) : Lane × Reply := done { l with ports.cicTx := l.ports.cicTx ++ ((0, l.now) :: if l.i1 then [] else [(1, l.now)]) }

def execNetWake (a : At) (m : Msg) (s : State) : Out := run true s a (fun l => l.serve 0x74 m Lane.hNetWake)

end Sys2Proof.Machine
end

