-- ==== Sys2Proof/Machine/Ports.lean ====
section
/-! DEFINITION. CAN and the drive links (R317 to R326). -/

namespace Sys2Proof.Machine

/-! ### CAN reception (R317 to R319, R321) -/

def Lane.canFreshOf (l : Lane) (port host kind : Nat) : CanFresh :=
  ((l.canOf port).fresh.find? (fun e => e.host == host && e.kind == kind)).getD ⟨host, kind, 4095, 0, 0⟩

/-- Keeps the value of an accepted frame; every 4,096 accepts it is stored (R319). -/
def Lane.canAccept (l : Lane) (port host kind v : Nat) : Lane :=
  let c := l.canOf port
  let e := l.canFreshOf port host kind
  let n := e.count + 1
  let e' : CanFresh := { e with last := v, count := n, stored := if n % 4096 == 0 then v else e.stored }
  l.setCan port { c with fresh := e' :: c.fresh.filter (fun x => !(x.host == host && x.kind == kind)) }

/-- Sender number of a CAN host in the events of R311: hosts stand above the Icbex nodes. -/
def canSender (host : Nat) : Nat := 100 + host

/-- A malformed frame counts in the totals (R311, R317). -/
def Lane.canBad (l : Lane) (host : Nat) : Lane :=
  (l.bump 64 (fun r => { r with malformed := r.malformed + 1 })).checkEvent 2 (canSender host) 0xB113

/-- Mailbox frames of a host within the last 10 ms (R321). -/
def Lane.canRate (l : Lane) (port host : Nat) : Nat :=
  ((l.canOf port).rate.filter (fun e => e.1 == host && decide (l.now < e.2 + ms 10))).length

def Lane.canCommand (l : Lane) (f : CanRx) : Lane :=
  let p := f.port
  let c := l.canOf p
  let id := f.id
  let host := bits id 12 8
  let kind := bits id 16 13
  let n := f.data.length
  let body := f.data.take (n - 4)
  let epoch := byteAt f.data 2
  let fr := leAt f.data 3 4
  let e := l.canFreshOf p host kind
  if bit id 25 || bits id 24 19 != l.np 0xB105 || !(bits id 18 17 == l.id.code || bits id 18 17 == 0) || kind != 0 then l
  else if n < 11 || (if f.xl then decide (2048 < n) else decide (64 < n)) || id % 256 != 0 || 2 ^ 29 ≤ id then l.canBad host
  else if epoch != c.epoch then (l.bump 64 (fun r => { r with auth := r.auth + 1 })).checkEvent 4 (canSender host) 0xB114
  else if !(decide (e.last < fr) && decide (fr ≤ e.last + 65536)) then (l.bump 64 (fun r => { r with replay := r.replay + 1 })).checkEvent 5 (canSender host) 0xB115
  else if (l.canTag p epoch id body).toNat != beNat (f.data.drop (n - 4)) then (l.bump 64 (fun r => { r with auth := r.auth + 1 })).checkEvent 4 (canSender host) 0xB114
  else
    let l := l.canAccept p host kind fr
    if l.p 0xB154 p ≤ l.canRate p host then
      let c := l.canOf p
      (l.setCan p { c with flooded := c.flooded + 1 }).checkEvent 8 (canSender host) 0xB11B
    else
      let c := l.canOf p
      let l := l.setCan p { c with rate := (host, l.now) :: c.rate.filter (fun e => decide (l.now < e.2 + ms 10)) }
      l.segment .can p host (byteAt f.data 0) (byteAt f.data 1) (bits id 18 17 == 0) (body.drop 7)

/-- A frame of the protocol in use (R317): classical frames and those of another form are malformed. -/
def Lane.canRx (l : Lane) (f : CanRx) : Lane :=
  let mode := l.p 0xB150 f.port
  if !l.fwRuns || mode == 0 || (l.canOf f.port).off then l
  else if f.classic || (mode == 2) != f.xl || (f.xl && !(f.prio == f.id / 2 ^ 18 && f.sdu == 0x0B && f.vcid == 0)) then l.canBad (bits f.id 12 8)
  else l.canCommand f

def execCanFrameRx (a : At) (f : CanRx) (s : State) : Out := run (f.port < 2) s a (fun l => l.canRx f)

/-! ### Bus-off and restart (R321) -/

def Lane.canBusOff (l : Lane) (p : Nat) : Lane :=
  let c := l.canOf p
  if c.off || l.p 0xB150 p == 0 || !l.fwRuns then l
  else
    let ts := recent l.now (sec 60) c.busOff
    let l := (l.setCan p { c with busOff := ts }).eventU 0xB119
    if l.p 0xB155 p ≤ ts.length then (l.setCan p { l.canOf p with off := true }).eventU 0xB11A else l

def execCanBusOff (a : At) (port : Nat) (s : State) : Out := run (port < 2) s a (fun l => l.canBusOff port)

/-- NET_CAN_RESTART acts when it comes on another transport (R321). -/
def Lane.hNetCanRestart (m : Msg) (l : Lane) : Lane × Reply :=
  let p := m.u8 0
  guarded l [(m.tr == .can, stRefusedState), (decide (1 < p), stBadParam)]
    (fun l => done (l.setCan p { l.canOf p with off := false, busOff := [] }))

def execNetCanRestart (a : At) (m : Msg) (s : State) : Out := run true s a (fun l => l.serve 0x75 m (Lane.hNetCanRestart m))

/-! ### CAN status (R320) -/

/-- Index of the multiple of NET_CAN_STAT_T at the start of the present network cycle; without a cycle counter the lane's own time counts. -/
def Lane.canIndex (l : Lane) (p : Nat) : Nat :=
  let t := if l.net.known then l.cyc * l.cycNom + l.net.offA.toNat else l.now
  t / ms (max 1 (l.p 0xB153 p))

/-- A cycle counter comes from the authority's CYCLE blocks, or from those that R283 puts in their place. -/
def Lane.hasCycle (l : Lane) : Bool := l.net.st != .synced && l.net.known && l.cycleSource.isSome

/-- AUTH as in the lane's Icbex frames, and only with valid network time or such a counter (R320). -/
def Lane.canStatus (l : Lane) (p : Nat) : Lane :=
  let c := l.canOf p
  let i := l.canIndex p
  if !l.fwRuns || l.pwm.halted || l.st == .failSilent || l.p 0xB150 p == 0 || c.off || l.p 0xB153 p == 0 || c.lastMult == some i then l
  else
    let auth := l.authFlag && (l.net.timeOk || l.hasCycle)
    let l := l.setCan p { c with lastMult := some i, msgId := (c.msgId + 1) % 256 }
    let l := l.speedRequest
    l.canSend p (l.canId 3 2 0) 0 c.msgId (l.laneHead ++ l.fnStat ++ [b8 (b2n auth * 128 + i % 128)]) true

def execCanStatusSend (a : At) (port : Nat) (s : State) : Out := run (port < 2) s a (fun l => l.canStatus port)

/-! ### Drive links (R322 to R326) -/

def Lane.setDl (l : Lane) (k : Nat) (x : DLink) : Lane := { l with ports.dl := l.ports.dl.set k x }

/-- CHOP nibble of a channel (Table NF-7). -/
def Lane.chopCode (l : Lane) (c : Nat) : Nat :=
  let x := l.chop c
  if x.faulty then 3 else if !x.armed then 0 else if fgt x.duty f0 then 2 else 1

/-- The lane whose frames on a drive link carry the flag: the authority, or the most senior lane whose link works when the authority's is lost (R244). -/
def Lane.dlHolder (l : Lane) (k : Nat) : Nat :=
  let works (x : LaneId) : Bool :=
    if x == l.id then l.st.driving && !(l.dlink k).lost
    else l.peerDrives x && (match (l.peer x).side with | some s => !s.dlLost.getD k true | none => false)
  match LaneId.ofCode l.red.auth with
  | some p => if works p then p.code else
    (match [LaneId.a, .b, .c].find? (fun x => works x && [LaneId.a, .b, .c].all (fun y => y == x || !works y || l.senior x y)) with
    | some x => x.code
    | none => p.code)
  | none => 0

/-- The drive-link frame (Table NF-7). In ISLAND neither the flag nor a limit goes out; an inhibit or a chopper fault sends 0 (R225). -/
def Lane.dlFrame (l : Lane) (k seq : Nat) (holder : Nat) : List Byte :=
  let auth := l.st != .island && (l.red.dup || holder == l.id.code)
  let fl := b2n auth * 128 + b2n l.regenInh * 64 + b2n (l.fn.ch.any Chopper.faulty) * 32 + b2n l.fn.speedReq * 16 + l.id.code * 4
  let plim := if l.st == .island || l.fn.limCut || l.regenInh then f0 else l.pLimOut
  let b := [b8 0x21, b8 fl, (l.dlink k).txAlive + 1, b8 (l.chopCode 0 * 16 + l.chopCode 1)] ++ leBytes 2 seq ++ leBytes 4 l.linkV.toNat ++ leBytes 4 plim.toNat ++
    leBytes 4 (l.rtInput 1).toNat ++ leBytes 4 (l.rtInput 2).toNat ++ leBytes 4 l.vPred.toNat ++ [0, 0, 0, 0]
  b ++ leBytes 2 (crc16 b).toNat

/-- Starts the frame of the present 50 µs step (R322, R245). -/
def Lane.dlSend (l : Lane) (k : Nat) : Lane :=
  let t0 := l.cycRef.2 + us (l.p 0xB141)
  let i := (l.now - t0) / us 50
  let n := l.cyc * (l.cycNom / us 50) + i
  if l.p 0xB140 k == 0 || !l.fwRuns || !(l.st.driving || l.st == .island) || !l.due t0 || (l.dlink k).frame == some n then l
  else
    let l := if l.fn.limCut then { l with fn.pLim := f0 } else l
    let x := l.dlink k
    let f := l.dlFrame k n (l.dlHolder k)
    (l.qPass (56 + 2 * k) f).setDl k { x with frame := some n, txAlive := x.txAlive + 1, tx := x.tx ++ [f] }

def execDlFrameSend (a : At) (link : Nat) (s : State) : Out := run (link < 2) s a (fun l => l.dlSend link)

/-- Frames missed since the last valid one (R325). -/
def Lane.dlMissed (l : Lane) (k : Nat) : Nat := (l.now - (l.dlink k).lastAt + us 25) / us 50 - 1

/-- An invalid frame, reported at most once per second. -/
def Lane.dlBad (l : Lane) (k : Nat) : Lane :=
  let x := l.dlink k
  let l := l.setDl k { x with good := 0 }
  if (match x.errAt with | some t => decide (l.now < t + sec 1) | none => false) then l
  else (l.setDl k { l.dlink k with errAt := some l.now }).eventU 0xB11E

/-- Takes the values of a valid frame (Table NF-8), and counts the valid frames in a row (R325) and those whose power keeps the limit (R227). -/
def Lane.dlData (l : Lane) (k : Nat) (b : List Byte) (next : Bool) : Lane :=
  let f (o : Nat) : F32 := .ofNat 32 (leAt b o 4)
  let x := l.dlink k
  let good := if next then x.good + 1 else 1
  let back := x.lost && decide (20 ≤ good)
  let l := l.qPass (57 + 2 * k) b
  let l := l.setDl k { x with rxAlive := some (byteAt b 2), missed := 0, good := good, lost := x.lost && !back, ever := true, lastAt := l.now, ackSeq := .ofNat 16 (leAt b 4 2),
                              pInv := f 6, pAcc := f 10, pAvail := f 14, wMot := f 18, vLink := f 22, invInh := bit (byteAt b 1) 7, invFault := bit (byteAt b 1) 6 }
  let l := if back then l.eventU 0xB11D else l
  { l with fn.invGood := if fle (l.dlSum DLink.pInv) l.pLimOut && !l.dlWork.isEmpty then l.fn.invGood + 1 else 0 }

def Lane.dlRx (l : Lane) (k : Nat) (b : List Byte) : Lane :=
  let x := l.dlink k
  if l.p 0xB140 k == 0 || !l.fwRuns then l
  else if b.length != 32 || leAt b 30 2 != (crc16 (b.take 30)).toNat || byteAt b 0 != 0x12 then l.dlBad k
  else match x.rxAlive with
    | none => l.dlData k b true
    | some a =>
      let adv := (byteAt b 2 + 256 - a) % 256
      if adv == 0 then l.setDl k { x with good := 0 }
      else if adv ≤ 1 + l.dlMissed k then l.dlData k b (adv == 1)
      else l.dlBad k

def execDlFrameRx (a : At) (link : Nat) (bytes : List Byte) (s : State) : Out := run (link < 2) s a (fun l => l.dlRx link bytes)

/-- No valid frame for NET_DL_LOSS_N × 50 µs (R325). -/
def Lane.dlLoss (l : Lane) (k : Nat) : Lane :=
  let x := l.dlink k
  if l.p 0xB140 k != 0 && !x.lost && l.due (x.lastAt + us 50 * l.p 0xB142 k) then (l.setDl k { x with lost := true, good := 0 }).eventU 0xB11C else l

def execDlLossTimeout (a : At) (link : Nat) (s : State) : Out := run (link < 2) s a (fun l => l.dlLoss link)

end Sys2Proof.Machine
end

