-- ==== Sys2Proof/Machine/Readouts.lean ====
section
/-! DEFINITION. The read-only parameters (R361, R364, R370 and the parameter tables of each chapter), the self-test counts (R442, R444, R446) and the newest self-test record (R448). -/

namespace Sys2Proof.Machine

/-! ### Self-test expectations -/

/-- Gate channels that section 8 drives on a half-bridge: both, or the low side of a low-side-only slot (R444). -/
def Lane.gatesOf (l : Lane) (k : Nat) : Nat := if (l.slotOfHb k).isNone then 0 else if l.lowOnly k then 1 else 2

/-- Expected count of a section for the configuration in force (Table ST-1, BIST_EXPECT). -/
def Lane.bistExpect (l : Lane) (s : Nat) : Nat :=
  if s == 8 then 4 * ((List.range 16).map l.gatesOf).sum
  else if s == 12 then 10240 * (1024 - l.mem.retired.length)
  else [2496, 15, 262144, 96, 56, 12, 16, 130, 0, 208, 2048, 327680, 0, 2097152, 8192, 262144].getD s 0

/-- Maximum time of a section in counts of 2.5 ns (Table ST-1). -/
def bistMax (s : Nat) : Nat :=
  [us 50, us 6250, us 18750, us 12500, us 12500, ms 25, us 2500, us 500, us 62500, us 6250, ms 50, ms 300, us 37700, ms 1125, us 3750, ms 800].getD s 0

/-- The newest record of each kind. -/
def Lane.bistHeads (l : Lane) : List BistRec := [1, 2, 3].filterMap l.bistOf

/-- BIST_SUMMARY code of a status (Table ST-6). -/
def bistCode (st : Nat) : Nat := if st == 3 then 2 else if st == 4 then 3 else st

/-! ### Read-only values -/

def MbCounters.words (c : MbCounters) : List W32 := [c.taken, c.dropped, c.crc, c.framing, c.reasm, c.dup, c.refused, c.timeout]

def Stream.words (x : Stream) : List W32 := [x.accepted, x.rejected, x.gaps, x.replaced, x.missed]

def natsOf (l : List W32) : List Nat := l.map BitVec.toNat

/-- Mean hop delay of the exchanges held, in counts of 2.5 ns (R280). -/
def Lane.hopD (l : Lane) : Int := l.net.dly.sum / max 1 (l.net.dly.length : Int)

/-- A read-only parameter instance as the host reads it. -/
def Lane.roVals (l : Lane) (id i : Nat) : List Nat :=
  match id with
  | 0x1107 => natsOf (l.mb.cnt.getD i {}).words
  | 0x1108 => natsOf (l.stream i).words
  | 0x1110 => (l.uid ++ leBytes 4 l.spiId).map BitVec.toNat
  | 0x1111 => [l.boot.fwVersion.toNat]
  | 0x1112 => [l.boot.gen + 256 * l.spareGens]
  | 0x1113 => [l.cfgCrc.toNat]
  | 0x1114 => [b2n l.boot.overlayCrc.isSome]
  | 0x1116 => match l.mb.staged with
    | some s => [s.vals.length + (s.ownerTr.code - 1) * 2 ^ 16 + s.ownerHost % 256 * 2 ^ 24]
    | none => [0]
  | 0x2153 => [l.gd.pwrEst]
  | 0x3135 => [(l.src i).count.toNat]
  | 0x3140 => [l.pwm.calTaps * 256 + b2n l.pwm.coarseOnly]
  | 0x4111 => [l.sns.occ]
  | 0x4151 => [(l.sns.temp.getD i {}).value.toNat]
  | 0x4161 => [l.sns.crackR.toNat]
  | 0x5146 => [(l.cmpU i).miss.toNat]
  | 0x6153 => [l.motTheta i]
  | 0x7160 => [l.leState i]
  | 0x7161 => [l.le.load]
  | 0x810B => [(l.gen i).ph * 16 + (l.gen i).st.code]
  | 0x8118 => [wrap 32 ((l.sgen i).at_ l.now).micro]
  | 0x9128 => let w := l.fn.wheel.getD i {}; [(fsub w.xC w.xC0).toNat]
  | 0x914C => [l.fn.pLim.toNat]
  | 0xA104 => [l.mirMap.length]
  | 0xA140 => [l.healthWord]
  | 0xA141 => [if l.st == .authority then l.moduleStatus else l.red.modStat.toNat]
  | 0xB120 => [l.netStateByte]
  | 0xB121 => [(nsF l.net.delta).toNat, (fq l.net.rate 1000).toNat]
  | 0xB122 => [(nsF l.hopD).toNat, (nsF l.net.offA).toNat]
  | 0xB123 => [(usF (l.retDelay.getD 0)).toNat, (usF l.net.ringL).toNat]
  | 0xB124 => [l.net.cycle.toNat]
  | 0xB135 => [(l.chan i).epoch]
  | 0xB136 => natsOf (l.rxCnt i).words
  | 0xC104 => [(fq l.pwr.hold 1000).toNat]
  | 0xC105 => [(fq l.pwr.vsup 1000).toNat]
  | 0xC106 => [l.aonStatus]
  | 0xC107 => [(l.pwr.counters.getD i 0).toNat]
  | 0xD104 => match l.bist.run with
    | some r => [r.section_ * 256 + r.kind * 16]
    | none => [0xFF00]
  | 0xD105 => [l.bistExpect i]
  | 0xD106 => match newestOf l.bistHeads with
    | some r => [((List.range 16).map (fun s => bistCode (r.results.getD s {}).status * 4 ^ s)).sum]
    | none => [0]
  | 0xE102 =>
    let w := l.mem.weevil
    let e := l.now - w.startAt
    let n := e / 4 + Config.freeNat l.fresh % (e - e / 4 + 1)
    let ph := if w.phase == .idle then 0 else if n < 512 then 1 else if n < 10752 then 2 else if n < 11264 then 3 else 4
    [w.sweeps % 65536 * 2 ^ 16 + ph * 2 ^ 12 + w.region]
  | 0xE103 => [l.mem.spares + l.mem.retired.length * 256]
  | 0xE104 => natsOf l.boot.pu.crit
  | 0xE105 => natsOf l.mem.ecc
  | 0xE107 => [l.mem.reserve + l.mem.logSpare * 2 ^ 9 + (b2n l.mem.worn0 + 2 * b2n l.mem.worn1) * 2 ^ 16 + min l.mem.dropped 16383 * 2 ^ 18]
  | 0xE109 => [((l.mem.logKept.length + l.mem.log.length) / 128) * 2 ^ 16 + (64 - l.mem.logSpare) * 256 + b2n l.mem.logRing]
  | 0xE10A => [l.mem.lsCount + b2n l.mem.lsPass * 2 ^ 16 + b2n l.boot.split * 2 ^ 17]
  | _ => []

end Sys2Proof.Machine
end

