-- ==== Sys2Proof/Machine/Memory.lean ====
section
/-! DEFINITION. The lockstep pair, the SRAM port, the Weevil passes, the MRAM and the fault log (chapter Lane processor and memory). -/

namespace Sys2Proof.Machine

/-- The lane has supplies and clocks: neither OFF nor WAKING. -/
def Lane.powered (l : Lane) : Bool := l.st != .off && l.st != .waking

/-! ### Lockstep (R381) -/

/-- An insertion of this lane in progress is cut; the relay goes on (R382, R271). -/
def Lane.cutOwn (l : Lane) : Lane :=
  { l with net.tx := l.net.tx.map (fun (f : TxFrame) => if f.kind != .relayed && decide (l.now < f.stop) then f.cutBy l.now else f) }

/-- A difference in a compare group: source 13, an insertion cut, FAILSILENT, the latch in AON, the event for the log of the next start. -/
def Lane.lockstep (l : Lane) (cycles group : Nat) : Lane :=
  if !l.powered || l.boot.split || l.st == .failSilent then l
  else (({ l with mem.lsLatch := some (cycles, group) }).aonEvent 0xE105 cycles |>.tripOn 13).cutOwn.failSilent 1

def execLockstepMismatch (a : At) (cycles group : Nat) (s : State) : Out := run (group < 16) s a (fun l => l.lockstep cycles group)

/-! ### Spare rows and regions (R388 to R390) -/

/-- MEM_CRITICAL marks a region. -/
def Lane.critical (l : Lane) (reg : Nat) : Bool := bit (l.boot.pu.crit.getD (reg / 32) 0).toNat (reg % 32)

/-- A region leaves use for good (R390). -/
def Lane.retire (l : Lane) (reg : Nat) : Lane :=
  if l.mem.retired.contains reg then l
  else
    let l := ({ l with mem.retired := l.mem.retired ++ [reg], mem.cap := true, mem.hard := l.mem.hard.filter (fun r => r / 8 != reg),
                       mem.sram := l.mem.sram.filter (fun c => c.1 / 4096 != reg) }).event 0xE104 reg
    if l.critical reg then l.failSilent 1 else l

/-- A failing row takes a spare row, or retires its region (R389, R390). -/
def Lane.spareRow (l : Lane) (row : Nat) : Lane :=
  if l.mem.retired.contains (row / 8) then l
  else if l.mem.spares == 0 then l.retire (row / 8)
  else ({ l with mem.spares := l.mem.spares - 1, mem.repairs := l.mem.repairs ++ [row], mem.hard := l.mem.hard.erase row }).event 0xE103 row

/-- The Weevil pass tests a region next, out of turn (R387, Table CX-3). -/
def Lane.urgentRegion (l : Lane) (reg : Nat) : Lane :=
  if l.mem.weevil.urgent.contains reg then l else { l with mem.weevil := { l.mem.weevil with urgent := l.mem.weevil.urgent ++ [reg] } }

/-! ### The SRAM port (R386, R387) -/

/-- The place of an access in the serial order of R386. -/
def slotKey (dma : Bool) (cycle : Nat) : Nat := 2 * cycle + b2n dma

/-- Writes the partial writes whose slot has come, in order (R386). -/
def Lane.sramSettle (l : Lane) (key : Nat) : Lane :=
  let due := l.mem.partials.filter (fun p => decide (slotKey (p.side == .dma) (p.cycle + 1) ≤ key))
  { l with mem.partials := l.mem.partials.filter (fun p => !decide (slotKey (p.side == .dma) (p.cycle + 1) ≤ key)),
           mem.sram := due.foldl (fun m p => cellMerge m p.addr p.bytes) l.mem.sram }

/-- The n-th of the four counters of MEM_ECC_COUNT rises by a number of errors. -/
def Lane.eccCount (l : Lane) (n k : Nat) : Lane := { l with mem.ecc := l.mem.ecc.set n (l.mem.ecc.getD n 0 + BitVec.ofNat 32 k) }

/-- The check of a word that is read (R387, R388, Table CX-3). The contents of a word with a double-bit error are free values (log entry 2). -/
def Lane.sramCheck (l : Lane) (dma : Bool) (addr ecc : Nat) : Lane :=
  let l := if dma then { l with mem.errDma := ecc == 3 } else { l with mem.errProc := ecc == 3 }
  match ecc with
  | 0 => l
  | 3 =>
    let l := (l.eccCount 1 1).event 0xE102 addr
    let l := { l with mem.sram := cellStore l.mem.sram (addr / 8 * 8) ((List.range 8).map (fun i => b8 (Config.freeNat (l.fresh + i)))), fresh := l.fresh + 8 }
    if l.critical (addr / 4096) then l.failSilent 1 else l.urgentRegion (addr / 4096)
  | n =>
    let l := (l.eccCount 0 1).event 0xE101 addr
    if n == 1 then l
    else ({ l with mem.hard := if l.mem.hard.contains (addr / 512) then l.mem.hard else l.mem.hard ++ [addr / 512] }).urgentRegion (addr / 4096)

/-- The word at an address, low byte first. -/
def Lane.sramWord (l : Lane) (addr : Nat) : W64 := .ofNat 64 (leNat (cellBytes l.mem.sram (addr / 8 * 8) 8))

/-- A region of the protection unit holds an address (Table BT-9); the SRAM stands at address 0 of the unit (log entry 162). -/
def Pu.holds (u : Pu) (addr n : Nat) : Bool :=
  let base := (u.rgnBase.getD n 0).toNat / 4096
  let pages := bits (u.rgnAttr.getD n 0).toNat 19 8
  decide (base ≤ addr / 4096) && decide (addr / 4096 < base + pages)

/-- The lowest-numbered region that holds the address grants the access; before LOCK the unit holds no regions (R439, Table BT-9). -/
def Pu.grants (u : Pu) (x : SramXfer) : Bool :=
  !u.lock ||
  match (List.range 16).find? (u.holds x.addr) with
  | none => false
  | some n =>
    let r := (u.rgnAttr.getD n 0).toNat
    if x.dma then bit r (if x.write.isSome then 4 else 3)
    else bit r 7 == x.core1 && bit r (if x.fetch then 2 else if x.write.isSome then 1 else 0)

/-- The bus error of an access that no region grants; the side keeps ERR (Table BT-9). -/
def Lane.sramRefuse (l : Lane) (dma : Bool) : Lane := if dma then { l with mem.errDma := true } else { l with mem.errProc := true }

/-- One access of one side (R386), which a region of the protection unit grants (Table BT-9). -/
def Lane.sramAccess (l : Lane) (x : SramXfer) : Lane :=
  if !l.powered then l
  else if !l.boot.pu.grants x then (l.sramSettle (slotKey x.dma x.cycle)).sramRefuse x.dma
  else
    let l := l.sramSettle (slotKey x.dma x.cycle)
    match x.write with
    | none =>
      let l := l.sramCheck x.dma x.addr x.ecc
      if x.dma then { l with mem.rdDma := l.sramWord x.addr } else { l with mem.rdProc := l.sramWord x.addr }
    | some bs =>
      let bs := bs.take 8
      if bs.length == 8 && bs.all Option.isSome then { l with mem.sram := cellMerge l.mem.sram (x.addr / 8 * 8) bs }
      else
        let l := l.sramCheck x.dma x.addr x.ecc
        { l with mem.partials := l.mem.partials ++ [⟨if x.dma then .dma else .processor, x.cycle, x.addr / 8 * 8, bs⟩] }

/-- Accesses beyond the 4 MB of the array have no word (Table CX-1's array): a fault. -/
def execSramAccess (a : At) (x : SramXfer) (s : State) : Out := run (x.addr < 0x400000 && x.ecc < 4) s a (fun l => l.sramAccess x)

/-! ### Weevil passes (R391 to R393) -/

/-- The first unretired region from k on, in sweep order. -/
def Lane.regionFrom (l : Lane) (k : Nat) : Option Nat :=
  ((List.range 1024).map (fun i => (k + i) % 1024)).find? (fun r => !l.mem.retired.contains r)

/-- Passes may start (R393, Table ST-5): the firmware runs, no debug halt holds it, section 12 does not replace them. -/
def Lane.weevilMay (l : Lane) : Bool :=
  l.fwRuns && l.st != .failSilent && !l.pwm.halted && !l.inSection 12 && l.p 0xE100 == 1

/-- Starts the next pass: an aborted region again, a region out of turn, or the next of the sweep. -/
def Lane.weevilStart (l : Lane) : Lane :=
  let w := l.mem.weevil
  if !l.weevilMay || w.phase != .idle || !l.due (w.startAt + 40000 * l.p 0xE101) then l
  else
    let open_ := w.urgent.filter (fun r => !l.mem.retired.contains r)
    let pick := if w.again && !l.mem.retired.contains w.region then some w.region
                else match open_ with
                  | r :: _ => some r
                  | [] => l.regionFrom w.next
    match pick with
    | none => l
    | some r => { l.releaseIds [0xE101] with mem.weevil := { w with phase := .running, region := r, startAt := l.now, again := false, urgent := open_.erase r } }

def execWeevilPassStart (a : At) (s : State) : Out := run true s a Lane.weevilStart

/-- A pass ends: the sweep moves on from its region, and a completed sweep counts. -/
def Lane.weevilNext (l : Lane) : Lane :=
  let w := l.mem.weevil
  if w.region != w.next then { l with mem.weevil := { w with phase := .idle, lastAt := l.now } }
  else
    let n := (l.regionFrom (w.next + 1)).getD w.next
    { l with mem.weevil := { w with phase := .idle, lastAt := l.now, next := n, sweeps := if n ≤ w.next then w.sweeps + 1 else w.sweeps } }

/-- Ends the test of a region: failing rows are spared, or the region is retired; a wrong VERIFY repeats the pass at once (R392). -/
def Lane.weevilEnd (l : Lane) (rows : List Nat) (sigOk : Bool) (count : Nat) (verifyOk : Bool) : Lane :=
  let w := l.mem.weevil
  if w.phase == .idle || w.paused then l
  else
    let bad := !sigOk || count != 10240
    let l := if bad then l.event 0xE106 w.region else l
    let failing := ((if bad then rows else []) ++ l.mem.hard).filter (fun r => r / 8 == w.region) |>.eraseDups
    let l := failing.foldl (fun l r => l.spareRow r) l
    if l.st == .failSilent then l
    else if l.mem.retired.contains w.region then l.weevilNext
    else if !verifyOk then
      let l := l.event 0xE106 w.region
      { l with mem.weevil := { l.mem.weevil with startAt := l.now } }
    else l.weevilNext

def execWeevilPassEnd (a : At) (rows : List Nat) (sigOk : Bool) (count : Nat) (verifyOk : Bool) (s : State) : Out :=
  run (rows.all (fun r => decide (r < 8192))) s a (fun l => l.weevilEnd rows sigOk count verifyOk)

/-- Aborts a pass: it repeats at the next interval, the region is restored (R393). -/
def Lane.weevilAbort (l : Lane) : Lane :=
  let w := l.mem.weevil
  if w.phase == .idle then l else { l with mem.weevil := { w with phase := .idle, again := true, paused := false } }

/-! ### MRAM (R394 to R396) -/

/-- One sweep of the background scrub. -/
def Lane.mramScrub (l : Lane) (corrected uncorrectable : Nat) : Lane :=
  if !l.fwRuns || l.st == .failSilent || !l.due (l.mem.scrubAt + sec (l.p 0xE106)) then l
  else ({ l.releaseIds [0xE106] with mem.scrubAt := l.now }.eccCount 2 corrected).eccCount 3 uncorrectable

def execMramScrub (a : At) (corrected uncorrectable : Nat) (s : State) : Out := run true s a (fun l => l.mramScrub corrected uncorrectable)

/-- The fault log has ended pinning and is a ring of fixed size (R396). -/
def Lane.logRingMode (l : Lane) : Lane :=
  if l.mem.logRing then l
  else ({ l with mem.logRing := true, mem.log := l.mem.logKept ++ l.mem.log, mem.logKept := [] }).event 0xE107 (128 * l.mem.logSectors)

/-- Makes room for an entry: the oldest sector is overwritten, its pinned entries first copied to a spare sector (R396). -/
def Lane.logRoom (l : Lane) : Lane :=
  if l.mem.log.length < 128 * l.mem.logSectors then l
  else
    let old := l.mem.log.take 128
    let pins := old.filter LogEntry.pin
    if l.mem.logRing || pins.isEmpty then { l with mem.log := l.mem.log.drop (l.mem.log.length + 128 - 128 * l.mem.logSectors) }
    else if l.mem.logSpare < 64 then
      { l with mem.log := l.mem.log.drop 128, mem.logKept := l.mem.logKept ++ pins, mem.logSpare := l.mem.logSpare + 1 }
    else
      let l := l.logRingMode
      { l with mem.log := l.mem.log.drop (l.mem.log.length + 128 - 128 * l.mem.logSectors) }

/-- Writes buffered entries to the log in MRAM, n at most. -/
def Lane.logFlush (l : Lane) : Nat → Lane
  | 0 => l
  | n + 1 =>
    match l.mem.logBuf with
    | [] => l
    | e :: r =>
      let l := ({ l with mem.logBuf := r }).logRoom
      ({ l with mem.log := l.mem.log ++ [e] }).logFlush n

/-- Writes every buffered entry (R407 step E4). -/
def Lane.logFlushAll (l : Lane) : Lane := l.logFlush l.mem.logBuf.length

/-- Area of an MRAM offset (Table CX-5): 0 and 1 the image slots, 2 the fault log and its spares, 3 the others. -/
def mramArea (addr : Nat) : Nat :=
  if addr < 0x200000 then 0 else if addr < 0x400000 then 1 else if 0x550000 ≤ addr && addr < 0x690000 then 2 else 3

/-- The sector that holds the other copy, in an area of two copies in separate sectors (Table CX-5). -/
def mramTwin (sector : Nat) : Option Nat :=
  let pair (base half : Nat) : Option Nat := if sector < base + half then some (sector + half) else some (sector - half)
  if 0x500 ≤ sector && sector < 0x510 then pair 0x500 8
  else if 0x520 ≤ sector && sector < 0x540 then pair 0x520 16
  else if 0x540 ≤ sector && sector < 0x550 then pair 0x540 8
  else none

/-- A sector is worn (R395); the Molt of a worn slot ends (Table CX-7). -/
def Lane.mramWorn (l : Lane) (addr : Nat) (bytes : List Byte) : Lane :=
  let sector := addr / 4096
  match mramArea addr with
  | 2 =>
    if l.mem.logSpare < 64 then { l with mem.logSpare := l.mem.logSpare + 1 }
    else ({ l with mem.logSectors := l.mem.logSectors - 1 }).logRingMode
  | 3 =>
    if l.mem.reserve < 368 then
      { l with mem.reserve := l.mem.reserve + 1, mem.reloc := l.mem.reloc ++ [(sector, 0x690 + l.mem.reserve)], mem.mram := cellStore l.mem.mram addr bytes }
    else
      let l := { l with mem.dead := if l.mem.dead.contains sector then l.mem.dead else l.mem.dead ++ [sector] }
      match mramTwin sector with
      | some t => if l.mem.dead.contains t then { l with mem.dropped := l.mem.dropped + 1, mem.wear := true } else l
      | none => { l with mem.dropped := l.mem.dropped + 1, mem.wear := true }
  | n =>
    let told := if n == 0 then l.mem.worn0 else l.mem.worn1
    let l := if n == 0 then { l with mem.worn0 := true } else { l with mem.worn1 := true }
    let l := { l with boot.slot := l.boot.slot.modify n (fun (x : FwSlot) => { x with state := 4 }), boot.moltOpen := if l.boot.moltOpen == some n then none else l.boot.moltOpen }
    if told then l else l.event 0xE108 n

/-- The count of one word's writes, one up. -/
def bumpWord (w : Nat) : List (Nat × Nat) → List (Nat × Nat)
  | [] => [(w, 1)]
  | (x, n) :: r => if x == w then (x, n + 1) :: r else if w < x then (w, 1) :: (x, n) :: r else (x, n) :: bumpWord w r

/-- Counts a write of every word that the bytes lie in; a word that exceeds its share sets WEAR (R483). -/
def Lane.countWrites (l : Lane) (addr len : Nat) : Lane :=
  if len == 0 then l
  else
    let ws := (List.range ((addr + len - 1) / 8 + 1 - addr / 8)).map (fun i => addr / 8 + i)
    let counts := ws.foldl (fun c w => bumpWord w c) l.mem.writes
    let spent := ws.any (fun w => match counts.lookup w with
      | some n => decide (Config.mramShare w < n)
      | none => false)
    { l with mem.writes := counts, mem.wear := l.mem.wear || spent }

/-- A write has been read back: good, or a failure, the third of which in a row wears the sector (R395). A good write in the fault log stores the oldest buffered entry. -/
def Lane.mramWriteEnd (l : Lane) (addr : Nat) (bytes : List Byte) (ok : Bool) : Lane :=
  let sector := addr / 4096
  let rest := l.mem.fails.filter (fun f => f.sector != sector)
  if !l.powered then l
  else if ok then
    let l := { l.countWrites addr bytes.length with mem.fails := rest, mem.mram := cellStore l.mem.mram addr bytes }
    if mramArea addr == 2 then l.logFlush 1 else l
  else
    let l := l.countWrites addr bytes.length
    let n := match l.mem.fails.find? (fun f => f.sector == sector) with
      | some f => f.fails + 1
      | none => 1
    if n < 3 then { l with mem.fails := rest ++ [⟨sector, n⟩] } else ({ l with mem.fails := rest }).mramWorn addr bytes

def execMramWriteEnd (a : At) (addr : Nat) (bytes : List Byte) (ok : Bool) (s : State) : Out :=
  run (addr + bytes.length ≤ 0x800000) s a (fun l => l.mramWriteEnd addr bytes ok)

end Sys2Proof.Machine
end

