-- ==== Sys2Proof/Machine/ParamCmds.lean ====
section
/-! DEFINITION. The parameter commands: reads, writes, the staged set and its commit, information, the counters (R361, R364 to R370, R377, R488). -/

namespace Sys2Proof.Machine

/-! ### Values on the wire (R364) -/

/-- The value of an instance as PARAM_READ returns it: the working value, which a write changes at once (R372), also while the value before it still acts (log entry 131). -/
def Lane.readVals (l : Lane) (r : PRow) (staged : Bool) (i : Nat) : List Nat :=
  if r.cls == .ro then l.roVals r.id i
  else match (if staged then l.mb.staged else none) with
    | some s => (pfind s.vals r.id i).getD (l.pwork r.id i)
    | none => l.pwork r.id i

/-- Items of a type as bytes. -/
def itemBytes (r : PRow) (v : List Nat) : List Byte := v.flatMap (leBytes r.ty.bytes)

/-- An item with all bits set. -/
def allOnes (r : PRow) : Nat := 2 ^ (8 * r.ty.bytes) - 1

/-- The prefix of Table CP-6 and the values of instances. -/
def valueBlock (r : PRow) (first : Nat) (vs : List (List Nat)) : List Byte :=
  let elem := match vs with
    | [v] => v.length
    | _ => r.elems
  leBytes 2 r.id ++ leBytes 2 first ++ leBytes 2 vs.length ++ [b8 r.ty.code, 0] ++ leBytes 2 elem ++ [0, 0] ++
  vs.flatMap (fun v => itemBytes r (v ++ List.replicate (elem - v.length) (allOnes r)))

/-- Items of a type from bytes. -/
def itemsOf (r : PRow) (n : Nat) (b : List Byte) : List Nat := (List.range n).map (fun k => leAt b (k * r.ty.bytes) r.ty.bytes)

/-- The values of a PARAM_WRITE, one list per instance; in the form for several instances a list ends at its first all-ones element (R364). -/
def writeVals (r : PRow) (count elem : Nat) (b : List Byte) : List (List Nat) :=
  (List.range count).map (fun i =>
    let v := itemsOf r elem (b.drop (i * elem * r.ty.bytes))
    if r.isVar && count != 1 then v.takeWhile (fun x => x != allOnes r) else v)

/-! ### PARAM_READ, PARAM_INFO -/

def Lane.hParamRead (m : Msg) (l : Lane) : Lane × Reply :=
  match prow (m.u16 0) with
  | none => refuse l stBadParam
  | some r =>
    if m.ver == 1 then
      guarded l [(decide (r.n ≤ m.u8 2), stBadParam)] (fun l => done l (itemBytes r (l.readVals r false (m.u8 2))))
    else
      let first := m.u16 2
      let n := if m.u16 4 == 0 then r.n - first else m.u16 4
      let vs := (List.range n).map (fun i => l.readVals r (m.u8 6 == 1) (first + i))
      let b := valueBlock r first vs
      guarded l [(decide (r.n ≤ first) || decide (r.n < first + n) || decide (2032 < b.length), stBadParam)] (fun l => done l b)

def execParamRead (a : At) (m : Msg) (s : State) : Out := run true s a (fun l => l.serve 0x08 m (Lane.hParamRead m))

/-- One element zero-extended or sign-extended to 8 bytes (Table CP-2). -/
def ext8 (r : PRow) (v : Nat) : List Byte :=
  leBytes 8 (match r.ty with
    | .s32 => wrap 64 (sext 32 v)
    | .s16 => wrap 64 (sext 16 v)
    | _ => v)

def Lane.hParamInfo (m : Msg) (l : Lane) : Lane × Reply :=
  match prow (m.u16 0) with
  | none => refuse l stBadParam
  | some r =>
    done l ([b8 r.ty.code, b8 (b2n (r.cls != .ro))] ++ leBytes 2 r.n ++ leBytes 2 r.elems ++ [b8 r.cls.code, 0] ++
      (if r.cls == .ro then List.replicate 24 0 else ext8 r r.lo ++ ext8 r r.hi ++ ext8 r ((l.dflt r.id 0).headD 0)))

def execParamInfo (a : At) (m : Msg) (s : State) : Out := run true s a (fun l => l.serve 0x0B m (Lane.hParamInfo m))

/-! ### Values under test (R58, R452, Table CP-13) -/

/-- Half-bridge of a gate-drive or PWM parameter instance. -/
def hbOfParam (id inst : Nat) : Option Nat :=
  if id == 0x2100 || id == 0x2101 || id == 0x2102 || (0x2104 ≤ id && id ≤ 0x2109) || (0x2120 ≤ id && id ≤ 0x2122) || (0x2150 ≤ id && id ≤ 0x2152) then some (inst / 2)
  else if (0x2110 ≤ id && id ≤ 0x2112) || id == 0x2123 || id == 0x2130 || id == 0x2131 || (0x3110 ≤ id && id ≤ 0x3112) then some inst
  else none

/-- Sections of Table ST-1 that test what a parameter sets. -/
def sectionsOfParam (id : Nat) : List Nat :=
  if id == 0x4110 then [2] else if id == 0x4100 || id == 0x4101 then [3]
  else if 0x4130 ≤ id && id ≤ 0x4136 then [5] else if 0x4120 ≤ id && id ≤ 0x4123 then [6]
  else if 0x3130 ≤ id && id ≤ 0x3134 then [9, 11]
  else if id == 0x1100 || id == 0x1101 || id / 0x1000 == 3 || id / 0x1000 == 7 || id / 0x1000 == 8 then [11]
  else []

/-- A value belongs to a half-bridge or a section under self-test. -/
def Lane.valueTested (l : Lane) (id inst : Nat) : Bool :=
  (match hbOfParam id inst with | some k => l.hbTested k | none => false) || (sectionsOfParam id).any l.inSection

/-! ### Taking values -/

/-- The lane as it would stand with values, once all of them act. -/
def Lane.withVals (l : Lane) (vs : List PVal) : Lane := vs.foldl (fun l v => l.pset v.id v.inst v.vals) l.settled

/-- The value in force goes on acting where a new one acts later (R366): an older one that still acts stays. -/
def Lane.hold (l : Lane) (v : PVal) : Lane :=
  if deferredIds.contains v.id && l.pwork v.id v.inst != v.vals && !l.held.any (fun h => h.id == v.id && h.inst == v.inst) then
    { l with held := l.held ++ [⟨v.id, v.inst, l.pwork v.id v.inst, l.now⟩] }
  else l

/-- First element of a working value. -/
def Lane.pw (l : Lane) (id inst : Nat) : Nat := (l.pwork id inst).headD 0

/-- What a change of a value does at once, beside what reads it later: input polarity (R79, R82), adaptation (R40), carries (R74), the OV1 and OV2 comparators of a disabled input (R95), compare units (R127), Weevil passes (R393), the schedule of the guardians (R289). -/
def Lane.valueHook (old l : Lane) (v : PVal) : Lane :=
  let i := v.inst
  let changed := old.pw v.id i != l.pw v.id i
  match v.id with
  | 0x3130 => if !changed then l else if (l.src i).input then l.tripOff i else l.tripOn i
  | 0x2100 => if changed && l.p 0x2100 i == 1 then l.setGch i { l.gch i with codeOn := old.codeUse i true, codeOff := old.codeUse i false } else l
  | 0x3100 | 0x3101 | 0x3102 | 0x3114 => if changed then l.setTb i { l.tbase i with carryClear := true } else l
  | 0x3103 => if l.pwm.frozen || i == 0 then l else l.followTb i
  | 0x4123 => l.eachOf ((List.range 4).filter (fun d => !bit (l.p 0x4123) d)) (fun d l => l.busOff d)
  | 0x5140 => l.cmpStart i
  | 0xE100 => if l.p 0xE100 == 0 then l.weevilAbort else l
  | _ => if latchIds.contains v.id && l.net.st != .synced then l.grdTake else l

/-- Parameters on which the instants of the triggers depend. -/
def trigIds : List Nat := [0x3100, 0x3101, 0x3102, 0x3103, 0x3120, 0x3121]

/-- Applies values in one step. -/
def Lane.applyVals (l : Lane) (vs : List PVal) : Lane :=
  let m := vs.foldl (fun x v => (x.hold v).pset v.id v.inst v.vals) l
  let m := vs.foldl (fun x v => l.valueHook x v) m
  if vs.any (fun v => trigIds.contains v.id) then m.tellMerged l.settled.trigMerged else m

/-- The instance and its range, the fixed queues Q60 to Q63 and instances outside a subrange (Table MB-1, R364, R488). -/
def Lane.valueOk (l : Lane) (r : PRow) (v : PVal) : Bool :=
  decide (v.inst < r.n) && r.fits v.vals && !(r.isVar && v.vals.contains (allOnes r)) &&
  (!((v.id == 0x1100 || v.id == 0x1101) && decide (60 ≤ v.inst)) || v.vals == l.pwork v.id v.inst)

/-- The state condition of a row fails with this status (Table CP-8). -/
def PCls.condStatus (c : PCls) : Nat := if c.cond == .open_ then stLoopNotOpen else stRefusedState

/-- First value, in ascending order, that fails a check, with its status; true where the gate-drive budget refuses it (R60, R368). -/
def Lane.firstBad (l m : Lane) : List PVal → Option (PVal × Nat × Bool)
  | [] => none
  | v :: rest =>
    match prow v.id with
    | none => some (v, stBadParam, false)
    | some r =>
      if !l.valueOk r v then some (v, stBadParam, false)
      else if !l.condOk r.cls.cond v.id v.inst v.vals then some (v, r.cls.condStatus, false)
      else if !m.checks v.id v.inst then some (v, stBadParam, false)
      else if budgetIds.contains v.id && !m.budgetOk then some (v, stBadParam, true)
      else l.firstBad m rest

/-- The event that a failed rule names. -/
def Lane.badEvent (l : Lane) (budget : Bool) : Lane := if budget then l.eventU 0x2109 else l

/-! ### The staged set (R367, R368) -/

/-- Another sender owns the staged set. -/
def Lane.stagedByOther (l : Lane) (m : Msg) : Bool :=
  match l.mb.staged with
  | some s => !(s.ownerTr == m.tr && s.ownerHost == m.host)
  | none => false

/-- Places values in the staged set of a sender. -/
def Lane.stage (l : Lane) (m : Msg) (vs : List PVal) : Lane :=
  let s := l.mb.staged.getD { ownerTr := m.tr, ownerHost := m.host }
  { l with mb.staged := some { s with lastAt := l.now, vals := vs.foldl (fun a v => pinsert v a) s.vals } }

/-- The values that a commit brings into force: the estimates of R60, R93 and R166. -/
def Lane.estimate (l : Lane) : Lane := { l with gd.pwrEst := l.settled.pwrEst, le.load := l.settled.loadNow, sns.occ := l.settled.adcWorst }

/-- Checks a set of staged values together with the values in force and applies it (R368); a failure leaves all as it is and names the value. -/
def Lane.commitSet (l : Lane) (vs : List PVal) : Lane × Nat × Option PVal :=
  if vs.any (fun v => l.valueTested v.id v.inst) then (l, stBusySelftest, none)
  else
    match l.firstBad (l.withVals vs) vs with
    | some (v, st, budget) => (l.badEvent budget, st, some v)
    | none => ((l.applyVals vs).estimate, stDone, none)

/-- Result bytes of PARAM_COMMIT. -/
def Lane.commitResult (l : Lane) (applied : Nat) (bad : Option PVal) : List Byte :=
  leBytes 2 applied ++ leBytes 2 ((bad.map PVal.id).getD 0xFFFF) ++ leBytes 2 ((bad.map PVal.inst).getD 0) ++ [0, 0] ++
  leBytes 4 l.gd.pwrEst ++ leBytes 2 l.le.load ++ leBytes 2 l.sns.occ

def Lane.hParamCommit (m : Msg) (l : Lane) : Lane × Reply :=
  match l.mb.staged with
  | none => guarded l [(decide (1 < m.u8 0), stBadParam)] (fun l => done l (l.commitResult 0 none))
  | some s =>
    guarded l [(m.u8 0 == 0 && s.vals.any (fun v => l.valueTested v.id v.inst), stBusySelftest), (l.stagedByOther m, stBusy), (decide (1 < m.u8 0), stBadParam)] (fun l =>
      if m.u8 0 == 1 then
        let l := { l with mb.staged := none }
        done l (l.commitResult 0 none)
      else
        let r := { l with mb.staged := some { s with lastAt := l.now } }.commitSet s.vals
        if r.2.1 == stDone then
          let l := { r.1 with mb.staged := none }
          done l (l.commitResult s.vals.length none)
        else (r.1, .now r.2.1 (r.1.commitResult 0 r.2.2)))

def execParamCommit (a : At) (m : Msg) (s : State) : Out := run true s a (fun l => l.serve 0x0A m (Lane.hParamCommit m))

/-- 5 s without a write or a commit from the owner discard the set (R367). -/
def Lane.stageTimeout (l : Lane) : Lane :=
  match l.mb.staged with
  | some s => if l.due (s.lastAt + sec 5) && l.fwRuns then ({ l with mb.staged := none }).event 0x110C s.vals.length else l
  | none => l

def execStageTimeout (a : At) (s : State) : Out := run true s a Lane.stageTimeout

/-! ### PARAM_WRITE -/

/-- Writes instances of one parameter: staged, or applied at once (Table CP-8). -/
def Lane.writeParam (l : Lane) (m : Msg) (r : PRow) (vs : List PVal) (reply : Nat → List Byte) : Lane × Reply :=
  let cond := vs.all (fun v => l.condOk r.cls.cond v.id v.inst v.vals)
  let ranges := vs.all (l.valueOk r)
  match r.cls with
  | .ro => refuse l stBadParam
  | .staged _ =>
    if m.ver == 1 then
      guarded l [(vs.any (fun v => l.valueTested v.id v.inst), stBusySelftest), (l.mb.staged.isSome, stBusy)] (fun l =>
        let x := l.commitSet vs
        if x.2.1 == stDone then done x.1 (reply 0) else (x.1, .now x.2.1 []))
    else
      guarded l [(l.stagedByOther m, stBusy), (!cond, r.cls.condStatus), (!ranges, stBadParam)] (fun l => done (l.stage m vs) (reply 1))
  | _ =>
    guarded l [(vs.any (fun v => l.valueTested v.id v.inst), stBusySelftest), (!cond, r.cls.condStatus)] (fun l =>
      match l.firstBad (l.withVals vs) vs with
      | some (_, st, budget) => (l.badEvent budget, .now st [])
      | none => done (l.applyVals vs) (reply 0))

def Lane.hParamWrite (m : Msg) (l : Lane) : Lane × Reply :=
  match prow (m.u16 0) with
  | none => refuse l stBadParam
  | some r =>
    if m.ver == 1 then
      let body := m.args.drop 4
      let v := itemsOf r (body.length / r.ty.bytes) body
      l.writeParam m r [⟨r.id, m.u8 2, v⟩] (fun _ => body)
    else
      let first := m.u16 2
      let count := m.u16 4
      let vals := writeVals r count (m.u16 8) (m.args.drop 12)
      l.writeParam m r (vals.mapIdx (fun i v => ⟨r.id, first + i, v⟩)) (fun staged => leBytes 2 r.id ++ leBytes 2 count ++ [b8 staged, 0, 0, 0])

def execParamWrite (a : At) (m : Msg) (s : State) : Out := run true s a (fun l => l.serve 0x09 m (Lane.hParamWrite m))

/-! ### COUNTER_CLEAR -/

/-- Counter parameters: what the tables call a counter or a count of errors, trips or requests (log entry 62). -/
def counterIds : List Nat := [0x1107, 0x1108, 0x3135, 0x5146, 0xB136, 0xC107, 0xE105]

/-- Sets an instance of a counter parameter to zero. -/
def Lane.clearCounter (l : Lane) (id i : Nat) : Lane :=
  match id with
  | 0x1107 => { l with mb.cnt := l.mb.cnt.set i {} }
  | 0x1108 => l.setStream i { l.stream i with accepted := 0, rejected := 0, gaps := 0, replaced := 0, missed := 0 }
  | 0x3135 => l.setSrc i { l.src i with count := 0 }
  | 0x5146 => l.setCmpU i { l.cmpU i with miss := 0 }
  | 0xB136 => { l with net.cnt := l.net.cnt.set i {} }
  | 0xC107 => { l with pwr.counters := l.pwr.counters.set i 0 }
  | 0xE105 => { l with mem.ecc := [0, 0, 0, 0] }
  | _ => l

def Lane.hCounterClear (m : Msg) (l : Lane) : Lane × Reply :=
  let id := m.u16 0
  match prow id with
  | none => refuse l stBadParam
  | some r =>
    guarded l [(!counterIds.contains id || (m.u16 2 != 0xFFFF && decide (r.n ≤ m.u16 2)), stBadParam)] (fun l =>
      done (if m.u16 2 == 0xFFFF then l.each r.n (fun i l => l.clearCounter id i) else l.clearCounter id (m.u16 2)))

def execCounterClear (a : At) (m : Msg) (s : State) : Out := run true s a (fun l => l.serve 0xC2 m (Lane.hCounterClear m))

end Sys2Proof.Machine
end

