-- ==== Sys2Proof/Machine/Configs.lean ====
section
/-! DEFINITION. Configuration images, generations and overlays, the lifecycle, the Molt of firmware images and the test access port (R373 to R376, R428 to R437). -/

namespace Sys2Proof.Machine

/-! ### Configuration images -/

/-- The area that takes staged images: the one that the generation in force does not use (R373). -/
def Lane.stageArea (l : Lane) : Nat := 1 - l.boot.cfgArea

def Lane.stageClear (l : Lane) : Lane :=
  { l with boot.load := none, boot.stagedLen := none }.mramErase (cfgBase l.stageArea) 0x80000

/-! ### Blocks -/

/-- The block arguments of CFG_IMAGE_LOAD and CFG_OVERLAY_LOAD continue a load: index in turn, bytes within the total, the last block ends it. -/
def blockOk (m : Msg) (ld : Option Load) (maxTotal : Nat) : Bool :=
  let n := m.args.length - 8
  let ends (got total : Nat) : Bool := decide (got + n ≤ total) && ((m.u8 2 == 1) == (got + n == total))
  decide (m.u8 2 ≤ 1) &&
  (if m.u16 0 == 0 then decide (m.u32 4 ≤ maxTotal) && ends 0 (m.u32 4)
   else match ld with
     | some x => x.next == m.u16 0 && ends x.got x.total
     | none => false)

/-- The load after a block. -/
def blockNext (m : Msg) (ld : Option Load) : Load :=
  let d := m.args.drop 8
  match ld with
  | some x => if m.u16 0 == 0 then ⟨1, m.u32 4, d.length, d⟩ else ⟨x.next + 1, x.total, x.got + d.length, x.bytes ++ d⟩
  | none => ⟨1, m.u32 4, d.length, d⟩

/-! ### CFG_IMAGE_LOAD (R373) -/

/-- The staged image is whole and signed: header and body with their signature fill the length loaded, R435 holds (log entry 63). -/
def Lane.stagedGood (l : Lane) (total : Nat) : Bool :=
  total == l.imgLen (cfgBase l.stageArea) + 64 && l.cfgOk l.stageArea

def Lane.hCfgImageLoad (m : Msg) (l : Lane) : Lane × Reply :=
  guarded l [(l.boot.otpWrite.isSome || l.boot.overlayLoad.isSome || l.moltOn, stBusy), (!blockOk m l.boot.load 0x80000, stBadParam)] (fun l =>
    let first := m.u16 0 == 0
    let ld := blockNext m l.boot.load
    let l := if first then l.stageClear else l
    let l := l.mramPut (cfgBase l.stageArea + ld.got - (m.args.length - 8)) (m.args.drop 8)
    if m.u8 2 == 0 then done { l with boot.load := some { ld with bytes := [] } }
    else if l.stagedGood ld.total then done { l with boot.load := none, boot.stagedLen := some ld.total }
    else (l.stageClear, .now stRefusedAuth []))

def execCfgImageLoad (a : At) (m : Msg) (s : State) : Out := run true s a (fun l => l.serve 0xA0 m (Lane.hCfgImageLoad m))

/-! ### CFG_GEN_BURN (R373, R375, R433) -/

/-- First unwritten record slot of 1 to 4. -/
def Lane.nextGen (l : Lane) : Option Nat := [1, 2, 3, 4].find? (fun k => !l.recWritten k)

/-- The record names the slot, the staged image, the module and the lane (R373, R433). -/
def Lane.recordFits (l : Lane) (r : List Byte) (k : Nat) : Bool :=
  byteAt r 0 == k && byteAt r 1 == l.p 0xB105 && bit (byteAt r 2) l.id.idx &&
  (match l.boot.stagedLen with
   | some n => (r.drop 8).take 32 == sha256 (l.mramBytes (cfgBase l.stageArea) n)
   | none => false)

def Lane.hCfgGenBurn (m : Msg) (l : Lane) : Lane × Reply :=
  guarded l [(l.boot.otpWrite.isSome || l.boot.overlayLoad.isSome || l.moltOn, stBusy), (l.motorOn, stRefusedState)] (fun l =>
    match l.nextGen with
    | none => (l.event 0x110E l.boot.gen, .now stGenExhausted [])
    | some k =>
      guarded l [(!l.recordFits m.args k, stBadParam)] (fun l =>
        accept { l with boot.otpWrite := some (.gen k m.args (m.key 0xA1)) } (m.key 0xA1)))

def execCfgGenBurn (a : At) (m : Msg) (s : State) : Out := run true s a (fun l => l.serve 0xA1 m (Lane.hCfgGenBurn m))

/-- Bits that a write which failed its read-back has left programmed: a part of those wanted, each a free value (log entry 64). -/
def Lane.otpPartial (l : Lane) (off : Nat) (bs : List Byte) : Lane :=
  ({ l with fresh := l.fresh + bs.length }).otpProgram off (bs.mapIdx (fun i b => b &&& BitVec.ofNat 8 (Config.freeNat (l.fresh + i))))

/-- The OTP write in progress ends. -/
def Lane.genBurnEnd (l : Lane) (ok : Bool) : Lane :=
  if !l.fwRuns then l
  else match l.boot.otpWrite with
    | some (.gen k bytes key) =>
      let l := { l with boot.otpWrite := none }
      if ok then
        let l := ({ l.otpProgram (0x280 + 64 * k) bytes with pwr.burned := true }).event 0x110D k
        let l := if l.spareGens == 0 then l.event 0x110E l.boot.gen else l
        l.complete key stDone
      else (l.otpPartial (0x280 + 64 * k) bytes).complete key 0x0F
    | _ => l

def execCfgGenBurnEnd (a : At) (ok : Bool) (s : State) : Out := run true s a (fun l => l.genBurnEnd ok)

/-! ### CFG_OVERLAY_LOAD (R375) -/

/-- The entries of an overlay: each the prefix of Table CP-6 and its values (R364); none where one does not parse. The fuel bounds their number. -/
def overlayEntries : Nat → List Byte → Option (List PVal)
  | _, [] => some []
  | 0, _ => none
  | f + 1, b =>
    match prow (leAt b 0 2) with
    | none => none
    | some r =>
      let first := leAt b 2 2
      let count := leAt b 4 2
      let elem := leAt b 8 2
      let n := count * elem * r.ty.bytes
      let elemOk := if r.isVar then (if count == 1 then decide (1 ≤ elem) && decide (elem ≤ r.elems) else elem == r.elems) else elem == r.elems
      if r.cls == .ro || byteAt b 6 != r.ty.code || count == 0 || !elemOk || decide (r.n < first + count) || decide (b.length < 12 + n) then none
      else match overlayEntries f (b.drop (12 + n)) with
        | none => none
        | some rest => some ((writeVals r count elem (b.drop 12)).mapIdx (fun i v => ⟨r.id, first + i, v⟩) ++ rest)

/-- A whole overlay: generation, 3 bytes 0, image hash, entries, 64 bytes of signature under the configuration key; its CRC-32 (R376) is taken over all of these bytes, the signature with them (log entry 65). -/
def Lane.overlayEnd (l : Lane) (b : List Byte) : Lane × Reply :=
  let body := b.take (b.length - 64)
  let l := { l with boot.overlayLoad := none }
  if !(decide (100 ≤ b.length) && ecdsaOk (l.pubKey 1) (sha256 body) (b.drop (b.length - 64))) then (l, .now stRefusedAuth [])
  else if !(byteAt b 0 == l.boot.gen && (b.drop 4).take 32 == l.boot.hash) then refuse l stBadParam
  else match overlayEntries b.length (body.drop 36) with
    | none => refuse l stBadParam
    | some vs =>
      let x := l.commitSet (vs.foldl (fun a v => pinsert v a) [])
      if x.2.1 == stDone then
        let crc := crc32 b
        done (({ x.1 with boot.overlayCrc := some crc }).event 0x110F crc.toNat) (leBytes 2 vs.length ++ [0, 0])
      else (x.1, .now x.2.1 [])

def Lane.hCfgOverlayLoad (m : Msg) (l : Lane) : Lane × Reply :=
  guarded l [(l.mb.staged.isSome || l.boot.otpWrite.isSome || l.boot.load.isSome || l.moltOn, stBusy),
             (l.spareGens != 0 || l.boot.overlayCrc.isSome, stRefusedState),
             (!blockOk m l.boot.overlayLoad 0x80000, stBadParam)] (fun l =>
    let ld := blockNext m l.boot.overlayLoad
    if m.u8 2 == 0 then done { l with boot.overlayLoad := some ld } else l.overlayEnd ld.bytes)

def execCfgOverlayLoad (a : At) (m : Msg) (s : State) : Out := run true s a (fun l => l.serve 0xA2 m (Lane.hCfgOverlayLoad m))

def Lane.hCfgStatus (l : Lane) : Lane × Reply :=
  done l ([b8 l.boot.gen, b8 l.spareGens, b8 (b2n l.boot.overlayCrc.isSome), b8 l.boot.life] ++ leBytes 4 l.cfgCrc.toNat ++ l.boot.hash)

def execCfgStatus (a : At) (m : Msg) (s : State) : Out := run true s a (fun l => l.serve 0xA3 m Lane.hCfgStatus)

/-! ### Lifecycle (R430, R431) -/

/-- Areas that FIELD asks for: written, with a good CRC. An area of zeros fails its CRC. -/
def Lane.fieldReady (l : Lane) : Bool := l.identOk && l.pubOk && l.secOk && l.protOk && recGood (l.record 0)

def Lane.hLifecycleSet (m : Msg) (l : Lane) : Lane × Reply :=
  let tgt := m.u8 0
  guarded l [(!(l.boot.life == 1 && tgt == 2 || l.boot.life == 2 && tgt == 3) || l.driveOn || l.boot.otpWrite.isSome || l.boot.load.isSome || l.moltOn ||
              (tgt == 2 && !l.fieldReady), stRefusedState)] (fun l =>
    accept { l with boot.otpWrite := some (.life tgt (m.key 0xA4)) } (m.key 0xA4))

def execLifecycleSet (a : At) (m : Msg) (s : State) : Out := run true s a (fun l => l.serve 0xA4 m (Lane.hLifecycleSet m))

def Lane.lifeWriteEnd (l : Lane) (ok : Bool) : Lane :=
  if !l.fwRuns then l
  else match l.boot.otpWrite with
    | some (.life tgt key) =>
      let l := { l with boot.otpWrite := none }
      if ok then ((l.otpProgram (0x3F + tgt) [0xA5]).event 0x1116 tgt).complete key stDone
      else (l.otpPartial (0x3F + tgt) [0xA5]).complete key 0x0F
    | _ => l

def execLifecycleWriteEnd (a : At) (ok : Bool) (s : State) : Out := run true s a (fun l => l.lifeWriteEnd ok)

/-- Areas that the test access port provisions: offset and size (Table BT-3); 1 is the FACTORY marker, 7 record slot 0. -/
def tapArea (area : Nat) : Option (Nat × Nat) :=
  match area with
  | 0 => some (0x000, 64)
  | 1 => some (0x040, 1)
  | 2 => some (0x050, 8)
  | 3 => some (0x060, 144)
  | 4 => some (0x0F0, 112)
  | 5 => some (0x160, 288)
  | 6 => some (0x280, 64)
  | 7 => some (0x3C0, 80)
  | _ => none

/-- Provisioning through the test access port, in BLANK and FACTORY with the lane out of OFF and WAKING (R428, R431). -/
def Lane.tapProgram (l : Lane) (area : Nat) (bytes : List Byte) : Lane :=
  match tapArea area with
  | none => l
  | some (off, n) =>
    if !l.powered || 2 ≤ l.boot.life || l.boot.otpWrite.isSome then l
    else l.otpProgram off (bytes.take n)

def execTapOtpProgram (a : At) (area : Nat) (bytes : List Byte) (s : State) : Out := run (tapArea area).isSome s a (fun l => l.tapProgram area bytes)

/-! ### Molt (R436, R437) -/

def Lane.setSlot (l : Lane) (k : Nat) (f : FwSlot → FwSlot) : Lane := { l with boot.slot := l.boot.slot.modify k f }
def Lane.fwSlot (l : Lane) (k : Nat) : FwSlot := l.boot.slot.getD k {}

/-- Molt commands return BUSY during a burn or an overlay load. -/
def Lane.moltBusy (l : Lane) : Bool := l.burning || l.boot.overlayLoad.isSome

def Lane.hMoltBegin (m : Msg) (l : Lane) : Lane × Reply :=
  let k := m.u8 0
  guarded l [(l.moltBusy, stBusy), (l.moltOn || decide (k < 2) && (k == l.boot.running || (l.fwSlot k).state == 4), stRefusedState),
             (decide (2 ≤ k) || decide (0x200000 < m.u32 4), stBadParam)] (fun l =>
    done ({ l with boot.moltOpen := some k }.setSlot k (fun _ => { state := 1, length := m.u32 4 })))

def execMoltBegin (a : At) (m : Msg) (s : State) : Out := run true s a (fun l => l.serve 0xB0 m (Lane.hMoltBegin m))

def Lane.hMoltData (m : Msg) (l : Lane) : Lane × Reply :=
  guarded l [(l.moltBusy, stBusy), (!l.moltOn || l.boot.verify.isSome, stRefusedState),
             (decide ((l.fwSlot (l.boot.moltOpen.getD 0)).length < m.u32 0 + (m.args.length - 4)), stBadParam)] (fun l =>
    done (l.mramPut (fwBase (l.boot.moltOpen.getD 0) + m.u32 0) (m.args.drop 4)))

def execMoltData (a : At) (m : Msg) (s : State) : Out := run true s a (fun l => l.serve 0xB1 m (Lane.hMoltData m))

def Lane.hMoltVerify (m : Msg) (l : Lane) : Lane × Reply :=
  guarded l [(l.moltBusy, stBusy), (!l.moltOn || l.boot.verify.isSome, stRefusedState)] (fun l =>
    accept { l with boot.verify := some (m.key 0xB2, l.boot.moltOpen.getD 0) } (m.key 0xB2))

def execMoltVerify (a : At) (m : Msg) (s : State) : Out := run true s a (fun l => l.serve 0xB2 m (Lane.hMoltVerify m))

/-- The slot passes R435, or takes state 3; a slot worn meanwhile keeps state 4 (R395, R437). -/
def Lane.moltVerifyEnd (l : Lane) : Lane :=
  match l.boot.verify with
  | none => l
  | some (key, k) =>
    let l := { l with boot.verify := none, boot.moltOpen := none }
    let worn := (l.fwSlot k).state == 4
    if !worn && l.fwOk k then ((l.setSlot k (fun (x : FwSlot) => { x with state := 2 })).event 0x1113 k).complete key stDone
    else ((l.setSlot k (fun (x : FwSlot) => { x with state := if worn then 4 else 3 })).event 0x1114 k).complete key stRefusedAuth

def execMoltVerifyEnd (a : At) (s : State) : Out := run true s a (fun l => if l.fwRuns then l.moltVerifyEnd else l)

/-- The swap is committed at once for the next start; with [0] = 1 the lane withdraws at the end of the outer period and restarts (R437). -/
def Lane.hMoltSwap (m : Msg) (l : Lane) : Lane × Reply :=
  let k := 1 - l.boot.running
  let now := m.u8 0 == 1
  guarded l [(l.moltBusy, stBusy), ((l.fwSlot k).state != 2 || (now && (l.driveOn || l.entering || l.boot.swapNow || l.st == .limp || l.st == .failSilent)), stRefusedState), (decide (1 < m.u8 0), stBadParam)] (fun l =>
    let r := accept { l with boot.swap := some k, boot.swapNow := l.boot.swapNow || now } (m.key 0xB3)
    (r.1.complete (m.key 0xB3) stDone, r.2))

def execMoltSwap (a : At) (m : Msg) (s : State) : Out := run true s a (fun l => l.serve 0xB3 m (Lane.hMoltSwap m))

def Lane.hMoltStatus (l : Lane) : Lane × Reply :=
  done l ([b8 l.boot.running, b8 (l.fwSlot 0).state, b8 (l.fwSlot 1).state, 0] ++ leBytes 4 (l.imgVersion (fwBase 0)) ++ leBytes 4 (l.imgVersion (fwBase 1)))

def execMoltStatus (a : At) (m : Msg) (s : State) : Out := run true s a (fun l => l.serve 0xB4 m Lane.hMoltStatus)

/-- 30 s after hand-over without a driving state fail a trial (R438). -/
def Lane.trialTimeout (l : Lane) : Lane :=
  match l.boot.trialAt with
  | some t => if l.boot.trial && l.due (t + sec 30) then { l with boot.trialBad := true, boot.trialAt := none } else l
  | none => l

def execMoltTrialTimeout (a : At) (s : State) : Out := run true s a Lane.trialTimeout

end Sys2Proof.Machine
end

