-- ==== Sys2Proof/Machine/Bist.lean ====
section
/-! DEFINITION. The sections of the self-test and the commands that run them (R441 to R453, R489). -/

namespace Sys2Proof.Machine

/-! ### What a section covers -/

/-- Sections of a full start-up test (Table ST-1). -/
def startSections : List Nat := [1, 2, 3, 4, 5, 6, 9, 11, 14]

/-- Sections with an entry in the last column of Table ST-1. -/
def drivingSections : List Nat := [1, 2, 3, 4, 7, 8, 10, 13, 14]

/-- The amplifier is in no enabled slot's MOT_CS_MAP. -/
def Lane.ampIdle (l : Lane) (k : Nat) : Bool := (List.range 8).all (fun s => !(l.motor s).enabled || !(l.amps s).contains k)

/-- No enabled loop reads AIN k. -/
def Lane.ainIdle (l : Lane) (k : Nat) : Bool := (List.range 32).all (fun j => (l.loop j).st == .disabled || l.p 0x7106 j != 0x20 + k)

/-- No enabled slot takes its bus voltage from DRN d, and no enabled function its overvoltage comparators (R95, R228; log entry 66). -/
def Lane.drnIdle (l : Lane) (d : Nat) : Bool :=
  (List.range 8).all (fun s => !(l.motor s).enabled || l.busSrc s != 40 + d) && !(bit (l.p 0x4123) d && l.driveOn)

/-- Half-bridges that a section covers among those of no enabled slot. -/
def Lane.idleHbs (l : Lane) (s : Nat) : List Nat :=
  (List.range 16).filter (fun k => !l.inEnabledSlot k && (s != 8 || decide (0 < l.gatesOf k)))

/-- Expected count of a section on the resources that are idle (Table ST-7). -/
def Lane.idleExpect (l : Lane) (s : Nat) : Nat :=
  match s with
  | 1 | 13 | 14 => l.bistExpect s
  | 2 => 65536 * ((List.range 4).filter l.adcIdle).length
  | 3 => 8 * ((List.range 12).filter l.ampIdle).length
  | 4 => 2 * (((List.range 24).filter l.ainIdle).length + ((List.range 4).filter l.drnIdle).length)
  | 7 => 8 * (l.idleHbs 7).length
  | 8 => 4 * ((l.idleHbs 8).map l.gatesOf).sum
  | 10 => 128 * (l.idleHbs 10).length
  | _ => 0

/-- Half-bridges under test in a section: all of them in CHECK and SYNC for the sections of gates and channels, the idle ones in a driving state. -/
def Lane.sectionHbs (l : Lane) (s : Nat) : W16 :=
  if !(decide (7 ≤ s) && decide (s ≤ 11)) then 0
  else if l.st.driving then .ofNat 16 (((l.idleHbs s).map (2 ^ ·)).sum) else 0xFFFF

/-- The VGD comparators may be tested: no slot enabled and every gate off (R59). -/
def Lane.vgdTestable (l : Lane) : Bool := (List.range 8).all (fun k => !(l.motor k).enabled) && (List.range 16).all l.gatesOff

/-- Count of a section in a state that does not drive: section 7 without the two VGD comparators where they may not be tested (R59). -/
def Lane.fullExpect (l : Lane) (s : Nat) : Nat := if s == 7 && !l.vgdTestable then 128 else l.bistExpect s

/-! ### Running sections -/

/-- Starts the next section of a run. One that is left without an idle resource stays not run; after the last, the record of a host run follows, and that of the other kinds awaits its own event (R447, R453). -/
def Lane.bistGo (l : Lane) (r : BistRun) : List Nat → Lane
  | [] =>
    let r := { r with section_ := noSection, left := [], hbs := 0 }
    if r.kind == 3 then l.bistFinish r else { l with bist.run := some r }
  | s :: rest =>
    let full := l.bistExpect s
    let n := if l.st.driving then l.idleExpect s else l.fullExpect s
    if n == 0 then l.bistGo r rest
    else { l with bist.run := some { r with section_ := s, startAt := l.now, left := rest, expected := n, hbs := l.sectionHbs s,
                                            limit := bistMax s * n / full, tmax := fmax r.tmax l.hottest } }

/-- A new run over sections, in order, with the sections that its record has to show. -/
def Lane.bistBegin (l : Lane) (kind : Nat) (sections want : List Nat) (key : Option CmdKey) (first : BistEntry) : Lane :=
  let r : BistRun := { kind := kind, section_ := noSection, startAt := l.now, left := [], want := want, expected := 0, limit := 0, key := key,
                       results := (List.replicate 16 {}).set 0 first, tmax := l.hottest }
  l.bistGo r sections

/-- The outcome of a section (R446). -/
def sectionStatus (expected count : Nat) (sigOk : Bool) : Nat :=
  if !sigOk || decide (expected < count) then 2 else if count == expected then 1 else 3

/-- A section of the SRAM test: its last region is tested now, and its first failing row is spared (R389, R390). -/
def Lane.sramSection (l : Lane) (status : Nat) (detail : W32) : Lane :=
  let l := { l with mem.weevil := { l.mem.weevil with lastAt := l.now } }
  if status == 2 && detail.toNat < 8192 then l.spareRow detail.toNat else l

/-- Ends the running section with what it measured and starts the next (R446). -/
def Lane.sectionEnd (l : Lane) (r : BistRun) (sig : W32) (count : Nat) (sigOk : Bool) (detail : W32) : Lane :=
  let st := sectionStatus r.expected count sigOk
  let q := l.bistPut { r with tmax := fmax r.tmax l.hottest } sig count st detail
  let l := if r.section_ == 12 then q.1.sramSection st detail else q.1
  if l.st == .failSilent then l
  else
    let l := if r.kind == 2 && st != 1 && l.bist.bad.isNone then { l with bist.bad := some (r.section_, st) } else l
    l.bistGo q.2 r.left

/-- A section ends within its maximum time (R442). -/
def Lane.bistSectionEnd (l : Lane) (sig : W32) (count : Nat) (sigOk : Bool) (detail : W32) : Lane :=
  match l.bist.run with
  | some r => if r.section_ != noSection && decide (l.now ≤ r.startAt + r.limit) then l.sectionEnd r sig count sigOk detail else l
  | none => l

def execBistSectionEnd (a : At) (sig : W32) (count : Nat) (sigOk : Bool) (detail : W32) (s : State) : Out :=
  run true s a (fun l => l.bistSectionEnd sig count sigOk detail)

/-- The step timer ends a section at its maximum time (R442, R454). -/
def Lane.bistSectionTimeout (l : Lane) (sig : W32) (count : Nat) (sigOk : Bool) (detail : W32) : Lane :=
  match l.bist.run with
  | some r => if r.section_ != noSection && l.due (r.startAt + r.limit) then l.sectionEnd r sig count sigOk detail else l
  | none => l

def execBistSectionTimeout (a : At) (sig : W32) (count : Nat) (sigOk : Bool) (detail : W32) (s : State) : Out :=
  run true s a (fun l => l.bistSectionTimeout sig count sigOk detail)

/-! ### The shutdown test (R441) -/

/-- Step E3 begins; above BIST_TMAX no section runs. -/
def Lane.shutdownTest (l : Lane) : Lane :=
  let mask := (List.range 16).filter (fun s => s != 0 && bit (l.p 0xD100) s)
  if fgt l.hottest (fi (l.p 0xD101)) then l.bistBegin 1 [] (List.range 16) none {}
  else l.bistBegin 1 mask (List.range 16) none l.bist.cmp

/-- The shutdown test has ended and its record is written, before step E4 (R447). -/
def Lane.shutdownEnd (l : Lane) : Lane :=
  match l.bist.run with
  | some r => if r.kind == 1 && r.section_ == noSection then l.bistFinish r else l
  | none => l

def execShutdownTestEnd (a : At) (s : State) : Out := run true s a Lane.shutdownEnd

/-! ### Host-sequenced sections (R442, R453, R489) -/

/-- The state takes the sections (R453). -/
def Lane.bistMay (l : Lane) (ss : List Nat) : Bool :=
  match l.st with
  | .check | .sync => true
  | .shadow | .authority | .follower => ss.all (fun s => drivingSections.contains s && l.idleExpect s != 0)
  | _ => false

/-- A test runs: a section, GD_SELFTEST beside section 7, or the checks of a start. -/
def Lane.bistBusy (l : Lane) (ss : List Nat) : Bool := l.bist.run.isSome || l.pwr.step == .checks || (l.gd.test.isSome && ss.contains 7)

/-- A mask or number with section 0, a section above 15 or no section is refused with BAD_PARAM (R442, log entry 67). -/
def Lane.bistHost (l : Lane) (ss : List Nat) (key : CmdKey) : Lane × Reply :=
  let bad := ss.isEmpty || ss.contains 0 || ss.any (fun s => decide (16 ≤ s))
  guarded l [(l.bistBusy ss, stBusy), (l.entering || (!bad && !l.bistMay ss), stRefusedState), (bad, stBadParam)] (fun l =>
    let r := accept l key
    (r.1.bistBegin 3 ss ss (some key) {}, r.2))

def Lane.hBistRun (m : Msg) (l : Lane) : Lane × Reply := l.bistHost ((List.range 32).filter (bit (m.u32 0))) (m.key 0x90)

def execBistRun (a : At) (m : Msg) (s : State) : Out := run true s a (fun l => l.serve 0x90 m (Lane.hBistRun m))

def Lane.hBistSection (m : Msg) (l : Lane) : Lane × Reply := l.bistHost [m.u8 0] (m.key 0x91)

def execBistSection (a : At) (m : Msg) (s : State) : Out := run true s a (fun l => l.serve 0x91 m (Lane.hBistSection m))

/-- The newest record that holds a section. -/
def Lane.bistHolding (l : Lane) (s : Nat) : Option BistRec := newestOf (l.bistHeads.filter (fun r => (r.results.getD s {}).status != 0))

def Lane.hBistResult (m : Msg) (l : Lane) : Lane × Reply :=
  if 16 ≤ m.u8 0 then refuse l stBadParam
  else match l.bistHolding (m.u8 0) with
    | some r =>
      let e := r.results.getD (m.u8 0) {}
      done l (leBytes 4 e.sig.toNat ++ leBytes 4 e.count ++ [b8 e.status, 0, 0, 0] ++ leBytes 8 r.stamp)
    | none => done l (List.replicate 20 0)

def execBistResult (a : At) (m : Msg) (s : State) : Out := run true s a (fun l => l.serve 0x92 m (Lane.hBistResult m))

def Lane.hBistAbort (l : Lane) : Lane × Reply :=
  match l.bist.run with
  | some r => done (if r.kind == 3 then l.bistAbort else l)
  | none => done l

def execBistAbort (a : At) (m : Msg) (s : State) : Out := run true s a (fun l => l.serve 0x93 m Lane.hBistAbort)

end Sys2Proof.Machine
end

