-- ==== Sys2Proof/Machine/Restart.lean ====
section
/-! DEFINITION. What a lane keeps over a reset, the cold and the warm wake, and the steps up to the end of the clocks (R310, R319, R353, R395, R399 to R401, R409 to R414, Tables PS-6 and CX-5). -/

namespace Sys2Proof.Machine

/-! ### What survives -/

/-- A lane after a reset: the inputs as they stand, what MRAM, OTP and the AON domain hold, and every other state at its reset value (log entry 68). Latches that only a power cycle clears stay over a service reset (R51, R54, R225). -/
def Lane.fromScratch (l : Lane) (cycle : Bool) : Lane :=
  { id := l.id, now := l.now, fresh := l.fresh, st := l.st, laneOk := l.laneOk,
    gd := { hb := l.gd.hb.map (fun (h : HalfBridge) => ({ dpul := h.dpul, dpulOk := h.dpul, den := h.den, vds := if !cycle && h.vds == .untilPowerCycle then .untilPowerCycle else .clear, doubleDrive := !cycle && h.doubleDrive } : HalfBridge)),
            wear := l.gd.wear },
    pwm := { src := l.pwm.src.map (fun (x : TripSrc) => ({ pin := x.pin } : TripSrc)) },
    sns := { drn := l.sns.drn, ds := l.sns.ds.map (fun (d : DsIn) => ({ above := d.above, aboveRel := d.aboveRel } : DsIn)), trim := l.sns.trim,
             crackRef := l.sns.crackRef, crackRefT := l.sns.crackRefT, crackSet := l.sns.crackSet },
    pos := { hall := l.pos.hall.map (fun (h : Hall) => ({ code := h.code } : Hall)), enc := l.pos.enc.map (fun (e : Enc) => ({ a := e.a, b := e.b } : Enc)) },
    mot := { slot := l.mot.slot.map (fun (m : MotSlot) => ({ windFault := !cycle && m.windFault } : MotSlot)) },
    fn := { wheel := l.fn.wheel.map (fun (w : Wheel) => ({ xC := w.xC, xC0 := w.xC0, learned := w.learned } : Wheel)), sense := l.fn.sense,
            ch := l.fn.ch.map (fun (x : Chopper) => ({ faulty := !cycle && x.faulty } : Chopper)) },
    red := { wearLim := l.red.wearLim },
    net := { hwm := l.net.hwm, chan := l.net.chan.map (fun (c : Chan) => ({ epoch := c.epoch } : Chan)), dly := l.net.dly, dlyOld := true, offA := l.net.offA, yielded := l.net.yielded },
    ports := { can := l.ports.can.map (fun (c : Can) => ({ epoch := c.epoch, txStored := c.txStored, txFresh := c.txStored + 4096, fresh := c.fresh.map (fun (x : CanFresh) => { x with last := x.stored + 4095, count := 0 }) } : Can)) },
    mb := { failCount := l.mb.failCount, lockLen := l.mb.lockLen, lockUntil := l.mb.lockUntil, sp := { addr := l.dflt 0x1106 0 |>.headD 0 } },
    pwr := { pstate := l.pwr.pstate, wakeSrc := l.pwr.wakeSrc, pend := l.pwr.pend, waiting := l.pwr.waiting, mayfly := l.pwr.mayfly,
             regFail := l.pwr.regFail, reg := l.pwr.reg, oscFail := l.pwr.oscFail, saveFail := l.pwr.saveFail, refuser := l.pwr.refuser,
             wakes := l.pwr.wakes, counters := l.pwr.counters, aonOn := l.pwr.aonOn, rearmed := l.pwr.rearmed, vsup := l.pwr.vsup, hold := l.pwr.hold,
             goodAt := l.pwr.goodAt, chrysTurn := l.pwr.chrysTurn, boot := l.pwr.boot, burned := l.pwr.burned, aonEv := l.pwr.aonEv, e5At := l.pwr.e5At },
    mem := { mram := l.mem.mram, log := l.mem.log, logNext := l.mem.logNext, logRing := l.mem.logRing, logSectors := l.mem.logSectors, logSpare := l.mem.logSpare,
             logKept := l.mem.logKept, reserve := l.mem.reserve, reloc := l.mem.reloc, dead := l.mem.dead, worn0 := l.mem.worn0, worn1 := l.mem.worn1,
             dropped := l.mem.dropped, wear := l.mem.wear, repairs := l.mem.repairs, retired := l.mem.retired, cap := !l.mem.retired.isEmpty,
             fails := l.mem.fails, writes := l.mem.writes, spares := l.mem.spares },
    boot := { otp := l.boot.otp, bootFails := l.boot.bootFails, chosen := l.boot.chosen, prev := l.boot.prev, trial := l.boot.trial, trialBad := l.boot.trialBad,
              swap := l.boot.swap, slot := l.boot.slot, cfgArea := l.boot.cfgArea, stagedLen := l.boot.stagedLen },
    bist := { ringAt := l.bist.ringAt, latch := l.bist.latch, cleared := l.bist.cleared } }

/-- The mailbox transports and links of a lane that goes without power: sessions closed, links down, the controller OFFLINE (R353, Table PS-4). -/
def Lane.portsDown (l : Lane) : Lane :=
  { l.closeAll with link := l.link.map (fun (k : Link) => { k with up := false, seqRx := none, urgent := [], bulk := [] }),
                    net := { l.net with st := .offline, acting := false, keeper := false, known := false, link0 := false, link1 := false, retR := [], grd := [{}, {}], tap := [{}, {}], given := none, dlyOld := true },
                    red := { l.red with auth := 0, peer := l.red.peer.map (fun (v : PeerView) => { v with known := false }) } }

/-- The lane is off: lane state OFF, the cell PASSIVE, nothing driven (R219, Table PS-2). -/
def Lane.goOff (l : Lane) (pstate : Nat) : Lane :=
  let l := { l with pwr.pstate := pstate, pwr.step := .idle, pwr.entry := none, pwr.runKey := none, pwr.sagAt := none, mb.accepted := [], mb.deferred := [] }
  ((l.portsDown).setSt .off).cellFollow

/-! ### Wakes (R410, R411) -/

/-- The regulator step begins; the hold-up boost starts with it (R411). -/
def Lane.regStart (l : Lane) : Lane :=
  { l with pwr.step := .regulators, pwr.stepAt := l.now, pwr.retries := 0, pwr.regAt := some l.now, pwr.holdTold := false }

/-- Below 9.0 V the regulator step waits (R399). -/
def Lane.wakeBegin (l : Lane) : Lane :=
  let l := { l.setSt .waking with pwr.pstate := 5, pwr.pend := none, boot.pu := { l.boot.pu with lock := false } }
  if 9000 ≤ l.pwr.vsup then l.regStart else { l with pwr.step := .supply, pwr.stepAt := l.now }

/-- A cold wake from the regulator step (R411): the start count rises (R449). -/
def Lane.coldStart (l : Lane) (cycle : Bool) : Lane :=
  let l := l.fromScratch cycle
  { l with pwr.boot := l.pwr.boot + 1, pwr.burned := false }.wakeBegin.cellFollow

/-- The AON domain notes a wake (Table PS-7). -/
def Lane.noteWake (l : Lane) (src : Nat) : Lane := { l with pwr.wakes := l.pwr.wakes + 1, pwr.wakeSrc := src }

def Lane.coldWake (l : Lane) (src : Nat) : Lane := (l.noteWake src).coldStart true

/-- A warm wake from STANDBY or SLEEP, which becomes cold for a pending Molt swap or a generation burned since (R411). -/
def Lane.warmWake (l : Lane) (src : Nat) : Lane :=
  if l.boot.swap.isSome || l.pwr.burned then l.coldWake src
  else
    let l := (l.noteWake src).releaseIds [0x1106]
    { l with pwr.warm := true, pwr.fromSleep := l.pwr.pstate == 3, pwr.backup := false, mb.sp := { l.mb.sp with addr := l.p 0x1106 } }.wakeBegin

/-- A lane is restarted through WAKING without a wake event (R254, R424, R437). -/
def Lane.restart (l : Lane) : Lane := ({ l.portsDown with pwr.pend := none }).coldStart false

/-! ### Clocks (R400, R401, R412, R413) -/

/-- The clocks run: BOOT, in LIMP the state stays (R401); a cold start reads the OTP, a warm wake tests the comparator. -/
def Lane.clocksUp (l : Lane) : Lane :=
  let l := { l with pwr.pstate := 0, pwr.step := if l.pwr.warm then .comparator else .otp, pwr.stepAt := l.now }
  if l.st == .limp then l else l.setSt .boot

/-- A crystal (0) or PLL (1) that fails twice: OSC_FAIL, and LIMP on the backup PLL, or FAILSILENT where NOLIMP asks for it (R413, Table BT-4). -/
def Lane.oscDead (l : Lane) (k : Nat) : Lane :=
  let l := { l with pwr.oscFail := true, pwr.backup := true }.event 0xC102 k
  if bit l.bootOpt 3 then { l with pwr.step := .idle, pwr.pstate := 0 }.failSilent 1 else l.enterLimp.clocksUp

/-- A wake step runs in WAKING. -/
def Lane.atStep (l : Lane) (st : WakeStep) : Bool := l.st == .waking && l.pwr.step == st

def Lane.regReady (l : Lane) : Lane :=
  if l.atStep .regulators then { l with pwr.step := .crystal, pwr.stepAt := l.now, pwr.retries := if l.pwr.warm then 0 else 1 } else l

def execRegulatorsReady (a : At) (s : State) : Out := run true s a Lane.regReady

/-- A regulator that is not ready in time: every regulator off and a retry, or the lane stays halted in WAKING (R412). -/
def Lane.regTimeout (l : Lane) (reg : Nat) : Lane :=
  if !l.atStep .regulators || !l.due (l.pwr.stepAt + (if l.pwr.warm then us 500 else ms 3)) then l
  else if l.pwr.retries < 3 then { l with pwr.step := .regWait, pwr.stepAt := l.now, pwr.retries := l.pwr.retries + 1 }.event 0xC103 1
  else
    let l := { l with pwr.step := .halted }
    let l := if l.pwr.regFail then l else { l with pwr.regFail := true, pwr.reg := reg }
    l.aonEvent 0xC101 reg

def execRegulatorTimeout (a : At) (reg : Nat) (s : State) : Out := run (reg < 4) s a (fun l => l.regTimeout reg)

def Lane.regRetry (l : Lane) : Lane :=
  if l.atStep .regWait && l.due (l.pwr.stepAt + ms 10) then { l with pwr.step := .regulators, pwr.stepAt := l.now } else l

def execRegulatorRetry (a : At) (s : State) : Out := run true s a Lane.regRetry

def Lane.crystalReady (l : Lane) : Lane :=
  if l.atStep .crystal then { l with pwr.step := .pll, pwr.stepAt := l.now, pwr.retries := 0 } else l

def execCrystalReady (a : At) (s : State) : Out := run true s a Lane.crystalReady

/-- A warm wake checks the amplitude for 0.1 ms and then starts the crystal in full; a full start is retried once (Table PS-6, R413). -/
def Lane.crystalTimeout (l : Lane) : Lane :=
  let n := l.pwr.retries
  if !l.atStep .crystal || !l.due (l.pwr.stepAt + (if n == 0 then us 100 else ms 5)) then l
  else
    let m := { l with pwr.stepAt := l.now, pwr.retries := n + 1 }
    if n == 0 then m else if n == 1 then m.event 0xC103 2 else l.oscDead 0

def execCrystalTimeout (a : At) (s : State) : Out := run true s a Lane.crystalTimeout

def execPllLock (a : At) (s : State) : Out := run true s a (fun l => if l.atStep .pll then l.clocksUp else l)

def Lane.pllTimeout (l : Lane) : Lane :=
  if !l.atStep .pll || !l.due (l.pwr.stepAt + ms 1) then l
  else if l.pwr.retries == 0 then { l with pwr.stepAt := l.now, pwr.retries := 1 }.event 0xC103 3
  else l.oscDead 1

def execPllTimeout (a : At) (s : State) : Out := run true s a Lane.pllTimeout

/-- The clock monitor declares the crystal or the PLL failed (R400): in a state that R23 names the lane enters LIMP on the backup PLL; in SAVE the save goes on (Table PS-11). -/
def Lane.clockFail (l : Lane) (pll : Bool) : Lane :=
  let told := { l with pwr.oscFail := true, pwr.backup := true }.event 0xC102 (b2n pll)
  if l.pwr.backup then l
  else match l.st with
    | .boot | .check | .sync | .shadow | .authority | .follower | .island => told.enterLimp
    | .save => told
    | _ => l

def execClockFail (a : At) (pll : Bool) (s : State) : Out := run true s a (fun l => l.clockFail pll)

/-! ### Hold-up (R415) -/

/-- 200 ms after the regulator step, with HOLD as it stands. -/
def Lane.holdCheck (l : Lane) (mv : Nat) : Lane :=
  match l.pwr.regAt with
  | some t =>
    if l.pwr.holdTold || !l.due (t + ms 200) || l.st == .off then l
    else
      let l := { l with pwr.holdTold := true, pwr.hold := mv }
      if mv < 28500 then l.event 0xC107 mv else l
  | none => l

def execHoldupChargeTimeout (a : At) (mv : Nat) (s : State) : Out := run true s a (fun l => l.holdCheck mv)

end Sys2Proof.Machine
end

