-- ==== Sys2Proof/Machine/Power.lean ====
section
/-! DEFINITION. Power-state requests and entries, wake events, IDLE, the supply sag and SAVE (chapter Power states, clocks and wake). -/

namespace Sys2Proof.Machine

/-! ### The end of an entry before its commit point (R406, R408, R409) -/

/-- Steps E2's withdrawal: sessions close, the lane goes to CHECK, a lane in LIMP stays (Table PS-4, R437). -/
def Lane.stepOut (l : Lane) : Lane :=
  let l := l.closeAll
  if l.st == .limp then l
  else
    let l := { l.stepDown with red.dup := false, red.claim := none, red.split := none }
    ((l.setSt .check).withdraw 3 0).takeSafeAll.cellFollow

/-- Step E3 applies to a target (Table PS-4). -/
def Lane.needsTest (l : Lane) (e : PwrEntry) : Bool := decide (3 ≤ e.target) && l.p 0xC100 == 1 && !e.tested

/-- The step after E2: E3, or E4 (Table PS-4). -/
def Lane.entryTest (l : Lane) (e : PwrEntry) : Lane :=
  if l.needsTest e then { l with pwr.entry := some { e with step := .test, startAt := l.now } }.shutdownTest
  else { l with pwr.entry := some { e with step := .persist, startAt := l.now } }

/-- Refuser WAKE, SUPERSEDED by IDLE or another ends an entry: its test as aborted, its command, and the way back through SYNC; an entry that continued behind a committed one ends by a warm wake (R408, R409). An entry not yet withdrawn withdraws first (log entry 69). -/
def Lane.entryAbort (l : Lane) (code src : Nat) : Lane :=
  match l.pwr.entry with
  | none => l
  | some e =>
    let l := if e.step == .test then l.bistStop else l
    let l := { l with pwr.entry := none }.refused code src true
    let l := l.completeOpt e.key (if code == 6 then stAbortedSuperseded else stRefusedState)
    if e.behind then l.warmWake src
    else (if e.step == .withdraw then l.stepOut else l).enterSync

/-! ### Wake events (R409, R410) -/

/-- PWR_WAKE_EN arms a source (Table PS-5). -/
def Lane.wakeArmed (l : Lane) (src : Nat) : Bool :=
  match src with
  | 2 | 3 => bit (l.p 0xC101) 0
  | 4 | 5 => bit (l.p 0xC101) 1
  | 6 => bit (l.p 0xC101) 2
  | _ => true

/-- Latches the first wake event for replay (Table PS-11). -/
def Lane.wakeLatch (l : Lane) (src : Nat) : Lane := if l.pwr.pend.isSome then l else { l with pwr.pend := some src }

/-- A wake event: it aborts an entry before E5, is latched from E5 on and in SAVE, and wakes a sleeping lane. In compatibility the detectors are off through E6 (R409). -/
def Lane.wake (l : Lane) (src : Nat) : Lane :=
  if !l.wakeArmed src then l
  else if l.st == .save then l.wakeLatch src
  else match l.pwr.entry with
    | some e =>
      if e.step != .powerDown then l.entryAbort 5 src
      else if l.pwr.mayfly && src != 7 then l
      else l.wakeLatch src
    | none => if l.st == .off && (l.pwr.pstate == 2 || l.pwr.pstate == 3) then l.warmWake src else l

/-- Sources that an event from outside can have: codes 2 to 6 (Table PS-5). -/
def execWakeEvent (a : At) (src : Nat) (s : State) : Out := run (2 ≤ src && src ≤ 6) s a (fun l => l.wake src)

/-- The detectors of the own ports are on: asleep, and from E5 on in the native behaviour (R328, R409). -/
def Lane.detectorsOn (l : Lane) : Bool :=
  match l.pwr.entry with
  | some e => e.step == .powerDown && !l.pwr.mayfly
  | none => l.st == .off && (l.pwr.pstate == 2 || l.pwr.pstate == 3)

/-- A recognised pattern is forwarded on the other port, unless one was recognised there within 5 ms, and wakes the lane (R328). -/
def Lane.cicada (l : Lane) (port : Nat) : Lane :=
  if !l.detectorsOn then l
  else
    let other := 1 - port
    let recent_ := match l.ports.cicAt.getD other none with
      | some t => decide (l.now < t + ms 5)
      | none => false
    let l := { l with ports.cicAt := l.ports.cicAt.set port (some l.now), ports.cicTx := if l.ports.fwd && !recent_ then l.ports.cicTx ++ [(other, l.now)] else l.ports.cicTx }
    l.wake (4 + port)

def execCicadaRecognised (a : At) (port : Nat) (s : State) : Out := run (port < 2) s a (fun l => l.cicada port)

/-- Link activity for 1 ms; in compatibility the 1 ms counts from the end of the window (R328, R409). -/
def Lane.linkActivity (l : Lane) (port : Nat) : Lane :=
  if !l.detectorsOn || (l.pwr.mayfly && !l.due (l.pwr.stepAt + ms 1)) then l else l.wake (2 + port)

def execLinkActivityWake (a : At) (port : Nat) (s : State) : Out := run (port < 2) s a (fun l => l.linkActivity port)

/-- A pointer other than a read of AON_STATUS on the service port of a sleeping lane; in WAKING and BOOT the wake already runs (R345). -/
def Lane.spWake (l : Lane) (ptr : Nat) (read : Bool) : Lane :=
  if (ptr == 4 && read) || !l.detectorsOn then l else l.wake 6

def execServicePortWake (a : At) (ptr : Nat) (read : Bool) (s : State) : Out := run (ptr < 256) s a (fun l => l.spWake ptr read)

/-! ### PWR_REQUEST (R406 to R408) -/

/-- A newer request replaces the pending one before commit (R408). -/
def Lane.supersede (l : Lane) (e : PwrEntry) (target : Nat) (key : CmdKey) : Lane :=
  let l := l.refused 6 0 true |>.completeOpt e.key stAbortedSuperseded
  let e' : PwrEntry := { e with target := target, key := some key }
  let l := { l with pwr.entry := some e' }
  match e.step with
  | .test => if l.p 0xC100 == 1 && decide (3 ≤ target) then l else l.bistStop
  | .persist => l.entryTest e'
  | _ => l

def Lane.hPwrRequest (m : Msg) (l : Lane) : Lane × Reply :=
  let t := m.u8 0
  let key := m.key 0x80
  let refusedNow (l : Lane) (f : Lane → Lane × Reply) : Lane × Reply :=
    match l.refuserOf t with
    | some c => (l.refused c 0 false, .now stRefusedState [])
    | none => f l
  if 4 < t then refuse l stBadParam
  else match l.pwr.entry with
    | some e =>
      if e.step == .powerDown then
        (if t == 0 then l.wakeLatch 7 else { l with pwr.waiting := some t }, .now stAccepted [])
      else if t == 0 then
        let r := accept { l with pwr.runKey := some key } key
        (r.1.entryAbort 5 7, r.2)
      else refusedNow l (fun l =>
        let r := accept l key
        if t == 1 then ((r.1.entryAbort 6 0).requestNew 1 (some key), r.2) else (r.1.supersede e t key, r.2))
    | none =>
      if t == 0 then done l.idleToRun
      else if t == 1 && l.pwr.pstate == 1 then done l
      else refusedNow l (fun l =>
        let r := accept l key
        (r.1.requestNew t (some key), r.2))

def execPwrRequest (a : At) (m : Msg) (s : State) : Out := run true s a (fun l => l.serve 0x80 m (Lane.hPwrRequest m))

def Lane.hPwrStatus (l : Lane) : Lane × Reply := done l (leBytes 4 l.aonStatus ++ l.pwr.counters.flatMap (fun c => leBytes 4 c.toNat))

def execPwrStatus (a : At) (m : Msg) (s : State) : Out := run true s a (fun l => l.serve 0x81 m Lane.hPwrStatus)

/-! ### Entry steps (Table PS-4) -/

/-- E2 at the end of the outer period; a Molt swap that takes effect at once then restarts the lane (R437), but from FAILSILENT and LIMP, which it does not leave that way (Table LN-4). -/
def Lane.entryWithdraw (l : Lane) : Lane :=
  if !l.fwRuns || l.pwm.halted then l
  else if l.boot.swapNow then (if l.st == .failSilent || l.st == .limp then { l with boot.swapNow := false } else l.stepOut.restart)
  else match l.pwr.entry with
    | some e => if e.step == .withdraw then l.stepOut.entryTest { e with outAt := if l.mayInsert then some l.now else none } else l
    | none => l

def execPwrEntryWithdraw (a : At) (s : State) : Out := run true s a Lane.entryWithdraw

/-- The high-water marks of Icbex and CAN go to MRAM, at shutdown and on entry to SAVE (R310, R319). -/
def Lane.marksStore (l : Lane) : Lane :=
  { l with net.hwm := if l.net.known then max l.net.hwm l.net.cycle.toNat else l.net.hwm,
           ports.can := l.ports.can.map (fun (c : Can) => { c with txStored := c.txFresh, fresh := c.fresh.map (fun (x : CanFresh) => { x with stored := x.last }) }) }

/-- E4: high-water marks, the fault-log buffer and what a sleep keeps (R310, R319). -/
def Lane.persist (l : Lane) : Lane :=
  let l := ((l.releaseIds [0xB170]).logFlushAll).marksStore
  { l with ports.fwd := l.p 0xB170 == 1 }

/-- E4 for SLEEP: the SHA-256 of the verified image goes to the retention store (Table PS-4), and with it the CRC-32 that the wake compares (Table PS-6; log entry 161). -/
def Lane.retain (l : Lane) (target : Nat) : Lane :=
  { l with mem.retSha := if target == 3 then l.fwSha else [], mem.retCrc := if target == 3 then some l.fwCrc else none }

/-- E5: the commit flag, and the end of the command unless the entry continues behind a committed one (R408, R449). -/
def Lane.entryCommit (l : Lane) (e : PwrEntry) : Lane :=
  let l := { l with pwr.pstate := 4, pwr.e5At := some l.now, pwr.entry := some { e with step := .powerDown, startAt := l.now, key := none } }
  if e.behind then l else l.completeOpt e.key stDone

/-- The persistent state is written; an entry that retains SRAM aborts a Weevil pass (R393); a debug halt pauses the entry before E5 (Table PS-11). -/
def Lane.entryPersistEnd (l : Lane) : Lane :=
  match l.pwr.entry with
  | some e => if e.step == .persist && !l.pwm.halted && l.bist.run.isNone then ((if e.target == 2 then l.weevilAbort else l).persist.retain e.target).entryCommit e else l
  | none => l

def execPwrEntryPersistEnd (a : At) (s : State) : Out := run true s a Lane.entryPersistEnd

/-- The AON domain goes without power: its latches are lost (Table PS-7, R381, R384, R449). -/
def Lane.aonDown (l : Lane) : Lane :=
  { l with pwr.aonOn := false, pwr.wakeSrc := 1, pwr.pend := none, pwr.waiting := none, pwr.regFail := false, pwr.reg := 0, pwr.oscFail := false, pwr.saveFail := false,
           pwr.refuser := 15, pwr.wakes := 0, pwr.aonEv := [], pwr.e5At := none, mem.lsLatch := none, mem.retSha := [], mem.retCrc := none, bist.latch := none }

/-- OFF by request: every regulator and the AON domain off; the power-on detector asks for a fall below 4.0 V (R405). -/
def Lane.offByRequest (l : Lane) : Lane := ({ l.goOff 7 with pwr.rearmed := false }).aonDown

/-- What stays powered in a target: STANDBY keeps the SRAM, SLEEP does not (Table PS-2). -/
def Lane.sleepIn (l : Lane) (target : Nat) : Lane :=
  if target == 4 then l.offByRequest
  else
    let l := { l.goOff target with pwr.stepAt := l.now, pwr.regAt := none }
    if target == 3 then { l with mem.sram := [], mem.partials := [], mem.weevil := { l.mem.weevil with phase := .idle, again := false, paused := false } } else l

/-- A wake from where an entry has ended: warm out of STANDBY and SLEEP, cold out of OFF (R409). -/
def Lane.wakeFrom (l : Lane) (target src : Nat) : Lane :=
  if target == 4 then (l.goOff 7).coldWake src else ({ l.sleepIn target with pwr.pend := none }).warmWake src

/-- E6 ends: a latched wake is replayed and wins; a deeper waiting request continues in CHECK, a shallower one wakes the lane (R408, R409). -/
def Lane.powerDownEnd (l : Lane) : Lane :=
  match l.pwr.entry with
  | none => l
  | some e =>
    if e.step != .powerDown then l
    else
      let t := e.target
      let l := { l with pwr.entry := none }
      match l.pwr.pend, l.pwr.waiting with
      | some src, _ => ({ l with pwr.waiting := none }.wakeFrom t src).event 0xC10A src
      | none, some w =>
        if t < w then { l.releaseIds [0xC100, 0xC101, 0xD100, 0xD101] with pwr.waiting := none, pwr.pstate := t, pwr.fromSleep := t == 3 }.entryTest { target := w, step := .persist, key := none, startAt := l.now, tested := e.tested, behind := true }
        else if w == t then { l with pwr.waiting := none }.sleepIn t
        else l.wakeFrom t 7
      | none, none => l.sleepIn t

def execPwrPowerDownEnd (a : At) (s : State) : Out := run true s a Lane.powerDownEnd

/-! ### IDLE (R404) -/

/-- An event in IDLE ungates the processor pair for 50 µs. -/
def execIdleWakeEvent (a : At) (s : State) : Out := run true s a (fun l => if l.pwr.pstate == 1 then { l with pwr.gateAt := some (l.now + us 50) } else l)

def execIdleGateTimeout (a : At) (s : State) : Out := run true s a (fun l => if l.pwr.pstate == 1 && l.dueAt l.pwr.gateAt then { l with pwr.gateAt := none } else l)

/-! ### The supply (R399, R405, R412, R414) -/

/-- VSUP has risen to a level: the AON domain starts above 5.5 V, the regulator step of a wake at 9.0 V; a lane that is off with the AON domain powered wakes (Table PS-5). -/
def Lane.powerOn (l : Lane) (mv : Nat) : Lane :=
  let l := { l with pwr.vsup := mv }
  if !l.pwr.aonOn then
    (if l.pwr.rearmed && decide (5500 < mv) && l.st == .off then { l with pwr.aonOn := true, pwr.rearmed := false }.coldStart true else l)
  else if l.pwr.step == .supply && decide (9000 ≤ mv) then l.regStart
  else if l.st == .off && l.pwr.pstate == 7 && l.pwr.goodAt.isNone && decide (5500 < mv) then l.coldWake 1
  else l

def execPowerOn (a : At) (mv : Nat) (s : State) : Out := run true s a (fun l => l.powerOn mv)

/-- VSUP falls until the AON domain loses power: the lane is off, its latches are lost, the power-on detector is rearmed (R405, R412). -/
def Lane.aonLost (l : Lane) : Lane :=
  let l := ((l.portsDown).setSt .off).fromScratch true
  { l.cellFollow.aonDown with pwr.pstate := 5, pwr.vsup := 0, pwr.hold := 0, pwr.goodAt := none, pwr.rearmed := true }

def execAonPowerLoss (a : At) (s : State) : Out := run true s a Lane.aonLost

/-! ### Supply sag and SAVE (R416 to R418) -/

/-- SAVE applies in RUN and IDLE outside FAILSILENT, OFF and WAKING. -/
def Lane.maySave (l : Lane) : Bool :=
  decide (l.pwr.pstate ≤ 1) && l.st != .failSilent && l.st != .off && l.st != .waking && l.st != .save

/-- Below 7.0 V the hold-up switch closes. -/
def Lane.supplySag (l : Lane) (mv : Nat) : Lane :=
  let l := { l with pwr.vsup := mv, pwr.goodAt := if mv ≤ 7500 then none else l.pwr.goodAt }
  if mv < 7000 && l.maySave && l.pwr.sagAt.isNone then { l with pwr.sagAt := some l.now } else l

def execSupplySag (a : At) (mv : Nat) (s : State) : Out := run true s a (fun l => l.supplySag mv)

/-- Above 7.5 V: within the save filter the lane returns to VSUP; in SAVE the 1 ms of R416 begins. The filter is at most 22 µs (Table PS-8). -/
def Lane.supplyRecover (l : Lane) (mv : Nat) : Lane :=
  let l := { l with pwr.vsup := mv }
  if mv ≤ 7500 then { l with pwr.goodAt := none }
  else
    let l := { l with pwr.goodAt := some (l.pwr.goodAt.getD l.now) }
    match l.pwr.sagAt with
    | some t => if l.st != .save && decide (l.now < t + us 22) then { l with pwr.sagAt := none, pwr.goodAt := none } else l
    | none => l

def execSupplyRecover (a : At) (mv : Nat) (s : State) : Out := run true s a (fun l => l.supplyRecover mv)

/-- Cell mode code of Table PS-10. -/
def Cell.code : Cell → Nat
  | .passive => 0 | .hold => 1 | .apply => 2

/-- VDS byte of a half-bridge (Table PS-10). -/
def Lane.vdsByte (l : Lane) (k : Nat) : Nat :=
  let h := l.hb k
  let n := min 15 (h.autoClears.filter (fun t => decide (l.now < t + sec 1))).length
  match h.vds with
  | .untilPowerCycle => 128 + n
  | .latched _ => 64 + n
  | .clear => n

/-- The Chrysalis image of a lane as it stands before SAVE (Table PS-10). -/
def Lane.chrysNow (l : Lane) : Chrysalis :=
  { magic := true, stamp := l.now, cycle := l.cyc, st := l.st, lane := l.id.code, wasAuth := l.st == .authority,
    cycleOk := l.net.known || l.net.given.isSome, part := l.net.part, cfg := l.cfgCrc, boot := l.pwr.boot,
    mirror := if l.st == .authority then l.mirMap.map l.mirGet else l.red.mirror,
    fnstat := (List.range 5).map (fun f => BitVec.ofNat 32 (l.fnStatus f)), cell := l.fn.cell.code,
    trips := (List.range 14).map (fun n => (l.src n).st.code), vds := (List.range 16).map l.vdsByte, log := l.mem.logBuf.take 987 }

/-- The running self-test ends with its section aborted and no record (Table ST-5). -/
def Lane.bistDrop (l : Lane) : Lane :=
  match l.bist.run with
  | some r =>
    let l := { l with bist.run := none }
    if r.section_ == noSection then l else l.event 0xD104 r.section_
  | none => l

/-- The save filter expires: SAVE (R416, Table PS-9). An entry before its commit point ends under refuser SUPPLY, without CMD_COMPLETE (Table PS-11). -/
def Lane.saveEntry (l : Lane) (holdMv : Nat) : Lane :=
  match l.pwr.sagAt with
  | none => l
  | some t =>
    if !l.due (t + us 18) || !l.maySave then l
    else
      let img := if l.p 0xC102 == 1 then some l.chrysNow else none
      let was := l.st
      let l := if l.pwr.entry.isSome then { l with pwr.entry := none }.refused 7 0 true else l
      let l := l.bistDrop.weevilAbort.aonEvent 0xC104 holdMv
      let l := { l.stepDown.testsGone.closeAll with red.dup := false, red.claim := none, red.split := none, mb.accepted := [], mb.deferred := [], boot.wdAt := none,
                                                    pwr.hold := holdMv, pwr.pstate := 6, pwr.step := .idle, pwr.runKey := none, pwr.save := some l.now, pwr.saveFrom := was, pwr.saveImg := img }
      ((l.marksStore.setSt .save).withdraw 10 6).takeSafeAll.cellFollow

def execSaveEntry (a : At) (holdMv : Nat) (s : State) : Out := run true s a (fun l => l.saveEntry holdMv)

/-- VSUP has stayed above 7.5 V for 1 ms. -/
def Lane.supplyBack (l : Lane) : Bool := match l.pwr.goodAt with | some t => l.due (t + ms 1) | none => false

/-- A wake with source 8; a wake event latched during SAVE is replayed under its own source (Table PS-11). -/
def Lane.wakeSaved (l : Lane) : Lane :=
  let p := l.pwr.pend
  let l := (l.portsDown.noteWake 8).coldStart false
  match p with
  | some src => l.event 0xC10A src
  | none => l

/-- The lane leaves SAVE: WAKING where the supply is back, else OFF with the AON domain powered (Table PS-9). -/
def Lane.saveLeave (l : Lane) : Lane := if l.supplyBack then l.wakeSaved else l.goOff 7

/-- The image is written and read back (R418). -/
def Lane.saveDone (l : Lane) : Lane :=
  match l.st, l.pwr.saveImg, l.pwr.save with
  | .save, some c, some t =>
    let l := l.aonEvent 0xC105 ((l.now - t) / us 1)
    { l.chrysStore c with pwr.saveImg := none, pwr.save := none, mem.logBuf := l.mem.logBuf.drop 987 }.saveLeave
  | _, _, _ => l

def execSaveImageDone (a : At) (s : State) : Out := run true s a Lane.saveDone

/-- HOLD reaches 8 V, or 4 ms pass: the copy holds the bytes written, without its CRC, and the lane goes OFF (R417); without an image the lane goes OFF at 8 V (R416). -/
def Lane.saveStop (l : Lane) (bytes : Nat) : Lane :=
  if l.st != .save then l
  else match l.pwr.saveImg with
    | some c =>
      let l := { l.chrysWrite c bytes with pwr.saveFail := true, pwr.saveImg := none, pwr.save := none }.aonEvent 0xC106 bytes
      l.goOff 7
    | none => { l with pwr.save := none }.goOff 7

def execSaveStop (a : At) (bytes : Nat) (s : State) : Out := run true s a (fun l => l.saveStop bytes)

/-- VSUP above 7.5 V for 1 ms in SAVE without an image, or after the image of a SAVE in which it came back (R416, Table PS-9). -/
def Lane.saveReturn (l : Lane) : Lane :=
  if l.supplyBack && ((l.st == .save && l.pwr.saveImg.isNone) || (l.st == .off && l.pwr.pstate == 7 && l.pwr.aonOn)) then l.wakeSaved else l

def execSaveSupplyReturn (a : At) (s : State) : Out := run true s a Lane.saveReturn

end Sys2Proof.Machine
end

