-- ==== Sys2Proof/Machine/Boot.lean ====
section
/-! DEFINITION. The cold start from the OTP to SYNC, the end of a warm wake, the boot watchdog, the lane reset and the debug halt (chapter Boot, OTP and protection; R85, R86, R254, R383 to R385, R411, R425, R426, R449, R450). -/

namespace Sys2Proof.Machine

/-- A boot step runs: in BOOT, or in LIMP where the state stays (R401). -/
def Lane.bootAt (l : Lane) (st : WakeStep) : Bool := (l.st == .boot || l.st == .limp) && l.pwr.step == st

def Lane.bootGo (l : Lane) (st : WakeStep) : Lane := { l with pwr.step := st, pwr.stepAt := l.now }

/-- The start ends in FAILSILENT. -/
def Lane.bootFail (l : Lane) : Lane := { l with pwr.step := .idle }.failSilent 1

/-! ### Step 4: OTP (R428 to R430) -/

/-- SRAM rows that no spare row serves any more are of no concern here: factory and field repairs take their spare rows (R389). -/
def Lane.sparesLeft (l : Lane) : Nat := 32 - l.repairRows.length - l.mem.repairs.length

def Lane.otpRead (l : Lane) : Lane :=
  if !l.bootAt .otp then l
  else match l.lifeOf with
    | none => { l with boot.stopped := true, pwr.step := .idle }
    | some 0 => { l with boot.life := 0, pwr.step := .idle }
    | some k =>
      let l := { l with boot.life := k, pwr.mayfly := bit l.bootOpt 1, mem.spares := l.sparesLeft }
      if l.identOk && l.protOk && l.pubOk && l.secOk then l.bootGo .comparator else l.bootFail

def execOtpReadEnd (a : At) (s : State) : Out := run true s a Lane.otpRead

/-! ### Step 5: comparator test (R383, R384) -/

/-- A comparator test that fails or falls short is latched in AON and ends in FAILSILENT. -/
def Lane.comparatorBad (l : Lane) (sig : W32) (count status : Nat) : Lane := { l with bist.latch := some (sig, count, status, l.pwr.boot) }.bootFail

def Lane.comparatorEnd (l : Lane) (sig : W32) (count : Nat) (sigOk : Bool) : Lane :=
  if !l.bootAt .comparator || l.pwr.warm then l
  else
    let st := sectionStatus 2496 count sigOk
    let l := { l with mem.lsCount := count, mem.lsPass := st == 1, bist.cmp := { sig := sig, count := count, status := st } }
    if st == 1 then l.bootGo .image else l.comparatorBad sig count st

def execComparatorTestEnd (a : At) (sig : W32) (count : Nat) (sigOk : Bool) (s : State) : Out := run true s a (fun l => l.comparatorEnd sig count sigOk)

/-! ### Step 6: images (R374, R434 to R436, R438) -/

/-- A trial that failed returns to the previous slot; a swap for this start begins a trial (R437, R438). -/
def Lane.moltRecord (l : Lane) : Lane :=
  let l := if l.boot.trial && l.boot.trialBad then
      let k := l.boot.chosen
      ({ l with boot.chosen := l.boot.prev, boot.trial := false, boot.trialBad := false }.setSlot k (fun (x : FwSlot) => { x with state := if x.state == 4 then 4 else 3 })).event 0x1114 k
    else l
  match l.boot.swap with
  | some k => { l with boot.prev := l.boot.chosen, boot.chosen := k, boot.trial := true, boot.trialBad := false, boot.swap := none, boot.bootFails := 0 }
  | none => l

/-- The slot that starts, with SLOTPIN slot 0 alone; three boot failures in a row count the chosen slot as failed (R424, R429, R436). -/
def Lane.slotChoice (l : Lane) : Lane × Option Nat :=
  let pin := bit l.bootOpt 2
  let k := if pin then 0 else l.boot.chosen
  let other := 1 - k
  if l.fwOk k && l.boot.bootFails < 3 then (l, some k)
  else if !pin && (l.fwSlot other).state == 2 && l.fwOk other then
    (({ l with boot.chosen := other, boot.trial := false, boot.bootFails := 0 }.setSlot k (fun (x : FwSlot) => { x with state := if x.state == 4 then 4 else 3 })).event 0x1114 k, some other)
  else (l, none)

/-- Record slots that are written with a good CRC, and those written with a bad one. -/
def Lane.goodRecs (l : Lane) : List Nat := (List.range 5).filter (fun k => l.recWritten k && recGood (l.record k))
def Lane.badRecs (l : Lane) : List Nat := (List.range 5).filter (fun k => l.recWritten k && !recGood (l.record k))

/-- The area whose image meets the record and the firmware (R434). -/
def Lane.cfgFind (l : Lane) (rec_ : List Byte) (major : Nat) : Option Nat :=
  [0, 1].find? (fun k => sha256 (l.mramBytes (cfgBase k) (min (leAt rec_ 4 4) 0x80000)) == (rec_.drop 8).take 32 && l.cfgOk k && l.imgMajor (cfgBase k) == major)

/-- The generation that governs and its image; without one the defaults govern under a zero hash (R374, R434). The other area is discarded (R373). -/
def Lane.cfgChoice (l : Lane) (cfg : CfgImage) : Lane :=
  let l := l.badRecs.foldl (fun l k => l.event 0x1111 k) l
  let g := (l.goodRecs.getLast?).getD 0
  let found := if l.goodRecs.isEmpty then none else l.cfgFind (l.record g) (l.imgMajor (fwBase l.boot.running))
  let l := { l with boot.gen := g, boot.stagedLen := none, boot.load := none }
  match found with
  | some k => { l with boot.cfgArea := k, boot.hash := ((l.record g).drop 8).take 32, boot.image := cfg, boot.imageOk := true }.mramErase (cfgBase (1 - k)) 0x80000
  | none =>
    let l := { l with boot.cfgArea := 0, boot.hash := List.replicate 32 0, boot.image := {}, boot.imageOk := false }
    ((l.mramErase (cfgBase 0) 0x80000).mramErase (cfgBase 1) 0x80000).event 0x1111 (0x100 + g)

def Lane.imageVerify (l : Lane) (cfg : CfgImage) : Lane :=
  if !l.bootAt .image then l
  else
    let r := l.moltRecord.slotChoice
    match r.2 with
    | none => r.1.bootFail
    | some k =>
      let l := { r.1 with boot.running := k, boot.fwVersion := .ofNat 32 (r.1.imgVersion (fwBase k)) }.setSlot k (fun (x : FwSlot) => { x with state := if x.state == 4 then 4 else 2 })
      (l.cfgChoice cfg).bootGo .handover

def execImageVerifyEnd (a : At) (cfg : CfgImage) (s : State) : Out := run true s a (fun l => l.imageVerify cfg)

/-! ### Step 7: protection unit (R439, Tables BT-7 to BT-12) -/

/-- Groups 0, 5, 6, 7, 10 and 14 belong to core 0 whatever the record holds (R385). -/
def periphFixed (v : Nat) : Nat := (List.range 16).foldl (fun x g => x + (if [0, 5, 6, 7, 10, 14].contains g then 1 else bits v (2 * g + 1) (2 * g)) * 4 ^ g) 0

/-- The protection unit as the boot ROM writes it from the record and locks it; bit 15 of every sender field is cleared. -/
def Lane.puWrite (l : Lane) : Lane :=
  let r := l.prot
  let w (o : Nat) : W32 := .ofNat 32 (leAt r o 4)
  let dbg := bit (leAt r 276 4) 3
  let open_ := l.boot.life == 1 || l.boot.life == 3
  let split := open_ && bit l.bootOpt 0
  { l with boot.pu := { lock := true, lcs := l.boot.life, dbgRec := dbg, debugEn := dbg && open_, c1En := split,
                        rgnBase := (List.range 16).map (fun n => w (8 * n)), rgnAttr := (List.range 16).map (fun n => w (8 * n + 4)),
                        periph := .ofNat 32 (periphFixed (leAt r 128 4)),
                        hspi := .ofNat 16 (leAt r 132 2 % 2 ^ 15), icbex := .ofNat 16 (leAt r 134 2 % 2 ^ 15),
                        sport := .ofNat 16 (leAt r 136 2 % 2 ^ 15), can := .ofNat 16 (leAt r 138 2 % 2 ^ 15),
                        keyLock := if l.boot.life == 3 then 0 else 0x3F, crit := (List.range 32).map (fun n => w (144 + 4 * n)) },
           boot.split := split }

/-- Hand-over: the boot watchdog starts, and the 30 s of a trial (R424, R438). -/
def Lane.handover (l : Lane) : Lane :=
  if !l.bootAt .handover then l
  else
    let l := { l.puWrite with boot.wdAt := some l.now, boot.trialAt := if l.boot.trial then some l.now else none }
    l.bootGo .firmware

def execBootHandover (a : At) (s : State) : Out := run true s a Lane.handover

/-- 50 ms after hand-over without entry to CHECK (R424). -/
def Lane.bootWatchdog (l : Lane) : Lane :=
  match l.boot.wdAt with
  | some t =>
    if l.due (t + ms 50) && l.pwr.step == .firmware then
      { l with boot.bootFails := l.boot.bootFails + 1, boot.trialBad := l.boot.trialBad || l.boot.trial }.restart
    else l
  | none => l

def execBootWatchdog (a : At) (s : State) : Out := run true s a Lane.bootWatchdog

/-! ### Step 8: firmware start (R372, R384, R419, R425, R449, R450) -/

/-- Half-bridges that a slot of a type holds (Table LN-5); an external stage holds one PWM channel or more. -/
def SlotCfg.sized (c : SlotCfg) : Bool :=
  match c.kind with
  | .none => c.hbs.isEmpty
  | .threePhase => c.hbs.length == 3
  | .hBridge => c.hbs.length == 2
  | .stepper => c.hbs.length == 4
  | .solenoid | .chopper => c.hbs.length == 1
  | .external => !c.hbs.isEmpty

/-- At most 8 slots of their sizes, and no half-bridge or channel in two of them or twice in one (R26, R27). -/
def slotsFit (cs : List SlotCfg) : Bool :=
  let hs := cs.flatMap SlotCfg.hbs
  decide (cs.length ≤ 8) && cs.all SlotCfg.sized && hs.all (fun h => decide (h < 16)) && decide (hs.eraseDups.length = hs.length)

/-- A value of an image lies in its range, and the checks that it takes part in hold for the lane as configured. -/
def Lane.imageVal (l m : Lane) (v : PVal) : Bool :=
  match prow v.id with
  | some r => r.cls != .ro && decide (v.inst < r.n) && l.valueOk r v && m.checks v.id v.inst
  | none => false

/-- The lane with the slots and values of an image over the defaults. -/
def Lane.withImage (l : Lane) (x : CfgImage) : Lane :=
  (l.each 8 (fun k l => l.setMotor k { l.motor k with cfg := x.slots.getD k {} })).withVals x.params

/-- What the firmware asks of an image beside the gate-drive limits (R26, R27, R64, R195, R368). -/
def Lane.imageFits (l : Lane) (x : CfgImage) : Bool :=
  let m := l.withImage x
  slotsFit x.slots && x.params.all (fun v => l.imageVal m v) && m.tbShared && m.stepTbOk

/-- The firmware refuses an image: the lane starts on the defaults under a zero hash, as where no image is found (R434; log entry 151). -/
def Lane.imageDrop (l : Lane) : Lane :=
  { l with boot.hash := List.replicate 32 0, boot.image := {}, boot.imageOk := false }.event 0x1111 (0x100 + l.boot.gen)

/-- The image in force after the firmware's checks; one above 3.5 W or 6.0 W raises GD_BUDGET_REFUSED (R32, R42, R60). -/
def Lane.imageJudge (l : Lane) : Lane :=
  if !l.imageFits l.boot.image then l.imageDrop
  else if !(l.withImage l.boot.image).budgetOk then (l.badEvent true).imageDrop
  else l

/-- The slots and values of the configuration in force, over the defaults (R372); triggers that meet are reported (R69). -/
def Lane.applyImage (l : Lane) : Lane :=
  let l := l.imageJudge
  let x := l.boot.image
  let vs := x.params.filter (fun v => v.id != 0x3130)
  let m := (vs.foldl (fun y v => l.valueHook y v) (l.withImage x)).estimate.tellMerged false
  { m.grdTake with mb.sp := { m.mb.sp with addr := m.p 0x1106 } }

/-- The pins of sources 0 to 7 are read under the polarity in force. -/
def Lane.pinsIn (l : Lane) : Lane := l.each 8 (fun n l => if (l.src n).pin == (l.p 0x3130 n == 1) then l.tripOn n else l)

/-- Events latched in the AON domain enter the fault log, marked so (Table CX-6). -/
def Lane.aonLog (l : Lane) : Lane :=
  let l := l.pwr.aonEv.foldl (fun (l : Lane) (e : EventRec) =>
    if bit (l.p 0xE108) (e.code / 0x1000) then
      { l with mem.logBuf := l.mem.logBuf ++ [{ stamp := e.t, code := e.code, st := e.st, lane := l.id.code, pin := pinned e.code, aon := true, arg := e.arg, entry := l.mem.logNext, boot := l.pwr.boot, cycle := l.cyc }],
               mem.logNext := l.mem.logNext + 1 }
    else l) l
  { l with pwr.aonEv := [] }

/-- The comparator failure latched at the last start: its start-up record, and its event with the mark of AON (R384). -/
def Lane.latchRecord (l : Lane) : Lane :=
  match l.bist.latch with
  | none => l
  | some (sig, count, status, boot) =>
    let r : BistRec := { kind := 2, result := 1, boot := boot, stamp := l.now, cycle := l.cyc, cycleOk := l.net.known || l.net.given.isSome, cfg := l.cfgCrcOf 0, fw := l.boot.fwVersion,
                         tmax := tenths l.hottest, spares := l.mem.spares, results := (List.replicate 16 ({} : BistEntry)).set 0 { sig := sig, count := count, status := status } }
    let l := { l with bist.latch := none }.bistStore r
    let l := l.event (0xD100 + status) 0
    { l with mem.logBuf := l.mem.logBuf.map (fun (e : LogEntry) => if e.entry + 1 == l.mem.logNext && e.code == 0xD100 + status then { e with aon := true } else e) }

/-- First section of a record with status 2 or 3. -/
def BistRec.failed (r : BistRec) : List (Nat × Nat) :=
  ((List.range 16).map (fun s => (s, (r.results.getD s {}).status))).filter (fun x => x.2 == 2 || x.2 == 3)

/-- Age of the shutdown record in s, while the AON domain stayed powered since E5 (R449). -/
def Lane.bistAge (l : Lane) : Option Nat := l.pwr.e5At.map (fun t => (l.now - t) / sec 1)

/-- The record is valid and fresh (R449). -/
def Lane.bistFresh (l : Lane) (r : BistRec) : Bool :=
  r.kind == 1 && r.result == 0 && r.boot + 1 == l.pwr.boot && r.cfg == l.cfgCrcOf 0 && r.fw == l.boot.fwVersion &&
  (match l.bistAge with
   | some n => decide (n ≤ 3600 * l.p 0xD102)
   | none => l.p 0xD103 == 1)

/-- Quick checks or the full start-up test, and what a failed shutdown record asks for (R425, R450). -/
def Lane.startPlan (l : Lane) : Lane :=
  let stale := (l.event 0xD105 ((l.bistAge).getD 0xFFFFFFFF))
  match l.bistOf 1 with
  | none => { stale with bist.plan := 2, bist.retest := [], bist.bad := none }
  | some r =>
    if l.bistFresh r then { l with bist.plan := 1, bist.retest := [], bist.bad := none }
    else match r.failed with
      | [] => { stale with bist.plan := 2, bist.retest := [], bist.bad := none }
      | x :: xs =>
        if r.boot + 1 == l.pwr.boot then { l with bist.plan := 1, bist.retest := [], bist.bad := some x }
        else { stale with bist.plan := 2, bist.bad := none, bist.retest := if l.bist.cleared then [] else ((x :: xs).map Prod.fst).filter (fun s => s != 0) }

/-- The newer Chrysalis image whose CRC is good, whose MAGIC is set and whose CFG is the lane's (R419). -/
def Lane.chrysPick (l : Lane) : Option Chrysalis :=
  (l.chrysCopies.filter (fun c => c.cfg == l.cfgCrc)).foldl (fun (b : Option Chrysalis) c => match b with
    | some x => if x.newer c then some x else some c
    | none => some c) none

/-- The custom tables as MRAM holds them: the first copy whose CRC is good; a table without one is dropped and reported (R137). -/
def Lane.tabsLoad (l : Lane) : Lane :=
  l.each 4 (fun n l =>
    match l.tabCopy n 0, l.tabCopy n 1 with
    | some t, _ | none, some t => l.setTable n { valid := true, entries := t }
    | none, none =>
      let l' := l.setTable n {}
      if l.tabWritten n 0 || l.tabWritten n 1 then l'.eventU 0x6108 else l')

/-- The lane enters CHECK, in LIMP its state stays; the boot watchdog ends and the failure count clears (R401, R424). -/
def Lane.enterCheck (l : Lane) : Lane :=
  let l := { l with boot.wdAt := none, boot.bootFails := 0, pwr.step := .checks, pwr.stepAt := l.now, mem.weevil := { l.mem.weevil with lastAt := l.now }, mem.scrubAt := l.now }
  if l.st == .limp then l else l.setSt .check

def Lane.firmwareStart (l : Lane) : Lane :=
  if !l.bootAt .firmware then l
  else
    let l := (l.applyImage.tabsLoad.aonLog.latchRecord.startPlan)
    let l := (if l.boot.split then l.event 0xE109 0 else l).enterCheck
    { l with pwr.restore := l.chrysPick }.pinsIn

def execFirmwareStartEnd (a : At) (s : State) : Out := run true s a Lane.firmwareStart

/-! ### Step 9: checks (R425, R426, Table BT-2) -/

/-- The temperature cross-check: an outlying sensor is dropped (R102); false where the readings left still disagree. -/
def Lane.checkTemps (l : Lane) (c : Checks) : Lane × Bool :=
  let l := { l with sns.temp := (l.sns.temp.zip c.temps).map (fun (p : Temp × F32) => { p.1 with value := p.2 }), sns.tempAt := l.now }
  if !l.tempsApart then (l, true)
  else if l.validTemps.length == 3 then
    let k := outlier l.tempOf
    let l := { l with sns.temp := l.sns.temp.set k { l.sns.temp.getD k {} with dropped := true } }.event 0x4108 k
    (l, !l.tempsApart)
  else (l.event 0x4108 0xFF, false)

/-- The crack-loop value is stored with its temperature; an open loop is reported and not stored (R103). -/
def Lane.checkCrack (l : Lane) (r : F32) : Lane :=
  let l := { l with sns.crackR := r, sns.crackAt := l.now }
  if fgt r (fi 1000) then l.crackDeclare else { l with sns.crackRef := r, sns.crackRefT := l.meanTemp, sns.crackSet := true }

/-- Half-bridges that read no current are winding faults of their slots (Table BT-2). -/
def Lane.checkWindings (l : Lane) (mask : W16) : Lane :=
  l.each 16 (fun k l => if bit mask.toNat k then (match l.slotOfHb k with | some s => l.windFault s | none => l) else l)

/-- Trims the amplifiers by their codes with shorted inputs and at 25 mV, into the learned calibration; none where a reading has no slope (R90). -/
def Lane.checkTrim (l : Lane) (c : Checks) : Option Lane :=
  let volts (a : Nat) (d : Int) : F32 := fdiv (fq (3 * d) 4096) (fi (l.p 0x4100 a))
  let z (a : Nat) : Int := c.trimShort.getD a 2048
  let r (a : Nat) : Int := c.trimRef.getD a 2731
  if (List.range 12).all (fun a => decide (z a < r a)) then
    some { l with sns.trim := (List.range 12).map (fun a => ({ offset := volts a (z a - 2048), gain := fdiv (fq 25 1000) (volts a (r a - z a)) } : Trim)) }
  else none

/-- The quick checks in their order; false at the first that fails (R425). -/
def Lane.quickChecks (l : Lane) (c : Checks) : Lane × Bool :=
  if !c.vgdOk || !(c.cmpPass.length == 16 && c.cmpPass.all (fun b => b == 0xFF) && c.cmpCount == 128) then (l.eventU 0x2108, false)
  else
    let l := { l with gd.lastCmpTest := l.now }
    match l.checkTrim c with
    | none => (l, false)
    | some l =>
    if !c.trimOk || !c.adcRefOk then (l, false)
    else if !c.calOk || c.calTaps < 48 || 90 < c.calTaps then ({ l with pwm.calTaps := c.calTaps, pwm.coarseOnly := true }.eventU 0x3106, false)
    else
      let l := { l with pwm.calTaps := c.calTaps, pwm.calBad := 0, pwm.calAt := l.now, pwm.coarseOnly := false, pwm.tb := l.pwm.tb.map (fun (b : TimeBase) => { b with pendingMap := some c.calTaps }) }
      let t := l.checkTemps c
      if !t.2 then t
      else
        let l := (t.1.checkCrack c.crackR)
        let l := { l with mem.spares := l.mem.spares - c.badSpares }.checkWindings c.openHb
        if !c.windOk then (l, false)
        else
        let l := l.sbSense c.cellSense
        if l.fn.senseBad.contains true then (l, false)
        else if !c.calDataOk then ({ l with mem.calBad := true }, false)
        else (l, true)

/-- The start-up record of a start that runs the quick checks alone: section 0 (R447). -/
def Lane.quickRecord (l : Lane) : Lane :=
  if l.pwr.warm then l
  else l.bistRecord { kind := 2, section_ := noSection, startAt := l.now, left := [], want := [0], expected := 0, limit := 0, key := none,
                      results := (List.replicate 16 ({} : BistEntry)).set 0 l.bist.cmp, tmax := l.hottest }

/-- The quick checks have ended: a failure, a failed shutdown record, the sections of a full test, or the end of the start (R425, R426, R450). -/
def Lane.checksEnd (l : Lane) (c : Checks) : Lane :=
  if l.pwr.step != .checks || l.st == .failSilent || l.st == .save then l
  else match l.bist.run with
    | some r => if r.kind == 2 && r.section_ == noSection then l.bistFinish r else l
    | none =>
      let q := l.quickChecks c
      let l := q.1
      if !q.2 then l.quickRecord.failSilent 1
      else match l.bist.bad with
        | some (s, st) => (({ l.quickRecord with bist.bad := none }).event (0xD100 + st) s).failSilent 1
        | none =>
          if l.bist.plan == 2 then
            let ss := startSections ++ l.bist.retest
            l.bistBegin 2 ss (0 :: ss) none l.bist.cmp
          else if l.pwr.warm then { l with pwr.step := .done, pwr.warm := false }.requestWaiting
          else l.quickRecord.startDone

def execChecksEnd (a : At) (c : Checks) (s : State) : Out := run true s a (fun l => l.checksEnd c)

/-! ### The end of a warm wake (R411, R426) -/

/-- What the shutdown test of the entry to SLEEP has left to act on. -/
def Lane.sleepBad (l : Lane) : Option (Nat × Nat) :=
  if l.pwr.fromSleep && l.p 0xC100 == 1 then
    match l.bistOf 1 with
    | some r => r.failed.head?
    | none => none
  else none

/-- The image that a wake from SLEEP copies from MRAM has the CRC-32 of the retention store (R485, Table PS-6; log entry 161). -/
def Lane.imageKept (l : Lane) : Bool := !l.pwr.fromSleep || l.mem.retCrc == some l.fwCrc

/-- Image, retention check and comparator test of a warm wake: SYNC with the quick checks to run, a cold wake, or FAILSILENT. The result of a failed comparator test is a free value (log entry 2). -/
def Lane.retentionEnd (l : Lane) (ok cmpOk : Bool) : Lane :=
  if !l.bootAt .comparator || !l.pwr.warm then l
  else if !ok || !l.imageKept then l.restart
  else if !cmpOk then
    let n := l.fresh
    let l := { l with fresh := n + 3 }
    l.comparatorBad (.ofNat 32 (Config.freeNat n)) (Config.freeNat (n + 1)) (2 + Config.freeNat (n + 2) % 2)
  else
    let l := l.puWrite.enterCheck
    { l with bist.plan := 1, bist.retest := [], bist.bad := l.sleepBad, mem.lsCount := 2496, mem.lsPass := true }.enterSync

def execRetentionCheckEnd (a : At) (ok cmpOk : Bool) (s : State) : Out := run true s a (fun l => l.retentionEnd ok cmpOk)

/-! ### The lane reset (R254) -/

/-- RESET restarts a lane in FAILSILENT through WAKING. -/
def Lane.resetRx (l : Lane) (p : List Byte) : Lane :=
  if l.st == .failSilent && p == b8 l.id.code :: List.replicate 11 0x5A then l.restart else l

def execResetBlockRx (a : At) (from_ : LaneId) (b : Block) (s : State) : Out :=
  run true s a (fun l => l.rxBlock from_ b true 0x24 (fun _ l => l.resetRx b.payload))

/-- A peer in FAILSILENT by its last health word or withdrawal gets a RESET block; the own lane restarts once its response is written. -/
def Lane.hRedLaneReset (m : Msg) (l : Lane) : Lane × Reply :=
  match LaneId.ofCode (m.u8 0) with
  | none => refuse l stBadParam
  | some p =>
    if p == l.id then (if l.st == .failSilent then done l else refuse l stRefusedState)
    else if healthState (l.peer p).health == 11 then done (l.sendTo p true 0x24 (b8 p.code :: List.replicate 11 0x5A))
    else refuse l stRefusedState

/-- The command is taken, passes the checks of R337 and names the lane itself in FAILSILENT. -/
def Lane.resetsSelf (l : Lane) (m : Msg) : Bool :=
  match l.take 0x61 m with
  | some x => (x.aside 0x61 m).isNone && (x.gate 0x61 m).isNone && l.st == .failSilent && LaneId.ofCode (m.u8 0) == some l.id
  | none => false

def Lane.redLaneReset (l : Lane) (m : Msg) : Lane :=
  let r := l.serve 0x61 m (Lane.hRedLaneReset m)
  if l.resetsSelf m then r.restart else r

def execRedLaneReset (a : At) (m : Msg) (s : State) : Out := run true s a (fun l => l.redLaneReset m)

/-! ### Debug halt (R85, R86, R393, Tables PS-11 and ST-5) -/

/-- A halt with the debug gate open: the profile generators stop with their step generators (Table MP-3), and the counters freeze, or source 12 trips on all channels; a running section is aborted and a Weevil pass pauses. -/
def Lane.debugHalt (l : Lane) : Lane :=
  if !l.boot.pu.debugEn || !l.powered || l.pwm.halted then l
  else
    let l := { l.bistAbort with pwm.halted := true, pwm.haltAt := l.now }
    let l := l.each 4 (fun i l => l.setSg i { (l.sgen i).at_ l.now with w := 0 })
    let l := if l.mem.weevil.phase == .running then { l with mem.weevil := { l.mem.weevil with paused := true } } else l
    if l.p 0x3150 == 0 then { l with pwm.frozen := true } else ({ l with pwm.haltTrip := true }.source12).tripWiden 12

def execDebugHaltEntry (a : At) (s : State) : Out := run true s a Lane.debugHalt

/-- Counters, dead times and load points go on from where a halt of length d froze them (R85, R86). -/
def Lane.thaw (l : Lane) (d : Nat) : Lane :=
  { l with pwm.tb := l.pwm.tb.map (fun (b : TimeBase) => { b with started := b.started + d }),
           pwm.ch := l.pwm.ch.map (fun (c : PwmCh) => { c with loadAt := c.loadAt + fine d, sideAt := c.sideAt + fine d, cutAt := c.cutAt + fine d }),
           gd.hb := l.gd.hb.map (fun (h : HalfBridge) => { h with precharge := h.precharge.map (fun (p : Nat × Nat) => (p.1 + fine d, p.2 + fine d)) }) }

/-- Halt exit: counters go on from their frozen values; the halt's input of source 12 ends and leaves the latch in HELD, unless TRIP_FORCE holds it; the controller integrates anew (Table NT-7). -/
def Lane.debugExit (l : Lane) : Lane :=
  if !l.pwm.halted then l
  else
    let d := l.now - l.pwm.haltAt
    let was := l.pwm.frozen
    let l := { l with pwm.halted := false, pwm.frozen := false, mem.weevil := { l.mem.weevil with paused := false } }
    let l := if was then l.thaw d else l
    let l := if l.net.st == .synced then l.netPassive else l
    l.source12

def execDebugHaltExit (a : At) (s : State) : Out := run true s a Lane.debugExit

end Sys2Proof.Machine
end

