-- ==== Sys2Proof/Machine/Dispatch.lean ====
section
/-! DEFINITION. The dispatch of a command to its meaning, one arm per command. -/

namespace Sys2Proof.Machine

def exec (i : Instr) (s : State) : Host.Outcome State Fault Refusal :=
  match i with
  | .identify a m => Sys2Proof.Machine.execIdentify a m s
  | .sessionChallenge a m => Sys2Proof.Machine.execSessionChallenge a m s
  | .sessionResponse a m => Sys2Proof.Machine.execSessionResponse a m s
  | .sessionClose a m => Sys2Proof.Machine.execSessionClose a m s
  | .paramRead a m => Sys2Proof.Machine.execParamRead a m s
  | .paramWrite a m => Sys2Proof.Machine.execParamWrite a m s
  | .paramCommit a m => Sys2Proof.Machine.execParamCommit a m s
  | .paramInfo a m => Sys2Proof.Machine.execParamInfo a m s
  | .streamPush a m => Sys2Proof.Machine.execStreamPush a m s
  | .fnEnable a m => Sys2Proof.Machine.execFnEnable a m s
  | .fnSourceSet a m => Sys2Proof.Machine.execFnSourceSet a m s
  | .steerSet a m => Sys2Proof.Machine.execSteerSet a m s
  | .brakeSet a m => Sys2Proof.Machine.execBrakeSet a m s
  | .springBrake a m => Sys2Proof.Machine.execSpringBrake a m s
  | .slackAdjust a m => Sys2Proof.Machine.execSlackAdjust a m s
  | .retardSet a m => Sys2Proof.Machine.execRetardSet a m s
  | .fnStatus a m => Sys2Proof.Machine.execFnStatus a m s
  | .brakeLearn a m => Sys2Proof.Machine.execBrakeLearn a m s
  | .fnBatch a m => Sys2Proof.Machine.execFnBatch a m s
  | .motEnable a m => Sys2Proof.Machine.execMotEnable a m s
  | .motStatus a m => Sys2Proof.Machine.execMotStatus a m s
  | .motTableLoad a m => Sys2Proof.Machine.execMotTableLoad a m s
  | .motAngleSrcSet a m => Sys2Proof.Machine.execMotAngleSrcSet a m s
  | .tripClear a m => Sys2Proof.Machine.execTripClear a m s
  | .tripForce a m => Sys2Proof.Machine.execTripForce a m s
  | .tripStatus a m => Sys2Proof.Machine.execTripStatus a m s
  | .gdFaultClear a m => Sys2Proof.Machine.execGdFaultClear a m s
  | .gdSetStrength a m => Sys2Proof.Machine.execGdSetStrength a m s
  | .gdSelftest a m => Sys2Proof.Machine.execGdSelftest a m s
  | .gdSelftestEnd a pass count => Sys2Proof.Machine.execGdSelftestEnd a pass count s
  | .loopOpen a m => Sys2Proof.Machine.execLoopOpen a m s
  | .loopClose a m => Sys2Proof.Machine.execLoopClose a m s
  | .loopInject a m => Sys2Proof.Machine.execLoopInject a m s
  | .loopCapture a m => Sys2Proof.Machine.execLoopCapture a m s
  | .loopChainSet a m => Sys2Proof.Machine.execLoopChainSet a m s
  | .loopCaptureStop a m => Sys2Proof.Machine.execLoopCaptureStop a m s
  | .mpMove a m => Sys2Proof.Machine.execMpMove a m s
  | .mpStop a m => Sys2Proof.Machine.execMpStop a m s
  | .mpSourceSet a m => Sys2Proof.Machine.execMpSourceSet a m s
  | .mpReference a m => Sys2Proof.Machine.execMpReference a m s
  | .redStatus a m => Sys2Proof.Machine.execRedStatus a m s
  | .redLaneReset a m => Sys2Proof.Machine.execRedLaneReset a m s
  | .redFaultClear a m => Sys2Proof.Machine.execRedFaultClear a m s
  | .netStatus a m => Sys2Proof.Machine.execNetStatus a m s
  | .netColdstart a m => Sys2Proof.Machine.execNetColdstart a m s
  | .netTxSrcSet a m => Sys2Proof.Machine.execNetTxSrcSet a m s
  | .netKeyEpoch a m => Sys2Proof.Machine.execNetKeyEpoch a m s
  | .netWake a m => Sys2Proof.Machine.execNetWake a m s
  | .netCanRestart a m => Sys2Proof.Machine.execNetCanRestart a m s
  | .pwrRequest a m => Sys2Proof.Machine.execPwrRequest a m s
  | .pwrStatus a m => Sys2Proof.Machine.execPwrStatus a m s
  | .bistRun a m => Sys2Proof.Machine.execBistRun a m s
  | .bistSection a m => Sys2Proof.Machine.execBistSection a m s
  | .bistResult a m => Sys2Proof.Machine.execBistResult a m s
  | .bistAbort a m => Sys2Proof.Machine.execBistAbort a m s
  | .cfgImageLoad a m => Sys2Proof.Machine.execCfgImageLoad a m s
  | .cfgGenBurn a m => Sys2Proof.Machine.execCfgGenBurn a m s
  | .cfgGenBurnEnd a ok => Sys2Proof.Machine.execCfgGenBurnEnd a ok s
  | .cfgOverlayLoad a m => Sys2Proof.Machine.execCfgOverlayLoad a m s
  | .cfgStatus a m => Sys2Proof.Machine.execCfgStatus a m s
  | .lifecycleSet a m => Sys2Proof.Machine.execLifecycleSet a m s
  | .lifecycleWriteEnd a ok => Sys2Proof.Machine.execLifecycleWriteEnd a ok s
  | .moltBegin a m => Sys2Proof.Machine.execMoltBegin a m s
  | .moltData a m => Sys2Proof.Machine.execMoltData a m s
  | .moltVerify a m => Sys2Proof.Machine.execMoltVerify a m s
  | .moltVerifyEnd a => Sys2Proof.Machine.execMoltVerifyEnd a s
  | .moltSwap a m => Sys2Proof.Machine.execMoltSwap a m s
  | .moltStatus a m => Sys2Proof.Machine.execMoltStatus a m s
  | .eventRead a m => Sys2Proof.Machine.execEventRead a m s
  | .logRead a m => Sys2Proof.Machine.execLogRead a m s
  | .counterClear a m => Sys2Proof.Machine.execCounterClear a m s
  | .traceCtrl a m => Sys2Proof.Machine.execTraceCtrl a m s
  | .unknownOpcode a op m => Sys2Proof.Machine.execUnknownOpcode a op m s
  | .doorbellWrite a w q tail => Sys2Proof.Machine.execDoorbellWrite a w q tail s
  | .irqStatClear a w mask => Sys2Proof.Machine.execIrqStatClear a w mask s
  | .spiStatClear a w mask => Sys2Proof.Machine.execSpiStatClear a w mask s
  | .qheadWrite a w q head => Sys2Proof.Machine.execQheadWrite a w q head s
  | .registerWrite a x => Sys2Proof.Machine.execRegisterWrite a x s
  | .hirqHoldoffEnd a => Sys2Proof.Machine.execHirqHoldoffEnd a s
  | .spMbInWrite a bytes crcOk => Sys2Proof.Machine.execSpMbInWrite a bytes crcOk s
  | .spCommit a crcOk => Sys2Proof.Machine.execSpCommit a crcOk s
  | .spAbort a crcOk => Sys2Proof.Machine.execSpAbort a crcOk s
  | .spMbOutRead a crcOk => Sys2Proof.Machine.execSpMbOutRead a crcOk s
  | .spStatRead a crcOk => Sys2Proof.Machine.execSpStatRead a crcOk s
  | .spMessageTimeout a => Sys2Proof.Machine.execSpMessageTimeout a s
  | .servicePortWake a ptr read => Sys2Proof.Machine.execServicePortWake a ptr read s
  | .mailboxFrameRx a f => Sys2Proof.Machine.execMailboxFrameRx a f s
  | .canFrameRx a f => Sys2Proof.Machine.execCanFrameRx a f s
  | .reasmTimeout a tr host msgId => Sys2Proof.Machine.execReasmTimeout a tr host msgId s
  | .canBusOff a port => Sys2Proof.Machine.execCanBusOff a port s
  | .canStatusSend a port => Sys2Proof.Machine.execCanStatusSend a port s
  | .sessionIdleTimeout a tr => Sys2Proof.Machine.execSessionIdleTimeout a tr s
  | .stageTimeout a => Sys2Proof.Machine.execStageTimeout a s
  | .periodStart a p => Sys2Proof.Machine.execPeriodStart a p s
  | .shadowLoad a tb => Sys2Proof.Machine.execShadowLoad a tb s
  | .triggerFire a cmp => Sys2Proof.Machine.execTriggerFire a cmp s
  | .adcConversionEnd a adc code => Sys2Proof.Machine.execAdcConversionEnd a adc code s
  | .delayCal a count => Sys2Proof.Machine.execDelayCal a count s
  | .tripInputActive a src => Sys2Proof.Machine.execTripInputActive a src s
  | .tripInputInactive a src => Sys2Proof.Machine.execTripInputInactive a src s
  | .debugHaltEntry a => Sys2Proof.Machine.execDebugHaltEntry a s
  | .debugHaltExit a => Sys2Proof.Machine.execDebugHaltExit a s
  | .gateEdgeMeasured a ch on time valid => Sys2Proof.Machine.execGateEdgeMeasured a ch on time valid s
  | .vdsFault a hb v => Sys2Proof.Machine.execVdsFault a hb v s
  | .vdsAutoClear a hb => Sys2Proof.Machine.execVdsAutoClear a hb s
  | .vgdFault a ov => Sys2Proof.Machine.execVgdFault a ov s
  | .vgdRecovery a => Sys2Proof.Machine.execVgdRecovery a s
  | .bstUv a hb => Sys2Proof.Machine.execBstUv a hb s
  | .bstUvRecover a hb => Sys2Proof.Machine.execBstUvRecover a hb s
  | .shootReq a hb => Sys2Proof.Machine.execShootReq a hb s
  | .gateDoubleDrive a hb => Sys2Proof.Machine.execGateDoubleDrive a hb s
  | .directPulseEdge a hb level => Sys2Proof.Machine.execDirectPulseEdge a hb level s
  | .directEnableChange a hb level => Sys2Proof.Machine.execDirectEnableChange a hb level s
  | .busOv1 a drn => Sys2Proof.Machine.execBusOv1 a drn s
  | .busOv1Clear a drn => Sys2Proof.Machine.execBusOv1Clear a drn s
  | .busOv2 a drn => Sys2Proof.Machine.execBusOv2 a drn s
  | .ov2Release a drn => Sys2Proof.Machine.execOv2Release a drn s
  | .ovHard a ds => Sys2Proof.Machine.execOvHard a ds s
  | .dsModFault a ds => Sys2Proof.Machine.execDsModFault a ds s
  | .tempSample a t0 t1 t2 => Sys2Proof.Machine.execTempSample a t0 t1 t2 s
  | .tempShutdown a => Sys2Proof.Machine.execTempShutdown a s
  | .tempSensorFault a => Sys2Proof.Machine.execTempSensorFault a s
  | .crackMeasure a r => Sys2Proof.Machine.execCrackMeasure a r s
  | .hallTransition a group e => Sys2Proof.Machine.execHallTransition a group e s
  | .hallIllegal a group e => Sys2Proof.Machine.execHallIllegal a group e s
  | .hallSpeedTimeout a group => Sys2Proof.Machine.execHallSpeedTimeout a group s
  | .encoderEdge a enc x y => Sys2Proof.Machine.execEncoderEdge a enc x y s
  | .encZEdge a enc => Sys2Proof.Machine.execEncZEdge a enc s
  | .ppFrameEnd a port f => Sys2Proof.Machine.execPpFrameEnd a port f s
  | .ppPresent a port => Sys2Proof.Machine.execPpPresent a port s
  | .ptFrameRelayed a port f => Sys2Proof.Machine.execPtFrameRelayed a port f s
  | .ptLost a port => Sys2Proof.Machine.execPtLost a port s
  | .posFrozen a slot => Sys2Proof.Machine.execPosFrozen a slot s
  | .currentSequence a tb ds => Sys2Proof.Machine.execCurrentSequence a tb ds s
  | .outerSequence a ds => Sys2Proof.Machine.execOuterSequence a ds s
  | .fallbackRampEnd a slot => Sys2Proof.Machine.execFallbackRampEnd a slot s
  | .flyingStartProbe a slot => Sys2Proof.Machine.execFlyingStartProbe a slot s
  | .sourceBlendEnd a slot => Sys2Proof.Machine.execSourceBlendEnd a slot s
  | .profileTick a gen => Sys2Proof.Machine.execProfileTick a gen s
  | .refSwitchEdge a pin e => Sys2Proof.Machine.execRefSwitchEdge a pin e s
  | .stepperStageUpdate a slot => Sys2Proof.Machine.execStepperStageUpdate a slot s
  | .stepIdleTimeout a slot => Sys2Proof.Machine.execStepIdleTimeout a slot s
  | .stepHoldTimeout a slot => Sys2Proof.Machine.execStepHoldTimeout a slot s
  | .fnOuterPeriod a ds => Sys2Proof.Machine.execFnOuterPeriod a ds s
  | .chopperPrearmCheck a ch => Sys2Proof.Machine.execChopperPrearmCheck a ch s
  | .chopperDisarm a ch => Sys2Proof.Machine.execChopperDisarm a ch s
  | .cmdLost a fn => Sys2Proof.Machine.execCmdLost a fn s
  | .cmdHoldTimeout a => Sys2Proof.Machine.execCmdHoldTimeout a s
  | .rejoinHoldTimeout a => Sys2Proof.Machine.execRejoinHoldTimeout a s
  | .parkTimeout a => Sys2Proof.Machine.execParkTimeout a s
  | .stopParkTimeout a => Sys2Proof.Machine.execStopParkTimeout a s
  | .sbRefreshTimeout a => Sys2Proof.Machine.execSbRefreshTimeout a s
  | .sbTestStart a => Sys2Proof.Machine.execSbTestStart a s
  | .sbTestStep a sense => Sys2Proof.Machine.execSbTestStep a sense s
  | .slackQuietTimeout a wheel => Sys2Proof.Machine.execSlackQuietTimeout a wheel s
  | .brakeEstMismatch a wheel => Sys2Proof.Machine.execBrakeEstMismatch a wheel s
  | .refBlockRx a from_ b => Sys2Proof.Machine.execRefBlockRx a from_ b s
  | .cmpBlockRx a from_ b => Sys2Proof.Machine.execCmpBlockRx a from_ b s
  | .withdrawBlockRx a from_ b => Sys2Proof.Machine.execWithdrawBlockRx a from_ b s
  | .authClaimRx a from_ b => Sys2Proof.Machine.execAuthClaimRx a from_ b s
  | .authAckRx a from_ b => Sys2Proof.Machine.execAuthAckRx a from_ b s
  | .voteOutRx a from_ b => Sys2Proof.Machine.execVoteOutRx a from_ b s
  | .tripNoticeRx a from_ b => Sys2Proof.Machine.execTripNoticeRx a from_ b s
  | .chopNoticeRx a from_ b => Sys2Proof.Machine.execChopNoticeRx a from_ b s
  | .cycleBlockRx a from_ b => Sys2Proof.Machine.execCycleBlockRx a from_ b s
  | .mirrorBlockRx a from_ b => Sys2Proof.Machine.execMirrorBlockRx a from_ b s
  | .healthBlockRx a from_ b => Sys2Proof.Machine.execHealthBlockRx a from_ b s
  | .resyncReqRx a from_ b => Sys2Proof.Machine.execResyncReqRx a from_ b s
  | .resyncAckRx a from_ b => Sys2Proof.Machine.execResyncAckRx a from_ b s
  | .resetBlockRx a from_ b => Sys2Proof.Machine.execResetBlockRx a from_ b s
  | .pairPosRx a from_ b => Sys2Proof.Machine.execPairPosRx a from_ b s
  | .setpointBlockRx a from_ b => Sys2Proof.Machine.execSetpointBlockRx a from_ b s
  | .interlaneBadBlock a from_ => Sys2Proof.Machine.execInterlaneBadBlock a from_ s
  | .linkLossTimeout a peer => Sys2Proof.Machine.execLinkLossTimeout a peer s
  | .linkRestore a peer => Sys2Proof.Machine.execLinkRestore a peer s
  | .splitDecision a => Sys2Proof.Machine.execSplitDecision a s
  | .followerAgeTimeout a => Sys2Proof.Machine.execFollowerAgeTimeout a s
  | .tapFrameRx a f => Sys2Proof.Machine.execTapFrameRx a f s
  | .islandGraceEnd a => Sys2Proof.Machine.execIslandGraceEnd a s
  | .resyncTimeout a => Sys2Proof.Machine.execResyncTimeout a s
  | .joinRampEnd a set => Sys2Proof.Machine.execJoinRampEnd a set s
  | .failoverLate a => Sys2Proof.Machine.execFailoverLate a s
  | .moduleStartShadow a => Sys2Proof.Machine.execModuleStartShadow a s
  | .clockFail a pll => Sys2Proof.Machine.execClockFail a pll s
  | .limpRefTimeout a => Sys2Proof.Machine.execLimpRefTimeout a s
  | .lockstepMismatch a cycles group => Sys2Proof.Machine.execLockstepMismatch a cycles group s
  | .cycleStart a => Sys2Proof.Machine.execCycleStart a s
  | .staticSlotInsert a slot => Sys2Proof.Machine.execStaticSlotInsert a slot s
  | .dynamicFrameStart a slot payload => Sys2Proof.Machine.execDynamicFrameStart a slot payload s
  | .nitStart a => Sys2Proof.Machine.execNitStart a s
  | .icbexRelay a f => Sys2Proof.Machine.execIcbexRelay a f s
  | .icbexFrameDrop a f => Sys2Proof.Machine.execIcbexFrameDrop a f s
  | .dataFrameRx a f => Sys2Proof.Machine.execDataFrameRx a f s
  | .fireflyRx a f => Sys2Proof.Machine.execFireflyRx a f s
  | .hostStatusRx a f => Sys2Proof.Machine.execHostStatusRx a f s
  | .claimFrameRx a f => Sys2Proof.Machine.execClaimFrameRx a f s
  | .rejoinFrameRx a f => Sys2Proof.Machine.execRejoinFrameRx a f s
  | .delayReqRx a f => Sys2Proof.Machine.execDelayReqRx a f s
  | .delayRespRx a f => Sys2Proof.Machine.execDelayRespRx a f s
  | .listenTimeout a => Sys2Proof.Machine.execListenTimeout a s
  | .linkDown a port => Sys2Proof.Machine.execLinkDown a port s
  | .linkUp a port => Sys2Proof.Machine.execLinkUp a port s
  | .slotWatchEnd a => Sys2Proof.Machine.execSlotWatchEnd a s
  | .claimBackoffEnd a => Sys2Proof.Machine.execClaimBackoffEnd a s
  | .cicadaRecognised a port => Sys2Proof.Machine.execCicadaRecognised a port s
  | .linkActivityWake a port => Sys2Proof.Machine.execLinkActivityWake a port s
  | .dlFrameSend a link => Sys2Proof.Machine.execDlFrameSend a link s
  | .dlFrameRx a link bytes => Sys2Proof.Machine.execDlFrameRx a link bytes s
  | .dlLossTimeout a link => Sys2Proof.Machine.execDlLossTimeout a link s
  | .powerOn a mv => Sys2Proof.Machine.execPowerOn a mv s
  | .wakeEvent a src => Sys2Proof.Machine.execWakeEvent a src s
  | .regulatorsReady a => Sys2Proof.Machine.execRegulatorsReady a s
  | .regulatorTimeout a reg => Sys2Proof.Machine.execRegulatorTimeout a reg s
  | .regulatorRetry a => Sys2Proof.Machine.execRegulatorRetry a s
  | .crystalReady a => Sys2Proof.Machine.execCrystalReady a s
  | .crystalTimeout a => Sys2Proof.Machine.execCrystalTimeout a s
  | .pllLock a => Sys2Proof.Machine.execPllLock a s
  | .pllTimeout a => Sys2Proof.Machine.execPllTimeout a s
  | .otpReadEnd a => Sys2Proof.Machine.execOtpReadEnd a s
  | .comparatorTestEnd a sig count sigOk => Sys2Proof.Machine.execComparatorTestEnd a sig count sigOk s
  | .imageVerifyEnd a cfg => Sys2Proof.Machine.execImageVerifyEnd a cfg s
  | .bootHandover a => Sys2Proof.Machine.execBootHandover a s
  | .firmwareStartEnd a => Sys2Proof.Machine.execFirmwareStartEnd a s
  | .checksEnd a c => Sys2Proof.Machine.execChecksEnd a c s
  | .bootWatchdog a => Sys2Proof.Machine.execBootWatchdog a s
  | .retentionCheckEnd a ok cmpOk => Sys2Proof.Machine.execRetentionCheckEnd a ok cmpOk s
  | .moltTrialTimeout a => Sys2Proof.Machine.execMoltTrialTimeout a s
  | .holdupChargeTimeout a mv => Sys2Proof.Machine.execHoldupChargeTimeout a mv s
  | .idleWakeEvent a => Sys2Proof.Machine.execIdleWakeEvent a s
  | .idleGateTimeout a => Sys2Proof.Machine.execIdleGateTimeout a s
  | .supplySag a mv => Sys2Proof.Machine.execSupplySag a mv s
  | .supplyRecover a mv => Sys2Proof.Machine.execSupplyRecover a mv s
  | .saveEntry a holdMv => Sys2Proof.Machine.execSaveEntry a holdMv s
  | .saveImageDone a => Sys2Proof.Machine.execSaveImageDone a s
  | .saveStop a bytes => Sys2Proof.Machine.execSaveStop a bytes s
  | .saveSupplyReturn a => Sys2Proof.Machine.execSaveSupplyReturn a s
  | .pwrEntryWithdraw a => Sys2Proof.Machine.execPwrEntryWithdraw a s
  | .shutdownTestEnd a => Sys2Proof.Machine.execShutdownTestEnd a s
  | .pwrEntryPersistEnd a => Sys2Proof.Machine.execPwrEntryPersistEnd a s
  | .pwrPowerDownEnd a => Sys2Proof.Machine.execPwrPowerDownEnd a s
  | .bistSectionEnd a sig count sigOk detail => Sys2Proof.Machine.execBistSectionEnd a sig count sigOk detail s
  | .bistSectionTimeout a sig count sigOk detail => Sys2Proof.Machine.execBistSectionTimeout a sig count sigOk detail s
  | .sramAccess a x => Sys2Proof.Machine.execSramAccess a x s
  | .weevilPassStart a => Sys2Proof.Machine.execWeevilPassStart a s
  | .weevilPassEnd a rows sigOk count verifyOk => Sys2Proof.Machine.execWeevilPassEnd a rows sigOk count verifyOk s
  | .mramScrub a corrected uncorrectable => Sys2Proof.Machine.execMramScrub a corrected uncorrectable s
  | .mramWriteEnd a addr bytes ok => Sys2Proof.Machine.execMramWriteEnd a addr bytes ok s
  | .aonPowerLoss a => Sys2Proof.Machine.execAonPowerLoss a s
  | .tapOtpProgram a area bytes => Sys2Proof.Machine.execTapOtpProgram a area bytes s
  | .spiReadTransaction a x => Sys2Proof.Machine.execSpiReadTransaction a x s
  | .gateComparatorTest a pass => Sys2Proof.Machine.execGateComparatorTest a pass s

end Sys2Proof.Machine
end

