-- ==== Sys2Proof/Machine/Step.lean ====
section
/-! DEFINITION. The step of the module and the place where the host puts a command. -/

namespace Sys2Proof.Machine

/-- Takes the command at the front of the queue; on an empty queue the module idles (log entry 1). -/
def step (s : State) : Host.Outcome State Fault Refusal :=
  match s.pending with
  | [] => .next s
  | c :: rest => exec c { s with pending := rest }

/-- Puts the command that a table word spells at the front of the queue; a word that spells none leaves the state. -/
def State.withFetchWord (s : State) (nbits w : Nat) : State :=
  match decodeTableWord nbits w with
  | none => s
  | some c => { s with pending := c :: s.pending }

end Sys2Proof.Machine
end

