-- ==== Sys2Proof/WellFormed.lean ====
section
/-! DEFINITION. Well-formed commands: every unit that a command names is one that the spec gives a lane. One named check per kind of unit. -/

namespace Sys2Proof

open Sys2Proof.Machine

/-- Why a command is ill-formed: what it names. -/
inductive Malformed where
  /-- an opcode that a table lists, or one of more than 8 bits -/
  | knownOpcode
  /-- a queue above 63 -/
  | queue
  /-- no byte, or more bytes than one write of MB_IN carries -/
  | mailboxBytes
  /-- a pointer of more than 8 bits -/
  | servicePointer
  /-- a CAN controller above 1 -/
  | canPort
  /-- a transport without reassembly -/
  | transport
  /-- a timebase above 7 (R62) -/
  | timebase
  /-- an extra compare register above 31 (R69) -/
  | compare
  /-- an ADC above 3 or a code of more than 12 bits -/
  | converter
  /-- a trip source that has no input: above 12 (R77) -/
  | tripSource
  /-- a gate channel above 31 -/
  | gateChannel
  /-- a half-bridge above 15 -/
  | halfBridge
  /-- a drain-sense input above 3 -/
  | drainInput
  /-- a delta-sigma input above 3 -/
  | deltaSigma
  /-- a Hall input above 5 or a code of more than 3 bits (R107) -/
  | hallInput
  /-- an incremental input above 1 -/
  | encoder
  /-- a serial position port above 5 -/
  | positionPort
  /-- a motor slot above 7 (R26) -/
  | motorSlot
  /-- a loop slot above 31 -/
  | loopSlot
  /-- a profile generator above 7 -/
  | generator
  /-- a retarder channel above 1 -/
  | chopper
  /-- a function that takes no setpoints -/
  | function
  /-- not the three contacts of the cell -/
  | cellSense
  /-- a wheel above 3 -/
  | wheel
  /-- a comparator group above 15 -/
  | lockstepGroup
  /-- an own network port above 1 -/
  | netPort
  /-- a drive link above 1 -/
  | driveLink
  /-- a source that no detector raises -/
  | wakeSource
  /-- a regulator above 3 -/
  | regulator
  /-- an SRAM address beyond 4 MiB, or an unknown check result -/
  | sramAddress
  /-- an SRAM row above 8191 -/
  | sramRow
  /-- an MRAM range beyond 8 MiB -/
  | mramAddress
  /-- an OTP area that the test access port does not provision -/
  | otpArea
deriving DecidableEq, Repr

/-- A check that names what fails. -/
def need (ok : Bool) (why : Malformed) : Option Malformed := if ok then none else some why

/-- The check of each command; a command that names no unit has nothing to fail. -/
def Instr.check : Instr → Option Malformed
  | .unknownOpcode _ op _ => need ((layoutOf op).isNone && decide (op < 256)) .knownOpcode
  | .doorbellWrite _ _ q _ => need (decide (q < 64)) .queue
  | .qheadWrite _ _ q _ => need (decide (q < 64)) .queue
  | .spMbInWrite _ bytes _ => need (decide (1 ≤ bytes.length) && decide (bytes.length ≤ 32)) .mailboxBytes
  | .servicePortWake _ ptr _ => need (decide (ptr < 256)) .servicePointer
  | .canFrameRx _ f => need (decide (f.port < 2)) .canPort
  | .reasmTimeout _ tr _ _ => need (tr == .net || tr == .can) .transport
  | .canBusOff _ port => need (decide (port < 2)) .canPort
  | .canStatusSend _ port => need (decide (port < 2)) .canPort
  | .periodStart _ p => need (decide (p.tb < 8)) .timebase
  | .shadowLoad _ tb => need (decide (tb < 8)) .timebase
  | .triggerFire _ cmp => need (decide (cmp < 32)) .compare
  | .adcConversionEnd _ adc code => need (adc < 4 && code < 4096) .converter
  | .tripInputActive _ src => need (decide (src < 13)) .tripSource
  | .tripInputInactive _ src => need (decide (src < 13)) .tripSource
  | .gateEdgeMeasured _ ch _ _ _ => need (decide (ch < 32)) .gateChannel
  | .vdsFault _ hb _ => need (decide (hb < 16)) .halfBridge
  | .vdsAutoClear _ hb => need (decide (hb < 16)) .halfBridge
  | .bstUv _ hb => need (decide (hb < 16)) .halfBridge
  | .bstUvRecover _ hb => need (decide (hb < 16)) .halfBridge
  | .shootReq _ hb => need (decide (hb < 16)) .halfBridge
  | .gateDoubleDrive _ hb => need (decide (hb < 16)) .halfBridge
  | .directPulseEdge _ hb _ => need (decide (hb < 16)) .halfBridge
  | .directEnableChange _ hb _ => need (decide (hb < 16)) .halfBridge
  | .busOv1 _ drn => need (decide (drn < 4)) .drainInput
  | .busOv1Clear _ drn => need (decide (drn < 4)) .drainInput
  | .busOv2 _ drn => need (decide (drn < 4)) .drainInput
  | .ov2Release _ drn => need (decide (drn < 4)) .drainInput
  | .ovHard _ ds => need (decide (ds < 4)) .deltaSigma
  | .dsModFault _ ds => need (decide (ds < 4)) .deltaSigma
  | .hallTransition _ group e => need (group < 6 && e.code < 8) .hallInput
  | .hallIllegal _ group e => need (group < 6 && e.code < 8) .hallInput
  | .hallSpeedTimeout _ group => need (decide (group < 6)) .hallInput
  | .encoderEdge _ enc _ _ => need (decide (enc < 2)) .encoder
  | .encZEdge _ enc => need (decide (enc < 2)) .encoder
  | .ppFrameEnd _ port _ => need (decide (port < 6)) .positionPort
  | .ppPresent _ port => need (decide (port < 6)) .positionPort
  | .ptFrameRelayed _ port _ => need (decide (port < 6)) .positionPort
  | .ptLost _ port => need (decide (port < 6)) .positionPort
  | .posFrozen _ slot => need (decide (slot < 8)) .motorSlot
  | .currentSequence _ tb _ => need (decide (tb < 8)) .timebase
  | .fallbackRampEnd _ slot => need (decide (slot < 32)) .loopSlot
  | .flyingStartProbe _ slot => need (decide (slot < 8)) .motorSlot
  | .sourceBlendEnd _ slot => need (decide (slot < 8)) .motorSlot
  | .profileTick _ gen => need (decide (gen < 8)) .generator
  | .stepperStageUpdate _ slot => need (decide (slot < 8)) .motorSlot
  | .stepIdleTimeout _ slot => need (decide (slot < 8)) .motorSlot
  | .stepHoldTimeout _ slot => need (decide (slot < 8)) .motorSlot
  | .chopperPrearmCheck _ ch => need (decide (ch < 2)) .chopper
  | .chopperDisarm _ ch => need (decide (ch < 2)) .chopper
  | .cmdLost _ fn => need (fn == 0 || fn == 1 || fn == 4) .function
  | .sbTestStep _ sense => need (sense.length == 3) .cellSense
  | .slackQuietTimeout _ wheel => need (decide (wheel < 4)) .wheel
  | .brakeEstMismatch _ wheel => need (decide (wheel < 4)) .wheel
  | .lockstepMismatch _ _ group => need (decide (group < 16)) .lockstepGroup
  | .linkDown _ port => need (decide (port < 2)) .netPort
  | .linkUp _ port => need (decide (port < 2)) .netPort
  | .cicadaRecognised _ port => need (decide (port < 2)) .netPort
  | .linkActivityWake _ port => need (decide (port < 2)) .netPort
  | .dlFrameSend _ link => need (decide (link < 2)) .driveLink
  | .dlFrameRx _ link _ => need (decide (link < 2)) .driveLink
  | .dlLossTimeout _ link => need (decide (link < 2)) .driveLink
  | .wakeEvent _ src => need (decide (2 ≤ src) && decide (src ≤ 6)) .wakeSource
  | .regulatorTimeout _ reg => need (decide (reg < 4)) .regulator
  | .sramAccess _ x => need (x.addr < 0x400000 && x.ecc < 4) .sramAddress
  | .weevilPassEnd _ rows _ _ _ => need (rows.all (fun r => decide (r < 8192))) .sramRow
  | .mramWriteEnd _ addr bytes _ => need (decide (addr + bytes.length ≤ 0x800000)) .mramAddress
  | .tapOtpProgram _ area _ => need ((tapArea area).isSome) .otpArea
  | .identify .. | .sessionChallenge .. | .sessionResponse .. | .sessionClose .. | .paramRead .. | .paramWrite .. | .paramCommit .. | .paramInfo .. => none
  | .streamPush .. | .fnEnable .. | .fnSourceSet .. | .steerSet .. | .brakeSet .. | .springBrake .. | .slackAdjust .. | .retardSet .. | .fnStatus .. => none
  | .brakeLearn .. | .fnBatch .. | .motEnable .. | .motStatus .. | .motTableLoad .. | .motAngleSrcSet .. | .tripClear .. | .tripForce .. => none
  | .tripStatus .. | .gdFaultClear .. | .gdSetStrength .. | .gdSelftest .. | .gdSelftestEnd .. | .loopOpen .. | .loopClose .. | .loopInject .. => none
  | .loopCapture .. | .loopChainSet .. | .loopCaptureStop .. | .mpMove .. | .mpStop .. | .mpSourceSet .. | .mpReference .. | .redStatus .. => none
  | .redLaneReset .. | .redFaultClear .. | .netStatus .. | .netColdstart .. | .netTxSrcSet .. | .netKeyEpoch .. | .netWake .. | .netCanRestart .. => none
  | .pwrRequest .. | .pwrStatus .. | .bistRun .. | .bistSection .. | .bistResult .. | .bistAbort .. | .cfgImageLoad .. | .cfgGenBurn .. => none
  | .cfgGenBurnEnd .. | .cfgOverlayLoad .. | .cfgStatus .. | .lifecycleSet .. | .lifecycleWriteEnd .. | .moltBegin .. | .moltData .. | .moltVerify .. => none
  | .moltVerifyEnd .. | .moltSwap .. | .moltStatus .. | .eventRead .. | .logRead .. | .counterClear .. | .traceCtrl .. | .irqStatClear .. => none
  | .spiStatClear .. | .registerWrite .. | .hirqHoldoffEnd .. | .spCommit .. | .spAbort .. | .spMbOutRead .. | .spStatRead .. | .spMessageTimeout .. => none
  | .mailboxFrameRx .. | .sessionIdleTimeout .. | .stageTimeout .. | .delayCal .. | .debugHaltEntry .. | .debugHaltExit .. | .vgdFault .. => none
  | .vgdRecovery .. | .tempSample .. | .tempShutdown .. | .tempSensorFault .. | .crackMeasure .. | .outerSequence .. | .refSwitchEdge .. => none
  | .fnOuterPeriod .. | .cmdHoldTimeout .. | .rejoinHoldTimeout .. | .parkTimeout .. | .stopParkTimeout .. | .sbRefreshTimeout .. | .sbTestStart .. => none
  | .refBlockRx .. | .cmpBlockRx .. | .withdrawBlockRx .. | .authClaimRx .. | .authAckRx .. | .voteOutRx .. | .tripNoticeRx .. | .chopNoticeRx .. => none
  | .cycleBlockRx .. | .mirrorBlockRx .. | .healthBlockRx .. | .resyncReqRx .. | .resyncAckRx .. | .resetBlockRx .. | .pairPosRx .. => none
  | .setpointBlockRx .. | .interlaneBadBlock .. | .linkLossTimeout .. | .linkRestore .. | .splitDecision .. | .followerAgeTimeout .. | .tapFrameRx .. => none
  | .islandGraceEnd .. | .resyncTimeout .. | .joinRampEnd .. | .failoverLate .. | .moduleStartShadow .. | .clockFail .. | .limpRefTimeout .. => none
  | .cycleStart .. | .staticSlotInsert .. | .dynamicFrameStart .. | .nitStart .. | .icbexRelay .. | .icbexFrameDrop .. | .dataFrameRx .. => none
  | .fireflyRx .. | .hostStatusRx .. | .claimFrameRx .. | .rejoinFrameRx .. | .delayReqRx .. | .delayRespRx .. | .listenTimeout .. | .slotWatchEnd .. => none
  | .claimBackoffEnd .. | .powerOn .. | .regulatorsReady .. | .regulatorRetry .. | .crystalReady .. | .crystalTimeout .. | .pllLock .. => none
  | .pllTimeout .. | .otpReadEnd .. | .comparatorTestEnd .. | .imageVerifyEnd .. | .bootHandover .. | .firmwareStartEnd .. | .checksEnd .. => none
  | .bootWatchdog .. | .retentionCheckEnd .. | .moltTrialTimeout .. | .holdupChargeTimeout .. | .idleWakeEvent .. | .idleGateTimeout .. => none
  | .supplySag .. | .supplyRecover .. | .saveEntry .. | .saveImageDone .. | .saveStop .. | .saveSupplyReturn .. | .pwrEntryWithdraw .. => none
  | .shutdownTestEnd .. | .pwrEntryPersistEnd .. | .pwrPowerDownEnd .. | .bistSectionEnd .. | .bistSectionTimeout .. | .weevilPassStart .. => none
  | .mramScrub .. | .aonPowerLoss .. | .spiReadTransaction .. | .gateComparatorTest .. => none

/-- The command names only units that exist. -/
def Instr.wf (i : Instr) : Bool := i.check.isNone

/-- The lane that a command acts on, with its instant. -/
def Instr.stamp : Instr → At
  | .identify a .. | .sessionChallenge a .. | .sessionResponse a .. | .sessionClose a .. | .paramRead a .. | .paramWrite a .. | .paramCommit a .. => a
  | .paramInfo a .. | .streamPush a .. | .fnEnable a .. | .fnSourceSet a .. | .steerSet a .. | .brakeSet a .. | .springBrake a .. | .slackAdjust a .. => a
  | .retardSet a .. | .fnStatus a .. | .brakeLearn a .. | .fnBatch a .. | .motEnable a .. | .motStatus a .. | .motTableLoad a .. => a
  | .motAngleSrcSet a .. | .tripClear a .. | .tripForce a .. | .tripStatus a .. | .gdFaultClear a .. | .gdSetStrength a .. | .gdSelftest a .. => a
  | .gdSelftestEnd a .. | .loopOpen a .. | .loopClose a .. | .loopInject a .. | .loopCapture a .. | .loopChainSet a .. | .loopCaptureStop a .. => a
  | .mpMove a .. | .mpStop a .. | .mpSourceSet a .. | .mpReference a .. | .redStatus a .. | .redLaneReset a .. | .redFaultClear a .. => a
  | .netStatus a .. | .netColdstart a .. | .netTxSrcSet a .. | .netKeyEpoch a .. | .netWake a .. | .netCanRestart a .. | .pwrRequest a .. => a
  | .pwrStatus a .. | .bistRun a .. | .bistSection a .. | .bistResult a .. | .bistAbort a .. | .cfgImageLoad a .. | .cfgGenBurn a .. => a
  | .cfgGenBurnEnd a .. | .cfgOverlayLoad a .. | .cfgStatus a .. | .lifecycleSet a .. | .lifecycleWriteEnd a .. | .moltBegin a .. | .moltData a .. => a
  | .moltVerify a .. | .moltVerifyEnd a .. | .moltSwap a .. | .moltStatus a .. | .eventRead a .. | .logRead a .. | .counterClear a .. => a
  | .traceCtrl a .. | .unknownOpcode a .. | .doorbellWrite a .. | .irqStatClear a .. | .spiStatClear a .. | .qheadWrite a .. | .registerWrite a .. => a
  | .hirqHoldoffEnd a .. | .spMbInWrite a .. | .spCommit a .. | .spAbort a .. | .spMbOutRead a .. | .spStatRead a .. | .spMessageTimeout a .. => a
  | .servicePortWake a .. | .mailboxFrameRx a .. | .canFrameRx a .. | .reasmTimeout a .. | .canBusOff a .. | .canStatusSend a .. => a
  | .sessionIdleTimeout a .. | .stageTimeout a .. | .periodStart a .. | .shadowLoad a .. | .triggerFire a .. | .adcConversionEnd a .. => a
  | .delayCal a .. | .tripInputActive a .. | .tripInputInactive a .. | .debugHaltEntry a .. | .debugHaltExit a .. | .gateEdgeMeasured a .. => a
  | .vdsFault a .. | .vdsAutoClear a .. | .vgdFault a .. | .vgdRecovery a .. | .bstUv a .. | .bstUvRecover a .. | .shootReq a .. => a
  | .gateDoubleDrive a .. | .directPulseEdge a .. | .directEnableChange a .. | .busOv1 a .. | .busOv1Clear a .. | .busOv2 a .. | .ov2Release a .. => a
  | .ovHard a .. | .dsModFault a .. | .tempSample a .. | .tempShutdown a .. | .tempSensorFault a .. | .crackMeasure a .. | .hallTransition a .. => a
  | .hallIllegal a .. | .hallSpeedTimeout a .. | .encoderEdge a .. | .encZEdge a .. | .ppFrameEnd a .. | .ppPresent a .. | .ptFrameRelayed a .. => a
  | .ptLost a .. | .posFrozen a .. | .currentSequence a .. | .outerSequence a .. | .fallbackRampEnd a .. | .flyingStartProbe a .. => a
  | .sourceBlendEnd a .. | .profileTick a .. | .refSwitchEdge a .. | .stepperStageUpdate a .. | .stepIdleTimeout a .. | .stepHoldTimeout a .. => a
  | .fnOuterPeriod a .. | .chopperPrearmCheck a .. | .chopperDisarm a .. | .cmdLost a .. | .cmdHoldTimeout a .. | .rejoinHoldTimeout a .. => a
  | .parkTimeout a .. | .stopParkTimeout a .. | .sbRefreshTimeout a .. | .sbTestStart a .. | .sbTestStep a .. | .slackQuietTimeout a .. => a
  | .brakeEstMismatch a .. | .refBlockRx a .. | .cmpBlockRx a .. | .withdrawBlockRx a .. | .authClaimRx a .. | .authAckRx a .. | .voteOutRx a .. => a
  | .tripNoticeRx a .. | .chopNoticeRx a .. | .cycleBlockRx a .. | .mirrorBlockRx a .. | .healthBlockRx a .. | .resyncReqRx a .. | .resyncAckRx a .. => a
  | .resetBlockRx a .. | .pairPosRx a .. | .setpointBlockRx a .. | .interlaneBadBlock a .. | .linkLossTimeout a .. | .linkRestore a .. => a
  | .splitDecision a .. | .followerAgeTimeout a .. | .tapFrameRx a .. | .islandGraceEnd a .. | .resyncTimeout a .. | .joinRampEnd a .. => a
  | .failoverLate a .. | .moduleStartShadow a .. | .clockFail a .. | .limpRefTimeout a .. | .lockstepMismatch a .. | .cycleStart a .. => a
  | .staticSlotInsert a .. | .dynamicFrameStart a .. | .nitStart a .. | .icbexRelay a .. | .icbexFrameDrop a .. | .dataFrameRx a .. | .fireflyRx a .. => a
  | .hostStatusRx a .. | .claimFrameRx a .. | .rejoinFrameRx a .. | .delayReqRx a .. | .delayRespRx a .. | .listenTimeout a .. | .linkDown a .. => a
  | .linkUp a .. | .slotWatchEnd a .. | .claimBackoffEnd a .. | .cicadaRecognised a .. | .linkActivityWake a .. | .dlFrameSend a .. | .dlFrameRx a .. => a
  | .dlLossTimeout a .. | .powerOn a .. | .wakeEvent a .. | .regulatorsReady a .. | .regulatorTimeout a .. | .regulatorRetry a .. => a
  | .crystalReady a .. | .crystalTimeout a .. | .pllLock a .. | .pllTimeout a .. | .otpReadEnd a .. | .comparatorTestEnd a .. | .imageVerifyEnd a .. => a
  | .bootHandover a .. | .firmwareStartEnd a .. | .checksEnd a .. | .bootWatchdog a .. | .retentionCheckEnd a .. | .moltTrialTimeout a .. => a
  | .holdupChargeTimeout a .. | .idleWakeEvent a .. | .idleGateTimeout a .. | .supplySag a .. | .supplyRecover a .. | .saveEntry a .. => a
  | .saveImageDone a .. | .saveStop a .. | .saveSupplyReturn a .. | .pwrEntryWithdraw a .. | .shutdownTestEnd a .. | .pwrEntryPersistEnd a .. => a
  | .pwrPowerDownEnd a .. | .bistSectionEnd a .. | .bistSectionTimeout a .. | .sramAccess a .. | .weevilPassStart a .. | .weevilPassEnd a .. => a
  | .mramScrub a .. | .mramWriteEnd a .. | .aonPowerLoss a .. | .tapOtpProgram a .. | .spiReadTransaction a .. | .gateComparatorTest a .. => a

end Sys2Proof
end

