-- ==== Sys2Proof/Safety.lean ====
section
/-! DEFINITION. The terms in which statements about the module are made: what every step keeps, what a command leaves as it was, and when a command completes. -/

namespace Sys2Proof.Machine

/-! ### What every step keeps -/

/-- A byte memory is in its canonical form: addresses strictly rise and no listed byte is zero. -/
abbrev Memory.wf (m : List Host.Cell) : Bool := cellsOk m

/-- The four byte memories of a lane are in their canonical form: SRAM, MRAM, OTP and the ring memory of its queues. -/
def Lane.memories (l : Lane) : Prop := Memory.wf l.mem.sram ∧ Memory.wf l.mem.mram ∧ Memory.wf l.boot.otp ∧ Memory.wf l.mb.ring

/-- A lane stands in its place: it bears the lane code of its position (R361), and its pin LANE_OK is high exactly in SHADOW, AUTHORITY and FOLLOWER (R25). -/
def Lane.placed (l : Lane) (i : LaneId) : Prop := l.id = i ∧ l.laneOk = l.st.driving

/-- The three lanes stand in their places. -/
def State.Inv (s : State) : Prop := ∀ i, (s.lane i).placed i

/-! ### Frames -/

/-- The lane l but for what a report changes, which is taken from l': the mailbox with its event log, the buffer of the fault log, the count of free values drawn, and what the wiring fixes. -/
def Lane.quiet (l l' : Lane) : Lane :=
  { l with mb := l'.mb, fresh := l'.fresh, id := l'.id, laneOk := l'.laneOk,
           mem := { l.mem with logBuf := l'.mem.logBuf, logNext := l'.mem.logNext } }

/-- l' is l but for reports: every register, latch and memory byte outside the mailbox and the fault-log buffer is that of l. -/
def Reports (l l' : Lane) : Prop := l' = l.quiet l'

/-! ### Completion -/

/-- A command answers a next state in which its lane meets P; the other lanes and the waiting commands are as before. -/
def Next (i : Instr) (s : State) (P : Lane → Prop) : Prop :=
  ∃ l', exec i s = .next (s.setLane i.stamp.lane l') ∧ P l'

/-- The lane takes the host command now (R336), it is no repetition (R348), and every check of R337 passes. -/
def Lane.ready (l : Lane) (op : Nat) (m : Msg) : Bool :=
  match l.take op m with
  | some t => (t.aside op m).isNone && (t.gate op m).isNone
  | none => false

/-- The lane as the own rules of a command find it: the command taken from its queue and counted. -/
def Lane.taken (l : Lane) (op : Nat) (m : Msg) : Lane :=
  match l.take op m with
  | some l' => l'.noteV1 m
  | none => l

/-- A host command answers a next state in which its lane, with effects that meet P, has answered with a status and result bytes. -/
def Answers (i : Instr) (s : State) (op : Nat) (m : Msg) (status : Nat) (res : List Byte) (P : Lane → Prop) : Prop :=
  ∃ l', exec i s = .next (s.put i.stamp (l'.respond (m.key op) status res)) ∧ P l'

/-- A host command answers a next state in which its lane, with effects that meet P, holds the command until a later step writes the response. -/
def Defers (i : Instr) (s : State) (op : Nat) (m : Msg) (P : Lane → Prop) : Prop :=
  ∃ l', exec i s = .next (s.put i.stamp { l' with mb.deferred := l'.mb.deferred ++ [m.key op] }) ∧ P l'

/-! ### Blocks and frames that arrive -/

/-- A block reaches its own action (R20, R21, R240, R254): the link hardware has power, the sequence number follows that of the last block with the idle blocks between them or is the first, the block is not relayed, its link is up or it belongs to the handshake, it is meant for no other lane, and neither FAILSILENT nor an out-voted sender shuts it out. -/
def Lane.hears (l : Lane) (p : LaneId) (b : Block) (kind : Nat) : Bool :=
  p != l.id && l.linkOn && (match (l.lnk p).seqRx with | some q => (l.lnk p).inOrder q b.seq l.now | none => true) && !bit b.kind.toNat 7 &&
  ((l.lnk p).up || handshake kind) && (l.st != .failSilent || kind == 0x24) && (!(l.peer p).ignored || kind == 0x12 || kind == 0x22) && (b.dest.getD l.id) == l.id

/-- The lane as the action of a block finds it: the block is counted on its link and relayed where R255 asks for it. -/
def Lane.heard (l : Lane) (p : LaneId) (b : Block) (urgent : Bool) : Lane :=
  (l.setLnk p { l.lnk p with seqRx := some b.seq, lastValid := l.now }).relayBlock p b urgent

/-- A frame of the own channel passes every check of Table NF-4 and has one of the types that a command takes. -/
def Lane.passes (l : Lane) (f : RxFrame) (tys : List Nat) : Bool :=
  let x := l.parse f
  l.netOn && decide (f.port < 2) && !(l.i1 && f.port != 0) && !(x.node == l.np 0xB105 && x.ok && f.fcsOk && x.slot != 0xFFFF) && !(l.secondPass f.port x && f.fcsOk) &&
  (l.timed || l.net.st == .coldstart || x.ty == 2 || !x.ok) && l.rxFail f x == 0 && tys.contains x.ty

/-- The lane as the action of a frame finds it: the frame is counted and marked as taken. -/
def Lane.marked (l : Lane) (f : RxFrame) : Lane :=
  let x := l.parse f
  (if f.fcsOk && l.timed then l.authCount x false else l).rxMark f x

end Sys2Proof.Machine
end

