-- ==== Sys2Proof/Certificates/Slice0/Obligations.lean ====
section
/-! DEFINITION. The statements about the module. A host command's hypotheses are that the lane takes it and that it passes the checks of R337, with what its own rules ask; a frame is said by Reports: every field not named there is as before. -/

open Sys2Proof Sys2Proof.Machine

/-! ### The module as a whole -/

/-- Every step takes the command at the front of the queue and carries it out on the state with the queue's rest. On an empty queue the module idles: the model's choice (log entry 1), as the table has no row for a tick. -/
def Obligations.StepTakesFront : Prop :=
  (∀ (s : State) (c : Instr) (rest : List Instr), step { s with pending := c :: rest } = exec c { s with pending := rest }) ∧
  (∀ s : State, s.pending = [] → step s = .next s)

/-- After reset nothing waits, every lane is OFF with LANE_OK low and its cell PASSIVE (Table LN-4, R25, R219), every motor slot is disabled, and every byte memory is empty.
The model's choice in log entry 3 enters here. -/
def Obligations.ResetState : Prop :=
  State.reset.pending = [] ∧ State.reset.Inv ∧
  ∀ i, let l := State.reset.lane i
    l.st = .off ∧ l.laneOk = false ∧ l.fn.cell = .passive ∧ (∀ k, (l.motor k).enabled = false) ∧
    (∀ n, (l.src n).st = .armed) ∧ Memory.wf l.mem.sram ∧ Memory.wf l.mem.mram ∧ Memory.wf l.boot.otp ∧ Memory.wf l.mb.ring

/-- A command completes exactly when it names only units that exist; one that names another stops and says so.
The model's choice in log entry 119 enters here. -/
def Obligations.WellFormedCompletes : Prop :=
  ∀ (i : Instr) (s : State),
    (i.wf = true → ∃ t, exec i s = .next t) ∧ (i.wf = false → exec i s = .fault .noSuchUnit)

/-- A command acts on the lane it names alone: the two other lanes, bit for bit, and the waiting commands stay as they are (R14). The lane that a command names stands in its place after it even if it did not before: the code and the pin are wired.
The model's choice in log entry 118 enters here. -/
def Obligations.OtherLanesUntouched : Prop :=
  (∀ (i : Instr) (s t : State), exec i s = .next t →
    t.pending = s.pending ∧ ∀ j, j ≠ i.stamp.lane → t.lane j = s.lane j) ∧
  (∀ (i : Instr) (s t : State), exec i s = .next t → (t.lane i.stamp.lane).placed i.stamp.lane)

/-- Whatever command a step carries out, the lanes stand in their places after it if they did before: each bears its lane code, and LANE_OK is high exactly in the driving states.
The model's choice in log entry 118 enters here. -/
def Obligations.StepKeepsPlaces : Prop :=
  ∀ s t : State, s.Inv → step s = .next t → t.Inv

/-! ### Byte memories -/

/-- Every step keeps every byte memory of every lane in its canonical form: SRAM, MRAM, OTP and ring memory; from any state in which they have it, not from reset alone.
The model's choice in log entry 3 enters here. -/
def Obligations.StepKeepsMemories : Prop :=
  ∀ s t : State, (∀ i, (s.lane i).memories) → step s = .next t → ∀ i, (t.lane i).memories

/-- No step clears an OTP bit: in every lane, each bit that is programmed before a step is programmed after it (R428, R430). -/
def Obligations.OtpBitsStay : Prop :=
  ∀ (s t : State) (i : LaneId) (b : Nat), (s.lane i).memories → step s = .next t →
    cellRead (s.lane i).boot.otp b &&& cellRead (t.lane i).boot.otp b = cellRead (s.lane i).boot.otp b

/-- A byte that is written reads back, and every other byte reads as before. Bytes stored from an address read back in order, and every byte outside their range reads as before. Two memories in canonical form that read alike everywhere are the same data. -/
def Obligations.ByteMemories : Prop :=
  (∀ (m : List Host.Cell) (a b : Nat) (v : Byte), cellsOk m = true →
    cellRead (cellWrite m a v) b = if b = a then v else cellRead m b) ∧
  (∀ (m : List Host.Cell) (a b : Nat) (bs : List Byte), cellsOk m = true →
    cellRead (cellStore m a bs) b = if a ≤ b ∧ b < a + bs.length then bs.getD (b - a) 0 else cellRead m b) ∧
  (∀ m n : List Host.Cell, cellsOk m = true → cellsOk n = true → (∀ a, cellRead m a = cellRead n a) → m = n)

/-! ### Gate drive -/

/-- A valid edge measured on an adaptive channel that is not frozen moves its strength code by at most one step (R38): up to the maximum when the edge was slower than the target by more than the band, down to the minimum when it was faster by more than that, and else not at all; the targets range from 50 ns to 400 ns. The 1,000th edge in a row pinned at the maximum counts one wear (R39). Only the channel's codes, the edge stamps of its half-bridge and the wear counter with its flag change, beside reports. -/
def Obligations.AdaptiveCode : Prop :=
  (∀ i ∈ [0x2101, 0x2102], ∃ r, prow i = some r ∧ r.n = 32 ∧ r.lo = 50 ∧ r.hi = 400) ∧
  ∀ (s : State) (a : At) (ch : Nat) (on : Bool) (time : Nat), let l := s.laneAt a
    let g := l.gch ch
    ch < 32 → l.p 0x2100 ch = 1 → l.frozenCh ch = false → l.drnLow (ch / 2) = false →
    let tgt := 16 * l.p (if on then 0x2101 else 0x2102) ch
    let band := 16 * l.p 0x2103
    let c := l.codeUse ch on
    let new := if tgt + band < 5 * time then min (c + 1) (l.codeMax ch on) else if 5 * time + band < tgt then max (c - 1) (l.codeMin ch on) else c
    let pin (n : Nat) : Nat := if new = l.codeMax ch on ∧ tgt + band < 5 * time then n + 1 else 0
    let full : Bool := pin (if on then g.pinnedOn else g.pinnedOff) == 1000
    Next (.gateEdgeMeasured a ch on time true) s (fun l' =>
      l'.gd = { l.gd with ch := l.gd.ch.set ch (if on then { g with codeOn := new, pinnedOn := pin g.pinnedOn } else { g with codeOff := new, pinnedOff := pin g.pinnedOff }),
                          wear := l.gd.wear + b2n full } ∧
      Reports { l with gd := l'.gd, sns := { l.sns with edges := l.sns.edges.set (ch / 2) (recent l.now (us 4) (l.sns.edges.getD (ch / 2) [])) },
                       red := { l.red with wearLim := l'.red.wearLim } } l')

/-- A VDS comparator that holds for its filter time after blanking latches its half-bridge and turns its switch off at the soft-off code (R41, R50), and 10 ms after a VDS fault the latch clears while retries remain, else it stays until power cycle (R51); the double-drive comparators sink both gates at code 63 and latch until power cycle (R54); both switches commanded on are turned off until both commands have been off (R53).
The model's choices in log entries 22, 27 and 135 enter here. -/
def Obligations.HalfBridgeLatches : Prop :=
  ∀ (s : State) (a : At) (hb : Nat) (v : VdsOver) (t : Nat), let l := s.laneAt a
    let h := l.hb hb
    let ch := 2 * hb + b2n (!v.high)
    hb < 16 →
    (h.vds = .clear → h.doubleDrive = false → l.vdsHolds hb v = true →
      Next (.vdsFault a hb v) s (fun l' =>
        ∃ x : GateCh, (ch < l.gd.ch.length → x = { l.gch ch with soft := true, sink := some (l.p 0x210B) }) ∧
        l'.gd = { l.gd with hb := l.gd.hb.set hb { h with vds := if l.p 0x2124 = 0 then .untilPowerCycle else .latched l.now, vdsRetry := l.p 0x2124 }, ch := l.gd.ch.set ch x } ∧
        Reports { l with gd := l'.gd, mot := l'.mot, mp := l'.mp, held := l'.held } l')) ∧
    (h.vds = .latched t → t + ms 10 ≤ l.now → l.fwRuns = true →
      Next (.vdsAutoClear a hb) s (fun l' =>
        if recentClears h l.now < h.vdsRetry then
          Reports (((l.setHb hb { h with vds := .clear, vdsHold := l.p 0x2130 hb == 0, autoClears := recent l.now (sec 1) h.autoClears }).softEnd hb).freshStart hb) l'
        else l'.gd = (l.setHb hb { h with vds := .untilPowerCycle }).gd ∧ Reports { l with gd := l'.gd, mot := l'.mot } l')) ∧
    (h.doubleDrive = false →
      Next (.gateDoubleDrive a hb) s (fun l' =>
        ∃ x y : GateCh, (2 * hb + 1 < l.gd.ch.length → x = { l.gch (2 * hb) with sink := some 63 } ∧ y = { l.gch (2 * hb + 1) with sink := some 63 }) ∧
        l'.gd = { l.gd with hb := l.gd.hb.set hb { h with doubleDrive := true }, ch := (l.gd.ch.set (2 * hb) x).set (2 * hb + 1) y } ∧
        Reports { l with gd := l'.gd, mot := l'.mot, mp := l'.mp, held := l'.held } l')) ∧
    Next (.shootReq a hb) s (fun l' =>
      Reports (l.setHb hb { l.dirHb hb l.now with interlock := if l.p 0x2130 hb = 1 ∧ h.den = false then .waitPeriod else .waitBothOff, shootAt := l.now }) l')

/-- The gate supply and the bootstraps (R43, R45, R46): VGD out of its thresholds sets its flag; 1 ms inside them clears both, and every timebase awaits its next period start; a bootstrap below its threshold turns its high side off and holds it until it recovers. Direct mode (R55): a level of the pulse input counts once it has stood for 20 ns, a shorter pulse is ignored; with the enable high it drives the high side when high and the low side when low, each after the dead time; with the enable low both are off. Only that half-bridge changes.
The model's choice in log entry 132 enters here. -/
def Obligations.GateSuppliesAndDirectMode : Prop :=
  (∀ (s : State) (a : At) (hb : Nat) (ov : Bool), let l := s.laneAt a
    let h := l.hb hb
    let g := l.dirHb hb l.now
    Next (.vgdFault a ov) s (fun l' =>
      l'.gd = { l.gd with vgdOv := l.gd.vgdOv || ov, vgdUv := l.gd.vgdUv || !ov } ∧ Reports { l with gd := l'.gd, mot := l'.mot, mp := l'.mp, held := l'.held } l') ∧
    (l.vgdBad = true →
      Next (.vgdRecovery a) s (fun l' =>
        l'.gd = { l.gd with vgdUv := false, vgdOv := false, vgdHold := 0x00FF } ∧ Reports { l with gd := l'.gd, mot := l'.mot } l')) ∧
    (hb < 16 → h.bstUv = false →
      Next (.bstUv a hb) s (fun l' =>
        (hb < l.gd.hb.length → l'.switchOn hb true = false) ∧
        Reports (l.setHb hb { g with bstUv := true, bstHold := true, refreshDue := l.p 0x2110 hb != 0 && l.p 0x2130 hb == 0 }) l')) ∧
    (hb < 16 → h.refreshing = false → (h.waitBst = true → l.waitFree hb = [hb]) →
      Next (.bstUvRecover a hb) s (fun l' =>
        Reports (l.setHb hb { g with bstUv := false, bstRose := l.now, bstHold := g.bstHold && !h.waitBst, waitBst := false, bstAt := if h.waitBst then l.now else g.bstAt }) l'))) ∧
  (∀ (s : State) (a : At) (hb : Nat) (level : Bool), let l := s.laneAt a
    let h := l.hb hb
    let g := l.dirHb hb l.now
    hb < 16 →
    (h.dpul ≠ level →
      Next (.directPulseEdge a hb level) s (fun l' => Reports ({ l with held := l'.held }.setHb hb { g with dpul := level, dpulAt := l.now }) l')) ∧
    (g.den ≠ level →
      Next (.directEnableChange a hb level) s (fun l' =>
        Reports (l.setHb hb (if level then { g with den := true, dirAt := l.now }
          else { g with den := false, interlock := if g.interlock = .waitBothOff ∧ l.p 0x2130 hb = 1 then .waitPeriod else g.interlock })) l'))) ∧
  (∀ (h : HalfBridge) (d : Bool) (t : Nat), h.dpul ≠ h.dpulOk →
    (t < h.dpulAt + 8 → h.follow d t = h) ∧ (h.dpulAt + 8 ≤ t → (h.follow d t).dpulOk = h.dpul ∧ (h.follow d t).dirAt = h.dpulAt + 8)) ∧
  (∀ (l : Lane) (hb : Nat) (high : Bool), let g := l.dirHb hb l.now
    l.p 0x2130 hb = 1 → mayDrive l.st = true → l.hbHeld hb = false → l.extCh hb = false → (l.pch hb).tripped = false → l.pwm.frozen = false →
    g.interlock = .clear → l.busSink hb = false → l.lowOnly hb = false → (high = true → g.bstUv = false ∧ g.bstHold = false ∧ g.waitBst = false) →
    l.switchOn hb high = (g.den && g.dpulOk == high && decide (max (fine g.dirAt) (l.pch hb).cutAt + l.p 0x2131 hb * 128 / 5 ≤ fine l.now)))

/-- The gate-drive commands of the host: the comparator self-test marks the named idle half-bridges and answers at its end (R58, R59); clearing ends the latches of the named half-bridges but for those that stay until power cycle (R51); the fixed codes are set (R40). The background test of the idle half-bridges stamps its pass (Table RD-5).
The model's choice in log entry 7 enters here. -/
def Obligations.GateCommands : Prop :=
  ∀ (s : State) (a : At) (m : Msg) (pass : List Byte) (count : Nat),
    (let l := (s.laneAt a).taken 0x36 m
     let named := (List.range 16).filter (bit (m.u16 0))
     (s.laneAt a).ready 0x36 m = true → l.gd.test = none → l.inSection 7 = false → l.pwr.entry = none →
     named.any (fun k => l.hbTested k || l.inEnabledSlot k || !l.gatesOff k) = false →
     Defers (.gdSelftest a m) s 0x36 m (fun l' =>
       l'.gd.test = some { mask := .ofNat 16 (m.u16 0), start := l.now } ∧ Reports { l with gd := l'.gd } l')) ∧
    (let l := s.laneAt a
     l.gd.test.isSome = true → l.gdTestDue = true →
     Next (.gdSelftestEnd a pass count) s (fun l' =>
       l'.gd.test = none ∧ (∀ h ∈ l'.gd.hb, h.underTest = false) ∧ Reports { l with gd := l'.gd, ports := l'.ports } l')) ∧
    (let l := (s.laneAt a).taken 0x34 m
     let named := (List.range 16).filter (bit (m.u16 0))
     (s.laneAt a).ready 0x34 m = true → named.any l.hbTested = false → named.any l.inEnabledSlot = false →
     Answers (.gdFaultClear a m) s 0x34 m stDone (leBytes 2 (((l.clearable (m.u16 0)).map (fun k => 2 ^ k)).sum) ++ [0, 0]) (fun l' =>
       l' = l.eachOf (l.clearable (m.u16 0)) (fun k l => ((l.setHb k { l.hb k with vds := .clear }).softEnd k).freshStart k))) ∧
    (let l := (s.laneAt a).taken 0x35 m
     (s.laneAt a).ready 0x35 m = true → l.hbTested (m.u8 0 / 2) = false → m.u8 0 < 32 →
     l.p 0x2104 (m.u8 0) ≤ m.u8 1 → m.u8 1 ≤ l.p 0x2105 (m.u8 0) → l.p 0x2106 (m.u8 0) ≤ m.u8 2 → m.u8 2 ≤ l.p 0x2107 (m.u8 0) →
     Answers (.gdSetStrength a m) s 0x35 m stDone [] (fun l' =>
       l'.pwork 0x2108 (m.u8 0) = [m.u8 1] ∧ l'.pwork 0x2109 (m.u8 0) = [m.u8 2] ∧ Reports { l with params := l'.params } l')) ∧
    (let l := s.laneAt a
     l.st.driving = true → (∀ k < 16, l.inEnabledSlot k = true ∨ pass.getD k 0 = 0xFF) →
     Next (.gateComparatorTest a pass) s (fun l' => Reports { l with gd := { l.gd with lastCmpTest := l.now } } l'))

/-! ### PWM and trips -/

/-- A period start (R62, R65, R70): the timebase stamps it, counts it, puts a staged delay-line map into force and removes at most the slew from its phase error. No other timebase changes, but where a change of the period of timebase 0 makes the others take their phase anew. At a load point with the ready flag set in time, every channel of the timebase takes its shadow together and the flags are cleared (R67). The debug halt (R85, R86): with PWM_HALT_ACTION 0 an open gate freezes the counters and stops the step generators, and the exit lets counters, load points and dead times go on from where they stood, and leaves a tripped source 12 held. -/
def Obligations.PeriodBoundaries : Prop :=
  (∀ (s : State) (a : At) (p : Period), let l := s.laneAt a
    p.tb < 8 → l.pwm.frozen = false →
    let b := l.tbase p.tb
    Next (.periodStart a p) s (fun l' =>
      (b.carryClear = false → l'.pwm.tb = l.pwm.tb.set p.tb
        { b with started := l.now, periods := b.periods + 1, mapTaps := b.pendingMap.getD b.mapTaps, pendingMap := none, coarse := b.coarse && b.pendingMap.isNone,
                 syncErr := slewSync b.syncErr ((l.periodRelease p.tb).p 0x3105) }) ∧
      (p.tb < l.pwm.tb.length → (l'.tbase p.tb).periods = b.periods + 1 ∧ (l'.tbase p.tb).carryClear = false) ∧ (p.tb ≠ 0 → ∀ i, i ≠ p.tb → l'.tbase i = l.tbase i) ∧
      Reports { l with pwm := l'.pwm, gd := l'.gd, mot := l'.mot, mp := l'.mp, params := l'.params, held := l'.held } l')) ∧
  (∀ (s : State) (a : At) (tb : Nat), let l := s.laneAt a
    tb < 8 → l.pwm.frozen = false → (l.tbase tb).ready = true → (l.tbase tb).readyAt + 80 ≤ l.now →
    Next (.shadowLoad a tb) s (fun l' =>
      (∀ c, c < 16 → l.tbOf c = tb → (l'.pch c).tOn = (l.pch c).shadow) ∧
      (∀ c, l.tbOf c ≠ tb → l'.pch c = l.pch c) ∧
      l'.pwm.tb = l.pwm.tb.set tb { l.tbase tb with ready := false, burst := false } ∧
      (∀ k, (l.motor k).tail = false → (l.motor k).probe = none → l'.motor k = l.motor k) ∧
      Reports { l with pwm := l'.pwm, mot := { l.mot with slot := l'.mot.slot } } l')) ∧
  (∀ (s : State) (a : At), let l := s.laneAt a
    let w := l.mem.weevil
    let x := l.src 12
    let t := l.thaw (l.now - l.pwm.haltAt)
    (l.boot.pu.debugEn = true → l.powered = true → l.pwm.halted = false → l.bist.run = none → l.p 0x3150 = 0 →
      Next (.debugHaltEntry a) s (fun l' =>
        (∀ i < l.mp.sg.length, i < 4 → (l'.sgen i).w = 0) ∧
        Reports { l with pwm := { l.pwm with halted := true, haltAt := l.now, frozen := true }, mp := { l.mp with sg := l'.mp.sg },
                         mem := { l.mem with weevil := { w with paused := w.paused || w.phase == .running } } } l')) ∧
    (l.pwm.halted = true → l.pwm.frozen = true → l.pwm.force = false → l.net.st ≠ .synced →
      Next (.debugHaltExit a) s (fun l' =>
        Reports { t with pwm := { t.pwm with halted := false, frozen := false, src := l.pwm.src.set 12 { x with input := false, pin := false, st := if x.st = .active then .held else x.st } },
                         mem := { l.mem with weevil := { w with paused := false } } } l')))

/-- A trigger register whose destination is an idle ADC starts that ADC's sequence at the instant of the trigger (R69, R92); a calibration count between 48 and 90 taps is staged for every timebase and ends coarse placement (R70, R71). -/
def Obligations.TriggerAndCalibration : Prop :=
  ∀ (s : State) (a : At) (n d : Nat), let l := s.laneAt a
    l.pwm.frozen = false →
    (n < 32 → (l.pwm.cmp.getD n {}).dest = d + 1 → d < 4 → l.pvals 0x4110 d ≠ [] → (l.adc d).firedAt ≠ some l.now → (l.adc d).left = [] →
      Next (.triggerFire a n) s (fun l' =>
        l'.sns = (l.setAdc d { l.adc d with left := l.pvals 0x4110 d, trigAt := l.now, entry := 1, firedAt := some l.now }).sns ∧
        Reports { l with sns := l'.sns, pos := l'.pos } l')) ∧
    (48 ≤ n → n ≤ 90 →
      Next (.delayCal a n) s (fun l' =>
        Reports { l with pwm := { l.pwm with calBad := 0, calTaps := n, calAt := l.now, coarseOnly := false,
                                             tb := l.pwm.tb.map (fun (b : TimeBase) => { b with pendingMap := some n }) } } l'))

/-- Safe levels (R79): on a channel that some source covers, a switch is on only if the safe level of every source that covers it holds it on, and else it is off. Bit 0 is the low side and bit 1 the high side. -/
def Obligations.SafeLevels : Prop :=
  ∀ (l : Lane) (ch k : Nat), k < 2 → (∃ n < 14, (l.src n).st ≠ .armed ∧ l.covers n ch = true) →
    (bit (l.safeLevel ch) k = true ↔ ∀ n < 14, (l.src n).st ≠ .armed → l.covers n ch = true → bit (l.safeOf n ch) k = true)

/-- A trip source that stands armed becomes active, counts the trip, and holds every channel it covers (R80, R82); while no self-test runs on the lane, no other source changes. Its input going inactive leaves a latched source held and an automatic one resuming. Each source that TRIP_CLEAR names and that stands held goes to resuming, and the response gives the states of the 14 sources (R84); TRIP_FORCE makes source 12 active (R77); TRIP_STATUS answers states and counts and changes nothing.
The model's choice in log entry 7 enters here. -/
def Obligations.Trips : Prop :=
  (∀ (s : State) (a : At) (n : Nat), let l := s.laneAt a
    let x := l.src n
    n < 13 →
    (x.st = .armed → x.input = false → l.bist.run = none → l.gd.test = none →
      Next (.tripInputActive a n) s (fun l' =>
        l'.pwm.src = l.pwm.src.set n { x with st := .active, input := true, pin := if n < 8 then l.p 0x3130 n == 1 else true,
                                              count := satInc x.count, burst := !l.latched n, seen := 0, clean := 0 } ∧
        ∀ c < l.pwm.ch.length, c < 16 → l.covers n c = true → (l'.pch c).tripped = true)) ∧
    (x.st = .active →
      Next (.tripInputInactive a n) s (fun l' =>
        Reports { l.setSrc n { x with input := false, pin := if n < 8 then l.p 0x3130 n == 0 else false,
                                      st := if l.latched n then .held else .resuming }
                  with sns := if 8 ≤ n ∧ n < 12 then { l.sns with ds := l.sns.ds.set (n - 8) { l.dsIn (n - 8) with above := false } } else l.sns } l'))) ∧
  (∀ (s : State) (a : At) (m : Msg),
    (let l := (s.laneAt a).taken 0x30 m
     let named := (List.range 14).filter (bit (m.u16 0))
     (s.laneAt a).ready 0x30 m = true → m.u16 0 < 2 ^ 13 → l.inSection 9 = false → named.any (fun n => (l.src n).st == .active) = false →
     ∃ l', Answers (.tripClear a m) s 0x30 m stDone l'.tripStates (fun x => x = l') ∧
       (∀ n, l'.src n = if n ∈ named ∧ (l.src n).st = .held then { l.src n with st := .resuming } else l.src n) ∧
       Reports { l with pwm := { l.pwm with src := l'.pwm.src } } l') ∧
    (let l := (s.laneAt a).taken 0x31 m
     (s.laneAt a).ready 0x31 m = true → l.inSection 9 = false → l.bist.run = none → l.gd.test = none →
     m.u8 0 = 1 → (l.src 12).st = .armed → (l.src 12).input = false → l.pwm.src.length = 14 →
     Answers (.tripForce a m) s 0x31 m stDone [1, 0, 0, 0] (fun l' =>
       l'.pwm.src = l.pwm.src.set 12 { l.src 12 with st := .active, input := true, pin := true, count := satInc (l.src 12).count, burst := false, seen := 0, clean := 0 } ∧
       ∀ c < l.pwm.ch.length, c < 16 → l.covers 12 c = true → (l'.pch c).tripped = true)) ∧
    (let l := (s.laneAt a).taken 0x32 m
     (s.laneAt a).ready 0x32 m = true →
     Answers (.tripStatus a m) s 0x32 m stDone (l.tripStates ++ (List.range 14).flatMap (fun n => leBytes 4 (l.src n).count.toNat)) (fun l' => l' = l)))

/-! ### Sensing and the actuator bus -/

/-- A conversion of a running sequence reaches the loop-engine input latch with VALID, its source and its count (R92, Table SN-3); the trigger instant is its stamp. Nothing else changes. A delta-sigma input above OV_HARD marks its comparator, sets the REGEN latch where the input is routed to it, and activates trip source 8 to 11 (R97); a stuck stream or lost clock raises the fault once and may set the latch (R99). A sample of the die temperature gives the three readings and their instant (R102, R103); 145 °C held for 1 ms ends in FAILSILENT; a disagreement that lasts 100 ms drops the outlying sensor of three; the third crack reading in a row declares a crack and the common-cause flag.
The model's choice in log entry 25 enters here. -/
def Obligations.Conversions : Prop :=
  (∀ (s : State) (a : At) (k code src : Nat) (rest : List Nat), let l := s.laneAt a
    let c := l.adc k
    k < 4 → code < 4096 → c.left = src :: rest →
    Next (.adcConversionEnd a k code) s (fun l' =>
      Reports ((l.setLatch src (adcWord true (l.settle src (c.trigAt + 2 + 80 * (c.entry - 1))) src (c.count + 1) code) c.trigAt).setAdc k
        { c with left := rest, entry := c.entry + 1, count := (c.count + 1) % 128, lost := c.lost.filter (fun x => x.1 != src || decide (c.trigAt ≤ x.2.1)) }) l')) ∧
  (∀ (s : State) (a : At) (k : Nat), let l := s.laneAt a
    let d := l.dsIn k
    k < 4 →
    (l.p 0x4133 k ≠ 0 → l.bist.run = none → l.gd.test = none → (l.src (8 + k)).st = .armed → (l.src (8 + k)).input = false →
      Next (.ovHard a k) s (fun l' =>
        l'.sns.ds = l.sns.ds.set k { d with above := true, aboveRel := true, regen := d.regen || l.p 0x4135 k == 1 } ∧
        l'.pwm.src = l.pwm.src.set (8 + k) { l.src (8 + k) with st := .active, input := true, pin := true, count := satInc (l.src (8 + k)).count,
                                                                 burst := !l.latched (8 + k), seen := 0, clean := 0 })) ∧
    (d.modFault = false →
      Next (.dsModFault a k) s (fun l' =>
        Reports ((l.setDs k { d with modFault := true, valid := false, regen := d.regen || l.p 0x4135 k == 1 }).inhStart (l.p 0x4135 k == 1)) l'))) ∧
  (∀ (s : State) (a : At) (t0 t1 t2 r : F32) (t : Nat), let l := s.laneAt a
    Next (.tempSample a t0 t1 t2) s (fun l' =>
      l'.sns.temp = (l.sns.temp.zip [t0, t1, t2]).map (fun (p : Temp × F32) => { p.1 with value := p.2 }) ∧ l'.sns.tempAt = l.now ∧
      Reports { l with sns := l'.sns, bist := l'.bist } l') ∧
    (l.sns.hotSince = some t → t + ms 1 ≤ l.now → l.st ≠ .off → l.st ≠ .waking → l.st ≠ .save → l.st ≠ .failSilent →
      Next (.tempShutdown a) s (fun l' => l'.st = .failSilent ∧ ∀ k < 8, (l'.motor k).enabled = false)) ∧
    (l.sns.disagree = some t → t + ms 100 ≤ l.now → l.validTemps = [0, 1, 2] →
      Next (.tempSensorFault a) s (fun l' =>
        l'.sns.temp = l.sns.temp.set (outlier l.tempOf) { l.sns.temp.getD (outlier l.tempOf) {} with dropped := true } ∧
        Reports { l with sns := { l.sns with temp := l'.sns.temp, disagree := l'.sns.disagree, hotSince := l'.sns.hotSince } } l')) ∧
    Next (.crackMeasure a r) s (fun l' =>
      l'.sns.crackR = r ∧ l'.sns.crackAt = l.now ∧ l'.sns.crackRun = (if l.crackBad r then l.sns.crackRun + 1 else 0) ∧
      l'.sns.cracked = (l.sns.cracked || (l.crackBad r && l.sns.crackRun == 2)) ∧
      Reports { l with sns := l'.sns } l'))

/-- The actuator bus (R228, R229, R230): when OV1 rises, each chopper channel that it makes a sink and no trip holds is on for the whole period, and when OV1 falls, each that is a sink no more is off, all other channels going on; OV2 puts fast three-phase slots into active short and turns the other slots off, the chopper excepted; its end, which comes no earlier than FN_OV2_HOLD_T after OV2 last rose, releases every slot. -/
def Obligations.ActuatorBus : Prop :=
  ∀ (s : State) (a : At) (d k : Nat), let l := s.laneAt a
    d < 4 →
    (bit (l.p 0x4123) d = true → (l.drn d).ov1 = false →
      Next (.busOv1 a d) s (fun l' =>
        (∀ c < l.pwm.ch.length, l'.pch c = if c ∈ l.sinkChs ∧ l'.busSink c = true ∧ (l.pch c).tripped = false then { l.pch c with emitted := l.periodFine (l.tbOf c) } else l.pch c) ∧
        l'.sns = { (l.setDrn d { l.drn d with ov1 := true }).sns with ov1At := l.now } ∧ Reports { l with sns := l'.sns, pwm := { l.pwm with ch := l'.pwm.ch } } l')) ∧
    ((l.drn d).ov1 = true →
      Next (.busOv1Clear a d) s (fun l' =>
        (∀ c < l.pwm.ch.length, l'.pch c = if c ∈ l.sinkChs ∧ l'.busSink c = false then { l.pch c with emitted := 0 } else l.pch c) ∧
        l'.sns = (l.setDrn d { l.drn d with ov1 := false }).sns ∧ Reports { l with sns := l'.sns, pwm := { l.pwm with ch := l'.pwm.ch } } l')) ∧
    (bit (l.p 0x4123) d = true → l.fn.ov2On = false →
      Next (.busOv2 a d) s (fun l' =>
        l'.sns = (l.setDrn d { l.drn d with ov2 := true, ov2At := l.now }).sns ∧ l'.fn = { l.fn with ov2On := true } ∧
        (k < 8 → (l.motor k).cfg.kind = .threePhase → (l.motor k).fly ≠ .zeroRun → (l.motor k).fly ≠ .ramp →
          l'.motor k = { l.motor k with ov2 := true, laneSafe := true, short := !l.vgdBad && l.fastFor k (l.asThr k) }) ∧
        (k < 8 → (l.motor k).cfg.kind = .chopper → l'.motor k = l.motor k) ∧
        (∀ i < l.mot.slot.length, i < 8 → (l.motor i).cfg.kind ≠ .none → (l.motor i).cfg.kind ≠ .chopper →
          (l'.motor i).ov2 = true ∧ (l'.motor i).laneSafe = true ∧ ((l.motor i).cfg.kind ≠ .threePhase → (l'.motor i).short = false)) ∧
        Reports { l with sns := l'.sns, fn := l'.fn, mot := { l.mot with slot := l'.mot.slot }, le := l'.le, mp := l'.mp, held := l'.held } l')) ∧
    (l.fn.ov2On = true → l.now < (l.drn d).ov2At + ms (l.p 0x9150) → Next (.ov2Release a d) s (Reports l)) ∧
    (l.fn.ov2On = true → (l.drn d).ov2At + ms (l.p 0x9150) ≤ l.now → (∀ i < 4, i ≠ d → (l.drn i).ov2 = false) → d < l.sns.drn.length →
      Next (.ov2Release a d) s (fun l' =>
        l'.sns = (l.setDrn d { l.drn d with ov2 := false }).sns ∧ l'.fn = { l.fn with ov2On := false } ∧ ∀ k < 8, (l'.motor k).ov2 = false))

/-! ### Position feedback -/

/-- A Hall transition to a neighbouring sector that has stood for the filter time gives the sector and the direction, counts one transition and bears the stamp of its first sample (R106, R107); an illegal code that stands for its time counts towards the fault (R108); 100 ms without a transition stop the speed (R110). No other group changes. Levels of an incremental input count once they have stood for the filter time, one step in their direction with the stamp of the edge (R112); the first Z edge since the slot enable in mode 2 zeroes the count (R113).
The model's choices in log entries 31, 33 and 143 enter here. -/
def Obligations.HallsAndEncoders : Prop :=
  (∀ (s : State) (a : At) (g x : Nat) (e : HallEdge), let l := s.laneAt a
    let h := l.hall g
    g < 6 → e.code < 8 →
    (hallSector e.code = some x → l.stood e.since (l.p 0x5100 g) = true → h.legal = true → h.sector < 6 → (x = (h.sector + 1) % 6 ∨ x = (h.sector + 5) % 6) →
      Next (.hallTransition a g e) s (fun l' =>
        ∃ y : Hall, l'.pos.hall = l.pos.hall.set g y ∧ y.code = e.code ∧ y.sector = x ∧ y.fwd = decide (x = (h.sector + 1) % 6) ∧
          y.net = h.net + (if x = (h.sector + 1) % 6 then 1 else -1) ∧ y.lastT = some e.since ∧ y.stopped = false ∧ y.illegalAt = none)) ∧
    (l.stood e.since (l.p 0x5100 g) = false → Next (.hallTransition a g e) s (fun l' => Reports l l')) ∧
    (hallSector e.code = none → l.stood e.since (l.p 0x5100 g + 1000 * l.p 0x5103) = true →
      Next (.hallIllegal a g e) s (fun l' =>
        ∃ y : Hall, l'.pos.hall = l.pos.hall.set g y ∧ y.code = e.code ∧ y.illTimes = recent l.now (sec 1) h.illTimes ∧
          y.lost = (h.lost || decide (3 ≤ (recent l.now (sec 1) h.illTimes).length)) ∧ y.sector = h.sector ∧ y.net = h.net)) ∧
    (∀ t, h.lastT = some t → t + ms 100 ≤ l.now →
      Next (.hallSpeedTimeout a g) s (fun l' => Reports (l.setHall g { h with stopped := true }) l'))) ∧
  (∀ (s : State) (a : At) (k : Nat) (x y : PinLvl), let l := s.laneAt a
    let e := l.enc k
    let u := if l.stood x.since (l.p 0x5111 k) then x.lvl else e.a
    let v := if l.stood y.since (l.p 0x5111 k) then y.lvl else e.b
    let d := (quadPhase u v + 4 - quadPhase e.a e.b) % 4
    k < 2 →
    (d = 0 → Next (.encoderEdge a k x y) s (fun l' => Reports l l')) ∧
    (d = 1 ∨ d = 3 →
      Next (.encoderEdge a k x y) s (fun l' =>
        l'.pos.enc = l.pos.enc.set k { e with a := u, b := v, count := s32 (e.count + if d = 1 then 1 else -1), fwd := d == 1, lastT := if u = e.a then y.since else x.since })) ∧
    (l.p 0x5112 k = 2 → e.zFirst = true →
      Next (.encZEdge a k) s (fun l' =>
        (∃ y : Enc, l'.pos.enc = l.pos.enc.set k y ∧ y.count = 0 ∧ y.zCap = some (0, e.fwd) ∧ y.zFirst = false ∧ y.a = e.a ∧ y.b = e.b ∧
          y.fwd = e.fwd ∧ y.lastT = e.lastT) ∧
        Reports { l with pos := l'.pos } l')))

/-- A serial port judges the reply of its request, and at its presentation time shows the result of its oldest request, or an invalid one where no reply was checked by then, with the count of bad samples (R118, R121, Table PF-7). A valid frame relayed in pass-through is decoded and kept for the next latch (R124, R125), and three expected intervals without one lose the port (R125); a position source that shows no motion through its window counts as frozen (R130).
The model's choices in log entries 141, 143 and 144 enter here. -/
def Obligations.SerialPositions : Prop :=
  (∀ (s : State) (a : At) (k : Nat) (f : PosFrame) (x : PosJob) (rest : List PosJob) (r : PosRes), let l := s.laneAt a
    let p := l.pp k
    let mode := l.p 0x5120 k
    let due := x.trigAt + us (l.p 0x5126 k)
    k < 6 → 0 < mode → mode < 4 →
    (p.busy = true →
      Next (.ppFrameEnd a k f) s (fun l' =>
        let q := if mode = 1 then l.ssiRead k f p.trigAt else if mode = 2 then l.bissRead k f else l.kppRead k f p.request (p.trigAt + 1000)
        let j := l.ppJudge k q (p.trigAt + (if mode = 3 then 1000 else 0))
        ∃ y : PosPort, l'.pos.pp = l.pos.pp.set k y ∧ y.busy = false ∧ y.errRun = (if j.1 then p.errRun + 1 else 0) ∧ y.shown = p.shown ∧
          y.jobs = p.jobs.map (fun z => if z.trigAt == p.trigAt && !z.told then { z with res := some j.2, doneAt := l.now + 40 } else z))) ∧
    (p.jobs = x :: rest → due ≤ l.now →
      Next (.ppPresent a k) s (fun l' =>
        ∃ y : PosPort, l'.pos.pp = l.pos.pp.set k y ∧ y.jobs = rest ∧ y.bad = (if !y.shown.valid || y.shown.err || y.shown.stale then p.bad + 1 else 0) ∧
          (x.res = some r → x.doneAt ≤ due → y.shown = r) ∧ (x.res = none ∨ due < x.doneAt → y.shown.valid = false) ∧
          Reports { l with pos := l'.pos } l'))) ∧
  (∀ (s : State) (a : At) (k : Nat) (f : PosFrame), let l := s.laneAt a
    let p := l.pp k
    let q := l.ptRead k f
    let j := l.ppJudge k q f.first
    (k < 6 → 4 ≤ l.p 0x5120 k → relays l.st = true → (l.p 0x5120 k = 6 → f.synced = true) → j.1 = false → q.pos.isSome = true →
      Next (.ptFrameRelayed a k f) s (fun l' =>
        ∃ y : PosPort, l'.pos.pp = l.pos.pp.set k y ∧ (k < l.pos.pp.length → y.ptNew = true ∧ y.ptRes = j.2 ∧ y.ptAt = l.now ∧ y.lost = false ∧ y.errRun = 0))) ∧
    (k < 6 → 4 ≤ l.p 0x5120 k → p.lost = false → p.ptAt + us (3 * l.p 0x5129 k) ≤ l.now →
      Next (.ptLost a k) s (fun l' => l'.pos = (l.setPp k { p with lost := true }).pos ∧ Reports { l with pos := l'.pos, le := l'.le, held := l'.held } l')) ∧
    (k < 8 →
      Next (.posFrozen a k) s (fun l' =>
        (∀ c < l.pos.freeze.length, c ∈ l.frzCodes k → ∀ t, (l.frz c).since = some t → t + ms (l.frz c).win ≤ l.now → (l.frz c).moved < (l.frz c).dmin → (l'.frz c).frozen = true) ∧
        (∀ c, c ∉ l.frzCodes k → l'.frz c = l.frz c) ∧
        Reports { l with pos := { l.pos with freeze := l'.pos.freeze }, le := l'.le, held := l'.held } l')))

/-! ### Motor slots -/

/-- The motor commands of the host (R134, R137, R152, R362): an enabled slot starts in its lane-safe state, and only the slot's own units start with it; a table block is kept; a source change waits for the next period start; the status answers and changes nothing.
The model's choice in log entry 7 enters here. -/
def Obligations.MotorSlots : Prop :=
  ∀ (s : State) (a : At) (m : Msg),
    let k := m.u8 0
    (let l := (s.laneAt a).taken 0x20 m
     let x := l.motor k
     (s.laneAt a).ready 0x20 m = true → k < 8 →
     (m.u8 1 = 1 → (x.cfg.integrated && x.cfg.hbs.any l.hbTested) = false → l.entering = false → x.cfg.kind ≠ .none → l.motOk k = true →
       (l.p 0x3114 (l.slotTb k) ≠ 2 ∨ l.rawOk (l.slotTb k) = true) → x.enabled = false →
       Answers (.motEnable a m) s 0x20 m stDone [] (fun l' =>
         l'.mot = (l.setMotor k { cfg := x.cfg, enabled := true, laneSafe := true, short := x.short, ov2 := x.ov2, windFault := x.windFault,
                                  angleSrc := l.p 0x6110 k, angleDev := l.p 0x6111 k, omega := x.omega, speedOk := x.speedOk,
                                  lastW := x.lastW, holdAt := none }).mot ∧
         Reports { l.idleToRun with mot := l'.mot, gd := l'.gd, pos := l'.pos, le := l'.le, mp := l'.mp } l')) ∧
     (m.u8 1 = 0 → x.enabled = true →
       Answers (.motEnable a m) s 0x20 m stDone [] (fun l' =>
         ∃ y : MotSlot, l'.mot = (l.setMotor k y).mot ∧ y.enabled = false ∧ y.fly = .none ∧ y.blend = none ∧ y.tail = (l.slotAct k == .run) ∧
           (x.cfg.kind ≠ .none → k < l.mot.slot.length → y.laneSafe = true)))) ∧
    (let l := (s.laneAt a).taken 0x21 m
     let x := l.motor k
     (s.laneAt a).ready 0x21 m = true → k < 8 →
     Answers (.motStatus a m) s 0x21 m stDone
       (leBytes 4 (l.motTheta k) ++ leBytes 4 x.omega.toNat ++ leBytes 4 x.id.toNat ++ leBytes 4 x.iq.toNat ++
         [b8 (b2n x.syncLost + 2 * b2n (x.laneSafe && x.short) + 4 * b2n (x.fly == .acquire || x.fly == .zeroRun || x.fly == .ramp) + 8 * b2n (l.torque k)), 0, 0, 0])
       (fun l' => l' = l)) ∧
    (let l := (s.laneAt a).taken 0x22 m
     let t := l.table (k - 1)
     let ws := (List.range 256).map (fun i => BitVec.ofNat 16 (leAt m.args (4 + 2 * i) 2))
     (s.laneAt a).ready 0x22 m = true → 1 ≤ k → k ≤ 4 → l.tabInUse k = false → m.u8 1 < 15 → (m.u8 1 = 0 ∨ m.u8 1 = t.nextBlk) →
     Answers (.motTableLoad a m) s 0x22 m stDone [] (fun l' =>
       l' = l.setTable (k - 1) { t with nextBlk := m.u8 1 + 1, loading := (if m.u8 1 = 0 then [] else t.loading) ++ ws })) ∧
    (let l := (s.laneAt a).taken 0x23 m
     let x := l.motor k
     (s.laneAt a).ready 0x23 m = true → k < 8 → x.enabled = true → x.blend = none → x.cfg.kind = .threePhase → l.angleFits k (m.u8 1) (m.u8 2) = true →
     Answers (.motAngleSrcSet a m) s 0x23 m stDone [] (fun l' =>
       l' = l.setMotor k { x with blend := some { delta := 0, dSpeed := f0, oldSrc := m.u8 1, oldDev := m.u8 2, start := 0, active := false } }))

/-! ### The loop engine -/

/-- The loop commands of the host wait for the slot's next sample, which answers them (R171, R172, R174, R175); a capture that is stopped writes its END record and ends. Only the named slot changes. The loop engine's time (R164, R167, R178): a current sequence occupies the engine for 96 cycles a slot from 88 cycles after its trigger, or from the end of what runs; the ramp of a fallback ends at the safe output.
The model's choices in log entries 7 and 147 enter here. -/
def Obligations.LoopEngine : Prop :=
  (∀ (s : State) (a : At) (m : Msg),
    let j := m.u8 0
    (let l := (s.laneAt a).taken 0x40 m
     (s.laneAt a).ready 0x40 m = true → l.loopOk j = true → l.loopOff j = false → m.u8 1 ≤ 1 →
     Defers (.loopOpen a m) s 0x40 m (fun l' => l' = l.idleToRun.loopPush j (.open_ (m.u8 1)) (some (m.key 0x40)))) ∧
    (let l := (s.laneAt a).taken 0x41 m
     (s.laneAt a).ready 0x41 m = true → l.loopOk j = true → (l.loop j).st = .open_ → l.srcLost j = false →
     Defers (.loopClose a m) s 0x41 m (fun l' => l' = l.loopPush j .close (some (m.key 0x41)))) ∧
    (let l := (s.laneAt a).taken 0x42 m
     let r := l.releaseOf [0x7140] j
     (s.laneAt a).ready 0x42 m = true → l.loopOk j = true → (l.loop j).st = .closed → r.injOk j m = true →
     Defers (.loopInject a m) s 0x42 m (fun l' => ∃ i : Inject, l' = r.loopPush j (.inject i) (some (m.key 0x42)) ∧
       i.axis = m.u8 1 ∧ i.point = m.u8 2 ∧ i.form = m.u8 3 ∧ i.amp = m.f32 4 ∧ i.n = m.u32 8 ∧ i.k = 0)) ∧
    (let l := (s.laneAt a).taken 0x43 m
     (s.laneAt a).ready 0x43 m = true → l.loopOk j = true → l.loopOff j = false → l.cmpQueue (m.u8 1) = false → 12 ≤ m.u8 1 → m.u8 1 ≤ 15 →
     (∀ i < 4, m.u8 (4 + i) ≤ 12) →
     Defers (.loopCapture a m) s 0x43 m (fun l' => ∃ c : Capture, l' = l.loopPush j (.capture c) (some (m.key 0x43)) ∧
       c.queue = m.u8 1 ∧ c.decim = m.u8 2 + 1 ∧ c.left = m.u32 8 ∧ c.chans = [m.u8 4, m.u8 5, m.u8 6, m.u8 7])) ∧
    (let l := (s.laneAt a).taken 0x44 m
     (s.laneAt a).ready 0x44 m = true → l.loopOk j = true → l.loopOff j = false → (l.loop j).st ≠ .fallback → l.upOk j (m.u8 1) = true →
     Defers (.loopChainSet a m) s 0x44 m (fun l' => l' = l.loopPush j (.chain (m.u8 1)) (some (m.key 0x44)))) ∧
    (let l := (s.laneAt a).taken 0x45 m
     (s.laneAt a).ready 0x45 m = true → j < 32 → ∀ c, (l.loop j).cap = some c →
     Answers (.loopCaptureStop a m) s 0x45 m stDone [] (fun l' =>
       Reports (l.setLoop j { l.loop j with cap := none, ends := (l'.loop j).ends }) l' ∧
       (l'.loop j).ends = (if l.endWaits j c.queue then (l.loop j).ends ++ [(c.queue, l.capRecord j c true (l.loop j).wasInj)] else (l.loop j).ends)))) ∧
  (∀ (s : State) (a : At) (tb j : Nat) (ds : List (Option DsRes)), let l := s.laneAt a
    let js := (l.seqSlots tb).filter (fun j => l.p 0x7100 j == 1)
    (tb < 8 → l.pwm.halted = false → mayDrive l.st = true → js ≠ [] →
      Next (.currentSequence a tb ds) s (fun l' => l'.le.busyTo = max (l.now + 88) l.le.busyTo + 96 * js.length)) ∧
    (j < 32 → (l.loop j).st = .fallback → (l.loop j).fbDone = false → l.p 0x7121 j * sec 1 ≤ 10000 * (l.now - (l.loop j).fbAt) →
      Next (.fallbackRampEnd a j) s (fun l' =>
        l'.le = (l.setLoop j { l.loop j with fbDone := true, uD := (l.loop j).fbS, uQ := f0 }).le ∧ Reports { l with le := l'.le, mot := l'.mot, held := l'.held } l')))

/-! ### Profiles and steppers -/

/-- The profile commands of the host are accepted and wait for the generator's next tick (R186, R187, R189, R197); only the named generator and the list of accepted commands change.
The model's choice in log entry 7 enters here. -/
def Obligations.ProfileCommands : Prop :=
  ∀ (s : State) (a : At) (m : Msg),
    let g := m.u8 0
    let start (l : Lane) (c : GenCmd) (op : Nat) : Lane := { l.genPush g c (some (m.key op)) with mb.accepted := l.mb.accepted ++ [m.key op] }
    (let l := (s.laneAt a).taken 0x50 m
     let t := if m.u8 1 = 1 then dadd (l.gen g).target (dofF (m.f32 4)) else dofF (m.f32 4)
     (s.laneAt a).ready 0x50 m = true → g < 8 → m.u8 1 ≤ 2 → l.entering = false → (l.gen g).refers = false → ((l.gen g).st = .stream → (l.gen g).leaving = true) →
     (m.u8 1 = 0 → ∀ k ∈ l.genSteppers g, (l.stepper k).referenced = true) →
     (m.u8 1 < 2 → dlt t (dofF (l.pf 0x8107 g)) = false ∧ dlt (dofF (l.pf 0x8108 g)) t = false) →
     (m.u32 8 = 0 → ∀ k ∈ l.genSteppers g, l.p 0x8140 k = 0) →
     Answers (.mpMove a m) s 0x50 m stAccepted [] (fun l' => l' = start l.idleToRun (.move (m.u8 1) (m.f32 4) (m.u32 8)) 0x50)) ∧
    (let l := (s.laneAt a).taken 0x51 m
     (s.laneAt a).ready 0x51 m = true → g < 8 → m.u8 1 ≤ 1 →
     Answers (.mpStop a m) s 0x51 m stAccepted [] (fun l' => l' = start l (.stop (m.u8 1 == 1)) 0x51)) ∧
    (let l := (s.laneAt a).taken 0x52 m
     (s.laneAt a).ready 0x52 m = true → g < 8 → m.u8 1 ≤ 1 → (l.entering = false ∨ m.u8 1 = 0) → (l.gen g).refers = false →
     Answers (.mpSourceSet a m) s 0x52 m stDone [] (fun l' => l' = l.genPush g (.source (m.u8 1 == 1)) none)) ∧
    (let l := (s.laneAt a).taken 0x53 m
     (s.laneAt a).ready 0x53 m = true → m.u8 0 < 8 → l.entering = false → (l.motor (m.u8 0)).enabled = true → ∀ r, l.refGen (m.u8 0) = some r → (l.gen r).rests = true →
     (l.p 0x8130 (m.u8 0) ≠ 0 ∨ l.p 0x8120 (m.u8 0) = 0xFF ∨ l.encGone (m.u8 0) = false) → l.refFits (m.u8 0) = true →
     fgt (l.pf 0x8132 (m.u8 0)) (l.pf 0x8102 r) = false →
     Answers (.mpReference a m) s 0x53 m stAccepted [] (fun l' =>
       l' = { l.genPush r (.reference (m.u8 0) (l.refSpeed r (m.u8 0))) (some (m.key 0x53)) with mb.accepted := l.mb.accepted ++ [m.key 0x53] }))

/-- A tick advances a move of a generator that serves no stepper by one step of its phase (R185), and a position move whose last phase ends stands exactly on its target at rest (R184, R186). No other generator changes. Steppers and references (R194, R196, R199): the stage runs at the current that the rules give; MP_STEP_IDLE_T at rest starts the ramp to the hold current; MOT_STEP_HOLD_T in the lane-safe state turns the windings off; the edge of the reference switch places its position at MP_REF_OFFSET and stops the run. Flying start and source blends (R151, R152): a probe time at which the rotor is known to turn fast enough for the observer and below the limit starts the zero-current run; the end of the blend time ends the blend.
The model's choices in log entries 36 and 148 enter here. -/
def Obligations.TicksAndSteppers : Prop :=
  (∀ (s : State) (a : At) (g : Nat), let l := s.laneAt a
    let x := l.gen g
    let y := x.tick (l.lim g).t
    g < 8 → l.pwm.halted = false → x.cmds = [] → x.st = .moving → x.mode < 2 → x.ph < 7 → l.genSteppers g = [] →
    Next (.profileTick a g) s (fun l' =>
      l'.mp = (l.setGen g (if y.ph < 7 then y
        else { y with p := x.target, v := 0, a := 0, st := .idle, active := none })).mp ∧
      Reports { l with mp := l'.mp } l')) ∧
  (∀ (s : State) (a : At) (k g pin t i : Nat) (e : PinLvl) (r : RefRun) (b : SrcBlend) (h1 h2 h3 h4 : Nat), let l := s.laneAt a
    let x := l.stepper k
    let m := l.motor k
    let w := fabs m.wHat
    (k < 8 → m.cfg.hbs = [h1, h2, h3, h4] → l.sgOf k = some i → x.off = false → l.pwm.halted = false →
      Next (.stepperStageUpdate a k) s (fun l' =>
        ∃ b, l'.mp = (l.setStepper k { x with current := l.stepCurrent k, satTold := b }).mp ∧ Reports { l with mp := l'.mp, pwm := l'.pwm, pos := { l.pos with freeze := l'.pos.freeze } } l')) ∧
    (k < 8 → m.cfg.kind = .stepper → x.moving = false → x.rampAt = none → x.restAt + ms (l.p 0x8113 k) ≤ l.now →
      Next (.stepIdleTimeout a k) s (fun l' => Reports (l.setStepper k { x with rampAt := some l.now }) l')) ∧
    (k < 8 → m.holdAt = some t → m.cfg.kind = .stepper → m.laneSafe = true → x.off = false → t + ms (l.p 0x6150 k) ≤ l.now →
      Next (.stepHoldTimeout a k) s (fun l' =>
        Reports (l.setStepper k { x with off := true, referenced := x.referenced && l.p 0x811A k != 0 }) l')) ∧
    (g < 8 → (∀ n, n ≠ g → (l.gen n).ref = none) → (l.gen g).ref = some r → r.method = 1 → r.edgeSeen = false → r.failing = false → (l.gen g).st = .referencing →
      l.p 0x8134 r.slot = pin → (l.p 0x8135 r.slot == 1) = e.lvl → l.pinStood pin e.since = true →
      Next (.refSwitchEdge a pin e) s (fun l' =>
        let pos := match l.sgOf r.slot with
          | some i => dq ((l.sgen i).posAt e.since) (2 ^ 48)
          | none => l.servoPos r.slot e.since
        (l'.gen g).st = .referencing ∧ (l'.gen g).ref = some { r with edgeSeen := true } ∧ (l'.gen g).p = dadd (l.gen g).p (dsub (dofF (l.pf 0x8136 r.slot)) pos))) ∧
    (k < 8 → m.fly = .acquire → m.flyAt ≤ l.now → l.flyWaits k = false → m.acq = true → flt w (l.wLo k) = false → flt w (fmul (l.pf 0x6141 k) (l.pf 0x6101 k)) = true →
      Next (.flyingStartProbe a k) s (fun l' =>
        l'.mot = (l.setMotor k { m with flyAt := m.flyAt + ms (l.p 0x6142 k), fly := .zeroRun, laneSafe := false, short := false, lockCnt := 0, locked := false,
                                        cntS := 0, cntE := 0, imp := false, probe := none, vA := f0, vB := f0 }).mot ∧
        Reports { l with mot := l'.mot, gd := { l.gd with hb := l'.gd.hb }, le := l'.le } l')) ∧
    (k < 8 → m.blend = some b → b.active = true → b.revert = false → l.p 0x6151 k * sec 1 ≤ 10000 * (l.now - b.start) →
      Next (.sourceBlendEnd a k) s (fun l' => Reports (l.setMotor k { m with blend := none }) l')))

/-! ### Functions -/

/-- Enabling a function starts it fresh in hardware mode, disabling it clears it (R205); a source switch waits for the next outer period (R208); the status word answers and changes nothing. Loss of commands and its end (R208, R215, R216, R265): after three whole cycles without a setpoint a function holds; the hold ends in the return of the steering and in the breakaway of the brakes; standstill parks the function and applies the spring brake; a refresh of the spring brake that stays away ends host-assisted mode.
The model's choices in log entries 7, 93 and 94 enter here. -/
def Obligations.FunctionCommands : Prop :=
  (∀ (s : State) (a : At) (m : Msg),
    let f := m.u8 0
    (let l := (s.laneAt a).taken 0x10 m
     (s.laneAt a).ready 0x10 m = true → f < 5 → m.u8 1 ≤ 1 →
     (m.u8 1 = 1 → l.entering = false → (l.func f).enabled = false →
       Answers (.fnEnable a m) s 0x10 m stDone [] (fun l' =>
         l'.fn = { (l.setFunc f { enabled := true, lastCycle := some l.cyc }).fn with v := m.f32 4 } ∧
         Reports { l with fn := l'.fn, le := l'.le, pwr := l'.pwr } l')) ∧
     (m.u8 1 = 0 → (f = 2 ∨ f = 3 ∨ fgt (m.f32 4) (l.pf 0x9130) = false) → (l.func f).enabled = true →
       Answers (.fnEnable a m) s 0x10 m stDone [] (fun l' => l'.fn.fn = l.fn.fn.set f {} ∧ l'.fn.v = m.f32 4))) ∧
    (let l := (s.laneAt a).taken 0x11 m
     (s.laneAt a).ready 0x11 m = true → f < 5 → m.u8 1 ≤ 1 → (l.func f).enabled = true →
     Answers (.fnSourceSet a m) s 0x11 m stDone [] (fun l' => l' = l.setFunc f { l.func f with srcNext := some (m.u8 1 == 1) })) ∧
    (let l := (s.laneAt a).taken 0x17 m
     (s.laneAt a).ready 0x17 m = true → f < 5 → Answers (.fnStatus a m) s 0x17 m stDone (leBytes 4 (l.fnStatus f)) (fun l' => l' = l))) ∧
  (∀ (s : State) (a : At) (f c t : Nat), let l := s.laneAt a
    let x := l.func f
    (f = 0 ∨ f = 1 ∨ f = 4 → x.lastCycle = some c → x.enabled = true → x.host = false → x.mode = 1 → c + 4 ≤ l.cyc → (f = 0 → l.modPart = false) →
      Next (.cmdLost a f) s (fun l' => Reports (l.setFunc f { x with mode := 3, lastAt := l.now }) l')) ∧
    (l.heldFor 0 (ms (l.p 0x9100)) = true → l.bist.run = none → l.gd.test = none →
      Next (.cmdHoldTimeout a) s (fun l' => (l'.func 0).mode = 4 ∧ l'.fn.returning = true ∧ (l.ownSet = true → l'.fn.steerSet = f0))) ∧
    (l.modPart = true → l.heldFor 1 (ms (l.p 0xB119)) = true → l.bist.run = none → l.gd.test = none →
      Next (.rejoinHoldTimeout a) s (fun l' => (l'.func 1).mode = 4 ∧ l'.fn.baAt = some l.now)) ∧
    (l.fn.baAt.isSome = true → (l.func 1).mode = 4 → l.fn.holdAt + (fto (fdiv l.fn.v (l.pf 0x9102)) 400000000 1).toNat + ms 100 * l.p 0x9105 ≤ l.now →
      l.bist.run = none → l.gd.test = none →
      Next (.parkTimeout a) s (fun l' => (l'.func 1).mode = 5 ∧ l'.fn.sbApply = some true ∧ Reports { l with fn := l'.fn } l')) ∧
    (l.red.vehReq = 3 → l.fn.stopSince = some t → t + ms 100 * l.p 0x9105 ≤ l.now → l.bist.run = none → l.gd.test = none →
      Next (.stopParkTimeout a) s (fun l' => l'.red.parked = true ∧ l'.fn.sbApply = some true ∧ l'.fn.stopSince = none)) ∧
    ((l.func 3).enabled = true → (l.func 3).host = true → l.fn.sbAt + ms (l.p 0x9131) ≤ l.now →
      Next (.sbRefreshTimeout a) s (fun l' => Reports (l.setFunc 3 { l.func 3 with host := false }) l')))

/-- The setpoint commands are accepted, note the speed and the cycle, and wait for their apply cycle (R205, R210, R213, R224, R350). A steering setpoint whose apply cycle has begun comes into force at the next outer period of a lane that follows no mirror set (R205, R206, R210).
The model's choice in log entry 7 enters here. -/
def Obligations.Setpoints : Prop :=
  (∀ (s : State) (a : At) (m : Msg),
    let taken (l : Lane) (f : Nat) (p : Setpoint) : List Fn :=
      l.fn.fn.set f { l.func f with lastCycle := some l.cyc, mode := 1, pending := (l.func f).pending ++ [p], limited := false }
    (let l := (s.laneAt a).taken 0x12 m
     (s.laneAt a).ready 0x12 m = true → (l.func 0).enabled = true → (l.func 0).host = false →
     flt (m.f32 0) (l.pf 0x9110) = false → flt (l.pf 0x9111) (m.f32 0) = false →
     Answers (.steerSet a m) s 0x12 m stAccepted [] (fun l' =>
       l'.fn.fn = taken l 0 ⟨[m.f32 0], 1, m.u32 8⟩ ∧ l'.fn.v = m.f32 4 ∧ Reports { l with fn := { l.fn with fn := l'.fn.fn, v := l'.fn.v, fwd := l'.fn.fwd } } l')) ∧
    (let l := (s.laneAt a).taken 0x13 m
     let vals := (List.range 4).map (fun w => m.f32 (12 + 4 * w))
     (s.laneAt a).ready 0x13 m = true → (l.func 1).enabled = true → (l.func 1).host = false → 0 < m.u8 0 → m.u8 0 < 16 →
     (∀ w < 4, bit (m.u8 0) w = true → flt (m.f32 (12 + 4 * w)) f0 = false ∧ flt (l.pf 0x9120 w) (m.f32 (12 + 4 * w)) = false) →
     Answers (.brakeSet a m) s 0x13 m stAccepted [] (fun l' =>
       l'.fn.fn = taken l 1 ⟨vals, m.u8 0, m.u32 8⟩ ∧ l'.fn.v = m.f32 4 ∧ l'.fn.baAt = none ∧
       Reports { l with fn := { l.fn with fn := l'.fn.fn, v := l'.fn.v, fwd := l'.fn.fwd, baAt := none } } l')) ∧
    (let l := (s.laneAt a).taken 0x16 m
     (s.laneAt a).ready 0x16 m = true → (l.func 4).enabled = true →
     Answers (.retardSet a m) s 0x16 m stAccepted [] (fun l' =>
       l'.fn.fn = taken l 4 ⟨[m.f32 0], 1, m.u32 8⟩ ∧ l'.fn.v = m.f32 4 ∧ l'.fn.strLimit = (if (l.func 4).host = true then l.fn.strLimit else none) ∧ l'.fn.strArm = ((l.func 4).host && l.fn.strArm) ∧
       Reports { l with fn := { l.fn with fn := l'.fn.fn, v := l'.fn.v, fwd := l'.fn.fwd, strLimit := l'.fn.strLimit, strArm := l'.fn.strArm } } l')) ∧
    (let l := (s.laneAt a).taken 0x19 m
     let angle := fq (sext 16 (m.u16 14)) 100
     (s.laneAt a).ready 0x19 m = true → m.u8 8 = 1 → m.u8 12 = l.np 0xB105 → m.u8 13 = 1 → (l.func 0).enabled = true → (l.func 0).host = false →
     flt angle (l.pf 0x9110) = false → flt (l.pf 0x9111) angle = false →
     Answers (.fnBatch a m) s 0x19 m stDone [] (fun l' => l'.fn.fn = taken l 0 ⟨[angle], 1, m.u32 4⟩ ∧ l'.fn.v = m.f32 0))) ∧
  (∀ (s : State) (a : At) (p : Setpoint), let l := s.laneAt a
    l.fnRuns = true → l.ownSet = true → (∀ f < 5, (l.func f).srcNext = none) → (l.func 0).pending = [p] → (l.func 0).mode = 1 → (l.func 0).host = false →
    (∀ f < 5, (l.func f).host = false) → l.begun p.apply = true → l.bist.run = none → l.gd.test = none →
    Next (.fnOuterPeriod a []) s (fun l' => l'.fn.steerSet = p.vals.headD f0 ∧ (l'.func 0).pending = []))

/-- The spring brake, the slack adjuster and the learning application (R212, R214, R220, R221): the decision is noted and a driving lane's cell follows it; a sensed switch that differs from its command stops the tests; a move waits for the quiet time; the masked wheels learn anew.
The model's choices in log entries 7 and 94 enter here. -/
def Obligations.BrakeCommands : Prop :=
  ∀ (s : State) (a : At) (m : Msg),
    (let l := (s.laneAt a).taken 0x14 m
     let apply := bit (m.u8 0) 0
     (s.laneAt a).ready 0x14 m = true → l.bist.run = none → l.gd.test = none →
     (apply = true → bit (m.u8 0) 7 = true ∨ fgt (m.f32 4) (l.pf 0x9130) = false) → (apply = false → l.red.parked = false) →
     (a.sw = none → Answers (.springBrake a m) s 0x14 m stAccepted [] (fun l' => l'.fn.sbApply = some apply ∧ l'.fn.v = m.f32 4 ∧ l'.fn.sbAt = l.now ∧
       (l.st.driving = true → l'.fn.cell = if apply then .apply else .hold) ∧ Reports { l with fn := l'.fn } l')) ∧
     (a.sw ≠ none → Next (.springBrake a m) s (fun l' => l'.fn.sbApply = some apply ∧ l'.fn.v = m.f32 4 ∧ l'.fn.sbAt = l.now ∧
       (l.st.driving = true → l'.fn.cell = if apply then .apply else .hold) ∧ Reports { l with fn := l'.fn } l'))) ∧
    (let l := s.laneAt a
     ∀ x, a.sw = some x → x.length = 3 → x ≠ l.cmdClosed →
     Next (.sbTestStart a) s (fun l' => l'.fn.testStop = true ∧ l'.fn.testOk = false ∧ l'.fn.cellTest = .none ∧ Reports { l with fn := l'.fn } l')) ∧
    (let l := (s.laneAt a).taken 0x15 m
     let w := m.u8 0
     (s.laneAt a).ready 0x15 m = true → w < 4 → (l.wheel w).running = false → (l.wheel w).wanted = none → l.st.driving = true →
     ∀ k, l.adjSlot w = some k → (l.motor k).enabled = true →
     Answers (.slackAdjust a m) s 0x15 m stAccepted [] (fun l' =>
       l'.fn.wheel = l.fn.wheel.set w { l.wheel w with wanted := some (m.f32 4) } ∧ Reports { l with fn := { l.fn with wheel := l'.fn.wheel, fwd := l'.fn.fwd } } l')) ∧
    (let l := (s.laneAt a).taken 0x18 m
     (s.laneAt a).ready 0x18 m = true → 0 < m.u8 0 → m.u8 0 < 16 → fgt (m.f32 4) (fq 1 10) = false →
     (∀ w < 4, bit (m.u8 0) w = true → fgt (l.wheel w).clamp f0 = false) →
     Answers (.brakeLearn a m) s 0x18 m stDone [] (fun l' =>
       l'.fn.v = m.f32 4 ∧ (∀ w < l.fn.wheel.length, w < 4 → bit (m.u8 0) w = true → (l'.wheel w).learning = true ∧ (l'.wheel w).learned = false) ∧
       (∀ w, bit (m.u8 0) w = false → l'.wheel w = l.wheel w) ∧ Reports { l with fn := { l.fn with v := l'.fn.v, wheel := l'.fn.wheel } } l'))

/-- The tests of the cell (R220): the test opens the veto switches, then the hold switch, while the sensed contacts agree with the commanded ones, and stops for good where one differs. The retarder and the wheels (R211, R214, R223): a pre-armed channel whose driver is quiet for 1 ms is armed with duty 0, and one second without use disarms it; a quiet wheel starts its adjustment move; clamp estimates apart for 50 ms leave the smaller one in use.
The model's choice in log entry 41 enters here. -/
def Obligations.CellRetarderAndWheels : Prop :=
  (∀ (s : State) (a : At) (sense : List Bool), let l := s.laneAt a
    (a.sw = none ∨ a.sw = some l.cmdClosed → l.st.driving = true → l.fn.cell = .hold → l.fn.cellTest = .none → l.fn.testStop = false → l.fn.testedPer ≠ some l.sbPeriod →
      l.sbPeriod % 3 = l.id.idx → l.cyc % 3 = l.id.idx → l.peersHold = true →
      Next (.sbTestStart a) s (fun l' =>
        Reports { l.releaseIds [0x9132, 0x9133] with fn := { l.fn with cellTest := .veto, testAt := l.now, testedPer := some l.sbPeriod, cmdVeto1 := false, cmdVeto2 := false, sense := l'.fn.sense, senseBad := l'.fn.senseBad } } l')) ∧
    (sense.length = 3 → l.fn.testAt + 40000 * l.p 0x9133 ≤ l.now → l.fn.cell = .hold →
      (sense = l.cmdClosed → l.fn.cellTest = .veto → Next (.sbTestStep a sense) s (fun l' =>
        l'.fn.cellTest = .hold ∧ l'.fn.testAt = l.now ∧ l'.fn.cmdVeto1 = true ∧ l'.fn.cmdVeto2 = true ∧ l'.fn.cmdHold = false ∧ l'.fn.testStop = l.fn.testStop ∧
        Reports { l with fn := l'.fn } l')) ∧
      (sense ≠ l.cmdClosed → l.fn.cellTest ≠ .none → Next (.sbTestStep a sense) s (fun l' =>
        l'.fn.cellTest = .none ∧ l'.fn.testStop = true ∧ l'.fn.testOk = false ∧ l'.fn.cmdHold = true ∧ Reports { l with fn := l'.fn } l')))) ∧
  (∀ (s : State) (a : At) (c w t k : Nat) (x : F32), let l := s.laneAt a
    (c < 2 → (l.chop c).faulty = false → (l.chop c).armed = false → (l.func 4).enabled = true → l.st.driving = true → l.drvOk c = true →
      (l.chop c).preAt = some t → t + ms 1 ≤ l.now →
      Next (.chopperPrearmCheck a c) s (fun l' =>
        l'.fn = (l.setChop c { l.chop c with armed := true, inService := true, preAt := none, quietAt := none, misCnt := 0, duty := f0 }).fn ∧
        Reports { l with fn := l'.fn, pwm := l'.pwm } l')) ∧
    (c < 2 → (l.chop c).armed = true → (l.chop c).quietAt = some t → t + sec 1 ≤ l.now →
      Next (.chopperDisarm a c) s (fun l' =>
        l'.fn = (l.setChop c { l.chop c with armed := false, preAt := none, quietAt := none, duty := f0 }).fn ∧
        Reports { l with fn := l'.fn, pwm := l'.pwm } l')) ∧
    (w < 4 → l.adjSlot w = some k → (l.wheel w).quietAt = some t → t + ms 100 * l.p 0x912A ≤ l.now → (l.func 2).enabled = true →
      (l.wheel w).running = false → l.st.driving = true → (l.motor k).enabled = true → (l.wheel w).wanted = some x → (b32.toRat x.toNat).1 ≠ 0 →
      Next (.slackQuietTimeout a w) s (fun l' =>
        ∃ goal, l'.fn = (l.setWheel w { l.wheel w with running := true, wanted := none, goal := goal }).fn ∧
          l'.mp = (l.genPush (l.p 0x8110 k) (.move 1 (fmul x (l.pf 0x9129 w)) (l.pairCycle k)) none).mp ∧ Reports { l.releaseOf [0x9125] w with fn := l'.fn, mp := l'.mp } l')) ∧
    (w < 4 → (l.wheel w).useMin = false → (l.wheel w).misSince = some t → t + ms 50 ≤ l.now →
      Next (.brakeEstMismatch a w) s (fun l' => Reports (l.setWheel w { l.wheel w with useMin := true }) l')))

/-! ### Sessions, parameters, streams, logs -/

/-- A command with a remembered MSG_ID is not executed: it gets the stored response, and a broadcast outside opcodes 0x10 to 0x1F is discarded and counted (R348, R349). The checks of R337 come in their order: expiry, version, mask, session, opcode, layout; a command that fails one has that status and no effect but its response (R336, R337). An opcode that no table lists gets UNSUPPORTED (R362).
The model's choice in log entry 7 enters here. -/
def Obligations.CommandChecks : Prop :=
  ∀ (s : State) (a : At) (op : Nat) (m : Msg) (t : Lane), (s.laneAt a).take op m = some t →
    (m.ver = 2 → t.expired m.expire = true → t.gate op m = some stTimeout) ∧
    (m.ver ≠ 1 → m.ver ≠ 2 → t.expired m.expire = false → t.gate op m = some stUnsupported) ∧
    (m.ver = 2 → t.expired m.expire = false → bit (t.senderMask m.tr).toNat (op / 16) = false → t.gate op m = some stRefusedAuth) ∧
    (m.ver = 2 → t.expired m.expire = false → bit (t.senderMask m.tr).toNat (op / 16) = true → t.sesHas (t.sesNeed op m.tr) m = false → t.gate op m = some stRefusedAuth) ∧
    (m.ver = 2 → t.expired m.expire = false → bit (t.senderMask m.tr).toNat (op / 16) = true → t.sesHas (t.sesNeed op m.tr) m = true → layoutOf op = none →
      t.gate op m = some stUnsupported ∧ (op < 256 → t.aside op m = none → exec (.unknownOpcode a op m) s = .next (s.put a (t.respond (m.key op) stUnsupported [])))) ∧
    (m.ver = 2 → t.expired m.expire = false → bit (t.senderMask m.tr).toNat (op / 16) = true → t.sesHas (t.sesNeed op m.tr) m = true → layoutOf op ≠ none → layoutOk op m.args = false →
      t.gate op m = some stBadParam) ∧
    (∀ st h, t.aside op m = none → t.gate op m = some st → (s.laneAt a).serve op m h = t.respond (m.key op) st []) ∧
    (∀ h r, m.tr = .net → m.bcast = false → t.mb.memNet.find? (fun r => r.host == m.host && r.msgId == m.msgId) = some r →
      (s.laneAt a).serve op m h = (t.setCnt .net { t.cntOf .net with dup := (t.cntOf .net).dup + 1 }).respSend (m.key op) r.resp) ∧
    (∀ h, m.tr = .net ∨ m.tr = .can → m.bcast = true → op < 0x10 ∨ 0x1F < op → (s.laneAt a).serve op m h = { t with mb := { t.mb with bcastDrop := t.mb.bcastDrop + 1 } })

/-- The session commands (R351, R352, R353): a challenge closes the session and returns a fresh nonce with the unique identifier; the right response opens the level asked for and clears the failures; a wrong one voids the nonce and from the third on locks challenges out, for twice the time at each; a close closes; an idle session closes by itself.
The model's choices in log entries 2 and 7 enter here. -/
def Obligations.SessionCommands : Prop :=
  ∀ (s : State) (a : At) (m : Msg) (tr : Transport),
    (let l := (s.laneAt a).taken 0x01 m
     (s.laneAt a).ready 0x01 m = true → l.mb.lockUntil ≤ l.now →
     ∃ nonce : List Byte, nonce.length = 16 ∧ Answers (.sessionChallenge a m) s 0x01 m stDone (nonce ++ l.uid) (fun l' =>
       l'.mb = { l.mb with ses := l.mb.ses.set (m.tr.code - 1) { l.ses m.tr with level := 0, nonce := some (nonce, l.now), nonceHost := m.host } } ∧ Reports l l')) ∧
    (let l := (s.laneAt a).taken 0x02 m
     let x := l.ses m.tr
     (s.laneAt a).ready 0x02 m = true → m.u8 0 = 1 ∨ m.u8 0 = 2 → ∀ n t, x.nonce = some (n, t) → l.now < t + sec 10 → x.nonceHost = m.host → l.keyLoaded (3 + m.u8 0) = true →
     (l.sesValue (m.u8 0) n m.tr m.host = (m.args.drop 4).take 16 →
       Answers (.sessionResponse a m) s 0x02 m stDone [] (fun l' =>
         l'.mb.ses = l.mb.ses.set (m.tr.code - 1) { x with nonce := none, level := m.u8 0, host := m.host, lastCmd := l.now, idle := sec (l.p 0x1105) } ∧
         l'.mb.failCount = 0 ∧ l'.mb.lockLen = 10 ∧ Reports l l')) ∧
     (l.sesValue (m.u8 0) n m.tr m.host ≠ (m.args.drop 4).take 16 → 2 ≤ l.mb.failCount →
       Answers (.sessionResponse a m) s 0x02 m stRefusedAuth [] (fun l' =>
         l'.mb.ses = l.mb.ses.set (m.tr.code - 1) { x with nonce := none } ∧ l'.mb.failCount = l.mb.failCount + 1 ∧
         l'.mb.lockUntil = l.now + sec l.mb.lockLen ∧ l'.mb.lockLen = min 640 (2 * l.mb.lockLen) ∧ Reports l l'))) ∧
    (let l := (s.laneAt a).taken 0x03 m
     (s.laneAt a).ready 0x03 m = true → Answers (.sessionClose a m) s 0x03 m stDone [] (fun l' =>
       l' = { l with mb.ses := l.mb.ses.set (m.tr.code - 1) { l.ses m.tr with level := 0 } })) ∧
    (let l := s.laneAt a
     (l.ses tr).level ≠ 0 → (l.ses tr).lastCmd + (l.ses tr).idle ≤ l.now →
     Next (.sessionIdleTimeout a tr) s (fun l' => l'.mb = { l.mb with ses := l.mb.ses.set (tr.code - 1) { l.ses tr with level := 0 } } ∧ Reports l l'))

/-- The reading commands answer and change nothing (R362, R364, Tables CP-2 to CP-5): identity, parameters, health, network, power, self-test, configuration, Molt, events, fault log.
The model's choice in log entry 7 enters here. -/
def Obligations.ReadingCommands : Prop :=
  ∀ (s : State) (a : At) (m : Msg) (r : PRow) (b : BistRec) (e : EventRec),
    let go (i : Instr) (op : Nat) (res : Lane → List Byte) : Prop :=
      (s.laneAt a).ready op m = true → Answers i s op m stDone (res ((s.laneAt a).taken op m)) (fun l' => l' = (s.laneAt a).taken op m)
    go (.identify a m) 0x00 (fun l => leBytes 4 l.spiId ++ l.uid ++ leBytes 4 l.boot.fwVersion.toNat ++ leBytes 2 (l.boot.gen + 256 * l.spareGens) ++
      [.ofNat 8 (b2n l.boot.overlayCrc.isSome), 0] ++ leBytes 4 l.cfgCrc.toNat) ∧
    (let vs := (List.range (m.u16 4)).map (fun i => ((s.laneAt a).taken 0x08 m).readVals r (m.u8 6 == 1) (m.u16 2 + i))
     m.ver = 2 → prow (m.u16 0) = some r → 0 < m.u16 4 → m.u16 2 + m.u16 4 ≤ r.n → (valueBlock r (m.u16 2) vs).length ≤ 2032 →
     go (.paramRead a m) 0x08 (fun _ => valueBlock r (m.u16 2) vs)) ∧
    (prow (m.u16 0) = some r → go (.paramInfo a m) 0x0B (fun l => [b8 r.ty.code, b8 (b2n (r.cls != .ro))] ++ leBytes 2 r.n ++ leBytes 2 r.elems ++ [b8 r.cls.code, 0] ++
      if r.cls = .ro then List.replicate 24 0 else ext8 r r.lo ++ ext8 r r.hi ++ ext8 r ((l.dflt r.id 0).headD 0))) ∧
    (let h (l : Lane) (x : LaneId) : Nat := if x = l.id then l.healthWord else if (l.peer x).known = true then (l.peer x).health.toNat else 0
     go (.redStatus a m) 0x60 (fun l => leBytes 4 (h l .a) ++ leBytes 4 (h l .b) ++ leBytes 4 (h l .c) ++ leBytes 4 (if l.st = .authority then l.moduleStatus else l.red.modStat.toNat))) ∧
    (m.u8 0 = 0 → go (.netStatus a m) 0x70 (fun l => [b8 l.netStateByte, b8 (l.chan 0).epoch, 0, 0] ++ leBytes 6 l.net.cycle.toNat ++ [0, 0] ++ leBytes 4 (nsF l.net.delta).toNat ++
      leBytes 4 (usF (l.retDelay.getD 0)).toNat ++ (l.rxCnt 64).words.flatMap (fun w => leBytes 4 w.toNat))) ∧
    go (.pwrStatus a m) 0x81 (fun l => leBytes 4 l.aonStatus ++ l.pwr.counters.flatMap (fun c => leBytes 4 c.toNat)) ∧
    (let y := b.results.getD (m.u8 0) {}
     m.u8 0 < 16 → ((s.laneAt a).taken 0x92 m).bistHolding (m.u8 0) = some b →
     go (.bistResult a m) 0x92 (fun _ => leBytes 4 y.sig.toNat ++ leBytes 4 y.count ++ [b8 y.status, 0, 0, 0] ++ leBytes 8 b.stamp)) ∧
    go (.cfgStatus a m) 0xA3 (fun l => [b8 l.boot.gen, b8 l.spareGens, b8 (b2n l.boot.overlayCrc.isSome), b8 l.boot.life] ++ leBytes 4 l.cfgCrc.toNat ++ l.boot.hash) ∧
    go (.moltStatus a m) 0xB4 (fun l => [b8 l.boot.running, b8 (l.fwSlot 0).state, b8 (l.fwSlot 1).state, 0] ++ leBytes 4 (l.imgVersion (fwBase 0)) ++ leBytes 4 (l.imgVersion (fwBase 1))) ∧
    (0 < m.u8 2 → m.u8 2 ≤ 126 → m.u16 0 = ((s.laneAt a).taken 0xC0 m).mb.evtCnt % 65536 → ((s.laneAt a).taken 0xC0 m).mb.log.getLast? = some e →
      go (.eventRead a m) 0xC0 (fun l => leBytes 2 l.mb.evtCnt ++ [1, 0] ++ e.bytes l)) ∧
    go (.logRead a m) 0xC1 (fun l => (((l.mem.logKept ++ l.mem.log ++ l.mem.logBuf).filter (fun e => decide (m.u32 0 ≤ e.entry))).take (min (m.u16 4) 63)).flatMap LogEntry.bytes)

/-- Parameters (R366, R367, R368, Table CP-8): a staged write waits in its sender's set and changes no value; a commit of a set that passes brings all of it into force in one step; a discard forgets it; a direct write takes effect at once, and so does a staged parameter written in version 1 (Table MB-4), which has no staged set.
The model's choices in log entries 7, 76 and 77 enter here. -/
def Obligations.ParametersAndStreams : Prop :=
  ∀ (s : State) (a : At) (m : Msg) (r : PRow) (st : Staged) (c : PCond),
    let vals := (writeVals r (m.u16 4) (m.u16 8) (m.args.drop 12)).mapIdx (fun i v => (⟨r.id, m.u16 2 + i, v⟩ : PVal))
    let res (staged : Nat) : List Byte := leBytes 2 r.id ++ leBytes 2 (m.u16 4) ++ [b8 staged, 0, 0, 0]
    let body := m.args.drop 4
    let one : List PVal := [⟨r.id, m.u8 2, itemsOf r (body.length / r.ty.bytes) body⟩]
    (let l := (s.laneAt a).taken 0x09 m
     (s.laneAt a).ready 0x09 m = true → prow (m.u16 0) = some r →
     (m.ver = 2 → m.u16 2 + m.u16 4 ≤ r.n → (∀ v ∈ vals, l.condOk r.cls.cond v.id v.inst v.vals = true) →
       (r.cls = .staged c → l.stagedByOther m = false → (∀ v ∈ vals, l.valueOk r v = true) →
         Answers (.paramWrite a m) s 0x09 m stDone (res 1) (fun l' => l' = l.stage m vals ∧ l'.params = l.params ∧ l'.held = l.held)) ∧
       (r.cls ≠ .ro → (∀ c, r.cls ≠ .staged c) → (∀ v ∈ vals, l.valueTested v.id v.inst = false) → l.firstBad (l.withVals vals) vals = none →
         Answers (.paramWrite a m) s 0x09 m stDone (res 0) (fun l' => l' = l.applyVals vals))) ∧
     (m.ver = 1 → m.u8 2 < r.n → (∀ v ∈ one, l.valueTested v.id v.inst = false) → l.firstBad (l.withVals one) one = none →
       (r.cls = .staged c → l.mb.staged = none → Answers (.paramWrite a m) s 0x09 m stDone body (fun l' => l' = (l.applyVals one).estimate)) ∧
       (r.cls ≠ .ro → (∀ c, r.cls ≠ .staged c) → (∀ v ∈ one, l.condOk r.cls.cond v.id v.inst v.vals = true) →
         Answers (.paramWrite a m) s 0x09 m stDone body (fun l' => l' = l.applyVals one)))) ∧
    (let l := (s.laneAt a).taken 0x0A m
     let l2 : Lane := { l with mb.staged := some { st with lastAt := l.now } }
     let x := (l2.applyVals st.vals).estimate
     (s.laneAt a).ready 0x0A m = true → l.mb.staged = some st → l.stagedByOther m = false →
     (m.u8 0 = 0 → (∀ v ∈ st.vals, l.valueTested v.id v.inst = false) → l2.firstBad (l2.withVals st.vals) st.vals = none →
       Answers (.paramCommit a m) s 0x0A m stDone (leBytes 2 st.vals.length ++ [0xFF, 0xFF, 0, 0, 0, 0] ++ leBytes 4 x.gd.pwrEst ++ leBytes 2 x.le.load ++ leBytes 2 x.sns.occ)
         (fun l' => l' = { x with mb.staged := none })) ∧
     (m.u8 0 = 1 → Answers (.paramCommit a m) s 0x0A m stDone ([0, 0, 0xFF, 0xFF, 0, 0, 0, 0] ++ leBytes 4 l.gd.pwrEst ++ leBytes 2 l.le.load ++ leBytes 2 l.sns.occ)
       (fun l' => l' = { l with mb.staged := none })))

/-- Streams, counters and idle staged sets (R30, R354, R355, R367, Table CP-5): a stream entry for a target in its state enters the FIFO of that target, the oldest making room where it is full; an entry for a closed target is counted and discarded; five idle seconds discard a staged set; a counter that is cleared reads zero and no parameter changes; a trace is switched on and off.
The model's choices in log entries 7 and 62 enter here. -/
def Obligations.StreamsAndCounters : Prop :=
  (∀ (s : State) (a : At) (m : Msg) (r : PRow) (st : Staged),
    (let l := s.laneAt a
     l.mb.staged = some st → st.lastAt + sec 5 ≤ l.now → l.fwRuns = true →
     Next (.stageTimeout a) s (fun l' => l'.mb.staged = none ∧ Reports l l')) ∧
    (let l := (s.laneAt a).taken 0xC2 m
     let id := m.u16 0
     let i := m.u16 2
     (s.laneAt a).ready 0xC2 m = true → prow id = some r → counterIds.contains id = true → i < r.n → i ≠ 0xFFFF →
     Answers (.counterClear a m) s 0xC2 m stDone [] (fun l' => l' = l.clearCounter id i ∧ l'.params = l.params ∧
       (id = 0x1107 → l'.mb.cnt = l.mb.cnt.set i {}) ∧ (id = 0x3135 → (l'.src i).count = (if i < l.pwm.src.length then 0 else (l.src i).count)) ∧
       (id = 0xB136 → l'.net.cnt = l.net.cnt.set i {}) ∧ (id = 0xC107 → l'.pwr.counters = l.pwr.counters.set i 0) ∧ (id = 0xE105 → l'.mem.ecc = [0, 0, 0, 0]))) ∧
    (let l := (s.laneAt a).taken 0xC3 m
     (s.laneAt a).ready 0xC3 m = true → m.u8 0 ≤ 1 → Answers (.traceCtrl a m) s 0xC3 m stDone [] (fun l' => l' = { l with mb.traceOn := m.u8 0 == 1 }))) ∧
  (∀ (s : State) (a : At) (m : Msg),
    let l := (s.laneAt a).taken 0x0C m
    let e := (m.args.drop 4).take 32
    let i := streamInst (byteAt e 0) (byteAt e 1)
    let x := l.stream i
    let v : StreamVal := { stamp := .ofNat 64 (leAt e 8 8), v0 := .ofNat 32 (leAt e 16 4), v1 := .ofNat 32 (leAt e 20 4), v2 := .ofNat 32 (leAt e 24 4), v3 := .ofNat 32 (leAt e 28 4) }
    (s.laneAt a).ready 0x0C m = true → m.u8 0 = 1 →
    (i ≠ 95 → l.streamOpen (byteAt e 0) (byteAt e 1) = true → x.lastSeq ≠ some (.ofNat 16 (leAt e 2 2)) →
      Answers (.streamPush a m) s 0x0C m stDone [1, 0, 0, 0] (fun l' =>
        ∃ gaps replaced : W32, l' = { l with mb.stream := l.mb.stream.set i { x with
          fifo := (if l.p 0x1102 ≤ x.fifo.length then x.fifo.drop 1 else x.fifo) ++ [v], lastSeq := some (.ofNat 16 (leAt e 2 2)), accepted := x.accepted + 1, gaps := gaps, replaced := replaced } })) ∧
    (l.streamOpen (byteAt e 0) (byteAt e 1) = false →
      Answers (.streamPush a m) s 0x0C m stDone [0, 0, 0, 0] (fun l' => l'.mb.stream = l.mb.stream.set i { x with rejected := x.rejected + 1 } ∧ Reports l l')))

/-! ### Host SPI and service port -/

/-- The CRC-8 of the host SPI and the service port (R340): each byte enters an 8-bit register that starts at all ones, the register is shifted left eight times, each bit that leaves it adds the polynomial 0x2F, and the result is the complement; the check value is 0xDF. -/
def Obligations.CrcEight : Prop :=
  crc8 [] = 0x00 ∧
  (∀ (bs : List Byte) (b : Byte),
    let shift (c : Byte) : Byte := if c.msb = true then (c <<< 1) ^^^ 0x2F else c <<< 1
    crc8 (bs ++ [b]) = ~~~(shift (shift (shift (shift (shift (shift (shift (shift (~~~(crc8 bs) ^^^ b))))))))))  ∧
  crc8 [0x31, 0x32, 0x33, 0x34, 0x35, 0x36, 0x37, 0x38, 0x39] = 0xDF

/-- Host SPI (R334, R339, R341, R342, R343, Tables MB-7 to MB-9): a doorbell takes the entries up to its TAIL; IRQ_STAT and SPI_STAT clear where a one is written; QHEAD frees entries; a write reaches its register or ring word; a read returns what stands there; and a transaction with a bad CRC does nothing but count. Hold-off of HIRQ (R343): once IRQ_HOLD has passed since the line went high, a waiting interrupt drives it again. -/
def Obligations.HostSpi : Prop :=
  (∀ (s : State) (a : At) (w : Wire) (q k n tail : Nat) (mask v : W32) (x : SpiXfer) (wd : Option (Nat × Nat)), let l := s.laneAt a
    let d := l.qDepth q
    let keep (l' : Lane) : Prop := l'.mb.q = l.mb.q ∧ l'.mb.ring = l.mb.ring ∧ Reports l l'
    l.spiOn = true → w = {} → x.wire = {} →
    (q < 16 → q ≠ 11 → qHostIn q = true → (q = 0 ∨ l.sesOpen .spi = true) → tail < d → tail < 65536 → k = (tail + d - (l.q q).tail) % d → k ≤ l.qFree q →
      Next (.doorbellWrite a w q tail) s (fun l' => l'.mb.q = (l.ringTake q k).mb.q ∧ l'.mb.ring = l.mb.ring ∧ Reports l l')) ∧
    Next (.irqStatClear a w mask) s (fun l' => l'.mb.spi.irqStat = l.mb.spi.irqStat &&& ~~~mask ∧ keep l') ∧
    Next (.spiStatClear a w mask) s (fun l' =>
      l'.mb.spi.crcErr = (l.mb.spi.crcErr && !bit mask.toNat 26) ∧ l'.mb.spi.frameErr = (l.mb.spi.frameErr && !bit mask.toNat 25) ∧
      l'.mb.spi.addrErr = (l.mb.spi.addrErr && !bit mask.toNat 24) ∧ l'.mb.spi.overrun = (l.mb.spi.overrun && !bit mask.toNat 23) ∧
      l'.mb.spi.noSession = (l.mb.spi.noSession && !bit mask.toNat 22) ∧ keep l') ∧
    (q ≠ 1 → q < 64 → qHostOut q = true → n < d → n < 65536 → (n + d - (l.q q).head) % d ≤ (l.q q).items.length →
      Next (.qheadWrite a w q n) s (fun l' => l'.mb.q = (l.qDropN q ((n + d - (l.q q).head) % d)).mb.q ∧ l'.mb.ring = l.mb.ring ∧ Reports l l')) ∧
    (x.addr = 3 → x.data = [v] → Next (.registerWrite a x) s (fun l' => l'.mb.spi.irqEn = .ofNat 32 (v.toNat % 1024) ∧ keep l')) ∧
    (0x1000 ≤ x.addr → x.addr < 0x4000 → l.ringWhere (4 * x.addr) = some (q, wd) → qHostIn q = true → x.data = [v] →
      Next (.registerWrite a x) s (fun l' => l'.mb.ring = (match wd.map Prod.snd with
        | some 0 => l.mb.ring
        | some 1 => cellStore l.mb.ring (4 * x.addr) (leBytes 4 (bits v.toNat 31 30 * 2 ^ 30 + bits (leNat (cellBytes l.mb.ring (4 * x.addr) 4)) 29 16 * 2 ^ 16 + v.toNat % 2 ^ 16))
        | _ => cellStore l.mb.ring (4 * x.addr) (leBytes 4 v.toNat)) ∧ l'.mb.q = l.mb.q ∧ Reports l l')) ∧
    ((∀ i < x.count, spiCanRead (x.addr + i) = true ∧ spiRegion (x.addr + i) = spiRegion x.addr) →
      Next (.spiReadTransaction a x) s (fun l' =>
        l'.mb.spi.rdata = (List.range x.count).map (fun i => ({ l with mb.spi.count := l.mb.spi.count + 1, mb.spi.txn := l.mb.spi.txn + 1 } : Lane).spiRead (x.addr + i)) ∧
        keep l')) ∧
    Next (.irqStatClear a { w with crcOk := false } mask) s (fun l' => l'.mb.spi.crcErr = true ∧ bit l'.mb.spi.irqStat.toNat 9 = true ∧ l'.mb.spi.irqStat &&& l.mb.spi.irqStat = l.mb.spi.irqStat ∧ l'.mb.spi.irqEn = l.mb.spi.irqEn ∧ Reports l l')) ∧
  (∀ (s : State) (a : At), let l := s.laneAt a
    let q := l.mb.spi
    l.st ≠ .off → l.st ≠ .waking → l.st ≠ .boot → q.irqStat &&& q.irqEn ≠ 0 → q.hirqHigh + us (q.irqHold.toNat % 65536) ≤ l.now →
    Next (.hirqHoldoffEnd a) s (fun l' => l'.mb = { l.mb with spi := { q with hirq := true } } ∧ Reports l l'))

/-- Service port (R344, R345, Tables MB-11 and MB-12): bytes written join the open message; a commit hands it to Q04 as from host 0; an abort or one second forgets it; reading MB_OUT returns the next bytes of the response; reading SP_STAT returns it and clears CRC_ERR and DROP; a write with a bad CRC is discarded. -/
def Obligations.ServicePort : Prop :=
  ∀ (s : State) (a : At) (bytes : List Byte) (t : Nat), let l := s.laneAt a
    let sp := l.mb.sp
    let msg := l.qHeadMsg 5
    l.spOn = true →
    (1 ≤ bytes.length → bytes.length ≤ 32 → (sp.inBytes ++ bytes).length ≤ 2048 → l.qFits 4 (sp.inBytes ++ bytes) = true →
      Next (.spMbInWrite a bytes true) s (fun l' => l'.mb = { l.mb with sp := { sp with inBytes := sp.inBytes ++ bytes, openAt := some (sp.openAt.getD l.now) } } ∧ Reports l l')) ∧
    (sp.inBytes ≠ [] → l.qFits 4 sp.inBytes = true →
      Next (.spCommit a true) s (fun l' => l'.mb = (({ l with mb.sp := { sp with inBytes := [], openAt := none } } : Lane).qPutMsg 4
        ((sp.inBytes.set 6 0).set 7 (.ofNat 8 (byteAt sp.inBytes 7 % 2)))).mb ∧ Reports l l')) ∧
    Next (.spAbort a true) s (fun l' => l'.mb = { l.mb with sp := { sp with inBytes := [], openAt := none } } ∧ Reports l l') ∧
    (sp.outPos + 32 < msg.length →
      Next (.spMbOutRead a true) s (fun l' => l'.mb = { l.mb with sp := { sp with rdata := 32 :: (msg.drop sp.outPos).take 32, outPos := sp.outPos + 32 } } ∧ Reports l l')) ∧
    Next (.spStatRead a true) s (fun l' => l'.mb = { l.mb with sp := { sp with rdata := [.ofNat 8 l.spStat], crcErr := false, drop := false } } ∧ Reports l l') ∧
    (sp.openAt = some t → t + sec 1 ≤ l.now →
      Next (.spMessageTimeout a) s (fun l' => l'.mb = { l.mb with sp := { sp with inBytes := [], openAt := none, drop := true } } ∧ Reports l l')) ∧
    Next (.spAbort a false) s (fun l' => l'.mb.sp = { sp with crcErr := true } ∧ Reports l l')

/-! ### Messages over Icbex and CAN, and the drive links -/

/-- Frames that carry messages (R318, R319, R346, R347, R349): an accepted frame's segment goes to reassembly; a first segment opens a message; one that takes too long is abandoned and counted. -/
def Obligations.MessageFrames : Prop :=
  ∀ (s : State) (a : At) (f : RxFrame) (c : CanRx) (tr : Transport) (host msgId : Nat) (r : Reasm), let l := s.laneAt a
    let p := f.payload
    (l.passes f [4] = true → byteAt p 0 = (l.marked f).np 0xB105 →
      Next (.mailboxFrameRx a f) s (fun l' => Reports ((l.marked f).segment .net 0 (l.parse f).node (byteAt p 1) (byteAt p 2) (byteAt p 0 == 0xFF) ((p.take (l.parse f).len).drop 4)) l')) ∧
    (let n := c.data.length
     let src := bits c.id 12 8
     let fr := leAt c.data 3 4
     c.port < 2 → l.fwRuns = true → l.p 0xB150 c.port = 1 → c.xl = false → (l.canOf c.port).off = false → 11 ≤ n → n ≤ 64 → c.id % 256 = 0 → c.id < 2 ^ 29 →
     bit c.id 25 = false → bits c.id 24 19 = l.np 0xB105 → bits c.id 18 17 = l.id.code → bits c.id 16 13 = 0 → byteAt c.data 2 = (l.canOf c.port).epoch →
     (l.canFreshOf c.port src 0).last < fr → fr ≤ (l.canFreshOf c.port src 0).last + 65536 →
     (l.canTag c.port (byteAt c.data 2) c.id (c.data.take (n - 4))).toNat = beNat (c.data.drop (n - 4)) → (l.canAccept c.port src 0 fr).canRate c.port src < l.p 0xB154 c.port →
     let l1 := l.canAccept c.port src 0 fr
     let x := l1.canOf c.port
     Next (.canFrameRx a c) s (fun l' =>
       Reports ((l1.setCan c.port { x with rate := (src, l.now) :: x.rate.filter (fun e => decide (l.now < e.2 + ms 10)) }).segment .can c.port src (byteAt c.data 0) (byteAt c.data 1)
         (decide (bits c.id 18 17 = 0)) ((c.data.take (n - 4)).drop 7)) l')) ∧
    ((tr = .net ∨ tr = .can) → (l.reasms tr).find? (fun r => r.host == host && r.msgId == msgId) = some r → l.reasmLate tr r = true →
      Next (.reasmTimeout a tr host msgId) s (fun l' =>
        l'.reasms tr = reasmDrop (l.reasms tr) host msgId ∧ l'.mb.cnt = l.mb.cnt.set (tr.code - 1) { l.cntOf tr with reasm := (l.cntOf tr).reasm + 1 } ∧ Reports l l'))

/-- The CAN controllers (R320, R321): the limit of bus-offs within a minute switches a controller off, NET_CAN_RESTART switches it on again, and its status frame goes out once in each multiple of its period. The drive links (R322, R323, R325): a driving lane starts one frame in each 50 µs step; a valid frame sets the values of the inverter and the alive count; one that repeats the alive count is discarded; without one for NET_DL_LOSS_N steps the link is lost.
The model's choice in log entry 96 enters here. -/
def Obligations.CanAndDriveLinks : Prop :=
  (∀ (s : State) (a : At) (m : Msg) (p : Nat), let l := s.laneAt a
    let c := l.canOf p
    let ts := recent l.now (sec 60) c.busOff
    (p < 2 → p < l.ports.can.length → c.off = false → l.p 0xB150 p ≠ 0 → l.fwRuns = true →
      Next (.canBusOff a p) s (fun l' => l'.canOf p = { c with busOff := ts, off := decide (l.p 0xB155 p ≤ ts.length) } ∧ Reports { l with ports := l'.ports } l')) ∧
    (let l := (s.laneAt a).taken 0x75 m
     (s.laneAt a).ready 0x75 m = true → m.tr ≠ .can → m.u8 0 < 2 →
     Answers (.netCanRestart a m) s 0x75 m stDone [] (fun l' => l' = l.setCan (m.u8 0) { l.canOf (m.u8 0) with off := false, busOff := [] })) ∧
    (p < 2 → p < l.ports.can.length → l.fwRuns = true → l.pwm.halted = false → l.st ≠ .failSilent → l.p 0xB150 p ≠ 0 → c.off = false → l.p 0xB153 p ≠ 0 → c.lastMult ≠ some (l.canIndex p) →
      Next (.canStatusSend a p) s (fun l' =>
        (l'.canOf p).lastMult = some (l.canIndex p) ∧ (l'.canOf p).txFresh = c.txFresh + 1 ∧ (∃ f, (l'.canOf p).tx = c.tx ++ [f]) ∧ Reports { l with ports := l'.ports, fn := l'.fn } l'))) ∧
  (∀ (s : State) (a : At) (k : Nat) (b : List Byte), let l := s.laneAt a
    let x := l.dlink k
    let t0 := l.cycRef.2 + us (l.p 0xB141)
    let n := l.cyc * (l.cycNom / us 50) + (l.now - t0) / us 50
    k < 2 → k < l.ports.dl.length →
    (l.p 0xB140 k ≠ 0 → l.fwRuns = true → l.st.driving = true → t0 ≤ l.now → x.frame ≠ some n →
      Next (.dlFrameSend a k) s (fun l' =>
        (l'.dlink k).frame = some n ∧ (l'.dlink k).txAlive = x.txAlive + 1 ∧ (∃ f, (l'.dlink k).tx = x.tx ++ [f]) ∧ Reports { l with ports := l'.ports, fn := l'.fn } l')) ∧
    (l.p 0xB140 k ≠ 0 → l.fwRuns = true → b.length = 32 → leAt b 30 2 = (crc16 (b.take 30)).toNat → byteAt b 0 = 0x12 →
     (∀ v, x.rxAlive = some v → (byteAt b 2 + 256 - v) % 256 = 1) →
      Next (.dlFrameRx a k b) s (fun l' =>
        (l'.dlink k).rxAlive = some (byteAt b 2) ∧ (l'.dlink k).good = x.good + 1 ∧ (l'.dlink k).lost = (x.lost && decide (x.good + 1 < 20)) ∧ (l'.dlink k).lastAt = l.now ∧
        (l'.dlink k).pInv = .ofNat 32 (leAt b 6 4) ∧ (l'.dlink k).pAvail = .ofNat 32 (leAt b 14 4) ∧ (l'.dlink k).vLink = .ofNat 32 (leAt b 22 4) ∧
        Reports { l with ports := l'.ports, fn := l'.fn } l')) ∧
    (l.p 0xB140 k ≠ 0 → l.fwRuns = true → b.length = 32 → leAt b 30 2 = (crc16 (b.take 30)).toNat → byteAt b 0 = 0x12 → x.rxAlive = some (byteAt b 2) →
      Next (.dlFrameRx a k b) s (fun l' => Reports (l.setDl k { x with good := 0 }) l')) ∧
    (l.p 0xB140 k ≠ 0 → x.lost = false → x.lastAt + us 50 * l.p 0xB142 k ≤ l.now →
      Next (.dlLossTimeout a k) s (fun l' => Reports (l.setDl k { x with lost := true, good := 0 }) l')))

/-! ### Lanes among one another -/

/-- Blocks of the peers (R20, R21, R168, R225, R237, R248): a block whose sequence number does not follow, idle blocks counted, is discarded as a bad one; references enter the latches 5 µs after the outer sequence; notices, mirror values and setpoints are noted for their sender.
The model's choices in log entries 80, 95 and 153 enter here. -/
def Obligations.PeerBlocks : Prop :=
  ∀ (s : State) (a : At) (p : LaneId) (b : Block) (j i : Nat), let l := s.laneAt a
    let d := b.payload
    let put (x : Lane) (v : PeerView) : Lane := x.setPeer p v
    (let x := l.heard p b true
     l.hears p b 0x10 = true → l.st = .shadow → l.red.auth = p.code →
     Next (.refBlockRx a p b) s (fun l' =>
       l'.red = { x.red with refAt := l.le.outerEnd + us 5, failAt := none, lateTold := false } ∧ Reports { x with le := l'.le, red := l'.red } l' ∧
       (i < 5 → l.chains[byteAt d 1 + i]? = some j → j < l.le.slot.length →
         (l'.loop j).refNext.getLast? = some (fmul (fq (sext 16 (leAt d (2 + 2 * i) 2)) 16384) (l.pf 0x6102 (l.p 0x7101 j)), l.le.outerEnd + us 5)))) ∧
    (let x := l.heard p b true
     l.hears p b 0x16 = true →
     Next (.tripNoticeRx a p b) s (fun l' => Reports (put x { x.peer p with trip := some (byteAt d 0, leAt d 1 2, leAt d 3 8) }) l')) ∧
    (let x := l.heard p b true
     l.hears p b 0x17 = true → l.fn.notice.contains (byteAt d 0, byteAt d 1) = false →
     Next (.chopNoticeRx a p b) s (fun l' =>
       Reports { x with fn := { l.fn with notice := l.fn.notice ++ [(byteAt d 0, byteAt d 1)], noticeDue := true, limCut := true, cutAt := some l.now, pLim := f0, speedDue := true } } l')) ∧
    (let x := l.heard p b false
     l.hears p b 0x20 = true → l.red.auth = p.code → (l.st = .shadow ∨ l.st = .sync ∧ l.red.rejoin.step = 3) →
     Next (.mirrorBlockRx a p b) s (fun l' => Reports { x with red := if x.qFull (60 + b2n (p != l.id.next)) = true then { x.red with mirGap := true }
       else { x.red with mirNext := l.red.mirNext ++ [.ofNat 32 (leAt d 0 4), .ofNat 32 (leAt d 4 4), .ofNat 32 (leAt d 8 4)] } } l')) ∧
    (let x := l.heard p b false
     l.hears p b 0x26 = true → l.net.chLost = true → l.fnRuns = true → byteAt d 0 = 4 → (l.func 4).enabled = true → ffinite (.ofNat 32 (leAt d 2 4)) = true → ffinite (.ofNat 32 (leAt d 6 4)) = true →
     Next (.setpointBlockRx a p b) s (fun l' => ∃ apply, apply % 65536 = leAt d 10 2 ∧ l'.fn.v = .ofNat 32 (leAt d 6 4) ∧
       l'.fn.fn = l.fn.fn.set 4 { l.func 4 with lastCycle := some l.cyc, mode := 1, pending := (l.func 4).pending ++ [⟨[.ofNat 32 (leAt d 2 4)], 1, apply⟩], limited := false } ∧ Reports { x with fn := l'.fn } l'))

/-- The vote and the blocks that compare (R202, R238, R239, R240, R283): the count of a pair rises at each period in which the two lie further apart than the limit and falls to 0 at one in which they do not; a lane that disagrees with two that agree is out-voted, and withdraws when it is the own lane; two lanes that disagree out-vote nobody. A VOTE_OUT block that names the own lane has the same effect. Comparison values, microstep counts of a paired stack and cycle starts are noted for their sender.
The model's choices in log entries 47 and 95 enter here. -/
def Obligations.Votes : Prop :=
  (∀ (l : Lane) (x y z : LaneId) (c idx : Nat) (u v : Int),
    (l.cmpVal x c idx = some u → l.cmpVal y c idx = some v →
      (l.compare x y c idx).disOf x y = (l.disOf x y).set c (if fgt (fq (u - v).natAbs 16384) (l.pf 0xA101 c) = true then (l.disOf x y).getD c 0 + 1 else 0)) ∧
    (l.st = .shadow → [LaneId.a, .b, .c].filter (l.votes c) = [x, y, z] → l.disagree x y c = true → l.disagree y z c = true → l.disagree z x c = false →
      (y = l.id → (l.voteChain c).st = .failSilent ∧ (l.voteChain c).red.selfOut = true) ∧
      (y ≠ l.id → l.red.auth ≠ y.code → (l.voteChain c).red.peer = l.red.peer.set y.idx { l.peer y with outVoted := true } ∧ (l.voteChain c).st = .shadow)) ∧
    (l.st = .shadow → [LaneId.a, .b, .c].filter (l.votes c) = [x, y] → l.disagree x y c = true → l.red.voteTold.getD c 0 ≠ 2 →
      (l.voteChain c).red.voteTold = l.red.voteTold.set c 2 ∧ (l.voteChain c).red.peer = l.red.peer ∧ (l.voteChain c).st = .shadow) ∧
    (∀ (s : State) (a : At) (b : Block), l = s.laneAt a → l.hears x b 0x15 = true → (l.st = .shadow ∨ l.st = .authority) → byteAt b.payload 0 = l.id.code →
      Next (.voteOutRx a x b) s (fun l' => l'.st = .failSilent ∧ l'.red.selfOut = true ∧ l'.laneOk = false))) ∧
  (∀ (s : State) (a : At) (p : LaneId) (b : Block) (k : Nat) (own : Int), let l := s.laneAt a
    let d := b.payload
    (let x := l.heard p b true
     l.hears p b 0x11 = true → l.st = .sync → byteAt d 1 < l.chains.length → (l.peer p).cmpIdx ≠ byteAt d 0 →
     Next (.cmpBlockRx a p b) s (fun l' => ∃ v : PeerView, l'.red.peer = x.red.peer.set p.idx v ∧ v.cmpIdx = byteAt d 0 ∧ v.cmp.getD (byteAt d 1) none = some (sext 16 (leAt d 2 2)) ∧
       Reports { x with red := l'.red } l')) ∧
    (let x := l.heard p b false
     l.hears p b 0x25 = true → byteAt d 0 = k → k < 8 → (l.motor k).cfg.kind = .stepper → l.p 0x8140 k = p.code → l.red.pairM.getD k none = some own → (own - sext 32 (leAt d 2 4)).natAbs ≤ l.p 0x8141 k →
     Next (.pairPosRx a p b) s (fun l' => Reports (x.setStepper k { l.stepper k with pairCnt := 0, pairTold := false }) l')) ∧
    (let x := l.heard p b true
     l.hears p b 0x18 = true → l.net.st = .synced →
     Next (.cycleBlockRx a p b) s (fun l' =>
       Reports { x with net := { x.net with peerStart := x.net.peerStart.set p.idx (some (l.now - us 1 - leAt d 6 2)), peerCyc := x.net.peerCyc.set p.idx (leAt d 0 6),
                                            peerSync := x.net.peerSync.set p.idx (bit (byteAt d 8) 0), skewTold := l'.net.skewTold } } l')))

/-- Withdrawals, claims and acknowledgements (R242, R243, R250, R252): a withdrawal is noted; that of the authority leaves authority open or to this lane; a more senior claimant becomes the authority in this lane's view; the first accepting answer makes this lane the authority; an answer to a resynchronisation that matches begins the comparison.
The model's choice in log entry 97 enters here. -/
def Obligations.Authority : Prop :=
  ∀ (s : State) (a : At) (p : LaneId) (b : Block) (c : Claim), let l := s.laneAt a
    let d := b.payload
    let free := l.bist.run = none ∧ l.gd.test = none
    (let x := l.heard p b true
     l.hears p b 0x12 = true → l.red.auth ≠ 0 →
     (l.red.auth ≠ p.code → Next (.withdrawBlockRx a p b) s (fun l' =>
       (∃ v : PeerView, l'.red.peer = x.red.peer.set p.idx v ∧ v.gone = true ∧ v.goneCls = byteAt d 1 ∧ v.known = true) ∧ l'.red.joinAt = x.red.joinAt.set p.idx none ∧
       Reports { x with red := l'.red } l')) ∧
     (l.red.auth = p.code → l.st = .shadow → free → Next (.withdrawBlockRx a p b) s (fun l' =>
       (l'.st = .shadow ∧ l'.red.auth = 0 ∨ l'.st = .authority ∧ l'.red.auth = l.id.code) ∧ l'.red.failAt.isSome = true ∧ l'.params = l.params))) ∧
    (l.hears p b 0x13 = true → byteAt d 7 = p.code → (l.peer p).outVoted = false →
      (l.st = .shadow → l.senior p l.id = true → free →
        Next (.authClaimRx a p b) s (fun l' => l'.red.auth = p.code ∧ l'.red.claim = none ∧ l'.red.dup = false ∧ l'.st = .shadow ∧ l'.params = l.params)) ∧
      (l.st = .authority → Next (.authClaimRx a p b) s (fun l' => l'.red.auth = l.red.auth ∧ l'.st = .authority))) ∧
    (l.hears p b 0x14 = true → l.st = .shadow → l.red.claim = some c → byteAt d 6 = l.id.code → leAt d 0 6 = c.cycle → byteAt d 7 = 1 → free →
      Next (.authAckRx a p b) s (fun l' => l'.st = .authority ∧ l'.red.auth = l.id.code ∧ l'.red.claim = none ∧ l'.red.dup = false ∧ l'.laneOk = true ∧ l'.params = l.params)) ∧
    (let x := l.heard p b false
     let h : W32 := .ofNat 32 (leAt d 0 4)
     l.hears p b 0x21 = true → l.st = .authority →
     Next (.healthBlockRx a p b) s (fun l' =>
       (∃ v : PeerView, l'.red.peer = x.red.peer.set p.idx v ∧ v.health = h ∧ v.modStat = .ofNat 32 (leAt d 4 4) ∧ v.faults = .ofNat 32 (leAt d 8 4) ∧ v.known = true ∧ (b.side.isSome = true → v.side = b.side)) ∧
       l'.red.joinAt = (if healthState h = 5 ∧ healthState (l.peer p).health ≠ 5 ∧ healthState (l.peer p).health ≠ 6 then l.red.joinAt.set p.idx (some l.now) else l.red.joinAt) ∧
       Reports { x with red := l'.red, held := l'.held, fn := (match b.side with | some y => x.chopReport p (healthState h) y.rtFault | none => x).fn } l')) ∧
    (let x := l.heard p b false
     let r := l.red.rejoin
     l.hears p b 0x23 = true → (l.lnk p).up = true → l.st = .sync → l.pwr.step = .done → r.sent = true → r.step = 1 → r.auth = p.code → l.pwr.restore = none → l.boot.idOk = true →
     leAt d 0 6 = l.cyc → byteAt d 6 = l.le.outerIdx % 256 → byteAt d 7 = (l.mirMap.length + 255) % 256 → leAt d 8 4 = l.mapCrc.toNat → x.senOk = true →
     Next (.resyncAckRx a p b) s (fun l' =>
       Reports { x with red := { x.red with cfgTold := false, rejoin := { r with step := 3, startAt := l.now, good := 0, periods := 0, bad := false }, mirNext := [], mirGap := false } } l'))

/-- The instants of redundancy (R209, R238, R250, R252, R253, R257, R402, R427): the outer sequence computes and sends the own references; an attempt to rejoin that gets no answer counts; a joining set is whole after its ramp; a late failover is told; a limp lane without references takes its safe state; a lane that finds no peer driving starts the module.
The model's choices in log entries 20 and 46 enter here. -/
def Obligations.RedundancyInstants : Prop :=
  ∀ (s : State) (a : At) (p : LaneId) (ds : List (Option DsRes)) (t : Nat), let l := s.laneAt a
    let r := l.red.rejoin
    (let y := ({ l.blocksTaken with red := { l.red with peer := l.red.peer.map (fun v => { v with ignored := v.outVoted }), srcBad := l.outerLost, chainBad := l.chainsLost, sensor := l.outerLost || l.slotSrcLost } } : Lane).outerLoops ds
     let vs := y.chains.map (fun j => q14 (y.iSet j))
     l.pwm.halted = false → l.fwRuns = true → l.st = .follower → y.st = .follower →
     Next (.outerSequence a ds) s (fun l' =>
       l'.red.own = vs ++ List.replicate (8 - vs.length) 0 ∧ l'.red.ownCyc = y.cyc ∧ l'.red.seq = y.red.seq + 1 ∧ Reports { y with red := l'.red, link := l'.link } l')) ∧
    (l.st = .sync → r.sent = true → r.step = 1 → r.spent = false → r.startAt + ms 10 ≤ l.now → l.p 0xA121 ≤ r.tries + 1 →
      Next (.resyncTimeout a) s (fun l' => Reports { l with red := { l.red with rejoin := { r with tries := r.tries + 1, spent := true, step := 1 } } } l')) ∧
    (l.red.joinAt.getD p.idx none = some t → t + ms (l.p 0xA122) ≤ l.now →
      Next (.joinRampEnd a p) s (fun l' => Reports { l with red := { l.red with joinAt := l.red.joinAt.set p.idx none } } l')) ∧
    (l.red.failAt.isSome = true → l.red.lateTold = false → l.red.refAt + 2 * l.outerTicks < l.now →
      Next (.failoverLate a) s (fun l' =>
        Reports { l with red := { l.red with lateTold := true, intAt := if l.red.claim.isSome = true ∨ l.st = .authority then some l.now else l.red.intAt } } l')) ∧
    (l.st = .limp → l.limpDrive = false →
      Next (.limpRefTimeout a) s (fun l' => (∀ k < 8, (l.motor k).cfg.kind ≠ .none → (l'.motor k).laneSafe = true) ∧ Reports { l with mot := l'.mot, held := l'.held } l')) ∧
    (l.st = .sync → l.pwr.step = .done → (∀ q ∈ l.peers, l.peerDrives q = false) → l.tapDrives = false → l.boot.idOk = true → l.senOk = true → l.chanReady = true → l.pwr.restore = none →
      Next (.moduleStartShadow a) s (fun l' => (l'.st = .shadow ∨ l'.st = .authority) ∧ l'.laneOk = true ∧ l'.red.mirStart = true ∧ l'.params = l.params))

/-- Lost links and their return (R21, R242, R252, R255, R256): a block out of order is a bad block, which counts on its link; a link that is silent for 20 µs is lost, the peers hear of it at once, and a driving lane that has no live peer left starts its split decision. A lost link that has received cleanly for 1 ms asks for the handshake on the link itself, answers it, and is back once it is done; the authority answers a resynchronisation.
The model's choices in log entries 154 and 184 enter here. -/
def Obligations.LostLinks : Prop :=
  ∀ (s : State) (a : At) (p : LaneId) (b : Block) (q : Byte), let l := s.laneAt a
    let k := l.lnk p
    let x := l.heard p b false
    (p ≠ l.id → l.linkOn = true → (l.lnk p).seqRx = some q → (l.lnk p).inOrder q b.seq l.now = false → exec (.refBlockRx a p b) s = exec (.interlaneBadBlock a p) s) ∧
    (p ≠ l.id → l.linkOn = true → (recent l.now (ms 1) (l.lnk p).badTimes).length < 16 →
      Next (.interlaneBadBlock a p) s (fun l' =>
        Reports { l with link := l.link.set p.idx { l.lnk p with badTimes := recent l.now (ms 1) (l.lnk p).badTimes, badCount := (l.lnk p).badCount + 1, cleanSince := l.now, seqRx := none, shook := (l.lnk p).shook && (l.lnk p).up },
                         red := { l.red with mirGap := l.red.mirGap || (match LaneId.ofCode l.red.auth with | some x => x == p || !l.linkUp x | none => false) } } l')) ∧
    (k.lastValid + us 20 ≤ l.now → l.linkUp p = true →
      (l.st ≠ .shadow → l.st ≠ .authority → Next (.linkLossTimeout a p) s (fun l' => ∃ bs : List Block,
        l'.lnk p = { k with up := false, cleanSince := l.now, badTimes := [], seqRx := none, shook := false, urgent := k.urgent ++ bs } ∧
        bs.map Block.kind = (if mayDrive l.st = true ∧ l.fwRuns = true then [0x21] else []) ∧ Reports { l with link := l'.link, red := { l.red with inst := l'.red.inst } } l')) ∧
      (l.st = .shadow ∨ l.st = .authority → (l.peer p).known = true → (l.peer p).gone = false → l.red.split = none →
        (∀ q, q ≠ p → q ≠ l.id → l.linkUp q = false ∨ (l.peer q).gone = true ∨ (l.peer q).known = false) →
        Next (.linkLossTimeout a p) s (fun l' => ∃ live, p.code ∈ live ∧ l'.red.split = some ⟨l.cyc, l.st == .authority, live⟩ ∧ l'.red.dup = true ∧ l'.st = l.st))) ∧
    (p ≠ l.id → k.up = false → l.linkOn = true → k.cleanSince + ms 1 ≤ l.now →
      (k.shook = false → Next (.linkRestore a p) s (fun l' => Reports (l.send p false 0x22 (leBytes 6 l.net.cycle.toNat)) l')) ∧
      (k.shook = true → l.st ≠ .follower → l.st ≠ .island → Next (.linkRestore a p) s (fun l' => Reports { l with link := l.link.set p.idx { k with up := true, badTimes := [] }, red := l'.red } l')) ∧
      (k.shook = true → l.st = .island → l.red.split = none → Next (.linkRestore a p) s (fun l' => l'.st = .sync)) ∧
      (l.hears p b 0x22 = true → Next (.resyncReqRx a p b) s (fun l' =>
        Reports ((x.setLnk p { x.lnk p with shook := true }).send p false 0x23 x.ackBytes) l'))) ∧
    (l.hears p b 0x22 = true → l.st = .authority → k.up = true → Next (.resyncReqRx a p b) s (fun l' =>
       Reports ((x.setPeer p { x.peer p with outVoted := false, ignored := false }).sendTo p false 0x23 l.ackBytes) l'))

/-- Splits (R246, R254, R256, R257, R259, R265): a driving lane that has lost every live peer decides; alone and unheard it is an island, while the senior of two goes on; an island whose grace ends lets its cell go; a lane in FAILSILENT is reset by command; the parked stop ends by command.
The model's choice in log entry 50 enters here. -/
def Obligations.LinksAndSplits : Prop :=
  ∀ (s : State) (a : At) (p : LaneId) (x : Split) (t : Nat) (m : Msg), let l := s.laneAt a
    let k := l.lnk p
    (l.st = .shadow ∨ l.st = .authority → l.red.split = some x → x.startCycle + l.p 0xA111 ≤ l.cyc →
      (x.live.length ≠ 1 → l.tapHeard = false → l.hostAlone = false → (∀ q ∈ l.peers, l.linkUp q = false) →
        Next (.splitDecision a) s (fun l' => l'.st = .island ∧ l'.red.split = none ∧ l'.red.islandAt = some l.now ∧ l'.red.dup = false)) ∧
      (x.live = [p.code] → l.senior l.id p = true → x.wasAuth = true → l.st = .authority →
        Next (.splitDecision a) s (fun l' => l'.st = .authority ∧ l'.red.split = none ∧ l'.red.dup = false))) ∧
    (l.st = .follower → l.tapHeard = false → Next (.followerAgeTimeout a) s (fun l' => l'.st = .island ∧ l'.laneOk = false)) ∧
    (l.st = .island → l.red.graceOn = true → l.red.islandAt = some t → t + sec (l.p 0xA110) ≤ l.now →
      Next (.islandGraceEnd a) s (fun l' => l'.fn.cell = (if l.fn.cell = .hold then .passive else l.fn.cell) ∧ Reports { l with red := { l.red with graceOn := false }, fn := l'.fn } l')) ∧
    (let l := (s.laneAt a).taken 0x61 m
     (s.laneAt a).ready 0x61 m = true → LaneId.ofCode (m.u8 0) = some p → p ≠ l.id → healthState (l.peer p).health = 11 →
     Answers (.redLaneReset a m) s 0x61 m stDone [] (fun l' => l' = l.sendTo p true 0x24 (b8 p.code :: List.replicate 11 0x5A))) ∧
    (let b : Block := { kind := 0x24, seq := (match k.seqRx with | some q => q + 1 | none => 0), payload := b8 l.id.code :: List.replicate 11 0x5A }
     l.hears p b 0x24 = true → l.st = .failSilent →
     Next (.resetBlockRx a p b) s (fun l' => l'.st = .waking ∧ l'.pwr.boot = l.pwr.boot + 1 ∧ l'.mem.mram = l.mem.mram ∧ l'.boot.otp = l.boot.otp ∧ l'.params = [])) ∧
    (let l := (s.laneAt a).taken 0x62 m
     (s.laneAt a).ready 0x62 m = true → fgt (fabs (m.f32 0)) (fq 1 10) = false → l.classCounts.sum < 2 → l.st = .authority →
     Answers (.redFaultClear a m) s 0x62 m stDone [] (fun l' => l'.red.parked = false ∧ Reports { l with fn := { l.fn with v := m.f32 0, stopSince := none }, red := l'.red } l'))

/-! ### Network -/

/-- The network commands of the host (R285, R286, R297, R309, R327): a node with a priority that listens or is still off contends for cold start, a master that started its channel at once listens anew, and one that has heard nothing starts the time base; a slot changes its source at the next cycle start; the next key epoch is scheduled; the wake pattern goes out on both ports. A recognised pattern is noted and forwarded.
The model's choices in log entries 7, 51 and 55 enter here. -/
def Obligations.NetworkCommands : Prop :=
  ∀ (s : State) (a : At) (m : Msg) (k port : Nat),
    (let l := (s.laneAt a).taken 0x71 m
     (s.laneAt a).ready 0x71 m = true → l.net.csKey = none → l.np 0xB109 ≠ 0 →
     (l.net.st = .offline ∨ l.net.st = .listen → Answers (.netColdstart a m) s 0x71 m stAccepted [] (fun l' =>
       l' = { l with net := { l.net with contend := true, csKey := some (m.key 0x71), listenAt := l.now }, mb := { l.mb with accepted := l.mb.accepted ++ [m.key 0x71] } })) ∧
     (l.net.st = .synced → l.net.acting = true → l.np 0xB108 = 1 → Answers (.netColdstart a m) s 0x71 m stAccepted [] (fun l' =>
       l'.net.st = .listen ∧ l'.net.acting = false ∧ l'.net.contend = true ∧ l'.net.csKey = some (m.key 0x71) ∧ l'.net.listenAt = l.now ∧ l'.net.hwm = l.net.hwm ∧ Reports { l with net := l'.net } l'))) ∧
    (let l := (s.laneAt a).taken 0x72 m
     (s.laneAt a).ready 0x72 m = true → (l.nps 0xB107).idxOf? (m.u16 0) = some k → 3 < m.u16 0 → l.i1 = false → m.u8 2 ≤ 1 →
     Answers (.netTxSrcSet a m) s 0x72 m stDone [] (fun l' => l' = l.setOwn k { l.ownSlot k with hostNext := some (m.u8 2 == 1) })) ∧
    (let l := (s.laneAt a).taken 0x73 m
     (s.laneAt a).ready 0x73 m = true → m.u8 0 ≤ 1 → m.u8 1 = (l.chan (m.u8 0)).epoch + 1 → (l.chan (m.u8 0)).next = none →
     Answers (.netKeyEpoch a m) s 0x73 m stAccepted [] (fun l' =>
       l' = { (l.releaseIds [0xB133]).setChan (m.u8 0) { l.chan (m.u8 0) with next := some (m.u8 1, leAt m.args 4 6, some (m.key 0x73)) } with mb.accepted := l.mb.accepted ++ [m.key 0x73] })) ∧
    (let l := (s.laneAt a).taken 0x74 m
     (s.laneAt a).ready 0x74 m = true →
     Answers (.netWake a m) s 0x74 m stDone [] (fun l' => l' = { l with ports.cicTx := l.ports.cicTx ++ (0, l.now) :: (if l.i1 = true then [] else [(1, l.now)]) })) ∧
    (let l := s.laneAt a
     port < 2 → l.detectorsOn = true → l.wakeArmed (4 + port) = false →
     Next (.cicadaRecognised a port) s (fun l' => l'.ports.cicAt = l.ports.cicAt.set port (some l.now) ∧
       (l.ports.fwd = true → l.ports.cicAt.getD (1 - port) none = none → l'.ports.cicTx = l.ports.cicTx ++ [(1 - port, l.now)]) ∧ Reports { l with ports := l'.ports } l')) ∧
    (let l := s.laneAt a
     (l.net.st = .listen → l.np 0xB109 ≠ 0 → l.net.listenAt + 40000 * l.np 0xB10A + us (20 * l.np 0xB105) ≤ l.now →
      Next (.listenTimeout a) s (fun l' => l'.net.st = .coldstart ∧ l'.net.acting = true ∧ l'.net.cycle = .ofNat 48 (l.net.hwm + 2 ^ 17) ∧
        l'.net.nextAt = l.now + us (l.np 0xB101) ∧ Reports { l with net := l'.net } l')))

/-- The cycle (R272, R273, R276, R278, R281): a cycle start counts the cycle and clears what belonged to the last; an own slot is inserted once per cycle and cuts a relayed frame in its way; a dynamic frame goes out under its rules; the correction moves the next start. A watched spare slot is claimed (R296).
The model's choices in log entries 51, 57 and 165 enter here. -/
def Obligations.NetworkCycle : Prop :=
  ∀ (s : State) (a : At) (slot n : Nat) (payload : List Byte), let l := s.laneAt a
    (l.net.st ≠ .offline → l.fwRuns = true → l.net.known = true → l.net.cand = none → l.net.nextAt ≤ l.now →
      Next (.cycleStart a) s (fun l' => l'.net.cycle = l.net.cycle + 1 ∧ l'.net.cycleAt = l.net.nextAt ∧ l'.net.nextAt = l.net.nextAt + l.cycLen ∧
        l'.net.sent = [] ∧ l'.net.heard = [] ∧ l'.net.ffNow = none ∧ l'.net.txDyn = 0 ∧ l'.net.txAir = 0 ∧ l'.params = l.params)) ∧
    (l.mayInsert = true → l.net.st = .synced → 0 < slot → slot ≤ l.staticN → (l.nps 0xB107).idxOf? slot = some 0 → l.net.sent.contains slot = false →
      l.net.cycleAt + l.slotStart slot + l.insDelay ≤ l.now → l.now < l.net.cycleAt + l.cycLen → l.ffSlot ≠ some slot → l.grdNew = false → l.grdStatic slot = true → (l.ownSlot 0).host = false →
      Next (.staticSlotInsert a slot) s (fun l' => l'.net.sent = slot :: l.net.sent ∧ (∃ f, l'.net.tx = (l.cutTx [.relayed] l.insPort l.now f.stop).net.tx ++ [f] ∧ f.port = l.insPort ∧ f.t = l.now) ∧
        Reports { l with net := l'.net, red := l'.red, fn := l'.fn } l')) ∧
    (l.net.notice = false → 0 < payload.length → payload.length ≤ 64 → l.dynMay slot payload.length = true → l.grdDyn payload.length = true → (∀ q ∈ [48, 49, 50, 51], (l.q q).items = []) →
      Next (.dynamicFrameStart a slot payload) s (fun l' => l'.net.txDyn = l.net.txDyn + 1 ∧ l'.net.txAir = l.net.txAir + (max 30 payload.length + 54) * 80 ∧
        (∃ f, l'.net.tx = l.net.tx ++ [f] ∧ f.payload = payload ++ List.replicate (30 - payload.length) 0) ∧ Reports { l with net := l'.net } l')) ∧
    (l.net.st = .synced → l.net.nitCycle ≠ some l.net.cycle.toNat → l.net.cycleAt + l.cycNom - l.nitLen ≤ l.now → l.net.ffNow = some slot → l.net.ffLast = some slot →
      l.net.delta.natAbs ≤ 40 * l.p 0xB112 → l.net.rate.natAbs ≤ 1000 * l.p 0xB113 → l.net.link0 = false →
      Next (.nitStart a) s (fun l' => Reports { l with net := { l.net with nitCycle := some l.net.cycle.toNat, nextAt := ((l.net.nextAt : Int) + l.net.delta).toNat, ffSrc := slot, reqDue := l'.net.reqDue } } l')) ∧
    (l.net.claim = .watch → 8 ≤ l.net.claimCnt → n = l.staticN + (l.now - l.net.cycleAt - l.staticN * l.slotLen) / us 2 + 1 → l.dynMay n 3 = true → l.grdDyn 3 = true → l.net.claimRival = false →
      Next (.slotWatchEnd a) s (fun l' => l'.net.claim = .sent ∧ l'.net.txDyn = l.net.txDyn + 1 ∧
        (∃ f, l'.net.tx = l.net.tx ++ [f] ∧ f.payload = leBytes 2 l.net.claimSlot ++ [b8 (l.np 0xB105)] ++ List.replicate 27 0) ∧ Reports { l with net := l'.net } l')) ∧
    (l.net.claim = .backoff → l.net.claimCnt = 0 → Next (.claimBackoffEnd a) s (fun l' => Reports { l with net := { l.net with claim := .watch } } l'))

/-- A frame of the own channel that fails a check of Table NF-4 has no effect but counts and events (R311, R312): whatever the row that its type belongs to, and the total of its check counts it. Frames of the controllers themselves that pass (R295, R296): a rival claim brings a back-off of 1 to 16 cycles; a rejoin notice is noted.
The model's choices in log entries 52, 53 and 159 enter here. -/
def Obligations.FailedAndControlFrames : Prop :=
  ∀ (s : State) (a : At) (f : RxFrame) (i : Instr), let l := s.laneAt a
    let x := l.parse f
    let y := l.marked f
    let d := f.payload
    let bad := l.timed = true ∧ l.netOn = true ∧ f.port < 2 ∧ (l.i1 && f.port != 0) = false ∧ ¬ (x.node = l.np 0xB105 ∧ x.ok = true ∧ f.fcsOk = true ∧ x.slot ≠ 0xFFFF) ∧
      (l.secondPass f.port x && f.fcsOk) = false ∧ l.rxFail f x ≠ 0
    (bad → i ∈ [.icbexFrameDrop a f, .dataFrameRx a f, .hostStatusRx a f, .claimFrameRx a f, .rejoinFrameRx a f, .mailboxFrameRx a f, .delayReqRx a f, .delayRespRx a f] →
    Next i s (fun l' => Reports { l with net := { l.net with cnt := l'.net.cnt, chan := l'.net.chan, evAt := l'.net.evAt } } l' ∧
      (f.fcsOk = false → l'.net.cnt = l.net.cnt.set 64 { l.rxCnt 64 with fcs := (l.rxCnt 64).fcs + 1 } ∧ l'.net.chan = l.net.chan))) ∧
    (let inc (k : Nat) (c : RxCnt) : RxCnt := match k with
      | 1 => { c with fcs := c.fcs + 1 }
      | 2 => { c with malformed := c.malformed + 1 }
      | 3 => { c with window := c.window + 1 }
      | 5 => { c with replay := c.replay + 1 }
      | 7 => { c with flood := c.flood + 1 }
      | _ => { c with auth := c.auth + 1 }
     bad → 64 < l.net.cnt.length → Next (.icbexFrameDrop a f) s (fun l' => l'.net.cnt.getD 64 {} = inc (l.rxFail f x) (l.rxCnt 64) ∧ l'.net.rx = l.net.rx ∧ l'.net.st = l.net.st ∧
       (∀ j < 64, j ≠ x.node → l'.net.cnt.getD j {} = l.net.cnt.getD j {}))) ∧
    (l.passes f [5] = true →
      (l.net.claimSlot ≠ leAt d 0 2 ∨ l.net.claim ≠ .sent ∧ l.net.claim ≠ .watch → Next (.claimFrameRx a f) s (fun l' =>
        Reports { y with net := { y.net with claimed := (leAt d 0 2, byteAt d 2, 0) :: l.net.claimed.filter (fun e => e.1 != leAt d 0 2) } } l')) ∧
      (l.net.claim = .watch → l.net.claimSlot = leAt d 0 2 → Next (.claimFrameRx a f) s (fun l' =>
        l'.net.claim = .watch ∧ l'.net.claimRival = true ∧ l'.net.claimed = (leAt d 0 2, byteAt d 2, 0) :: l.net.claimed.filter (fun e => e.1 != leAt d 0 2) ∧ Reports { y with net := l'.net } l')) ∧
      (l.net.claim = .sent → l.net.claimSlot = leAt d 0 2 → Next (.claimFrameRx a f) s (fun l' =>
        l'.net.claim = .backoff ∧ 1 ≤ l'.net.claimCnt ∧ l'.net.claimCnt ≤ 16 ∧ Reports { y with net := l'.net } l'))) ∧
    (l.passes f [6] = true → l.net.st = .synced → x.node ≠ l.np 0xB105 →
      Next (.rejoinFrameRx a f) s (fun l' => l'.net.rejoin = true ∧ Reports { y with net := l'.net } l'))

/-- Links of the loop (R275, R279, R280): a link that leaves takes the delay of the ring and, on port 0, the time of its neighbour with it; a synchronised node takes a new link only once the time base across it is known. A delay request is answered in the NIT, inside the guardian's window and at most twice in it, else cut; an answer gives the link delay and the loop offset, a stored delay being kept where the first exchange agrees.
The model's choices in log entries 53 and 187 enter here. -/
def Obligations.LinksOfTheLoop : Prop :=
  ∀ (s : State) (a : At) (f : RxFrame) (port : Nat), let l := s.laneAt a
    let y := l.marked f
    let d := f.payload
    ((port < 2 → Next (.linkDown a port) s (fun l' =>
       l'.net.link0 = (l.net.link0 && port != 0) ∧ l'.net.link1 = (l.net.link1 && port != 1) ∧ l'.net.retR = [] ∧ l'.net.ringL = l.net.ringL ∧ l'.net.timeOk = (l.net.timeOk && port != 0) ∧ Reports { l with net := l'.net } l')) ∧
    (port < 2 → (if port = 0 then l.net.link0 else l.net.link1) = false →
      (l.net.st = .synced ∨ l.net.st = .coldstart → Next (.linkUp a port) s (fun l' => Reports { l with net := { l.net with joinPort := some port, joinOk := false } } l')) ∧
      (l.net.st ≠ .synced → l.net.st ≠ .coldstart → Next (.linkUp a port) s (fun l' =>
        l'.net.link0 = (l.net.link0 || port == 0) ∧ l'.net.link1 = (l.net.link1 || port == 1) ∧ Reports { l with net := l'.net } l')))) ∧
    (let lo := l.answerNit.1
     let hi := l.answerNit.2.1
     let off (t : Nat) : Nat := (l.grdOff 1 + (t - l.now)) % max 1 l.asGuard.cycNom
     l.passes f [7] = true → f.port = 1 → l.i1 = false → l.net.st = .synced → l.mayInsert = true → l.grdNew = false → lo < hi →
     (l.grdNit 1 (off lo) = true → l.grdNit 1 (off hi) = true → l.linkLocals 1 lo < 2 →
      Next (.delayReqRx a f) s (fun l' => (∃ g, l'.net.tx = l.net.tx ++ [g] ∧ g.port = 1 ∧ g.kind = .linkLocal ∧ lo ≤ g.t ∧ g.t < hi ∧
        g.payload.take 18 = leBytes 2 (leAt d 0 2) ++ leBytes 8 l.now ++ leBytes 8 g.t) ∧ Reports { y with net := l'.net } l')) ∧
     (l.grdNit 1 (off lo) = false ∨ 2 ≤ l.linkLocals 1 lo → (recent l.now (sec 1) l.net.cuts).length < 3 →
      Next (.delayReqRx a f) s (fun l' => l'.net.tx = l.net.tx ∧ Reports { y with net := l'.net } l'))) ∧
    (let v : Int := (((l.now : Int) - l.net.reqAt) - ((leAt d 10 8 : Int) - leAt d 2 8)) / 2
     let ds := (v :: l.net.dly).take 64
     l.passes f [8] = true → f.port = 0 → l.i1 = false → leAt d 0 2 = l.net.reqNo →
     (l.net.dlyOld = true → (v - l.net.dly.sum / max 1 (l.net.dly.length : Int)).natAbs ≤ 2) →
     Next (.delayRespRx a f) s (fun l' => l'.net.dly = ds ∧ l'.net.dlyOld = false ∧
       l'.net.offA = (if l.loopHead then 0 else sext 32 (leAt d 18 4) + 384 + ds.sum / max 1 (ds.length : Int)) ∧ Reports { y with net := l'.net } l'))

/-- Frames that pass their checks (R258, R269, R271, R272, R281, R289, R303, R306, R250): a frame is relayed after 960 ns, as long as the guardian allows, and cuts an own dynamic frame in its way; static data stand under their slot; a Firefly frame gives the offset of the cycle; the host's map is kept; the tapped lane's frame gives its health word.
The model's choices in log entries 53, 159 and 160 enter here. -/
def Obligations.NetworkFrames : Prop :=
  ∀ (s : State) (a : At) (f : RxFrame) (q : Nat) (short : Option Nat), let l := s.laneAt a
    let x := l.parse f
    let y := l.marked f
    let d := f.payload
    (let t := l.now + 384
     l.st ≠ .off → l.st ≠ .waking → l.st ≠ .boot → (x.ok = true → x.slot ≠ 0xFFFF) → l.net.joinPort ≠ some f.port → l.relayTo f.port = some q → l.ring = false →
     (∀ o ∈ l.net.tx, o.kind = .static_ → o.port = q → o.t ≤ t → o.stop ≤ t) → l.grdRelay f q = some short →
     Next (.icbexRelay a f) s (fun l' =>
       Reports { l with net := { l.net with relayed := l.net.relayed + 1, tx := (l.cutTx [.dynamic, .linkLocal] q t (t + wireTime d)).net.tx ++
         [{ port := q, kind := .relayed, cutAt := short, mac := f.mac, hdr := f.hdr, payload := d, tag := f.tag, fcs := f.fcs, t := t }] } } l')) ∧
    (l.passes f [1] = true → l.net.st = .synced → l.net.claim = .none →
      Next (.dataFrameRx a f) s (fun l' =>
        l'.net.rx = { slot := x.slot, node := x.node, payload := d.take x.len, age := x.age, cycle := l.net.cycle.toNat } :: l.net.rx.filter (fun r => r.slot != x.slot) ∧
        l'.net.heard.contains x.node = true ∧ l'.net.heardSlots.contains x.slot = true ∧ Reports { y with net := l'.net } l')) ∧
    (l.passes f [2] = true → x.slot ≠ 0xFFFF → l.net.st = .synced → l.net.acting = false → l.net.ffNow = none → l.net.joinPort ≠ some f.port →
      (match l.ffSlot with | some r => decide (x.slot < r) | none => true) = true →
      Next (.fireflyRx a f) s (fun l' => l'.net.ffNow = some x.slot ∧ l'.net.ffNode = x.node ∧ l'.net.delta = (l.rxDev f.port x).getD 0 ∧ Reports { y with net := l'.net } l')) ∧
    (let n := byteAt d (l.np 0xB105 / 2) / (if l.np 0xB105 % 2 == 0 then 1 else 16) % 16
     l.passes f [3] = true → l.net.st = .synced →
     Next (.hostStatusRx a f) s (fun l' =>
       Reports { y with net := l'.net, red := { l.red with hostMap := if bit n 3 = true then some (n % 8, x.slot) else none } } l')) ∧
    (2 ≤ f.port → (l.i1 = true → f.port = 2) → l.fwRuns = true → l.st = .shadow → l.tapFail f x = 0 → x.ty = 1 → l.moduleSlot x = true →
      l.net.tapSeen.any (fun e => e.2 == (l.tapOwn f x, x.slot, x.node, x.ty)) = false →
      Next (.tapFrameRx a f) s (fun l' => l'.red.tapAt = some l.now ∧ l'.red.tapHealth = .ofNat 32 (leAt d 0 4) ∧
        l'.red.peer = l.red.peer.set l.id.next.idx { l.peer l.id.next with health := .ofNat 32 (leAt d 0 4), known := true } ∧ Reports { l with net := l'.net, red := l'.red } l'))

/-! ### Power, wake and boot -/

/-- The supply (R399, R405, R412, R416, R417, R418): power-on starts the lane cold; a loss of the AON domain leaves MRAM and OTP alone; a sag closes the hold-up switch; a recovery within the filter opens it again; SAVE withdraws the lane and keeps an image, which goes with its CRC to the copy whose turn it is; a SAVE that ends early leaves the bytes written there and no CRC; supply that is back wakes the lane under source 8.
The model's choices in log entries 106 and 114 enter here. -/
def Obligations.Supply : Prop :=
  ∀ (s : State) (a : At) (mv n t : Nat) (c : Chrysalis), let l := s.laneAt a
    let base := chrysAt (b2n l.pwr.chrysTurn)
    (l.pwr.aonOn = false → l.pwr.rearmed = true → 5500 < mv → l.st = .off →
      Next (.powerOn a mv) s (fun l' => l'.st = .waking ∧ l'.pwr.aonOn = true ∧ l'.pwr.rearmed = false ∧ l'.pwr.boot = l.pwr.boot + 1 ∧ l'.pwr.pstate = 5 ∧
        l'.pwr.step = (if 9000 ≤ mv then .regulators else .supply) ∧ l'.pwr.vsup = mv ∧ l'.params = [] ∧ l'.mem.mram = l.mem.mram ∧ l'.boot.otp = l.boot.otp)) ∧
    (l.pwr.aonOn = true → l.pwr.step = .supply → 9000 ≤ mv →
      Next (.powerOn a mv) s (fun l' => Reports { l with pwr := { l.pwr with vsup := mv, step := .regulators, stepAt := l.now, retries := 0, regAt := some l.now, holdTold := false } } l')) ∧
    Next (.aonPowerLoss a) s (fun l' => l'.st = .off ∧ l'.pwr.aonOn = false ∧ l'.pwr.rearmed = true ∧ l'.fn.cell = .passive ∧ l'.mem.sram = [] ∧ l'.params = [] ∧
      l'.mem.mram = l.mem.mram ∧ l'.boot.otp = l.boot.otp) ∧
    (mv < 7000 → l.maySave = true → l.pwr.sagAt = none →
      Next (.supplySag a mv) s (fun l' => Reports { l with pwr := { l.pwr with vsup := mv, goodAt := none, sagAt := some l.now } } l')) ∧
    (7500 < mv → l.pwr.sagAt = some t → l.now < t + us 22 → l.st ≠ .save →
      Next (.supplyRecover a mv) s (fun l' => Reports { l with pwr := { l.pwr with vsup := mv, goodAt := none, sagAt := none } } l')) ∧
    (l.pwr.sagAt = some t → t + us 18 ≤ l.now → l.maySave = true → l.pwr.entry = none → l.bist.run = none →
      Next (.saveEntry a mv) s (fun l' => l'.st = .save ∧ l'.pwr.pstate = 6 ∧ l'.pwr.hold = mv ∧ l'.pwr.save = some l.now ∧ l'.pwr.saveImg.isSome = (l.p 0xC102 == 1) ∧
        l'.laneOk = false ∧ l'.mb.accepted = [] ∧ (∀ x ∈ l'.mb.ses, x.level = 0) ∧ l'.net.hwm = (if l.net.known = true then max l.net.hwm l.net.cycle.toNat else l.net.hwm) ∧ l'.params = l.params)) ∧
    (l.st = .save → l.pwr.saveImg = some c → l.pwr.save = some t → l.supplyBack = false →
      Next (.saveImageDone a) s (fun l' => l'.st = .off ∧ l'.pwr.pstate = 7 ∧ l'.pwr.saveImg = none ∧ l'.pwr.chrysTurn = !l.pwr.chrysTurn ∧
        l'.mem.mram = ((l.mramPut (base + 32764) (leBytes 4 (crc32 (padTo 32764 c.body)).toNat)).mramPut base (c.body.take c.len)).mem.mram)) ∧
    (l.st = .save → l.pwr.saveImg = some c →
      Next (.saveStop a n) s (fun l' => l'.st = .off ∧ l'.pwr.pstate = 7 ∧ l'.pwr.saveFail = true ∧ l'.pwr.chrysTurn = !l.pwr.chrysTurn ∧ l'.mem.mram = (l.mramPut base (c.body.take n)).mem.mram)) ∧
    (l.st = .save → l.pwr.saveImg = none → l.supplyBack = true →
      Next (.saveSupplyReturn a) s (fun l' => l'.st = .waking ∧ l'.pwr.wakeSrc = 8 ∧ l'.pwr.wakes = l.pwr.wakes + 1 ∧ l'.pwr.boot = l.pwr.boot + 1)) ∧
    (l.pwr.regAt = some t → l.pwr.holdTold = false → t + ms 200 ≤ l.now → l.st ≠ .off →
      Next (.holdupChargeTimeout a mv) s (fun l' => Reports { l with pwr := { l.pwr with holdTold := true, hold := mv } } l'))

/-- Wakes (R328, R345, R400, R404, R409, R410, R411, R412): an armed source wakes a sleeping lane warm and under its code; regulators have their retries, to a halt, and the PLL follows the crystal; a clock that fails later leads to LIMP; IDLE is ungated for 50 µs by an event.
The model's choices in log entries 104 and 113 enter here. -/
def Obligations.Wakes : Prop :=
  ∀ (s : State) (a : At) (src port ptr reg t : Nat) (rd pll : Bool), let l := s.laneAt a
    let r := l.pwr.retries
    let woken (k : Nat) (l' : Lane) : Prop := l'.st = .waking ∧ l'.pwr.wakeSrc = k ∧ l'.pwr.wakes = l.pwr.wakes + 1 ∧ l'.pwr.warm = true ∧ l'.pwr.fromSleep = (l.pwr.pstate == 3) ∧
      l'.params = l.params ∧ l'.mem.sram = l.mem.sram ∧ l'.mem.mram = l.mem.mram
    (l.st = .off → l.pwr.pstate = 2 ∨ l.pwr.pstate = 3 → l.pwr.entry = none → l.boot.swap = none → l.pwr.burned = false →
      (2 ≤ src → src ≤ 6 → l.wakeArmed src = true → Next (.wakeEvent a src) s (woken src)) ∧
      (port < 2 → l.pwr.mayfly = false → l.wakeArmed (2 + port) = true → Next (.linkActivityWake a port) s (woken (2 + port))) ∧
      (port < 2 → l.wakeArmed (4 + port) = true → Next (.cicadaRecognised a port) s (woken (4 + port))) ∧
      (ptr < 256 → ptr ≠ 4 ∨ rd = false → l.wakeArmed 6 = true → Next (.servicePortWake a ptr rd) s (woken 6))) ∧
    (l.st = .waking →
      (l.pwr.step = .regulators →
        Next (.regulatorsReady a) s (fun l' => Reports { l with pwr := { l.pwr with step := .crystal, stepAt := l.now, retries := if l.pwr.warm = true then 0 else 1 } } l') ∧
        (reg < 4 → l.pwr.stepAt + (if l.pwr.warm = true then us 500 else ms 3) ≤ l.now →
          (r < 3 → Next (.regulatorTimeout a reg) s (fun l' => Reports { l with pwr := { l.pwr with step := .regWait, stepAt := l.now, retries := r + 1 } } l')) ∧
          (3 ≤ r → Next (.regulatorTimeout a reg) s (fun l' => l'.pwr.step = .halted ∧ l'.pwr.regFail = true ∧ Reports { l with pwr := l'.pwr } l')))) ∧
      (l.pwr.step = .regWait → l.pwr.stepAt + ms 10 ≤ l.now →
        Next (.regulatorRetry a) s (fun l' => Reports { l with pwr := { l.pwr with step := .regulators, stepAt := l.now } } l')) ∧
      (l.pwr.step = .pll →
        Next (.pllLock a) s (fun l' => Reports { l with st := .boot, pwr := { l.pwr with pstate := 0, step := (if l.pwr.warm = true then .comparator else .otp), stepAt := l.now } } l') ∧
        (r = 0 → l.pwr.stepAt + ms 1 ≤ l.now → Next (.pllTimeout a) s (fun l' => Reports { l with pwr := { l.pwr with stepAt := l.now, retries := 1 } } l')) ∧
        (r ≠ 0 → l.pwr.stepAt + ms 1 ≤ l.now → bit l.bootOpt 3 = false → Next (.pllTimeout a) s (fun l' => l'.st = .limp ∧ l'.pwr.oscFail = true ∧ l'.pwr.backup = true)))) ∧
    (l.pwr.backup = false → l.st ∈ [.boot, .check, .sync, .shadow, .authority, .follower, .island] →
      Next (.clockFail a pll) s (fun l' => l'.st = .limp ∧ l'.pwr.oscFail = true ∧ l'.pwr.backup = true ∧ l'.laneOk = false ∧ l'.params = l.params)) ∧
    (l.pwr.pstate = 1 →
      Next (.idleWakeEvent a) s (fun l' => Reports { l with pwr := { l.pwr with gateAt := some (l.now + us 50) } } l') ∧
      (l.pwr.gateAt = some t → t ≤ l.now → Next (.idleGateTimeout a) s (fun l' => Reports { l with pwr := { l.pwr with gateAt := none } } l')))

/-- The start (R384, R411, R424, R425, R426, R430, R436, R438, R439): the comparator test passes on 2,496 injections and is latched when it does not; the slot whose image passes runs; hand-over locks the protection unit and starts the watchdog; the firmware enters CHECK, and SYNC after checks that pass; checks that fail end in FAILSILENT; a warm wake whose memory and image are whole goes to SYNC at once, another becomes a cold one; the watchdog restarts the lane.
The model's choices in log entries 100, 110, 111, 112, 139, 149 and 161 enter here. -/
def Obligations.BootSteps : Prop :=
  ∀ (s : State) (a : At) (sig : W32) (n k t : Nat) (ok kept : Bool) (cfg : CfgImage) (c : Checks), let l := s.laneAt a
    (l.st = .boot → l.pwr.step = .comparator → l.pwr.warm = false →
      Next (.comparatorTestEnd a sig 2496 true) s (fun l' => l'.pwr.step = .image ∧ l'.mem.lsCount = 2496 ∧ l'.mem.lsPass = true ∧ l'.bist.cmp.status = 1 ∧ l'.st = .boot) ∧
      (n < 2496 → Next (.comparatorTestEnd a sig n true) s (fun l' => l'.st = .failSilent ∧ l'.bist.latch = some (sig, n, 3, l.pwr.boot)))) ∧
    (l.st = .boot → l.pwr.step = .image → l.boot.trial = false → l.boot.swap = none → l.boot.bootFails < 3 → k = (if bit l.bootOpt 2 = true then 0 else l.boot.chosen) → l.fwOk k = true →
      Next (.imageVerifyEnd a cfg) s (fun l' => l'.boot.running = k ∧ l'.pwr.step = .handover ∧ l'.st = .boot ∧ l'.boot.otp = l.boot.otp)) ∧
    (l.st = .boot → l.pwr.step = .handover →
      Next (.bootHandover a) s (fun l' => l'.boot.pu.lock = true ∧ l'.boot.pu.lcs = l.boot.life ∧ l'.boot.wdAt = some l.now ∧ l'.pwr.step = .firmware ∧
        (l.boot.life = 2 → l'.boot.split = false ∧ l'.boot.pu.debugEn = false) ∧ l'.boot.otp = l.boot.otp ∧ Reports { l with boot := l'.boot, pwr := l'.pwr } l')) ∧
    (l.st = .boot → l.pwr.step = .firmware → l.bist.run = none → l.gd.test = none →
      Next (.firmwareStartEnd a) s (fun l' => l'.st = .check ∧ l'.pwr.step = .checks ∧ l'.boot.wdAt = none ∧ l'.boot.bootFails = 0)) ∧
    (let q := l.quickChecks c
     l.st = .check → l.pwr.step = .checks → l.bist.run = none → q.1.st = .check →
     (q.2 = true → q.1.bist.bad = none → q.1.bist.plan = 1 → q.1.pwr.warm = false → q.1.pwr.waiting = none → Next (.checksEnd a c) s (fun l' => l'.st = .sync ∧ l'.pwr.step = .done)) ∧
     (q.2 = false → Next (.checksEnd a c) s (fun l' => l'.st = .failSilent ∧ l'.laneOk = false))) ∧
    (l.st = .boot → l.pwr.step = .comparator → l.pwr.warm = true →
      (l.imageKept = true → Next (.retentionCheckEnd a true true) s (fun l' => l'.st = .sync ∧ l'.boot.pu.lock = true ∧ l'.bist.plan = 1 ∧ l'.params = l.params)) ∧
      (kept = false ∨ l.imageKept = false → Next (.retentionCheckEnd a kept ok) s (fun l' => l'.st = .waking ∧ l'.pwr.boot = l.pwr.boot + 1 ∧ l'.pwr.warm = false))) ∧
    (l.boot.wdAt = some t → t + ms 50 ≤ l.now → l.pwr.step = .firmware →
      Next (.bootWatchdog a) s (fun l' => l'.st = .waking ∧ l'.boot.bootFails = l.boot.bootFails + 1 ∧ l'.pwr.boot = l.pwr.boot + 1)) ∧
    (l.boot.trial = true → l.boot.trialAt = some t → t + sec 30 ≤ l.now →
      Next (.moltTrialTimeout a) s (fun l' => Reports { l with boot := { l.boot with trialBad := true, trialAt := none } } l'))

/-- Power-state requests and entries (R404, R406, R407, R408, R409): a request is accepted into an entry, refused with its refuser, or at once for IDLE and RUN; the entry withdraws the lane, writes what it keeps, commits, and powers down; STANDBY keeps the SRAM, SLEEP does not; OFF ends the AON domain; a wake latched meanwhile wins.
The model's choices in log entries 7, 106 and 115 enter here. -/
def Obligations.PowerEntries : Prop :=
  ∀ (s : State) (a : At) (m : Msg) (e : PwrEntry) (c src : Nat),
    (let l := (s.laneAt a).taken 0x80 m
     let t := m.u8 0
     let acc := l.mb.accepted ++ [m.key 0x80]
     let taken := [0xC100, 0xC101, 0xD100, 0xD101]
     (s.laneAt a).ready 0x80 m = true → l.pwr.entry = none →
     (2 ≤ t → t ≤ 4 → l.refuserOf t = none → Answers (.pwrRequest a m) s 0x80 m stAccepted [] (fun l' =>
       l' = { l.releaseIds taken with mb := { l.mb with accepted := acc }, pwr := { l.pwr with entry := some { target := t, step := .withdraw, key := some (m.key 0x80), startAt := l.now } } })) ∧
     (1 ≤ t → t ≤ 4 → (t = 1 → l.pwr.pstate ≠ 1) → l.refuserOf t = some c → Answers (.pwrRequest a m) s 0x80 m stRefusedState [] (fun l' =>
       Reports { l with pwr := { l.pwr with refuser := c, counters := l'.pwr.counters } } l')) ∧
     (t = 1 → l.pwr.pstate ≠ 1 → l.refuserOf 1 = none → Answers (.pwrRequest a m) s 0x80 m stAccepted [] (fun l' =>
       l'.pwr.pstate = 1 ∧ (∀ x ∈ l'.mb.ses, x.level = 0) ∧ Reports { l.releaseIds taken with pwr := { l.pwr with pstate := 1, gateAt := none } } l')) ∧
     (t = 0 → Answers (.pwrRequest a m) s 0x80 m stDone [] (fun l' => l' = { l with pwr := { l.pwr with pstate := if l.pwr.pstate = 1 then 0 else l.pwr.pstate } }))) ∧
    (let l := s.laneAt a
     l.pwr.entry = some e →
     (l.fwRuns = true → l.pwm.halted = false → l.boot.swapNow = false → e.step = .withdraw → l.needsTest e = false → l.st ≠ .limp →
     Next (.pwrEntryWithdraw a) s (fun l' => l'.st = .check ∧ l'.pwr.entry = some { e with step := .persist, startAt := l.now, outAt := if l.mayInsert = true then some l.now else none } ∧ (∀ x ∈ l'.mb.ses, x.level = 0) ∧ l'.laneOk = false)) ∧
     (e.step = .persist → l.pwm.halted = false → l.bist.run = none →
     Next (.pwrEntryPersistEnd a) s (fun l' => l'.pwr.pstate = 4 ∧ l'.pwr.e5At = some l.now ∧ l'.pwr.entry = some { e with step := .powerDown, startAt := l.now, key := none } ∧
       l'.net.hwm = (if l.net.known = true then max l.net.hwm l.net.cycle.toNat else l.net.hwm) ∧ (l'.mem.retSha, l'.mem.retCrc) = (if e.target = 3 then (l.fwSha, some l.fwCrc) else ([], none)) ∧ l'.mem.sram = l.mem.sram)) ∧
     (e.step = .powerDown → l.pwr.waiting = none →
     (l.pwr.pend = none →
       (e.target = 2 → Next (.pwrPowerDownEnd a) s (fun l' => l'.st = .off ∧ l'.pwr.pstate = 2 ∧ l'.pwr.entry = none ∧ l'.mem.sram = l.mem.sram ∧ l'.params = l.params)) ∧
       (e.target = 3 → Next (.pwrPowerDownEnd a) s (fun l' => l'.st = .off ∧ l'.pwr.pstate = 3 ∧ l'.mem.sram = [] ∧ l'.params = l.params)) ∧
       (e.target = 4 → Next (.pwrPowerDownEnd a) s (fun l' => l'.st = .off ∧ l'.pwr.pstate = 7 ∧ l'.pwr.aonOn = false ∧ l'.pwr.rearmed = false))) ∧
     (l.pwr.pend = some src → e.target = 2 → l.boot.swap = none → l.pwr.burned = false →
       Next (.pwrPowerDownEnd a) s (fun l' => l'.st = .waking ∧ l'.pwr.wakeSrc = src ∧ l'.pwr.warm = true ∧ l'.mem.sram = l.mem.sram))))

/-! ### Self-test, configuration, memory -/

/-- The self-test (R442, R446, R447, R453): a host run begins with the first of its sections; a section ends with its status, by the count that is expected, and the next begins; an abort ends the run with its section as aborted; a shutdown test ends in its record and the next step of its entry.
The model's choices in log entries 7 and 67 enter here. -/
def Obligations.SelfTestSections : Prop :=
  ∀ (s : State) (a : At) (m : Msg) (s0 : Nat) (rest : List Nat) (r : BistRun) (e : PwrEntry) (sig detail : W32) (n : Nat) (ok : Bool),
    let begun (l l' : Lane) (op : Nat) (ss : List Nat) : Prop := ∃ x : BistRun, l' = { l with bist := { l.bist with run := some x }, mb := { l.mb with accepted := l.mb.accepted ++ [m.key op] } } ∧
      x.kind = 3 ∧ x.section_ = ss.headD 0 ∧ x.left = ss.tail ∧ x.want = ss ∧ x.startAt = l.now ∧ x.expected = l.fullExpect (ss.headD 0) ∧ x.key = some (m.key op)
    (let l := (s.laneAt a).taken 0x90 m
     (s.laneAt a).ready 0x90 m = true → (List.range 32).filter (bit (m.u32 0)) = s0 :: rest → 0 < s0 → (∀ k ∈ rest, k < 16) → s0 < 16 →
     l.bistBusy (s0 :: rest) = false → l.entering = false → l.st = .sync → l.fullExpect s0 ≠ 0 →
     Answers (.bistRun a m) s 0x90 m stAccepted [] (fun l' => begun l l' 0x90 (s0 :: rest))) ∧
    (let l := (s.laneAt a).taken 0x91 m
     (s.laneAt a).ready 0x91 m = true → m.u8 0 = s0 → 0 < s0 → s0 < 16 → l.bistBusy [s0] = false → l.entering = false → l.st = .sync → l.fullExpect s0 ≠ 0 →
     Answers (.bistSection a m) s 0x91 m stAccepted [] (fun l' => begun l l' 0x91 [s0])) ∧
    (let l := (s.laneAt a).taken 0x93 m
     (s.laneAt a).ready 0x93 m = true → l.bist.run = some r → r.kind = 3 → r.section_ ≠ noSection →
     Answers (.bistAbort a m) s 0x93 m stDone [] (fun l' => l'.bist.run = none ∧ (∃ x : BistRec, l'.mem.mram = (l.bistStore x).mem.mram ∧ x.kind = 3 ∧
       ∃ e : BistEntry, x.results = r.results.set r.section_ e ∧ e.status = 4) ∧ Reports { l with bist := l'.bist, mem := { l.mem with mram := l'.mem.mram } } l')) ∧
    (let l := s.laneAt a
     let st := if ok = false ∨ r.expected < n then 2 else if n = r.expected then 1 else 3
     let went (l' : Lane) : Prop := ∃ x : BistRun, l'.bist.run = some x ∧ x.section_ = s0 ∧ x.left = rest ∧ x.startAt = l.now ∧ x.expected = l.fullExpect s0 ∧
       x.results = r.results.set r.section_ { sig := sig, count := n, status := st, duration := (l.now - r.startAt) / ms 1, detail := detail } ∧ Reports { l with bist := l'.bist } l'
     l.bist.run = some r → r.section_ ≠ noSection → r.section_ ≠ 12 → r.left = s0 :: rest → l.st = .sync → l.fullExpect s0 ≠ 0 →
     (l.now ≤ r.startAt + r.limit → Next (.bistSectionEnd a sig n ok detail) s went) ∧
     (r.startAt + r.limit ≤ l.now → Next (.bistSectionTimeout a sig n ok detail) s went)) ∧
    (let l := s.laneAt a
     l.bist.run = some r → r.kind = 1 → r.section_ = noSection → l.pwr.entry = some e →
     Next (.shutdownTestEnd a) s (fun l' => l'.bist.run = none ∧ l'.pwr.entry = some { e with step := .persist, startAt := l.now, tested := true } ∧
       (∃ x : BistRec, l'.mem.mram = (l.bistStore x).mem.mram ∧ x.kind = 1 ∧ x.boot = l.pwr.boot ∧ x.results = r.results) ∧
       Reports { l with bist := l'.bist, pwr := l'.pwr, mem := { l.mem with mram := l'.mem.mram } } l'))

/-- The OTP (R428, R430, R431, R373): programming sets bits and never clears one, at any address; a provisioning lane takes its areas from the test access port, a burn that ends well its record, a lifecycle write its marker; the start reads the lifecycle from it. The crystal (R401, R411, R413) has its retries, to LIMP or, where NOLIMP asks for it, to FAILSILENT.
The model's choices in log entries 64, 104 and 149 enter here. -/
def Obligations.OneTimeMemory : Prop :=
  ∀ (s : State) (a : At) (off n area k tgt : Nat) (bs : List Byte) (key : CmdKey), let l := s.laneAt a
    let r := l.pwr.retries
    (cellsOk l.boot.otp = true → ∀ b, cellRead l.boot.otp b &&& cellRead (l.otpProgram off bs).boot.otp b = cellRead l.boot.otp b ∧
      cellRead (l.otpProgram off bs).boot.otp b = (if off ≤ b ∧ b < off + bs.length then cellRead l.boot.otp b ||| bs.getD (b - off) 0 else cellRead l.boot.otp b)) ∧
    (tapArea area = some (off, n) → l.powered = true → l.boot.life < 2 → l.boot.otpWrite = none →
      Next (.tapOtpProgram a area bs) s (fun l' => Reports { l with boot := { l.boot with otp := (l.otpProgram off (bs.take n)).boot.otp } } l')) ∧
    (l.fwRuns = true → l.boot.otpWrite = some (.gen k bs key) →
      Next (.cfgGenBurnEnd a true) s (fun l' =>
        Reports { l with boot := { l.boot with otpWrite := none, otp := (l.otpProgram (0x280 + 64 * k) bs).boot.otp }, pwr := { l.pwr with burned := true } } l')) ∧
    (l.fwRuns = true → l.boot.otpWrite = some (.life tgt key) →
      Next (.lifecycleWriteEnd a true) s (fun l' =>
        Reports { l with boot := { l.boot with otpWrite := none, otp := (l.otpProgram (0x3F + tgt) [0xA5]).boot.otp } } l')) ∧
    (l.st = .boot → l.pwr.step = .otp →
      (l.lifeOf = some k → k ≠ 0 → l.identOk = true → l.protOk = true → l.pubOk = true → l.secOk = true →
        Next (.otpReadEnd a) s (fun l' => l'.boot.life = k ∧ l'.pwr.mayfly = bit l.bootOpt 1 ∧ l'.pwr.step = .comparator ∧ l'.boot.otp = l.boot.otp ∧ Reports { l with boot := l'.boot, pwr := l'.pwr, mem := { l.mem with spares := l.sparesLeft } } l')) ∧
      (l.lifeOf = none → Next (.otpReadEnd a) s (fun l' => Reports { l with boot := { l.boot with stopped := true }, pwr := { l.pwr with step := .idle } } l'))) ∧
    (l.st = .waking → l.pwr.step = .crystal →
      Next (.crystalReady a) s (fun l' => Reports { l with pwr := { l.pwr with step := .pll, stepAt := l.now, retries := 0 } } l') ∧
      (l.pwr.stepAt + (if r = 0 then us 100 else ms 5) ≤ l.now →
        (r ≤ 1 → Next (.crystalTimeout a) s (fun l' => Reports { l with pwr := { l.pwr with stepAt := l.now, retries := r + 1 } } l')) ∧
        (2 ≤ r → bit l.bootOpt 3 = false → Next (.crystalTimeout a) s (fun l' => l'.st = .limp ∧ l'.pwr.oscFail = true ∧ l'.pwr.backup = true ∧ l'.pwr.step = (if l.pwr.warm = true then .comparator else .otp))) ∧
        (2 ≤ r → bit l.bootOpt 3 = true → Next (.crystalTimeout a) s (fun l' => l'.st = .failSilent ∧ l'.pwr.oscFail = true ∧ l'.pwr.step = .idle))))

/-- Configuration and lifecycle commands (R373, R375, R431): a first block opens the staging area and lies at its start; the last block of a good image leaves it staged, and of a bad one clears it; a record that fits starts its burn; an overlay begins; a lifecycle step forward starts its write.
The model's choices in log entries 7, 65, 87 and 109 enter here. -/
def Obligations.ConfigurationCommands : Prop :=
  ∀ (s : State) (a : At) (m : Msg) (k : Nat),
    let d := m.args.drop 8
    (let l := (s.laneAt a).taken 0xA0 m
     let base := cfgBase l.stageArea
     let y := l.stageClear.mramPut base d
     (s.laneAt a).ready 0xA0 m = true → l.boot.otpWrite = none → l.boot.overlayLoad = none → l.moltOn = false → m.u16 0 = 0 → blockOk m l.boot.load 0x80000 = true →
     (m.u8 2 = 0 → Answers (.cfgImageLoad a m) s 0xA0 m stDone [] (fun l' =>
       l' = { y with boot := { y.boot with load := some ⟨1, m.u32 4, d.length, []⟩ } })) ∧
     (m.u8 2 = 1 → y.stagedGood (m.u32 4) = true → Answers (.cfgImageLoad a m) s 0xA0 m stDone [] (fun l' =>
       l' = { y with boot := { y.boot with load := none, stagedLen := some (m.u32 4) } })) ∧
     (m.u8 2 = 1 → y.stagedGood (m.u32 4) = false → Answers (.cfgImageLoad a m) s 0xA0 m stRefusedAuth [] (fun l' => l' = y.stageClear ∧ l'.boot.stagedLen = none))) ∧
    (let l := (s.laneAt a).taken 0xA1 m
     (s.laneAt a).ready 0xA1 m = true → l.boot.otpWrite = none → l.boot.overlayLoad = none → l.moltOn = false → l.motorOn = false → l.nextGen = some k → l.recordFits m.args k = true →
     Answers (.cfgGenBurn a m) s 0xA1 m stAccepted [] (fun l' =>
       l' = { l with boot := { l.boot with otpWrite := some (.gen k m.args (m.key 0xA1)) }, mb := { l.mb with accepted := l.mb.accepted ++ [m.key 0xA1] } })) ∧
    (let l := (s.laneAt a).taken 0xA2 m
     (s.laneAt a).ready 0xA2 m = true → l.mb.staged = none → l.boot.otpWrite = none → l.boot.load = none → l.moltOn = false → l.spareGens = 0 → l.boot.overlayCrc = none →
     m.u16 0 = 0 → m.u8 2 = 0 → blockOk m l.boot.overlayLoad 0x80000 = true →
     Answers (.cfgOverlayLoad a m) s 0xA2 m stDone [] (fun l' => l' = { l with boot := { l.boot with overlayLoad := some ⟨1, m.u32 4, d.length, d⟩ } })) ∧
    (let l := (s.laneAt a).taken 0xA4 m
     (s.laneAt a).ready 0xA4 m = true → (l.boot.life = 1 ∧ m.u8 0 = 2 ∧ l.fieldReady = true ∨ l.boot.life = 2 ∧ m.u8 0 = 3) → l.driveOn = false → l.boot.otpWrite = none → l.boot.load = none → l.moltOn = false →
     Answers (.lifecycleSet a m) s 0xA4 m stAccepted [] (fun l' =>
       l' = { l with boot := { l.boot with otpWrite := some (.life (m.u8 0) (m.key 0xA4)) }, mb := { l.mb with accepted := l.mb.accepted ++ [m.key 0xA4] } }))

/-- The Molt (R436, R437): a slot that does not run and is not worn opens; image bytes land at their offset of the open slot; a verification passes the slot or refuses it; a swap to a verified slot waits for the next start.
The model's choices in log entries 7 and 109 enter here. -/
def Obligations.MoltCommands : Prop :=
  ∀ (s : State) (a : At) (m : Msg) (k : Nat) (key : CmdKey),
    (let l := (s.laneAt a).taken 0xB0 m
     (s.laneAt a).ready 0xB0 m = true → l.moltBusy = false → l.moltOn = false → m.u8 0 < 2 → m.u8 0 ≠ l.boot.running → (l.fwSlot (m.u8 0)).state ≠ 4 → m.u32 4 ≤ 0x200000 →
     Answers (.moltBegin a m) s 0xB0 m stDone [] (fun l' =>
       l'.boot.moltOpen = some (m.u8 0) ∧ l'.boot.slot = l.boot.slot.modify (m.u8 0) (fun _ => { state := 1, length := m.u32 4 }) ∧ Reports { l with boot := l'.boot } l')) ∧
    (let l := (s.laneAt a).taken 0xB1 m
     (s.laneAt a).ready 0xB1 m = true → l.moltBusy = false → l.boot.moltOpen = some k → l.boot.verify = none → m.u32 0 + (m.args.length - 4) ≤ (l.fwSlot k).length →
     Answers (.moltData a m) s 0xB1 m stDone [] (fun l' => l' = { l with mem := { l.mem with mram := cellStore l.mem.mram (fwBase k + m.u32 0) (m.args.drop 4) } })) ∧
    (let l := (s.laneAt a).taken 0xB2 m
     (s.laneAt a).ready 0xB2 m = true → l.moltBusy = false → l.boot.moltOpen = some k → l.boot.verify = none →
     Answers (.moltVerify a m) s 0xB2 m stAccepted [] (fun l' =>
       l' = { l with boot := { l.boot with verify := some (m.key 0xB2, k) }, mb := { l.mb with accepted := l.mb.accepted ++ [m.key 0xB2] } })) ∧
    (let l := s.laneAt a
     l.fwRuns = true → l.boot.verify = some (key, k) → (l.fwSlot k).state ≠ 4 →
     Next (.moltVerifyEnd a) s (fun l' => l'.boot.verify = none ∧ l'.boot.moltOpen = none ∧
       l'.boot.slot = l.boot.slot.modify k (fun x => { x with state := if l.fwOk k = true then 2 else 3 }) ∧ Reports { l with boot := l'.boot } l')) ∧
    (let l := (s.laneAt a).taken 0xB3 m
     (s.laneAt a).ready 0xB3 m = true → l.moltBusy = false → (l.fwSlot (1 - l.boot.running)).state = 2 → m.u8 0 = 0 →
     Answers (.moltSwap a m) s 0xB3 m stAccepted [] (fun l' => Reports { l with boot := { l.boot with swap := some (1 - l.boot.running) } } l'))

/-- The SRAM port (R386, R387, R388, Table BT-9): an access that no region grants is a bus error and stores nothing; a good read returns the word and stores nothing; a full write stores its eight bytes and reads nothing; a partial write waits for its slot; a corrected error is counted; an uncorrectable one in a critical region ends in FAILSILENT.
The model's choice in log entry 162 enters here. -/
def Obligations.SramPort : Prop :=
  ∀ (s : State) (a : At) (x : SramXfer) (bs : List (Option Byte)) (v : List Byte), let l := s.laneAt a
    let key := 2 * x.cycle + b2n x.dma
    let y := l.sramSettle key
    l.powered = true → x.addr < 0x400000 → x.ecc < 4 →
    (l.boot.pu.grants x = false → Next (.sramAccess a x) s (fun l' =>
      l'.mem.sram = y.mem.sram ∧ (if x.dma = true then l'.mem.errDma else l'.mem.errProc) = true ∧ l'.mem.rdDma = l.mem.rdDma ∧ l'.mem.rdProc = l.mem.rdProc ∧ Reports { l with mem := l'.mem } l')) ∧
    (l.boot.pu.grants x = true →
    (x.write = none → x.ecc = 0 → Next (.sramAccess a x) s (fun l' =>
      (if x.dma = true then l'.mem.rdDma else l'.mem.rdProc) = .ofNat 64 (leNat (cellBytes y.mem.sram (x.addr / 8 * 8) 8)) ∧
      l'.mem.sram = y.mem.sram ∧ l'.mem.ecc = l.mem.ecc ∧ l'.mem.mram = l.mem.mram)) ∧
    (x.write = some (v.map some) → v.length = 8 → Next (.sramAccess a x) s (fun l' => l'.mem.sram = cellMerge y.mem.sram (x.addr / 8 * 8) (v.map some) ∧ Reports { l with mem := l'.mem } l')) ∧
    (x.write = some bs → bs.length = 8 → none ∈ bs → x.ecc = 0 → Next (.sramAccess a x) s (fun l' =>
      l'.mem.sram = y.mem.sram ∧ l'.mem.partials = y.mem.partials ++ [⟨if x.dma = true then .dma else .processor, x.cycle, x.addr / 8 * 8, bs⟩] ∧ Reports { l with mem := l'.mem } l')) ∧
    (x.write = none → x.ecc = 1 → Next (.sramAccess a x) s (fun l' => l'.mem.ecc = l.mem.ecc.set 0 (l.mem.ecc.getD 0 0 + 1) ∧ l'.mem.sram = y.mem.sram)) ∧
    (x.write = none → x.ecc = 3 → l.critical (x.addr / 4096) = true → Next (.sramAccess a x) s (fun l' => l'.st = .failSilent ∧ l'.mem.ecc = l.mem.ecc.set 1 (l.mem.ecc.getD 1 0 + 1))))

/-- Weevil passes, MRAM and the lockstep (R381, R391, R392, R394, R395): a pass starts on the region whose turn it is and, when it ends well, the sweep moves on; a scrub counts; a good write stores its bytes and no other; a first failure of a write is counted and stores nothing; a mismatch of the pair ends in FAILSILENT.
The model's choice in log entry 103 enters here. -/
def Obligations.MemoryTests : Prop :=
  ∀ (s : State) (a : At) (r c u addr cycles group : Nat) (bs : List Byte), let l := s.laneAt a
    let w := l.mem.weevil
    (l.weevilMay = true → w.phase = .idle → w.startAt + 40000 * l.p 0xE101 ≤ l.now → w.again = false → w.urgent = [] → l.regionFrom w.next = some r →
      Next (.weevilPassStart a) s (fun l' => Reports { l.releaseIds [0xE101] with mem := { l.mem with weevil := { w with phase := .running, region := r, startAt := l.now } } } l')) ∧
    (w.phase = .running → w.paused = false → w.region = w.next → l.mem.hard = [] → l.mem.retired.contains w.region = false → l.st ≠ .failSilent → l.regionFrom (w.next + 1) = some r →
      Next (.weevilPassEnd a [] true 10240 true) s (fun l' =>
        Reports { l with mem := { l.mem with weevil := { w with phase := .idle, lastAt := l.now, next := r, sweeps := if r ≤ w.next then w.sweeps + 1 else w.sweeps } } } l')) ∧
    (l.fwRuns = true → l.st ≠ .failSilent → l.mem.scrubAt + sec (l.p 0xE106) ≤ l.now →
      Next (.mramScrub a c u) s (fun l' => ∃ e : List W32, Reports { l.releaseIds [0xE106] with mem := { l.mem with scrubAt := l.now, ecc := e } } l' ∧ e.getD 0 0 = l.mem.ecc.getD 0 0 ∧ e.getD 1 0 = l.mem.ecc.getD 1 0)) ∧
    (l.powered = true → addr + bs.length ≤ 0x800000 →
      (mramArea addr ≠ 2 → Next (.mramWriteEnd a addr bs true) s (fun l' =>
        Reports { l with mem := { l.mem with mram := cellStore l.mem.mram addr bs, fails := l.mem.fails.filter (fun f => f.sector != addr / 4096), writes := l'.mem.writes, wear := l'.mem.wear } } l')) ∧
      ((∀ f ∈ l.mem.fails, f.sector ≠ addr / 4096) → Next (.mramWriteEnd a addr bs false) s (fun l' =>
        Reports { l with mem := { l.mem with fails := l.mem.fails ++ [⟨addr / 4096, 1⟩], writes := l'.mem.writes, wear := l'.mem.wear } } l'))) ∧
    (group < 16 → l.powered = true → l.boot.split = false → l.st ≠ .failSilent →
      Next (.lockstepMismatch a cycles group) s (fun l' => l'.st = .failSilent ∧ l'.laneOk = false ∧ l'.mem.lsLatch = some (cycles, group) ∧ (∀ k < 8, (l'.motor k).enabled = false)))

/-- What a lane does depends on that lane alone (R14, R15): what it knows of another has come over a link, the tap or the network (log entry 49). Two modules that agree on the lane a command names agree on it after the command, whatever their other lanes hold. -/
def Obligations.LanesAreIndependent : Prop :=
  ∀ (i : Instr) (s s' t t' : State),
    s.lane i.stamp.lane = s'.lane i.stamp.lane → exec i s = .next t → exec i s' = .next t' → t.lane i.stamp.lane = t'.lane i.stamp.lane
end

