-- ==== Sys2Proof/Laws/Cells.lean ====
section
/-! SUPPORT. Laws of the byte memories: the canonical form as an ordering of the listed cells, and that every operation keeps it. -/

namespace Sys2Proof.Machine

/-- Two listed cells, the earlier one at the lower address. -/
def cellBefore (x y : Host.Cell) : Prop := x.1 < y.1

/-- The form says: the cells are listed in address order, and none of them holds zero. -/
theorem cellsOk_iff (m : List Host.Cell) : cellsOk m = true ↔ m.Pairwise cellBefore ∧ ∀ c ∈ m, c.2 ≠ 0 := by
  have h : List.IsChain cellBefore m ↔ m.Pairwise cellBefore :=
    have : IsTrans Host.Cell cellBefore := ⟨fun _ _ _ p q => Nat.lt_trans p q⟩
    List.isChain_iff_pairwise
  rw [← h]; clear h
  fun_induction cellsOk m <;> simp_all only [List.isChain_cons_cons, List.forall_mem_cons, cellBefore, Bool.and_eq_true, decide_eq_true_eq] <;>
    simp [and_assoc, and_left_comm]

/-- A memory with some of its cells left out keeps the form. -/
theorem cellsOk_sublist {m n : List Host.Cell} (h : cellsOk m = true) (k : n.Sublist m) : cellsOk n = true :=
  have p := (cellsOk_iff m).1 h
  (cellsOk_iff n).2 ⟨p.1.sublist k, fun c hc => p.2 c (k.subset hc)⟩

theorem cellDrop_sublist (a : Nat) (m : List Host.Cell) : (cellDrop a m).Sublist m := by
  fun_induction cellDrop a m <;> simp_all

/-- A cell of the memory after a byte is placed is the placed one or was there before. -/
theorem mem_cellPut {a : Nat} {v : Byte} {c : Host.Cell} {m : List Host.Cell} (h : c ∈ cellPut a v m) : c = (a, v) ∨ c ∈ m := by
  fun_induction cellPut a v m <;> simp_all <;> tauto

theorem cellPut_ordered (a : Nat) (v : Byte) {m : List Host.Cell} (h : m.Pairwise cellBefore) : (cellPut a v m).Pairwise cellBefore := by
  fun_induction cellPut a v m with
  | case1 => simp
  | case2 k w r low =>
    exact h.cons (List.forall_mem_cons.2 ⟨low, fun _ hc => low.trans (List.rel_of_pairwise_cons h hc)⟩)
  | case3 k w r low same =>
    cases eq_of_beq same
    exact h.of_cons.cons fun _ hc => List.rel_of_pairwise_cons h hc
  | case4 k w r low other ih =>
    refine (ih h.of_cons).cons fun c hc => ?_
    obtain rfl | old := mem_cellPut hc
    · simp only [cellBefore]; simp at other; omega
    · exact List.rel_of_pairwise_cons h old

theorem cellsOk_drop {a : Nat} {m : List Host.Cell} (h : cellsOk m = true) : cellsOk (cellDrop a m) = true :=
  cellsOk_sublist h (cellDrop_sublist a m)

theorem cellsOk_put {a : Nat} {v : Byte} {m : List Host.Cell} (h : cellsOk m = true) (hv : v ≠ 0) : cellsOk (cellPut a v m) = true := by
  have p := (cellsOk_iff m).1 h
  refine (cellsOk_iff _).2 ⟨cellPut_ordered a v p.1, fun c hc => ?_⟩
  rcases mem_cellPut hc with e | old
  · exact e ▸ hv
  · exact p.2 c old

theorem cellsOk_write {m : List Host.Cell} (h : cellsOk m = true) (a : Nat) (v : Byte) : cellsOk (cellWrite m a v) = true := by
  unfold cellWrite
  by_cases z : (v == 0) = true
  · rw [if_pos z]; exact cellsOk_drop h
  · rw [if_neg z]; exact cellsOk_put h (by simpa using z)

theorem cellsOk_store {m : List Host.Cell} (h : cellsOk m = true) (a : Nat) (bs : List Byte) : cellsOk (cellStore m a bs) = true := by
  fun_induction cellStore m a bs with
  | case1 => exact h
  | case2 m a b r ih => exact ih (cellsOk_write h a b)

theorem cellsOk_merge {m : List Host.Cell} (h : cellsOk m = true) (a : Nat) (bs : List (Option Byte)) : cellsOk (cellMerge m a bs) = true := by
  fun_induction cellMerge m a bs with
  | case1 => exact h
  | case2 m a r ih => exact ih h
  | case3 m a b r ih => exact ih (cellsOk_write h a b)

theorem cellsOk_filter {m : List Host.Cell} (p : Host.Cell → Bool) (h : cellsOk m = true) : cellsOk (m.filter p) = true :=
  cellsOk_sublist h List.filter_sublist

/-- A memory that is merged with several writes one after another keeps its form. -/
theorem cellsOk_mergeAll {α : Type} (ps : List α) (addr : α → Nat) (bs : α → List (Option Byte)) {m : List Host.Cell} (h : cellsOk m = true) :
    cellsOk (ps.foldl (fun m p => cellMerge m (addr p) (bs p)) m) = true := by
  exact List.foldlRecOn (motive := fun m => cellsOk m = true) ps _ h fun _ ok p _ => cellsOk_merge ok (addr p) (bs p)

end Sys2Proof.Machine
end

