-- ==== Sys2Proof/Laws/Frames.lean ====
section
/-! SUPPORT. What the shared operations may change, once for each: the equation says which fields of the lane an operation may change, and the other fields stay as they were (one simplification rule per field, from one lemma). -/

namespace Sys2Proof.Machine

theorem Lane.irqLine_eq (l : Lane) :
    l.irqLine = { l with mb := l.irqLine.mb } := by
  simp only [Lane.irqLine]
  (repeat' split) <;> rfl
@[simp] theorem Lane.irqLine_frame (l : Lane) :
    l.irqLine.id = l.id ∧ l.irqLine.now = l.now ∧ l.irqLine.st = l.st ∧ l.irqLine.laneOk = l.laneOk ∧ l.irqLine.link = l.link ∧
    l.irqLine.params = l.params ∧ l.irqLine.held = l.held ∧ l.irqLine.fresh = l.fresh ∧ l.irqLine.gd = l.gd ∧ l.irqLine.pwm = l.pwm ∧
    l.irqLine.sns = l.sns ∧ l.irqLine.pos = l.pos ∧ l.irqLine.mot = l.mot ∧ l.irqLine.le = l.le ∧ l.irqLine.mp = l.mp ∧ l.irqLine.fn = l.fn ∧
    l.irqLine.red = l.red ∧ l.irqLine.net = l.net ∧ l.irqLine.ports = l.ports ∧ l.irqLine.pwr = l.pwr ∧ l.irqLine.mem = l.mem ∧
    l.irqLine.boot = l.boot ∧ l.irqLine.bist = l.bist := by
  rw [Lane.irqLine_eq]; simp

theorem Lane.irqSet_eq (l : Lane) (n : Nat) :
    l.irqSet n = { l with mb := (l.irqSet n).mb } := by
  simp only [Lane.irqSet]; rw [Lane.irqLine_eq]
@[simp] theorem Lane.irqSet_frame (l : Lane) (n : Nat) :
    (l.irqSet n).id = l.id ∧ (l.irqSet n).now = l.now ∧ (l.irqSet n).st = l.st ∧ (l.irqSet n).laneOk = l.laneOk ∧ (l.irqSet n).link = l.link ∧
    (l.irqSet n).params = l.params ∧ (l.irqSet n).held = l.held ∧ (l.irqSet n).fresh = l.fresh ∧ (l.irqSet n).gd = l.gd ∧
    (l.irqSet n).pwm = l.pwm ∧ (l.irqSet n).sns = l.sns ∧ (l.irqSet n).pos = l.pos ∧ (l.irqSet n).mot = l.mot ∧ (l.irqSet n).le = l.le ∧
    (l.irqSet n).mp = l.mp ∧ (l.irqSet n).fn = l.fn ∧ (l.irqSet n).red = l.red ∧ (l.irqSet n).net = l.net ∧ (l.irqSet n).ports = l.ports ∧
    (l.irqSet n).pwr = l.pwr ∧ (l.irqSet n).mem = l.mem ∧ (l.irqSet n).boot = l.boot ∧ (l.irqSet n).bist = l.bist := by
  rw [Lane.irqSet_eq]; simp

theorem Lane.setQ_eq (l : Lane) (n : Nat) (q : Queue) :
    l.setQ n q = { l with mb := (l.setQ n q).mb } := rfl
@[simp] theorem Lane.setQ_frame (l : Lane) (n : Nat) (q : Queue) :
    (l.setQ n q).id = l.id ∧ (l.setQ n q).now = l.now ∧ (l.setQ n q).st = l.st ∧ (l.setQ n q).laneOk = l.laneOk ∧ (l.setQ n q).link = l.link ∧
    (l.setQ n q).params = l.params ∧ (l.setQ n q).held = l.held ∧ (l.setQ n q).fresh = l.fresh ∧ (l.setQ n q).gd = l.gd ∧
    (l.setQ n q).pwm = l.pwm ∧ (l.setQ n q).sns = l.sns ∧ (l.setQ n q).pos = l.pos ∧ (l.setQ n q).mot = l.mot ∧ (l.setQ n q).le = l.le ∧
    (l.setQ n q).mp = l.mp ∧ (l.setQ n q).fn = l.fn ∧ (l.setQ n q).red = l.red ∧ (l.setQ n q).net = l.net ∧ (l.setQ n q).ports = l.ports ∧
    (l.setQ n q).pwr = l.pwr ∧ (l.setQ n q).mem = l.mem ∧ (l.setQ n q).boot = l.boot ∧ (l.setQ n q).bist = l.bist := by
  rw [Lane.setQ_eq]; simp

theorem Lane.qPop_eq (l : Lane) (n : Nat) :
    l.qPop n = { l with mb := (l.qPop n).mb } := by
  simp only [Lane.qPop]
  (repeat' split) <;> rfl
@[simp] theorem Lane.qPop_frame (l : Lane) (n : Nat) :
    (l.qPop n).id = l.id ∧ (l.qPop n).now = l.now ∧ (l.qPop n).st = l.st ∧ (l.qPop n).laneOk = l.laneOk ∧ (l.qPop n).link = l.link ∧
    (l.qPop n).params = l.params ∧ (l.qPop n).held = l.held ∧ (l.qPop n).fresh = l.fresh ∧ (l.qPop n).gd = l.gd ∧ (l.qPop n).pwm = l.pwm ∧
    (l.qPop n).sns = l.sns ∧ (l.qPop n).pos = l.pos ∧ (l.qPop n).mot = l.mot ∧ (l.qPop n).le = l.le ∧ (l.qPop n).mp = l.mp ∧
    (l.qPop n).fn = l.fn ∧ (l.qPop n).red = l.red ∧ (l.qPop n).net = l.net ∧ (l.qPop n).ports = l.ports ∧ (l.qPop n).pwr = l.pwr ∧
    (l.qPop n).mem = l.mem ∧ (l.qPop n).boot = l.boot ∧ (l.qPop n).bist = l.bist := by
  rw [Lane.qPop_eq]; simp

theorem Lane.qPut_eq (l : Lane) (n flags : Nat) (data : List Byte) :
    l.qPut n flags data = { l with mb := (l.qPut n flags data).mb } := by
  simp only [Lane.qPut]; split
  · rw [Lane.irqSet_eq]; rfl
  · rfl
@[simp] theorem Lane.qPut_frame (l : Lane) (n flags : Nat) (data : List Byte) :
    (l.qPut n flags data).id = l.id ∧ (l.qPut n flags data).now = l.now ∧ (l.qPut n flags data).st = l.st ∧
    (l.qPut n flags data).laneOk = l.laneOk ∧ (l.qPut n flags data).link = l.link ∧ (l.qPut n flags data).params = l.params ∧
    (l.qPut n flags data).held = l.held ∧ (l.qPut n flags data).fresh = l.fresh ∧ (l.qPut n flags data).gd = l.gd ∧
    (l.qPut n flags data).pwm = l.pwm ∧ (l.qPut n flags data).sns = l.sns ∧ (l.qPut n flags data).pos = l.pos ∧
    (l.qPut n flags data).mot = l.mot ∧ (l.qPut n flags data).le = l.le ∧ (l.qPut n flags data).mp = l.mp ∧ (l.qPut n flags data).fn = l.fn ∧
    (l.qPut n flags data).red = l.red ∧ (l.qPut n flags data).net = l.net ∧ (l.qPut n flags data).ports = l.ports ∧
    (l.qPut n flags data).pwr = l.pwr ∧ (l.qPut n flags data).mem = l.mem ∧ (l.qPut n flags data).boot = l.boot ∧
    (l.qPut n flags data).bist = l.bist := by
  rw [Lane.qPut_eq]; simp

/-- A mark of lost entries changes the mailboxes alone. -/
theorem Lane.qMarkDrop_eq (l : Lane) (n : Nat) : l.qMarkDrop n = { l with mb := (l.qMarkDrop n).mb } := by
  simp only [Lane.qMarkDrop]; split
  · rfl
  · split <;> rfl

theorem Lane.qOverwrite_eq (l : Lane) (n : Nat) (data : List Byte) :
    l.qOverwrite n data = { l with mb := (l.qOverwrite n data).mb } := by
  simp only [Lane.qOverwrite, Lane.when]; split
  · rw [Lane.qPut_eq, Lane.qMarkDrop_eq, Lane.qPop_eq]
  · rw [Lane.qPut_eq]
@[simp] theorem Lane.qOverwrite_frame (l : Lane) (n : Nat) (data : List Byte) :
    (l.qOverwrite n data).id = l.id ∧ (l.qOverwrite n data).now = l.now ∧ (l.qOverwrite n data).st = l.st ∧
    (l.qOverwrite n data).laneOk = l.laneOk ∧ (l.qOverwrite n data).link = l.link ∧ (l.qOverwrite n data).params = l.params ∧
    (l.qOverwrite n data).held = l.held ∧ (l.qOverwrite n data).fresh = l.fresh ∧ (l.qOverwrite n data).gd = l.gd ∧
    (l.qOverwrite n data).pwm = l.pwm ∧ (l.qOverwrite n data).sns = l.sns ∧ (l.qOverwrite n data).pos = l.pos ∧
    (l.qOverwrite n data).mot = l.mot ∧ (l.qOverwrite n data).le = l.le ∧ (l.qOverwrite n data).mp = l.mp ∧ (l.qOverwrite n data).fn = l.fn ∧
    (l.qOverwrite n data).red = l.red ∧ (l.qOverwrite n data).net = l.net ∧ (l.qOverwrite n data).ports = l.ports ∧
    (l.qOverwrite n data).pwr = l.pwr ∧ (l.qOverwrite n data).mem = l.mem ∧ (l.qOverwrite n data).boot = l.boot ∧
    (l.qOverwrite n data).bist = l.bist := by
  rw [Lane.qOverwrite_eq]; simp

theorem Lane.qDropNew_eq (l : Lane) (n : Nat) (data : List Byte) :
    l.qDropNew n data = { l with mb := (l.qDropNew n data).mb } := by
  simp only [Lane.qDropNew]; split
  · rfl
  · rw [Lane.qPut_eq]
@[simp] theorem Lane.qDropNew_frame (l : Lane) (n : Nat) (data : List Byte) :
    (l.qDropNew n data).id = l.id ∧ (l.qDropNew n data).now = l.now ∧ (l.qDropNew n data).st = l.st ∧ (l.qDropNew n data).laneOk = l.laneOk ∧
    (l.qDropNew n data).link = l.link ∧ (l.qDropNew n data).params = l.params ∧ (l.qDropNew n data).held = l.held ∧
    (l.qDropNew n data).fresh = l.fresh ∧ (l.qDropNew n data).gd = l.gd ∧ (l.qDropNew n data).pwm = l.pwm ∧ (l.qDropNew n data).sns = l.sns ∧
    (l.qDropNew n data).pos = l.pos ∧ (l.qDropNew n data).mot = l.mot ∧ (l.qDropNew n data).le = l.le ∧ (l.qDropNew n data).mp = l.mp ∧
    (l.qDropNew n data).fn = l.fn ∧ (l.qDropNew n data).red = l.red ∧ (l.qDropNew n data).net = l.net ∧ (l.qDropNew n data).ports = l.ports ∧
    (l.qDropNew n data).pwr = l.pwr ∧ (l.qDropNew n data).mem = l.mem ∧ (l.qDropNew n data).boot = l.boot ∧ (l.qDropNew n data).bist = l.bist := by
  rw [Lane.qDropNew_eq]; simp

theorem Lane.qDropN_eq (l : Lane) (n k : Nat) :
    l.qDropN n k = { l with mb := (l.qDropN n k).mb } := rfl
@[simp] theorem Lane.qDropN_frame (l : Lane) (n k : Nat) :
    (l.qDropN n k).id = l.id ∧ (l.qDropN n k).now = l.now ∧ (l.qDropN n k).st = l.st ∧ (l.qDropN n k).laneOk = l.laneOk ∧
    (l.qDropN n k).link = l.link ∧ (l.qDropN n k).params = l.params ∧ (l.qDropN n k).held = l.held ∧ (l.qDropN n k).fresh = l.fresh ∧
    (l.qDropN n k).gd = l.gd ∧ (l.qDropN n k).pwm = l.pwm ∧ (l.qDropN n k).sns = l.sns ∧ (l.qDropN n k).pos = l.pos ∧
    (l.qDropN n k).mot = l.mot ∧ (l.qDropN n k).le = l.le ∧ (l.qDropN n k).mp = l.mp ∧ (l.qDropN n k).fn = l.fn ∧ (l.qDropN n k).red = l.red ∧
    (l.qDropN n k).net = l.net ∧ (l.qDropN n k).ports = l.ports ∧ (l.qDropN n k).pwr = l.pwr ∧ (l.qDropN n k).mem = l.mem ∧
    (l.qDropN n k).boot = l.boot ∧ (l.qDropN n k).bist = l.bist := by
  rw [Lane.qDropN_eq]; simp

theorem Lane.logAdd_eq (l : Lane) (code : Nat) (arg : W32) (t : Nat) (aon : Bool) :
    l.logAdd code arg t aon = { l with mem := { l.mem with logBuf := (l.logAdd code arg t aon).mem.logBuf, logNext := (l.logAdd code arg t aon).mem.logNext } } := by
  simp only [Lane.logAdd]
  (repeat' split) <;> rfl
@[simp] theorem Lane.logAdd_frame (l : Lane) (code : Nat) (arg : W32) (t : Nat) (aon : Bool) :
    (l.logAdd code arg t aon).id = l.id ∧ (l.logAdd code arg t aon).now = l.now ∧ (l.logAdd code arg t aon).st = l.st ∧
    (l.logAdd code arg t aon).laneOk = l.laneOk ∧ (l.logAdd code arg t aon).link = l.link ∧ (l.logAdd code arg t aon).params = l.params ∧
    (l.logAdd code arg t aon).held = l.held ∧ (l.logAdd code arg t aon).fresh = l.fresh ∧ (l.logAdd code arg t aon).gd = l.gd ∧
    (l.logAdd code arg t aon).pwm = l.pwm ∧ (l.logAdd code arg t aon).sns = l.sns ∧ (l.logAdd code arg t aon).pos = l.pos ∧
    (l.logAdd code arg t aon).mot = l.mot ∧ (l.logAdd code arg t aon).le = l.le ∧ (l.logAdd code arg t aon).mp = l.mp ∧
    (l.logAdd code arg t aon).fn = l.fn ∧ (l.logAdd code arg t aon).red = l.red ∧ (l.logAdd code arg t aon).net = l.net ∧
    (l.logAdd code arg t aon).ports = l.ports ∧ (l.logAdd code arg t aon).mb = l.mb ∧ (l.logAdd code arg t aon).pwr = l.pwr ∧
    (l.logAdd code arg t aon).boot = l.boot ∧ (l.logAdd code arg t aon).bist = l.bist ∧ (l.logAdd code arg t aon).mem.sram = l.mem.sram ∧
    (l.logAdd code arg t aon).mem.mram = l.mem.mram ∧ (l.logAdd code arg t aon).mem.log = l.mem.log ∧
    (l.logAdd code arg t aon).mem.hard = l.mem.hard ∧ (l.logAdd code arg t aon).mem.weevil = l.mem.weevil ∧
    (l.logAdd code arg t aon).mem.logRing = l.mem.logRing ∧ (l.logAdd code arg t aon).mem.ecc = l.mem.ecc := by
  rw [Lane.logAdd_eq]; simp

theorem Lane.eventRaw_eq (l : Lane) (code arg : Nat) (after : Bool) :
    l.eventRaw code arg after = { l with mb := (l.eventRaw code arg after).mb, mem := { l.mem with logBuf := (l.eventRaw code arg after).mem.logBuf, logNext := (l.eventRaw code arg after).mem.logNext } } := by
  simp only [Lane.eventRaw]; rw [Lane.logAdd_eq, Lane.qOverwrite_eq]
@[simp] theorem Lane.eventRaw_frame (l : Lane) (code arg : Nat) (after : Bool) :
    (l.eventRaw code arg after).id = l.id ∧ (l.eventRaw code arg after).now = l.now ∧ (l.eventRaw code arg after).st = l.st ∧
    (l.eventRaw code arg after).laneOk = l.laneOk ∧ (l.eventRaw code arg after).link = l.link ∧ (l.eventRaw code arg after).params = l.params ∧
    (l.eventRaw code arg after).held = l.held ∧ (l.eventRaw code arg after).fresh = l.fresh ∧ (l.eventRaw code arg after).gd = l.gd ∧
    (l.eventRaw code arg after).pwm = l.pwm ∧ (l.eventRaw code arg after).sns = l.sns ∧ (l.eventRaw code arg after).pos = l.pos ∧
    (l.eventRaw code arg after).mot = l.mot ∧ (l.eventRaw code arg after).le = l.le ∧ (l.eventRaw code arg after).mp = l.mp ∧
    (l.eventRaw code arg after).fn = l.fn ∧ (l.eventRaw code arg after).red = l.red ∧ (l.eventRaw code arg after).net = l.net ∧
    (l.eventRaw code arg after).ports = l.ports ∧ (l.eventRaw code arg after).pwr = l.pwr ∧ (l.eventRaw code arg after).boot = l.boot ∧
    (l.eventRaw code arg after).bist = l.bist ∧ (l.eventRaw code arg after).mem.sram = l.mem.sram ∧
    (l.eventRaw code arg after).mem.mram = l.mem.mram ∧ (l.eventRaw code arg after).mem.log = l.mem.log ∧
    (l.eventRaw code arg after).mem.hard = l.mem.hard ∧ (l.eventRaw code arg after).mem.weevil = l.mem.weevil ∧
    (l.eventRaw code arg after).mem.logRing = l.mem.logRing ∧ (l.eventRaw code arg after).mem.ecc = l.mem.ecc := by
  rw [Lane.eventRaw_eq]; simp

theorem Lane.event_eq (l : Lane) (code arg : Nat) :
    l.event code arg = { l with mb := (l.event code arg).mb, mem := { l.mem with logBuf := (l.event code arg).mem.logBuf, logNext := (l.event code arg).mem.logNext } } := by
  simp only [Lane.event]; split
  · rw [Lane.eventRaw_eq, Lane.eventRaw_eq]
  · rw [Lane.eventRaw_eq]
@[simp] theorem Lane.event_frame (l : Lane) (code arg : Nat) :
    (l.event code arg).id = l.id ∧ (l.event code arg).now = l.now ∧ (l.event code arg).st = l.st ∧ (l.event code arg).laneOk = l.laneOk ∧
    (l.event code arg).link = l.link ∧ (l.event code arg).params = l.params ∧ (l.event code arg).held = l.held ∧
    (l.event code arg).fresh = l.fresh ∧ (l.event code arg).gd = l.gd ∧ (l.event code arg).pwm = l.pwm ∧ (l.event code arg).sns = l.sns ∧
    (l.event code arg).pos = l.pos ∧ (l.event code arg).mot = l.mot ∧ (l.event code arg).le = l.le ∧ (l.event code arg).mp = l.mp ∧
    (l.event code arg).fn = l.fn ∧ (l.event code arg).red = l.red ∧ (l.event code arg).net = l.net ∧ (l.event code arg).ports = l.ports ∧
    (l.event code arg).pwr = l.pwr ∧ (l.event code arg).boot = l.boot ∧ (l.event code arg).bist = l.bist ∧
    (l.event code arg).mem.sram = l.mem.sram ∧ (l.event code arg).mem.mram = l.mem.mram ∧ (l.event code arg).mem.log = l.mem.log ∧
    (l.event code arg).mem.hard = l.mem.hard ∧ (l.event code arg).mem.weevil = l.mem.weevil ∧ (l.event code arg).mem.logRing = l.mem.logRing ∧
    (l.event code arg).mem.ecc = l.mem.ecc := by
  rw [Lane.event_eq]; simp

theorem Lane.eventU_eq (l : Lane) (code : Nat) :
    l.eventU code = { l with mb := (l.eventU code).mb, mem := { l.mem with logBuf := (l.eventU code).mem.logBuf, logNext := (l.eventU code).mem.logNext }, fresh := (l.eventU code).fresh } := by
  simp only [Lane.eventU]; rw [Lane.event_eq]
@[simp] theorem Lane.eventU_frame (l : Lane) (code : Nat) :
    (l.eventU code).id = l.id ∧ (l.eventU code).now = l.now ∧ (l.eventU code).st = l.st ∧ (l.eventU code).laneOk = l.laneOk ∧
    (l.eventU code).link = l.link ∧ (l.eventU code).params = l.params ∧ (l.eventU code).held = l.held ∧ (l.eventU code).gd = l.gd ∧
    (l.eventU code).pwm = l.pwm ∧ (l.eventU code).sns = l.sns ∧ (l.eventU code).pos = l.pos ∧ (l.eventU code).mot = l.mot ∧
    (l.eventU code).le = l.le ∧ (l.eventU code).mp = l.mp ∧ (l.eventU code).fn = l.fn ∧ (l.eventU code).red = l.red ∧
    (l.eventU code).net = l.net ∧ (l.eventU code).ports = l.ports ∧ (l.eventU code).pwr = l.pwr ∧ (l.eventU code).boot = l.boot ∧
    (l.eventU code).bist = l.bist ∧ (l.eventU code).mem.sram = l.mem.sram ∧ (l.eventU code).mem.mram = l.mem.mram ∧
    (l.eventU code).mem.log = l.mem.log ∧ (l.eventU code).mem.hard = l.mem.hard ∧ (l.eventU code).mem.weevil = l.mem.weevil ∧
    (l.eventU code).mem.logRing = l.mem.logRing ∧ (l.eventU code).mem.ecc = l.mem.ecc := by
  rw [Lane.eventU_eq]; simp

theorem Lane.complete_eq (l : Lane) (k : CmdKey) (status : Nat) :
    l.complete k status = { l with mb := (l.complete k status).mb, mem := { l.mem with logBuf := (l.complete k status).mem.logBuf, logNext := (l.complete k status).mem.logNext } } := by
  simp only [Lane.complete]; split
  · rw [Lane.event_eq]
  · rfl
@[simp] theorem Lane.complete_frame (l : Lane) (k : CmdKey) (status : Nat) :
    (l.complete k status).id = l.id ∧ (l.complete k status).now = l.now ∧ (l.complete k status).st = l.st ∧
    (l.complete k status).laneOk = l.laneOk ∧ (l.complete k status).link = l.link ∧ (l.complete k status).params = l.params ∧
    (l.complete k status).held = l.held ∧ (l.complete k status).fresh = l.fresh ∧ (l.complete k status).gd = l.gd ∧
    (l.complete k status).pwm = l.pwm ∧ (l.complete k status).sns = l.sns ∧ (l.complete k status).pos = l.pos ∧
    (l.complete k status).mot = l.mot ∧ (l.complete k status).le = l.le ∧ (l.complete k status).mp = l.mp ∧ (l.complete k status).fn = l.fn ∧
    (l.complete k status).red = l.red ∧ (l.complete k status).net = l.net ∧ (l.complete k status).ports = l.ports ∧
    (l.complete k status).pwr = l.pwr ∧ (l.complete k status).boot = l.boot ∧ (l.complete k status).bist = l.bist ∧
    (l.complete k status).mem.sram = l.mem.sram ∧ (l.complete k status).mem.mram = l.mem.mram ∧ (l.complete k status).mem.log = l.mem.log ∧
    (l.complete k status).mem.hard = l.mem.hard ∧ (l.complete k status).mem.weevil = l.mem.weevil ∧
    (l.complete k status).mem.logRing = l.mem.logRing ∧ (l.complete k status).mem.ecc = l.mem.ecc := by
  rw [Lane.complete_eq]; simp

theorem Lane.completeOpt_eq (l : Lane) (k : Option CmdKey) (status : Nat) :
    l.completeOpt k status = { l with mb := (l.completeOpt k status).mb, mem := { l.mem with logBuf := (l.completeOpt k status).mem.logBuf, logNext := (l.completeOpt k status).mem.logNext } } := by
  cases k
  · rfl
  · exact Lane.complete_eq l _ status
@[simp] theorem Lane.completeOpt_frame (l : Lane) (k : Option CmdKey) (status : Nat) :
    (l.completeOpt k status).id = l.id ∧ (l.completeOpt k status).now = l.now ∧ (l.completeOpt k status).st = l.st ∧
    (l.completeOpt k status).laneOk = l.laneOk ∧ (l.completeOpt k status).link = l.link ∧ (l.completeOpt k status).params = l.params ∧
    (l.completeOpt k status).held = l.held ∧ (l.completeOpt k status).fresh = l.fresh ∧ (l.completeOpt k status).gd = l.gd ∧
    (l.completeOpt k status).pwm = l.pwm ∧ (l.completeOpt k status).sns = l.sns ∧ (l.completeOpt k status).pos = l.pos ∧
    (l.completeOpt k status).mot = l.mot ∧ (l.completeOpt k status).le = l.le ∧ (l.completeOpt k status).mp = l.mp ∧
    (l.completeOpt k status).fn = l.fn ∧ (l.completeOpt k status).red = l.red ∧ (l.completeOpt k status).net = l.net ∧
    (l.completeOpt k status).ports = l.ports ∧ (l.completeOpt k status).pwr = l.pwr ∧ (l.completeOpt k status).boot = l.boot ∧
    (l.completeOpt k status).bist = l.bist ∧ (l.completeOpt k status).mem.sram = l.mem.sram ∧ (l.completeOpt k status).mem.mram = l.mem.mram ∧
    (l.completeOpt k status).mem.log = l.mem.log ∧ (l.completeOpt k status).mem.hard = l.mem.hard ∧
    (l.completeOpt k status).mem.weevil = l.mem.weevil ∧ (l.completeOpt k status).mem.logRing = l.mem.logRing ∧
    (l.completeOpt k status).mem.ecc = l.mem.ecc := by
  rw [Lane.completeOpt_eq]; simp

theorem Lane.setSt_eq (l : Lane) (st : LaneSt) :
    l.setSt st = { l with st := (l.setSt st).st, laneOk := (l.setSt st).laneOk, mb := (l.setSt st).mb } := by
  simp only [Lane.setSt]; split
  · rfl
  · rw [Lane.irqLine_eq, Lane.irqSet_eq]
@[simp] theorem Lane.setSt_frame (l : Lane) (st : LaneSt) :
    (l.setSt st).id = l.id ∧ (l.setSt st).now = l.now ∧ (l.setSt st).link = l.link ∧ (l.setSt st).params = l.params ∧
    (l.setSt st).held = l.held ∧ (l.setSt st).fresh = l.fresh ∧ (l.setSt st).gd = l.gd ∧ (l.setSt st).pwm = l.pwm ∧ (l.setSt st).sns = l.sns ∧
    (l.setSt st).pos = l.pos ∧ (l.setSt st).mot = l.mot ∧ (l.setSt st).le = l.le ∧ (l.setSt st).mp = l.mp ∧ (l.setSt st).fn = l.fn ∧
    (l.setSt st).red = l.red ∧ (l.setSt st).net = l.net ∧ (l.setSt st).ports = l.ports ∧ (l.setSt st).pwr = l.pwr ∧ (l.setSt st).mem = l.mem ∧
    (l.setSt st).boot = l.boot ∧ (l.setSt st).bist = l.bist := by
  rw [Lane.setSt_eq]; simp

theorem Lane.setLnk_eq (l : Lane) (p : LaneId) (k : Link) :
    l.setLnk p k = { l with link := (l.setLnk p k).link } := rfl
@[simp] theorem Lane.setLnk_frame (l : Lane) (p : LaneId) (k : Link) :
    (l.setLnk p k).id = l.id ∧ (l.setLnk p k).now = l.now ∧ (l.setLnk p k).st = l.st ∧ (l.setLnk p k).laneOk = l.laneOk ∧
    (l.setLnk p k).params = l.params ∧ (l.setLnk p k).held = l.held ∧ (l.setLnk p k).fresh = l.fresh ∧ (l.setLnk p k).gd = l.gd ∧
    (l.setLnk p k).pwm = l.pwm ∧ (l.setLnk p k).sns = l.sns ∧ (l.setLnk p k).pos = l.pos ∧ (l.setLnk p k).mot = l.mot ∧
    (l.setLnk p k).le = l.le ∧ (l.setLnk p k).mp = l.mp ∧ (l.setLnk p k).fn = l.fn ∧ (l.setLnk p k).red = l.red ∧ (l.setLnk p k).net = l.net ∧
    (l.setLnk p k).ports = l.ports ∧ (l.setLnk p k).mb = l.mb ∧ (l.setLnk p k).pwr = l.pwr ∧ (l.setLnk p k).mem = l.mem ∧
    (l.setLnk p k).boot = l.boot ∧ (l.setLnk p k).bist = l.bist := by
  rw [Lane.setLnk_eq]; simp

theorem Lane.send_eq (l : Lane) (p : LaneId) (urgent : Bool) (kind : Nat) (payload : List Byte) :
    l.send p urgent kind payload = { l with link := (l.send p urgent kind payload).link } := by
  simp only [Lane.send]; split
  · rfl
  · rw [Lane.setLnk_eq]
@[simp] theorem Lane.send_frame (l : Lane) (p : LaneId) (urgent : Bool) (kind : Nat) (payload : List Byte) :
    (l.send p urgent kind payload).id = l.id ∧ (l.send p urgent kind payload).now = l.now ∧ (l.send p urgent kind payload).st = l.st ∧
    (l.send p urgent kind payload).laneOk = l.laneOk ∧ (l.send p urgent kind payload).params = l.params ∧
    (l.send p urgent kind payload).held = l.held ∧ (l.send p urgent kind payload).fresh = l.fresh ∧ (l.send p urgent kind payload).gd = l.gd ∧
    (l.send p urgent kind payload).pwm = l.pwm ∧ (l.send p urgent kind payload).sns = l.sns ∧ (l.send p urgent kind payload).pos = l.pos ∧
    (l.send p urgent kind payload).mot = l.mot ∧ (l.send p urgent kind payload).le = l.le ∧ (l.send p urgent kind payload).mp = l.mp ∧
    (l.send p urgent kind payload).fn = l.fn ∧ (l.send p urgent kind payload).red = l.red ∧ (l.send p urgent kind payload).net = l.net ∧
    (l.send p urgent kind payload).ports = l.ports ∧ (l.send p urgent kind payload).mb = l.mb ∧ (l.send p urgent kind payload).pwr = l.pwr ∧
    (l.send p urgent kind payload).mem = l.mem ∧ (l.send p urgent kind payload).boot = l.boot ∧ (l.send p urgent kind payload).bist = l.bist := by
  rw [Lane.send_eq]; simp

theorem Lane.sendBoth_eq (l : Lane) (urgent : Bool) (kind : Nat) (payload : List Byte) :
    l.sendBoth urgent kind payload = { l with link := (l.sendBoth urgent kind payload).link } := by
  simp only [Lane.sendBoth]; rw [Lane.send_eq, Lane.send_eq]
@[simp] theorem Lane.sendBoth_frame (l : Lane) (urgent : Bool) (kind : Nat) (payload : List Byte) :
    (l.sendBoth urgent kind payload).id = l.id ∧ (l.sendBoth urgent kind payload).now = l.now ∧ (l.sendBoth urgent kind payload).st = l.st ∧
    (l.sendBoth urgent kind payload).laneOk = l.laneOk ∧ (l.sendBoth urgent kind payload).params = l.params ∧
    (l.sendBoth urgent kind payload).held = l.held ∧ (l.sendBoth urgent kind payload).fresh = l.fresh ∧
    (l.sendBoth urgent kind payload).gd = l.gd ∧ (l.sendBoth urgent kind payload).pwm = l.pwm ∧ (l.sendBoth urgent kind payload).sns = l.sns ∧
    (l.sendBoth urgent kind payload).pos = l.pos ∧ (l.sendBoth urgent kind payload).mot = l.mot ∧ (l.sendBoth urgent kind payload).le = l.le ∧
    (l.sendBoth urgent kind payload).mp = l.mp ∧ (l.sendBoth urgent kind payload).fn = l.fn ∧ (l.sendBoth urgent kind payload).red = l.red ∧
    (l.sendBoth urgent kind payload).net = l.net ∧ (l.sendBoth urgent kind payload).ports = l.ports ∧
    (l.sendBoth urgent kind payload).mb = l.mb ∧ (l.sendBoth urgent kind payload).pwr = l.pwr ∧ (l.sendBoth urgent kind payload).mem = l.mem ∧
    (l.sendBoth urgent kind payload).boot = l.boot ∧ (l.sendBoth urgent kind payload).bist = l.bist := by
  rw [Lane.sendBoth_eq]; simp

theorem Lane.setCan_eq (l : Lane) (port : Nat) (c : Can) :
    l.setCan port c = { l with ports := (l.setCan port c).ports } := rfl
@[simp] theorem Lane.setCan_frame (l : Lane) (port : Nat) (c : Can) :
    (l.setCan port c).id = l.id ∧ (l.setCan port c).now = l.now ∧ (l.setCan port c).st = l.st ∧ (l.setCan port c).laneOk = l.laneOk ∧
    (l.setCan port c).link = l.link ∧ (l.setCan port c).params = l.params ∧ (l.setCan port c).held = l.held ∧
    (l.setCan port c).fresh = l.fresh ∧ (l.setCan port c).gd = l.gd ∧ (l.setCan port c).pwm = l.pwm ∧ (l.setCan port c).sns = l.sns ∧
    (l.setCan port c).pos = l.pos ∧ (l.setCan port c).mot = l.mot ∧ (l.setCan port c).le = l.le ∧ (l.setCan port c).mp = l.mp ∧
    (l.setCan port c).fn = l.fn ∧ (l.setCan port c).red = l.red ∧ (l.setCan port c).net = l.net ∧ (l.setCan port c).mb = l.mb ∧
    (l.setCan port c).pwr = l.pwr ∧ (l.setCan port c).mem = l.mem ∧ (l.setCan port c).boot = l.boot ∧ (l.setCan port c).bist = l.bist := by
  rw [Lane.setCan_eq]; simp

theorem Lane.canSend_eq (l : Lane) (port id seg msgId : Nat) (body : List Byte) (fd : Bool) :
    l.canSend port id seg msgId body fd = { l with ports := (l.canSend port id seg msgId body fd).ports } := rfl
@[simp] theorem Lane.canSend_frame (l : Lane) (port id seg msgId : Nat) (body : List Byte) (fd : Bool) :
    (l.canSend port id seg msgId body fd).id = l.id ∧ (l.canSend port id seg msgId body fd).now = l.now ∧
    (l.canSend port id seg msgId body fd).st = l.st ∧ (l.canSend port id seg msgId body fd).laneOk = l.laneOk ∧
    (l.canSend port id seg msgId body fd).link = l.link ∧ (l.canSend port id seg msgId body fd).params = l.params ∧
    (l.canSend port id seg msgId body fd).held = l.held ∧ (l.canSend port id seg msgId body fd).fresh = l.fresh ∧
    (l.canSend port id seg msgId body fd).gd = l.gd ∧ (l.canSend port id seg msgId body fd).pwm = l.pwm ∧
    (l.canSend port id seg msgId body fd).sns = l.sns ∧ (l.canSend port id seg msgId body fd).pos = l.pos ∧
    (l.canSend port id seg msgId body fd).mot = l.mot ∧ (l.canSend port id seg msgId body fd).le = l.le ∧
    (l.canSend port id seg msgId body fd).mp = l.mp ∧ (l.canSend port id seg msgId body fd).fn = l.fn ∧
    (l.canSend port id seg msgId body fd).red = l.red ∧ (l.canSend port id seg msgId body fd).net = l.net ∧
    (l.canSend port id seg msgId body fd).mb = l.mb ∧ (l.canSend port id seg msgId body fd).pwr = l.pwr ∧
    (l.canSend port id seg msgId body fd).mem = l.mem ∧ (l.canSend port id seg msgId body fd).boot = l.boot ∧
    (l.canSend port id seg msgId body fd).bist = l.bist := by
  rw [Lane.canSend_eq]; simp

theorem Lane.canSegs_eq (l : Lane) (port host msgId n i : Nat) (fd : Bool) (cs : List (List Byte)) :
    l.canSegs port host msgId n i fd cs = { l with ports := (l.canSegs port host msgId n i fd cs).ports } := by
  induction cs generalizing l i with
  | nil => rfl
  | cons c r ih => simp only [Lane.canSegs]; rw [ih, Lane.canSend_eq]
@[simp] theorem Lane.canSegs_frame (l : Lane) (port host msgId n i : Nat) (fd : Bool) (cs : List (List Byte)) :
    (l.canSegs port host msgId n i fd cs).id = l.id ∧ (l.canSegs port host msgId n i fd cs).now = l.now ∧
    (l.canSegs port host msgId n i fd cs).st = l.st ∧ (l.canSegs port host msgId n i fd cs).laneOk = l.laneOk ∧
    (l.canSegs port host msgId n i fd cs).link = l.link ∧ (l.canSegs port host msgId n i fd cs).params = l.params ∧
    (l.canSegs port host msgId n i fd cs).held = l.held ∧ (l.canSegs port host msgId n i fd cs).fresh = l.fresh ∧
    (l.canSegs port host msgId n i fd cs).gd = l.gd ∧ (l.canSegs port host msgId n i fd cs).pwm = l.pwm ∧
    (l.canSegs port host msgId n i fd cs).sns = l.sns ∧ (l.canSegs port host msgId n i fd cs).pos = l.pos ∧
    (l.canSegs port host msgId n i fd cs).mot = l.mot ∧ (l.canSegs port host msgId n i fd cs).le = l.le ∧
    (l.canSegs port host msgId n i fd cs).mp = l.mp ∧ (l.canSegs port host msgId n i fd cs).fn = l.fn ∧
    (l.canSegs port host msgId n i fd cs).red = l.red ∧ (l.canSegs port host msgId n i fd cs).net = l.net ∧
    (l.canSegs port host msgId n i fd cs).mb = l.mb ∧ (l.canSegs port host msgId n i fd cs).pwr = l.pwr ∧
    (l.canSegs port host msgId n i fd cs).mem = l.mem ∧ (l.canSegs port host msgId n i fd cs).boot = l.boot ∧
    (l.canSegs port host msgId n i fd cs).bist = l.bist := by
  rw [Lane.canSegs_eq]; simp

theorem Lane.canRespond_eq (l : Lane) (k : CmdKey) (msg : List Byte) :
    l.canRespond k msg = { l with ports := (l.canRespond k msg).ports } := by
  simp only [Lane.canRespond]; rw [Lane.canSegs_eq]
@[simp] theorem Lane.canRespond_frame (l : Lane) (k : CmdKey) (msg : List Byte) :
    (l.canRespond k msg).id = l.id ∧ (l.canRespond k msg).now = l.now ∧ (l.canRespond k msg).st = l.st ∧
    (l.canRespond k msg).laneOk = l.laneOk ∧ (l.canRespond k msg).link = l.link ∧ (l.canRespond k msg).params = l.params ∧
    (l.canRespond k msg).held = l.held ∧ (l.canRespond k msg).fresh = l.fresh ∧ (l.canRespond k msg).gd = l.gd ∧
    (l.canRespond k msg).pwm = l.pwm ∧ (l.canRespond k msg).sns = l.sns ∧ (l.canRespond k msg).pos = l.pos ∧ (l.canRespond k msg).mot = l.mot ∧
    (l.canRespond k msg).le = l.le ∧ (l.canRespond k msg).mp = l.mp ∧ (l.canRespond k msg).fn = l.fn ∧ (l.canRespond k msg).red = l.red ∧
    (l.canRespond k msg).net = l.net ∧ (l.canRespond k msg).mb = l.mb ∧ (l.canRespond k msg).pwr = l.pwr ∧ (l.canRespond k msg).mem = l.mem ∧
    (l.canRespond k msg).boot = l.boot ∧ (l.canRespond k msg).bist = l.bist := by
  rw [Lane.canRespond_eq]; simp

theorem Lane.netSegs_eq (l : Lane) (node msgId n i : Nat) (cs : List (List Byte)) :
    l.netSegs node msgId n i cs = { l with mb := (l.netSegs node msgId n i cs).mb } := by
  induction cs generalizing l i with
  | nil => rfl
  | cons c r ih => simp only [Lane.netSegs]; rw [ih, Lane.qPut_eq]
@[simp] theorem Lane.netSegs_frame (l : Lane) (node msgId n i : Nat) (cs : List (List Byte)) :
    (l.netSegs node msgId n i cs).id = l.id ∧ (l.netSegs node msgId n i cs).now = l.now ∧ (l.netSegs node msgId n i cs).st = l.st ∧
    (l.netSegs node msgId n i cs).laneOk = l.laneOk ∧ (l.netSegs node msgId n i cs).link = l.link ∧
    (l.netSegs node msgId n i cs).params = l.params ∧ (l.netSegs node msgId n i cs).held = l.held ∧
    (l.netSegs node msgId n i cs).fresh = l.fresh ∧ (l.netSegs node msgId n i cs).gd = l.gd ∧ (l.netSegs node msgId n i cs).pwm = l.pwm ∧
    (l.netSegs node msgId n i cs).sns = l.sns ∧ (l.netSegs node msgId n i cs).pos = l.pos ∧ (l.netSegs node msgId n i cs).mot = l.mot ∧
    (l.netSegs node msgId n i cs).le = l.le ∧ (l.netSegs node msgId n i cs).mp = l.mp ∧ (l.netSegs node msgId n i cs).fn = l.fn ∧
    (l.netSegs node msgId n i cs).red = l.red ∧ (l.netSegs node msgId n i cs).net = l.net ∧ (l.netSegs node msgId n i cs).ports = l.ports ∧
    (l.netSegs node msgId n i cs).pwr = l.pwr ∧ (l.netSegs node msgId n i cs).mem = l.mem ∧ (l.netSegs node msgId n i cs).boot = l.boot ∧
    (l.netSegs node msgId n i cs).bist = l.bist := by
  rw [Lane.netSegs_eq]; simp

theorem Lane.netPump_eq (l : Lane) (n : Nat) :
    l.netPump n = { l with mb := (l.netPump n).mb } := by
  induction n generalizing l with
  | zero => rfl
  | succ n ih =>
    simp only [Lane.netPump]; split
    · rfl
    · split
      · rw [ih, Lane.netSegs_eq, Lane.qDropN_eq]
      · rfl
@[simp] theorem Lane.netPump_frame (l : Lane) (n : Nat) :
    (l.netPump n).id = l.id ∧ (l.netPump n).now = l.now ∧ (l.netPump n).st = l.st ∧ (l.netPump n).laneOk = l.laneOk ∧
    (l.netPump n).link = l.link ∧ (l.netPump n).params = l.params ∧ (l.netPump n).held = l.held ∧ (l.netPump n).fresh = l.fresh ∧
    (l.netPump n).gd = l.gd ∧ (l.netPump n).pwm = l.pwm ∧ (l.netPump n).sns = l.sns ∧ (l.netPump n).pos = l.pos ∧ (l.netPump n).mot = l.mot ∧
    (l.netPump n).le = l.le ∧ (l.netPump n).mp = l.mp ∧ (l.netPump n).fn = l.fn ∧ (l.netPump n).red = l.red ∧ (l.netPump n).net = l.net ∧
    (l.netPump n).ports = l.ports ∧ (l.netPump n).pwr = l.pwr ∧ (l.netPump n).mem = l.mem ∧ (l.netPump n).boot = l.boot ∧
    (l.netPump n).bist = l.bist := by
  rw [Lane.netPump_eq]; simp

theorem Lane.qPutAll_eq (l : Lane) (n : Nat) (first : Bool) (cs : List (List Byte)) :
    l.qPutAll n first cs = { l with mb := (l.qPutAll n first cs).mb } := by
  induction cs generalizing l first with
  | nil => rfl
  | cons c r ih =>
    cases r with
    | nil => simp only [Lane.qPutAll]; rw [Lane.qPut_eq]
    | cons d r => simp only [Lane.qPutAll]; rw [ih, Lane.qPut_eq]
@[simp] theorem Lane.qPutAll_frame (l : Lane) (n : Nat) (first : Bool) (cs : List (List Byte)) :
    (l.qPutAll n first cs).id = l.id ∧ (l.qPutAll n first cs).now = l.now ∧ (l.qPutAll n first cs).st = l.st ∧
    (l.qPutAll n first cs).laneOk = l.laneOk ∧ (l.qPutAll n first cs).link = l.link ∧ (l.qPutAll n first cs).params = l.params ∧
    (l.qPutAll n first cs).held = l.held ∧ (l.qPutAll n first cs).fresh = l.fresh ∧ (l.qPutAll n first cs).gd = l.gd ∧
    (l.qPutAll n first cs).pwm = l.pwm ∧ (l.qPutAll n first cs).sns = l.sns ∧ (l.qPutAll n first cs).pos = l.pos ∧
    (l.qPutAll n first cs).mot = l.mot ∧ (l.qPutAll n first cs).le = l.le ∧ (l.qPutAll n first cs).mp = l.mp ∧
    (l.qPutAll n first cs).fn = l.fn ∧ (l.qPutAll n first cs).red = l.red ∧ (l.qPutAll n first cs).net = l.net ∧
    (l.qPutAll n first cs).ports = l.ports ∧ (l.qPutAll n first cs).pwr = l.pwr ∧ (l.qPutAll n first cs).mem = l.mem ∧
    (l.qPutAll n first cs).boot = l.boot ∧ (l.qPutAll n first cs).bist = l.bist := by
  rw [Lane.qPutAll_eq]; simp

theorem Lane.qPutMsg_eq (l : Lane) (n : Nat) (m : List Byte) :
    l.qPutMsg n m = { l with mb := (l.qPutMsg n m).mb } := by
  simp only [Lane.qPutMsg]; rw [Lane.qPutAll_eq]
@[simp] theorem Lane.qPutMsg_frame (l : Lane) (n : Nat) (m : List Byte) :
    (l.qPutMsg n m).id = l.id ∧ (l.qPutMsg n m).now = l.now ∧ (l.qPutMsg n m).st = l.st ∧ (l.qPutMsg n m).laneOk = l.laneOk ∧
    (l.qPutMsg n m).link = l.link ∧ (l.qPutMsg n m).params = l.params ∧ (l.qPutMsg n m).held = l.held ∧ (l.qPutMsg n m).fresh = l.fresh ∧
    (l.qPutMsg n m).gd = l.gd ∧ (l.qPutMsg n m).pwm = l.pwm ∧ (l.qPutMsg n m).sns = l.sns ∧ (l.qPutMsg n m).pos = l.pos ∧
    (l.qPutMsg n m).mot = l.mot ∧ (l.qPutMsg n m).le = l.le ∧ (l.qPutMsg n m).mp = l.mp ∧ (l.qPutMsg n m).fn = l.fn ∧
    (l.qPutMsg n m).red = l.red ∧ (l.qPutMsg n m).net = l.net ∧ (l.qPutMsg n m).ports = l.ports ∧ (l.qPutMsg n m).pwr = l.pwr ∧
    (l.qPutMsg n m).mem = l.mem ∧ (l.qPutMsg n m).boot = l.boot ∧ (l.qPutMsg n m).bist = l.bist := by
  rw [Lane.qPutMsg_eq]; simp

theorem Lane.setCnt_eq (l : Lane) (tr : Transport) (c : MbCounters) :
    l.setCnt tr c = { l with mb := (l.setCnt tr c).mb } := rfl
@[simp] theorem Lane.setCnt_frame (l : Lane) (tr : Transport) (c : MbCounters) :
    (l.setCnt tr c).id = l.id ∧ (l.setCnt tr c).now = l.now ∧ (l.setCnt tr c).st = l.st ∧ (l.setCnt tr c).laneOk = l.laneOk ∧
    (l.setCnt tr c).link = l.link ∧ (l.setCnt tr c).params = l.params ∧ (l.setCnt tr c).held = l.held ∧ (l.setCnt tr c).fresh = l.fresh ∧
    (l.setCnt tr c).gd = l.gd ∧ (l.setCnt tr c).pwm = l.pwm ∧ (l.setCnt tr c).sns = l.sns ∧ (l.setCnt tr c).pos = l.pos ∧
    (l.setCnt tr c).mot = l.mot ∧ (l.setCnt tr c).le = l.le ∧ (l.setCnt tr c).mp = l.mp ∧ (l.setCnt tr c).fn = l.fn ∧
    (l.setCnt tr c).red = l.red ∧ (l.setCnt tr c).net = l.net ∧ (l.setCnt tr c).ports = l.ports ∧ (l.setCnt tr c).pwr = l.pwr ∧
    (l.setCnt tr c).mem = l.mem ∧ (l.setCnt tr c).boot = l.boot ∧ (l.setCnt tr c).bist = l.bist := by
  rw [Lane.setCnt_eq]; simp

theorem Lane.respSend_eq (l : Lane) (k : CmdKey) (msg : List Byte) :
    l.respSend k msg = { l with mb := (l.respSend k msg).mb, ports := (l.respSend k msg).ports } := by
  simp only [Lane.respSend]; split
  · split
    · rw [Lane.netPump_eq, Lane.qPutMsg_eq]
    · rw [Lane.qDropN_eq, Lane.canRespond_eq, Lane.qPutMsg_eq]
    · rw [Lane.qPutMsg_eq]
  · rfl
@[simp] theorem Lane.respSend_frame (l : Lane) (k : CmdKey) (msg : List Byte) :
    (l.respSend k msg).id = l.id ∧ (l.respSend k msg).now = l.now ∧ (l.respSend k msg).st = l.st ∧ (l.respSend k msg).laneOk = l.laneOk ∧
    (l.respSend k msg).link = l.link ∧ (l.respSend k msg).params = l.params ∧ (l.respSend k msg).held = l.held ∧
    (l.respSend k msg).fresh = l.fresh ∧ (l.respSend k msg).gd = l.gd ∧ (l.respSend k msg).pwm = l.pwm ∧ (l.respSend k msg).sns = l.sns ∧
    (l.respSend k msg).pos = l.pos ∧ (l.respSend k msg).mot = l.mot ∧ (l.respSend k msg).le = l.le ∧ (l.respSend k msg).mp = l.mp ∧
    (l.respSend k msg).fn = l.fn ∧ (l.respSend k msg).red = l.red ∧ (l.respSend k msg).net = l.net ∧ (l.respSend k msg).pwr = l.pwr ∧
    (l.respSend k msg).mem = l.mem ∧ (l.respSend k msg).boot = l.boot ∧ (l.respSend k msg).bist = l.bist := by
  rw [Lane.respSend_eq]; simp

theorem Lane.respond_eq (l : Lane) (k : CmdKey) (status : Nat) (res : List Byte) :
    l.respond k status res = { l with mb := (l.respond k status res).mb, ports := (l.respond k status res).ports } := by
  simp only [Lane.respond]; split
  · rfl
  · split <;> rw [Lane.respSend_eq] <;> rfl
@[simp] theorem Lane.respond_frame (l : Lane) (k : CmdKey) (status : Nat) (res : List Byte) :
    (l.respond k status res).id = l.id ∧ (l.respond k status res).now = l.now ∧ (l.respond k status res).st = l.st ∧
    (l.respond k status res).laneOk = l.laneOk ∧ (l.respond k status res).link = l.link ∧ (l.respond k status res).params = l.params ∧
    (l.respond k status res).held = l.held ∧ (l.respond k status res).fresh = l.fresh ∧ (l.respond k status res).gd = l.gd ∧
    (l.respond k status res).pwm = l.pwm ∧ (l.respond k status res).sns = l.sns ∧ (l.respond k status res).pos = l.pos ∧
    (l.respond k status res).mot = l.mot ∧ (l.respond k status res).le = l.le ∧ (l.respond k status res).mp = l.mp ∧
    (l.respond k status res).fn = l.fn ∧ (l.respond k status res).red = l.red ∧ (l.respond k status res).net = l.net ∧
    (l.respond k status res).pwr = l.pwr ∧ (l.respond k status res).mem = l.mem ∧ (l.respond k status res).boot = l.boot ∧
    (l.respond k status res).bist = l.bist := by
  rw [Lane.respond_eq]; simp

theorem Lane.answer_eq (l : Lane) (k : CmdKey) (status : Nat) (res : List Byte) :
    l.answer k status res = { l with mb := (l.answer k status res).mb, ports := (l.answer k status res).ports } := by
  simp only [Lane.answer]; split
  · rw [Lane.respond_eq]
  · rfl
@[simp] theorem Lane.answer_frame (l : Lane) (k : CmdKey) (status : Nat) (res : List Byte) :
    (l.answer k status res).id = l.id ∧ (l.answer k status res).now = l.now ∧ (l.answer k status res).st = l.st ∧
    (l.answer k status res).laneOk = l.laneOk ∧ (l.answer k status res).link = l.link ∧ (l.answer k status res).params = l.params ∧
    (l.answer k status res).held = l.held ∧ (l.answer k status res).fresh = l.fresh ∧ (l.answer k status res).gd = l.gd ∧
    (l.answer k status res).pwm = l.pwm ∧ (l.answer k status res).sns = l.sns ∧ (l.answer k status res).pos = l.pos ∧
    (l.answer k status res).mot = l.mot ∧ (l.answer k status res).le = l.le ∧ (l.answer k status res).mp = l.mp ∧
    (l.answer k status res).fn = l.fn ∧ (l.answer k status res).red = l.red ∧ (l.answer k status res).net = l.net ∧
    (l.answer k status res).pwr = l.pwr ∧ (l.answer k status res).mem = l.mem ∧ (l.answer k status res).boot = l.boot ∧
    (l.answer k status res).bist = l.bist := by
  rw [Lane.answer_eq]; simp

theorem Lane.noteV1_eq (l : Lane) (m : Msg) :
    l.noteV1 m = { l with mb := (l.noteV1 m).mb, mem := { l.mem with logBuf := (l.noteV1 m).mem.logBuf, logNext := (l.noteV1 m).mem.logNext } } := by
  simp only [Lane.noteV1]; split
  · rw [Lane.event_eq]
  · rfl
@[simp] theorem Lane.noteV1_frame (l : Lane) (m : Msg) :
    (l.noteV1 m).id = l.id ∧ (l.noteV1 m).now = l.now ∧ (l.noteV1 m).st = l.st ∧ (l.noteV1 m).laneOk = l.laneOk ∧ (l.noteV1 m).link = l.link ∧
    (l.noteV1 m).params = l.params ∧ (l.noteV1 m).held = l.held ∧ (l.noteV1 m).fresh = l.fresh ∧ (l.noteV1 m).gd = l.gd ∧
    (l.noteV1 m).pwm = l.pwm ∧ (l.noteV1 m).sns = l.sns ∧ (l.noteV1 m).pos = l.pos ∧ (l.noteV1 m).mot = l.mot ∧ (l.noteV1 m).le = l.le ∧
    (l.noteV1 m).mp = l.mp ∧ (l.noteV1 m).fn = l.fn ∧ (l.noteV1 m).red = l.red ∧ (l.noteV1 m).net = l.net ∧ (l.noteV1 m).ports = l.ports ∧
    (l.noteV1 m).pwr = l.pwr ∧ (l.noteV1 m).boot = l.boot ∧ (l.noteV1 m).bist = l.bist ∧ (l.noteV1 m).mem.sram = l.mem.sram ∧
    (l.noteV1 m).mem.mram = l.mem.mram ∧ (l.noteV1 m).mem.log = l.mem.log ∧ (l.noteV1 m).mem.hard = l.mem.hard ∧
    (l.noteV1 m).mem.weevil = l.mem.weevil ∧ (l.noteV1 m).mem.logRing = l.mem.logRing ∧ (l.noteV1 m).mem.ecc = l.mem.ecc := by
  rw [Lane.noteV1_eq]; simp

theorem Lane.setHb_eq (l : Lane) (k : Nat) (h : HalfBridge) :
    l.setHb k h = { l with gd := (l.setHb k h).gd } := rfl
@[simp] theorem Lane.setHb_frame (l : Lane) (k : Nat) (h : HalfBridge) :
    (l.setHb k h).id = l.id ∧ (l.setHb k h).now = l.now ∧ (l.setHb k h).st = l.st ∧ (l.setHb k h).laneOk = l.laneOk ∧
    (l.setHb k h).link = l.link ∧ (l.setHb k h).params = l.params ∧ (l.setHb k h).held = l.held ∧ (l.setHb k h).fresh = l.fresh ∧
    (l.setHb k h).pwm = l.pwm ∧ (l.setHb k h).sns = l.sns ∧ (l.setHb k h).pos = l.pos ∧ (l.setHb k h).mot = l.mot ∧ (l.setHb k h).le = l.le ∧
    (l.setHb k h).mp = l.mp ∧ (l.setHb k h).fn = l.fn ∧ (l.setHb k h).red = l.red ∧ (l.setHb k h).net = l.net ∧ (l.setHb k h).ports = l.ports ∧
    (l.setHb k h).mb = l.mb ∧ (l.setHb k h).pwr = l.pwr ∧ (l.setHb k h).mem = l.mem ∧ (l.setHb k h).boot = l.boot ∧
    (l.setHb k h).bist = l.bist := by
  rw [Lane.setHb_eq]; simp

theorem Lane.setGch_eq (l : Lane) (k : Nat) (g : GateCh) :
    l.setGch k g = { l with gd := (l.setGch k g).gd } := rfl
@[simp] theorem Lane.setGch_frame (l : Lane) (k : Nat) (g : GateCh) :
    (l.setGch k g).id = l.id ∧ (l.setGch k g).now = l.now ∧ (l.setGch k g).st = l.st ∧ (l.setGch k g).laneOk = l.laneOk ∧
    (l.setGch k g).link = l.link ∧ (l.setGch k g).params = l.params ∧ (l.setGch k g).held = l.held ∧ (l.setGch k g).fresh = l.fresh ∧
    (l.setGch k g).pwm = l.pwm ∧ (l.setGch k g).sns = l.sns ∧ (l.setGch k g).pos = l.pos ∧ (l.setGch k g).mot = l.mot ∧
    (l.setGch k g).le = l.le ∧ (l.setGch k g).mp = l.mp ∧ (l.setGch k g).fn = l.fn ∧ (l.setGch k g).red = l.red ∧ (l.setGch k g).net = l.net ∧
    (l.setGch k g).ports = l.ports ∧ (l.setGch k g).mb = l.mb ∧ (l.setGch k g).pwr = l.pwr ∧ (l.setGch k g).mem = l.mem ∧
    (l.setGch k g).boot = l.boot ∧ (l.setGch k g).bist = l.bist := by
  rw [Lane.setGch_eq]; simp

theorem Lane.setTb_eq (l : Lane) (k : Nat) (b : TimeBase) :
    l.setTb k b = { l with pwm := (l.setTb k b).pwm } := rfl
@[simp] theorem Lane.setTb_frame (l : Lane) (k : Nat) (b : TimeBase) :
    (l.setTb k b).id = l.id ∧ (l.setTb k b).now = l.now ∧ (l.setTb k b).st = l.st ∧ (l.setTb k b).laneOk = l.laneOk ∧
    (l.setTb k b).link = l.link ∧ (l.setTb k b).params = l.params ∧ (l.setTb k b).held = l.held ∧ (l.setTb k b).fresh = l.fresh ∧
    (l.setTb k b).gd = l.gd ∧ (l.setTb k b).sns = l.sns ∧ (l.setTb k b).pos = l.pos ∧ (l.setTb k b).mot = l.mot ∧ (l.setTb k b).le = l.le ∧
    (l.setTb k b).mp = l.mp ∧ (l.setTb k b).fn = l.fn ∧ (l.setTb k b).red = l.red ∧ (l.setTb k b).net = l.net ∧ (l.setTb k b).ports = l.ports ∧
    (l.setTb k b).mb = l.mb ∧ (l.setTb k b).pwr = l.pwr ∧ (l.setTb k b).mem = l.mem ∧ (l.setTb k b).boot = l.boot ∧
    (l.setTb k b).bist = l.bist := by
  rw [Lane.setTb_eq]; simp

theorem Lane.setPch_eq (l : Lane) (k : Nat) (c : PwmCh) :
    l.setPch k c = { l with pwm := (l.setPch k c).pwm } := rfl
@[simp] theorem Lane.setPch_frame (l : Lane) (k : Nat) (c : PwmCh) :
    (l.setPch k c).id = l.id ∧ (l.setPch k c).now = l.now ∧ (l.setPch k c).st = l.st ∧ (l.setPch k c).laneOk = l.laneOk ∧
    (l.setPch k c).link = l.link ∧ (l.setPch k c).params = l.params ∧ (l.setPch k c).held = l.held ∧ (l.setPch k c).fresh = l.fresh ∧
    (l.setPch k c).gd = l.gd ∧ (l.setPch k c).sns = l.sns ∧ (l.setPch k c).pos = l.pos ∧ (l.setPch k c).mot = l.mot ∧
    (l.setPch k c).le = l.le ∧ (l.setPch k c).mp = l.mp ∧ (l.setPch k c).fn = l.fn ∧ (l.setPch k c).red = l.red ∧ (l.setPch k c).net = l.net ∧
    (l.setPch k c).ports = l.ports ∧ (l.setPch k c).mb = l.mb ∧ (l.setPch k c).pwr = l.pwr ∧ (l.setPch k c).mem = l.mem ∧
    (l.setPch k c).boot = l.boot ∧ (l.setPch k c).bist = l.bist := by
  rw [Lane.setPch_eq]; simp

theorem Lane.setSrc_eq (l : Lane) (k : Nat) (x : TripSrc) :
    l.setSrc k x = { l with pwm := (l.setSrc k x).pwm } := rfl
@[simp] theorem Lane.setSrc_frame (l : Lane) (k : Nat) (x : TripSrc) :
    (l.setSrc k x).id = l.id ∧ (l.setSrc k x).now = l.now ∧ (l.setSrc k x).st = l.st ∧ (l.setSrc k x).laneOk = l.laneOk ∧
    (l.setSrc k x).link = l.link ∧ (l.setSrc k x).params = l.params ∧ (l.setSrc k x).held = l.held ∧ (l.setSrc k x).fresh = l.fresh ∧
    (l.setSrc k x).gd = l.gd ∧ (l.setSrc k x).sns = l.sns ∧ (l.setSrc k x).pos = l.pos ∧ (l.setSrc k x).mot = l.mot ∧
    (l.setSrc k x).le = l.le ∧ (l.setSrc k x).mp = l.mp ∧ (l.setSrc k x).fn = l.fn ∧ (l.setSrc k x).red = l.red ∧ (l.setSrc k x).net = l.net ∧
    (l.setSrc k x).ports = l.ports ∧ (l.setSrc k x).mb = l.mb ∧ (l.setSrc k x).pwr = l.pwr ∧ (l.setSrc k x).mem = l.mem ∧
    (l.setSrc k x).boot = l.boot ∧ (l.setSrc k x).bist = l.bist := by
  rw [Lane.setSrc_eq]; simp

theorem Lane.setMotor_eq (l : Lane) (k : Nat) (x : MotSlot) :
    l.setMotor k x = { l with mot := (l.setMotor k x).mot } := rfl
@[simp] theorem Lane.setMotor_frame (l : Lane) (k : Nat) (x : MotSlot) :
    (l.setMotor k x).id = l.id ∧ (l.setMotor k x).now = l.now ∧ (l.setMotor k x).st = l.st ∧ (l.setMotor k x).laneOk = l.laneOk ∧
    (l.setMotor k x).link = l.link ∧ (l.setMotor k x).params = l.params ∧ (l.setMotor k x).held = l.held ∧ (l.setMotor k x).fresh = l.fresh ∧
    (l.setMotor k x).gd = l.gd ∧ (l.setMotor k x).pwm = l.pwm ∧ (l.setMotor k x).sns = l.sns ∧ (l.setMotor k x).pos = l.pos ∧
    (l.setMotor k x).le = l.le ∧ (l.setMotor k x).mp = l.mp ∧ (l.setMotor k x).fn = l.fn ∧ (l.setMotor k x).red = l.red ∧
    (l.setMotor k x).net = l.net ∧ (l.setMotor k x).ports = l.ports ∧ (l.setMotor k x).mb = l.mb ∧ (l.setMotor k x).pwr = l.pwr ∧
    (l.setMotor k x).mem = l.mem ∧ (l.setMotor k x).boot = l.boot ∧ (l.setMotor k x).bist = l.bist := by
  rw [Lane.setMotor_eq]; simp

theorem Lane.setLoop_eq (l : Lane) (k : Nat) (x : LoopSlot) :
    l.setLoop k x = { l with le := (l.setLoop k x).le } := rfl
@[simp] theorem Lane.setLoop_frame (l : Lane) (k : Nat) (x : LoopSlot) :
    (l.setLoop k x).id = l.id ∧ (l.setLoop k x).now = l.now ∧ (l.setLoop k x).st = l.st ∧ (l.setLoop k x).laneOk = l.laneOk ∧
    (l.setLoop k x).link = l.link ∧ (l.setLoop k x).params = l.params ∧ (l.setLoop k x).held = l.held ∧ (l.setLoop k x).fresh = l.fresh ∧
    (l.setLoop k x).gd = l.gd ∧ (l.setLoop k x).pwm = l.pwm ∧ (l.setLoop k x).sns = l.sns ∧ (l.setLoop k x).pos = l.pos ∧
    (l.setLoop k x).mot = l.mot ∧ (l.setLoop k x).mp = l.mp ∧ (l.setLoop k x).fn = l.fn ∧ (l.setLoop k x).red = l.red ∧
    (l.setLoop k x).net = l.net ∧ (l.setLoop k x).ports = l.ports ∧ (l.setLoop k x).mb = l.mb ∧ (l.setLoop k x).pwr = l.pwr ∧
    (l.setLoop k x).mem = l.mem ∧ (l.setLoop k x).boot = l.boot ∧ (l.setLoop k x).bist = l.bist := by
  rw [Lane.setLoop_eq]; simp

theorem Lane.setGen_eq (l : Lane) (k : Nat) (x : Gen) :
    l.setGen k x = { l with mp := (l.setGen k x).mp } := rfl
@[simp] theorem Lane.setGen_frame (l : Lane) (k : Nat) (x : Gen) :
    (l.setGen k x).id = l.id ∧ (l.setGen k x).now = l.now ∧ (l.setGen k x).st = l.st ∧ (l.setGen k x).laneOk = l.laneOk ∧
    (l.setGen k x).link = l.link ∧ (l.setGen k x).params = l.params ∧ (l.setGen k x).held = l.held ∧ (l.setGen k x).fresh = l.fresh ∧
    (l.setGen k x).gd = l.gd ∧ (l.setGen k x).pwm = l.pwm ∧ (l.setGen k x).sns = l.sns ∧ (l.setGen k x).pos = l.pos ∧
    (l.setGen k x).mot = l.mot ∧ (l.setGen k x).le = l.le ∧ (l.setGen k x).fn = l.fn ∧ (l.setGen k x).red = l.red ∧
    (l.setGen k x).net = l.net ∧ (l.setGen k x).ports = l.ports ∧ (l.setGen k x).mb = l.mb ∧ (l.setGen k x).pwr = l.pwr ∧
    (l.setGen k x).mem = l.mem ∧ (l.setGen k x).boot = l.boot ∧ (l.setGen k x).bist = l.bist := by
  rw [Lane.setGen_eq]; simp

theorem Lane.setFunc_eq (l : Lane) (k : Nat) (x : Fn) :
    l.setFunc k x = { l with fn := (l.setFunc k x).fn } := rfl
@[simp] theorem Lane.setFunc_frame (l : Lane) (k : Nat) (x : Fn) :
    (l.setFunc k x).id = l.id ∧ (l.setFunc k x).now = l.now ∧ (l.setFunc k x).st = l.st ∧ (l.setFunc k x).laneOk = l.laneOk ∧
    (l.setFunc k x).link = l.link ∧ (l.setFunc k x).params = l.params ∧ (l.setFunc k x).held = l.held ∧ (l.setFunc k x).fresh = l.fresh ∧
    (l.setFunc k x).gd = l.gd ∧ (l.setFunc k x).pwm = l.pwm ∧ (l.setFunc k x).sns = l.sns ∧ (l.setFunc k x).pos = l.pos ∧
    (l.setFunc k x).mot = l.mot ∧ (l.setFunc k x).le = l.le ∧ (l.setFunc k x).mp = l.mp ∧ (l.setFunc k x).red = l.red ∧
    (l.setFunc k x).net = l.net ∧ (l.setFunc k x).ports = l.ports ∧ (l.setFunc k x).mb = l.mb ∧ (l.setFunc k x).pwr = l.pwr ∧
    (l.setFunc k x).mem = l.mem ∧ (l.setFunc k x).boot = l.boot ∧ (l.setFunc k x).bist = l.bist := by
  rw [Lane.setFunc_eq]; simp

theorem Lane.setSes_eq (l : Lane) (tr : Transport) (x : Session) :
    l.setSes tr x = { l with mb := (l.setSes tr x).mb } := rfl
@[simp] theorem Lane.setSes_frame (l : Lane) (tr : Transport) (x : Session) :
    (l.setSes tr x).id = l.id ∧ (l.setSes tr x).now = l.now ∧ (l.setSes tr x).st = l.st ∧ (l.setSes tr x).laneOk = l.laneOk ∧
    (l.setSes tr x).link = l.link ∧ (l.setSes tr x).params = l.params ∧ (l.setSes tr x).held = l.held ∧ (l.setSes tr x).fresh = l.fresh ∧
    (l.setSes tr x).gd = l.gd ∧ (l.setSes tr x).pwm = l.pwm ∧ (l.setSes tr x).sns = l.sns ∧ (l.setSes tr x).pos = l.pos ∧
    (l.setSes tr x).mot = l.mot ∧ (l.setSes tr x).le = l.le ∧ (l.setSes tr x).mp = l.mp ∧ (l.setSes tr x).fn = l.fn ∧
    (l.setSes tr x).red = l.red ∧ (l.setSes tr x).net = l.net ∧ (l.setSes tr x).ports = l.ports ∧ (l.setSes tr x).pwr = l.pwr ∧
    (l.setSes tr x).mem = l.mem ∧ (l.setSes tr x).boot = l.boot ∧ (l.setSes tr x).bist = l.bist := by
  rw [Lane.setSes_eq]; simp

theorem Lane.setStream_eq (l : Lane) (k : Nat) (x : Stream) :
    l.setStream k x = { l with mb := (l.setStream k x).mb } := rfl
@[simp] theorem Lane.setStream_frame (l : Lane) (k : Nat) (x : Stream) :
    (l.setStream k x).id = l.id ∧ (l.setStream k x).now = l.now ∧ (l.setStream k x).st = l.st ∧ (l.setStream k x).laneOk = l.laneOk ∧
    (l.setStream k x).link = l.link ∧ (l.setStream k x).params = l.params ∧ (l.setStream k x).held = l.held ∧
    (l.setStream k x).fresh = l.fresh ∧ (l.setStream k x).gd = l.gd ∧ (l.setStream k x).pwm = l.pwm ∧ (l.setStream k x).sns = l.sns ∧
    (l.setStream k x).pos = l.pos ∧ (l.setStream k x).mot = l.mot ∧ (l.setStream k x).le = l.le ∧ (l.setStream k x).mp = l.mp ∧
    (l.setStream k x).fn = l.fn ∧ (l.setStream k x).red = l.red ∧ (l.setStream k x).net = l.net ∧ (l.setStream k x).ports = l.ports ∧
    (l.setStream k x).pwr = l.pwr ∧ (l.setStream k x).mem = l.mem ∧ (l.setStream k x).boot = l.boot ∧ (l.setStream k x).bist = l.bist := by
  rw [Lane.setStream_eq]; simp

end Sys2Proof.Machine
end

