-- ==== Sys2Proof/Laws/Step.lean ====
section
/-! SUPPORT. What every command does to the module as a whole: it acts on the one lane it names, or stops on a unit that does not exist. -/

namespace Sys2Proof.Machine

@[simp] theorem need_isNone (ok : Bool) (r : Malformed) : (need ok r).isNone = ok := by cases ok <;> rfl

theorem run_need (ok : Bool) (r : Malformed) (s : State) (a : At) (f : Lane → Lane) :
    ∃ g, run ok s a f = run (need ok r).isNone s a g := ⟨f, by rw [need_isNone]⟩

/-- Every command acts on the lane it names and on nothing else, where it names only units that exist. -/
theorem exec_shape (i : Instr) (s : State) : ∃ f : Lane → Lane, exec i s = run i.wf s i.stamp f := by
  cases i <;> first | exact ⟨_, rfl⟩ | exact run_need _ _ _ _ _

end Sys2Proof.Machine
end

