-- ==== Sys2Proof/Laws/State.lean ====
section
/-! SUPPORT. Laws of the updates of the state: lanes, registers by number, folds over units. -/

namespace Sys2Proof.Machine

/-! ### Lanes -/

@[simp] theorem State.lane_setLane (s : State) (i : LaneId) (l : Lane) : (s.setLane i l).lane i = l := by cases i <;> rfl
theorem State.lane_setLane_ne (s : State) (i j : LaneId) (l : Lane) (h : j ≠ i) : (s.setLane i l).lane j = s.lane j := by
  cases i <;> cases j <;> first | rfl | exact absurd rfl h
@[simp] theorem State.pending_setLane (s : State) (i : LaneId) (l : Lane) : (s.setLane i l).pending = s.pending := by cases i <;> rfl
@[simp] theorem State.setLane_lane (s : State) (i : LaneId) : s.setLane i (s.lane i) = s := by cases i <;> rfl
@[simp] theorem State.lane_pending (s : State) (i : LaneId) (p : List Instr) : ({ s with pending := p } : State).lane i = s.lane i := by cases i <;> rfl
@[simp] theorem State.laneAt_pending (s : State) (a : At) (p : List Instr) : ({ s with pending := p } : State).laneAt a = s.laneAt a := by
  simp [State.laneAt]
@[simp] theorem State.lane_put (s : State) (a : At) (l : Lane) : (s.put a l).lane a.lane = l.wired a.lane := by simp [State.put]
@[simp] theorem State.pending_put (s : State) (a : At) (l : Lane) : (s.put a l).pending = s.pending := by simp [State.put]
@[simp] theorem State.pending_upd (s : State) (a : At) (f : Lane → Lane) : (s.upd a f).pending = s.pending := by simp [State.upd]
theorem State.lane_upd_ne (s : State) (a : At) (f : Lane → Lane) (j : LaneId) (h : j ≠ a.lane) : (s.upd a f).lane j = s.lane j :=
  s.lane_setLane_ne a.lane j _ h

theorem run_true (s : State) (a : At) (f : Lane → Lane) : run true s a f = .next (s.upd a f) := rfl
theorem run_false (s : State) (a : At) (f : Lane → Lane) : run false s a f = .fault .noSuchUnit := rfl
theorem run_ok {ok : Bool} (h : ok = true) (s : State) (a : At) (f : Lane → Lane) : run ok s a f = .next (s.upd a f) := by
  subst h; rfl

@[simp] theorem State.laneAt_now (s : State) (a : At) : (s.laneAt a).now = max (s.lane a.lane).now a.t := rfl

/-! ### Units by number -/

theorem getD_set_same {α : Type} (l : List α) (k : Nat) (x d : α) (h : k < l.length) : (l.set k x).getD k d = x := by
  simp [List.getD_eq_getElem?_getD, h]
theorem getD_set_ne {α : Type} (l : List α) (k j : Nat) (x d : α) (h : j ≠ k) : (l.set k x).getD j d = l.getD j d := by
  simp [List.getD_eq_getElem?_getD, Ne.symm h]

theorem Lane.hb_setHb (l : Lane) (k : Nat) (x : HalfBridge) (h : k < l.gd.hb.length) : (l.setHb k x).hb k = x := getD_set_same _ _ _ _ h
theorem Lane.hb_setHb_ne (l : Lane) (k j : Nat) (x : HalfBridge) (h : j ≠ k) : (l.setHb k x).hb j = l.hb j := getD_set_ne _ _ _ _ _ h
theorem Lane.gch_setGch (l : Lane) (k : Nat) (x : GateCh) (h : k < l.gd.ch.length) : (l.setGch k x).gch k = x := getD_set_same _ _ _ _ h
theorem Lane.tbase_setTb (l : Lane) (k : Nat) (x : TimeBase) (h : k < l.pwm.tb.length) : (l.setTb k x).tbase k = x := getD_set_same _ _ _ _ h
theorem Lane.pch_setPch (l : Lane) (k : Nat) (x : PwmCh) (h : k < l.pwm.ch.length) : (l.setPch k x).pch k = x := getD_set_same _ _ _ _ h
theorem Lane.pch_setPch_ne (l : Lane) (k j : Nat) (x : PwmCh) (h : j ≠ k) : (l.setPch k x).pch j = l.pch j := getD_set_ne _ _ _ _ _ h
theorem Lane.src_setSrc (l : Lane) (k : Nat) (x : TripSrc) (h : k < l.pwm.src.length) : (l.setSrc k x).src k = x := getD_set_same _ _ _ _ h
theorem Lane.src_setSrc_ne (l : Lane) (k j : Nat) (x : TripSrc) (h : j ≠ k) : (l.setSrc k x).src j = l.src j := getD_set_ne _ _ _ _ _ h
theorem Lane.motor_setMotor (l : Lane) (k : Nat) (x : MotSlot) (h : k < l.mot.slot.length) : (l.setMotor k x).motor k = x := getD_set_same _ _ _ _ h
theorem Lane.loop_setLoop (l : Lane) (k : Nat) (x : LoopSlot) (h : k < l.le.slot.length) : (l.setLoop k x).loop k = x := getD_set_same _ _ _ _ h
theorem Lane.gen_setGen (l : Lane) (k : Nat) (x : Gen) (h : k < l.mp.gen.length) : (l.setGen k x).gen k = x := getD_set_same _ _ _ _ h
theorem Lane.func_setFunc (l : Lane) (k : Nat) (x : Fn) (h : k < l.fn.fn.length) : (l.setFunc k x).func k = x := getD_set_same _ _ _ _ h

/-! ### Folds over units -/

/-- What every round of a fold keeps, the fold keeps. -/
theorem Lane.eachOf_keeps {α : Type} (p : Lane → α) (ks : List Nat) (f : Nat → Lane → Lane) (h : ∀ k l, p (f k l) = p l) (l : Lane) :
    p (l.eachOf ks f) = p l := by
  unfold Lane.eachOf
  induction ks generalizing l with
  | nil => rfl
  | cons k r ih => simp [ih, h]

theorem Lane.each_keeps {α : Type} (p : Lane → α) (n : Nat) (f : Nat → Lane → Lane) (h : ∀ k l, p (f k l) = p l) (l : Lane) :
    p (l.each n f) = p l := Lane.eachOf_keeps p (List.range n) f h l

end Sys2Proof.Machine
end

