-- ==== Sys2Proof/Laws/Serve.lean ====
section
/-! SUPPORT. What serving a host command does: nothing while the lane cannot take it, the status of the first failed check of R337, or the command's own rules and their answer. -/

namespace Sys2Proof.Machine

theorem Lane.serve_busy (l : Lane) (op : Nat) (m : Msg) (h : Lane → Lane × Reply) (b : l.take op m = none) : l.serve op m h = l := by
  simp [Lane.serve, b]

theorem Lane.serve_checked (l t : Lane) (op st : Nat) (m : Msg) (h : Lane → Lane × Reply) (b : l.take op m = some t) (z : t.aside op m = none) (g : t.gate op m = some st) :
    l.serve op m h = t.respond (m.key op) st [] := by
  simp [Lane.serve, Lane.execute, b, z, g]

theorem Lane.serve_aside (l t x : Lane) (op : Nat) (m : Msg) (h : Lane → Lane × Reply) (b : l.take op m = some t) (z : t.aside op m = some x) : l.serve op m h = x := by
  simp [Lane.serve, b, z]

/-- Only commands of Icbex and CAN are put aside. -/
theorem Lane.aside_wired (l : Lane) (op : Nat) (m : Msg) (w : m.tr = .spi ∨ m.tr = .sp) : l.aside op m = none := by
  rcases w with w | w <;> simp [Lane.aside, Lane.recall, w]

theorem Lane.ready_take {l : Lane} {op : Nat} {m : Msg} (h : l.ready op m = true) : ∃ t, l.take op m = some t ∧ t.aside op m = none ∧ t.gate op m = none := by
  unfold Lane.ready at h
  split at h
  · exact ⟨_, ‹_›, by simpa using h⟩
  · cases h

theorem Lane.serve_now (l x : Lane) (op st : Nat) (res : List Byte) (m : Msg) (h : Lane → Lane × Reply) (b : l.ready op m = true)
    (r : h (l.taken op m) = (x, .now st res)) : l.serve op m h = x.respond (m.key op) st res := by
  obtain ⟨t, ht, hz, hg⟩ := Lane.ready_take b
  simp only [Lane.taken, ht] at r
  simp [Lane.serve, Lane.execute, ht, hz, hg, r]

theorem Lane.serve_later (l x : Lane) (op : Nat) (m : Msg) (h : Lane → Lane × Reply) (b : l.ready op m = true)
    (r : h (l.taken op m) = (x, .later)) : l.serve op m h = { x with mb.deferred := x.mb.deferred ++ [m.key op] } := by
  obtain ⟨t, ht, hz, hg⟩ := Lane.ready_take b
  simp only [Lane.taken, ht] at r
  simp [Lane.serve, Lane.execute, ht, hz, hg, r]

/-- A host command whose own rules answer at once. -/
theorem answers_of {i : Instr} {s : State} {op st : Nat} {m : Msg} {res : List Byte} {P : Lane → Prop} {h : Lane → Lane × Reply} {x : Lane}
    (e : exec i s = run true s i.stamp (fun l => l.serve op m h)) (b : (s.laneAt i.stamp).ready op m = true)
    (r : h ((s.laneAt i.stamp).taken op m) = (x, .now st res)) (p : P x) : Answers i s op m st res P :=
  ⟨x, by rw [e, run_true, State.upd, Lane.serve_now _ _ _ _ _ _ _ b r], p⟩

/-- A host command whose own rules leave the response to a later step. -/
theorem defers_of {i : Instr} {s : State} {op : Nat} {m : Msg} {P : Lane → Prop} {h : Lane → Lane × Reply} {x : Lane}
    (e : exec i s = run true s i.stamp (fun l => l.serve op m h)) (b : (s.laneAt i.stamp).ready op m = true)
    (r : h ((s.laneAt i.stamp).taken op m) = (x, .later)) (p : P x) : Defers i s op m P :=
  ⟨x, by rw [e, run_true, State.upd, Lane.serve_later _ _ _ _ _ b r], p⟩

/-- A command that acts on its lane at once. -/
theorem next_of {i : Instr} {s : State} {ok : Bool} {f : Lane → Lane} {P : Lane → Prop} (e : exec i s = run ok s i.stamp f) (k : ok = true)
    (p : P ((f (s.laneAt i.stamp)).wired i.stamp.lane)) : Next i s P :=
  ⟨_, by rw [e, run_ok k]; rfl, p⟩

/-! ### What taking a command leaves as it was -/

theorem Lane.take_eq {l t : Lane} {op : Nat} {m : Msg} (h : l.take op m = some t) : t = { l with mb := t.mb } := by
  simp only [Lane.take, Lane.when] at h
  split at h
  · cases h
  · split at h
    · split at h
      · cases h; rw [Lane.irqSet_eq]; rfl
      · cases h; rfl
    · cases h

end Sys2Proof.Machine
end

