-- ==== Sys2Proof/Laws/Reports.lean ====
section
/-! SUPPORT. What counts as a report: the relation is reflexive and transitive, and every reporting operation meets it. -/

namespace Sys2Proof.Machine

theorem Reports.refl (l : Lane) : Reports l l := rfl

theorem Reports.trans {l m n : Lane} (h : Reports l m) (k : Reports m n) : Reports l n := by
  unfold Reports at *
  have e : (l.quiet m).quiet n = l.quiet n := rfl
  calc n = m.quiet n := k
    _ = (l.quiet m).quiet n := congrArg (fun x => Lane.quiet x n) h
    _ = l.quiet n := e

theorem reports_wired (l : Lane) (i : LaneId) : Reports l (l.wired i) := rfl
theorem reports_event (l : Lane) (c a : Nat) : Reports l (l.event c a) := by unfold Reports Lane.quiet; rw [Lane.event_eq]
theorem reports_eventU (l : Lane) (c : Nat) : Reports l (l.eventU c) := by unfold Reports Lane.quiet; rw [Lane.eventU_eq]
theorem reports_irqSet (l : Lane) (n : Nat) : Reports l (l.irqSet n) := by unfold Reports Lane.quiet; rw [Lane.irqSet_eq]
theorem reports_complete (l : Lane) (k : CmdKey) (st : Nat) : Reports l (l.complete k st) := by unfold Reports Lane.quiet; rw [Lane.complete_eq]
theorem reports_completeOpt (l : Lane) (k : Option CmdKey) (st : Nat) : Reports l (l.completeOpt k st) := by
  cases k
  · exact .refl l
  · exact reports_complete l _ st
theorem reports_noteV1 (l : Lane) (m : Msg) : Reports l (l.noteV1 m) := by unfold Reports Lane.quiet; rw [Lane.noteV1_eq]
theorem reports_mb (l : Lane) (x : Mb) : Reports l { l with mb := x } := rfl

theorem reports_take {l t : Lane} {op : Nat} {m : Msg} (h : l.take op m = some t) : Reports l t := by
  rw [Lane.take_eq h]; exact reports_mb l _

/-- Taking a command changes the mailbox alone, but for the event of the first version-1 command. -/
theorem reports_taken (l : Lane) (op : Nat) (m : Msg) : Reports l (l.taken op m) := by
  unfold Lane.taken; split
  · exact (reports_take ‹_›).trans (reports_noteV1 _ m)
  · exact .refl l

end Sys2Proof.Machine
end

