-- ==== Sys2Proof/Tests/Slice0.lean ====
section
/-! SUPPORT. Tests: ill-formed commands are refused, and for each statement a state and operands that meet all its hypotheses, clause by clause. -/

set_option Elab.async false

open Sys2Proof Sys2Proof.Machine

/-- An instant of lane A. -/
def at0 : At := { lane := .a, t := 1000000000 }

/-- Lane A in service: powered, firmware running, every opcode mask open, sessions open at level 2. -/
def up (st : LaneSt) : Lane :=
  { id := .a, st := st, pwr := { step := .done, aonOn := true, pstate := 0 }, mb := { ses := List.replicate 4 { level := 2 } },
    boot := { life := 2, pu := { lock := true, lcs := 2, icbex := 0xFFFF, hspi := 0xFFFF, can := 0xFFFF, sport := 0xFFFF } } }

/-- The module with one lane other than after reset. -/
def on (l : Lane) : State := { State.reset with a := l }

/-- A command of the host over SPI. -/
def msg (args : List Byte) : Msg := { tr := .spi, args := args }

/-- The state that a command answers. -/
def after (i : Instr) (s : State) : State :=
  match exec i s with
  | .next t => t
  | _ => s

/-- A frame with the MAC header, the tag and the check sequence that the lane expects: of the own channel, or of the tapped one on ports 2 and 3. -/
def framed (l : Lane) (port : Nat) (hdr payload : List Byte) : RxFrame :=
  let tapped := decide (2 ≤ port)
  let mac := l.macHdr tapped (byteAt hdr 4)
  let tag := l.frameTag tapped (byteAt hdr 5) 0 hdr payload
  { port := port, mac := mac, hdr := hdr, payload := payload, tag := tag, fcs := frameCheck mac hdr payload tag }

/-- A CAN frame with the tag that the lane expects. -/
def canned (l : Lane) (port idf : Nat) (head : List Byte) : CanRx :=
  { port := port, id := idf, data := head ++ beBytes 4 (l.canTag port (byteAt head 2) idf head).toNat }

/-- A signed configuration image of 256 bytes, without its zero bytes; the private key is 11. -/
def signed : List Host.Cell := [(0, 75), (1, 67), (2, 70), (3, 71), (9, 1), (256, 142), (257, 83), (258, 59), (259, 111), (260, 160), (261, 191), (262, 123), (263, 70), (264, 37), (265, 187), (266, 48), (267, 102), (268, 124), (269, 1), (270, 251), (271, 96), (272, 126), (273, 249), (274, 248), (275, 184), (276, 168), (277, 15), (278, 239), (279, 91), (280, 48), (281, 6), (282, 40), (283, 112), (284, 49), (285, 135), (286, 178), (287, 163), (288, 53), (289, 2), (290, 214), (291, 235), (292, 82), (293, 78), (294, 44), (295, 123), (296, 124), (297, 109), (298, 122), (299, 96), (300, 28), (301, 85), (302, 74), (303, 62), (304, 193), (305, 28), (306, 108), (307, 190), (308, 122), (309, 197), (310, 29), (311, 175), (312, 134), (313, 49), (314, 255), (315, 171), (316, 1), (317, 155), (318, 201), (319, 254)]

/-! ### Ill-formed commands are refused -/

theorem test_illFormed_knownOpcode : Instr.check (.unknownOpcode at0 0 { tr := .spi }) = some .knownOpcode := by decide

theorem test_illFormed_queue : Instr.check (.doorbellWrite at0 {} 64 0) = some .queue ∧
    Instr.check (.qheadWrite at0 {} 64 0) = some .queue := by decide

theorem test_illFormed_mailboxBytes : Instr.check (.spMbInWrite at0 [] true) = some .mailboxBytes := by decide

theorem test_illFormed_servicePointer : Instr.check (.servicePortWake at0 256 false) = some .servicePointer := by decide

theorem test_illFormed_canPort : Instr.check (.canFrameRx at0 { port := 2 }) = some .canPort ∧
    Instr.check (.canBusOff at0 2) = some .canPort ∧
    Instr.check (.canStatusSend at0 2) = some .canPort := by decide

theorem test_illFormed_transport : Instr.check (.reasmTimeout at0 .spi 0 0) = some .transport := by decide

theorem test_illFormed_timebase : Instr.check (.periodStart at0 { tb := 8 }) = some .timebase ∧
    Instr.check (.shadowLoad at0 8) = some .timebase ∧
    Instr.check (.currentSequence at0 8 []) = some .timebase := by decide

theorem test_illFormed_compare : Instr.check (.triggerFire at0 32) = some .compare := by decide

theorem test_illFormed_converter : Instr.check (.adcConversionEnd at0 4 0) = some .converter ∧
    Instr.check (.adcConversionEnd at0 0 4096) = some .converter := by decide

theorem test_illFormed_tripSource : Instr.check (.tripInputActive at0 13) = some .tripSource ∧
    Instr.check (.tripInputInactive at0 13) = some .tripSource := by decide

theorem test_illFormed_gateChannel : Instr.check (.gateEdgeMeasured at0 32 true 0 true) = some .gateChannel := by decide

theorem test_illFormed_halfBridge : Instr.check (.vdsFault at0 16 ⟨true, 9000, 0⟩) = some .halfBridge ∧
    Instr.check (.vdsAutoClear at0 16) = some .halfBridge ∧
    Instr.check (.bstUv at0 16) = some .halfBridge ∧
    Instr.check (.bstUvRecover at0 16) = some .halfBridge ∧
    Instr.check (.shootReq at0 16) = some .halfBridge ∧
    Instr.check (.gateDoubleDrive at0 16) = some .halfBridge ∧
    Instr.check (.directPulseEdge at0 16 true) = some .halfBridge ∧
    Instr.check (.directEnableChange at0 16 true) = some .halfBridge := by decide

theorem test_illFormed_drainInput : Instr.check (.busOv1 at0 4) = some .drainInput ∧
    Instr.check (.busOv1Clear at0 4) = some .drainInput ∧
    Instr.check (.busOv2 at0 4) = some .drainInput ∧
    Instr.check (.ov2Release at0 4) = some .drainInput := by decide

theorem test_illFormed_deltaSigma : Instr.check (.ovHard at0 4) = some .deltaSigma ∧
    Instr.check (.dsModFault at0 4) = some .deltaSigma := by decide

theorem test_illFormed_hallInput : Instr.check (.hallTransition at0 6 ⟨1, 0⟩) = some .hallInput ∧
    Instr.check (.hallIllegal at0 0 ⟨8, 0⟩) = some .hallInput ∧
    Instr.check (.hallSpeedTimeout at0 6) = some .hallInput := by decide

theorem test_illFormed_encoder : Instr.check (.encoderEdge at0 2 ⟨true, 0⟩ ⟨true, 0⟩) = some .encoder ∧
    Instr.check (.encZEdge at0 2) = some .encoder := by decide

theorem test_illFormed_positionPort : Instr.check (.ppFrameEnd at0 6 {}) = some .positionPort ∧
    Instr.check (.ppPresent at0 6) = some .positionPort ∧
    Instr.check (.ptFrameRelayed at0 6 {}) = some .positionPort ∧
    Instr.check (.ptLost at0 6) = some .positionPort := by decide

theorem test_illFormed_motorSlot : Instr.check (.posFrozen at0 8) = some .motorSlot ∧
    Instr.check (.flyingStartProbe at0 8) = some .motorSlot ∧
    Instr.check (.sourceBlendEnd at0 8) = some .motorSlot ∧
    Instr.check (.stepperStageUpdate at0 8) = some .motorSlot ∧
    Instr.check (.stepIdleTimeout at0 8) = some .motorSlot ∧
    Instr.check (.stepHoldTimeout at0 8) = some .motorSlot := by decide

theorem test_illFormed_loopSlot : Instr.check (.fallbackRampEnd at0 32) = some .loopSlot := by decide

theorem test_illFormed_generator : Instr.check (.profileTick at0 8) = some .generator := by decide

theorem test_illFormed_chopper : Instr.check (.chopperPrearmCheck at0 2) = some .chopper ∧
    Instr.check (.chopperDisarm at0 2) = some .chopper := by decide

theorem test_illFormed_function : Instr.check (.cmdLost at0 2) = some .function := by decide

theorem test_illFormed_cellSense : Instr.check (.sbTestStep at0 [true]) = some .cellSense := by decide

theorem test_illFormed_wheel : Instr.check (.slackQuietTimeout at0 4) = some .wheel ∧
    Instr.check (.brakeEstMismatch at0 4) = some .wheel := by decide

theorem test_illFormed_lockstepGroup : Instr.check (.lockstepMismatch at0 1 16) = some .lockstepGroup := by decide

theorem test_illFormed_netPort : Instr.check (.linkDown at0 2) = some .netPort ∧
    Instr.check (.linkUp at0 2) = some .netPort ∧
    Instr.check (.cicadaRecognised at0 2) = some .netPort ∧
    Instr.check (.linkActivityWake at0 2) = some .netPort := by decide

theorem test_illFormed_driveLink : Instr.check (.dlFrameSend at0 2) = some .driveLink ∧
    Instr.check (.dlFrameRx at0 2 []) = some .driveLink ∧
    Instr.check (.dlLossTimeout at0 2) = some .driveLink := by decide

theorem test_illFormed_wakeSource : Instr.check (.wakeEvent at0 1) = some .wakeSource ∧
    Instr.check (.wakeEvent at0 7) = some .wakeSource := by decide

theorem test_illFormed_regulator : Instr.check (.regulatorTimeout at0 4) = some .regulator := by decide

theorem test_illFormed_sramAddress : Instr.check (.sramAccess at0 { addr := 0x400000 }) = some .sramAddress ∧
    Instr.check (.sramAccess at0 { ecc := 4 }) = some .sramAddress := by decide

theorem test_illFormed_sramRow : Instr.check (.weevilPassEnd at0 [8192] true 0 true) = some .sramRow := by decide

theorem test_illFormed_mramAddress : Instr.check (.mramWriteEnd at0 0x800000 [1] true) = some .mramAddress := by decide

theorem test_illFormed_otpArea : Instr.check (.tapOtpProgram at0 8 []) = some .otpArea := by decide

theorem test_illFormed_stops : exec (.linkDown at0 2) State.reset = .fault .noSuchUnit := rfl

theorem test_wellFormed_runs : (Instr.linkDown at0 1).wf = true := by decide

/-! ### Words and the queue -/

theorem test_noWordSpellsACommand : decodeTableWord 8 0x32 = none ∧ State.reset.withFetchWord 8 0x32 = State.reset := by decide

theorem test_stepTakesFront : step { State.reset with pending := [.linkDown at0 2, .stageTimeout at0] } = .fault .noSuchUnit := rfl

/-! ### Worked examples -/

/-- R340: the check value of the CRC-8. -/
theorem test_crc8 : crc8 [0x31, 0x32, 0x33, 0x34, 0x35, 0x36, 0x37, 0x38, 0x39] = 0xDF := by decide +kernel

/-- FIPS 180-4, appendix: the digest of "abc" begins BA 78 16 BF. -/
theorem test_sha256 : (sha256 [0x61, 0x62, 0x63]).take 4 = [0xBA, 0x78, 0x16, 0xBF] := by decide +kernel

/-- RFC 4493, example 1: the tag of the empty message. -/
theorem test_cmac :
    (cmac [0x2B, 0x7E, 0x15, 0x16, 0x28, 0xAE, 0xD2, 0xA6, 0xAB, 0xF7, 0x15, 0x88, 0x09, 0xCF, 0x4F, 0x3C] []).take 4 = [0xBB, 0x1D, 0x69, 0x29] := by
  decide +kernel

/-- Twice the base point of P-256. -/
theorem test_ecDbl : ecDbl (.ofXY ecG) = ecAdd (.ofXY ecG) (.ofXY ecG) := by decide +kernel

/-! ### Hypotheses that a state meets -/

theorem wit_StepKeepsPlaces : State.reset.Inv ∧ step State.reset = .next State.reset :=
  ⟨fun i => by cases i <;> exact ⟨rfl, rfl⟩, rfl⟩

theorem wit_StepKeepsPlaces_command :
    let s : State := { State.reset with pending := [.linkDown at0 1] }
    s.Inv ∧ step s = .next (after (.linkDown at0 1) State.reset) :=
  ⟨fun i => by cases i <;> exact ⟨rfl, rfl⟩, rfl⟩

theorem wit_StepKeepsMemories :
    let s : State := { State.reset with pending := [.linkDown at0 1] }
    (∀ i, (s.lane i).memories) ∧ step s = .next (after (.linkDown at0 1) State.reset) :=
  ⟨fun i => by cases i <;> exact ⟨rfl, rfl, rfl, rfl⟩, rfl⟩

theorem wit_OtpBitsStay :
    let s : State := { on { up .shadow with boot.otp := [(0x40, 0xA5)] } with pending := [.linkDown at0 1] }
    (s.lane .a).memories ∧ step s = .next (after (.linkDown at0 1) { s with pending := [] }) :=
  ⟨⟨rfl, rfl, rfl, rfl⟩, rfl⟩

theorem wit_LanesAreIndependent :
    let i : Instr := .linkDown at0 1
    let s := State.reset
    let s' := { State.reset with b := up .shadow }
    (∀ a k, i ≠ .dlFrameSend a k) ∧ (∀ a, i ≠ .moduleStartShadow a) ∧ (∀ a p b, i ≠ .resyncAckRx a p b) ∧
    s.lane i.stamp.lane = s'.lane i.stamp.lane ∧ exec i s = .next (after i s) ∧ exec i s' = .next (after i s') :=
  ⟨nofun, nofun, nofun, rfl, rfl, rfl⟩

theorem wit_StepTakesFront :
  (let s : State := on (up .off)
   s.pending = []) :=
  by decide +kernel

theorem wit_WellFormedCompletes :
  (let i : Instr := .linkDown at0 1
   i.wf = true) ∧
  (let i : Instr := .linkDown at0 2
   i.wf = false) :=
  ⟨by decide +kernel, by decide +kernel⟩

theorem wit_OtherLanesUntouched :
  (let i : Instr := .linkDown at0 1
   let s : State := State.reset
   let t : State := after (.linkDown at0 1) State.reset
   exec i s = .next t) ∧
  (let i : Instr := .linkDown at0 1
   let s : State := State.reset
   let t : State := after (.linkDown at0 1) State.reset
   let j := .b
   exec i s = .next t ∧ j ≠ i.stamp.lane) ∧
  (let i : Instr := .linkDown at0 1
   let s : State := State.reset
   let t : State := after (.linkDown at0 1) State.reset
   exec i s = .next t) :=
  ⟨rfl, by refine ⟨rfl, ?_⟩; decide, rfl⟩

theorem wit_ByteMemories :
  (let m : List Host.Cell := [(3, 7), (9, 1)]
   cellsOk m = true) ∧
  (let m : List Host.Cell := [(3, 7), (9, 1)]
   cellsOk m = true) ∧
  (let m : List Host.Cell := [(3, 7)]
   let n : List Host.Cell := [(3, 7)]
   cellsOk m = true ∧ cellsOk n = true ∧ (∀ a, cellRead m a = cellRead n a)) :=
  ⟨by decide +kernel, by decide +kernel, ⟨by decide, by decide, fun _ => rfl⟩⟩

theorem wit_AdaptiveCode :
  (let s : State := on ({ up .shadow with sns.latch := List.replicate 49 4095, params := [⟨0x2100, 31, [1]⟩] })
   let a : At := at0
   let ch : Nat := 31
   let l := s.laneAt a
   ch < 32 ∧ l.p 0x2100 ch = 1 ∧ l.frozenCh ch = false ∧ l.drnLow (ch / 2) = false) :=
  by decide +kernel

theorem wit_HalfBridgeLatches :
  (let s : State := on ({ up .shadow with params := [⟨0x2130, 15, [1]⟩], gd.hb := (List.replicate 16 {}).set 15 { den := true, dpul := true, dpulOk := true } })
   let a : At := at0
   let hb : Nat := 15
   let v : VdsOver := ⟨true, 9000, 900000000⟩
   let l := s.laneAt a
   let h := l.hb hb
   hb < 16 ∧ h.vds = .clear ∧ h.doubleDrive = false ∧ l.vdsHolds hb v = true) ∧
  (let s : State := on ({ up .shadow with gd.hb := (List.replicate 16 {}).set 15 { vds := .latched 996000000 } })
   let a : At := at0
   let hb : Nat := 15
   let t : Nat := 996000000
   let l := s.laneAt a
   let h := l.hb hb
   hb < 16 ∧ h.vds = .latched t ∧ t + ms 10 ≤ l.now ∧ l.fwRuns = true) ∧
  (let s : State := on (up .shadow)
   let a : At := at0
   let hb : Nat := 15
   let l := s.laneAt a
   let h := l.hb hb
   hb < 16 ∧ h.doubleDrive = false) ∧
  (let hb : Nat := 15
   hb < 16) :=
  ⟨by decide +kernel, by decide +kernel, by decide +kernel, by decide +kernel⟩

theorem wit_GateSuppliesAndDirectMode :
  (let s : State := on ({ up .shadow with gd.vgdUv := true })
   let a : At := at0
   let l := s.laneAt a
   l.vgdBad = true) ∧
  (let s : State := on (up .shadow)
   let a : At := at0
   let hb : Nat := 15
   let l := s.laneAt a
   let h := l.hb hb
   hb < 16 ∧ h.bstUv = false) ∧
  (let s : State := on (up .shadow)
   let a : At := at0
   let hb : Nat := 15
   let l := s.laneAt a
   let h := l.hb hb
   hb < 16 ∧ h.refreshing = false ∧ (h.waitBst = true → l.waitFree hb = [hb])) ∧
  (let s : State := on ({ up .shadow with params := [⟨0x2130, 15, [1]⟩] })
   let a : At := at0
   let hb : Nat := 15
   let level : Bool := true
   let l := s.laneAt a
   let h := l.hb hb
   hb < 16 ∧ h.dpul ≠ level) ∧
  (let s : State := on ({ up .shadow with params := [⟨0x2130, 15, [1]⟩] })
   let a : At := at0
   let hb : Nat := 15
   let level : Bool := true
   let l := s.laneAt a
   let g := l.dirHb hb l.now
   hb < 16 ∧ g.den ≠ level) ∧
  (let h : HalfBridge := { dpul := true, dpulAt := 100 }
   let t : Nat := 107
   h.dpul ≠ h.dpulOk ∧ t < h.dpulAt + 8) ∧
  (let h : HalfBridge := { dpul := true, dpulAt := 100 }
   let t : Nat := 108
   h.dpul ≠ h.dpulOk ∧ h.dpulAt + 8 ≤ t) ∧
  (let l : Lane := { up .shadow with gd.hb := (List.replicate 16 {}).set 15 { den := true, dpul := true, dpulOk := true }, params := [⟨0x2130, 15, [1]⟩, ⟨0x2131, 15, [20]⟩] }
   let hb : Nat := 15
   let high : Bool := true
   let g := l.dirHb hb l.now
   l.p 0x2130 hb = 1 ∧ mayDrive l.st = true ∧ l.hbHeld hb = false ∧ l.extCh hb = false ∧ (l.pch hb).tripped = false ∧ l.pwm.frozen = false ∧ g.interlock = .clear ∧ l.busSink hb = false ∧ l.lowOnly hb = false ∧ (high = true → g.bstUv = false ∧ g.bstHold = false ∧ g.waitBst = false)) :=
  ⟨by decide +kernel, by decide +kernel, by decide +kernel, by decide +kernel, by decide +kernel,
   ⟨by decide +kernel, by decide +kernel, by decide +kernel⟩⟩

theorem wit_GateCommands :
  (let s : State := on (up .shadow)
   let a : At := at0
   let m : Msg := msg [0, 128, 0, 0]
   let l := (s.laneAt a).taken 0x36 m
   let named := (List.range 16).filter (bit (m.u16 0))
   (s.laneAt a).ready 0x36 m = true ∧ l.gd.test = none ∧ l.inSection 7 = false ∧ l.pwr.entry = none ∧ named.any (fun k => l.hbTested k || l.inEnabledSlot k || !l.gatesOff k) = false) ∧
  (let s : State := on ({ up .shadow with gd.test := some ⟨0x8001, 0⟩ })
   let a : At := at0
   let l := s.laneAt a
   l.gd.test.isSome = true ∧ l.gdTestDue = true) ∧
  (let s : State := on (up .shadow)
   let a : At := at0
   let m : Msg := msg [0, 128, 0, 0]
   let l := (s.laneAt a).taken 0x34 m
   let named := (List.range 16).filter (bit (m.u16 0))
   (s.laneAt a).ready 0x34 m = true ∧ named.any l.hbTested = false ∧ named.any l.inEnabledSlot = false) ∧
  (let s : State := on (up .shadow)
   let a : At := at0
   let m : Msg := msg [31, 63, 16, 0]
   let l := (s.laneAt a).taken 0x35 m
   (s.laneAt a).ready 0x35 m = true ∧ l.hbTested (m.u8 0 / 2) = false ∧ m.u8 0 < 32 ∧ l.p 0x2104 (m.u8 0) ≤ m.u8 1 ∧ m.u8 1 ≤ l.p 0x2105 (m.u8 0) ∧ l.p 0x2106 (m.u8 0) ≤ m.u8 2 ∧ m.u8 2 ≤ l.p 0x2107 (m.u8 0)) ∧
  (let s : State := on (up .shadow)
   let a : At := at0
   let pass : List Byte := List.replicate 16 0xFF
   let l := s.laneAt a
   l.st.driving = true ∧ (∀ k < 16, l.inEnabledSlot k = true ∨ pass.getD k 0 = 0xFF)) :=
  ⟨by decide +kernel, by decide +kernel, by decide +kernel, by decide +kernel, by decide +kernel⟩

theorem wit_PeriodBoundaries :
  (let s : State := on (up .shadow)
   let a : At := at0
   let p : Period := { tb := 7, bstLow := 0xFFFF }
   let l := s.laneAt a
   p.tb < 8 ∧ l.pwm.frozen = false) ∧
  (let s : State := on ({ up .shadow with pwm.tb := (List.replicate 8 {}).set 7 { ready := true, readyAt := 999999920 } })
   let a : At := at0
   let tb : Nat := 7
   let l := s.laneAt a
   tb < 8 ∧ l.pwm.frozen = false ∧ (l.tbase tb).ready = true ∧ (l.tbase tb).readyAt + 80 ≤ l.now) ∧
  (let s : State := on ({ up .shadow with boot.pu.debugEn := true })
   let a : At := at0
   let l := s.laneAt a
   l.boot.pu.debugEn = true ∧ l.powered = true ∧ l.pwm.halted = false ∧ l.bist.run = none ∧ l.p 0x3150 = 0) ∧
  (let s : State := on ({ up .shadow with pwm.halted := true, pwm.frozen := true })
   let a : At := at0
   let l := s.laneAt a
   l.pwm.halted = true ∧ l.pwm.frozen = true ∧ l.pwm.force = false ∧ l.net.st ≠ .synced) :=
  ⟨by decide +kernel, by decide +kernel, by decide +kernel, by decide +kernel⟩

theorem wit_TriggerAndCalibration :
  (let s : State := on ({ up .shadow with pwm.cmp := (List.replicate 32 {}).set 31 { dest := 4 }, params := [⟨0x4110, 3, [1, 2]⟩] })
   let a : At := at0
   let n : Nat := 31
   let d : Nat := 3
   let l := s.laneAt a
   l.pwm.frozen = false ∧ n < 32 ∧ (l.pwm.cmp.getD n {}).dest = d + 1 ∧ d < 4 ∧ l.pvals 0x4110 d ≠ [] ∧ (l.adc d).firedAt ≠ some l.now ∧ (l.adc d).left = []) ∧
  (let s : State := on (up .shadow)
   let a : At := at0
   let n : Nat := 90
   let l := s.laneAt a
   l.pwm.frozen = false ∧ 48 ≤ n ∧ n ≤ 90) :=
  ⟨by decide +kernel, by decide +kernel⟩

theorem wit_SafeLevels :
  (let l : Lane := { up .shadow with pwm.src := (List.replicate 14 {}).set 13 { st := .active } }
   let ch : Nat := 15
   let k : Nat := 1
   k < 2 ∧ (∃ n < 14, (l.src n).st ≠ .armed ∧ l.covers n ch = true)) :=
  by decide +kernel

theorem wit_Trips :
  (let s : State := on (up .shadow)
   let a : At := at0
   let n : Nat := 12
   let l := s.laneAt a
   let x := l.src n
   n < 13 ∧ x.st = .armed ∧ x.input = false ∧ l.bist.run = none ∧ l.gd.test = none) ∧
  (let s : State := on ({ up .shadow with pwm.src := (List.replicate 14 {}).set 12 { st := .active } })
   let a : At := at0
   let n : Nat := 12
   let l := s.laneAt a
   let x := l.src n
   n < 13 ∧ x.st = .active) ∧
  (let s : State := on (up .shadow)
   let a : At := at0
   let m : Msg := msg [255, 31, 0, 0]
   let l := (s.laneAt a).taken 0x30 m
   let named := (List.range 14).filter (bit (m.u16 0))
   (s.laneAt a).ready 0x30 m = true ∧ m.u16 0 < 2 ^ 13 ∧ l.inSection 9 = false ∧ named.any (fun n => (l.src n).st == .active) = false) ∧
  (let s : State := on (up .shadow)
   let a : At := at0
   let m : Msg := msg [1, 0, 0, 0]
   let l := (s.laneAt a).taken 0x31 m
   (s.laneAt a).ready 0x31 m = true ∧ l.inSection 9 = false ∧ l.bist.run = none ∧ l.gd.test = none ∧ m.u8 0 = 1 ∧ (l.src 12).st = .armed ∧ (l.src 12).input = false ∧ l.pwm.src.length = 14) ∧
  (let s : State := on (up .shadow)
   let a : At := at0
   let m : Msg := msg []
   (s.laneAt a).ready 0x32 m = true) :=
  ⟨by decide +kernel, by decide +kernel, by decide +kernel, by decide +kernel, by decide +kernel⟩

theorem wit_Conversions :
  (let s : State := on ({ up .shadow with sns.adc := (List.replicate 4 {}).set 3 { left := [48] } })
   let a : At := at0
   let k : Nat := 3
   let code : Nat := 4095
   let src : Nat := 48
   let rest : List Nat := []
   let l := s.laneAt a
   let c := l.adc k
   k < 4 ∧ code < 4096 ∧ c.left = src :: rest) ∧
  (let s : State := on ({ up .shadow with params := [⟨0x4133, 3, [0x42C80000]⟩] })
   let a : At := at0
   let k : Nat := 3
   let l := s.laneAt a
   k < 4 ∧ l.p 0x4133 k ≠ 0 ∧ l.bist.run = none ∧ l.gd.test = none ∧ (l.src (8 + k)).st = .armed ∧ (l.src (8 + k)).input = false) ∧
  (let s : State := on (up .shadow)
   let a : At := at0
   let k : Nat := 3
   let l := s.laneAt a
   let d := l.dsIn k
   k < 4 ∧ d.modFault = false) ∧
  (let s : State := on ({ up .shadow with sns.hotSince := some 999600000 })
   let a : At := at0
   let t : Nat := 999600000
   let l := s.laneAt a
   l.sns.hotSince = some t ∧ t + ms 1 ≤ l.now ∧ l.st ≠ .off ∧ l.st ≠ .waking ∧ l.st ≠ .save ∧ l.st ≠ .failSilent) ∧
  (let s : State := on ({ up .shadow with sns.disagree := some 960000000 })
   let a : At := at0
   let t : Nat := 960000000
   let l := s.laneAt a
   l.sns.disagree = some t ∧ t + ms 100 ≤ l.now ∧ l.validTemps = [0, 1, 2]) :=
  ⟨by decide +kernel, by decide +kernel, by decide +kernel, by decide +kernel, by decide +kernel⟩

theorem wit_ActuatorBus :
  (let s : State := on ({ up .shadow with params := [⟨0x4123, 0, [15]⟩] })
   let a : At := at0
   let d : Nat := 3
   let l := s.laneAt a
   d < 4 ∧ bit (l.p 0x4123) d = true ∧ (l.drn d).ov1 = false) ∧
  (let s : State := on ({ up .shadow with sns.drn := [{}, {}, {}, { ov1 := true }] })
   let a : At := at0
   let d : Nat := 3
   let l := s.laneAt a
   d < 4 ∧ (l.drn d).ov1 = true) ∧
  (let s : State := on ({ up .shadow with params := [⟨0x4123, 0, [15]⟩], mot.slot := (List.replicate 8 {}).set 7 { cfg := { kind := .threePhase, hbs := [13, 14, 15] } } })
   let a : At := at0
   let d : Nat := 3
   let l := s.laneAt a
   d < 4 ∧ bit (l.p 0x4123) d = true ∧ l.fn.ov2On = false) ∧
  (let s : State := on ({ up .shadow with fn.ov2On := true, sns.drn := (List.replicate 4 {}).set 3 { ov2At := 1000000000 } })
   let a : At := at0
   let d : Nat := 3
   let l := s.laneAt a
   d < 4 ∧ l.fn.ov2On = true ∧ l.now < (l.drn d).ov2At + ms (l.p 0x9150)) ∧
  (let s : State := on ({ up .shadow with sns.drn := [{}, {}, {}, { ov2 := true }], fn.ov2On := true })
   let a : At := at0
   let d : Nat := 3
   let l := s.laneAt a
   d < 4 ∧ l.fn.ov2On = true ∧ (l.drn d).ov2At + ms (l.p 0x9150) ≤ l.now ∧ (∀ i < 4, i ≠ d → (l.drn i).ov2 = false) ∧ d < l.sns.drn.length) :=
  ⟨by decide +kernel, by decide +kernel, by decide +kernel, by decide +kernel, by decide +kernel⟩

theorem wit_HallsAndEncoders :
  (let s : State := on ({ up .shadow with pos.hall := (List.replicate 6 {}).set 5 { sector := 5, legal := true } })
   let a : At := at0
   let g : Nat := 5
   let x : Nat := 0
   let e : HallEdge := ⟨1, 999990000⟩
   let l := s.laneAt a
   let h := l.hall g
   g < 6 ∧ e.code < 8 ∧ hallSector e.code = some x ∧ l.stood e.since (l.p 0x5100 g) = true ∧ h.legal = true ∧ h.sector < 6 ∧ (x = (h.sector + 1) % 6 ∨ x = (h.sector + 5) % 6)) ∧
  (let s : State := on ({ up .shadow with params := [⟨0x5100, 5, [5]⟩] })
   let a : At := at0
   let g : Nat := 5
   let e : HallEdge := ⟨5, 1000000000⟩
   let l := s.laneAt a
   g < 6 ∧ e.code < 8 ∧ l.stood e.since (l.p 0x5100 g) = false) ∧
  (let s : State := on (up .shadow)
   let a : At := at0
   let g : Nat := 5
   let e : HallEdge := ⟨7, 990000000⟩
   let l := s.laneAt a
   g < 6 ∧ e.code < 8 ∧ hallSector e.code = none ∧ l.stood e.since (l.p 0x5100 g + 1000 * l.p 0x5103) = true) ∧
  (let s : State := on ({ up .shadow with pos.hall := (List.replicate 6 {}).set 5 { lastT := some 960000000 } })
   let a : At := at0
   let g : Nat := 5
   let e : HallEdge := ⟨0, 0⟩
   let l := s.laneAt a
   let h := l.hall g
   let t := 960000000
   g < 6 ∧ e.code < 8 ∧ h.lastT = some t ∧ t + ms 100 ≤ l.now) ∧
  (let s : State := on ({ up .shadow with params := [⟨0x5111, 1, [5]⟩] })
   let a : At := at0
   let k : Nat := 1
   let x : PinLvl := ⟨true, 1000000000⟩
   let y : PinLvl := ⟨false, 0⟩
   let l := s.laneAt a
   let e := l.enc k
   let u := if l.stood x.since (l.p 0x5111 k) then x.lvl else e.a
   let v := if l.stood y.since (l.p 0x5111 k) then y.lvl else e.b
   let d := (quadPhase u v + 4 - quadPhase e.a e.b) % 4
   k < 2 ∧ d = 0) ∧
  (let s : State := on (up .shadow)
   let a : At := at0
   let k : Nat := 1
   let x : PinLvl := ⟨true, 999990000⟩
   let y : PinLvl := ⟨false, 0⟩
   let l := s.laneAt a
   let e := l.enc k
   let u := if l.stood x.since (l.p 0x5111 k) then x.lvl else e.a
   let v := if l.stood y.since (l.p 0x5111 k) then y.lvl else e.b
   let d := (quadPhase u v + 4 - quadPhase e.a e.b) % 4
   k < 2 ∧ (d = 1 ∨ d = 3)) ∧
  (let s : State := on ({ up .shadow with pos.enc := [{}, { zFirst := true }], params := [⟨0x5112, 1, [2]⟩] })
   let a : At := at0
   let k : Nat := 1
   let l := s.laneAt a
   let e := l.enc k
   k < 2 ∧ l.p 0x5112 k = 2 ∧ e.zFirst = true) :=
  ⟨by decide +kernel, by decide +kernel, by decide +kernel, by decide +kernel, by decide +kernel,
   ⟨by decide +kernel, by decide +kernel⟩⟩

theorem wit_SerialPositions :
  (let s : State := on ({ up .shadow with pos.pp := (List.replicate 6 {}).set 5 { busy := true }, params := [⟨0x5120, 5, [3]⟩] })
   let a : At := at0
   let k : Nat := 5
   let l := s.laneAt a
   let p := l.pp k
   let mode := l.p 0x5120 k
   k < 6 ∧ 0 < mode ∧ mode < 4 ∧ p.busy = true) ∧
  (let s : State := on ({ up .shadow with pos.pp := (List.replicate 6 {}).set 5 { jobs := [{ trigAt := 999900000, res := some {}, doneAt := 999900400 }] }, params := [⟨0x5120, 5, [3]⟩] })
   let a : At := at0
   let k : Nat := 5
   let x : PosJob := { trigAt := 999900000, res := some {}, doneAt := 999900400 }
   let rest : List PosJob := []
   let l := s.laneAt a
   let p := l.pp k
   let mode := l.p 0x5120 k
   let due := x.trigAt + us (l.p 0x5126 k)
   k < 6 ∧ 0 < mode ∧ mode < 4 ∧ p.jobs = x :: rest ∧ due ≤ l.now) ∧
  (let s : State := on ({ up .shadow with pos.pp := (List.replicate 6 {}).set 5 {  }, params := [⟨0x5120, 5, [4]⟩] })
   let a : At := at0
   let k : Nat := 5
   let f : PosFrame := { bits := List.replicate ((up .shadow).ppBits 5) true ++ [false], first := 999990000 }
   let l := s.laneAt a
   let q := l.ptRead k f
   let j := l.ppJudge k q f.first
   k < 6 ∧ 4 ≤ l.p 0x5120 k ∧ relays l.st = true ∧ (l.p 0x5120 k = 6 → f.synced = true) ∧ j.1 = false ∧ q.pos.isSome = true) ∧
  (let s : State := on ({ up .shadow with pos.pp := (List.replicate 6 {}).set 5 { ptAt := 999880000 }, params := [⟨0x5120, 5, [6]⟩] })
   let a : At := at0
   let k : Nat := 5
   let l := s.laneAt a
   let p := l.pp k
   k < 6 ∧ 4 ≤ l.p 0x5120 k ∧ p.lost = false ∧ p.ptAt + us (3 * l.p 0x5129 k) ≤ l.now) ∧
  (let k : Nat := 7
   k < 8) :=
  ⟨by decide +kernel, by decide +kernel, by decide +kernel, by decide +kernel, by decide +kernel⟩

theorem wit_MotorSlots :
  (let s : State := on ({ up .shadow with mot.slot := (List.replicate 8 {}).set 7 { cfg := { kind := .hBridge, hbs := [14, 15] } } })
   let a : At := at0
   let m : Msg := msg [7, 1, 0, 0]
   let k := m.u8 0
   let l := (s.laneAt a).taken 0x20 m
   let x := l.motor k
   (s.laneAt a).ready 0x20 m = true ∧ k < 8 ∧ m.u8 1 = 1 ∧ (x.cfg.integrated && x.cfg.hbs.any l.hbTested) = false ∧ l.entering = false ∧ x.cfg.kind ≠ .none ∧ l.motOk k = true ∧ (l.p 0x3114 (l.slotTb k) ≠ 2 ∨ l.rawOk (l.slotTb k) = true) ∧ x.enabled = false) ∧
  (let s : State := on ({ up .shadow with mot.slot := (List.replicate 8 {}).set 7 { cfg := { kind := .hBridge, hbs := [14, 15] }, enabled := true } })
   let a : At := at0
   let m : Msg := msg [7, 0, 0, 0]
   let k := m.u8 0
   let l := (s.laneAt a).taken 0x20 m
   let x := l.motor k
   (s.laneAt a).ready 0x20 m = true ∧ k < 8 ∧ m.u8 1 = 0 ∧ x.enabled = true) ∧
  (let s : State := on (up .shadow)
   let a : At := at0
   let m : Msg := msg [7, 0, 0, 0]
   let k := m.u8 0
   (s.laneAt a).ready 0x21 m = true ∧ k < 8) ∧
  (let s : State := on (up .shadow)
   let a : At := at0
   let m : Msg := msg ([4, 0, 0, 0] ++ List.replicate 512 0)
   let k := m.u8 0
   let l := (s.laneAt a).taken 0x22 m
   let t := l.table (k - 1)
   (s.laneAt a).ready 0x22 m = true ∧ 1 ≤ k ∧ k ≤ 4 ∧ l.tabInUse k = false ∧ m.u8 1 < 15 ∧ (m.u8 1 = 0 ∨ m.u8 1 = t.nextBlk)) ∧
  (let s : State := on ({ up .shadow with mot.slot := (List.replicate 8 {}).set 7 { cfg := { kind := .threePhase, hbs := [13, 14, 15] }, enabled := true } })
   let a : At := at0
   let m : Msg := msg [7, 5, 0, 0]
   let k := m.u8 0
   let l := (s.laneAt a).taken 0x23 m
   let x := l.motor k
   (s.laneAt a).ready 0x23 m = true ∧ k < 8 ∧ x.enabled = true ∧ x.blend = none ∧ x.cfg.kind = .threePhase ∧ l.angleFits k (m.u8 1) (m.u8 2) = true) :=
  ⟨by decide +kernel, by decide +kernel, by decide +kernel, by decide +kernel, by decide +kernel⟩

theorem wit_LoopEngine :
  (let s : State := on ({ up .shadow with le.slot := (List.replicate 32 {}).set 31 { st := .closed }, params := [⟨0x7100, 31, [1]⟩] })
   let a : At := at0
   let m : Msg := msg [31, 1, 0, 0]
   let j := m.u8 0
   let l := (s.laneAt a).taken 0x40 m
   (s.laneAt a).ready 0x40 m = true ∧ l.loopOk j = true ∧ l.loopOff j = false ∧ m.u8 1 ≤ 1) ∧
  (let s : State := on ({ up .shadow with le.slot := (List.replicate 32 {}).set 31 { st := .open_ }, mot.slot := (List.replicate 8 {}).set 7 { angleSrc := 5 }, params := [⟨0x7100, 31, [1]⟩, ⟨0x7101, 31, [7]⟩] })
   let a : At := at0
   let m : Msg := msg [31, 0, 0, 0]
   let j := m.u8 0
   let l := (s.laneAt a).taken 0x41 m
   (s.laneAt a).ready 0x41 m = true ∧ l.loopOk j = true ∧ (l.loop j).st = .open_ ∧ l.srcLost j = false) ∧
  (let s : State := on ({ up .shadow with le.slot := (List.replicate 32 {}).set 31 { st := .closed }, params := [⟨0x7100, 31, [1]⟩] })
   let a : At := at0
   let m : Msg := msg ([31, 0, 0, 0] ++ List.replicate 20 0)
   let j := m.u8 0
   let l := (s.laneAt a).taken 0x42 m
   let r := l.releaseOf [0x7140] j
   (s.laneAt a).ready 0x42 m = true ∧ l.loopOk j = true ∧ (l.loop j).st = .closed ∧ r.injOk j m = true) ∧
  (let s : State := on ({ up .shadow with le.slot := (List.replicate 32 {}).set 31 { st := .open_ }, params := [⟨0x7100, 31, [1]⟩] })
   let a : At := at0
   let m : Msg := msg [31, 15, 0, 0, 12, 12, 12, 12, 1, 0, 0, 0]
   let j := m.u8 0
   let l := (s.laneAt a).taken 0x43 m
   (s.laneAt a).ready 0x43 m = true ∧ l.loopOk j = true ∧ l.loopOff j = false ∧ l.cmpQueue (m.u8 1) = false ∧ 12 ≤ m.u8 1 ∧ m.u8 1 ≤ 15 ∧ (∀ i < 4, m.u8 (4 + i) ≤ 12)) ∧
  (let s : State := on ({ up .shadow with le.slot := (List.replicate 32 {}).set 31 { st := .open_ }, params := [⟨0x7100, 31, [1]⟩] })
   let a : At := at0
   let m : Msg := msg [31, 64, 0, 0]
   let j := m.u8 0
   let l := (s.laneAt a).taken 0x44 m
   (s.laneAt a).ready 0x44 m = true ∧ l.loopOk j = true ∧ l.loopOff j = false ∧ (l.loop j).st ≠ .fallback ∧ l.upOk j (m.u8 1) = true) ∧
  (let s : State := on ({ up .shadow with le.slot := (List.replicate 32 {}).set 31 { cap := some { queue := 12, decim := 1, chans := [], left := 0, endless := false, skip := 0, dropped := 0, told := false } }, params := [⟨0x7100, 31, [1]⟩] })
   let a : At := at0
   let m : Msg := msg [31, 0, 0, 0]
   let j := m.u8 0
   let l := (s.laneAt a).taken 0x45 m
   let c := { queue := 12, decim := 1, chans := [], left := 0, endless := false, skip := 0, dropped := 0, told := false }
   (s.laneAt a).ready 0x45 m = true ∧ j < 32 ∧ (l.loop j).cap = some c) ∧
  (let s : State := on ({ up .shadow with params := [⟨0x7100, 31, [1]⟩, ⟨0x7102, 31, [7]⟩] })
   let a : At := at0
   let tb : Nat := 7
   let j : Nat := 0
   let l := s.laneAt a
   let js := (l.seqSlots tb).filter (fun j => l.p 0x7100 j == 1)
   tb < 8 ∧ l.pwm.halted = false ∧ mayDrive l.st = true ∧ js ≠ []) ∧
  (let s : State := on ({ up .shadow with le.slot := (List.replicate 32 {}).set 31 { st := .fallback, fbAt := 992000000 }, params := [⟨0x7100, 31, [1]⟩] })
   let a : At := at0
   let j : Nat := 31
   let l := s.laneAt a
   j < 32 ∧ (l.loop j).st = .fallback ∧ (l.loop j).fbDone = false ∧ l.p 0x7121 j * sec 1 ≤ 10000 * (l.now - (l.loop j).fbAt)) :=
  ⟨by decide +kernel, by decide +kernel, by decide +kernel, by decide +kernel, by decide +kernel,
   ⟨by decide +kernel, by decide +kernel, by decide +kernel⟩⟩

theorem wit_ProfileCommands :
  (let s : State := on (up .shadow)
   let a : At := at0
   let m : Msg := msg [7, 0, 0, 0, 0, 0, 0, 0, 0, 0, 0, 0]
   let g := m.u8 0
   let l := (s.laneAt a).taken 0x50 m
   let t := if m.u8 1 = 1 then dadd (l.gen g).target (dofF (m.f32 4)) else dofF (m.f32 4)
   (s.laneAt a).ready 0x50 m = true ∧ g < 8 ∧ m.u8 1 ≤ 2 ∧ l.entering = false ∧ (l.gen g).refers = false ∧ ((l.gen g).st = .stream → (l.gen g).leaving = true) ∧ (m.u8 1 = 0 → ∀ k ∈ l.genSteppers g, (l.stepper k).referenced = true) ∧ (m.u8 1 < 2 → dlt t (dofF (l.pf 0x8107 g)) = false ∧ dlt (dofF (l.pf 0x8108 g)) t = false) ∧ (m.u32 8 = 0 → ∀ k ∈ l.genSteppers g, l.p 0x8140 k = 0)) ∧
  (let s : State := on (up .shadow)
   let a : At := at0
   let m : Msg := msg [7, 1, 0, 0]
   let g := m.u8 0
   (s.laneAt a).ready 0x51 m = true ∧ g < 8 ∧ m.u8 1 ≤ 1) ∧
  (let s : State := on (up .shadow)
   let a : At := at0
   let m : Msg := msg [7, 1, 0, 0]
   let g := m.u8 0
   let l := (s.laneAt a).taken 0x52 m
   (s.laneAt a).ready 0x52 m = true ∧ g < 8 ∧ m.u8 1 ≤ 1 ∧ (l.entering = false ∨ m.u8 1 = 0) ∧ (l.gen g).refers = false) ∧
  (let s : State := on ({ up .shadow with mot.slot := (List.replicate 8 {}).set 7 { cfg := { kind := .stepper, hbs := [12, 13, 14, 15] }, enabled := true }, params := [⟨0x8134, 7, [0]⟩] })
   let a : At := at0
   let m : Msg := msg [7, 0, 0, 0]
   let l := (s.laneAt a).taken 0x53 m
   let r := 0
   (s.laneAt a).ready 0x53 m = true ∧ m.u8 0 < 8 ∧ l.entering = false ∧ (l.motor (m.u8 0)).enabled = true ∧ l.refGen (m.u8 0) = some r ∧ (l.gen r).rests = true ∧ (l.p 0x8130 (m.u8 0) ≠ 0 ∨ l.p 0x8120 (m.u8 0) = 0xFF ∨ l.encGone (m.u8 0) = false) ∧ l.refFits (m.u8 0) = true ∧ fgt (l.pf 0x8132 (m.u8 0)) (l.pf 0x8102 r) = false) :=
  ⟨by decide +kernel, by decide +kernel, by decide +kernel, by decide +kernel⟩

theorem wit_TicksAndSteppers :
  (let s : State := on ({ up .shadow with mp.gen := (List.replicate 8 {}).set 7 { st := .moving, ph := 6 } })
   let a : At := at0
   let g : Nat := 7
   let l := s.laneAt a
   let x := l.gen g
   g < 8 ∧ l.pwm.halted = false ∧ x.cmds = [] ∧ x.st = .moving ∧ x.mode < 2 ∧ x.ph < 7 ∧ l.genSteppers g = []) ∧
  (let s : State := on ({ up .shadow with mot.slot := (List.replicate 8 {}).set 7 { cfg := { kind := .stepper, hbs := [12, 13, 14, 15] } } })
   let a : At := at0
   let k : Nat := 7
   let i : Nat := 0
   let h1 : Nat := 12
   let h2 : Nat := 13
   let h3 : Nat := 14
   let h4 : Nat := 15
   let l := s.laneAt a
   let x := l.stepper k
   let m := l.motor k
   k < 8 ∧ m.cfg.hbs = [h1, h2, h3, h4] ∧ l.sgOf k = some i ∧ x.off = false ∧ l.pwm.halted = false) ∧
  (let s : State := on ({ up .shadow with mot.slot := (List.replicate 8 {}).set 7 { cfg := { kind := .stepper, hbs := [12, 13, 14, 15] } } })
   let a : At := at0
   let k : Nat := 7
   let l := s.laneAt a
   let x := l.stepper k
   let m := l.motor k
   k < 8 ∧ m.cfg.kind = .stepper ∧ x.moving = false ∧ x.rampAt = none ∧ x.restAt + ms (l.p 0x8113 k) ≤ l.now) ∧
  (let s : State := on ({ up .shadow with mot.slot := (List.replicate 8 {}).set 7 { cfg := { kind := .stepper, hbs := [12, 13, 14, 15] }, holdAt := some 800000000 } })
   let a : At := at0
   let k : Nat := 7
   let t : Nat := 800000000
   let l := s.laneAt a
   let x := l.stepper k
   let m := l.motor k
   k < 8 ∧ m.holdAt = some t ∧ m.cfg.kind = .stepper ∧ m.laneSafe = true ∧ x.off = false ∧ t + ms (l.p 0x6150 k) ≤ l.now) ∧
  (let s : State := on ({ up .shadow with mp.gen := (List.replicate 8 {}).set 7 { st := .referencing, ref := some { slot := 7, method := 1, startP := 0, devCnt := 0, edgeSeen := false, holdTo := none } }, params := [⟨0x8134, 7, [31]⟩, ⟨0x8135, 7, [1]⟩] })
   let a : At := at0
   let g : Nat := 7
   let pin : Nat := 31
   let e : PinLvl := ⟨true, 999990000⟩
   let r : RefRun := { slot := 7, method := 1, startP := 0, devCnt := 0, edgeSeen := false, holdTo := none }
   let l := s.laneAt a
   g < 8 ∧ (∀ n, n ≠ g → (l.gen n).ref = none) ∧ (l.gen g).ref = some r ∧ r.method = 1 ∧ r.edgeSeen = false ∧ r.failing = false ∧ (l.gen g).st = .referencing ∧ l.p 0x8134 r.slot = pin ∧ (l.p 0x8135 r.slot == 1) = e.lvl ∧ l.pinStood pin e.since = true) ∧
  (let s : State := on ({ up .shadow with mot.slot := (List.replicate 8 {}).set 7 { fly := .acquire, wHat := 0x43C80000, acq := true } })
   let a : At := at0
   let k : Nat := 7
   let l := s.laneAt a
   let m := l.motor k
   let w := fabs m.wHat
   k < 8 ∧ m.fly = .acquire ∧ m.flyAt ≤ l.now ∧ l.flyWaits k = false ∧ m.acq = true ∧ flt w (l.wLo k) = false ∧ flt w (fmul (l.pf 0x6141 k) (l.pf 0x6101 k)) = true) ∧
  (let s : State := on ({ up .shadow with mot.slot := (List.replicate 8 {}).set 7 { blend := some { delta := 0, dSpeed := 0, oldSrc := 0, oldDev := 0, start := 998000000, active := true } } })
   let a : At := at0
   let k : Nat := 7
   let b : SrcBlend := { delta := 0, dSpeed := 0, oldSrc := 0, oldDev := 0, start := 998000000, active := true }
   let l := s.laneAt a
   let m := l.motor k
   k < 8 ∧ m.blend = some b ∧ b.active = true ∧ b.revert = false ∧ l.p 0x6151 k * sec 1 ≤ 10000 * (l.now - b.start)) :=
  ⟨by decide +kernel, by decide +kernel, by decide +kernel, by decide +kernel, ⟨by decide, fun n h => match n, h with | 0, _ => rfl | 1, _ => rfl | 2, _ => rfl | 3, _ => rfl | 4, _ => rfl | 5, _ => rfl | 6, _ => rfl | 7, h => absurd rfl h | _ + 8, _ => rfl, by decide +kernel⟩,
   ⟨by decide +kernel, by decide +kernel⟩⟩

theorem wit_FunctionCommands :
  (let s : State := on (up .shadow)
   let a : At := at0
   let m : Msg := msg [4, 1, 0, 0, 0, 0, 0, 0]
   let f := m.u8 0
   let l := (s.laneAt a).taken 0x10 m
   (s.laneAt a).ready 0x10 m = true ∧ f < 5 ∧ m.u8 1 ≤ 1 ∧ m.u8 1 = 1 ∧ l.entering = false ∧ (l.func f).enabled = false) ∧
  (let s : State := on ({ up .authority with fn.fn := (List.replicate 5 {}).set 4 { enabled := true } })
   let a : At := at0
   let m : Msg := msg [4, 0, 0, 0, 0, 0, 0, 0]
   let f := m.u8 0
   let l := (s.laneAt a).taken 0x10 m
   (s.laneAt a).ready 0x10 m = true ∧ f < 5 ∧ m.u8 1 ≤ 1 ∧ m.u8 1 = 0 ∧ (f = 2 ∨ f = 3 ∨ fgt (m.f32 4) (l.pf 0x9130) = false) ∧ (l.func f).enabled = true) ∧
  (let s : State := on ({ up .authority with fn.fn := (List.replicate 5 {}).set 4 { enabled := true } })
   let a : At := at0
   let m : Msg := msg [4, 1, 0, 0]
   let f := m.u8 0
   let l := (s.laneAt a).taken 0x11 m
   (s.laneAt a).ready 0x11 m = true ∧ f < 5 ∧ m.u8 1 ≤ 1 ∧ (l.func f).enabled = true) ∧
  (let s : State := on (up .shadow)
   let a : At := at0
   let m : Msg := msg [4, 0, 0, 0]
   let f := m.u8 0
   (s.laneAt a).ready 0x17 m = true ∧ f < 5) ∧
  (let s : State := on ({ up .authority with fn.fn := (List.replicate 5 {}).set 4 { enabled := true, lastCycle := some 3 }, net.cycle := 7 })
   let a : At := at0
   let f : Nat := 4
   let c : Nat := 3
   let l := s.laneAt a
   let x := l.func f
   (f = 0 ∨ f = 1 ∨ f = 4) ∧ x.lastCycle = some c ∧ x.enabled = true ∧ x.host = false ∧ x.mode = 1 ∧ c + 4 ≤ l.cyc ∧ (f = 0 → l.modPart = false)) ∧
  (let s : State := on ({ up .authority with fn.fn := (List.replicate 5 {}).set 0 { enabled := true, mode := 3, lastAt := 920000000 } })
   let a : At := at0
   let l := s.laneAt a
   l.heldFor 0 (ms (l.p 0x9100)) = true ∧ l.bist.run = none ∧ l.gd.test = none) ∧
  (let s : State := on ({ up .authority with fn.fn := (List.replicate 5 {}).set 1 { enabled := true, mode := 3, lastAt := 800000000 }, net.part := true, link := [{}, { up := true }, { up := true }], red.peer := [{}, { known := true, modStat := 0x40000 }, { known := true, modStat := 0x40000 }] })
   let a : At := at0
   let l := s.laneAt a
   l.modPart = true ∧ l.heldFor 1 (ms (l.p 0xB119)) = true ∧ l.bist.run = none ∧ l.gd.test = none) ∧
  (let s : State := on ({ up .authority with fn.fn := (List.replicate 5 {}).set 1 { enabled := true, mode := 4 }, fn.baAt := some 0, fn.holdAt := 200000000 })
   let a : At := at0
   let l := s.laneAt a
   l.fn.baAt.isSome = true ∧ (l.func 1).mode = 4 ∧ l.fn.holdAt + (fto (fdiv l.fn.v (l.pf 0x9102)) 400000000 1).toNat + ms 100 * l.p 0x9105 ≤ l.now ∧ l.bist.run = none ∧ l.gd.test = none) ∧
  (let s : State := on ({ up .shadow with red.vehReq := 3, fn.stopSince := some 200000000 })
   let a : At := at0
   let t : Nat := 200000000
   let l := s.laneAt a
   l.red.vehReq = 3 ∧ l.fn.stopSince = some t ∧ t + ms 100 * l.p 0x9105 ≤ l.now ∧ l.bist.run = none ∧ l.gd.test = none) ∧
  (let s : State := on ({ up .authority with fn.fn := (List.replicate 5 {}).set 3 { enabled := true, host := true }, fn.sbAt := 960000000 })
   let a : At := at0
   let l := s.laneAt a
   (l.func 3).enabled = true ∧ (l.func 3).host = true ∧ l.fn.sbAt + ms (l.p 0x9131) ≤ l.now) :=
  ⟨by decide +kernel, by decide +kernel, by decide +kernel, by decide +kernel, by decide +kernel,
   ⟨by decide +kernel, by decide +kernel, by decide +kernel, by decide +kernel, by decide +kernel⟩⟩

theorem wit_Setpoints :
  (let s : State := on ({ up .authority with fn.fn := (List.replicate 5 {}).set 0 { enabled := true } })
   let a : At := at0
   let m : Msg := msg [0, 0, 52, 66, 0, 0, 0, 0, 0, 0, 0, 0]
   let l := (s.laneAt a).taken 0x12 m
   (s.laneAt a).ready 0x12 m = true ∧ (l.func 0).enabled = true ∧ (l.func 0).host = false ∧ flt (m.f32 0) (l.pf 0x9110) = false ∧ flt (l.pf 0x9111) (m.f32 0) = false) ∧
  (let s : State := on ({ up .authority with fn.fn := (List.replicate 5 {}).set 1 { enabled := true } })
   let a : At := at0
   let m : Msg := msg [15, 0, 0, 0, 0, 0, 0, 0, 0, 0, 0, 0, 0, 0, 160, 66, 0, 0, 160, 66, 0, 0, 160, 66, 0, 0, 160, 66]
   let l := (s.laneAt a).taken 0x13 m
   (s.laneAt a).ready 0x13 m = true ∧ (l.func 1).enabled = true ∧ (l.func 1).host = false ∧ 0 < m.u8 0 ∧ m.u8 0 < 16 ∧ (∀ w < 4, bit (m.u8 0) w = true → flt (m.f32 (12 + 4 * w)) f0 = false ∧ flt (l.pf 0x9120 w) (m.f32 (12 + 4 * w)) = false)) ∧
  (let s : State := on ({ up .authority with fn.fn := (List.replicate 5 {}).set 4 { enabled := true } })
   let a : At := at0
   let m : Msg := msg [0, 0, 0, 0, 0, 0, 0, 0, 0, 0, 0, 0]
   let l := (s.laneAt a).taken 0x16 m
   (s.laneAt a).ready 0x16 m = true ∧ (l.func 4).enabled = true) ∧
  (let s : State := on ({ up .authority with fn.fn := (List.replicate 5 {}).set 0 { enabled := true } })
   let a : At := at0
   let m : Msg := msg [0, 0, 0, 0, 0, 0, 0, 0, 1, 0, 0, 0, 0, 1, 148, 17, 0, 0, 0, 0]
   let l := (s.laneAt a).taken 0x19 m
   let angle := fq (sext 16 (m.u16 14)) 100
   (s.laneAt a).ready 0x19 m = true ∧ m.u8 8 = 1 ∧ m.u8 12 = l.np 0xB105 ∧ m.u8 13 = 1 ∧ (l.func 0).enabled = true ∧ (l.func 0).host = false ∧ flt angle (l.pf 0x9110) = false ∧ flt (l.pf 0x9111) angle = false) ∧
  (let s : State := on ({ up .authority with fn.fn := (List.replicate 5 {}).set 0 { enabled := true, pending := [⟨[0], 1, 0⟩] } })
   let a : At := at0
   let p : Setpoint := ⟨[0], 1, 0⟩
   let l := s.laneAt a
   l.fnRuns = true ∧ l.ownSet = true ∧ (∀ f < 5, (l.func f).srcNext = none) ∧ (l.func 0).pending = [p] ∧ (l.func 0).mode = 1 ∧ (l.func 0).host = false ∧ (∀ f < 5, (l.func f).host = false) ∧ l.begun p.apply = true ∧ l.bist.run = none ∧ l.gd.test = none) :=
  ⟨by decide +kernel, by decide +kernel, by decide +kernel, by decide +kernel, by decide +kernel⟩

theorem wit_BrakeCommands :
  (let s : State := on (up .shadow)
   let a : At := at0
   let m : Msg := msg [129, 0, 0, 0, 0, 0, 0, 0]
   let l := (s.laneAt a).taken 0x14 m
   let apply := bit (m.u8 0) 0
   (s.laneAt a).ready 0x14 m = true ∧ l.bist.run = none ∧ l.gd.test = none ∧ (apply = true → bit (m.u8 0) 7 = true ∨ fgt (m.f32 4) (l.pf 0x9130) = false) ∧ (apply = false → l.red.parked = false) ∧ a.sw = none) ∧
  (let s : State := on (up .shadow)
   let a : At := { at0 with sw := some [true, true, true] }
   let m : Msg := msg [129, 0, 0, 0, 0, 0, 0, 0]
   let l := (s.laneAt a).taken 0x14 m
   let apply := bit (m.u8 0) 0
   (s.laneAt a).ready 0x14 m = true ∧ l.bist.run = none ∧ l.gd.test = none ∧ (apply = true → bit (m.u8 0) 7 = true ∨ fgt (m.f32 4) (l.pf 0x9130) = false) ∧ (apply = false → l.red.parked = false) ∧ a.sw ≠ none) ∧
  (let s : State := on (up .shadow)
   let a : At := { at0 with sw := some [true, true, true] }
   let l := s.laneAt a
   let x := [true, true, true]
   a.sw = some x ∧ x.length = 3 ∧ x ≠ l.cmdClosed) ∧
  (let s : State := on ({ up .shadow with mot.slot := (List.replicate 8 {}).set 7 { cfg := { kind := .stepper, hbs := [12, 13, 14, 15], wheel := some 3 }, enabled := true } })
   let a : At := at0
   let m : Msg := msg [3, 0, 0, 0, 0, 0, 0, 0]
   let l := (s.laneAt a).taken 0x15 m
   let w := m.u8 0
   let k := 7
   (s.laneAt a).ready 0x15 m = true ∧ w < 4 ∧ (l.wheel w).running = false ∧ (l.wheel w).wanted = none ∧ l.st.driving = true ∧ l.adjSlot w = some k ∧ (l.motor k).enabled = true) ∧
  (let s : State := on (up .shadow)
   let a : At := at0
   let m : Msg := msg [15, 0, 0, 0, 0, 0, 0, 0]
   let l := (s.laneAt a).taken 0x18 m
   (s.laneAt a).ready 0x18 m = true ∧ 0 < m.u8 0 ∧ m.u8 0 < 16 ∧ fgt (m.f32 4) (fq 1 10) = false ∧ (∀ w < 4, bit (m.u8 0) w = true → fgt (l.wheel w).clamp f0 = false)) :=
  ⟨by decide +kernel, by decide +kernel, by decide +kernel, by decide +kernel, by decide +kernel⟩

theorem wit_CellRetarderAndWheels :
  (let s : State := on ({ up .authority with fn.cell := .hold, fn.sbApply := some false, link := [{}, { up := true }, { up := true }], red.peer := [{}, { known := true, health := 0x50000080, side := some { cell := .hold, closed := [true, true, true] } }, { known := true, health := 0x50000080, side := some { cell := .hold, closed := [true, true, true] } }] })
   let a : At := at0
   let l := s.laneAt a
   (a.sw = none ∨ a.sw = some l.cmdClosed) ∧ l.st.driving = true ∧ l.fn.cell = .hold ∧ l.fn.cellTest = .none ∧ l.fn.testStop = false ∧ l.fn.testedPer ≠ some l.sbPeriod ∧ l.sbPeriod % 3 = l.id.idx ∧ l.cyc % 3 = l.id.idx ∧ l.peersHold = true) ∧
  (let s : State := on ({ up .authority with fn.cell := .hold, fn.cellTest := .veto, fn.testAt := 999200000, fn.cmdHold := true })
   let a : At := at0
   let sense : List Bool := [true, true, true]
   let l := s.laneAt a
   sense.length = 3 ∧ l.fn.testAt + 40000 * l.p 0x9133 ≤ l.now ∧ l.fn.cell = .hold ∧ sense = l.cmdClosed ∧ l.fn.cellTest = .veto) ∧
  (let s : State := on ({ up .authority with fn.cell := .hold, fn.cellTest := .veto, fn.testAt := 999200000, fn.cmdHold := true })
   let a : At := at0
   let sense : List Bool := [true, false, true]
   let l := s.laneAt a
   sense.length = 3 ∧ l.fn.testAt + 40000 * l.p 0x9133 ≤ l.now ∧ l.fn.cell = .hold ∧ sense ≠ l.cmdClosed ∧ l.fn.cellTest ≠ .none) ∧
  (let s : State := on ({ up .authority with fn.fn := (List.replicate 5 {}).set 4 { enabled := true }, mot.slot := (List.replicate 8 {}).set 7 { cfg := { kind := .external, hbs := [15], rtCh := some 1 } }, fn.ch := [{}, { preAt := some 999600000 }] })
   let a : At := at0
   let c : Nat := 1
   let t : Nat := 999600000
   let l := s.laneAt a
   c < 2 ∧ (l.chop c).faulty = false ∧ (l.chop c).armed = false ∧ (l.func 4).enabled = true ∧ l.st.driving = true ∧ l.drvOk c = true ∧ (l.chop c).preAt = some t ∧ t + ms 1 ≤ l.now) ∧
  (let s : State := on ({ up .authority with fn.fn := (List.replicate 5 {}).set 4 { enabled := true }, mot.slot := (List.replicate 8 {}).set 7 { cfg := { kind := .external, hbs := [15], rtCh := some 1 } }, fn.ch := [{}, { armed := true, quietAt := some 600000000 }] })
   let a : At := at0
   let c : Nat := 1
   let t : Nat := 600000000
   let l := s.laneAt a
   c < 2 ∧ (l.chop c).armed = true ∧ (l.chop c).quietAt = some t ∧ t + sec 1 ≤ l.now) ∧
  (let s : State := on ({ up .authority with fn.fn := (List.replicate 5 {}).set 2 { enabled := true }, fn.wheel := (List.replicate 4 {}).set 3 { quietAt := some 200000000, wanted := some 0x3F800000 }, mot.slot := (List.replicate 8 {}).set 7 { cfg := { kind := .stepper, hbs := [12, 13, 14, 15], wheel := some 3 }, enabled := true } })
   let a : At := at0
   let w : Nat := 3
   let t : Nat := 200000000
   let k : Nat := 7
   let x : F32 := 0x3F800000
   let l := s.laneAt a
   w < 4 ∧ l.adjSlot w = some k ∧ (l.wheel w).quietAt = some t ∧ t + ms 100 * l.p 0x912A ≤ l.now ∧ (l.func 2).enabled = true ∧ (l.wheel w).running = false ∧ l.st.driving = true ∧ (l.motor k).enabled = true ∧ (l.wheel w).wanted = some x ∧ (b32.toRat x.toNat).1 ≠ 0) ∧
  (let s : State := on ({ up .authority with fn.wheel := (List.replicate 4 {}).set 3 { misSince := some 980000000 } })
   let a : At := at0
   let w : Nat := 3
   let t : Nat := 980000000
   let l := s.laneAt a
   w < 4 ∧ (l.wheel w).useMin = false ∧ (l.wheel w).misSince = some t ∧ t + ms 50 ≤ l.now) :=
  ⟨by decide +kernel, by decide +kernel, by decide +kernel, by decide +kernel, by decide +kernel,
   ⟨by decide +kernel, by decide +kernel⟩⟩

theorem wit_CommandChecks :
  (let s : State := on ({ up .shadow with net.cycle := 5 })
   let a : At := at0
   let op : Nat := 0x32
   let m : Msg := { tr := .spi, expire := 4 }
   let t : Lane := (((on ({ up .shadow with net.cycle := 5 })).laneAt at0).take 0x32 ({ tr := .spi, expire := 4 })).getD ({ up .shadow with net.cycle := 5 })
   (s.laneAt a).take op m = some t ∧ m.ver = 2 ∧ t.expired m.expire = true) ∧
  (let s : State := on (up .shadow)
   let a : At := at0
   let op : Nat := 0x32
   let m : Msg := { tr := .spi, ver := 3 }
   let t : Lane := (((on (up .shadow)).laneAt at0).take 0x32 ({ tr := .spi, ver := 3 })).getD (up .shadow)
   (s.laneAt a).take op m = some t ∧ m.ver ≠ 1 ∧ m.ver ≠ 2 ∧ t.expired m.expire = false) ∧
  (let s : State := on ({ up .shadow with boot.pu.hspi := 0xFFF7 })
   let a : At := at0
   let op : Nat := 0x32
   let m : Msg := msg []
   let t : Lane := (((on ({ up .shadow with boot.pu.hspi := 0xFFF7 })).laneAt at0).take 0x32 (msg [])).getD ({ up .shadow with boot.pu.hspi := 0xFFF7 })
   (s.laneAt a).take op m = some t ∧ m.ver = 2 ∧ t.expired m.expire = false ∧ bit (t.senderMask m.tr).toNat (op / 16) = false) ∧
  (let s : State := on ({ up .shadow with mb.ses := List.replicate 4 {} })
   let a : At := at0
   let op : Nat := 0x31
   let m : Msg := msg [1, 0, 0, 0]
   let t : Lane := (((on ({ up .shadow with mb.ses := List.replicate 4 {} })).laneAt at0).take 0x31 (msg [1, 0, 0, 0])).getD ({ up .shadow with mb.ses := List.replicate 4 {} })
   (s.laneAt a).take op m = some t ∧ m.ver = 2 ∧ t.expired m.expire = false ∧ bit (t.senderMask m.tr).toNat (op / 16) = true ∧ t.sesHas (t.sesNeed op m.tr) m = false) ∧
  (let s : State := on (up .shadow)
   let a : At := at0
   let op : Nat := 0xFF
   let m : Msg := msg []
   let t : Lane := (((on (up .shadow)).laneAt at0).take 0xFF (msg [])).getD (up .shadow)
   (s.laneAt a).take op m = some t ∧ m.ver = 2 ∧ t.expired m.expire = false ∧ bit (t.senderMask m.tr).toNat (op / 16) = true ∧ t.sesHas (t.sesNeed op m.tr) m = true ∧ layoutOf op = none) ∧
  (let s : State := on (up .shadow)
   let a : At := at0
   let op : Nat := 0xFF
   let m : Msg := msg []
   let t : Lane := (((on (up .shadow)).laneAt at0).take 0xFF (msg [])).getD (up .shadow)
   (s.laneAt a).take op m = some t ∧ m.ver = 2 ∧ t.expired m.expire = false ∧ bit (t.senderMask m.tr).toNat (op / 16) = true ∧ t.sesHas (t.sesNeed op m.tr) m = true ∧ layoutOf op = none ∧ op < 256 ∧ t.aside op m = none) ∧
  (let s : State := on (up .shadow)
   let a : At := at0
   let op : Nat := 0x32
   let m : Msg := msg [0]
   let t : Lane := (((on (up .shadow)).laneAt at0).take 0x32 (msg [0])).getD (up .shadow)
   (s.laneAt a).take op m = some t ∧ m.ver = 2 ∧ t.expired m.expire = false ∧ bit (t.senderMask m.tr).toNat (op / 16) = true ∧ t.sesHas (t.sesNeed op m.tr) m = true ∧ layoutOf op ≠ none ∧ layoutOk op m.args = false) ∧
  (let s : State := on ({ up .shadow with boot.pu.hspi := 0xFFF7 })
   let a : At := at0
   let op : Nat := 0x32
   let m : Msg := msg []
   let t : Lane := (((on ({ up .shadow with boot.pu.hspi := 0xFFF7 })).laneAt at0).take 0x32 (msg [])).getD ({ up .shadow with boot.pu.hspi := 0xFFF7 })
   let st := stRefusedAuth
   (s.laneAt a).take op m = some t ∧ t.aside op m = none ∧ t.gate op m = some st) ∧
  (let s : State := on ({ up .shadow with mb.memNet := [⟨5, 6, [1]⟩, ⟨5, 7, [2]⟩] })
   let a : At := at0
   let op : Nat := 0x32
   let m : Msg := { tr := .net, host := 5, msgId := 7 }
   let t : Lane := (((on ({ up .shadow with mb.memNet := [⟨5, 6, [1]⟩, ⟨5, 7, [2]⟩] })).laneAt at0).take 0x32 ({ tr := .net, host := 5, msgId := 7 })).getD ({ up .shadow with mb.memNet := [⟨5, 6, [1]⟩, ⟨5, 7, [2]⟩] })
   let r := ⟨5, 7, [2]⟩
   (s.laneAt a).take op m = some t ∧ m.tr = .net ∧ m.bcast = false ∧ t.mb.memNet.find? (fun r => r.host == m.host && r.msgId == m.msgId) = some r) ∧
  (let s : State := on ({ up .shadow with mb.bcastDrop := 3 })
   let a : At := at0
   let op : Nat := 0x20
   let m : Msg := { tr := .can, bcast := true }
   let t : Lane := (((on ({ up .shadow with mb.bcastDrop := 3 })).laneAt at0).take 0x20 ({ tr := .can, bcast := true })).getD ({ up .shadow with mb.bcastDrop := 3 })
   (s.laneAt a).take op m = some t ∧ (m.tr = .net ∨ m.tr = .can) ∧ m.bcast = true ∧ (op < 0x10 ∨ 0x1F < op)) :=
  ⟨by decide +kernel, by decide +kernel, by decide +kernel, by decide +kernel, by decide +kernel,
   ⟨by decide +kernel, by decide +kernel, by decide +kernel, by decide +kernel, by decide +kernel⟩⟩

theorem wit_SessionCommands :
  (let s : State := on (up .shadow)
   let a : At := at0
   let m : Msg := msg []
   let l := (s.laneAt a).taken 0x01 m
   (s.laneAt a).ready 0x01 m = true ∧ l.mb.lockUntil ≤ l.now) ∧
  (let s : State := on ({ up .shadow with boot.pu.keyLock := 0x3F, mb.failCount := 0, mb.ses := List.replicate 4 { nonce := some (List.replicate 16 9, 999999999) } })
   let a : At := at0
   let m : Msg := msg ([2, 0, 0, 0] ++ ({ up .shadow with boot.pu.keyLock := 0x3F, mb.failCount := 0, mb.ses := List.replicate 4 { nonce := some (List.replicate 16 9, 999999999) } }).sesValue 2 (List.replicate 16 9) .spi 0)
   let l := (s.laneAt a).taken 0x02 m
   let x := l.ses m.tr
   let n := List.replicate 16 9
   let t := 999999999
   (s.laneAt a).ready 0x02 m = true ∧ (m.u8 0 = 1 ∨ m.u8 0 = 2) ∧ x.nonce = some (n, t) ∧ l.now < t + sec 10 ∧ x.nonceHost = m.host ∧ l.keyLoaded (3 + m.u8 0) = true ∧ l.sesValue (m.u8 0) n m.tr m.host = (m.args.drop 4).take 16) ∧
  (let s : State := on ({ up .shadow with boot.pu.keyLock := 0x3F, mb.failCount := 2, mb.ses := List.replicate 4 { nonce := some (List.replicate 16 9, 999999999) } })
   let a : At := at0
   let m : Msg := msg ([2, 0, 0, 0] ++ List.replicate 16 0)
   let l := (s.laneAt a).taken 0x02 m
   let x := l.ses m.tr
   let n := List.replicate 16 9
   let t := 999999999
   (s.laneAt a).ready 0x02 m = true ∧ (m.u8 0 = 1 ∨ m.u8 0 = 2) ∧ x.nonce = some (n, t) ∧ l.now < t + sec 10 ∧ x.nonceHost = m.host ∧ l.keyLoaded (3 + m.u8 0) = true ∧ l.sesValue (m.u8 0) n m.tr m.host ≠ (m.args.drop 4).take 16 ∧ 2 ≤ l.mb.failCount) ∧
  (let s : State := on (up .shadow)
   let a : At := at0
   let m : Msg := msg []
   (s.laneAt a).ready 0x03 m = true) ∧
  (let s : State := on (up .shadow)
   let a : At := at0
   let tr : Transport := .sp
   let l := s.laneAt a
   (l.ses tr).level ≠ 0 ∧ (l.ses tr).lastCmd + (l.ses tr).idle ≤ l.now) :=
  ⟨by decide +kernel, by decide +kernel, by decide +kernel, by decide +kernel, by decide +kernel⟩

set_option maxRecDepth 2000 in
theorem wit_ReadingCommands :
  (let s : State := on (up .shadow)
   let a : At := at0
   let m : Msg := msg [4, 33, 31, 0, 1, 0, 0, 0]
   let r : PRow := (prow 0x2104).getD ⟨0, 0, .u8, 0, 0, 0, [], .ro⟩
   let vs := (List.range (m.u16 4)).map (fun i => ((s.laneAt a).taken 0x08 m).readVals r (m.u8 6 == 1) (m.u16 2 + i))
   m.ver = 2 ∧ prow (m.u16 0) = some r ∧ 0 < m.u16 4 ∧ m.u16 2 + m.u16 4 ≤ r.n ∧ (valueBlock r (m.u16 2) vs).length ≤ 2032) ∧
  (let m : Msg := msg [4, 33, 0, 0]
   let r : PRow := (prow 0x2104).getD ⟨0, 0, .u8, 0, 0, 0, [], .ro⟩
   prow (m.u16 0) = some r) ∧
  (let m : Msg := msg [0, 0, 0, 0]
   m.u8 0 = 0) ∧
  (let s : State := on ({ up .shadow with mem.mram := [(0x510800, 66), (0x510801, 83), (0x510802, 84), (0x510803, 82), (0x510804, 1), (0x510806, 3), (0x510839, 1), (0x510848, 1), (0x510849, 1), (0x510858, 2), (0x510859, 1), (0x510868, 3), (0x510869, 1), (0x510878, 4), (0x510879, 1), (0x510888, 5), (0x510889, 1), (0x510898, 6), (0x510899, 1), (0x5108A8, 7), (0x5108A9, 1), (0x5108B8, 8), (0x5108B9, 1), (0x5108C8, 9), (0x5108C9, 1), (0x5108D8, 10), (0x5108D9, 1), (0x5108E8, 11), (0x5108E9, 1), (0x5108F8, 12), (0x5108F9, 1), (0x510908, 13), (0x510909, 1), (0x510918, 14), (0x510919, 1), (0x510928, 15), (0x510929, 1), (0x5109FC, 162), (0x5109FD, 138), (0x5109FE, 191), (0x5109FF, 79)] })
   let a : At := at0
   let m : Msg := msg [15, 0, 0, 0]
   let b : BistRec := { kind := 3, result := 0, spares := 0, results := List.replicate 16 { status := 1, detail := 0 } }
   m.u8 0 < 16 ∧ ((s.laneAt a).taken 0x92 m).bistHolding (m.u8 0) = some b) ∧
  (let s : State := on ({ up .shadow with mb.evtCnt := 7, mb.log := [{ code := 0x1101 }] })
   let a : At := at0
   let m : Msg := msg [7, 0, 126, 0]
   let e : EventRec := { code := 0x1101 }
   0 < m.u8 2 ∧ m.u8 2 ≤ 126 ∧ m.u16 0 = ((s.laneAt a).taken 0xC0 m).mb.evtCnt % 65536 ∧ ((s.laneAt a).taken 0xC0 m).mb.log.getLast? = some e) :=
  ⟨by decide +kernel, by decide +kernel, by decide +kernel, by decide +kernel, by decide +kernel⟩

theorem wit_ParametersAndStreams :
  (let s : State := on (up .shadow)
   let a : At := at0
   let m : Msg := msg [4, 33, 31, 0, 1, 0, 1, 0, 1, 0, 0, 0, 20]
   let r : PRow := (prow 0x2104).getD ⟨0, 0, .u8, 0, 0, 0, [], .ro⟩
   let c : PCond := .always
   let vals := (writeVals r (m.u16 4) (m.u16 8) (m.args.drop 12)).mapIdx (fun i v => (⟨r.id, m.u16 2 + i, v⟩ : PVal))
   let l := (s.laneAt a).taken 0x09 m
   (s.laneAt a).ready 0x09 m = true ∧ prow (m.u16 0) = some r ∧ m.ver = 2 ∧ m.u16 2 + m.u16 4 ≤ r.n ∧ (∀ v ∈ vals, l.condOk r.cls.cond v.id v.inst v.vals = true) ∧ r.cls = .staged c ∧ l.stagedByOther m = false ∧ (∀ v ∈ vals, l.valueOk r v = true)) ∧
  (let s : State := on (up .shadow)
   let a : At := at0
   let m : Msg := msg [5, 33, 31, 0, 1, 0, 1, 0, 1, 0, 0, 0, 60]
   let r : PRow := (prow 0x2105).getD ⟨0, 0, .u8, 0, 0, 0, [], .ro⟩
   let c : PCond := .always
   let vals := (writeVals r (m.u16 4) (m.u16 8) (m.args.drop 12)).mapIdx (fun i v => (⟨r.id, m.u16 2 + i, v⟩ : PVal))
   let l := (s.laneAt a).taken 0x09 m
   (s.laneAt a).ready 0x09 m = true ∧ prow (m.u16 0) = some r ∧ m.ver = 2 ∧ m.u16 2 + m.u16 4 ≤ r.n ∧ (∀ v ∈ vals, l.condOk r.cls.cond v.id v.inst v.vals = true) ∧ r.cls ≠ .ro ∧ (∀ c, r.cls ≠ .staged c) ∧ (∀ v ∈ vals, l.valueTested v.id v.inst = false) ∧ l.firstBad (l.withVals vals) vals = none) ∧
  (let s : State := on ({ up .shadow with params := [⟨0x1115, 0, [1]⟩] })
   let a : At := at0
   let m : Msg := { tr := .spi, ver := 1, args := [4, 33, 31, 0, 20] }
   let r : PRow := (prow 0x2104).getD ⟨0, 0, .u8, 0, 0, 0, [], .ro⟩
   let c : PCond := .always
   let body := m.args.drop 4
   let one : List PVal := [⟨r.id, m.u8 2, itemsOf r (body.length / r.ty.bytes) body⟩]
   let l := (s.laneAt a).taken 0x09 m
   (s.laneAt a).ready 0x09 m = true ∧ prow (m.u16 0) = some r ∧ m.ver = 1 ∧ m.u8 2 < r.n ∧ (∀ v ∈ one, l.valueTested v.id v.inst = false) ∧ l.firstBad (l.withVals one) one = none ∧ r.cls = .staged c ∧ l.mb.staged = none) ∧
  (let s : State := on ({ up .shadow with params := [⟨0x1115, 0, [1]⟩] })
   let a : At := at0
   let m : Msg := { tr := .spi, ver := 1, args := [5, 33, 31, 0, 60] }
   let r : PRow := (prow 0x2105).getD ⟨0, 0, .u8, 0, 0, 0, [], .ro⟩
   let c : PCond := .always
   let body := m.args.drop 4
   let one : List PVal := [⟨r.id, m.u8 2, itemsOf r (body.length / r.ty.bytes) body⟩]
   let l := (s.laneAt a).taken 0x09 m
   (s.laneAt a).ready 0x09 m = true ∧ prow (m.u16 0) = some r ∧ m.ver = 1 ∧ m.u8 2 < r.n ∧ (∀ v ∈ one, l.valueTested v.id v.inst = false) ∧ l.firstBad (l.withVals one) one = none ∧ r.cls ≠ .ro ∧ (∀ c, r.cls ≠ .staged c) ∧ (∀ v ∈ one, l.condOk r.cls.cond v.id v.inst v.vals = true)) ∧
  (let s : State := on ({ up .shadow with mb.staged := some { vals := [⟨0x2104, 31, [20]⟩] } })
   let a : At := at0
   let m : Msg := msg [0, 0, 0, 0]
   let st : Staged := { vals := [⟨0x2104, 31, [20]⟩] }
   let l := (s.laneAt a).taken 0x0A m
   let l2 : Lane := { l with mb.staged := some { st with lastAt := l.now } }
   (s.laneAt a).ready 0x0A m = true ∧ l.mb.staged = some st ∧ l.stagedByOther m = false ∧ m.u8 0 = 0 ∧ (∀ v ∈ st.vals, l.valueTested v.id v.inst = false) ∧ l2.firstBad (l2.withVals st.vals) st.vals = none) ∧
  (let s : State := on ({ up .shadow with mb.staged := some { vals := [⟨0x2104, 31, [20]⟩] } })
   let a : At := at0
   let m : Msg := msg [1, 0, 0, 0]
   let st : Staged := { vals := [⟨0x2104, 31, [20]⟩] }
   let l := (s.laneAt a).taken 0x0A m
   (s.laneAt a).ready 0x0A m = true ∧ l.mb.staged = some st ∧ l.stagedByOther m = false ∧ m.u8 0 = 1) :=
  ⟨by decide +kernel, ⟨by decide +kernel, by decide +kernel, by decide +kernel, by decide +kernel, by decide +kernel, by decide +kernel, (fun _ h => by cases h), by decide +kernel, by decide +kernel⟩, by decide +kernel, ⟨by decide +kernel, by decide +kernel, by decide +kernel, by decide +kernel, by decide +kernel, by decide +kernel, by decide +kernel, (fun _ h => by cases h), by decide +kernel⟩, by decide +kernel, by decide +kernel⟩

theorem wit_StreamsAndCounters :
  (let s : State := on ({ up .shadow with now := 2000000000, mb.staged := some { vals := [⟨0x2104, 31, [20]⟩] } })
   let a : At := at0
   let st : Staged := { vals := [⟨0x2104, 31, [20]⟩] }
   let l := s.laneAt a
   l.mb.staged = some st ∧ st.lastAt + sec 5 ≤ l.now ∧ l.fwRuns = true) ∧
  (let s : State := on (up .shadow)
   let a : At := at0
   let m : Msg := msg [7, 193, 7, 0]
   let r : PRow := (prow 0xC107).getD ⟨0, 0, .u8, 0, 0, 0, [], .ro⟩
   let id := m.u16 0
   let i := m.u16 2
   (s.laneAt a).ready 0xC2 m = true ∧ prow id = some r ∧ counterIds.contains id = true ∧ i < r.n ∧ i ≠ 0xFFFF) ∧
  (let s : State := on (up .shadow)
   let a : At := at0
   let m : Msg := msg [1, 0, 0, 0]
   (s.laneAt a).ready 0xC3 m = true ∧ m.u8 0 ≤ 1) ∧
  (let s : State := on ({ up .authority with fn.fn := (List.replicate 5 {}).set 4 { enabled := true, host := true } })
   let a : At := at0
   let m : Msg := msg ([1, 0, 0, 0, 7, 4, 1, 0] ++ List.replicate 28 0)
   let l := (s.laneAt a).taken 0x0C m
   let e := (m.args.drop 4).take 32
   let i := streamInst (byteAt e 0) (byteAt e 1)
   let x := l.stream i
   (s.laneAt a).ready 0x0C m = true ∧ m.u8 0 = 1 ∧ i ≠ 95 ∧ l.streamOpen (byteAt e 0) (byteAt e 1) = true ∧ x.lastSeq ≠ some (.ofNat 16 (leAt e 2 2))) ∧
  (let s : State := on (up .shadow)
   let a : At := at0
   let m : Msg := msg ([1, 0, 0, 0, 7, 4, 1, 0] ++ List.replicate 28 0)
   let l := (s.laneAt a).taken 0x0C m
   let e := (m.args.drop 4).take 32
   (s.laneAt a).ready 0x0C m = true ∧ m.u8 0 = 1 ∧ l.streamOpen (byteAt e 0) (byteAt e 1) = false) :=
  ⟨by decide +kernel, by decide +kernel, by decide +kernel, by decide +kernel, by decide +kernel⟩

theorem wit_HostSpi :
  (let s : State := on (up .shadow)
   let a : At := at0
   let w : Wire := {}
   let q : Nat := 0
   let k : Nat := 1
   let tail : Nat := 1
   let x : SpiXfer := {}
   let l := s.laneAt a
   let d := l.qDepth q
   l.spiOn = true ∧ w = {} ∧ x.wire = {} ∧ q < 16 ∧ q ≠ 11 ∧ qHostIn q = true ∧ (q = 0 ∨ l.sesOpen .spi = true) ∧ tail < d ∧ tail < 65536 ∧ k = (tail + d - (l.q q).tail) % d ∧ k ≤ l.qFree q) ∧
  (let s : State := on (up .shadow)
   let a : At := at0
   let w : Wire := {}
   let x : SpiXfer := {}
   let l := s.laneAt a
   l.spiOn = true ∧ w = {} ∧ x.wire = {}) ∧
  (let s : State := on (up .shadow)
   let a : At := at0
   let w : Wire := {}
   let x : SpiXfer := {}
   let l := s.laneAt a
   l.spiOn = true ∧ w = {} ∧ x.wire = {}) ∧
  (let s : State := on (up .shadow)
   let a : At := at0
   let w : Wire := {}
   let q : Nat := 8
   let n : Nat := 0
   let x : SpiXfer := {}
   let l := s.laneAt a
   let d := l.qDepth q
   l.spiOn = true ∧ w = {} ∧ x.wire = {} ∧ q ≠ 1 ∧ q < 64 ∧ qHostOut q = true ∧ n < d ∧ n < 65536 ∧ (n + d - (l.q q).head) % d ≤ (l.q q).items.length) ∧
  (let s : State := on (up .shadow)
   let a : At := at0
   let w : Wire := {}
   let v : W32 := 0
   let x : SpiXfer := { addr := 3, data := [0] }
   let l := s.laneAt a
   l.spiOn = true ∧ w = {} ∧ x.wire = {} ∧ x.addr = 3 ∧ x.data = [v]) ∧
  (let s : State := on (up .shadow)
   let a : At := at0
   let w : Wire := {}
   let q : Nat := 0
   let v : W32 := 0
   let x : SpiXfer := { addr := 0x1080, data := [0] }
   let wd : Option (Nat × Nat) := none
   let l := s.laneAt a
   l.spiOn = true ∧ w = {} ∧ x.wire = {} ∧ 0x1000 ≤ x.addr ∧ x.addr < 0x4000 ∧ l.ringWhere (4 * x.addr) = some (q, wd) ∧ qHostIn q = true ∧ x.data = [v]) ∧
  (let s : State := on (up .shadow)
   let a : At := at0
   let w : Wire := {}
   let x : SpiXfer := { addr := 0x1000, count := 4 }
   let l := s.laneAt a
   l.spiOn = true ∧ w = {} ∧ x.wire = {} ∧ (∀ i < x.count, spiCanRead (x.addr + i) = true ∧ spiRegion (x.addr + i) = spiRegion x.addr)) ∧
  (let s : State := on (up .shadow)
   let a : At := at0
   let w : Wire := {}
   let x : SpiXfer := {}
   let l := s.laneAt a
   l.spiOn = true ∧ w = {} ∧ x.wire = {}) ∧
  (let s : State := on ({ up .shadow with mb.spi := { irqStat := 1, irqEn := 1 } })
   let a : At := at0
   let l := s.laneAt a
   let q := l.mb.spi
   l.st ≠ .off ∧ l.st ≠ .waking ∧ l.st ≠ .boot ∧ q.irqStat &&& q.irqEn ≠ 0 ∧ q.hirqHigh + us (q.irqHold.toNat % 65536) ≤ l.now) :=
  ⟨by decide +kernel, by decide +kernel, by decide +kernel, by decide +kernel, by decide +kernel,
   ⟨by decide +kernel, by decide +kernel, by decide +kernel, by decide +kernel⟩⟩

theorem wit_ServicePort :
  (let s : State := on (up .shadow)
   let a : At := at0
   let bytes : List Byte := List.replicate 32 0
   let l := s.laneAt a
   let sp := l.mb.sp
   l.spOn = true ∧ 1 ≤ bytes.length ∧ bytes.length ≤ 32 ∧ (sp.inBytes ++ bytes).length ≤ 2048 ∧ l.qFits 4 (sp.inBytes ++ bytes) = true) ∧
  (let s : State := on ({ up .shadow with mb.sp.inBytes := List.replicate 32 0 })
   let a : At := at0
   let l := s.laneAt a
   let sp := l.mb.sp
   l.spOn = true ∧ sp.inBytes ≠ [] ∧ l.qFits 4 sp.inBytes = true) ∧
  (let s : State := on (up .shadow)
   let a : At := at0
   let l := s.laneAt a
   l.spOn = true) ∧
  (let s : State := on ({ up .shadow with mb.q := (List.replicate 64 {}).set 5 { items := [{ flags := 3, data := List.replicate 48 0 }] } })
   let a : At := at0
   let l := s.laneAt a
   let sp := l.mb.sp
   let msg := l.qHeadMsg 5
   l.spOn = true ∧ sp.outPos + 32 < msg.length) ∧
  (let s : State := on (up .shadow)
   let a : At := at0
   let l := s.laneAt a
   l.spOn = true) ∧
  (let s : State := on ({ up .shadow with mb.sp.openAt := some 600000000 })
   let a : At := at0
   let t : Nat := 600000000
   let l := s.laneAt a
   let sp := l.mb.sp
   l.spOn = true ∧ sp.openAt = some t ∧ t + sec 1 ≤ l.now) ∧
  (let s : State := on (up .shadow)
   let a : At := at0
   let l := s.laneAt a
   l.spOn = true) :=
  ⟨by decide +kernel, by decide +kernel, by decide +kernel, by decide +kernel, by decide +kernel,
   ⟨by decide +kernel, by decide +kernel⟩⟩

theorem wit_MessageFrames :
  (let s : State := on ({ up .shadow with net.st := .synced, net.cycleAt := 999904000 })
   let a : At := at0
   let f : RxFrame := framed ({ up .shadow with net.st := .synced, net.cycleAt := 999904000 }) 0 [36, 0, 25, 0, 5, 0, 0, 0, 0, 0, 30, 0] (List.replicate 30 0)
   let l := s.laneAt a
   let p := f.payload
   l.passes f [4] = true ∧ byteAt p 0 = (l.marked f).np 0xB105) ∧
  (let s : State := on ({ up .shadow with params := [⟨0xB150, 1, [1]⟩] })
   let a : At := at0
   let c : CanRx := canned ({ up .shadow with params := [⟨0xB150, 1, [1]⟩] }) 1 0x20000 ([0, 0, 0] ++ leBytes 4 4096)
   let l := s.laneAt a
   let n := c.data.length
   let src := bits c.id 12 8
   let fr := leAt c.data 3 4
   c.port < 2 ∧ l.fwRuns = true ∧ l.p 0xB150 c.port = 1 ∧ c.xl = false ∧ (l.canOf c.port).off = false ∧ 11 ≤ n ∧ n ≤ 64 ∧ c.id % 256 = 0 ∧ c.id < 2 ^ 29 ∧ bit c.id 25 = false ∧ bits c.id 24 19 = l.np 0xB105 ∧ bits c.id 18 17 = l.id.code ∧ bits c.id 16 13 = 0 ∧ byteAt c.data 2 = (l.canOf c.port).epoch ∧ (l.canFreshOf c.port src 0).last < fr ∧ fr ≤ (l.canFreshOf c.port src 0).last + 65536 ∧ (l.canTag c.port (byteAt c.data 2) c.id (c.data.take (n - 4))).toNat = beNat (c.data.drop (n - 4)) ∧ (l.canAccept c.port src 0 fr).canRate c.port src < l.p 0xB154 c.port) ∧
  (let s : State := on ({ up .shadow with net.cycle := 4, mb.reasmNet := [{ host := 0, msgId := 0, next := 0, start := 0, cycle := 0, bcast := false, bytes := [] }] })
   let a : At := at0
   let tr : Transport := .net
   let host : Nat := 0
   let msgId : Nat := 0
   let r : Reasm := { host := 0, msgId := 0, next := 0, start := 0, cycle := 0, bcast := false, bytes := [] }
   let l := s.laneAt a
   (tr = .net ∨ tr = .can) ∧ (l.reasms tr).find? (fun r => r.host == host && r.msgId == msgId) = some r ∧ l.reasmLate tr r = true) :=
  ⟨by decide +kernel, by decide +kernel, by decide +kernel⟩

theorem wit_CanAndDriveLinks :
  (let s : State := on ({ up .shadow with params := [⟨0xB150, 1, [1]⟩] })
   let a : At := at0
   let p : Nat := 1
   let l := s.laneAt a
   let c := l.canOf p
   p < 2 ∧ p < l.ports.can.length ∧ c.off = false ∧ l.p 0xB150 p ≠ 0 ∧ l.fwRuns = true) ∧
  (let s : State := on (up .shadow)
   let a : At := at0
   let m : Msg := msg [1, 0, 0, 0]
   (s.laneAt a).ready 0x75 m = true ∧ m.tr ≠ .can ∧ m.u8 0 < 2) ∧
  (let s : State := on ({ up .shadow with params := [⟨0xB150, 1, [1]⟩] })
   let a : At := at0
   let p : Nat := 1
   let l := s.laneAt a
   let c := l.canOf p
   p < 2 ∧ p < l.ports.can.length ∧ l.fwRuns = true ∧ l.pwm.halted = false ∧ l.st ≠ .failSilent ∧ l.p 0xB150 p ≠ 0 ∧ c.off = false ∧ l.p 0xB153 p ≠ 0 ∧ c.lastMult ≠ some (l.canIndex p)) ∧
  (let s : State := on ({ up .shadow with ports.dl := [{}, {  }], params := [⟨0xB140, 1, [1]⟩] })
   let a : At := at0
   let k : Nat := 1
   let l := s.laneAt a
   let x := l.dlink k
   let t0 := l.cycRef.2 + us (l.p 0xB141)
   let n := l.cyc * (l.cycNom / us 50) + (l.now - t0) / us 50
   k < 2 ∧ k < l.ports.dl.length ∧ l.p 0xB140 k ≠ 0 ∧ l.fwRuns = true ∧ l.st.driving = true ∧ t0 ≤ l.now ∧ x.frame ≠ some n) ∧
  (let s : State := on ({ up .shadow with ports.dl := [{}, { rxAlive := some 255, good := 19, lost := true }], params := [⟨0xB140, 1, [1]⟩] })
   let a : At := at0
   let k : Nat := 1
   let b : List Byte := (0x12 :: List.replicate 29 0) ++ leBytes 2 (crc16 (0x12 :: List.replicate 29 0)).toNat
   let l := s.laneAt a
   let x := l.dlink k
   k < 2 ∧ k < l.ports.dl.length ∧ l.p 0xB140 k ≠ 0 ∧ l.fwRuns = true ∧ b.length = 32 ∧ leAt b 30 2 = (crc16 (b.take 30)).toNat ∧ byteAt b 0 = 0x12 ∧ (∀ v, x.rxAlive = some v → (byteAt b 2 + 256 - v) % 256 = 1)) ∧
  (let s : State := on ({ up .shadow with ports.dl := [{}, { rxAlive := some 0, good := 19, lost := true }], params := [⟨0xB140, 1, [1]⟩] })
   let a : At := at0
   let k : Nat := 1
   let b : List Byte := (0x12 :: List.replicate 29 0) ++ leBytes 2 (crc16 (0x12 :: List.replicate 29 0)).toNat
   let l := s.laneAt a
   let x := l.dlink k
   k < 2 ∧ k < l.ports.dl.length ∧ l.p 0xB140 k ≠ 0 ∧ l.fwRuns = true ∧ b.length = 32 ∧ leAt b 30 2 = (crc16 (b.take 30)).toNat ∧ byteAt b 0 = 0x12 ∧ x.rxAlive = some (byteAt b 2)) ∧
  (let s : State := on ({ up .shadow with ports.dl := [{}, { lost := false }], params := [⟨0xB140, 1, [1]⟩] })
   let a : At := at0
   let k : Nat := 1
   let l := s.laneAt a
   let x := l.dlink k
   k < 2 ∧ k < l.ports.dl.length ∧ l.p 0xB140 k ≠ 0 ∧ x.lost = false ∧ x.lastAt + us 50 * l.p 0xB142 k ≤ l.now) :=
  ⟨by decide +kernel, by decide +kernel, by decide +kernel, by decide +kernel, by decide +kernel,
   ⟨by decide +kernel, by decide +kernel⟩⟩

theorem wit_PeerBlocks :
  (let s : State := on ({ up .shadow with link := [{}, { up := true }, { up := true }], red.auth := 3 })
   let a : At := at0
   let p : LaneId := .c
   let b : Block := { kind := 0x10, payload := [0, 0, 0, 0, 0, 0, 0, 0, 0, 0, 0, 0] }
   let l := s.laneAt a
   l.hears p b 0x10 = true ∧ l.st = .shadow ∧ l.red.auth = p.code) ∧
  (let s : State := on ({ up .shadow with link := [{}, { up := true }, { up := true }] })
   let a : At := at0
   let p : LaneId := .c
   let b : Block := { kind := 0x16, payload := [0, 0, 0, 0, 0, 0, 0, 0, 0, 0, 0, 0] }
   let l := s.laneAt a
   l.hears p b 0x16 = true) ∧
  (let s : State := on ({ up .shadow with link := [{}, { up := true }, { up := true }] })
   let a : At := at0
   let p : LaneId := .c
   let b : Block := { kind := 0x17, payload := [3, 1, 0, 0, 0, 0, 0, 0, 0, 0, 0, 0] }
   let l := s.laneAt a
   let d := b.payload
   l.hears p b 0x17 = true ∧ l.fn.notice.contains (byteAt d 0, byteAt d 1) = false) ∧
  (let s : State := on ({ up .shadow with link := [{}, { up := true }, { up := true }], red.auth := 3 })
   let a : At := at0
   let p : LaneId := .c
   let b : Block := { kind := 0x20, payload := [0, 0, 0, 0, 0, 0, 0, 0, 0, 0, 0, 0] }
   let l := s.laneAt a
   l.hears p b 0x20 = true ∧ l.red.auth = p.code ∧ (l.st = .shadow ∨ l.st = .sync ∧ l.red.rejoin.step = 3)) ∧
  (let s : State := on ({ up .shadow with link := [{}, { up := true }, { up := true }], net.chLost := true, fn.fn := (List.replicate 5 {}).set 4 { enabled := true } })
   let a : At := at0
   let p : LaneId := .c
   let b : Block := { kind := 0x26, payload := [4, 0, 0, 0, 0, 0, 0, 0, 0, 0, 0, 0] }
   let l := s.laneAt a
   let d := b.payload
   l.hears p b 0x26 = true ∧ l.net.chLost = true ∧ l.fnRuns = true ∧ byteAt d 0 = 4 ∧ (l.func 4).enabled = true ∧ ffinite (.ofNat 32 (leAt d 2 4)) = true ∧ ffinite (.ofNat 32 (leAt d 6 4)) = true) :=
  ⟨by decide +kernel, by decide +kernel, by decide +kernel, by decide +kernel, by decide +kernel⟩

theorem wit_Votes :
  (let l : Lane := { up .shadow with red.peer := List.replicate 3 { cmp := List.replicate 8 (some 5) } }
   let x : LaneId := .a
   let y : LaneId := .b
   let c : Nat := 7
   let idx : Nat := 0
   let u : Int := 5
   let v : Int := 5
   l.cmpVal x c idx = some u ∧ l.cmpVal y c idx = some v) ∧
  (let l : Lane := { up .shadow with id := .b, link := [{ up := true }, {}, { up := true }], red.peer := [{ known := true, health := 0x52000000 }, {}, { known := true, health := 0x62000000 }], red.mirOk := true, sns.latch := List.replicate 47 0 ++ [0x80000800, 0x80000155], red.disAB := List.replicate 8 5, red.disBC := List.replicate 8 5 }
   let x : LaneId := .a
   let y : LaneId := .b
   let z : LaneId := .c
   let c : Nat := 7
   l.st = .shadow ∧ [LaneId.a, .b, .c].filter (l.votes c) = [x, y, z] ∧ l.disagree x y c = true ∧ l.disagree y z c = true ∧ l.disagree z x c = false ∧ y = l.id) ∧
  (let l : Lane := { up .shadow with link := [{}, { up := true }, { up := true }], red.peer := [{}, { known := true, health := 0x52000000 }, { known := true, health := 0x62000000 }], red.mirOk := true, sns.latch := List.replicate 47 0 ++ [0x80000800, 0x80000155], red.disAB := List.replicate 8 5, red.disBC := List.replicate 8 5, red.auth := 3 }
   let x : LaneId := .a
   let y : LaneId := .b
   let z : LaneId := .c
   let c : Nat := 7
   l.st = .shadow ∧ [LaneId.a, .b, .c].filter (l.votes c) = [x, y, z] ∧ l.disagree x y c = true ∧ l.disagree y z c = true ∧ l.disagree z x c = false ∧ y ≠ l.id ∧ l.red.auth ≠ y.code) ∧
  (let l : Lane := { up .shadow with link := [{}, { up := true }, { up := true }], red.peer := [{}, { known := true, health := 0x52000000 }, {}], red.mirOk := true, sns.latch := List.replicate 47 0 ++ [0x80000800, 0x80000155], red.disAB := List.replicate 8 5 }
   let x : LaneId := .a
   let y : LaneId := .b
   let c : Nat := 7
   l.st = .shadow ∧ [LaneId.a, .b, .c].filter (l.votes c) = [x, y] ∧ l.disagree x y c = true ∧ l.red.voteTold.getD c 0 ≠ 2) ∧
  (let l : Lane := (on ({ up .authority with link := [{}, { up := true }, { up := true }] })).laneAt at0
   let x : LaneId := .c
   let s : State := on ({ up .authority with link := [{}, { up := true }, { up := true }] })
   let a : At := at0
   let b : Block := { kind := 0x15, payload := [1, 0, 0, 0, 0, 0, 0, 0, 0, 0, 0, 0] }
   l = s.laneAt a ∧ l.hears x b 0x15 = true ∧ (l.st = .shadow ∨ l.st = .authority) ∧ byteAt b.payload 0 = l.id.code) ∧
  (let s : State := on ({ up .sync with link := [{}, { up := true }, { up := true }], params := [⟨0x7100, 31, [1]⟩] })
   let a : At := at0
   let p : LaneId := .c
   let b : Block := { kind := 0x11, payload := [1, 0, 0, 0, 0, 0, 0, 0, 0, 0, 0, 0] }
   let l := s.laneAt a
   let d := b.payload
   l.hears p b 0x11 = true ∧ l.st = .sync ∧ byteAt d 1 < l.chains.length ∧ (l.peer p).cmpIdx ≠ byteAt d 0) ∧
  (let s : State := on ({ up .shadow with link := [{}, { up := true }, { up := true }], mot.slot := (List.replicate 8 {}).set 7 { cfg := { kind := .stepper } }, red.pairM := (List.replicate 8 none).set 7 (some 64), params := [⟨0x8140, 7, [3]⟩] })
   let a : At := at0
   let p : LaneId := .c
   let b : Block := { kind := 0x25, payload := [7, 0, 0, 0, 0, 0, 0, 0, 0, 0, 0, 0] }
   let k : Nat := 7
   let own : Int := 64
   let l := s.laneAt a
   let d := b.payload
   l.hears p b 0x25 = true ∧ byteAt d 0 = k ∧ k < 8 ∧ (l.motor k).cfg.kind = .stepper ∧ l.p 0x8140 k = p.code ∧ l.red.pairM.getD k none = some own ∧ (own - sext 32 (leAt d 2 4)).natAbs ≤ l.p 0x8141 k) ∧
  (let s : State := on ({ up .shadow with link := [{}, { up := true }, { up := true }], net.st := .synced })
   let a : At := at0
   let p : LaneId := .c
   let b : Block := { kind := 0x18, payload := [0, 0, 0, 0, 0, 0, 0, 0, 0, 0, 0, 0] }
   let l := s.laneAt a
   l.hears p b 0x18 = true ∧ l.net.st = .synced) :=
  ⟨by decide +kernel, by decide +kernel, by decide +kernel, by decide +kernel, by decide +kernel,
   ⟨by decide +kernel, by decide +kernel, by decide +kernel⟩⟩

theorem wit_Authority :
  (let s : State := on ({ up .shadow with link := [{}, { up := true }, { up := true }], red.auth := 2 })
   let a : At := at0
   let p : LaneId := .c
   let b : Block := { kind := 0x12, payload := [0, 0, 0, 0, 0, 0, 0, 0, 0, 0, 0, 0] }
   let l := s.laneAt a
   l.hears p b 0x12 = true ∧ l.red.auth ≠ 0 ∧ l.red.auth ≠ p.code) ∧
  (let s : State := on ({ up .shadow with link := [{}, { up := true }, { up := true }], red.auth := 3 })
   let a : At := at0
   let p : LaneId := .c
   let b : Block := { kind := 0x12, payload := [0, 0, 0, 0, 0, 0, 0, 0, 0, 0, 0, 0] }
   let l := s.laneAt a
   let free := l.bist.run = none ∧ l.gd.test = none
   l.hears p b 0x12 = true ∧ l.red.auth ≠ 0 ∧ l.red.auth = p.code ∧ l.st = .shadow ∧ free) ∧
  (let s : State := on ({ up .shadow with link := [{}, { up := true }, { up := true }], params := [⟨0xA100, 0, [57]⟩] })
   let a : At := at0
   let p : LaneId := .c
   let b : Block := { kind := 0x13, payload := [0, 0, 0, 0, 0, 0, 0, 3, 0, 0, 0, 0] }
   let l := s.laneAt a
   let d := b.payload
   let free := l.bist.run = none ∧ l.gd.test = none
   l.hears p b 0x13 = true ∧ byteAt d 7 = p.code ∧ (l.peer p).outVoted = false ∧ l.st = .shadow ∧ l.senior p l.id = true ∧ free) ∧
  (let s : State := on ({ up .authority with link := [{}, { up := true }, { up := true }] })
   let a : At := at0
   let p : LaneId := .c
   let b : Block := { kind := 0x13, payload := [0, 0, 0, 0, 0, 0, 0, 3, 0, 0, 0, 0] }
   let l := s.laneAt a
   let d := b.payload
   l.hears p b 0x13 = true ∧ byteAt d 7 = p.code ∧ (l.peer p).outVoted = false ∧ l.st = .authority) ∧
  (let s : State := on ({ up .shadow with link := [{}, { up := true }, { up := true }], red.claim := some { cycle := 6, period := 0, startAt := 0 } })
   let a : At := at0
   let p : LaneId := .c
   let b : Block := { kind := 0x14, payload := [6, 0, 0, 0, 0, 0, 1, 1, 0, 0, 0, 0] }
   let c : Claim := { cycle := 6, period := 0, startAt := 0 }
   let l := s.laneAt a
   let d := b.payload
   let free := l.bist.run = none ∧ l.gd.test = none
   l.hears p b 0x14 = true ∧ l.st = .shadow ∧ l.red.claim = some c ∧ byteAt d 6 = l.id.code ∧ leAt d 0 6 = c.cycle ∧ byteAt d 7 = 1 ∧ free) ∧
  (let s : State := on ({ up .authority with link := [{}, { up := true }, { up := true }] })
   let a : At := at0
   let p : LaneId := .c
   let b : Block := { kind := 0x21, payload := [0, 0, 0, 0, 0, 0, 0, 0, 0, 0, 0, 0] }
   let l := s.laneAt a
   l.hears p b 0x21 = true ∧ l.st = .authority) ∧
  (let s : State := on ({ up .sync with link := [{}, { up := true }, { up := true }], boot.idOk := true, red.rejoin := { sent := true, step := 1, auth := 3 } })
   let a : At := at0
   let p : LaneId := .c
   let b : Block := { kind := 0x23, payload := ({ up .sync with link := [{}, { up := true }, { up := true }], boot.idOk := true, red.rejoin := { sent := true, step := 1, auth := 3 } } : Lane).ackBytes }
   let l := s.laneAt a
   let d := b.payload
   let x := l.heard p b false
   let r := l.red.rejoin
   l.hears p b 0x23 = true ∧ (l.lnk p).up = true ∧ l.st = .sync ∧ l.pwr.step = .done ∧ r.sent = true ∧ r.step = 1 ∧ r.auth = p.code ∧ l.pwr.restore = none ∧ l.boot.idOk = true ∧ leAt d 0 6 = l.cyc ∧ byteAt d 6 = l.le.outerIdx % 256 ∧ byteAt d 7 = (l.mirMap.length + 255) % 256 ∧ leAt d 8 4 = l.mapCrc.toNat ∧ x.senOk = true) :=
  ⟨by decide +kernel, by decide +kernel, by decide +kernel, by decide +kernel, by decide +kernel,
   ⟨by decide +kernel, by decide +kernel⟩⟩

theorem wit_RedundancyInstants :
  (let s : State := on (up .follower)
   let a : At := at0
   let ds : List (Option DsRes) := []
   let l := s.laneAt a
   let y := ({ l.blocksTaken with red := { l.red with peer := l.red.peer.map (fun v => { v with ignored := v.outVoted }), srcBad := l.outerLost, chainBad := l.chainsLost, sensor := l.outerLost || l.slotSrcLost } } : Lane).outerLoops ds
   l.pwm.halted = false ∧ l.fwRuns = true ∧ l.st = .follower ∧ y.st = .follower) ∧
  (let s : State := on ({ up .sync with red.rejoin := { sent := true, step := 1, tries := 2, startAt := 996000000 } })
   let a : At := at0
   let l := s.laneAt a
   let r := l.red.rejoin
   l.st = .sync ∧ r.sent = true ∧ r.step = 1 ∧ r.spent = false ∧ r.startAt + ms 10 ≤ l.now ∧ l.p 0xA121 ≤ r.tries + 1) ∧
  (let s : State := on ({ up .authority with red.joinAt := [none, none, some 992000000] })
   let a : At := at0
   let p : LaneId := .c
   let t : Nat := 992000000
   let l := s.laneAt a
   l.red.joinAt.getD p.idx none = some t ∧ t + ms (l.p 0xA122) ≤ l.now) ∧
  (let s : State := on ({ up .shadow with red.failAt := some 0 })
   let a : At := at0
   let l := s.laneAt a
   l.red.failAt.isSome = true ∧ l.red.lateTold = false ∧ l.red.refAt + 2 * l.outerTicks < l.now) ∧
  (let s : State := on (up .limp)
   let a : At := at0
   let l := s.laneAt a
   l.st = .limp ∧ l.limpDrive = false) ∧
  (let s : State := on ({ up .sync with boot.idOk := true, net.chLost := true })
   let a : At := at0
   let l := s.laneAt a
   l.st = .sync ∧ l.pwr.step = .done ∧ (∀ q ∈ l.peers, l.peerDrives q = false) ∧ l.tapDrives = false ∧ l.boot.idOk = true ∧ l.senOk = true ∧ l.chanReady = true ∧ l.pwr.restore = none) :=
  ⟨by decide +kernel, by decide +kernel, by decide +kernel, by decide +kernel, by decide +kernel, by decide +kernel⟩

theorem wit_LostLinks :
  (let s : State := on ({ up .shadow with link := [{}, {}, { up := true, seqRx := some 7, lastValid := 999999800 }] })
   let a : At := at0
   let p : LaneId := .c
   let b : Block := { seq := 7 }
   let q : Byte := 7
   let l := s.laneAt a
   p ≠ l.id ∧ l.linkOn = true ∧ (l.lnk p).seqRx = some q ∧ (l.lnk p).inOrder q b.seq l.now = false) ∧
  (let s : State := on (up .shadow)
   let a : At := at0
   let p : LaneId := .c
   let l := s.laneAt a
   p ≠ l.id ∧ l.linkOn = true ∧ (recent l.now (ms 1) (l.lnk p).badTimes).length < 16) ∧
  (let s : State := on ({ up .follower with link := [{}, { up := true }, { up := true }] })
   let a : At := at0
   let p : LaneId := .c
   let l := s.laneAt a
   let k := l.lnk p
   k.lastValid + us 20 ≤ l.now ∧ l.linkUp p = true ∧ l.st ≠ .shadow ∧ l.st ≠ .authority) ∧
  (let s : State := on ({ up .shadow with link := [{}, { up := true }, { up := true }], red.peer := [{}, {}, { known := true }] })
   let a : At := at0
   let p : LaneId := .c
   let q : Byte := 0
   let l := s.laneAt a
   let k := l.lnk p
   k.lastValid + us 20 ≤ l.now ∧ l.linkUp p = true ∧ (l.st = .shadow ∨ l.st = .authority) ∧ (l.peer p).known = true ∧ (l.peer p).gone = false ∧ l.red.split = none ∧ (∀ q, q ≠ p → q ≠ l.id → l.linkUp q = false ∨ (l.peer q).gone = true ∨ (l.peer q).known = false)) ∧
  (let s : State := on ({ up .island with link := [{}, {}, { cleanSince := 999600000, lastValid := 999992000, shook := false }] })
   let a : At := at0
   let p : LaneId := .c
   let l := s.laneAt a
   let k := l.lnk p
   p ≠ l.id ∧ k.up = false ∧ l.linkOn = true ∧ k.cleanSince + ms 1 ≤ l.now ∧ k.shook = false) ∧
  (let s : State := on ({ up .shadow with link := [{}, {}, { cleanSince := 999600000, lastValid := 999992000, shook := true }] })
   let a : At := at0
   let p : LaneId := .c
   let l := s.laneAt a
   let k := l.lnk p
   p ≠ l.id ∧ k.up = false ∧ l.linkOn = true ∧ k.cleanSince + ms 1 ≤ l.now ∧ k.shook = true ∧ l.st ≠ .follower ∧ l.st ≠ .island) ∧
  (let s : State := on ({ up .island with link := [{}, {}, { cleanSince := 999600000, lastValid := 999992000, shook := true }] })
   let a : At := at0
   let p : LaneId := .c
   let l := s.laneAt a
   let k := l.lnk p
   p ≠ l.id ∧ k.up = false ∧ l.linkOn = true ∧ k.cleanSince + ms 1 ≤ l.now ∧ k.shook = true ∧ l.st = .island ∧ l.red.split = none) ∧
  (let s : State := on ({ up .authority with link := [{}, {}, { cleanSince := 999600000, lastValid := 999992000 }] })
   let a : At := at0
   let p : LaneId := .c
   let b : Block := { kind := 0x22, payload := List.replicate 12 0 }
   let l := s.laneAt a
   let k := l.lnk p
   p ≠ l.id ∧ k.up = false ∧ l.linkOn = true ∧ k.cleanSince + ms 1 ≤ l.now ∧ l.hears p b 0x22 = true) ∧
  (let s : State := on ({ up .authority with link := [{}, { up := true }, { up := true }] })
   let a : At := at0
   let p : LaneId := .c
   let b : Block := { kind := 0x22, payload := [0, 0, 0, 0, 0, 0, 0, 0, 0, 0, 0, 0] }
   let l := s.laneAt a
   let k := l.lnk p
   l.hears p b 0x22 = true ∧ l.st = .authority ∧ k.up = true) :=
  ⟨by decide +kernel, by decide +kernel, by decide +kernel, ⟨by decide +kernel, by decide +kernel, by decide +kernel, by decide +kernel, by decide +kernel, by decide +kernel, fun q => by cases q <;> decide +kernel⟩, by decide +kernel,
   ⟨by decide +kernel, by decide +kernel, by decide +kernel, by decide +kernel⟩⟩

theorem wit_LinksAndSplits :
  (let s : State := on ({ up .authority with net.cycle := 2, red.split := some ⟨0, true, [2, 3]⟩ })
   let a : At := at0
   let x : Split := ⟨0, true, [2, 3]⟩
   let l := s.laneAt a
   (l.st = .shadow ∨ l.st = .authority) ∧ l.red.split = some x ∧ x.startCycle + l.p 0xA111 ≤ l.cyc ∧ x.live.length ≠ 1 ∧ l.tapHeard = false ∧ l.hostAlone = false ∧ (∀ q ∈ l.peers, l.linkUp q = false)) ∧
  (let s : State := on ({ up .authority with net.cycle := 2, red.split := some ⟨0, true, [3]⟩ })
   let a : At := at0
   let p : LaneId := .c
   let x : Split := ⟨0, true, [3]⟩
   let l := s.laneAt a
   (l.st = .shadow ∨ l.st = .authority) ∧ l.red.split = some x ∧ x.startCycle + l.p 0xA111 ≤ l.cyc ∧ x.live = [p.code] ∧ l.senior l.id p = true ∧ x.wasAuth = true ∧ l.st = .authority) ∧
  (let s : State := on (up .follower)
   let a : At := at0
   let l := s.laneAt a
   l.st = .follower ∧ l.tapHeard = false) ∧
  (let s : State := on ({ up .island with now := 20000000000, red.graceOn := true, red.islandAt := some 8000000000 })
   let a : At := at0
   let t : Nat := 8000000000
   let l := s.laneAt a
   l.st = .island ∧ l.red.graceOn = true ∧ l.red.islandAt = some t ∧ t + sec (l.p 0xA110) ≤ l.now) ∧
  (let s : State := on ({ up .authority with red.peer := [{}, {}, { health := 0xB0000000 }] })
   let a : At := at0
   let p : LaneId := .c
   let m : Msg := msg [3, 0, 0, 0]
   let l := s.laneAt a
   let l := (s.laneAt a).taken 0x61 m
   (s.laneAt a).ready 0x61 m = true ∧ LaneId.ofCode (m.u8 0) = some p ∧ p ≠ l.id ∧ healthState (l.peer p).health = 11) ∧
  (let s : State := on ({ up .failSilent with link := [{}, { up := true }, { up := true }] })
   let a : At := at0
   let p : LaneId := .c
   let l := s.laneAt a
   let k := l.lnk p
   let b : Block := { kind := 0x24, seq := (match k.seqRx with | some q => q + 1 | none => 0), payload := b8 l.id.code :: List.replicate 11 0x5A }
   l.hears p b 0x24 = true ∧ l.st = .failSilent) ∧
  (let s : State := on (up .authority)
   let a : At := at0
   let m : Msg := msg [0, 0, 0, 0]
   let l := s.laneAt a
   let l := (s.laneAt a).taken 0x62 m
   (s.laneAt a).ready 0x62 m = true ∧ fgt (fabs (m.f32 0)) (fq 1 10) = false ∧ l.classCounts.sum < 2 ∧ l.st = .authority) :=
  ⟨by decide +kernel, by decide +kernel, by decide +kernel, by decide +kernel, by decide +kernel,
   ⟨by decide +kernel, by decide +kernel⟩⟩

theorem wit_NetworkCommands :
  (let s : State := on ({ up .sync with net.st := .listen, params := [⟨0xB109, 0, [1]⟩] })
   let a : At := at0
   let m : Msg := msg []
   let l := (s.laneAt a).taken 0x71 m
   (s.laneAt a).ready 0x71 m = true ∧ l.net.csKey = none ∧ l.np 0xB109 ≠ 0 ∧ (l.net.st = .offline ∨ l.net.st = .listen)) ∧
  (let s : State := on ({ up .shadow with net.st := .synced, net.acting := true, params := [⟨0xB108, 0, [1]⟩, ⟨0xB109, 0, [1]⟩] })
   let a : At := at0
   let m : Msg := msg []
   let l := (s.laneAt a).taken 0x71 m
   (s.laneAt a).ready 0x71 m = true ∧ l.net.csKey = none ∧ l.np 0xB109 ≠ 0 ∧ l.net.st = .synced ∧ l.net.acting = true ∧ l.np 0xB108 = 1) ∧
  (let s : State := on ({ up .shadow with params := [⟨0xB107, 0, [3, 0, 0, 9]⟩] })
   let a : At := at0
   let m : Msg := msg [9, 0, 1, 0]
   let k : Nat := 3
   let l := (s.laneAt a).taken 0x72 m
   (s.laneAt a).ready 0x72 m = true ∧ (l.nps 0xB107).idxOf? (m.u16 0) = some k ∧ 3 < m.u16 0 ∧ l.i1 = false ∧ m.u8 2 ≤ 1) ∧
  (let s : State := on (up .shadow)
   let a : At := at0
   let m : Msg := msg [1, 1, 0, 0, 0, 0, 0, 0, 0, 0, 0, 0]
   let l := (s.laneAt a).taken 0x73 m
   (s.laneAt a).ready 0x73 m = true ∧ m.u8 0 ≤ 1 ∧ m.u8 1 = (l.chan (m.u8 0)).epoch + 1 ∧ (l.chan (m.u8 0)).next = none) ∧
  (let s : State := on (up .shadow)
   let a : At := at0
   let m : Msg := msg []
   (s.laneAt a).ready 0x74 m = true) ∧
  (let s : State := on ({ up .off with pwr := { pstate := 3, aonOn := true }, params := [⟨0xC101, 0, [0]⟩] })
   let a : At := at0
   let port : Nat := 1
   let l := s.laneAt a
   port < 2 ∧ l.detectorsOn = true ∧ l.wakeArmed (4 + port) = false) :=
  ⟨by decide +kernel, by decide +kernel, by decide +kernel, by decide +kernel, by decide +kernel, by decide +kernel⟩

theorem wit_NetworkCycle :
  (let s : State := on ({ up .shadow with net.st := .synced, net.known := true })
   let a : At := at0
   let l := s.laneAt a
   l.net.st ≠ .offline ∧ l.fwRuns = true ∧ l.net.known = true ∧ l.net.cand = none ∧ l.net.nextAt ≤ l.now) ∧
  (let s : State := on ({ up .shadow with net.st := .synced, net.cycleAt := 999991616, net.grd := (List.replicate 2 {}).set 0 { views := 2, at_ := 999991616 }, params := [⟨0xB107, 0, [3, 0, 0, 0]⟩] })
   let a : At := at0
   let slot : Nat := 3
   let l := s.laneAt a
   l.mayInsert = true ∧ l.net.st = .synced ∧ 0 < slot ∧ slot ≤ l.staticN ∧ (l.nps 0xB107).idxOf? slot = some 0 ∧ l.net.sent.contains slot = false ∧ l.net.cycleAt + l.slotStart slot + l.insDelay ≤ l.now ∧ l.now < l.net.cycleAt + l.cycLen ∧ l.ffSlot ≠ some slot ∧ l.grdNew = false ∧ l.grdStatic slot = true ∧ (l.ownSlot 0).host = false) ∧
  (let s : State := on ({ up .shadow with net.st := .synced, net.cycleAt := 999903616, net.grd := (List.replicate 2 {}).set 0 { views := 2, at_ := 999903616 }, params := [⟨0xB10D, 0, [1]⟩] })
   let a : At := at0
   let slot : Nat := 25
   let payload : List Byte := List.replicate 64 7
   let l := s.laneAt a
   l.net.notice = false ∧ 0 < payload.length ∧ payload.length ≤ 64 ∧ l.dynMay slot payload.length = true ∧ l.grdDyn payload.length = true ∧ (∀ q ∈ [48, 49, 50, 51], (l.q q).items = [])) ∧
  (let s : State := on ({ up .shadow with net.st := .synced, net.cycleAt := 999816000, net.ffNow := some 1, net.ffLast := some 1 })
   let a : At := at0
   let slot : Nat := 1
   let l := s.laneAt a
   l.net.st = .synced ∧ l.net.nitCycle ≠ some l.net.cycle.toNat ∧ l.net.cycleAt + l.cycNom - l.nitLen ≤ l.now ∧ l.net.ffNow = some slot ∧ l.net.ffLast = some slot ∧ l.net.delta.natAbs ≤ 40 * l.p 0xB112 ∧ l.net.rate.natAbs ≤ 1000 * l.p 0xB113 ∧ l.net.link0 = false) ∧
  (let s : State := on ({ up .shadow with net.st := .synced, net.cycleAt := 999903616, net.grd := (List.replicate 2 {}).set 0 { views := 2, at_ := 999903616 }, net.claim := .watch, net.claimCnt := 8, params := [⟨0xB10D, 0, [1]⟩] })
   let a : At := at0
   let n : Nat := 25
   let l := s.laneAt a
   l.net.claim = .watch ∧ 8 ≤ l.net.claimCnt ∧ n = l.staticN + (l.now - l.net.cycleAt - l.staticN * l.slotLen) / us 2 + 1 ∧ l.dynMay n 3 = true ∧ l.grdDyn 3 = true ∧ l.net.claimRival = false) ∧
  (let s : State := on ({ up .shadow with net.st := .synced, net.cycleAt := 0, net.claim := .backoff })
   let a : At := at0
   let l := s.laneAt a
   l.net.claim = .backoff ∧ l.net.claimCnt = 0) :=
  ⟨by decide +kernel, by decide +kernel, by decide +kernel, by decide +kernel, by decide +kernel, by decide +kernel⟩

theorem wit_FailedAndControlFrames :
  (let s : State := on ({ up .shadow with net.st := .synced, net.cycleAt := 999904000 })
   let a : At := at0
   let f : RxFrame := {}
   let i : Instr := .dataFrameRx at0 {}
   let l := s.laneAt a
   let x := l.parse f
   let bad := l.timed = true ∧ l.netOn = true ∧ f.port < 2 ∧ (l.i1 && f.port != 0) = false ∧ ¬ (x.node = l.np 0xB105 ∧ x.ok = true ∧ f.fcsOk = true ∧ x.slot ≠ 0xFFFF) ∧ (l.secondPass f.port x && f.fcsOk) = false ∧ l.rxFail f x ≠ 0
   bad ∧ i ∈ [.icbexFrameDrop a f, .dataFrameRx a f, .hostStatusRx a f, .claimFrameRx a f, .rejoinFrameRx a f, .mailboxFrameRx a f, .delayReqRx a f, .delayRespRx a f]) ∧
  (let s : State := on ({ up .shadow with net.st := .synced, net.cycleAt := 999904000 })
   let a : At := at0
   let f : RxFrame := {}
   let l := s.laneAt a
   let x := l.parse f
   let bad := l.timed = true ∧ l.netOn = true ∧ f.port < 2 ∧ (l.i1 && f.port != 0) = false ∧ ¬ (x.node = l.np 0xB105 ∧ x.ok = true ∧ f.fcsOk = true ∧ x.slot ≠ 0xFFFF) ∧ (l.secondPass f.port x && f.fcsOk) = false ∧ l.rxFail f x ≠ 0
   bad ∧ 64 < l.net.cnt.length) ∧
  (let s : State := on ({ up .shadow with net.st := .synced, net.cycleAt := 999904000 })
   let a : At := at0
   let f : RxFrame := framed ({ up .shadow with net.st := .synced, net.cycleAt := 999904000 }) 0 [37, 0, 25, 0, 5, 0, 0, 0, 0, 0, 30, 0] (List.replicate 30 0)
   let l := s.laneAt a
   let d := f.payload
   l.passes f [5] = true ∧ (l.net.claimSlot ≠ leAt d 0 2 ∨ l.net.claim ≠ .sent ∧ l.net.claim ≠ .watch)) ∧
  (let s : State := on ({ up .shadow with net.st := .synced, net.cycleAt := 999904000, net.claim := .watch })
   let a : At := at0
   let f : RxFrame := framed ({ up .shadow with net.st := .synced, net.cycleAt := 999904000, net.claim := .watch }) 0 [37, 0, 25, 0, 5, 0, 0, 0, 0, 0, 30, 0] (List.replicate 30 0)
   let l := s.laneAt a
   let d := f.payload
   l.passes f [5] = true ∧ l.net.claim = .watch ∧ l.net.claimSlot = leAt d 0 2) ∧
  (let s : State := on ({ up .shadow with net.st := .synced, net.cycleAt := 999904000, net.claim := .sent })
   let a : At := at0
   let f : RxFrame := framed ({ up .shadow with net.st := .synced, net.cycleAt := 999904000, net.claim := .sent }) 0 [37, 0, 25, 0, 5, 0, 0, 0, 0, 0, 30, 0] (List.replicate 30 0)
   let l := s.laneAt a
   let d := f.payload
   l.passes f [5] = true ∧ l.net.claim = .sent ∧ l.net.claimSlot = leAt d 0 2) ∧
  (let s : State := on ({ up .shadow with net.st := .synced, net.cycleAt := 999904000 })
   let a : At := at0
   let f : RxFrame := framed ({ up .shadow with net.st := .synced, net.cycleAt := 999904000 }) 0 [38, 0, 25, 0, 5, 0, 0, 0, 0, 0, 30, 0] (List.replicate 30 0)
   let l := s.laneAt a
   let x := l.parse f
   l.passes f [6] = true ∧ l.net.st = .synced ∧ x.node ≠ l.np 0xB105) :=
  ⟨⟨by decide +kernel, by simp⟩, by decide +kernel, by decide +kernel, by decide +kernel, by decide +kernel, by decide +kernel⟩

theorem wit_LinksOfTheLoop :
  (let port : Nat := 1
   port < 2) ∧
  (let s : State := on ({ up .shadow with net.st := .synced, net.cycleAt := 0 })
   let a : At := at0
   let port : Nat := 1
   let l := s.laneAt a
   port < 2 ∧ (if port = 0 then l.net.link0 else l.net.link1) = false ∧ (l.net.st = .synced ∨ l.net.st = .coldstart)) ∧
  (let s : State := on (up .shadow)
   let a : At := at0
   let port : Nat := 1
   let l := s.laneAt a
   port < 2 ∧ (if port = 0 then l.net.link0 else l.net.link1) = false ∧ l.net.st ≠ .synced ∧ l.net.st ≠ .coldstart) ∧
  (let s : State := on ({ up .shadow with net.st := .synced, net.cycleAt := 999800000, net.grd := (List.replicate 2 {}).set 1 { views := 2, at_ := 999800000 } })
   let a : At := at0
   let f : RxFrame := framed ({ up .shadow with net.st := .synced, net.cycleAt := 999800000 }) 1 [39, 0, 255, 255, 5, 0, 0, 0, 0, 0, 30, 0] (List.replicate 30 0)
   let l := s.laneAt a
   let lo := l.answerNit.1
   let hi := l.answerNit.2.1
   let off (t : Nat) : Nat := (l.grdOff 1 + (t - l.now)) % max 1 l.asGuard.cycNom
   l.passes f [7] = true ∧ f.port = 1 ∧ l.i1 = false ∧ l.net.st = .synced ∧ l.mayInsert = true ∧ l.grdNew = false ∧ lo < hi ∧ l.grdNit 1 (off lo) = true ∧ l.grdNit 1 (off hi) = true ∧ l.linkLocals 1 lo < 2) ∧
  (let s : State := on ({ up .shadow with net.st := .synced, net.cycleAt := 999800000 })
   let a : At := at0
   let f : RxFrame := framed ({ up .shadow with net.st := .synced, net.cycleAt := 999800000 }) 1 [39, 0, 255, 255, 5, 0, 0, 0, 0, 0, 30, 0] (List.replicate 30 0)
   let l := s.laneAt a
   let lo := l.answerNit.1
   let hi := l.answerNit.2.1
   let off (t : Nat) : Nat := (l.grdOff 1 + (t - l.now)) % max 1 l.asGuard.cycNom
   l.passes f [7] = true ∧ f.port = 1 ∧ l.i1 = false ∧ l.net.st = .synced ∧ l.mayInsert = true ∧ l.grdNew = false ∧ lo < hi ∧ (l.grdNit 1 (off lo) = false ∨ 2 ≤ l.linkLocals 1 lo) ∧ (recent l.now (sec 1) l.net.cuts).length < 3) ∧
  (let s : State := on ({ up .shadow with net.st := .synced, net.cycleAt := 999800000 })
   let a : At := at0
   let f : RxFrame := framed ({ up .shadow with net.st := .synced, net.cycleAt := 999800000 }) 0 [40, 0, 255, 255, 5, 0, 0, 0, 0, 0, 30, 0] (List.replicate 30 0)
   let l := s.laneAt a
   let d := f.payload
   let v : Int := (((l.now : Int) - l.net.reqAt) - ((leAt d 10 8 : Int) - leAt d 2 8)) / 2
   l.passes f [8] = true ∧ f.port = 0 ∧ l.i1 = false ∧ leAt d 0 2 = l.net.reqNo ∧ (l.net.dlyOld = true → (v - l.net.dly.sum / max 1 (l.net.dly.length : Int)).natAbs ≤ 2)) :=
  ⟨by decide +kernel, by decide +kernel, by decide +kernel, by decide +kernel, by decide +kernel, by decide +kernel⟩

theorem wit_NetworkFrames :
  (let s : State := on ({ up .shadow with net.st := .synced, net.cycleAt := 0, net.link1 := true })
   let a : At := at0
   let f : RxFrame := {}
   let q : Nat := 1
   let short : Option Nat := none
   let l := s.laneAt a
   let x := l.parse f
   let t := l.now + 384
   l.st ≠ .off ∧ l.st ≠ .waking ∧ l.st ≠ .boot ∧ (x.ok = true → x.slot ≠ 0xFFFF) ∧ l.net.joinPort ≠ some f.port ∧ l.relayTo f.port = some q ∧ l.ring = false ∧ (∀ o ∈ l.net.tx, o.kind = .static_ → o.port = q → o.t ≤ t → o.stop ≤ t) ∧ l.grdRelay f q = some short) ∧
  (let s : State := on ({ up .shadow with net.st := .synced, net.cycleAt := 1000000000 })
   let a : At := at0
   let f : RxFrame := framed ({ up .shadow with net.st := .synced, net.cycleAt := 1000000000 }) 0 [33, 0, 1, 0, 5, 0, 0, 0, 0, 0, 30, 0] (List.replicate 30 0)
   let l := s.laneAt a
   l.passes f [1] = true ∧ l.net.st = .synced ∧ l.net.claim = .none) ∧
  (let s : State := on ({ up .shadow with net.st := .synced, net.cycleAt := 1000000000 })
   let a : At := at0
   let f : RxFrame := framed ({ up .shadow with net.st := .synced, net.cycleAt := 1000000000 }) 0 [34, 0, 1, 0, 5, 0, 0, 0, 0, 0, 30, 0] (List.replicate 30 0)
   let l := s.laneAt a
   let x := l.parse f
   l.passes f [2] = true ∧ x.slot ≠ 0xFFFF ∧ l.net.st = .synced ∧ l.net.acting = false ∧ l.net.ffNow = none ∧ l.net.joinPort ≠ some f.port ∧ (match l.ffSlot with | some r => decide (x.slot < r) | none => true) = true) ∧
  (let s : State := on ({ up .shadow with net.st := .synced, net.cycleAt := 1000000000 })
   let a : At := at0
   let f : RxFrame := framed ({ up .shadow with net.st := .synced, net.cycleAt := 1000000000 }) 0 [35, 0, 1, 0, 5, 0, 0, 0, 0, 0, 30, 0] (List.replicate 30 0)
   let l := s.laneAt a
   l.passes f [3] = true ∧ l.net.st = .synced) ∧
  (let s : State := on ({ up .shadow with net.tap := [{}, { known := true, base := 999992000 }], params := [⟨0xB107, 0, [3, 0, 0, 0]⟩] })
   let a : At := at0
   let f : RxFrame := framed ({ up .shadow with net.tap := [{}, { known := true, base := 999992000 }], params := [⟨0xB107, 0, [3, 0, 0, 0]⟩] }) 3 [33, 0, 3, 0, 0, 0, 0, 0, 0, 0, 30, 0] (List.replicate 30 0)
   let l := s.laneAt a
   let x := l.parse f
   2 ≤ f.port ∧ (l.i1 = true → f.port = 2) ∧ l.fwRuns = true ∧ l.st = .shadow ∧ l.tapFail f x = 0 ∧ x.ty = 1 ∧ l.moduleSlot x = true ∧ l.net.tapSeen.any (fun e => e.2 == (l.tapOwn f x, x.slot, x.node, x.ty)) = false) :=
  ⟨by decide +kernel, by decide +kernel, by decide +kernel, by decide +kernel, by decide +kernel⟩

theorem wit_Supply :
  (let s : State := on ({ id := .a })
   let a : At := at0
   let mv : Nat := 5501
   let l := s.laneAt a
   l.pwr.aonOn = false ∧ l.pwr.rearmed = true ∧ 5500 < mv ∧ l.st = .off) ∧
  (let s : State := on ({ up .waking with pwr := { aonOn := true, step := .supply } })
   let a : At := at0
   let mv : Nat := 9000
   let l := s.laneAt a
   l.pwr.aonOn = true ∧ l.pwr.step = .supply ∧ 9000 ≤ mv) ∧
  (let s : State := on (up .shadow)
   let a : At := at0
   let mv : Nat := 6999
   let l := s.laneAt a
   mv < 7000 ∧ l.maySave = true ∧ l.pwr.sagAt = none) ∧
  (let s : State := on ({ up .shadow with pwr.sagAt := some 999991201 })
   let a : At := at0
   let mv : Nat := 7501
   let t : Nat := 999991201
   let l := s.laneAt a
   7500 < mv ∧ l.pwr.sagAt = some t ∧ l.now < t + us 22 ∧ l.st ≠ .save) ∧
  (let s : State := on ({ up .shadow with pwr.sagAt := some 999992800 })
   let a : At := at0
   let t : Nat := 999992800
   let l := s.laneAt a
   l.pwr.sagAt = some t ∧ t + us 18 ≤ l.now ∧ l.maySave = true ∧ l.pwr.entry = none ∧ l.bist.run = none) ∧
  (let s : State := on ({ up .save with pwr := { saveImg := some {}, save := some 999000000, aonOn := true } })
   let a : At := at0
   let t : Nat := 999000000
   let c : Chrysalis := {}
   let l := s.laneAt a
   l.st = .save ∧ l.pwr.saveImg = some c ∧ l.pwr.save = some t ∧ l.supplyBack = false) ∧
  (let s : State := on ({ up .save with pwr := { saveImg := some {}, save := some 999000000, aonOn := true } })
   let a : At := at0
   let c : Chrysalis := {}
   let l := s.laneAt a
   l.st = .save ∧ l.pwr.saveImg = some c) ∧
  (let s : State := on ({ up .save with pwr := { goodAt := some 999600000 } })
   let a : At := at0
   let l := s.laneAt a
   l.st = .save ∧ l.pwr.saveImg = none ∧ l.supplyBack = true) ∧
  (let s : State := on ({ up .shadow with pwr.regAt := some 920000000 })
   let a : At := at0
   let t : Nat := 920000000
   let l := s.laneAt a
   l.pwr.regAt = some t ∧ l.pwr.holdTold = false ∧ t + ms 200 ≤ l.now ∧ l.st ≠ .off) :=
  ⟨by decide +kernel, by decide +kernel, by decide +kernel, by decide +kernel, by decide +kernel,
   ⟨by decide +kernel, by decide +kernel, by decide +kernel, by decide +kernel⟩⟩

theorem wit_Wakes :
  (let s : State := on ({ up .off with pwr := { pstate := 3, aonOn := true } })
   let a : At := at0
   let src : Nat := 6
   let l := s.laneAt a
   l.st = .off ∧ (l.pwr.pstate = 2 ∨ l.pwr.pstate = 3) ∧ l.pwr.entry = none ∧ l.boot.swap = none ∧ l.pwr.burned = false ∧ 2 ≤ src ∧ src ≤ 6 ∧ l.wakeArmed src = true) ∧
  (let s : State := on ({ up .off with pwr := { pstate := 3, aonOn := true } })
   let a : At := at0
   let port : Nat := 1
   let l := s.laneAt a
   l.st = .off ∧ (l.pwr.pstate = 2 ∨ l.pwr.pstate = 3) ∧ l.pwr.entry = none ∧ l.boot.swap = none ∧ l.pwr.burned = false ∧ port < 2 ∧ l.pwr.mayfly = false ∧ l.wakeArmed (2 + port) = true) ∧
  (let s : State := on ({ up .off with pwr := { pstate := 3, aonOn := true } })
   let a : At := at0
   let port : Nat := 1
   let l := s.laneAt a
   l.st = .off ∧ (l.pwr.pstate = 2 ∨ l.pwr.pstate = 3) ∧ l.pwr.entry = none ∧ l.boot.swap = none ∧ l.pwr.burned = false ∧ port < 2 ∧ l.wakeArmed (4 + port) = true) ∧
  (let s : State := on ({ up .off with pwr := { pstate := 3, aonOn := true } })
   let a : At := at0
   let ptr : Nat := 4
   let rd : Bool := false
   let l := s.laneAt a
   l.st = .off ∧ (l.pwr.pstate = 2 ∨ l.pwr.pstate = 3) ∧ l.pwr.entry = none ∧ l.boot.swap = none ∧ l.pwr.burned = false ∧ ptr < 256 ∧ (ptr ≠ 4 ∨ rd = false) ∧ l.wakeArmed 6 = true) ∧
  (let s : State := on ({ up .waking with pwr := { aonOn := true, step := .regulators } })
   let a : At := at0
   let l := s.laneAt a
   l.st = .waking ∧ l.pwr.step = .regulators) ∧
  (let s : State := on ({ up .waking with pwr := { aonOn := true, step := .regulators, retries := 2, stepAt := 998800000 } })
   let a : At := at0
   let reg : Nat := 3
   let l := s.laneAt a
   let r := l.pwr.retries
   l.st = .waking ∧ l.pwr.step = .regulators ∧ reg < 4 ∧ l.pwr.stepAt + (if l.pwr.warm = true then us 500 else ms 3) ≤ l.now ∧ r < 3) ∧
  (let s : State := on ({ up .waking with pwr := { aonOn := true, step := .regulators, retries := 3, stepAt := 998800000 } })
   let a : At := at0
   let reg : Nat := 3
   let l := s.laneAt a
   let r := l.pwr.retries
   l.st = .waking ∧ l.pwr.step = .regulators ∧ reg < 4 ∧ l.pwr.stepAt + (if l.pwr.warm = true then us 500 else ms 3) ≤ l.now ∧ 3 ≤ r) ∧
  (let s : State := on ({ up .waking with pwr := { aonOn := true, step := .regWait, stepAt := 996000000 } })
   let a : At := at0
   let l := s.laneAt a
   l.st = .waking ∧ l.pwr.step = .regWait ∧ l.pwr.stepAt + ms 10 ≤ l.now) ∧
  (let s : State := on ({ up .waking with pwr := { aonOn := true, step := .pll } })
   let a : At := at0
   let l := s.laneAt a
   l.st = .waking ∧ l.pwr.step = .pll) ∧
  (let s : State := on ({ up .waking with pwr := { aonOn := true, step := .pll, stepAt := 999600000 } })
   let a : At := at0
   let l := s.laneAt a
   let r := l.pwr.retries
   l.st = .waking ∧ l.pwr.step = .pll ∧ r = 0 ∧ l.pwr.stepAt + ms 1 ≤ l.now) ∧
  (let s : State := on ({ up .waking with pwr := { aonOn := true, step := .pll, stepAt := 999600000, retries := 1 } })
   let a : At := at0
   let l := s.laneAt a
   let r := l.pwr.retries
   l.st = .waking ∧ l.pwr.step = .pll ∧ r ≠ 0 ∧ l.pwr.stepAt + ms 1 ≤ l.now ∧ bit l.bootOpt 3 = false) ∧
  (let s : State := on (up .island)
   let a : At := at0
   let l := s.laneAt a
   l.pwr.backup = false ∧ l.st ∈ [.boot, .check, .sync, .shadow, .authority, .follower, .island]) ∧
  (let s : State := on ({ up .shadow with pwr.pstate := 1 })
   let a : At := at0
   let l := s.laneAt a
   l.pwr.pstate = 1) ∧
  (let s : State := on ({ up .shadow with pwr.pstate := 1, pwr.gateAt := some 1000000000 })
   let a : At := at0
   let t : Nat := 1000000000
   let l := s.laneAt a
   l.pwr.pstate = 1 ∧ l.pwr.gateAt = some t ∧ t ≤ l.now) :=
  ⟨by decide +kernel, by decide +kernel, by decide +kernel, by decide +kernel, by decide +kernel,
   ⟨by decide +kernel, by decide +kernel, by decide +kernel, by decide +kernel, by decide +kernel,
   ⟨by decide +kernel, by decide +kernel, by decide +kernel, by decide +kernel⟩⟩⟩

set_option maxRecDepth 2000 in
theorem wit_BootSteps :
  (let s : State := on ({ up .boot with pwr := { aonOn := true, step := .comparator } })
   let a : At := at0
   let l := s.laneAt a
   l.st = .boot ∧ l.pwr.step = .comparator ∧ l.pwr.warm = false) ∧
  (let s : State := on ({ up .boot with pwr := { aonOn := true, step := .comparator } })
   let a : At := at0
   let n : Nat := 2495
   let l := s.laneAt a
   l.st = .boot ∧ l.pwr.step = .comparator ∧ l.pwr.warm = false ∧ n < 2496) ∧
  (let s : State := on ({ up .boot with pwr := { aonOn := true, step := .image }, boot.otp := [(96, 81), (97, 89), (98, 11), (99, 122), (100, 81), (101, 81), (102, 64), (103, 210), (104, 215), (105, 132), (106, 200), (107, 86), (108, 8), (109, 102), (110, 143), (111, 223), (112, 239), (113, 140), (114, 130), (115, 253), (116, 31), (117, 91), (118, 229), (119, 36), (120, 33), (121, 85), (122, 74), (123, 13), (124, 195), (125, 208), (126, 51), (127, 237), (128, 224), (129, 193), (130, 125), (131, 168), (132, 144), (133, 74), (134, 114), (135, 125), (136, 138), (137, 225), (138, 191), (139, 54), (140, 191), (141, 138), (142, 121), (143, 38), (144, 13), (145, 1), (146, 47), (148, 212), (149, 216), (150, 8), (151, 136), (152, 209), (153, 208), (154, 187), (155, 68), (156, 253), (157, 161), (158, 109), (159, 164)], mem.mram := [(0, 66), (1, 77), (2, 86), (3, 78), (9, 1), (256, 142), (257, 83), (258, 59), (259, 111), (260, 160), (261, 191), (262, 123), (263, 70), (264, 37), (265, 187), (266, 48), (267, 102), (268, 124), (269, 1), (270, 251), (271, 96), (272, 126), (273, 249), (274, 248), (275, 184), (276, 168), (277, 15), (278, 239), (279, 91), (280, 48), (281, 6), (282, 40), (283, 112), (284, 49), (285, 135), (286, 178), (287, 163), (288, 6), (289, 98), (290, 129), (291, 159), (292, 67), (293, 148), (294, 109), (295, 69), (296, 25), (297, 67), (298, 140), (299, 10), (300, 119), (301, 165), (302, 24), (303, 247), (304, 43), (305, 212), (306, 32), (307, 157), (308, 8), (309, 189), (310, 54), (311, 174), (312, 246), (313, 41), (314, 83), (315, 210), (316, 189), (317, 32), (318, 56), (319, 1)] })
   let a : At := at0
   let k : Nat := 0
   let l := s.laneAt a
   l.st = .boot ∧ l.pwr.step = .image ∧ l.boot.trial = false ∧ l.boot.swap = none ∧ l.boot.bootFails < 3 ∧ k = (if bit l.bootOpt 2 = true then 0 else l.boot.chosen) ∧ l.fwOk k = true) ∧
  (let s : State := on ({ up .boot with pwr := { aonOn := true, step := .handover } })
   let a : At := at0
   let l := s.laneAt a
   l.st = .boot ∧ l.pwr.step = .handover) ∧
  (let s : State := on ({ up .boot with pwr := { aonOn := true, step := .firmware } })
   let a : At := at0
   let l := s.laneAt a
   l.st = .boot ∧ l.pwr.step = .firmware ∧ l.bist.run = none ∧ l.gd.test = none) ∧
  (let s : State := on ({ up .check with pwr.step := .checks, bist.plan := 1 })
   let a : At := at0
   let c : Checks := {}
   let l := s.laneAt a
   let q := l.quickChecks c
   l.st = .check ∧ l.pwr.step = .checks ∧ l.bist.run = none ∧ q.1.st = .check ∧ q.2 = true ∧ q.1.bist.bad = none ∧ q.1.bist.plan = 1 ∧ q.1.pwr.warm = false ∧ q.1.pwr.waiting = none) ∧
  (let s : State := on ({ up .check with pwr.step := .checks, bist.plan := 1 })
   let a : At := at0
   let c : Checks := { calDataOk := false }
   let l := s.laneAt a
   let q := l.quickChecks c
   l.st = .check ∧ l.pwr.step = .checks ∧ l.bist.run = none ∧ q.1.st = .check ∧ q.2 = false) ∧
  (let s : State := on ({ up .boot with pwr := { aonOn := true, step := .comparator, warm := true } })
   let a : At := at0
   let l := s.laneAt a
   l.st = .boot ∧ l.pwr.step = .comparator ∧ l.pwr.warm = true ∧ l.imageKept = true) ∧
  (let s : State := on ({ up .boot with pwr := { aonOn := true, step := .comparator, warm := true } })
   let a : At := at0
   let kept : Bool := false
   let l := s.laneAt a
   l.st = .boot ∧ l.pwr.step = .comparator ∧ l.pwr.warm = true ∧ (kept = false ∨ l.imageKept = false)) ∧
  (let s : State := on ({ up .boot with pwr := { aonOn := true, step := .firmware }, boot.wdAt := some 980000000 })
   let a : At := at0
   let t : Nat := 980000000
   let l := s.laneAt a
   l.boot.wdAt = some t ∧ t + ms 50 ≤ l.now ∧ l.pwr.step = .firmware) ∧
  (let s : State := on ({ up .shadow with now := 20000000000, boot.trial := true, boot.trialAt := some 8000000000 })
   let a : At := at0
   let t : Nat := 8000000000
   let l := s.laneAt a
   l.boot.trial = true ∧ l.boot.trialAt = some t ∧ t + sec 30 ≤ l.now) :=
  ⟨by decide +kernel, by decide +kernel, by decide +kernel, by decide +kernel, by decide +kernel,
   ⟨by decide +kernel, by decide +kernel, by decide +kernel, by decide +kernel, by decide +kernel, by decide +kernel⟩⟩

theorem wit_PowerEntries :
  (let s : State := on (up .sync)
   let a : At := at0
   let m : Msg := msg [4, 0, 0, 0]
   let l := (s.laneAt a).taken 0x80 m
   let t := m.u8 0
   (s.laneAt a).ready 0x80 m = true ∧ l.pwr.entry = none ∧ 2 ≤ t ∧ t ≤ 4 ∧ l.refuserOf t = none) ∧
  (let s : State := on ({ up .shadow with mot.slot := (List.replicate 8 {}).set 7 { enabled := true } })
   let a : At := at0
   let m : Msg := msg [4, 0, 0, 0]
   let c : Nat := 0
   let l := (s.laneAt a).taken 0x80 m
   let t := m.u8 0
   (s.laneAt a).ready 0x80 m = true ∧ l.pwr.entry = none ∧ 1 ≤ t ∧ t ≤ 4 ∧ (t = 1 → l.pwr.pstate ≠ 1) ∧ l.refuserOf t = some c) ∧
  (let s : State := on (up .shadow)
   let a : At := at0
   let m : Msg := msg [1, 0, 0, 0]
   let l := (s.laneAt a).taken 0x80 m
   let t := m.u8 0
   (s.laneAt a).ready 0x80 m = true ∧ l.pwr.entry = none ∧ t = 1 ∧ l.pwr.pstate ≠ 1 ∧ l.refuserOf 1 = none) ∧
  (let s : State := on (up .shadow)
   let a : At := at0
   let m : Msg := msg [0, 0, 0, 0]
   let l := (s.laneAt a).taken 0x80 m
   let t := m.u8 0
   (s.laneAt a).ready 0x80 m = true ∧ l.pwr.entry = none ∧ t = 0) ∧
  (let s : State := on ({ up .shadow with pwr.entry := some { target := 2, step := .withdraw, key := none, startAt := 0 } })
   let a : At := at0
   let e : PwrEntry := { target := 2, step := .withdraw, key := none, startAt := 0 }
   let l := s.laneAt a
   l.pwr.entry = some e ∧ l.fwRuns = true ∧ l.pwm.halted = false ∧ l.boot.swapNow = false ∧ e.step = .withdraw ∧ l.needsTest e = false ∧ l.st ≠ .limp) ∧
  (let s : State := on ({ up .check with pwr.entry := some { target := 3, step := .persist, key := none, startAt := 0 } })
   let a : At := at0
   let e : PwrEntry := { target := 3, step := .persist, key := none, startAt := 0 }
   let l := s.laneAt a
   l.pwr.entry = some e ∧ e.step = .persist ∧ l.pwm.halted = false ∧ l.bist.run = none) ∧
  (let s : State := on ({ up .check with pwr.entry := some { target := 2, step := .powerDown, key := none, startAt := 0 } })
   let a : At := at0
   let e : PwrEntry := { target := 2, step := .powerDown, key := none, startAt := 0 }
   let l := s.laneAt a
   l.pwr.entry = some e ∧ e.step = .powerDown ∧ l.pwr.waiting = none ∧ l.pwr.pend = none ∧ e.target = 2) ∧
  (let s : State := on ({ up .check with pwr.entry := some { target := 3, step := .powerDown, key := none, startAt := 0 } })
   let a : At := at0
   let e : PwrEntry := { target := 3, step := .powerDown, key := none, startAt := 0 }
   let l := s.laneAt a
   l.pwr.entry = some e ∧ e.step = .powerDown ∧ l.pwr.waiting = none ∧ l.pwr.pend = none ∧ e.target = 3) ∧
  (let s : State := on ({ up .check with pwr.entry := some { target := 4, step := .powerDown, key := none, startAt := 0 } })
   let a : At := at0
   let e : PwrEntry := { target := 4, step := .powerDown, key := none, startAt := 0 }
   let l := s.laneAt a
   l.pwr.entry = some e ∧ e.step = .powerDown ∧ l.pwr.waiting = none ∧ l.pwr.pend = none ∧ e.target = 4) ∧
  (let s : State := on ({ up .check with pwr.entry := some { target := 2, step := .powerDown, key := none, startAt := 0 }, pwr.pend := some 6 })
   let a : At := at0
   let e : PwrEntry := { target := 2, step := .powerDown, key := none, startAt := 0 }
   let src : Nat := 6
   let l := s.laneAt a
   l.pwr.entry = some e ∧ e.step = .powerDown ∧ l.pwr.waiting = none ∧ l.pwr.pend = some src ∧ e.target = 2 ∧ l.boot.swap = none ∧ l.pwr.burned = false) :=
  ⟨by decide +kernel, by decide +kernel, by decide +kernel, by decide +kernel, by decide +kernel,
   ⟨by decide +kernel, by decide +kernel, by decide +kernel, by decide +kernel, by decide +kernel⟩⟩

theorem wit_SelfTestSections :
  (let s : State := on (up .sync)
   let a : At := at0
   let m : Msg := msg [2, 128, 0, 0]
   let s0 : Nat := 1
   let rest : List Nat := [15]
   let l := (s.laneAt a).taken 0x90 m
   (s.laneAt a).ready 0x90 m = true ∧ (List.range 32).filter (bit (m.u32 0)) = s0 :: rest ∧ 0 < s0 ∧ (∀ k ∈ rest, k < 16) ∧ s0 < 16 ∧ l.bistBusy (s0 :: rest) = false ∧ l.entering = false ∧ l.st = .sync ∧ l.fullExpect s0 ≠ 0) ∧
  (let s : State := on (up .sync)
   let a : At := at0
   let m : Msg := msg [15, 0, 0, 0]
   let s0 : Nat := 15
   let l := (s.laneAt a).taken 0x91 m
   (s.laneAt a).ready 0x91 m = true ∧ m.u8 0 = s0 ∧ 0 < s0 ∧ s0 < 16 ∧ l.bistBusy [s0] = false ∧ l.entering = false ∧ l.st = .sync ∧ l.fullExpect s0 ≠ 0) ∧
  (let s : State := on ({ up .sync with bist.run := some { kind := 3, section_ := 1, startAt := 900000000, left := [15], want := [1, 15], expected := 15, limit := 0, key := none } })
   let a : At := at0
   let m : Msg := msg []
   let r : BistRun := { kind := 3, section_ := 1, startAt := 900000000, left := [15], want := [1, 15], expected := 15, limit := 0, key := none }
   let l := (s.laneAt a).taken 0x93 m
   (s.laneAt a).ready 0x93 m = true ∧ l.bist.run = some r ∧ r.kind = 3 ∧ r.section_ ≠ noSection) ∧
  (let s : State := on ({ up .sync with bist.run := some { kind := 3, section_ := 1, startAt := 900000000, left := [15], want := [1, 15], expected := 15, limit := 100000000, key := none } })
   let a : At := at0
   let s0 : Nat := 15
   let rest : List Nat := [15].tail
   let r : BistRun := { kind := 3, section_ := 1, startAt := 900000000, left := [15], want := [1, 15], expected := 15, limit := 100000000, key := none }
   let l := s.laneAt a
   l.bist.run = some r ∧ r.section_ ≠ noSection ∧ r.section_ ≠ 12 ∧ r.left = s0 :: rest ∧ l.st = .sync ∧ l.fullExpect s0 ≠ 0 ∧ l.now ≤ r.startAt + r.limit) ∧
  (let s : State := on ({ up .sync with bist.run := some { kind := 3, section_ := 1, startAt := 900000000, left := [15], want := [1, 15], expected := 15, limit := 100000000, key := none } })
   let a : At := at0
   let s0 : Nat := 15
   let rest : List Nat := [15].tail
   let r : BistRun := { kind := 3, section_ := 1, startAt := 900000000, left := [15], want := [1, 15], expected := 15, limit := 100000000, key := none }
   let l := s.laneAt a
   l.bist.run = some r ∧ r.section_ ≠ noSection ∧ r.section_ ≠ 12 ∧ r.left = s0 :: rest ∧ l.st = .sync ∧ l.fullExpect s0 ≠ 0 ∧ r.startAt + r.limit ≤ l.now) ∧
  (let s : State := on ({ up .check with pwr.entry := some { target := 3, step := .test, key := none, startAt := 0 }, bist.run := some { kind := 1, section_ := noSection, startAt := 0, left := [], want := [], expected := 0, limit := 0, key := none } })
   let a : At := at0
   let r : BistRun := { kind := 1, section_ := noSection, startAt := 0, left := [], want := [], expected := 0, limit := 0, key := none }
   let e : PwrEntry := { target := 3, step := .test, key := none, startAt := 0 }
   let l := s.laneAt a
   l.bist.run = some r ∧ r.kind = 1 ∧ r.section_ = noSection ∧ l.pwr.entry = some e) :=
  ⟨by decide +kernel, by decide +kernel, by decide +kernel, by decide +kernel, by decide +kernel, by decide +kernel⟩

theorem wit_OneTimeMemory :
  (let s : State := on ({ up .shadow with boot.otp := [(0x40, 0xA5)] })
   let a : At := at0
   let l := s.laneAt a
   cellsOk l.boot.otp = true) ∧
  (let s : State := on ({ up .shadow with boot.life := 1 })
   let a : At := at0
   let off : Nat := 0
   let n : Nat := 64
   let area : Nat := 0
   let l := s.laneAt a
   tapArea area = some (off, n) ∧ l.powered = true ∧ l.boot.life < 2 ∧ l.boot.otpWrite = none) ∧
  (let s : State := on ({ up .shadow with boot.otpWrite := some (.gen 1 [1] {}) })
   let a : At := at0
   let k : Nat := 1
   let bs : List Byte := [1]
   let key : CmdKey := {}
   let l := s.laneAt a
   l.fwRuns = true ∧ l.boot.otpWrite = some (.gen k bs key)) ∧
  (let s : State := on ({ up .shadow with boot.otpWrite := some (.life 2 {}) })
   let a : At := at0
   let tgt : Nat := 2
   let key : CmdKey := {}
   let l := s.laneAt a
   l.fwRuns = true ∧ l.boot.otpWrite = some (.life tgt key)) ∧
  (let s : State := on ({ up .boot with pwr := { aonOn := true, step := .otp }, boot.otp := [(60, 8), (61, 137), (62, 18), (63, 4), (64, 165), (224, 157), (225, 250), (226, 168), (227, 194), (336, 174), (337, 101), (338, 244), (339, 186), (636, 114), (637, 46), (638, 112), (639, 223), (700, 8), (701, 137), (702, 18), (703, 4)] })
   let a : At := at0
   let k : Nat := 1
   let l := s.laneAt a
   l.st = .boot ∧ l.pwr.step = .otp ∧ l.lifeOf = some k ∧ k ≠ 0 ∧ l.identOk = true ∧ l.protOk = true ∧ l.pubOk = true ∧ l.secOk = true) ∧
  (let s : State := on ({ up .boot with pwr := { aonOn := true, step := .otp }, boot.otp := [(0x42, 1)] })
   let a : At := at0
   let l := s.laneAt a
   l.st = .boot ∧ l.pwr.step = .otp ∧ l.lifeOf = none) ∧
  (let s : State := on ({ up .waking with pwr := { aonOn := true, step := .crystal, stepAt := 999999960 } })
   let a : At := at0
   let l := s.laneAt a
   l.st = .waking ∧ l.pwr.step = .crystal) ∧
  (let s : State := on ({ up .waking with pwr := { aonOn := true, step := .crystal, stepAt := 999600000 } })
   let a : At := at0
   let l := s.laneAt a
   let r := l.pwr.retries
   l.st = .waking ∧ l.pwr.step = .crystal ∧ l.pwr.stepAt + (if r = 0 then us 100 else ms 5) ≤ l.now ∧ r ≤ 1) ∧
  (let s : State := on ({ up .waking with pwr := { aonOn := true, step := .crystal, stepAt := 997000000, retries := 2 } })
   let a : At := at0
   let l := s.laneAt a
   let r := l.pwr.retries
   l.st = .waking ∧ l.pwr.step = .crystal ∧ l.pwr.stepAt + (if r = 0 then us 100 else ms 5) ≤ l.now ∧ 2 ≤ r ∧ bit l.bootOpt 3 = false) ∧
  (let s : State := on ({ up .waking with pwr := { aonOn := true, step := .crystal, stepAt := 997000000, retries := 2 }, boot.otp := [(0x50, 8), (84, 243), (85, 247), (86, 240), (87, 228)] })
   let a : At := at0
   let l := s.laneAt a
   let r := l.pwr.retries
   l.st = .waking ∧ l.pwr.step = .crystal ∧ l.pwr.stepAt + (if r = 0 then us 100 else ms 5) ≤ l.now ∧ 2 ≤ r ∧ bit l.bootOpt 3 = true) :=
  ⟨by decide +kernel, by decide +kernel, by decide +kernel, by decide +kernel, by decide +kernel,
   ⟨by decide +kernel, by decide +kernel, by decide +kernel, by decide +kernel, by decide +kernel⟩⟩

set_option maxRecDepth 2000 in
theorem wit_ConfigurationCommands :
  (let s : State := on (up .sync)
   let a : At := at0
   let m : Msg := msg ([0, 0, 0, 0] ++ leBytes 4 320 ++ List.replicate 300 0)
   let l := (s.laneAt a).taken 0xA0 m
   (s.laneAt a).ready 0xA0 m = true ∧ l.boot.otpWrite = none ∧ l.boot.overlayLoad = none ∧ l.moltOn = false ∧ m.u16 0 = 0 ∧ blockOk m l.boot.load 0x80000 = true ∧ m.u8 2 = 0) ∧
  (let s : State := on ({ up .sync with boot.otp := [(160, 62), (161, 209), (162, 19), (163, 183), (164, 136), (165, 59), (166, 76), (167, 89), (168, 6), (169, 56), (170, 55), (171, 157), (172, 176), (173, 194), (174, 28), (175, 218), (176, 22), (177, 116), (178, 46), (179, 208), (180, 37), (181, 80), (182, 72), (183, 191), (184, 67), (185, 51), (186, 145), (187, 211), (188, 116), (189, 188), (190, 33), (191, 209), (192, 144), (193, 153), (194, 32), (195, 154), (196, 204), (197, 196), (198, 200), (199, 162), (200, 36), (201, 200), (202, 67), (203, 175), (204, 164), (205, 244), (206, 198), (207, 138), (208, 9), (209, 13), (210, 4), (211, 218), (212, 94), (213, 152), (214, 137), (215, 218), (216, 226), (217, 248), (218, 238), (219, 252), (220, 232), (221, 42), (222, 55), (223, 64)] })
   let a : At := at0
   let m : Msg := msg ([0, 0, 1, 0] ++ leBytes 4 320 ++ cellBytes signed 0 320)
   let d := m.args.drop 8
   let l := (s.laneAt a).taken 0xA0 m
   let base := cfgBase l.stageArea
   let y := l.stageClear.mramPut base d
   (s.laneAt a).ready 0xA0 m = true ∧ l.boot.otpWrite = none ∧ l.boot.overlayLoad = none ∧ l.moltOn = false ∧ m.u16 0 = 0 ∧ blockOk m l.boot.load 0x80000 = true ∧ m.u8 2 = 1 ∧ y.stagedGood (m.u32 4) = true) ∧
  (let s : State := on ({ up .sync with boot.otp := [(160, 62), (161, 209), (162, 19), (163, 183), (164, 136), (165, 59), (166, 76), (167, 89), (168, 6), (169, 56), (170, 55), (171, 157), (172, 176), (173, 194), (174, 28), (175, 218), (176, 22), (177, 116), (178, 46), (179, 208), (180, 37), (181, 80), (182, 72), (183, 191), (184, 67), (185, 51), (186, 145), (187, 211), (188, 116), (189, 188), (190, 33), (191, 209), (192, 144), (193, 153), (194, 32), (195, 154), (196, 204), (197, 196), (198, 200), (199, 162), (200, 36), (201, 200), (202, 67), (203, 175), (204, 164), (205, 244), (206, 198), (207, 138), (208, 9), (209, 13), (210, 4), (211, 218), (212, 94), (213, 152), (214, 137), (215, 218), (216, 226), (217, 248), (218, 238), (219, 252), (220, 232), (221, 42), (222, 55), (223, 64)] })
   let a : At := at0
   let m : Msg := msg ([0, 0, 1, 0] ++ leBytes 4 320 ++ List.replicate 320 0)
   let d := m.args.drop 8
   let l := (s.laneAt a).taken 0xA0 m
   let base := cfgBase l.stageArea
   let y := l.stageClear.mramPut base d
   (s.laneAt a).ready 0xA0 m = true ∧ l.boot.otpWrite = none ∧ l.boot.overlayLoad = none ∧ l.moltOn = false ∧ m.u16 0 = 0 ∧ blockOk m l.boot.load 0x80000 = true ∧ m.u8 2 = 1 ∧ y.stagedGood (m.u32 4) = false) ∧
  (let s : State := on ({ up .sync with boot.stagedLen := some 0 })
   let a : At := at0
   let m : Msg := msg ([1, 0, 1, 0, 0, 0, 0, 0] ++ sha256 [] ++ List.replicate 24 0)
   let k : Nat := 1
   let l := (s.laneAt a).taken 0xA1 m
   (s.laneAt a).ready 0xA1 m = true ∧ l.boot.otpWrite = none ∧ l.boot.overlayLoad = none ∧ l.moltOn = false ∧ l.motorOn = false ∧ l.nextGen = some k ∧ l.recordFits m.args k = true) ∧
  (let s : State := on ({ up .sync with boot.otp := [(0x2C0, 1), (0x300, 1), (0x340, 1), (0x380, 1)] })
   let a : At := at0
   let m : Msg := msg ([0, 0, 0, 0] ++ leBytes 4 20 ++ List.replicate 8 0)
   let l := (s.laneAt a).taken 0xA2 m
   (s.laneAt a).ready 0xA2 m = true ∧ l.mb.staged = none ∧ l.boot.otpWrite = none ∧ l.boot.load = none ∧ l.moltOn = false ∧ l.spareGens = 0 ∧ l.boot.overlayCrc = none ∧ m.u16 0 = 0 ∧ m.u8 2 = 0 ∧ blockOk m l.boot.overlayLoad 0x80000 = true) ∧
  (let s : State := on ({ up .sync with boot.life := 1, boot.otp := [(60, 8), (61, 137), (62, 18), (63, 4), (224, 157), (225, 250), (226, 168), (227, 194), (336, 174), (337, 101), (338, 244), (339, 186), (636, 114), (637, 46), (638, 112), (639, 223), (700, 8), (701, 137), (702, 18), (703, 4)] })
   let a : At := at0
   let m : Msg := msg [2, 0, 0, 0]
   let l := (s.laneAt a).taken 0xA4 m
   (s.laneAt a).ready 0xA4 m = true ∧ (l.boot.life = 1 ∧ m.u8 0 = 2 ∧ l.fieldReady = true ∨ l.boot.life = 2 ∧ m.u8 0 = 3) ∧ l.driveOn = false ∧ l.boot.otpWrite = none ∧ l.boot.load = none ∧ l.moltOn = false) :=
  ⟨by decide +kernel, by decide +kernel, by decide +kernel, by decide +kernel, by decide +kernel, by decide +kernel⟩

theorem wit_MoltCommands :
  (let s : State := on (up .shadow)
   let a : At := at0
   let m : Msg := msg ([1, 0, 0, 0] ++ leBytes 4 0x200000)
   let l := (s.laneAt a).taken 0xB0 m
   (s.laneAt a).ready 0xB0 m = true ∧ l.moltBusy = false ∧ l.moltOn = false ∧ m.u8 0 < 2 ∧ m.u8 0 ≠ l.boot.running ∧ (l.fwSlot (m.u8 0)).state ≠ 4 ∧ m.u32 4 ≤ 0x200000) ∧
  (let s : State := on ({ up .sync with boot.moltOpen := some 1, boot.slot := [{}, { state := 1, length := 64 }] })
   let a : At := at0
   let m : Msg := msg (List.replicate 68 0)
   let k : Nat := 1
   let l := (s.laneAt a).taken 0xB1 m
   (s.laneAt a).ready 0xB1 m = true ∧ l.moltBusy = false ∧ l.boot.moltOpen = some k ∧ l.boot.verify = none ∧ m.u32 0 + (m.args.length - 4) ≤ (l.fwSlot k).length) ∧
  (let s : State := on ({ up .sync with boot.moltOpen := some 1, boot.slot := [{}, { state := 1, length := 64 }] })
   let a : At := at0
   let m : Msg := msg []
   let k : Nat := 1
   let l := (s.laneAt a).taken 0xB2 m
   (s.laneAt a).ready 0xB2 m = true ∧ l.moltBusy = false ∧ l.boot.moltOpen = some k ∧ l.boot.verify = none) ∧
  (let s : State := on ({ up .sync with boot.verify := some ({}, 1) })
   let a : At := at0
   let k : Nat := 1
   let key : CmdKey := {}
   let l := s.laneAt a
   l.fwRuns = true ∧ l.boot.verify = some (key, k) ∧ (l.fwSlot k).state ≠ 4) ∧
  (let s : State := on ({ up .sync with boot.slot := [{}, { state := 2 }] })
   let a : At := at0
   let m : Msg := msg [0, 0, 0, 0]
   let l := (s.laneAt a).taken 0xB3 m
   (s.laneAt a).ready 0xB3 m = true ∧ l.moltBusy = false ∧ (l.fwSlot (1 - l.boot.running)).state = 2 ∧ m.u8 0 = 0) :=
  ⟨by decide +kernel, by decide +kernel, by decide +kernel, by decide +kernel, by decide +kernel⟩

theorem wit_SramPort :
  (let s : State := on (up .shadow)
   let a : At := at0
   let x : SramXfer := { addr := 0x3FFFFF }
   let l := s.laneAt a
   l.powered = true ∧ x.addr < 0x400000 ∧ x.ecc < 4 ∧ l.boot.pu.grants x = false) ∧
  (let s : State := on ({ up .shadow with boot.pu.rgnAttr := 0x4001B :: List.replicate 15 0 })
   let a : At := at0
   let x : SramXfer := { addr := 0x3FFFFF }
   let l := s.laneAt a
   l.powered = true ∧ x.addr < 0x400000 ∧ x.ecc < 4 ∧ l.boot.pu.grants x = true ∧ x.write = none ∧ x.ecc = 0) ∧
  (let s : State := on ({ up .shadow with boot.pu.rgnAttr := 0x4001B :: List.replicate 15 0 })
   let a : At := at0
   let x : SramXfer := { addr := 8, write := some ((List.replicate 8 7).map some) }
   let v : List Byte := List.replicate 8 7
   let l := s.laneAt a
   l.powered = true ∧ x.addr < 0x400000 ∧ x.ecc < 4 ∧ l.boot.pu.grants x = true ∧ x.write = some (v.map some) ∧ v.length = 8) ∧
  (let s : State := on ({ up .shadow with boot.pu.rgnAttr := 0x4001B :: List.replicate 15 0 })
   let a : At := at0
   let x : SramXfer := { addr := 8, write := some [some 1, none, none, none, none, none, none, none] }
   let bs : List (Option Byte) := [some 1, none, none, none, none, none, none, none]
   let l := s.laneAt a
   l.powered = true ∧ x.addr < 0x400000 ∧ x.ecc < 4 ∧ l.boot.pu.grants x = true ∧ x.write = some bs ∧ bs.length = 8 ∧ none ∈ bs ∧ x.ecc = 0) ∧
  (let s : State := on ({ up .shadow with boot.pu.rgnAttr := 0x4001B :: List.replicate 15 0 })
   let a : At := at0
   let x : SramXfer := { addr := 8, ecc := 1 }
   let l := s.laneAt a
   l.powered = true ∧ x.addr < 0x400000 ∧ x.ecc < 4 ∧ l.boot.pu.grants x = true ∧ x.write = none ∧ x.ecc = 1) ∧
  (let s : State := on ({ up .shadow with boot.pu.rgnAttr := 0x4001B :: List.replicate 15 0, boot.pu.crit := List.replicate 32 1 })
   let a : At := at0
   let x : SramXfer := { addr := 8, ecc := 3 }
   let l := s.laneAt a
   l.powered = true ∧ x.addr < 0x400000 ∧ x.ecc < 4 ∧ l.boot.pu.grants x = true ∧ x.write = none ∧ x.ecc = 3 ∧ l.critical (x.addr / 4096) = true) :=
  ⟨by decide +kernel, by decide +kernel, by decide +kernel, by decide +kernel, by decide +kernel, by decide +kernel⟩

theorem wit_MemoryTests :
  (let s : State := on (up .shadow)
   let a : At := at0
   let r : Nat := 0
   let l := s.laneAt a
   let w := l.mem.weevil
   l.weevilMay = true ∧ w.phase = .idle ∧ w.startAt + 40000 * l.p 0xE101 ≤ l.now ∧ w.again = false ∧ w.urgent = [] ∧ l.regionFrom w.next = some r) ∧
  (let s : State := on ({ up .shadow with mem.weevil := { phase := .running } })
   let a : At := at0
   let r : Nat := 1
   let l := s.laneAt a
   let w := l.mem.weevil
   w.phase = .running ∧ w.paused = false ∧ w.region = w.next ∧ l.mem.hard = [] ∧ l.mem.retired.contains w.region = false ∧ l.st ≠ .failSilent ∧ l.regionFrom (w.next + 1) = some r) ∧
  (let s : State := on ({ up .shadow with now := 24000000000 })
   let a : At := at0
   let l := s.laneAt a
   l.fwRuns = true ∧ l.st ≠ .failSilent ∧ l.mem.scrubAt + sec (l.p 0xE106) ≤ l.now) ∧
  (let s : State := on (up .shadow)
   let a : At := at0
   let addr : Nat := 0x7FFFFF
   let bs : List Byte := [7]
   let l := s.laneAt a
   l.powered = true ∧ addr + bs.length ≤ 0x800000 ∧ mramArea addr ≠ 2) ∧
  (let s : State := on (up .shadow)
   let a : At := at0
   let addr : Nat := 0x7FFFFF
   let bs : List Byte := [7]
   let l := s.laneAt a
   l.powered = true ∧ addr + bs.length ≤ 0x800000 ∧ (∀ f ∈ l.mem.fails, f.sector ≠ addr / 4096)) ∧
  (let s : State := on (up .shadow)
   let a : At := at0
   let group : Nat := 15
   let l := s.laneAt a
   group < 16 ∧ l.powered = true ∧ l.boot.split = false ∧ l.st ≠ .failSilent) :=
  ⟨by decide +kernel, by decide +kernel, by decide +kernel, by decide +kernel, by decide +kernel, by decide +kernel⟩
end

section
/-! Adaptive strength of a gate channel (R38, R39): the code and the count of pinned edges that a measured edge leads to, what such an edge does to the lane, and the settlement of O9. -/

namespace Sys2Proof.Machine

/-! ### The step rule -/

/-- The switching time of an edge exceeds the target by more than the band (R38); the time counts 5/16 ns. -/
abbrev Lane.edgeSlow (l : Lane) (ch : Nat) (on : Bool) (time : Nat) : Prop :=
  16 * l.p (if on then 0x2101 else 0x2102) ch + 16 * l.p 0x2103 < 5 * time

/-- The switching time of an edge is short of the target by more than the band (R38). -/
abbrev Lane.edgeFast (l : Lane) (ch : Nat) (on : Bool) (time : Nat) : Prop :=
  5 * time + 16 * l.p 0x2103 < 16 * l.p (if on then 0x2101 else 0x2102) ch

/-- The code after a measured edge (R38). -/
def Lane.codeNext (l : Lane) (ch : Nat) (on : Bool) (time : Nat) : Nat :=
  if l.edgeSlow ch on time then min (l.codeUse ch on + 1) (l.codeMax ch on)
  else if l.edgeFast ch on time then max (l.codeUse ch on - 1) (l.codeMin ch on)
  else l.codeUse ch on

/-- The count of edges in a row pinned at the maximum, n before this edge (R39). -/
def Lane.pinsNext (l : Lane) (ch : Nat) (on : Bool) (time n : Nat) : Nat :=
  if l.codeNext ch on time == l.codeMax ch on && decide (l.edgeSlow ch on time) then n + 1 else 0

/-- The two conditions of R39, as propositions. -/
theorem Lane.pinsNext_eq (l : Lane) (ch : Nat) (on : Bool) (time n : Nat) :
    l.pinsNext ch on time n = if l.codeNext ch on time = l.codeMax ch on ∧ l.edgeSlow ch on time then n + 1 else 0 := by
  simp [Lane.pinsNext]

/-- The edge is the 1,000th in a row pinned at the maximum (R39). -/
def Lane.pinsFull (l : Lane) (ch : Nat) (on : Bool) (time : Nat) : Bool :=
  l.pinsNext ch on time (if on then (l.gch ch).pinnedOn else (l.gch ch).pinnedOff) == 1000

/-- The channel after a measured edge: the code and the count of the edge's direction are new. -/
def Lane.chNext (l : Lane) (ch : Nat) (on : Bool) (time : Nat) : GateCh :=
  let g := l.gch ch
  let code := l.codeNext ch on time
  if on then { g with codeOn := code, pinnedOn := l.pinsNext ch on time g.pinnedOn }
  else { g with codeOff := code, pinnedOff := l.pinsNext ch on time g.pinnedOff }

/-- The gate-drive registers after a measured edge: the channel, and one more wear at the 1,000th pinned edge. -/
def Lane.gdNext (l : Lane) (ch : Nat) (on : Bool) (time : Nat) : Gd :=
  { l.gd with ch := l.gd.ch.set ch (l.chNext ch on time), wear := l.gd.wear + b2n (l.pinsFull ch on time) }

/-! ### What a measured edge does -/

/-- A valid edge of an adaptive channel that is not frozen moves the channel's code and counts its pinned edges; the 1,000th of them counts one wear, judges the wear limit and raises ADAPT_LIMIT. -/
theorem Lane.gateEdge_adapts (l : Lane) (ch : Nat) (on : Bool) (time : Nat)
    (adaptive : l.p 0x2100 ch = 1) (free : l.frozenCh ch = false) (seen : l.drnLow (ch / 2) = false) :
    l.gateEdge ch on time true =
      let m := l.setGch ch (l.chNext ch on time)
      if l.pinsFull ch on time then
        ({ m with gd.wear := m.gd.wear + 1, red.wearLim := decide (Config.wearLimit < m.gd.wear + 1) }).event 0x2107 (2 * ch + b2n !on)
      else m := by
  have heard : ¬(!true || l.p 0x2100 ch == 0 || l.frozenCh ch || l.drnLow (ch / 2)) = true := by simp [adaptive, free, seen]
  cases on <;> exact if_neg heard

/-- Beside reports, an edge that adapts its channel changes the gate-drive registers and the wear flag alone. -/
theorem reports_gateEdge (l : Lane) (ch : Nat) (on : Bool) (time : Nat)
    (adaptive : l.p 0x2100 ch = 1) (free : l.frozenCh ch = false) (seen : l.drnLow (ch / 2) = false) :
    ∃ w, Reports { l with gd := l.gdNext ch on time, red.wearLim := w } (l.gateEdge ch on time true) := by
  rw [Lane.gateEdge_adapts l ch on time adaptive free seen]
  unfold Lane.gdNext
  cases l.pinsFull ch on time with
  | true => exact ⟨_, reports_event _ _ _⟩
  | false => exact ⟨l.red.wearLim, .refl _⟩

/-- A frame that sets the gate-drive registers and the wear flag to given values may name them by the lane that it leads to. -/
theorem Reports.gd_wearLim {l l' : Lane} {g : Gd} {w : Bool} (h : Reports { l with gd := g, red.wearLim := w } l') :
    l'.gd = g ∧ Reports { l with gd := l'.gd, red := { l.red with wearLim := l'.red.wearLim } } l' := by
  obtain rfl : l'.gd = g := (congrArg Lane.gd h :)
  obtain rfl : l'.red.wearLim = w := (congrArg (fun m => m.red.wearLim) h :)
  exact ⟨rfl, h⟩

/-- The lane with an edge of half-bridge k stamped now, among those of the last 4 µs. -/
def Lane.stampEdge (l : Lane) (k : Nat) : Lane :=
  { l with sns.edges := l.sns.edges.set k (recent l.now (us 4) (l.sns.edges.getD k [])) }

theorem Lane.gdNext_stampEdge (l : Lane) (k ch : Nat) (on : Bool) (time : Nat) :
    (l.stampEdge k).gdNext ch on time = l.gdNext ch on time := rfl

/-- The command of a measured edge stamps the edge and then steps the code. -/
theorem exec_gateEdgeMeasured (a : At) (ch : Nat) (on : Bool) (time : Nat) (valid : Bool) (s : State) :
    exec (.gateEdgeMeasured a ch on time valid) s =
      run (ch < 32) s a (fun l => (l.stampEdge (ch / 2)).gateEdge ch on time valid) := rfl

/-- The command of a valid edge of an adaptive channel that is not frozen, on the lane l with the edge stamped. -/
theorem next_gateEdgeMeasured (s : State) (a : At) (ch : Nat) (on : Bool) (time : Nat) (known : ch < 32)
    (adaptive : (s.laneAt a).p 0x2100 ch = 1) (free : (s.laneAt a).frozenCh ch = false) (seen : (s.laneAt a).drnLow (ch / 2) = false) :
    let l := (s.laneAt a).stampEdge (ch / 2)
    Next (.gateEdgeMeasured a ch on time true) s (fun l' =>
      l'.gd = l.gdNext ch on time ∧ Reports { l with gd := l'.gd, red := { l.red with wearLim := l'.red.wearLim } } l') := by
  obtain ⟨_, edge⟩ := reports_gateEdge ((s.laneAt a).stampEdge (ch / 2)) ch on time adaptive free seen
  exact next_of (exec_gateEdgeMeasured a ch on time true s) (decide_eq_true known)
    (edge.trans (reports_wired _ a.lane)).gd_wearLim

/-! ### O9 -/

/-- The turn-on and turn-off targets are parameters of the 32 channels from 50 ns to 400 ns (R38). -/
theorem prow_edgeTarget : ∀ i ∈ [0x2101, 0x2102], ∃ r, prow i = some r ∧ r.n = 32 ∧ r.lo = 50 ∧ r.hi = 400 := by
  intro i hi
  fin_cases hi <;> exact ⟨_, rfl, rfl, rfl, rfl⟩

/-- Settles O9: a measured edge steps the code of its channel and direction by the rule of R38, and the statement's code, count and wear are those of `Lane.gdNext`. -/
theorem adaptiveCode : Obligations.AdaptiveCode := by
  refine ⟨prow_edgeTarget, fun s a ch on time known adaptive free seen => ?_⟩
  obtain ⟨l', done, gd, rest⟩ := next_gateEdgeMeasured s a ch on time known adaptive free seen
  rw [Lane.gdNext_stampEdge] at gd
  refine ⟨l', done, gd.trans ?_, rest⟩
  simp only [Lane.gdNext, Lane.chNext, Lane.pinsFull, Lane.pinsNext_eq]
  rfl

end Sys2Proof.Machine
end

section
/-! Safe levels of a channel that trip sources cover (R78, R79): which sources cover it, the level that they agree on switch by switch, and the settlement of O15. -/

namespace Sys2Proof.Machine

/-! ### A level of two switches -/

/-- Bit 0 is the low side. -/
@[simp] theorem bit_zero_switches (low high : Bool) : bit (b2n low + 2 * b2n high) 0 = low := by
  cases low <;> cases high <;> rfl

/-- Bit 1 is the high side. -/
@[simp] theorem bit_one_switches (low high : Bool) : bit (b2n low + 2 * b2n high) 1 = high := by
  cases low <;> cases high <;> rfl

/-! ### The sources that cover a channel -/

@[simp] theorem Lane.mem_covering {l : Lane} {ch n : Nat} :
    n ∈ l.covering ch ↔ n < 14 ∧ (l.src n).st ≠ .armed ∧ l.covers n ch = true := by
  simp [Lane.covering]

/-- While some source covers the channel, its level is the one the sources agree on; the stored level plays no part. -/
theorem Lane.safeLevel_of_covering_ne_nil {l : Lane} {ch : Nat} (covered : l.covering ch ≠ []) :
    l.safeLevel ch =
      b2n ((l.covering ch).all fun n => bit (l.safeOf n ch) 0) + 2 * b2n ((l.covering ch).all fun n => bit (l.safeOf n ch) 1) := by
  unfold Lane.safeLevel
  split
  case h_1 none => exact absurd none covered
  case h_2 => rfl

/-- Each of the two switches is on exactly if every source that covers the channel holds that switch on (R79). -/
theorem Lane.bit_safeLevel {l : Lane} {ch k : Nat} (switch : k < 2) (covered : l.covering ch ≠ []) :
    bit (l.safeLevel ch) k = (l.covering ch).all fun n => bit (l.safeOf n ch) k := by
  rw [Lane.safeLevel_of_covering_ne_nil covered]
  match k, switch with
  | 0, _ => exact bit_zero_switches _ _
  | 1, _ => exact bit_one_switches _ _

/-! ### O15 -/

/-- Settles O15: the sources that the level asks are exactly those outside ARMED that cover the channel, and each switch is their conjunction. -/
theorem safeLevels : Obligations.SafeLevels := by
  rintro l ch k switch ⟨n, known, notArmed, covers⟩
  have covered : l.covering ch ≠ [] := List.ne_nil_of_mem (Lane.mem_covering.mpr ⟨known, notArmed, covers⟩)
  rw [Lane.bit_safeLevel switch covered]
  simp only [List.all_eq_true, Lane.mem_covering, and_imp]

end Sys2Proof.Machine
end

section
/-! The CRC-8 of the host SPI and the service port (R340): the model's step on numbers is a shift of a machine word, so the check is the complement of a byte register that each byte enters, and the settlement of O34. -/

namespace Sys2Proof.Machine

/-! ### One shift of a CRC register -/

/-- A CRC register shifted left once: a one that leaves it adds the polynomial. -/
def crcShift {w : Nat} (poly c : BitVec w) : BitVec w :=
  if c.msb = true then (c <<< 1) ^^^ poly else c <<< 1

/-- The bit that a forward CRC step tests is the one that leaves the register. -/
theorem msb_eq_crcTest {w : Nat} (c : BitVec w) : (c.toNat / 2 ^ (w - 1) % 2 == 1) = c.msb := by
  rw [BitVec.msb_eq_getLsbD_last, BitVec.getLsbD, Nat.testBit_eq_decide_div_mod_eq, beq_eq_decide]

/-- On the number of a register, a forward CRC step does what the shift does. -/
theorem toNat_crcShift {w : Nat} (poly c : BitVec w) :
    (crcShift poly c).toNat =
      if c.toNat / 2 ^ (w - 1) % 2 == 1 then Nat.xor (c.toNat * 2 % 2 ^ w) poly.toNat else c.toNat * 2 % 2 ^ w := by
  have shifted : (c <<< 1).toNat = c.toNat * 2 % 2 ^ w := by rw [BitVec.toNat_shiftLeft, Nat.shiftLeft_eq, pow_one]
  rw [msb_eq_crcTest, crcShift, ← shifted]
  cases c.msb with
  | true => exact BitVec.toNat_xor ..
  | false => rfl

/-- The forward CRC steps of the model are shifts of the register, at every width. -/
theorem crcStepF_toNat {w : Nat} (poly : BitVec w) (n : Nat) (c : BitVec w) :
    crcStepF w poly.toNat n c.toNat = ((crcShift poly)^[n] c).toNat := by
  induction n generalizing c with
  | zero => rfl
  | succ n ih => rw [crcStepF, ← toNat_crcShift, ih, Function.iterate_succ_apply]

/-! ### The register of the CRC-8 -/

/-- The register after one more byte: the byte enters it and it is shifted eight times (R340). -/
def crcReg8Next (c b : Byte) : Byte := (crcShift 0x2F)^[8] (c ^^^ b)

/-- The register after the bytes, from all ones (R340). -/
def crcReg8 (bs : List Byte) : Byte := bs.foldl crcReg8Next 0xFF

theorem crcReg8_concat (bs : List Byte) (b : Byte) : crcReg8 (bs ++ [b]) = crcReg8Next (crcReg8 bs) b :=
  List.foldl_concat ..

/-- One byte of the model's fold on numbers. -/
theorem toNat_crcReg8Next (c b : Byte) : (crcReg8Next c b).toNat = crcStepF 8 0x2F 8 (Nat.xor c.toNat b.toNat) :=
  (crcStepF_toNat 0x2F 8 (c ^^^ b)).symm

/-- The model's fold on numbers computes the register. -/
theorem foldl_crcStepF_toNat (bs : List Byte) (c : Byte) :
    bs.foldl (fun v b => crcStepF 8 0x2F 8 (Nat.xor v b.toNat)) c.toNat = (bs.foldl crcReg8Next c).toNat := by
  induction bs generalizing c with
  | nil => rfl
  | cons b bs ih => rw [List.foldl_cons, List.foldl_cons, ← toNat_crcReg8Next, ih]

/-- The final XOR with 0xFF is the complement. -/
theorem ofNat_xor_ones (c : Byte) : BitVec.ofNat 8 (Nat.xor c.toNat 0xFF) = ~~~c := by
  have complement : (~~~c).toNat = Nat.xor c.toNat 0xFF := by rw [← BitVec.xor_allOnes]; exact BitVec.toNat_xor ..
  rw [← complement, BitVec.ofNat_toNat, BitVec.setWidth_eq]

/-- The CRC-8 is the complement of the register after the bytes (R340). -/
theorem crc8_eq_not_crcReg8 (bs : List Byte) : crc8 bs = ~~~(crcReg8 bs) := by
  rw [← ofNat_xor_ones, crcReg8, ← foldl_crcStepF_toNat]
  rfl

/-- The register can be read back from the check, so the check of one more byte follows from the check before it. -/
theorem crc8_concat (bs : List Byte) (b : Byte) : crc8 (bs ++ [b]) = ~~~(crcReg8Next (~~~(crc8 bs)) b) := by
  rw [crc8_eq_not_crcReg8, crc8_eq_not_crcReg8, BitVec.not_not, crcReg8_concat]

/-! ### O34 -/

/-- Settles O34: the check of no bytes and the check value are computed, and one more byte enters the register that the check is the complement of. -/
theorem crcEight : Obligations.CrcEight :=
  ⟨rfl, crc8_concat, by decide +kernel⟩

end Sys2Proof.Machine
end

section
/-! The module as a whole: every command acts on the one lane it names by a rule of its own that no other lane enters, and the settlements of O1, O2, O3, O4, O5 and O60 from that. -/

namespace Sys2Proof.Machine

set_option Elab.async false

/-! ### The rule of a command -/

/-- One rule for every state: what a command does to its lane does not depend on the rest of the module. -/
theorem exec_rule (i : Instr) : ∃ f : Lane → Lane, ∀ s, exec i s = run i.wf s i.stamp f := by
  cases i <;> first | exact ⟨_, fun _ => rfl⟩ | exact ⟨_, fun _ => by rw [Instr.wf, Instr.check, need_isNone]; rfl⟩

theorem run_next {ok : Bool} {s t : State} {a : At} {f : Lane → Lane} (h : run ok s a f = .next t) : t = s.upd a f := by
  cases ok with
  | true => exact (Host.Outcome.next.inj h).symm
  | false => cases h

/-- A command that completes has acted on its lane by its rule. -/
theorem exec_next {i : Instr} {s t : State} {f : Lane → Lane} (rule : ∀ s, exec i s = run i.wf s i.stamp f) (h : exec i s = .next t) :
    t = s.upd i.stamp f :=
  run_next (rule s ▸ h)

@[simp] theorem State.lane_upd (s : State) (a : At) (f : Lane → Lane) : (s.upd a f).lane a.lane = (f (s.laneAt a)).wired a.lane :=
  s.lane_put a _

theorem Lane.wired_placed (l : Lane) (i : LaneId) : (l.wired i).placed i := ⟨rfl, rfl⟩

/-- A step carries out the waiting command, or nothing waits and it changes nothing. -/
theorem step_cases {s t : State} (h : step s = .next t) :
    t = s ∨ ∃ c rest, s.pending = c :: rest ∧ exec c { s with pending := rest } = .next t := by
  cases waiting : s.pending with
  | nil => exact .inl (by simpa [step, waiting] using h.symm)
  | cons c rest => exact .inr ⟨c, rest, rfl, by simpa [step, waiting] using h⟩

/-! ### O1 to O5, O60 -/

/-- Settles O1: a waiting command is the step's first branch, an empty queue its second. -/
theorem stepTakesFront : Obligations.StepTakesFront :=
  ⟨fun _ _ _ => rfl, fun s idle => by simp [step, idle]⟩

/-- What every unit of a list and the unit past its end have, the unit of any number has. -/
theorem getD_of_forall_mem {α : Type} {p : α → Prop} {xs : List α} {d : α} (h : ∀ x ∈ xs, p x) (hd : p d) (k : Nat) : p (xs.getD k d) := by
  rw [List.getD_eq_getElem?_getD]
  cases found : xs[k]? with
  | none => exact hd
  | some x => exact h x (List.mem_of_getElem? found)

/-- Settles O2: every field has its reset value by definition, the motor slots and trip sources by number from their lists. -/
theorem resetState : Obligations.ResetState := by
  refine ⟨rfl, fun i => ?_, fun i => ?_⟩
  · cases i <;> exact ⟨rfl, rfl⟩
  · have disabled (k) : ((State.reset.lane i).motor k).enabled = false := by
      cases i <;> exact getD_of_forall_mem (p := fun x : MotSlot => x.enabled = false) (by decide) rfl k
    have armed (n) : ((State.reset.lane i).src n).st = .armed := by
      cases i <;> exact getD_of_forall_mem (p := fun x : TripSrc => x.st = .armed) (by decide) rfl n
    refine ⟨?_, ?_, ?_, disabled, armed, ?_⟩ <;> cases i <;> simp [State.reset, State.lane, Memory.wf, cellsOk]

/-- Settles O3: the rule runs exactly where the command names only units that exist. -/
theorem wellFormedCompletes : Obligations.WellFormedCompletes := by
  intro i s
  obtain ⟨f, shape⟩ := exec_shape i s
  rw [shape]
  exact ⟨fun wf => ⟨_, run_ok wf ..⟩, fun bad => bad ▸ run_false ..⟩

/-- Settles O4: the rule of a command puts back its own lane alone, and wires it. -/
theorem otherLanesUntouched : Obligations.OtherLanesUntouched := by
  refine ⟨fun i s t done => ?_, fun i s t done => ?_⟩ <;> obtain ⟨f, rule⟩ := exec_rule i <;> rw [exec_next rule done]
  · exact ⟨s.pending_upd .., fun j other => s.lane_upd_ne _ _ j other⟩
  · rw [State.lane_upd]
    exact Lane.wired_placed ..

/-- Settles O5: the lane that the command names is wired into its place, and the others stay as they were. -/
theorem stepKeepsPlaces : Obligations.StepKeepsPlaces := by
  intro s t inv step i
  obtain rfl | ⟨c, rest, -, done⟩ := step_cases step
  · exact inv i
  by_cases own : i = c.stamp.lane
  · exact own ▸ otherLanesUntouched.2 _ _ _ done
  · rw [(otherLanesUntouched.1 _ _ _ done).2 i own, State.lane_pending]
    exact inv i

/-- Settles O60: two modules that agree on the lane of a command find the same lane at its instant, and its rule gives the same lane. -/
theorem lanesAreIndependent : Obligations.LanesAreIndependent := by
  intro i s s' t t' agree done done'
  obtain ⟨f, rule⟩ := exec_rule i
  have same : s.laneAt i.stamp = s'.laneAt i.stamp := congrArg (Lane.advance · i.stamp.t) agree
  rw [exec_next rule done, exec_next rule done', State.lane_upd, State.lane_upd, same]

end Sys2Proof.Machine
end

section
/-! Byte memories as functions: what an address reads after a write, a store or a merge, and that a memory in canonical form is fixed by what it reads; the settlement of O8. -/

namespace Sys2Proof.Machine

set_option Elab.async false

/-! ### Reading -/

theorem cellRead_cons (c : Host.Cell) (m : List Host.Cell) (a : Nat) : cellRead (c :: m) a = if a = c.1 then c.2 else cellRead m a := by
  rw [cellRead]
  exact ite_congr (by rw [beq_iff_eq, @eq_comm _ c.1]) (fun _ => rfl) (fun _ => rfl)

/-- An address below every listed one reads as zero. -/
theorem cellRead_of_forall_lt {m : List Host.Cell} {a : Nat} (low : ∀ c ∈ m, a < c.1) : cellRead m a = 0 := by
  induction m with
  | nil => rfl
  | cons c r ih =>
    obtain ⟨below, rest⟩ := List.forall_mem_cons.mp low
    rw [cellRead_cons, if_neg below.ne, ih rest]

theorem cellRead_put (a : Nat) (v : Byte) (m : List Host.Cell) (b : Nat) : cellRead (cellPut a v m) b = if b = a then v else cellRead m b := by
  fun_induction cellPut a v m with
  | case1 => exact cellRead_cons (a, v) [] b
  | case2 => exact cellRead_cons (a, v) _ b
  | case3 k w r low same =>
    cases eq_of_beq same
    simp only [cellRead_cons]
    split <;> rfl
  | case4 k w r low other ih =>
    have apart : a ≠ k := by simpa using other
    rw [cellRead_cons, cellRead_cons, ih]
    split <;> split <;> simp_all

theorem cellRead_drop (a : Nat) {m : List Host.Cell} (ordered : m.Pairwise cellBefore) (b : Nat) :
    cellRead (cellDrop a m) b = if b = a then 0 else cellRead m b := by
  fun_induction cellDrop a m with
  | case1 => simp [cellRead]
  | case2 k w r same =>
    cases eq_of_beq same
    rw [cellRead_cons]
    split
    case isTrue e => rw [e, cellRead_of_forall_lt fun _ => List.rel_of_pairwise_cons ordered]
    case isFalse => rfl
  | case3 k w r other ih =>
    have apart : k ≠ a := by simpa using other
    rw [cellRead_cons, cellRead_cons, ih ordered.of_cons]
    split <;> split <;> simp_all

theorem cellRead_write {m : List Host.Cell} (ok : cellsOk m = true) (a b : Nat) (v : Byte) :
    cellRead (cellWrite m a v) b = if b = a then v else cellRead m b := by
  unfold cellWrite
  by_cases zero : v = 0
  · rw [if_pos (beq_iff_eq.mpr zero), cellRead_drop a ((cellsOk_iff m).mp ok).1, zero]
  · rw [if_neg (by simpa using zero), cellRead_put]

theorem cellRead_store {m : List Host.Cell} (ok : cellsOk m = true) (a b : Nat) (bs : List Byte) :
    cellRead (cellStore m a bs) b = if a ≤ b ∧ b < a + bs.length then bs.getD (b - a) 0 else cellRead m b := by
  fun_induction cellStore m a bs with
  | case1 m a => rw [if_neg (by rw [List.length_nil]; omega)]
  | case2 m a v r ih =>
    rw [ih (cellsOk_write ok a v), cellRead_write ok, List.length_cons]
    rcases lt_trichotomy b a with below | rfl | above
    · rw [if_neg (by omega), if_neg (by omega), if_neg (by omega)]
    · rw [if_neg (by omega), if_pos rfl, if_pos (by omega), Nat.sub_self, List.getD_cons_zero]
    · obtain ⟨n, rfl⟩ := Nat.exists_eq_add_of_lt above
      have index : a + n + 1 - a = n + 1 := by omega
      rw [index, List.getD_cons_succ, show a + n + 1 - (a + 1) = n by omega, if_neg (show ¬a + n + 1 = a by omega)]
      exact ite_congr (by simp; omega) (fun _ => rfl) (fun _ => rfl)

/-! ### Canonical memories -/

theorem cellsOk_nil_of_read {m : List Host.Cell} (ok : cellsOk m = true) (blank : ∀ a, cellRead m a = 0) : m = [] := by
  cases m with
  | nil => rfl
  | cons c r =>
    have held : c.2 ≠ 0 := ((cellsOk_iff _).mp ok).2 c List.mem_cons_self
    exact absurd (blank c.1) (by rwa [cellRead_cons, if_pos rfl])

/-- Below a canonical memory's first cell and at it: where two such memories read alike, the first cell of one is not below the first of the other. -/
theorem cellHead_le {c d : Host.Cell} {m n : List Host.Cell} (okc : cellsOk (c :: m) = true) (okd : cellsOk (d :: n) = true)
    (alike : ∀ a, cellRead (c :: m) a = cellRead (d :: n) a) : d.1 ≤ c.1 := by
  by_contra below
  have held : c.2 ≠ 0 := ((cellsOk_iff _).mp okc).2 c List.mem_cons_self
  have after : ∀ e ∈ n, cellBefore d e := fun _ => List.rel_of_pairwise_cons ((cellsOk_iff _).mp okd).1
  have blank : cellRead (d :: n) c.1 = 0 :=
    cellRead_of_forall_lt (List.forall_mem_cons.mpr ⟨by omega, fun e he => (not_le.mp below).trans (after e he)⟩)
  exact held (by rw [← blank, ← alike, cellRead_cons, if_pos rfl])

/-- A memory in canonical form is fixed by what it reads. -/
theorem cells_ext {m n : List Host.Cell} (okm : cellsOk m = true) (okn : cellsOk n = true) (alike : ∀ a, cellRead m a = cellRead n a) : m = n := by
  induction m generalizing n with
  | nil => exact (cellsOk_nil_of_read okn fun a => (alike a).symm).symm
  | cons c r ih =>
    cases n with
    | nil => exact cellsOk_nil_of_read okm alike
    | cons d t =>
      have place : c.1 = d.1 := le_antisymm (cellHead_le okn okm fun a => (alike a).symm) (cellHead_le okm okn alike)
      have value : c.2 = d.2 := by
        have := alike c.1
        rwa [cellRead_cons, cellRead_cons, if_pos rfl, if_pos place] at this
      obtain rfl : c = d := Prod.ext place value
      have lowr : ∀ e ∈ r, c.1 < e.1 := fun _ => List.rel_of_pairwise_cons ((cellsOk_iff _).mp okm).1
      have lowt : ∀ e ∈ t, c.1 < e.1 := fun _ => List.rel_of_pairwise_cons ((cellsOk_iff _).mp okn).1
      rw [ih (cellsOk_sublist okm (List.sublist_cons_self ..)) (cellsOk_sublist okn (List.sublist_cons_self ..)) fun a => ?_]
      by_cases own : a = c.1
      · rw [own, cellRead_of_forall_lt lowr, cellRead_of_forall_lt lowt]
      · have := alike a
        rwa [cellRead_cons, cellRead_cons, if_neg own, if_neg own] at this

/-- Settles O8: reads after a write and after a store, and extensionality of canonical memories. -/
theorem byteMemories : Obligations.ByteMemories :=
  ⟨fun _ a b v ok => cellRead_write ok a b v, fun _ a b bs ok => cellRead_store ok a b bs, fun _ _ => cells_ext⟩

end Sys2Proof.Machine
end

section
/-! What every command keeps of a lane's byte memories. -/

namespace Sys2Proof.Machine

set_option Elab.async false

/-- Memory y is in canonical form if x is. -/
structure KeepsForm (x y : List Host.Cell) : Prop where
  ok : cellsOk x = true → cellsOk y = true

/-- Memory y is in canonical form if x is, and holds every bit that x holds. -/
def KeepsBits (x y : List Host.Cell) : Prop := cellsOk x = true → cellsOk y = true ∧ ∀ b, cellRead x b &&& cellRead y b = cellRead x b

/-- Lane l has come from lane o by steps that keep the canonical form of the four byte memories and every programmed OTP bit. -/
structure Keeps (o l : Lane) : Prop where
  sram : KeepsForm o.mem.sram l.mem.sram
  mram : KeepsForm o.mem.mram l.mem.mram
  ring : KeepsForm o.mb.ring l.mb.ring
  otp  : KeepsBits o.boot.otp l.boot.otp

theorem KeepsForm.refl (x : List Host.Cell) : KeepsForm x x := ⟨id⟩
theorem KeepsForm.nil (x : List Host.Cell) : KeepsForm x [] := ⟨fun _ => rfl⟩
theorem KeepsForm.store (x : List Host.Cell) (a : Nat) (bs : List Byte) : KeepsForm x (cellStore x a bs) := ⟨fun ok => cellsOk_store ok a bs⟩
theorem KeepsForm.merge (x : List Host.Cell) (a : Nat) (bs : List (Option Byte)) : KeepsForm x (cellMerge x a bs) := ⟨fun ok => cellsOk_merge ok a bs⟩
theorem KeepsForm.mergeAll {α : Type} (x : List Host.Cell) (ps : List α) (addr : α → Nat) (bs : α → List (Option Byte)) :
    KeepsForm x (ps.foldl (fun m p => cellMerge m (addr p) (bs p)) x) := ⟨cellsOk_mergeAll ps addr bs⟩
theorem KeepsForm.filter (x : List Host.Cell) (p : Host.Cell → Bool) : KeepsForm x (x.filter p) := ⟨cellsOk_filter p⟩
theorem KeepsForm.trans {x y z : List Host.Cell} (h : KeepsForm x y) (k : KeepsForm y z) : KeepsForm x z := ⟨k.ok ∘ h.ok⟩

theorem KeepsBits.refl (x : List Host.Cell) : KeepsBits x x := fun ok => ⟨ok, fun _ => BitVec.and_self⟩
theorem KeepsBits.trans {x y z : List Host.Cell} (h : KeepsBits x y) (k : KeepsBits y z) : KeepsBits x z := fun ok => by
  obtain ⟨oky, xy⟩ := h ok
  obtain ⟨okz, yz⟩ := k oky
  refine ⟨okz, fun b => ?_⟩
  rw [← xy b, BitVec.and_assoc, yz b]

theorem Keeps.refl (l : Lane) : Keeps l l := ⟨.refl _, .refl _, .refl _, .refl _⟩

theorem Keeps.of_eq {o l m : Lane} (h : Keeps o l) (es : m.mem.sram = l.mem.sram) (em : m.mem.mram = l.mem.mram)
    (er : m.mb.ring = l.mb.ring) (eo : m.boot.otp = l.boot.otp) : Keeps o m :=
  ⟨es ▸ h.sram, em ▸ h.mram, er ▸ h.ring, eo ▸ h.otp⟩

theorem Keeps.of_sram {o l m : Lane} (h : Keeps o l) (ks : KeepsForm l.mem.sram m.mem.sram) (em : m.mem.mram = l.mem.mram)
    (er : m.mb.ring = l.mb.ring) (eo : m.boot.otp = l.boot.otp) : Keeps o m :=
  ⟨h.sram.trans ks, em ▸ h.mram, er ▸ h.ring, eo ▸ h.otp⟩

theorem Keeps.of_mram {o l m : Lane} (h : Keeps o l) (es : m.mem.sram = l.mem.sram) (km : KeepsForm l.mem.mram m.mem.mram)
    (er : m.mb.ring = l.mb.ring) (eo : m.boot.otp = l.boot.otp) : Keeps o m :=
  ⟨es ▸ h.sram, h.mram.trans km, er ▸ h.ring, eo ▸ h.otp⟩

theorem Keeps.of_ring {o l m : Lane} (h : Keeps o l) (es : m.mem.sram = l.mem.sram) (em : m.mem.mram = l.mem.mram)
    (kr : KeepsForm l.mb.ring m.mb.ring) (eo : m.boot.otp = l.boot.otp) : Keeps o m :=
  ⟨es ▸ h.sram, em ▸ h.mram, h.ring.trans kr, eo ▸ h.otp⟩

theorem Keeps.of_otp {o l m : Lane} (h : Keeps o l) (es : m.mem.sram = l.mem.sram) (em : m.mem.mram = l.mem.mram)
    (er : m.mb.ring = l.mb.ring) (ko : KeepsBits l.boot.otp m.boot.otp) : Keeps o m :=
  ⟨es ▸ h.sram, em ▸ h.mram, er ▸ h.ring, h.otp.trans ko⟩

/-- An update of fields that hold none of the four memories. -/
theorem Keeps.upd {o l m : Lane} (h : Keeps o l) (es : m.mem.sram = l.mem.sram := by rfl) (em : m.mem.mram = l.mem.mram := by rfl)
    (er : m.mb.ring = l.mb.ring := by rfl) (eo : m.boot.otp = l.boot.otp := by rfl) : Keeps o m :=
  h.of_eq es em er eo

/-- The four byte memories of a lane. -/
def Lane.cells (l : Lane) : List Host.Cell × List Host.Cell × List Host.Cell × List Host.Cell := (l.mem.sram, l.mem.mram, l.mb.ring, l.boot.otp)

/-- A lane written out field by field, whose memories are those of l. -/
theorem Keeps.lit {o l : Lane} {id now st laneOk link params held fresh gd pwm sns pos mot le mp fn red net ports mb pwr mem boot bist}
    (e : (mem.sram, mem.mram, mb.ring, boot.otp) = l.cells) (h : Keeps o l) :
    Keeps o ⟨id, now, st, laneOk, link, params, held, fresh, gd, pwm, sns, pos, mot, le, mp, fn, red, net, ports, mb, pwr, mem, boot, bist⟩ := by
  simp only [Lane.cells, Prod.mk.injEq] at e
  obtain ⟨es, em, er, eo⟩ := e
  exact h.of_eq es em er eo

theorem Keeps.setRing {o l : Lane} (h : Keeps o l) {r : List Host.Cell} (k : KeepsForm l.mb.ring r) : Keeps o { l with mb.ring := r } :=
  h.of_ring rfl rfl k rfl

theorem Keeps.ite {o l m : Lane} {c : Prop} {_ : Decidable c} (h : Keeps o l) (h' : Keeps o m) : Keeps o (if c then l else m) := by
  split <;> assumption

theorem Keeps.foldl {α : Type} {o l : Lane} (h : Keeps o l) (xs : List α) {f : Lane → α → Lane} (hf : ∀ m x, Keeps o m → Keeps o (f m x)) :
    Keeps o (xs.foldl f l) :=
  List.foldlRecOn (motive := Keeps o) xs _ h fun m hm x _ => hf m x hm

theorem Keeps.when {o l : Lane} (h : Keeps o l) (c : Bool) {f : Lane → Lane} (hf : Keeps o (f l)) : Keeps o (l.when c f) := by
  unfold Lane.when; split <;> assumption

theorem Keeps.eachOf {o l : Lane} (h : Keeps o l) (ks : List Nat) {f : Nat → Lane → Lane} (hf : ∀ k m, Keeps o m → Keeps o (f k m)) :
    Keeps o (l.eachOf ks f) :=
  h.foldl ks fun m k hm => hf k m hm

theorem Keeps.each {o l : Lane} (h : Keeps o l) (n : Nat) {f : Nat → Lane → Lane} (hf : ∀ k m, Keeps o m → Keeps o (f k m)) : Keeps o (l.each n f) :=
  h.eachOf (List.range n) hf

theorem Keeps.setSpi {o l : Lane} (h : Keeps o l) (s : SpiPort) : Keeps o { l with mb.spi := s } := h.upd

theorem Keeps.ite_fst {α : Type} {o : Lane} {a b : Lane × α} {c : Prop} {_ : Decidable c} (h : Keeps o a.1) (h' : Keeps o b.1) : Keeps o (if c then a else b).1 := by
  split <;> assumption

/-! ### Programming the OTP -/

/-- Programming a byte over what stands there clears no bit. -/
theorem and_or_self_left (a b : Byte) : a &&& (a ||| b) = a := by
  ext i hi
  simp only [BitVec.getElem_and, BitVec.getElem_or]
  cases a[i] <;> simp

@[simp] theorem length_cellBytes (m : List Host.Cell) (a n : Nat) : (cellBytes m a n).length = n := by
  induction n generalizing a with
  | zero => rfl
  | succ n ih => simp [cellBytes, ih]

theorem getElem?_cellBytes (m : List Host.Cell) {a n i : Nat} (h : i < n) : (cellBytes m a n)[i]? = some (cellRead m (a + i)) := by
  induction n generalizing a i with
  | zero => omega
  | succ n ih =>
    cases i with
    | zero => rfl
    | succ i => rw [cellBytes, List.getElem?_cons_succ, ih (by omega)]; congr 2; omega

/-- What the OTP reads after bytes are programmed: each bit that stood there, and each one that was programmed (R428). -/
theorem cellRead_otpProgram (l : Lane) (off : Nat) (bs : List Byte) (ok : cellsOk l.boot.otp = true) (b : Nat) :
    cellRead (l.otpProgram off bs).boot.otp b =
      if off ≤ b ∧ b < off + bs.length then cellRead l.boot.otp b ||| bs.getD (b - off) 0 else cellRead l.boot.otp b := by
  unfold Lane.otpProgram Lane.otpBytes
  rw [cellRead_store ok, List.length_zipWith, length_cellBytes, Nat.min_self]
  by_cases inside : off ≤ b ∧ b < off + bs.length
  · have index : b - off < bs.length := by omega
    rw [if_pos inside, if_pos inside, List.getD_eq_getElem?_getD, List.getElem?_zipWith, getElem?_cellBytes _ index, List.getD_eq_getElem?_getD,
      List.getElem?_eq_getElem index, show off + (b - off) = b by omega]
    rfl
  · rw [if_neg inside, if_neg inside]

/-- Programming bytes clears no bit (R428, R430). -/
theorem otpProgram_keeps_bits (l : Lane) (off : Nat) (bs : List Byte) : KeepsBits l.boot.otp (l.otpProgram off bs).boot.otp := by
  refine fun ok => ⟨cellsOk_store ok _ _, fun b => ?_⟩
  rw [cellRead_otpProgram l off bs ok]
  split
  · exact and_or_self_left ..
  · exact BitVec.and_self

end Sys2Proof.Machine
end

section
/-! Each function of the model that acts on a lane keeps the lane's byte memories, in the order of the model's files. -/

namespace Sys2Proof.Machine
set_option Elab.async false

/-! ### Machine/Params -/

theorem Keeps.releaseIds {o l : Lane} (h : Keeps o l) (ids : List Nat) : Keeps o (l.releaseIds ids) := h.upd
theorem Keeps.releaseOf {o l : Lane} (h : Keeps o l) (ids : List Nat) (inst : Nat) : Keeps o (l.releaseOf ids inst) := h.upd
theorem Keeps.settled {o l : Lane} (h : Keeps o l) : Keeps o l.settled := h.upd

theorem Keeps.pset {o l : Lane} (h : Keeps o l) (id : Nat) (inst : Nat) (v : List Nat) : Keeps o (l.pset id inst v) := by
  unfold Lane.pset
  exact h.upd.ite h.upd

/-! ### Machine/OtpMap -/

theorem Keeps.otpProgram {o l : Lane} (h : Keeps o l) (off : Nat) (bs : List Byte) : Keeps o (l.otpProgram off bs) :=
  h.of_otp rfl rfl rfl (otpProgram_keeps_bits l off bs)

theorem Keeps.mramPut {o l : Lane} (h : Keeps o l) (off : Nat) (bs : List Byte) : Keeps o (l.mramPut off bs) :=
  h.of_mram rfl (.store ..) rfl rfl

theorem Keeps.mramErase {o l : Lane} (h : Keeps o l) (off n : Nat) : Keeps o (l.mramErase off n) :=
  h.of_mram rfl (.filter ..) rfl rfl

/-! ### Machine/Records -/

theorem Keeps.chrysWrite {o l : Lane} (h : Keeps o l) (c : Chrysalis) (n : Nat) : Keeps o (l.chrysWrite c n) := by
  unfold Lane.chrysWrite
  exact .lit rfl (h.mramPut ..)

theorem Keeps.chrysStore {o l : Lane} (h : Keeps o l) (c : Chrysalis) : Keeps o (l.chrysStore c) := by
  unfold Lane.chrysStore
  exact (h.mramPut ..).chrysWrite ..

theorem Keeps.chrysUsed {o l : Lane} (h : Keeps o l) : Keeps o l.chrysUsed := by
  unfold Lane.chrysUsed
  exact (h.mramPut ..).mramPut ..

theorem Keeps.bistStore {o l : Lane} (h : Keeps o l) (r : BistRec) : Keeps o (l.bistStore r) := by
  have first := h.mramPut (bistBase r.kind (l.bistOlder r.kind)) r.bytes
  dsimp only [Lane.bistStore]
  exact first.ite (first.mramPut (0x511000 + 0x200 * l.bist.ringAt) r.bytes).upd

theorem Keeps.tabStore {o l : Lane} (h : Keeps o l) (n : Nat) (t : List W16) : Keeps o (l.tabStore n t) := by
  unfold Lane.tabStore
  exact (h.mramPut ..).mramPut ..

/-! ### Machine/Flags -/

theorem Keeps.irqLine {o l : Lane} (h : Keeps o l) : Keeps o l.irqLine := by
  unfold Lane.irqLine
  exact (h.ite h.upd).ite (h.upd.ite h)

theorem Keeps.irqSet {o l : Lane} (h : Keeps o l) (n : Nat) : Keeps o (l.irqSet n) := by
  unfold Lane.irqSet
  exact h.upd.irqLine

/-! ### Machine/Ops -/

theorem Keeps.advance {o l : Lane} (h : Keeps o l) (t : Nat) : Keeps o (l.advance t) := h.upd
theorem Keeps.wired {o l : Lane} (h : Keeps o l) (i : LaneId) : Keeps o (l.wired i) := h.upd
theorem Keeps.freeNat {o l : Lane} (h : Keeps o l) : Keeps o (l.freeNat).2 := h.upd
theorem Keeps.setQ {o l : Lane} (h : Keeps o l) (n : Nat) (q : Queue) : Keeps o (l.setQ n q) := h.upd

theorem Keeps.qPop {o l : Lane} (h : Keeps o l) (n : Nat) : Keeps o (l.qPop n) := by
  unfold Lane.qPop
  dsimp only
  split
  · exact h
  · exact h.setQ ..

theorem Keeps.qPut {o l : Lane} (h : Keeps o l) (n flags : Nat) (data : List Byte) : Keeps o (l.qPut n flags data) := by
  have ring (a b : Nat) (bs : List Byte) : KeepsForm l.mb.ring (if qVisible n then cellStore (cellStore l.mb.ring a data) b bs else l.mb.ring) := by
    split
    · exact (KeepsForm.store _ _ _).trans (.store ..)
    · exact .refl _
  dsimp only [Lane.qPut]
  split
  · exact ((h.setRing (ring ..)).setQ ..).irqSet ..
  · exact (h.setRing (ring ..)).setQ ..

theorem Keeps.qMarkDrop {o l : Lane} (h : Keeps o l) (n : Nat) : Keeps o (l.qMarkDrop n) := by
  dsimp only [Lane.qMarkDrop]
  split
  · exact h.setQ ..
  · exact ((h.setQ ..).setRing (.store ..)).ite (h.setQ ..)

theorem Keeps.qOverwrite {o l : Lane} (h : Keeps o l) (n : Nat) (data : List Byte) : Keeps o (l.qOverwrite n data) := by
  unfold Lane.qOverwrite
  exact (h.when _ ((h.qPop ..).qMarkDrop ..)).qPut ..

theorem Keeps.qDropNew {o l : Lane} (h : Keeps o l) (n : Nat) (data : List Byte) : Keeps o (l.qDropNew n data) := by
  unfold Lane.qDropNew
  exact (h.setQ ..).ite (h.qPut ..)

theorem Keeps.qPutAll {o l : Lane} (h : Keeps o l) (n : Nat) (first : Bool) (cs : List (List Byte)) : Keeps o (l.qPutAll n first cs) := by
  fun_induction Lane.qPutAll l n first cs with
  | case1 => exact h
  | case2 => exact h.qPut ..
  | case3 l first c r _ ih => exact ih (h.qPut ..)

theorem Keeps.qPutMsg {o l : Lane} (h : Keeps o l) (n : Nat) (m : List Byte) : Keeps o (l.qPutMsg n m) := by
  unfold Lane.qPutMsg
  exact h.qPutAll ..

theorem Keeps.qDropN {o l : Lane} (h : Keeps o l) (n : Nat) (k : Nat) : Keeps o (l.qDropN n k) := h.upd

theorem Keeps.qPass {o l : Lane} (h : Keeps o l) (n : Nat) (data : List Byte) : Keeps o (l.qPass n data) := by
  unfold Lane.qPass
  exact (h.qPut ..).qDropN ..

theorem Keeps.logAdd {o l : Lane} (h : Keeps o l) (code : Nat) (arg : W32) (t : Nat) (aon : Bool) : Keeps o (l.logAdd code arg t aon) := by
  unfold Lane.logAdd
  exact h.upd.ite h

theorem Keeps.eventRaw {o l : Lane} (h : Keeps o l) (code : Nat) (arg : Nat) (after : Bool) : Keeps o (l.eventRaw code arg after) := by
  unfold Lane.eventRaw
  exact (h.upd.qOverwrite ..).logAdd ..

theorem Keeps.event {o l : Lane} (h : Keeps o l) (code : Nat) (arg : Nat) : Keeps o (l.event code arg) := by
  unfold Lane.event
  exact ((h.upd.eventRaw ..).eventRaw ..).ite (h.eventRaw ..)

theorem Keeps.eventU {o l : Lane} (h : Keeps o l) (code : Nat) : Keeps o (l.eventU code) := by
  unfold Lane.eventU
  exact h.upd.event ..

theorem Keeps.aonEvent {o l : Lane} (h : Keeps o l) (code : Nat) (arg : Nat) : Keeps o (l.aonEvent code arg) := h.upd

theorem Keeps.complete {o l : Lane} (h : Keeps o l) (k : CmdKey) (status : Nat) : Keeps o (l.complete k status) := by
  unfold Lane.complete
  exact (h.upd.event ..).ite h

theorem Keeps.completeOpt {o l : Lane} (h : Keeps o l) (k : Option CmdKey) (status : Nat) : Keeps o (l.completeOpt k status) := by
  unfold Lane.completeOpt
  split
  · exact h.complete ..
  · exact h

theorem Keeps.setSt {o l : Lane} (h : Keeps o l) (st : LaneSt) : Keeps o (l.setSt st) := by
  unfold Lane.setSt
  exact h.ite ((h.upd.irqSet ..).irqLine)

theorem Keeps.setLnk {o l : Lane} (h : Keeps o l) (p : LaneId) (k : Link) : Keeps o (l.setLnk p k) := h.upd

theorem Keeps.send {o l : Lane} (h : Keeps o l) (p : LaneId) (urgent : Bool) (kind : Nat) (payload : List Byte) (dest : Option LaneId) (side : Option LaneNews) : Keeps o (l.send p urgent kind payload dest side) := by
  unfold Lane.send
  exact h.ite (h.setLnk ..)

theorem Keeps.sendBoth {o l : Lane} (h : Keeps o l) (urgent : Bool) (kind : Nat) (payload : List Byte) (side : Option LaneNews) : Keeps o (l.sendBoth urgent kind payload side) := by
  unfold Lane.sendBoth
  exact (h.send ..).send ..

/-! ### Machine/Serve -/

theorem Keeps.setCan {o l : Lane} (h : Keeps o l) (port : Nat) (c : Can) : Keeps o (l.setCan port c) := h.upd
theorem Keeps.canSend {o l : Lane} (h : Keeps o l) (port : Nat) (id : Nat) (seg : Nat) (msgId : Nat) (body : List Byte) (fd : Bool) : Keeps o (l.canSend port id seg msgId body fd) := h.upd

theorem Keeps.canSegs {o l : Lane} (h : Keeps o l) (port host msgId n i : Nat) (fd : Bool) (cs : List (List Byte)) : Keeps o (l.canSegs port host msgId n i fd cs) := by
  rw [Lane.canSegs_eq]
  exact h.upd

theorem Keeps.canRespond {o l : Lane} (h : Keeps o l) (k : CmdKey) (msg : List Byte) : Keeps o (l.canRespond k msg) := by
  unfold Lane.canRespond
  exact h.canSegs ..

theorem Keeps.netSegs {o l : Lane} (h : Keeps o l) (node msgId n i : Nat) (cs : List (List Byte)) : Keeps o (l.netSegs node msgId n i cs) := by
  fun_induction Lane.netSegs l node msgId n i cs with
  | case1 => exact h
  | case2 l i c r ih => exact ih (h.qPut ..)

theorem Keeps.netPump {o l : Lane} (h : Keeps o l) (n : Nat) : Keeps o (l.netPump n) := by
  induction n generalizing l with
  | zero => exact h
  | succ n ih =>
    unfold Lane.netPump
    split
    · exact h
    · exact (ih ((h.upd.qDropN ..).netSegs ..)).ite h

theorem Keeps.setCnt {o l : Lane} (h : Keeps o l) (tr : Transport) (c : MbCounters) : Keeps o (l.setCnt tr c) := h.upd

theorem Keeps.respSend {o l : Lane} (h : Keeps o l) (k : CmdKey) (msg : List Byte) : Keeps o (l.respSend k msg) := by
  have put := h.qPutMsg (respQ k.tr) msg
  dsimp only [Lane.respSend]
  split
  · split
    · exact Keeps.netPump (l := { l.qPutMsg (respQ k.tr) msg with mb.metaNet := _ }) put.upd _
    · exact (put.canRespond ..).qDropN ..
    · exact put
  · exact h.upd

theorem Keeps.respond {o l : Lane} (h : Keeps o l) (k : CmdKey) (status : Nat) (res : List Byte) : Keeps o (l.respond k status res) := by
  unfold Lane.respond
  refine (h.setCnt ..).ite (.respSend ?_ ..)
  split
  · exact h.upd
  · exact h.upd
  · exact h.setCnt ..

theorem Keeps.respFlush {o l : Lane} (h : Keeps o l) : Keeps o l.respFlush := by
  unfold Lane.respFlush
  exact h.upd.foldl _ (fun m k hm => hm.respSend ..)

theorem Keeps.answer {o l : Lane} (h : Keeps o l) (k : CmdKey) (status : Nat) (res : List Byte) : Keeps o (l.answer k status res) := by
  unfold Lane.answer
  exact (h.upd.respond ..).ite h

theorem Keeps.answerOpt {o l : Lane} (h : Keeps o l) (k : Option CmdKey) (status : Nat) : Keeps o (l.answerOpt k status) := by
  unfold Lane.answerOpt
  split
  · exact h.answer ..
  · exact h

theorem Keeps.take {o l t : Lane} (h : Keeps o l) {op : Nat} {m : Msg} (e : l.take op m = some t) : Keeps o t := by
  have dropped (n k : Nat) (c : Bool) : Keeps o ((l.qDropN n k).when c fun l => l.irqSet 3) := (h.qDropN n k).when c ((h.qDropN n k).irqSet 3)
  unfold Lane.take at e
  split at e
  · cases e
  · dsimp only at e
    split at e
    · exact Option.some.inj e ▸ (dropped ..).of_eq rfl rfl rfl rfl
    · cases e

theorem Keeps.refuse {o l : Lane} (h : Keeps o l) (status : Nat) : Keeps o (refuse l status).1 := h.upd
theorem Keeps.done {o l : Lane} (h : Keeps o l) (res : List Byte) : Keeps o (done l res).1 := h.upd

theorem Keeps.noteV1 {o l : Lane} (h : Keeps o l) (m : Msg) : Keeps o (l.noteV1 m) := by
  unfold Lane.noteV1
  exact (h.upd.event ..).ite h

theorem Keeps.execute {o l : Lane} (h : Keeps o l) (op : Nat) (m : Msg) {f : Lane → Lane × Reply} (hf : ∀ x, Keeps o x → Keeps o (f x).1) : Keeps o (l.execute op m f) := by
  have served := hf _ (h.noteV1 m)
  unfold Lane.execute
  split
  · exact h.respond ..
  · dsimp only
    split
    · exact served.respond ..
    · exact served.upd

theorem Keeps.aside {o l t : Lane} (h : Keeps o l) {op : Nat} {m : Msg} (e : l.aside op m = some t) : Keeps o t := by
  unfold Lane.aside at e
  split at e
  · exact Option.some.inj e ▸ h.upd
  · obtain ⟨_, _, rfl⟩ := Option.map_eq_some_iff.mp e
    exact (h.setCnt ..).respSend ..

theorem Keeps.serve {o l : Lane} (h : Keeps o l) (op : Nat) (m : Msg) {f : Lane → Lane × Reply} (hf : ∀ x, Keeps o x → Keeps o (f x).1) : Keeps o (l.serve op m f) := by
  unfold Lane.serve
  split
  case h_1 => exact h
  case h_2 t taken =>
    have ht := h.take taken
    cases e : t.aside op m with
    | none => exact ht.execute op m hf
    | some u => exact ht.aside e

theorem Keeps.accept {o l : Lane} (h : Keeps o l) (k : CmdKey) : Keeps o (accept l k).1 := h.upd

theorem Keeps.idleToRun {o l : Lane} (h : Keeps o l) : Keeps o l.idleToRun := by
  unfold Lane.idleToRun
  exact h.upd.ite h

/-! ### Machine/Mailbox -/

theorem Keeps.setSes {o l : Lane} (h : Keeps o l) (tr : Transport) (s : Session) : Keeps o (l.setSes tr s) := h.upd
theorem Keeps.closeSes {o l : Lane} (h : Keeps o l) (tr : Transport) : Keeps o (l.closeSes tr) := h.upd
theorem Keeps.closeAll {o l : Lane} (h : Keeps o l) : Keeps o l.closeAll := h.upd

theorem Keeps.hSessionChallenge {o l : Lane} (h : Keeps o l) (m : Msg) : Keeps o (Lane.hSessionChallenge m l).1 := by
  unfold Lane.hSessionChallenge
  split
  · exact h.refuse ..
  · exact (h.upd.setSes ..).done ..

theorem Keeps.sesFail {o l : Lane} (h : Keeps o l) : Keeps o l.sesFail := by
  have told := Keeps.eventU (l := { l with mb.failCount := l.mb.failCount + 1 }) h.upd 0x1107
  dsimp only [Lane.sesFail]
  split
  · exact Keeps.eventU (l := { Lane.eventU { l with mb.failCount := l.mb.failCount + 1 } 0x1107 with mb.lockUntil := _, mb.lockLen := _ }) told.upd 0x1108
  · exact told

theorem Keeps.hSessionResponse {o l : Lane} (h : Keeps o l) (m : Msg) : Keeps o (Lane.hSessionResponse m l).1 := by
  unfold Lane.hSessionResponse
  dsimp only
  split
  · exact h.refuse ..
  · split
    · split
      · exact (h.upd.eventU ..).done ..
      · exact (h.setSes ..).sesFail
    · split
      · exact (h.upd.eventU ..).done ..
      · exact (h.setSes ..).sesFail

theorem Keeps.hSessionClose {o l : Lane} (h : Keeps o l) (m : Msg) : Keeps o (Lane.hSessionClose m l).1 := h.upd

theorem Keeps.sesIdle {o l : Lane} (h : Keeps o l) (tr : Transport) : Keeps o (l.sesIdle tr) := by
  unfold Lane.sesIdle
  exact (h.closeSes ..).ite h

theorem Keeps.hIdentify {o l : Lane} (h : Keeps o l) : Keeps o (l.hIdentify).1 := h.upd
theorem Keeps.setLoop {o l : Lane} (h : Keeps o l) (k : Nat) (x : LoopSlot) : Keeps o (l.setLoop k x) := h.upd
theorem Keeps.setMotor {o l : Lane} (h : Keeps o l) (k : Nat) (x : MotSlot) : Keeps o (l.setMotor k x) := h.upd
theorem Keeps.setGen {o l : Lane} (h : Keeps o l) (k : Nat) (x : Gen) : Keeps o (l.setGen k x) := h.upd
theorem Keeps.setFunc {o l : Lane} (h : Keeps o l) (k : Nat) (x : Fn) : Keeps o (l.setFunc k x) := h.upd
theorem Keeps.setStream {o l : Lane} (h : Keeps o l) (i : Nat) (x : Stream) : Keeps o (l.setStream i x) := h.upd

theorem Keeps.streamReject {o l : Lane} (h : Keeps o l) (i : Nat) : Keeps o (l.streamReject i) := by
  unfold Lane.streamReject
  exact (h.setStream ..).ite (h.upd.eventU ..)

theorem Keeps.streamTake {o l : Lane} (h : Keeps o l) (e : List Byte) : Keeps o (l.streamTake e).1 := by
  unfold Lane.streamTake
  dsimp only
  split
  · exact h.streamReject ..
  · exact h.setStream ..

theorem Keeps.streamAll {o l : Lane} (h : Keeps o l) (es : List (List Byte)) : Keeps o (l.streamAll es).1 := by
  induction es generalizing l with
  | nil => exact h
  | cons e r ih => exact ih (h.streamTake ..)

theorem Keeps.streamRead {o l : Lane} (h : Keeps o l) (i : Nat) : Keeps o (l.streamRead i).1 := by
  unfold Lane.streamRead
  dsimp only
  split <;> exact h.setStream ..

theorem Keeps.streamFlush {o l : Lane} (h : Keeps o l) (i : Nat) : Keeps o (l.streamFlush i) := h.upd

theorem Keeps.hStreamPush {o l : Lane} (h : Keeps o l) (m : Msg) : Keeps o (Lane.hStreamPush m l).1 := by
  unfold Lane.hStreamPush
  exact (h.streamAll ..).done ..

theorem Keeps.hEventRead {o l : Lane} (h : Keeps o l) (m : Msg) : Keeps o (Lane.hEventRead m l).1 := by
  unfold Lane.hEventRead
  dsimp only
  split
  · exact h.refuse ..
  · exact h.done ..

theorem Keeps.hTraceCtrl {o l : Lane} (h : Keeps o l) (m : Msg) : Keeps o (Lane.hTraceCtrl m l).1 := by
  unfold Lane.hTraceCtrl
  split
  · exact h.refuse ..
  · exact h.upd.done ..

theorem Keeps.hLogRead {o l : Lane} (h : Keeps o l) (m : Msg) : Keeps o (Lane.hLogRead m l).1 := h.upd

theorem Keeps.spiErr {o l : Lane} (h : Keeps o l) (crc : Bool) (frame : Bool) (addr : Bool) (ovr : Bool) (nos : Bool) : Keeps o (l.spiErr crc frame addr ovr nos) := by
  unfold Lane.spiErr
  exact (h.upd.irqSet ..).ite h

theorem Keeps.spiTxn {o l : Lane} (h : Keeps o l) (w : Wire) (addrOk : Bool) {f : Lane → Lane × Bool × Bool × Bool} (hf : ∀ m, Keeps o m → Keeps o (f m).1) : Keeps o (l.spiTxn w addrOk f) := by
  unfold Lane.spiTxn
  refine h.ite ?_
  extract_lets n _ _ l1 _ _ l2 _ l3 l4 _ _ l5 _ l6 l7 _ _ r _ _ _ l8
  have h1 : Keeps o l1 := h.setSpi _
  clear_value l1
  have h4 : Keeps o l4 := ((h1.setSpi _).setCnt ..).spiErr ..
  have h7 : Keeps o l7 := ((h1.setSpi _).setCnt ..).spiErr ..
  clear_value l4 l7
  have hr : Keeps o r.1 := hf _ (h1.setSpi _)
  clear_value r
  exact .ite (.ite ((h4.setSpi _).eventU _) h4) (.ite (.ite ((h7.setSpi _).eventU _) h7) ((hr.setSpi _).spiErr ..))

theorem Keeps.ringTake {o l : Lane} (h : Keeps o l) (n k : Nat) : Keeps o (l.ringTake n k) := by
  induction k generalizing l with
  | zero => exact h
  | succ k ih => exact ih (h.setQ ..)

theorem Keeps.drainQ11 {o l : Lane} (h : Keeps o l) : Keeps o l.drainQ11 := by
  unfold Lane.drainQ11
  exact ((h.when _ (h.irqSet ..)).qDropN ..).streamAll ..

theorem Keeps.doorbell {o l : Lane} (h : Keeps o l) (n : Nat) (tail : Nat) : Keeps o (l.doorbell n tail).1 := by
  unfold Lane.doorbell
  split
  · exact h
  · split
    · exact h
    · dsimp only
      split
      · split
        · exact h
        · exact (((h.qDropN ..).ringTake ..).drainQ11).ite ((h.qDropN ..).ringTake ..)
      · split
        · exact h
        · exact ((h.ringTake ..).drainQ11).ite (h.ringTake ..)

theorem Keeps.qhead {o l : Lane} (h : Keeps o l) (n : Nat) (head : Nat) : Keeps o (l.qhead n head) := by
  unfold Lane.qhead
  exact h.ite (((h.qDropN ..).respFlush).ite (h.qDropN ..))

theorem Keeps.ringWrite {o l : Lane} (h : Keeps o l) (wa x : Nat) : Keeps o (l.ringWrite wa x) := by
  unfold Lane.ringWrite
  split
  · exact h
  · exact h.of_ring rfl rfl (.store ..) rfl
  · exact h.of_ring rfl rfl (.store ..) rfl

theorem Keeps.spiWrite {o l : Lane} (h : Keeps o l) (wa : Nat) (v : W32) : Keeps o (l.spiWrite wa v).1 := by
  unfold Lane.spiWrite
  dsimp only
  split
  · exact h.upd
  · split
    · exact h.upd.irqLine
    · split
      · exact h.upd.irqLine
      · split
        · exact h.doorbell ..
        · split
          · exact h.upd
          · split
            · exact h.qhead ..
            · exact h.ringWrite ..

theorem Keeps.spiWrites {o l : Lane} (h : Keeps o l) (wa : Nat) (ws : List W32) : Keeps o (l.spiWrites wa ws).1 := by
  induction ws generalizing l wa with
  | nil => exact h
  | cons v r ih => exact ih (h.spiWrite ..) _

theorem Keeps.spiWriteTxn {o l : Lane} (h : Keeps o l) (w : Wire) (wa : Nat) (vs : List W32) : Keeps o (l.spiWriteTxn w wa vs) := by
  unfold Lane.spiWriteTxn
  exact h.spiTxn _ _ (fun m hm => hm.spiWrites ..)

theorem Keeps.spiReadTxn {o l : Lane} (h : Keeps o l) (w : Wire) (wa : Nat) (n : Nat) : Keeps o (l.spiReadTxn w wa n) := by
  unfold Lane.spiReadTxn
  exact h.spiTxn _ _ (fun m hm => hm.upd)

theorem Keeps.spWrite {o l : Lane} (h : Keeps o l) (crcOk : Bool) {f : Lane → Lane} (hf : Keeps o (f l)) : Keeps o (l.spWrite crcOk f) :=
  h.ite (hf.ite ((h.upd.setCnt ..).eventU ..))

theorem Keeps.spIn {o l : Lane} (h : Keeps o l) (b : List Byte) : Keeps o (l.spIn b) := by
  unfold Lane.spIn
  exact h.upd.ite h.upd

theorem Keeps.spCommit {o l : Lane} (h : Keeps o l) : Keeps o l.spCommit := by
  unfold Lane.spCommit
  exact h.upd.ite ((h.upd.qPutMsg ..).ite (h.upd.setCnt ..))

theorem Keeps.spDiscard {o l : Lane} (h : Keeps o l) : Keeps o l.spDiscard := h.upd

theorem Keeps.spOut {o l : Lane} (h : Keeps o l) : Keeps o l.spOut := by
  unfold Lane.spOut
  exact ((h.upd.qDropN ..).respFlush).ite h.upd

theorem Keeps.setReasms {o l : Lane} (h : Keeps o l) (tr : Transport) (r : List Reasm) : Keeps o (l.setReasms tr r) := by
  unfold Lane.setReasms
  exact h.upd.ite h.upd

theorem Keeps.reasmFail {o l : Lane} (h : Keeps o l) (tr : Transport) : Keeps o (l.reasmFail tr) := by
  unfold Lane.reasmFail
  exact (h.setCnt ..).eventU ..

theorem Keeps.msgComplete {o l : Lane} (h : Keeps o l) (tr : Transport) (port : Nat) (host : Nat) (msgId : Nat) (bcast : Bool) (b : List Byte) : Keeps o (l.msgComplete tr port host msgId bcast b) := by
  unfold Lane.msgComplete
  refine (h.reasmFail ..).ite (h.upd.ite ?_)
  split
  · exact (h.setCnt ..).respSend ..
  · exact (h.qPutMsg ..).ite ((h.setCnt ..).eventU ..)

theorem Keeps.segment {o l : Lane} (h : Keeps o l) (tr : Transport) (port : Nat) (host : Nat) (seg : Nat) (msgId : Nat) (bcast : Bool) (b : List Byte) : Keeps o (l.segment tr port host seg msgId bcast b) := by
  unfold Lane.segment
  refine .ite (.ite (.msgComplete ?_ ..) (.reasmFail ?_ ..)) (.ite (.ite (.reasmFail ?_ ..) (.ite (.reasmFail ?_ ..) (.setReasms ?_ ..))) ?_)
  · split
    · exact (h.setReasms ..).reasmFail ..
    · exact h
  · split
    · exact (h.setReasms ..).reasmFail ..
    · exact h
  · split
    · exact (h.setReasms ..).reasmFail ..
    · exact h
  · split
    · exact (h.setReasms ..).reasmFail ..
    · exact h
  · split
    · exact (h.setReasms ..).reasmFail ..
    · exact h
  · split
    · exact h.reasmFail ..
    · refine .ite ?_ (((h.setReasms ..).msgComplete ..).ite (h.setReasms ..))
      split
      · exact (h.setReasms ..).reasmFail ..
      · exact h

/-! ### Machine/Slots -/

theorem Keeps.setHb {o l : Lane} (h : Keeps o l) (k : Nat) (x : HalfBridge) : Keeps o (l.setHb k x) := h.upd
theorem Keeps.setGch {o l : Lane} (h : Keeps o l) (k : Nat) (x : GateCh) : Keeps o (l.setGch k x) := h.upd
theorem Keeps.setTb {o l : Lane} (h : Keeps o l) (k : Nat) (x : TimeBase) : Keeps o (l.setTb k x) := h.upd
theorem Keeps.setPch {o l : Lane} (h : Keeps o l) (k : Nat) (x : PwmCh) : Keeps o (l.setPch k x) := h.upd
theorem Keeps.setSrc {o l : Lane} (h : Keeps o l) (k : Nat) (x : TripSrc) : Keeps o (l.setSrc k x) := h.upd
theorem Keeps.setStepper {o l : Lane} (h : Keeps o l) (k : Nat) (x : Stepper) : Keeps o (l.setStepper k x) := h.upd

theorem Keeps.guarded {o l : Lane} (h : Keeps o l) (cs : List (Bool × Nat)) {f : Lane → Lane × Reply} (hf : Keeps o (f l).1) : Keeps o (guarded l cs f).1 := by
  unfold Machine.guarded
  split
  · exact h
  · exact hf

theorem Keeps.injAbort {o l : Lane} (h : Keeps o l) (j : Nat) : Keeps o (l.injAbort j) := by
  unfold Lane.injAbort
  exact ((h.setLoop ..).eventU ..).ite h

theorem Keeps.genHalt {o l : Lane} (h : Keeps o l) (g : Nat) (status : Nat) : Keeps o (l.genHalt g status) := by
  unfold Lane.genHalt
  exact (h.setGen ..).foldl _ (fun m k hm => hm.complete ..)

theorem Keeps.stepOff {o l : Lane} (h : Keeps o l) (k : Nat) : Keeps o (l.stepOff k) := by
  unfold Lane.stepOff
  exact ((h.setStepper ..).eventU ..).ite h

theorem Keeps.stepTrip {o l : Lane} (h : Keeps o l) (k : Nat) : Keeps o (l.stepTrip k) := by
  unfold Lane.stepTrip
  exact h.ite (((h.genHalt ..).ite ((h.genHalt ..).stepOff ..)).setStepper ..)

theorem Keeps.setSg {o l : Lane} (h : Keeps o l) (k : Nat) (x : StepGen) : Keeps o (l.setSg k x) := h.upd

theorem Keeps.stepStand {o l : Lane} (h : Keeps o l) (k : Nat) : Keeps o (l.stepStand k) := by
  unfold Lane.stepStand
  split
  · exact h.ite ((h.genHalt ..).setStepper ..)
  · exact h

theorem Keeps.takeSafe {o l : Lane} (h : Keeps o l) (k : Nat) : Keeps o (l.takeSafe k) := by
  unfold Lane.takeSafe
  exact h.ite (((h.ite (h.releaseOf ..)).stepStand ..).setMotor ..)

theorem Keeps.takeSafeAll {o l : Lane} (h : Keeps o l) : Keeps o l.takeSafeAll := by
  unfold Lane.takeSafeAll
  exact h.each _ (fun k m hm => hm.takeSafe ..)

theorem Keeps.allOff {o l : Lane} (h : Keeps o l) : Keeps o l.allOff := by
  unfold Lane.allOff
  exact h.each _ (fun k m hm => (hm.setMotor ..).stepOff ..)

theorem Keeps.windFault {o l : Lane} (h : Keeps o l) (k : Nat) : Keeps o (l.windFault k) := h.upd

theorem Keeps.loopSafe {o l : Lane} (h : Keeps o l) (k : Nat) : Keeps o (l.loopSafe k) := by
  unfold Lane.loopSafe
  exact h.eachOf _ (fun k1 m hm => ((((hm.injAbort ..).releaseOf ..).setLoop ..).event ..).ite (hm.injAbort ..))

theorem Keeps.flyBack {o l : Lane} (h : Keeps o l) (k : Nat) : Keeps o (l.flyBack k) := by
  unfold Lane.flyBack
  exact ((h.setMotor ..).takeSafe ..).loopSafe ..

theorem Keeps.flyStop {o l : Lane} (h : Keeps o l) (k : Nat) : Keeps o (l.flyStop k) := by
  unfold Lane.flyStop
  exact (h.flyBack ..).ite h

theorem Keeps.slotLoaded {o l : Lane} (h : Keeps o l) (k : Nat) : Keeps o (l.slotLoaded k) := by
  unfold Lane.slotLoaded
  exact (h.setMotor ..).ite h

/-! ### Machine/Gates -/

theorem Keeps.openFrame {o l : Lane} (h : Keeps o l) (ch : Nat) : Keeps o (l.openFrame ch) := h.upd
theorem Keeps.freshStart {o l : Lane} (h : Keeps o l) (ch : Nat) : Keeps o (l.freshStart ch) := h.upd
theorem Keeps.takeLevel {o l : Lane} (h : Keeps o l) (ch : Nat) : Keeps o (l.takeLevel ch) := h.upd

/-! ### Machine/Lanes -/

theorem Keeps.setPeer {o l : Lane} (h : Keeps o l) (p : LaneId) (v : PeerView) : Keeps o (l.setPeer p v) := h.upd

theorem Keeps.sendTo {o l : Lane} (h : Keeps o l) (p : LaneId) (urgent : Bool) (kind : Nat) (payload : List Byte) : Keeps o (l.sendTo p urgent kind payload) := by
  unfold Lane.sendTo
  exact (h.send ..).ite (h.foldl _ (fun m k hm => hm.send ..))

theorem Keeps.internalFault {o l : Lane} (h : Keeps o l) : Keeps o l.internalFault := h.upd

theorem Keeps.addInst {o l : Lane} (h : Keeps o l) (cls : Nat) (lane : Nat) (key : Nat) : Keeps o (l.addInst cls lane key) := by
  unfold Lane.addInst
  exact h.ite h.upd

theorem Keeps.dropInst {o l : Lane} (h : Keeps o l) (cls : Nat) (lane : Nat) (key : Nat) : Keeps o (l.dropInst cls lane key) := h.upd
theorem Keeps.dropLane {o l : Lane} (h : Keeps o l) (lane : Nat) : Keeps o (l.dropLane lane) := h.upd
theorem Keeps.senseFollow {o l : Lane} (h : Keeps o l) : Keeps o l.senseFollow := h.upd
theorem Keeps.setCell {o l : Lane} (h : Keeps o l) (c : Cell) : Keeps o (l.setCell c) := h.upd

theorem Keeps.cellFollow {o l : Lane} (h : Keeps o l) : Keeps o l.cellFollow := by
  unfold Lane.cellFollow
  split
  · exact h.ite (h.setCell ..)
  · exact h.ite (h.setCell ..)
  · exact h.ite (h.setCell ..)
  · exact h
  · exact h
  · exact h.ite (h.setCell ..)

theorem Keeps.dupStart {o l : Lane} (h : Keeps o l) : Keeps o l.dupStart := by
  unfold Lane.dupStart
  exact h.ite (h.upd.eventU ..)

theorem Keeps.dupEnd {o l : Lane} (h : Keeps o l) : Keeps o l.dupEnd := by
  unfold Lane.dupEnd
  exact (h.upd.eventU ..).ite h

theorem Keeps.withdraw {o l : Lane} (h : Keeps o l) (code : Nat) (cause : Nat) : Keeps o (l.withdraw code cause) := by
  unfold Lane.withdraw
  exact h.sendBoth ..

theorem Keeps.stepDown {o l : Lane} (h : Keeps o l) : Keeps o l.stepDown := by
  unfold Lane.stepDown
  exact (h.upd.eventU ..).ite h

theorem Keeps.testsGone {o l : Lane} (h : Keeps o l) : Keeps o l.testsGone := h.upd
theorem Keeps.logSilent {o l : Lane} (h : Keeps o l) : Keeps o l.logSilent := h.upd

theorem Keeps.failSilent {o l : Lane} (h : Keeps o l) (cause : Nat) : Keeps o (l.failSilent cause) := by
  unfold Lane.failSilent
  refine h.ite ?_
  extract_lets m
  have hm : Keeps o m := h.stepDown.testsGone
  clear_value m
  exact ((hm.upd.setSt .failSilent).logSilent.withdraw 11 cause).allOff.cellFollow

theorem Keeps.enterLimp {o l : Lane} (h : Keeps o l) : Keeps o l.enterLimp := by
  unfold Lane.enterLimp
  exact h.ite (.cellFollow (.takeSafeAll (.withdraw (.setSt (.lit rfl h.stepDown) ..) ..)))

theorem Keeps.grdTake {o l : Lane} (h : Keeps o l) : Keeps o l.grdTake := h.upd
theorem Keeps.netListen {o l : Lane} (h : Keeps o l) : Keeps o l.netListen := h.upd
theorem Keeps.netStart {o l : Lane} (h : Keeps o l) (st : NetSt) : Keeps o (l.netStart st) := h.upd

theorem Keeps.netEnter {o l : Lane} (h : Keeps o l) : Keeps o l.netEnter := by
  unfold Lane.netEnter
  exact h.ite ((h.netListen.netStart ..).ite h.netListen)

theorem Keeps.enterSync {o l : Lane} (h : Keeps o l) : Keeps o l.enterSync := by
  unfold Lane.enterSync
  exact .completeOpt (.netEnter (.cellFollow (.takeSafeAll (.lit rfl (h.ite (h.setSt ..)))))) ..

theorem Keeps.tripBack {o l : Lane} (h : Keeps o l) (n : Nat) (code : Nat) : Keeps o (l.tripBack n code) := by
  unfold Lane.tripBack
  exact h.ite ((h.setSrc ..).eachOf _ (fun k m hm => hm.setPch ..))

theorem Keeps.vdsBack {o l : Lane} (h : Keeps o l) (k : Nat) (v : Nat) : Keeps o (l.vdsBack k v) := h.upd

theorem Keeps.chrysBase {o l : Lane} (h : Keeps o l) : Keeps o l.chrysBase := by
  have used := h.chrysUsed
  unfold Lane.chrysBase
  split
  · exact h
  · refine h.ite ?_
    generalize l.chrysUsed = m at used ⊢
    exact (Keeps.each (Keeps.upd used) 14 fun _ _ hx => hx.tripBack ..).each 16 fun _ _ hx => hx.vdsBack ..

theorem Keeps.refused {o l : Lane} (h : Keeps o l) (code : Nat) (src : Nat) (abort : Bool) : Keeps o (l.refused code src abort) := by
  unfold Lane.refused
  exact h.upd.event ..

theorem Keeps.requestNew {o l : Lane} (h : Keeps o l) (target : Nat) (key : Option CmdKey) : Keeps o (l.requestNew target key) := by
  have idle : Keeps o { (l.releaseIds [0xC100, 0xC101, 0xD100, 0xD101]).closeAll with pwr.pstate := 1, pwr.gateAt := none } := (h.releaseIds _).closeAll.upd
  unfold Lane.requestNew
  exact (idle.completeOpt ..).ite h.upd

theorem Keeps.requestWaiting {o l : Lane} (h : Keeps o l) : Keeps o l.requestWaiting := by
  unfold Lane.requestWaiting
  split
  · exact h
  · dsimp only
    split
    · exact h.upd.refused ..
    · exact h.upd.requestNew ..

theorem Keeps.startDone {o l : Lane} (h : Keeps o l) : Keeps o l.startDone := by
  unfold Lane.startDone
  exact h.upd.enterSync.chrysBase.requestWaiting

theorem Keeps.enterIsland {o l : Lane} (h : Keeps o l) : Keeps o l.enterIsland := by
  unfold Lane.enterIsland
  exact .eventU (.cellFollow (.takeSafeAll (.dupEnd (.setSt (.lit rfl (h.stepDown.releaseIds ..)) ..)))) ..

theorem Keeps.trialPass {o l : Lane} (h : Keeps o l) : Keeps o l.trialPass := by
  unfold Lane.trialPass
  exact (((h.upd.otpProgram ..).ite h.upd).event ..).ite h

theorem Keeps.enterFollower {o l : Lane} (h : Keeps o l) : Keeps o l.enterFollower := by
  unfold Lane.enterFollower
  exact .trialPass (.eventU (.cellFollow (.dupEnd (.setSt (.lit rfl h.stepDown) ..))) ..)

theorem Keeps.enterShadow {o l : Lane} (h : Keeps o l) : Keeps o l.enterShadow := by
  unfold Lane.enterShadow
  exact (((h.upd.dropLane ..).setSt ..).cellFollow).trialPass

/-! ### Machine/SelfTest -/

theorem Keeps.bistRecord {o l : Lane} (h : Keeps o l) (r : BistRun) : Keeps o (l.bistRecord r) := by
  unfold Lane.bistRecord
  exact .ite (.lit rfl (h.bistStore ..)) (h.bistStore ..)

theorem Keeps.bistPut {o l : Lane} (h : Keeps o l) (r : BistRun) (sig : W32) (count : Nat) (status : Nat) (detail : W32) : Keeps o (l.bistPut r sig count status detail).1 := by
  have told := h.event (0xD100 + status) r.section_
  exact Keeps.when told (r.section_ == 7 && status != 1) (f := fun l => l.eventU 0x2108) (told.eventU 0x2108)

theorem Keeps.startTestEnd {o l : Lane} (h : Keeps o l) (r : BistRun) : Keeps o (l.startTestEnd r) := by
  unfold Lane.startTestEnd
  exact .ite (.failSilent (.lit rfl (h.upd.ite h)) ..) ((h.upd.ite h).startDone)

theorem Keeps.bistFinish {o l : Lane} (h : Keeps o l) (r : BistRun) : Keeps o (l.bistFinish r) := by
  unfold Lane.bistFinish
  dsimp only
  split
  · exact .lit rfl (h.upd.bistRecord ..)
  · exact (h.upd.bistRecord ..).startTestEnd ..
  · exact (h.upd.bistRecord ..).completeOpt ..

theorem Keeps.bistAbort {o l : Lane} (h : Keeps o l) : Keeps o l.bistAbort := by
  unfold Lane.bistAbort
  split
  · exact h
  · exact h.ite ((h.freeNat.bistPut ..).bistFinish ..)

theorem Keeps.bistStop {o l : Lane} (h : Keeps o l) : Keeps o l.bistStop := by
  unfold Lane.bistStop
  dsimp only
  split
  · exact h.bistAbort
  · exact h.bistAbort.bistFinish ..

theorem Keeps.gdTestEnd {o l : Lane} (h : Keeps o l) (pass : List Byte) (count : Nat) (aborted : Bool) : Keeps o (l.gdTestEnd pass count aborted) := by
  unfold Lane.gdTestEnd
  split
  · exact h
  · dsimp only
    split
    · exact (h.upd.ite (h.upd.eventU ..)).answer ..
    · exact h.upd.ite (h.upd.eventU ..)

theorem Keeps.gdTestAbort {o l : Lane} (h : Keeps o l) (hbs : List Nat) : Keeps o (l.gdTestAbort hbs) := by
  unfold Lane.gdTestAbort
  split
  · exact (h.upd.gdTestEnd ..).ite h
  · exact h

theorem Keeps.safetyRequest {o l : Lane} (h : Keeps o l) (hbs : List Nat) : Keeps o (l.safetyRequest hbs) := by
  unfold Lane.safetyRequest
  exact (h.gdTestAbort ..).bistAbort

theorem Keeps.sendClaim {o l : Lane} (h : Keeps o l) : Keeps o l.sendClaim := by
  unfold Lane.sendClaim
  exact h.upd.sendBoth ..

theorem Keeps.enterAuthority {o l : Lane} (h : Keeps o l) : Keeps o l.enterAuthority := by
  unfold Lane.enterAuthority
  exact .cellFollow (.setPeer (.dupEnd (.eventU (.setSt (.lit rfl (h.safetyRequest ..)) ..) ..)) ..)

theorem Keeps.claimStep {o l : Lane} (h : Keeps o l) : Keeps o l.claimStep := by
  unfold Lane.claimStep
  exact (h.enterAuthority.ite h.sendClaim).ite h

theorem Keeps.authLost {o l : Lane} (h : Keeps o l) : Keeps o l.authLost := by
  unfold Lane.authLost
  exact h.upd.dupStart.claimStep.ite h.upd

/-! ### Machine/GateDrive -/

theorem Keeps.sinkAt {o l : Lane} (h : Keeps o l) (ch : Nat) (code : Nat) : Keeps o (l.sinkAt ch code) := h.upd
theorem Keeps.codesStart {o l : Lane} (h : Keeps o l) (ch : Nat) : Keeps o (l.codesStart ch) := h.upd

theorem Keeps.gateEdge {o l : Lane} (h : Keeps o l) (ch : Nat) (on : Bool) (time : Nat) (valid : Bool) : Keeps o (l.gateEdge ch on time valid) := by
  unfold Lane.gateEdge
  exact h.ite ((h.upd.event ..).ite (h.setGch ..))

theorem Keeps.hGdSetStrength {o l : Lane} (h : Keeps o l) (m : Msg) : Keeps o (Lane.hGdSetStrength m l).1 := by
  unfold Lane.hGdSetStrength
  exact h.guarded _ (((h.pset ..).pset ..).done ..)

theorem Keeps.hbEvent {o l : Lane} (h : Keeps o l) (k : Nat) {raise : Lane → Lane} (hf : Keeps o (raise l)) : Keeps o (l.hbEvent k raise) :=
  hf.ite h

theorem Keeps.hbLost {o l : Lane} (h : Keeps o l) (k : Nat) : Keeps o (l.hbLost k) := by
  unfold Lane.hbLost
  split
  · exact h.windFault ..
  · exact h

theorem Keeps.vdsFault {o l : Lane} (h : Keeps o l) (k : Nat) (v : VdsOver) : Keeps o (l.vdsFault k v) := by
  unfold Lane.vdsFault
  refine h.ite ?_
  dsimp only
  split
  · exact (((((((h.setHb ..).setGch ..).sinkAt ..).hbEvent _ ((((h.setHb ..).setGch ..).sinkAt ..).event ..)).hbLost ..).ite ((((h.setHb ..).setGch ..).sinkAt ..).hbEvent _ ((((h.setHb ..).setGch ..).sinkAt ..).event ..))).takeSafe ..).stepOff ..
  · exact (((((h.setHb ..).setGch ..).sinkAt ..).hbEvent _ ((((h.setHb ..).setGch ..).sinkAt ..).event ..)).hbLost ..).ite ((((h.setHb ..).setGch ..).sinkAt ..).hbEvent _ ((((h.setHb ..).setGch ..).sinkAt ..).event ..))

theorem Keeps.softEnd {o l : Lane} (h : Keeps o l) (k : Nat) : Keeps o (l.softEnd k) := h.upd

theorem Keeps.vdsAuto {o l : Lane} (h : Keeps o l) (k : Nat) : Keeps o (l.vdsAuto k) := by
  unfold Lane.vdsAuto
  dsimp only
  split
  · exact ((((h.setHb ..).softEnd ..).freshStart ..).ite ((h.setHb ..).hbLost ..)).ite h
  · exact h

theorem Keeps.hGdFaultClear {o l : Lane} (h : Keeps o l) (m : Msg) : Keeps o (Lane.hGdFaultClear m l).1 := by
  unfold Lane.hGdFaultClear
  exact h.guarded _ ((h.eachOf _ (fun k m1 hm => ((hm.setHb ..).softEnd ..).freshStart ..)).done ..)

theorem Keeps.vgdFault {o l : Lane} (h : Keeps o l) (ov : Bool) : Keeps o (l.vgdFault ov) := by
  unfold Lane.vgdFault
  exact ((h.upd.ite h.upd).eventU ..).each _ (fun k m hm => ((hm.takeSafe ..).ite hm).stepOff ..)

theorem Keeps.vgdBack {o l : Lane} (h : Keeps o l) : Keeps o l.vgdBack := by
  unfold Lane.vgdBack
  exact h.ite (h.upd.each _ (fun k m hm => (hm.takeSafe ..).ite hm))

theorem Keeps.bstLow {o l : Lane} (h : Keeps o l) (k : Nat) : Keeps o (l.bstLow k) := by
  unfold Lane.bstLow
  exact h.ite ((h.setHb ..).hbEvent _ ((h.setHb ..).eventU ..))

theorem Keeps.bstRise {o l : Lane} (h : Keeps o l) (k : Nat) : Keeps o (l.bstRise k) := by
  unfold Lane.bstRise
  exact ((h.setHb ..).eachOf _ (fun k1 m hm => hm.setHb ..)).ite (h.setHb ..)

theorem Keeps.shoot {o l : Lane} (h : Keeps o l) (k : Nat) : Keeps o (l.shoot k) := by
  unfold Lane.shoot
  exact (h.setHb ..).hbEvent _ ((h.setHb ..).eventU ..)

theorem Keeps.doubleDrive {o l : Lane} (h : Keeps o l) (k : Nat) : Keeps o (l.doubleDrive k) := by
  unfold Lane.doubleDrive
  refine h.ite ?_
  dsimp only
  split
  · exact ((((((h.setHb ..).sinkAt ..).sinkAt ..).hbEvent _ ((((h.setHb ..).sinkAt ..).sinkAt ..).eventU ..)).hbLost ..).takeSafe ..).stepOff ..
  · exact ((((h.setHb ..).sinkAt ..).sinkAt ..).hbEvent _ ((((h.setHb ..).sinkAt ..).sinkAt ..).eventU ..)).hbLost ..

theorem Keeps.directPulse {o l : Lane} (h : Keeps o l) (k : Nat) (level : Bool) : Keeps o (l.directPulse k level) := by
  unfold Lane.directPulse
  exact h.ite ((h.when _ h.upd).setHb ..)

theorem Keeps.directEnable {o l : Lane} (h : Keeps o l) (k : Nat) (level : Bool) : Keeps o (l.directEnable k level) := by
  unfold Lane.directEnable
  exact h.ite ((h.setHb ..).ite (h.setHb ..))

theorem Keeps.hGdSelftest {o l : Lane} (h : Keeps o l) (m : Msg) : Keeps o (Lane.hGdSelftest m l).1 := by
  unfold Lane.hGdSelftest
  exact h.guarded _ (h.upd.eachOf _ (fun k m1 hm => hm.setHb ..))

theorem Keeps.gateTest {o l : Lane} (h : Keeps o l) (pass : List Byte) : Keeps o (l.gateTest pass) := by
  unfold Lane.gateTest
  exact h.ite (h.upd.ite (h.eventU ..))

/-! ### Machine/Pwm -/

theorem Keeps.shadowWrite {o l : Lane} (h : Keeps o l) (ch : Nat) (v : Nat) : Keeps o (l.shadowWrite ch v) := h.upd
theorem Keeps.burstDone {o l : Lane} (h : Keeps o l) (tb : Nat) (t : Nat) : Keeps o (l.burstDone tb t) := h.upd

theorem Keeps.emitCh {o l : Lane} (h : Keeps o l) (ch : Nat) : Keeps o (l.emitCh ch) := by
  unfold Lane.emitCh
  exact ((h.openFrame ..).setPch ..).ite (((h.openFrame ..).setPch ..).ite (((h.openFrame ..).setPch ..).ite ((h.openFrame ..).setPch ..)))

theorem Keeps.loadShadows {o l : Lane} (h : Keeps o l) (tb : Nat) : Keeps o (l.loadShadows tb) := by
  unfold Lane.loadShadows
  exact ((h.eachOf _ (fun k m hm => hm.setPch ..)).eachOf _ (fun k m hm => hm.upd)).setTb ..

theorem Keeps.loadPoint {o l : Lane} (h : Keeps o l) (tb : Nat) : Keeps o (l.loadPoint tb) := by
  unfold Lane.loadPoint
  exact h.ite (((((h.loadShadows ..).ite (h.eventU ..)).ite ((h.eventU ..).ite h)).eachOf _ (fun k m hm => hm.emitCh ..)).eachOf _ (fun k m hm => hm.slotLoaded ..))

theorem Keeps.delayCal {o l : Lane} (h : Keeps o l) (n : Nat) : Keeps o (l.delayCal n) := by
  unfold Lane.delayCal
  exact h.ite (((h.upd.eventU ..).ite h.upd).ite h.upd)

theorem Keeps.tripNotice {o l : Lane} (h : Keeps o l) (n : Nat) : Keeps o (l.tripNotice n) := by
  unfold Lane.tripNotice
  exact (h.eventU ..).sendBoth ..

theorem Keeps.tripCh {o l : Lane} (h : Keeps o l) (ch : Nat) : Keeps o (l.tripCh ch) := by
  unfold Lane.tripCh
  exact (((h.takeLevel ..).setPch ..).when _ (((h.takeLevel ..).setPch ..).sinkAt ..)).when _ ((((h.takeLevel ..).setPch ..).when _ (((h.takeLevel ..).setPch ..).sinkAt ..)).sinkAt ..)

theorem Keeps.tripCover {o l : Lane} (h : Keeps o l) (n : Nat) : Keeps o (l.tripCover n) := by
  unfold Lane.tripCover
  exact ((((h.eachOf _ (fun k m hm => hm.tripCh ..)).each _ (fun k m hm => (hm.flyStop ..).ite hm)).each _ (fun k m hm => (hm.injAbort ..).ite hm)).each _ (fun k m hm => (hm.stepTrip ..).ite hm)).safetyRequest ..

theorem Keeps.tripEnter {o l : Lane} (h : Keeps o l) (n : Nat) : Keeps o (l.tripEnter n) := by
  unfold Lane.tripEnter
  exact ((h.setSrc ..).ite ((h.setSrc ..).tripNotice ..)).tripCover ..

theorem Keeps.tripWiden {o l : Lane} (h : Keeps o l) (n : Nat) : Keeps o (l.tripWiden n) := by
  unfold Lane.tripWiden
  exact h.ite (h.tripCover ..)

theorem Keeps.tripOn {o l : Lane} (h : Keeps o l) (n : Nat) : Keeps o (l.tripOn n) := by
  unfold Lane.tripOn
  refine h.ite ?_
  dsimp only
  split
  · exact (h.setSrc ..).tripEnter ..
  · exact (h.setSrc ..).tripEnter ..
  · exact ((h.setSrc ..).setSrc ..).safetyRequest ..
  · exact h.setSrc ..

theorem Keeps.tripOff {o l : Lane} (h : Keeps o l) (n : Nat) : Keeps o (l.tripOff n) := by
  unfold Lane.tripOff
  dsimp only
  split <;> exact (h.upd.ite h).setSrc ..

theorem Keeps.hTripClear {o l : Lane} (h : Keeps o l) (m : Msg) : Keeps o (Lane.hTripClear m l).1 := by
  unfold Lane.hTripClear
  dsimp only
  split
  · exact h.refuse ..
  · split
    · exact h.refuse ..
    · exact (h.eachOf _ (fun k m1 hm => (hm.setSrc ..).ite hm)).eachOf _ (fun k m1 hm => hm.eventU ..)

theorem Keeps.source12 {o l : Lane} (h : Keeps o l) : Keeps o l.source12 := by
  unfold Lane.source12
  exact (h.tripOn ..).ite (h.tripOff ..)

theorem Keeps.hTripForce {o l : Lane} (h : Keeps o l) (m : Msg) : Keeps o (Lane.hTripForce m l).1 := by
  unfold Lane.hTripForce
  exact h.guarded _ (h.upd.source12.done ..)

theorem Keeps.hTripStatus {o l : Lane} (h : Keeps o l) : Keeps o (l.hTripStatus).1 := h.upd

theorem Keeps.rearm {o l : Lane} (h : Keeps o l) (tb : Nat) (n : Nat) : Keeps o (l.rearm tb n) := by
  unfold Lane.rearm
  refine h.ite ?_
  split
  · exact ((h.upd.ite (h.setSrc ..)).eachOf _ (fun k m hm => hm.takeLevel ..)).eventU ..
  · exact h.setSrc ..
  · exact h

theorem Keeps.resumeCh {o l : Lane} (h : Keeps o l) (ch : Nat) : Keeps o (l.resumeCh ch) := by
  unfold Lane.resumeCh
  exact (h.setPch ..).ite (h.setPch ..)

theorem Keeps.refreshOpen {o l : Lane} (h : Keeps o l) (k : Nat) : Keeps o (l.refreshOpen k) := by
  unfold Lane.refreshOpen
  exact (h.setPch ..).ite h

theorem Keeps.periodHb {o l : Lane} (h : Keeps o l) (k : Nat) (bstLow : W16) (vgd : Bool) : Keeps o (l.periodHb k bstLow vgd) := by
  unfold Lane.periodHb
  exact (h.when _ (h.freshStart ..)).ite (((h.when _ (h.freshStart ..)).setHb ..).refreshOpen ..)

theorem Keeps.preEnd {o l : Lane} (h : Keeps o l) (k : Nat) : Keeps o (l.preEnd k) := by
  unfold Lane.preEnd
  split
  · exact ((h.setHb ..).when _ ((h.setHb ..).setPch ..)).ite h
  · exact h

theorem Keeps.carryStart {o l : Lane} (h : Keeps o l) (tb : Nat) : Keeps o (l.carryStart tb) := by
  unfold Lane.carryStart
  exact (h.eachOf _ (fun k m hm => hm.setPch ..)).ite h

theorem Keeps.periodRelease {o l : Lane} (h : Keeps o l) (tb : Nat) : Keeps o (l.periodRelease tb) := h.upd

theorem Keeps.followTb {o l : Lane} (h : Keeps o l) (tb : Nat) : Keeps o (l.followTb tb) := by
  unfold Lane.followTb
  exact (h.setTb ..).ite (h.setTb ..)

theorem Keeps.refollow {o l : Lane} (h : Keeps o l) (tb : Nat) : Keeps o (l.refollow tb) := by
  unfold Lane.refollow
  exact h.eachOf _ (fun k m hm => hm.followTb ..)

theorem Keeps.periodStart {o l : Lane} (h : Keeps o l) (tb : Nat) (bstLow : W16) : Keeps o (l.periodStart tb bstLow) := by
  unfold Lane.periodStart
  exact h.ite (.eachOf (.each (.lit rfl ((((h.periodRelease ..).carryStart ..).setTb ..).when _ ((((h.periodRelease ..).carryStart ..).setTb ..).refollow ..))) _ (fun k m hm => hm.rearm ..)) _ (fun k m hm => ((hm.preEnd ..).periodHb ..).resumeCh ..))

/-! ### Machine/Sense -/

theorem Keeps.setAdc {o l : Lane} (h : Keeps o l) (k : Nat) (x : Adc) : Keeps o (l.setAdc k x) := h.upd
theorem Keeps.setLatch {o l : Lane} (h : Keeps o l) (src : Nat) (w : W32) (t : Nat) : Keeps o (l.setLatch src w t) := h.upd

theorem Keeps.adcTrigger {o l : Lane} (h : Keeps o l) (k : Nat) : Keeps o (l.adcTrigger k) := by
  unfold Lane.adcTrigger
  exact h.ite ((h.setAdc ..).ite ((h.setAdc ..).eventU ..))

theorem Keeps.adcEnd {o l : Lane} (h : Keeps o l) (k : Nat) (code : Nat) : Keeps o (l.adcEnd k code) := by
  unfold Lane.adcEnd
  dsimp only
  split
  · exact (h.setLatch ..).setAdc ..
  · split
    · exact (h.setLatch ..).setAdc ..
    · exact h

theorem Keeps.noiseCode {o l : Lane} (h : Keeps o l) (i : Nat) (c : Int) {raise : Lane → Lane} (hf : ∀ m, Keeps o m → Keeps o (raise m)) : Keeps o (l.noiseCode i c raise) := by
  dsimp only [Lane.noiseCode]
  split
  · exact h.upd
  · exact (hf _ h.upd).ite h.upd

theorem Keeps.noise {o l : Lane} (h : Keeps o l) (src : Nat) : Keeps o (l.noise src) := by
  unfold Lane.noise
  exact h.ite ((h.upd.noiseCode _ _ (fun m hm => hm.event ..)).ite h)

theorem Keeps.noiseDs {o l : Lane} (h : Keeps o l) (k : Nat) (v : F32) : Keeps o (l.noiseDs k v) := by
  unfold Lane.noiseDs
  exact (h.noiseCode _ _ (fun m hm => hm.eventU ..)).ite h

theorem Keeps.setDs {o l : Lane} (h : Keeps o l) (k : Nat) (x : DsIn) : Keeps o (l.setDs k x) := h.upd

theorem Keeps.dsTake {o l : Lane} (h : Keeps o l) (ds : List (Option DsRes)) : Keeps o (l.dsTake ds) := by
  unfold Lane.dsTake
  refine h.each _ (fun k m hm => ?_)
  split
  · exact ((hm.noiseDs ..).setDs ..).releaseOf ..
  · exact hm.setDs ..
  · exact hm

theorem Keeps.regenClear {o l : Lane} (h : Keeps o l) (k : Nat) : Keeps o (l.regenClear k) := by
  unfold Lane.regenClear
  exact h.ite ((h.eventU ..).ite (h.setDs ..))

theorem Keeps.inhStart {o l : Lane} (h : Keeps o l) (on : Bool) : Keeps o (l.inhStart on) := by
  unfold Lane.inhStart
  exact h.upd.ite h

theorem Keeps.ovHard {o l : Lane} (h : Keeps o l) (k : Nat) : Keeps o (l.ovHard k) := by
  unfold Lane.ovHard
  exact h.ite ((((h.setDs ..).inhStart ..).eventU ..).tripOn ..)

theorem Keeps.dsModFault {o l : Lane} (h : Keeps o l) (k : Nat) : Keeps o (l.dsModFault k) := by
  unfold Lane.dsModFault
  exact h.ite (((h.setDs ..).inhStart ..).eventU ..)

theorem Keeps.tempSample {o l : Lane} (h : Keeps o l) (ts : List F32) : Keeps o (l.tempSample ts) := by
  unfold Lane.tempSample
  exact (h.upd.eventU ..).ite (h.upd.ite (h.upd.ite h.upd))

theorem Keeps.tempShut {o l : Lane} (h : Keeps o l) : Keeps o l.tempShut := by
  unfold Lane.tempShut
  exact ((h.eventU ..).failSilent ..).ite h

theorem Keeps.tempFault {o l : Lane} (h : Keeps o l) : Keeps o l.tempFault := by
  unfold Lane.tempFault
  exact h.ite ((h.upd.event ..).ite (h.ite (h.upd.event ..)))

theorem Keeps.crackDeclare {o l : Lane} (h : Keeps o l) : Keeps o l.crackDeclare := by
  unfold Lane.crackDeclare
  exact h.ite (h.upd.eventU ..)

theorem Keeps.crackMeasure {o l : Lane} (h : Keeps o l) (r : F32) : Keeps o (l.crackMeasure r) := by
  unfold Lane.crackMeasure
  exact h.upd.crackDeclare.ite h.upd

/-! ### Machine/Position -/

theorem Keeps.setHall {o l : Lane} (h : Keeps o l) (k : Nat) (x : Hall) : Keeps o (l.setHall k x) := h.upd
theorem Keeps.setEnc {o l : Lane} (h : Keeps o l) (k : Nat) (x : Enc) : Keeps o (l.setEnc k x) := h.upd
theorem Keeps.setPp {o l : Lane} (h : Keeps o l) (k : Nat) (x : PosPort) : Keeps o (l.setPp k x) := h.upd
theorem Keeps.setCmpU {o l : Lane} (h : Keeps o l) (k : Nat) (x : CmpUnit) : Keeps o (l.setCmpU k x) := h.upd
theorem Keeps.setFrz {o l : Lane} (h : Keeps o l) (k : Nat) (x : Freeze) : Keeps o (l.setFrz k x) := h.upd

theorem Keeps.cmpAct {o l : Lane} (h : Keeps o l) (k : Nat) (hit : Int) (skips : Nat) (t : Nat) : Keeps o (l.cmpAct k hit skips t) := by
  unfold Lane.cmpAct
  exact (((((h.qDropNew ..).ite h).adcTrigger ..).ite ((h.qDropNew ..).ite h)).setCmpU ..).ite ((((h.qDropNew ..).ite h).adcTrigger ..).ite ((h.qDropNew ..).ite h))

theorem Keeps.cmpEval {o l : Lane} (h : Keeps o l) (k : Nat) (new : Int) (t : Nat) : Keeps o (l.cmpEval k new t) := by
  unfold Lane.cmpEval
  exact h.ite (((((h.setCmpU ..).pset ..).cmpAct ..).ite ((((h.setCmpU ..).pset ..).cmpAct ..).eventU ..)).ite (h.setCmpU ..))

theorem Keeps.cmpSource {o l : Lane} (h : Keeps o l) (code : Nat) (new : Int) (t : Nat) : Keeps o (l.cmpSource code new t) := by
  unfold Lane.cmpSource
  exact h.each _ (fun k m hm => (hm.cmpEval ..).ite hm)

theorem Keeps.cmpJump {o l : Lane} (h : Keeps o l) (code : Nat) (new : Int) : Keeps o (l.cmpJump code new) := by
  unfold Lane.cmpJump
  exact h.each _ (fun k m hm => (hm.setCmpU ..).ite hm)

theorem Keeps.cmpStart {o l : Lane} (h : Keeps o l) (k : Nat) : Keeps o (l.cmpStart k) := by
  unfold Lane.cmpStart
  exact (h.setCmpU ..).ite (h.setCmpU ..)

theorem Keeps.hallFault {o l : Lane} (h : Keeps o l) (g : Nat) : Keeps o (l.hallFault g) := by
  unfold Lane.hallFault
  exact h.ite ((h.setHall ..).eventU ..)

theorem Keeps.hallMove {o l : Lane} (h : Keeps o l) (g : Nat) (e : HallEdge) : Keeps o (l.hallMove g e) := by
  unfold Lane.hallMove
  refine h.ite ?_
  split
  · exact h.setHall ..
  · exact (h.setHall ..).ite ((h.setHall ..).ite ((((((h.setHall ..).eventU ..).ite (h.setHall ..)).hallFault ..).ite (((h.setHall ..).eventU ..).ite (h.setHall ..))).cmpSource ..))

theorem Keeps.hallBad {o l : Lane} (h : Keeps o l) (g : Nat) (e : HallEdge) : Keeps o (l.hallBad g e) := by
  unfold Lane.hallBad
  exact h.ite ((((h.setHall ..).eventU ..).hallFault ..).ite ((h.setHall ..).eventU ..))

theorem Keeps.hallSnap {o l : Lane} (h : Keeps o l) (g : Nat) : Keeps o (l.hallSnap g) := h.upd

theorem Keeps.encEdge {o l : Lane} (h : Keeps o l) (k : Nat) (a : PinLvl) (b : PinLvl) : Keeps o (l.encEdge k a b) := by
  unfold Lane.encEdge
  exact h.ite (((h.setEnc ..).eventU ..).ite ((h.setEnc ..).cmpSource ..))

theorem Keeps.encZ {o l : Lane} (h : Keeps o l) (k : Nat) : Keeps o (l.encZ k) := by
  unfold Lane.encZ
  exact h.ite (((((h.setEnc ..).eventU ..).ite (h.setEnc ..)).cmpJump ..).ite (((h.setEnc ..).eventU ..).ite (h.setEnc ..)))

theorem Keeps.encSnap {o l : Lane} (h : Keeps o l) (k : Nat) : Keeps o (l.encSnap k) := h.upd

theorem Keeps.ppTrigger {o l : Lane} (h : Keeps o l) (k : Nat) : Keeps o (l.ppTrigger k) := by
  unfold Lane.ppTrigger
  exact h.ite (((h.setPp ..).eventU ..).ite (((h.setPp ..).eventU ..).ite (h.setPp ..)))

theorem Keeps.ppLearn {o l : Lane} (h : Keeps o l) (k : Nat) (f : PosFrame) (r : PosRead) (bad : Bool) : Keeps o (l.ppLearn k f r bad) := by
  unfold Lane.ppLearn
  exact ((((((h.setPp ..).eventU ..).ite (h.setPp ..)).eventU ..).ite (((h.setPp ..).eventU ..).ite (h.setPp ..))).eventU ..).ite (((((h.setPp ..).eventU ..).ite (h.setPp ..)).eventU ..).ite (((h.setPp ..).eventU ..).ite (h.setPp ..)))

theorem Keeps.ppEnd {o l : Lane} (h : Keeps o l) (k : Nat) (f : PosFrame) : Keeps o (l.ppEnd k f) := by
  unfold Lane.ppEnd
  exact h.ite (((h.setPp ..).ppLearn ..).ite (((h.setPp ..).ppLearn ..).cmpSource ..))

theorem Keeps.ppSample {o l : Lane} (h : Keeps o l) (k : Nat) (r : PosRes) : Keeps o (l.ppSample k r) := by
  unfold Lane.ppSample
  exact ((((h.setPp ..).eventU ..).ite (h.setPp ..)).event ..).ite (((h.setPp ..).eventU ..).ite (h.setPp ..))

theorem Keeps.ppPresent {o l : Lane} (h : Keeps o l) (k : Nat) : Keeps o (l.ppPresent k) := by
  unfold Lane.ppPresent
  refine h.ite ?_
  split
  · exact h
  · refine h.ite ?_
    dsimp only
    split
    · exact (h.setPp ..).ppSample ..
    · exact ((h.setPp ..).ite ((h.setPp ..).eventU ..)).ppSample ..

theorem Keeps.ptFrame {o l : Lane} (h : Keeps o l) (k : Nat) (f : PosFrame) : Keeps o (l.ptFrame k f) := by
  unfold Lane.ptFrame
  exact h.ite ((((((h.setPp ..).ite h).setPp ..).ite ((h.setPp ..).ite h)).ppLearn ..).ite (((((((h.setPp ..).ite h).setPp ..).ite ((h.setPp ..).ite h)).ppLearn ..).setPp ..).cmpSource ..))

theorem Keeps.ptLost {o l : Lane} (h : Keeps o l) (k : Nat) : Keeps o (l.ptLost k) := by
  unfold Lane.ptLost
  exact h.ite ((h.setPp ..).eventU ..)

theorem Keeps.ptLatch {o l : Lane} (h : Keeps o l) (k : Nat) : Keeps o (l.ptLatch k) := by
  unfold Lane.ptLatch
  exact h.ite (h.setPp ..)

theorem Keeps.snapshots {o l : Lane} (h : Keeps o l) (cmp : Nat) : Keeps o (l.snapshots cmp) := by
  unfold Lane.snapshots
  exact h.each _ (fun k m hm => ((hm.hallSnap ..).ite ((hm.encSnap ..).ite (hm.ptLatch ..))).ite hm)

theorem Keeps.trigger {o l : Lane} (h : Keeps o l) (cmp : Nat) : Keeps o (l.trigger cmp) := by
  unfold Lane.trigger
  exact h.ite (((h.snapshots ..).adcTrigger ..).ite (((h.snapshots ..).ppTrigger ..).ite (h.snapshots ..)))

/-! ### Machine/Commutation -/

theorem Keeps.setTable {o l : Lane} (h : Keeps o l) (k : Nat) (x : SineTab) : Keeps o (l.setTable k x) := h.upd

theorem Keeps.tabClose {o l : Lane} (h : Keeps o l) (n : Nat) (es : List W16) (crc : Nat) : Keeps o (l.tabClose n es crc).1 := by
  unfold Lane.tabClose
  dsimp only
  split
  · exact ((h.setTable ..).tabStore ..).done ..
  · exact (h.setTable ..).eventU ..

theorem Keeps.hMotTableLoad {o l : Lane} (h : Keeps o l) (m : Msg) : Keeps o (Lane.hMotTableLoad m l).1 := by
  unfold Lane.hMotTableLoad
  refine h.guarded _ ?_
  dsimp only
  split
  · exact h.setTable ..
  · split
    · exact h.tabClose ..
    · exact (h.setTable ..).done ..

theorem Keeps.sumTest {o l : Lane} (h : Keeps o l) (k : Nat) : Keeps o (l.sumTest k) := by
  unfold Lane.sumTest
  exact h.ite (((h.setMotor ..).eventU ..).ite (h.setMotor ..))

theorem Keeps.strRead {o l : Lane} (h : Keeps o l) (k : Nat) : Keeps o (l.strRead k).1 := by
  unfold Lane.strRead
  dsimp only
  split
  · exact (h.when _ (h.setMotor ..)).streamRead ..
  · split
    · split
      · split
        · exact (h.when _ (h.setMotor ..)).streamRead ..
        · exact ((h.when _ (h.setMotor ..)).streamRead ..).setMotor ..
      · split
        · exact (h.when _ (h.setMotor ..)).streamRead ..
        · exact ((h.when _ (h.setMotor ..)).streamRead ..).setMotor ..
    · split
      · exact (h.when _ (h.setMotor ..)).streamRead ..
      · exact ((h.when _ (h.setMotor ..)).streamRead ..).setMotor ..

theorem Keeps.observe {o l : Lane} (h : Keeps o l) (k : Nat) (ts : Nat) (i : F32 × F32 × F32) (missed : Bool) : Keeps o (l.observe k ts i missed) := by
  unfold Lane.observe
  exact ((h.setMotor ..).ite h).ite (h.setMotor ..)

theorem Keeps.handOver {o l : Lane} (h : Keeps o l) (j : Nat) (mode : LoopMode) (oldUp : Nat) : Keeps o (l.handOver j mode oldUp) := by
  unfold Lane.handOver
  exact ((h.injAbort ..).releaseOf ..).setLoop ..

theorem Keeps.syncLost {o l : Lane} (h : Keeps o l) (k : Nat) : Keeps o (l.syncLost k) := by
  unfold Lane.syncLost
  exact h.ite ((((h.setMotor ..).eventU ..).takeSafe ..).loopSafe ..)

theorem Keeps.loseSync {o l : Lane} (h : Keeps o l) (k : Nat) (oldOk : SrcBlend → Bool) : Keeps o (l.loseSync k oldOk) := by
  unfold Lane.loseSync
  dsimp only
  split
  · exact (h.setMotor ..).ite (h.syncLost ..)
  · exact h.syncLost ..

theorem Keeps.flyFail {o l : Lane} (h : Keeps o l) (k : Nat) : Keeps o (l.flyFail k) := by
  unfold Lane.flyFail
  exact (((h.flyBack ..).setMotor ..).eventU ..).ite ((h.flyBack ..).setMotor ..)

theorem Keeps.probeDone {o l : Lane} (h : Keeps o l) (k : Nat) (p1 : F32 × F32) (p2 : F32 × F32) : Keeps o (l.probeDone k p1 p2) := h.upd

theorem Keeps.probeSample {o l : Lane} (h : Keeps o l) (k : Nat) (i : F32 × F32 × F32) : Keeps o (l.probeSample k i) := by
  unfold Lane.probeSample
  dsimp only
  split
  · refine (h.setMotor ..).ite (.ite ?_ h)
    split
    · exact h.probeDone ..
    · exact h.setMotor ..
  · exact h

theorem Keeps.zeroRun {o l : Lane} (h : Keeps o l) (k : Nat) : Keeps o (l.zeroRun k) := by
  unfold Lane.zeroRun
  exact ((h.eachOf _ (fun k1 m hm => hm.setHb ..)).setMotor ..).eachOf _ (fun k1 m hm => (hm.setLoop ..).ite hm)

theorem Keeps.flyProbe {o l : Lane} (h : Keeps o l) (k : Nat) : Keeps o (l.flyProbe k) := by
  unfold Lane.flyProbe
  exact h.ite ((h.setMotor ..).ite (((h.setMotor ..).zeroRun ..).ite ((((h.setMotor ..).flyFail ..).ite (h.setMotor ..)).ite ((((h.setMotor ..).flyFail ..).ite (h.setMotor ..)).setMotor ..))))

theorem Keeps.recatch {o l : Lane} (h : Keeps o l) (k : Nat) : Keeps o (l.recatch k) := by
  unfold Lane.recatch
  exact (((h.releaseOf ..).setMotor ..).eventU ..).eachOf _ (fun k1 m hm => (hm.handOver ..).ite hm)

theorem Keeps.flySample {o l : Lane} (h : Keeps o l) (k : Nat) : Keeps o (l.flySample k) := by
  unfold Lane.flySample
  dsimp only
  split
  · exact (h.recatch ..).ite ((h.flyFail ..).ite h)
  · exact (h.setMotor ..).ite h
  · exact h

theorem Keeps.impReact {o l : Lane} (h : Keeps o l) (k : Nat) (was : Bool) : Keeps o (l.impReact k was) := by
  unfold Lane.impReact
  exact ((h.eventU ..).ite h).ite (((h.eventU ..).ite h).ite ((((h.eventU ..).ite h).loseSync ..).ite ((((h.eventU ..).ite h).loseSync ..).ite ((((h.eventU ..).ite h).loseSync ..).ite ((h.eventU ..).ite h)))))

theorem Keeps.frzWatch {o l : Lane} (h : Keeps o l) (k : Nat) (c : Nat) (w : F32) (i : F32) : Keeps o (l.frzWatch k c w i) := by
  unfold Lane.frzWatch
  refine h.ite ?_
  split
  · exact h.setFrz ..
  · exact (h.setFrz ..).ite (h.setFrz ..)

theorem Keeps.frzSample {o l : Lane} (h : Keeps o l) (k : Nat) (wCmd : Option F32) (iMag : F32) : Keeps o (l.frzSample k wCmd iMag) := by
  unfold Lane.frzSample
  exact h.eachOf _ (fun k1 m hm => hm.frzWatch ..)

theorem Keeps.blendOpen {o l : Lane} (h : Keeps o l) (k : Nat) (ts : Nat) (got : Bool) : Keeps o (l.blendOpen k ts got) := by
  unfold Lane.blendOpen
  dsimp only
  split
  · exact (((h.setMotor ..).eventU ..).ite (h.setMotor ..)).ite h
  · exact h

theorem Keeps.blendCheck {o l : Lane} (h : Keeps o l) (k : Nat) (ts : Nat) (ok : Bool) : Keeps o (l.blendCheck k ts ok) := by
  unfold Lane.blendCheck
  split
  · exact (h.loseSync ..).ite h
  · exact h

theorem Keeps.keepSpeed {o l : Lane} (h : Keeps o l) (k : Nat) : Keeps o (l.keepSpeed k) := h.upd

theorem Keeps.rotor {o l : Lane} (h : Keeps o l) (k : Nat) (wCmd : Option F32) : Keeps o (l.rotor k wCmd).1 := by
  unfold Lane.rotor
  extract_lets l1 ts sr l2 x old l3 m vb th thV lost missed was
  have h1 : Keeps o l1 := h.sumTest k
  have h2 : Keeps o sr.1 := by
    unfold sr
    split
    · exact h1.strRead k
    · exact h1
  have h3 : Keeps o l3 := (h2.blendOpen ..).blendCheck ..
  split
  · exact h3.setMotor ..
  · extract_lets dq l4 _ l5 l6 l7
    have h5 : Keeps o l5 := (h3.probeSample ..).setMotor ..
    have h6 : Keeps o l6 := h5.ite ((((h5.observe ..).keepSpeed ..).impReact ..).flySample ..)
    have h7 : Keeps o l7 := h6.frzSample ..
    clear_value l7
    exact h7

theorem Keeps.hMotAngleSrcSet {o l : Lane} (h : Keeps o l) (m : Msg) : Keeps o (Lane.hMotAngleSrcSet m l).1 := by
  unfold Lane.hMotAngleSrcSet
  exact h.guarded _ ((h.setMotor ..).done ..)

theorem Keeps.blendEnd {o l : Lane} (h : Keeps o l) (k : Nat) : Keeps o (l.blendEnd k) := by
  unfold Lane.blendEnd
  dsimp only
  split
  · exact (h.setMotor ..).ite h
  · exact h

theorem Keeps.blendStart {o l : Lane} (h : Keeps o l) (k : Nat) : Keeps o (l.blendStart k) := by
  unfold Lane.blendStart
  dsimp only
  split
  · exact h
  · exact (((((h.ite (h.releaseOf ..)).setMotor ..).pset ..).pset ..).eventU ..).ite ((h.ite (h.releaseOf ..)).ite ((((((h.ite (h.releaseOf ..)).setMotor ..).pset ..).pset ..).eventU ..).ite ((((h.ite (h.releaseOf ..)).setMotor ..).pset ..).pset ..)))

theorem Keeps.idleSpeed {o l : Lane} (h : Keeps o l) (k : Nat) : Keeps o (l.idleSpeed k) := by
  unfold Lane.idleSpeed
  exact h.ite (h.setMotor ..)

theorem Keeps.leaveSafe {o l : Lane} (h : Keeps o l) (k : Nat) : Keeps o (l.leaveSafe k) := by
  unfold Lane.leaveSafe
  exact (((h.idleSpeed ..).setMotor ..).setStepper ..).ite (((h.idleSpeed ..).setMotor ..).ite (h.idleSpeed ..))

theorem Keeps.hMotStatus {o l : Lane} (h : Keeps o l) (m : Msg) : Keeps o (Lane.hMotStatus m l).1 := by
  unfold Lane.hMotStatus
  exact h.guarded _ (h.done ..)

/-! ### Machine/Profiles -/

theorem Keeps.cmpSweep {o l : Lane} (h : Keeps o l) (i k t n : Nat) : Keeps o (l.cmpSweep i k t n) := by
  induction n generalizing l with
  | zero => exact h
  | succ n ih =>
    dsimp only [Lane.cmpSweep]
    split
    · exact h
    · split
      · exact h.ite (ih ((Keeps.cmpEval (h.upd : Keeps o { l with now := _ }) ..).of_eq rfl rfl rfl rfl))
      · exact h

theorem Keeps.cmpSteps {o l : Lane} (h : Keeps o l) (i : Nat) : Keeps o (l.cmpSteps i) := by
  unfold Lane.cmpSteps
  exact (h.each _ (fun k m hm => (hm.cmpSweep ..).ite hm)).cmpSource ..

theorem Keeps.unwrapPos {o l : Lane} (h : Keeps o l) (j : Nat) (k : Nat) (code : Nat) : Keeps o (l.unwrapPos j k code).1 := by
  unfold Lane.unwrapPos
  dsimp only
  split
  · exact h
  · exact h.setLoop ..

theorem Keeps.genDone {o l : Lane} (h : Keeps o l) (g : Nat) (status : Nat) : Keeps o (l.genDone g status) := by
  unfold Lane.genDone
  exact (h.setGen ..).completeOpt ..

theorem Keeps.genStop {o l : Lane} (h : Keeps o l) (g : Nat) (quick : Bool) : Keeps o (l.genStop g quick) := h.upd

theorem Keeps.genMove {o l : Lane} (h : Keeps o l) (g : Nat) (mode : Nat) (value : W64) : Keeps o (l.genMove g mode value) := by
  unfold Lane.genMove
  exact ((h.eachOf _ (fun k m hm => hm.setStepper ..)).setGen ..).ite ((h.eachOf _ (fun k m hm => hm.setStepper ..)).setGen ..)

theorem Keeps.refEnd {o l : Lane} (h : Keeps o l) (g : Nat) (slot : Nat) : Keeps o (l.refEnd g slot) := h.upd

theorem Keeps.refDone {o l : Lane} (h : Keeps o l) (g : Nat) (slot : Nat) : Keeps o (l.refDone g slot) := by
  unfold Lane.refDone
  exact (((h.setGen ..).setStepper ..).eventU ..).genDone ..

theorem Keeps.refShift {o l : Lane} (h : Keeps o l) (g : Nat) (slot : Nat) (at_ : W64) : Keeps o (l.refShift g slot at_) := by
  unfold Lane.refShift
  dsimp only
  split
  · refine .ite (.ite (.setStepper ?_ ..) ?_) (.setLoop (.ite (.setStepper ?_ ..) ?_) ..)
    · split
      · exact (h.setGen ..).setSg ..
      · exact h.setGen ..
    · split
      · exact (h.setGen ..).setSg ..
      · exact h.setGen ..
    · split
      · exact (h.setGen ..).setSg ..
      · exact h.setGen ..
    · split
      · exact (h.setGen ..).setSg ..
      · exact h.setGen ..
  · refine .ite (.setStepper ?_ ..) ?_
    · split
      · exact (h.setGen ..).setSg ..
      · exact h.setGen ..
    · split
      · exact (h.setGen ..).setSg ..
      · exact h.setGen ..

theorem Keeps.moveLoads {o l : Lane} (h : Keeps o l) (g : Nat) : Keeps o (l.moveLoads g) := by
  unfold Lane.moveLoads
  exact (h.releaseOf ..).eachOf _ (fun k m hm => hm.releaseOf ..)

theorem Keeps.genApply {o l : Lane} (h : Keeps o l) (g : Nat) (c : GenCmd) (k : Option CmdKey) : Keeps o (l.genApply g c k) := by
  unfold Lane.genApply
  dsimp only
  split
  · refine .setGen (.genMove (.moveLoads (.setGen (.genDone ?_ ..) ..) ..) ..) ..
    split
    · exact h.refEnd ..
    · exact h
  · refine .setGen (.genStop (.genDone ?_ ..) ..) ..
    split
    · exact h.refEnd ..
    · exact h
  · exact ((h.genDone ..).eachOf _ (fun k1 m hm => hm.setSg ..)).setGen ..
  · exact (h.genStop ..).ite h
  · exact ((h.releaseOf ..).setGen ..).setStepper ..

theorem Keeps.genCmds {o l : Lane} (h : Keeps o l) (g : Nat) (cs wait : List (GenCmd × Option CmdKey)) : Keeps o (l.genCmds g cs wait) := by
  fun_induction Lane.genCmds l g cs wait with
  | case1 => exact h.setGen ..
  | case2 l c k r wait ready m ih => exact ih (((h.foldl _ fun m w hm => hm.completeOpt ..).ite h).genApply ..)
  | case3 l c k r wait later ih => exact ih h

theorem Keeps.genEntry {o l : Lane} (h : Keeps o l) (g : Nat) : Keeps o (l.genEntry g).1 := by
  unfold Lane.genEntry
  dsimp only
  split
  · split
    · exact h.streamRead ..
    · split
      · exact h.streamRead ..
      · exact (h.streamRead ..).setSg ..
  · split <;> exact h.streamRead ..

theorem Keeps.genStream {o l : Lane} (h : Keeps o l) (g : Nat) : Keeps o (l.genStream g) := by
  unfold Lane.genStream
  dsimp only
  split
  · exact (h.genEntry ..).setGen ..
  · exact ((((h.genEntry ..).setGen ..).genStop ..).eventU ..).ite ((h.genEntry ..).setGen ..)

theorem Keeps.refTick {o l : Lane} (h : Keeps o l) (g : Nat) : Keeps o (l.refTick g) := by
  unfold Lane.refTick
  dsimp only
  split
  · exact h
  · split
    · exact ((h.refShift ..).refDone ..).ite h
    · refine .ite ?_ ((((((h.setGen ..).refEnd ..).genStop ..).eventU ..).genDone ..).ite (h.setGen ..))
      split
      · refine .refDone (.refShift (.lit rfl ?_) ..) ..
        split
        · exact ((h.setGen ..).setGen ..).setSg ..
        · exact (h.setGen ..).setGen ..
      · exact ((h.setGen ..).setGen ..).setGen ..

theorem Keeps.lostStep {o l : Lane} (h : Keeps o l) (g : Nat) (k : Nat) : Keeps o (l.lostStep g k) := by
  unfold Lane.lostStep
  dsimp only
  split
  · exact (((h.setSg ..).setStepper ..).setGen ..).ite ((((((((h.setStepper ..).setStepper ..).eventU ..).genStop ..).setSg ..).setGen ..).genDone ..).ite (h.setStepper ..))
  · exact h

theorem Keeps.softCheck {o l : Lane} (h : Keeps o l) (g : Nat) : Keeps o (l.softCheck g) := by
  unfold Lane.softCheck
  exact h.ite (((h.genStop ..).setGen ..).ite h)

theorem Keeps.genEnd {o l : Lane} (h : Keeps o l) (g : Nat) (was : Nat) : Keeps o (l.genEnd g was) := by
  unfold Lane.genEnd
  refine h.ite ?_
  split
  · exact (h.genDone ..).ite (((h.setGen ..).eventU ..).genDone ..)
  · exact (((h.setGen ..).eventU ..).ite (h.setGen ..)).genDone ..
  · split
    · exact (h.refDone ..).ite (((h.setGen ..).genDone ..).ite h)
    · exact h
  · exact h

theorem Keeps.stepLoad {o l : Lane} (h : Keeps o l) (g : Nat) (k : Nat) : Keeps o (l.stepLoad g k) := by
  unfold Lane.stepLoad
  split
  · exact h
  · exact ((((h.lostStep ..).setSg ..).releaseOf ..).ite ((h.lostStep ..).setSg ..)).setStepper ..

theorem Keeps.stepCome {o l : Lane} (h : Keeps o l) (k : Nat) : Keeps o (l.stepCome k) := by
  unfold Lane.stepCome
  split
  · exact h
  · exact (h.cmpSteps ..).setSg ..

theorem Keeps.profileTick {o l : Lane} (h : Keeps o l) (g : Nat) : Keeps o (l.profileTick g) := by
  unfold Lane.profileTick
  refine h.ite (.eachOf (.genEnd (.ite (.refTick ?_ ..) ?_) ..) _ (fun k m hm => hm.stepLoad ..))
  · split
    · exact (((h.eachOf _ (fun k m hm => hm.stepCome ..)).genCmds ..).softCheck ..).genStream ..
    · exact ((h.eachOf _ (fun k m hm => hm.stepCome ..)).genCmds ..).softCheck ..
    · exact (((h.eachOf _ (fun k m hm => hm.stepCome ..)).genCmds ..).softCheck ..).setGen ..
  · split
    · exact (((h.eachOf _ (fun k m hm => hm.stepCome ..)).genCmds ..).softCheck ..).genStream ..
    · exact ((h.eachOf _ (fun k m hm => hm.stepCome ..)).genCmds ..).softCheck ..
    · exact (((h.eachOf _ (fun k m hm => hm.stepCome ..)).genCmds ..).softCheck ..).setGen ..

theorem Keeps.genPush {o l : Lane} (h : Keeps o l) (g : Nat) (c : GenCmd) (k : Option CmdKey) : Keeps o (l.genPush g c k) := h.upd

theorem Keeps.hMpMove {o l : Lane} (h : Keeps o l) (m : Msg) : Keeps o (Lane.hMpMove m l).1 := by
  unfold Lane.hMpMove
  exact h.guarded _ ((h.idleToRun.genPush ..).accept ..)

theorem Keeps.hMpStop {o l : Lane} (h : Keeps o l) (m : Msg) : Keeps o (Lane.hMpStop m l).1 := by
  unfold Lane.hMpStop
  exact h.guarded _ ((h.genPush ..).accept ..)

theorem Keeps.hMpSourceSet {o l : Lane} (h : Keeps o l) (m : Msg) : Keeps o (Lane.hMpSourceSet m l).1 := by
  unfold Lane.hMpSourceSet
  exact h.guarded _ ((h.genPush ..).done ..)

theorem Keeps.hMpReference {o l : Lane} (h : Keeps o l) (m : Msg) : Keeps o (Lane.hMpReference m l).1 := by
  unfold Lane.hMpReference
  exact h.guarded _ ((h.genPush ..).accept ..)

theorem Keeps.refEdge {o l : Lane} (h : Keeps o l) (g : Nat) (pin : Nat) (e : PinLvl) : Keeps o (l.refEdge g pin e) := by
  unfold Lane.refEdge
  dsimp only
  split
  · exact h
  · exact h.ite (((h.setGen ..).refShift ..).genStop ..)

theorem Keeps.stepStage {o l : Lane} (h : Keeps o l) (k : Nat) : Keeps o (l.stepStage k) := by
  unfold Lane.stepStage
  dsimp only
  split
  · exact h.ite (((((((((h.shadowWrite ..).shadowWrite ..).shadowWrite ..).shadowWrite ..).setStepper ..).eventU ..).ite (((((h.shadowWrite ..).shadowWrite ..).shadowWrite ..).shadowWrite ..).setStepper ..)).frzSample ..).burstDone ..)
  · exact h

theorem Keeps.stepHoldEnd {o l : Lane} (h : Keeps o l) (k : Nat) : Keeps o (l.stepHoldEnd k) := by
  unfold Lane.stepHoldEnd
  dsimp only
  split
  · exact ((h.setStepper ..).stepOff ..).ite h
  · exact h

/-! ### Machine/Loop -/

theorem Keeps.setWheel {o l : Lane} (h : Keeps o l) (w : Nat) (x : Wheel) : Keeps o (l.setWheel w x) := h.upd

theorem Keeps.injTake {o l : Lane} (h : Keeps o l) (j : Nat) (t : F32) : Keeps o (l.injTake j t).1 := by
  unfold Lane.injTake
  split
  · exact h
  · refine .setLoop ?_ ..
    split
    · exact h.streamRead ..
    · exact h

theorem Keeps.capPut {o l : Lane} (h : Keeps o l) (j : Nat) (c : Capture) (last : Bool) (inj : Bool) : Keeps o (l.capPut j c last inj).1 := by
  unfold Lane.capPut
  split
  · exact h.ite (h.eventU ..)
  · exact h.qPut ..

theorem Keeps.capLast {o l : Lane} (h : Keeps o l) (j : Nat) (c : Capture) (inj : Bool) : Keeps o (l.capLast j c inj) := by
  unfold Lane.capLast
  exact (h.setLoop ..).ite ((h.qPut ..).setLoop ..)

theorem Keeps.capFlush {o l : Lane} (h : Keeps o l) : Keeps o l.capFlush := by
  unfold Lane.capFlush
  exact h.each _ (fun k m hm => hm.foldl _ (fun m1 k1 hm1 => hm1.ite ((hm1.qPut ..).setLoop ..)))

theorem Keeps.capEnd {o l : Lane} (h : Keeps o l) (j : Nat) : Keeps o (l.capEnd j) := by
  unfold Lane.capEnd
  split
  · exact h
  · exact h.capLast ..

theorem Keeps.capSample {o l : Lane} (h : Keeps o l) (j : Nat) (inj : Bool) : Keeps o (l.capSample j inj) := by
  unfold Lane.capSample
  split
  · exact h
  · exact (h.setLoop ..).ite ((h.capLast ..).ite ((h.capPut ..).setLoop ..))

theorem Keeps.loopPush {o l : Lane} (h : Keeps o l) (j : Nat) (c : LoopCmd) (k : Option CmdKey) : Keeps o (l.loopPush j c k) := h.upd

theorem Keeps.hLoopOpen {o l : Lane} (h : Keeps o l) (m : Msg) : Keeps o (Lane.hLoopOpen m l).1 := by
  unfold Lane.hLoopOpen
  exact h.guarded _ (h.idleToRun.loopPush ..)

theorem Keeps.hLoopClose {o l : Lane} (h : Keeps o l) (m : Msg) : Keeps o (Lane.hLoopClose m l).1 := by
  unfold Lane.hLoopClose
  exact h.guarded _ (h.loopPush ..)

theorem Keeps.hLoopInject {o l : Lane} (h : Keeps o l) (m : Msg) : Keeps o (Lane.hLoopInject m l).1 := by
  unfold Lane.hLoopInject
  exact (h.releaseOf ..).guarded _ ((h.releaseOf ..).loopPush ..)

theorem Keeps.hLoopCapture {o l : Lane} (h : Keeps o l) (m : Msg) : Keeps o (Lane.hLoopCapture m l).1 := by
  unfold Lane.hLoopCapture
  exact h.guarded _ (h.loopPush ..)

theorem Keeps.hLoopCaptureStop {o l : Lane} (h : Keeps o l) (m : Msg) : Keeps o (Lane.hLoopCaptureStop m l).1 := by
  unfold Lane.hLoopCaptureStop
  exact h.guarded _ ((h.capEnd ..).done ..)

theorem Keeps.hLoopChainSet {o l : Lane} (h : Keeps o l) (m : Msg) : Keeps o (Lane.hLoopChainSet m l).1 := by
  unfold Lane.hLoopChainSet
  exact h.guarded _ (h.loopPush ..)

theorem Keeps.loopApply {o l : Lane} (h : Keeps o l) (j : Nat) (c : LoopCmd) (k : Option CmdKey) : Keeps o (l.loopApply j c k) := by
  unfold Lane.loopApply
  dsimp only
  split
  · exact ((h.injAbort ..).setLoop ..).answerOpt ..
  · exact ((h.setLoop ..).answerOpt ..).ite ((h.handOver ..).answerOpt ..)
  · exact ((h.handOver ..).answerOpt ..).ite (h.answerOpt ..)
  · exact (h.answerOpt ..).ite (((((h.pset ..).ite ((h.handOver ..).pset ..)).setLoop ..).ite ((h.pset ..).ite ((h.handOver ..).pset ..))).answerOpt ..)
  · exact ((h.setLoop ..).answerOpt ..).ite (h.answerOpt ..)
  · exact ((h.capEnd ..).setLoop ..).answerOpt ..

theorem Keeps.revertUp {o l : Lane} (h : Keeps o l) (j : Nat) : Keeps o (l.revertUp j) := by
  unfold Lane.revertUp
  split
  · exact (((h.pset ..).setLoop ..).ite (h.pset ..)).ite h
  · exact h

theorem Keeps.loopCmds {o l : Lane} (h : Keeps o l) (j : Nat) : Keeps o (l.loopCmds j) := by
  unfold Lane.loopCmds
  exact ((h.setLoop ..).foldl _ (fun m k hm => hm.loopApply ..)).revertUp ..

theorem Keeps.loopFall {o l : Lane} (h : Keeps o l) (j : Nat) : Keeps o (l.loopFall j) := by
  unfold Lane.loopFall
  exact (((h.injAbort ..).releaseOf ..).setLoop ..).event ..

theorem Keeps.loopsLost {o l : Lane} (h : Keeps o l) : Keeps o l.loopsLost := by
  unfold Lane.loopsLost
  exact h.each _ (fun k m hm => (hm.loopFall ..).ite hm)

theorem Keeps.lawSample {o l : Lane} (h : Keeps o l) (j : Nat) (n : LIn) (a : Law) (rD : F32) (rQ : F32) (lim : F32 → F32 → LOut) : Keeps o (l.lawSample j n a rD rQ lim).1 := h.upd
theorem Keeps.track {o l : Lane} (h : Keeps o l) (j : Nat) (a : Law) (uD : F32) (uQ : F32) : Keeps o (l.track j a uD uQ) := h.upd

theorem Keeps.blendInit {o l : Lane} (h : Keeps o l) (j : Nat) (n : LIn) (a : Law) (pD : F32) (pQ : F32) : Keeps o (l.blendInit j n a pD pQ) := by
  unfold Lane.blendInit
  dsimp only
  split
  · exact h
  · exact ((((h.setLoop ..).event ..).ite (h.setLoop ..)).event ..).ite (((h.setLoop ..).event ..).ite (h.setLoop ..))

theorem Keeps.blendRevert {o l : Lane} (h : Keeps o l) (j : Nat) (n : LIn) (a : Law) (strInst : Nat) : Keeps o (l.blendRevert j n a strInst) := by
  unfold Lane.blendRevert
  dsimp only
  split
  · exact h
  · split
    · exact (h.ite (h.eventU ..)).ite (((h.ite (h.eventU ..)).loopFall ..).ite (((h.ite (h.eventU ..)).setLoop ..).track ..))
    · exact ((h.ite (h.eventU ..)).loopFall ..).ite ((h.ite (h.eventU ..)).setLoop ..)
    · exact (h.ite (h.eventU ..)).setLoop ..

theorem Keeps.missSample {o l : Lane} (h : Keeps o l) (j : Nat) : Keeps o (l.missSample j) := by
  unfold Lane.missSample
  exact ((h.setLoop ..).loopFall ..).ite (h.setLoop ..)

theorem Keeps.blendSample {o l : Lane} (h : Keeps o l) (j : Nat) (n : LIn) (a : Law) (str : Option LOut) (lim : F32 → F32 → LOut) : Keeps o (l.blendSample j n a str lim).1 := by
  unfold Lane.blendSample
  dsimp only
  split
  · exact h
  · refine .setLoop ?_ ..
    split
    · exact h.setLoop ..
    · exact h.lawSample ..

theorem Keeps.goodSample {o l : Lane} (h : Keeps o l) (j : Nat) (n : LIn) (a : Law) (str : Option LOut) (lim : F32 → F32 → LOut) : Keeps o (l.goodSample j n a str lim).1 := by
  unfold Lane.goodSample
  dsimp only
  split
  · exact h
  · split
    · split
      · exact (h.setLoop ..).track ..
      · exact h.missSample ..
    · exact (h.setLoop ..).track ..
  · exact h.lawSample ..
  · split
    · exact h.missSample ..
    · refine .blendSample (.ite ?_ h) ..
      split <;> exact h.blendInit ..
  · exact h.setLoop ..

theorem Keeps.loopSample {o l : Lane} (h : Keeps o l) (j : Nat) (n : LIn) {readStr : Lane → Lane × Option LOut} (hf : ∀ m, Keeps o m → Keeps o (readStr m).1) (lim : F32 → F32 → LOut) : Keeps o (l.loopSample j n readStr lim).1 := by
  unfold Lane.loopSample
  extract_lets l1 it l2 inj n' a l3 x l4 sr l5 r bad r' l6 _ l7
  have h1 : Keeps o l1 := (h.loopFall j).ite h
  have ht : Keeps o it.1 := by
    unfold it
    split
    · exact h1.injTake ..
    · exact h1
  have h4 : Keeps o l4 := ((ht.blendRevert ..).ite ht).setLoop ..
  have hs : Keeps o sr.1 := by
    unfold sr
    split
    · exact hf _ h4
    · exact h4
  have h5 : Keeps o l5 := hs
  clear_value l5
  have hr : Keeps o r.1 := Keeps.ite_fst (a := (l5.missSample j, none)) (h5.missSample j) (h5.goodSample ..)
  clear_value bad r
  have hr' : Keeps o r'.1 := Keeps.ite_fst (a := ((l5.missSample j).eventU 0x7102, none)) ((h5.missSample j).eventU _) hr
  clear_value r'
  exact (hr'.setLoop ..).capSample ..

theorem Keeps.writeDuty {o₀ l : Lane} (h : Keeps o₀ l) (k : Nat) (r : Rotor) (o : LOut) : Keeps o₀ (l.writeDuty k r o) := by
  unfold Lane.writeDuty
  dsimp only
  split
  · refine (h.eachOf _ (fun k1 m hm => ?_)).setMotor ..
    split
    · exact hm.shadowWrite ..
    · exact hm
  · refine h.eachOf _ (fun k1 m hm => ?_)
    split
    · exact hm.shadowWrite ..
    · exact hm

theorem Keeps.refTake {o l : Lane} (h : Keeps o l) (j : Nat) : Keeps o (l.refTake j) := by
  unfold Lane.refTake
  dsimp only
  split
  · exact h.setLoop ..
  · exact h

theorem Keeps.rotorSafe {o l : Lane} (h : Keeps o l) (k : Nat) (wCmd : Option F32) : Keeps o (l.rotorSafe k wCmd).1 := by
  unfold Lane.rotorSafe
  dsimp only
  split
  · exact h.rotor ..
  · exact (((h.strRead ..).setMotor ..).ite h).eventU ..

theorem Keeps.curSample {o l : Lane} (h : Keeps o l) (j : Nat) : Keeps o (l.curSample j) := by
  unfold Lane.curSample
  dsimp only
  split
  · exact (((((h.loopCmds ..).refTake ..).foldl _ (fun m k hm => hm.noise ..)).rotorSafe ..).loopSample _ _ (fun m hm => hm.streamRead ..) ..).writeDuty ..
  · exact ((((h.loopCmds ..).refTake ..).foldl _ (fun m k hm => hm.noise ..)).rotorSafe ..).loopSample _ _ (fun m hm => hm.streamRead ..) ..

theorem Keeps.slotDue {o l : Lane} (h : Keeps o l) (j start : Nat) {f : Lane → Lane} (hf : ∀ m, Keeps o m → Keeps o (f m)) : Keeps o (l.slotDue j start f) := by
  unfold Lane.slotDue
  exact (hf _ (h.setLoop ..)).ite (h.setLoop ..)

theorem Keeps.runSlots {o l : Lane} (h : Keeps o l) {f : Nat → Lane → Lane} (hf : ∀ k m, Keeps o m → Keeps o (f k m)) (t : Nat) (js : List Nat) : Keeps o (l.runSlots f t js) := by
  induction js generalizing l t with
  | nil => exact h
  | cons j r ih => exact ih (h.slotDue _ _ (hf j)) _

theorem Keeps.seqStart {o l : Lane} (h : Keeps o l) (first : Nat) : Keeps o (l.seqStart first).1 := by
  unfold Lane.seqStart
  split
  · exact h
  · exact ((((h.upd.eventU ..).internalFault).failSilent ..).ite ((h.upd.eventU ..).internalFault)).ite (h.upd.eventU ..)

theorem Keeps.lateSample {o l : Lane} (h : Keeps o l) (j : Nat) : Keeps o (l.lateSample j) := by
  unfold Lane.lateSample
  exact h.ite (((h.setLoop ..).loopFall ..).ite (h.setLoop ..))

theorem Keeps.currentSequence {o l : Lane} (h : Keeps o l) (tb : Nat) (ds : List (Option DsRes)) : Keeps o (l.currentSequence tb ds) := by
  unfold Lane.currentSequence
  exact h.ite (.lit rfl ((((((h.dsTake ..).capFlush).seqStart ..).runSlots (fun k m hm => hm.curSample ..) ..).burstDone ..).ite ((((h.dsTake ..).capFlush).seqStart ..).runSlots (fun k m hm => hm.curSample ..) ..)))

theorem Keeps.loadTick {o l : Lane} (h : Keeps o l) (tb : Nat) : Keeps o (l.loadTick tb) := by
  unfold Lane.loadTick
  exact ((h.loadPoint ..).eachOf _ (fun k m hm => hm.lateSample ..)).ite (h.loadPoint ..)

theorem Keeps.outerIn {o l : Lane} (h : Keeps o l) (j : Nat) : Keeps o (l.outerIn j).1 := by
  unfold Lane.outerIn
  dsimp only
  split
  · exact h
  · exact h.unwrapPos ..
  · exact h.ite (h.noise ..)

theorem Keeps.outerSample {o l : Lane} (h : Keeps o l) (j : Nat) : Keeps o (l.outerSample j) := by
  unfold Lane.outerSample
  exact ((((h.loopCmds ..).outerIn ..).loopSample _ _ (fun m hm => hm.streamRead ..) ..).setLoop ..).ite (((((h.loopCmds ..).outerIn ..).loopSample _ _ (fun m hm => hm.streamRead ..) ..).setLoop ..).ite (((h.loopCmds ..).outerIn ..).loopSample _ _ (fun m hm => hm.streamRead ..) ..))

theorem Keeps.outerLoops {o l : Lane} (h : Keeps o l) (ds : List (Option DsRes)) : Keeps o (l.outerLoops ds) := by
  unfold Lane.outerLoops
  exact h.ite (.lit rfl ((((h.dsTake ..).capFlush).seqStart ..).runSlots (fun k m hm => hm.outerSample ..) ..))

theorem Keeps.loopDisable {o l : Lane} (h : Keeps o l) (j : Nat) : Keeps o (l.loopDisable j) := by
  unfold Lane.loopDisable
  refine ((h.injAbort ..).capEnd ..).ite ((((((h.injAbort ..).capEnd ..).streamFlush ..).streamFlush ..).setLoop ..).foldl _ (fun m k hm => ?_))
  split <;> exact hm.answerOpt ..

theorem Keeps.loopEnable {o l : Lane} (h : Keeps o l) (j : Nat) : Keeps o (l.loopEnable j) := by
  unfold Lane.loopEnable
  exact (h.setLoop ..).ite h

theorem Keeps.fnClose {o l : Lane} (h : Keeps o l) (f : Nat) : Keeps o (l.fnClose f) := by
  unfold Lane.fnClose
  exact h.each _ (fun k m hm => (hm.loopPush ..).ite hm)

theorem Keeps.srcFresh {o l : Lane} (h : Keeps o l) (c : Nat) : Keeps o (l.srcFresh c) := by
  unfold Lane.srcFresh
  exact (((h.setFrz ..).setHall ..).cmpJump ..).ite (((h.setFrz ..).setEnc ..).ite (h.setFrz ..))

theorem Keeps.slotEnable {o l : Lane} (h : Keeps o l) (k : Nat) : Keeps o (l.slotEnable k) := by
  unfold Lane.slotEnable
  extract_lets m integ slow l1 dev src l2 l3 _ l4 js l5
  have h1 : Keeps o l1 := h.eachOf _ fun _ _ hx => (((hx.codesStart _).codesStart _).setHb ..).ite hx
  clear_value l1
  have h3 : Keeps o l3 := (h1.setMotor ..).eachOf _ fun _ _ hx => hx.srcFresh ..
  have h5 : Keeps o l5 := (h3.setStepper ..).eachOf _ fun _ _ hx => hx.loopEnable ..
  split
  · exact (h5.fnClose _).ite h5
  · exact h5

theorem Keeps.slotDisable {o l : Lane} (h : Keeps o l) (k : Nat) : Keeps o (l.slotDisable k) := by
  unfold Lane.slotDisable
  refine .setMotor (.eachOf (.takeSafe (.setMotor ?_ ..) ..) _ (fun k1 m hm => hm.setPch ..)) ..
  split
  · exact (((h.eachOf _ (fun k1 m hm => hm.loopDisable ..)).streamFlush ..).genHalt ..).streamFlush ..
  · exact (h.eachOf _ (fun k1 m hm => hm.loopDisable ..)).streamFlush ..

theorem Keeps.hMotEnable {o l : Lane} (h : Keeps o l) (m : Msg) : Keeps o (Lane.hMotEnable m l).1 := by
  unfold Lane.hMotEnable
  refine h.guarded _ ?_
  split
  · split
    · exact h.idleToRun.done ..
    · exact (h.idleToRun.slotEnable ..).done ..
  · split
    · exact (h.slotDisable ..).done ..
    · exact h.done ..

theorem Keeps.codeFrozen {o l : Lane} (h : Keeps o l) (c : Nat) : Keeps o (l.codeFrozen c) := by
  unfold Lane.codeFrozen
  dsimp only
  split
  · exact (((h.setFrz ..).event ..).loopsLost).ite h
  · exact h

theorem Keeps.posFrozen {o l : Lane} (h : Keeps o l) (k : Nat) : Keeps o (l.posFrozen k) := by
  unfold Lane.posFrozen
  exact h.eachOf _ (fun k1 m hm => hm.codeFrozen ..)

/-! ### Machine/ParamChecks -/

theorem Keeps.tellMerged {o l : Lane} (h : Keeps o l) (before : Bool) : Keeps o (l.tellMerged before) := by
  unfold Lane.tellMerged
  exact (h.eventU ..).ite h

/-! ### Machine/Functions -/

theorem Keeps.setChop {o l : Lane} (h : Keeps o l) (c : Nat) (x : Chopper) : Keeps o (l.setChop c x) := h.upd

theorem Keeps.steerMove {o l : Lane} (h : Keeps o l) (angle : F32) : Keeps o (l.steerMove angle) := by
  unfold Lane.steerMove
  split
  · exact h.genPush ..
  · exact h

theorem Keeps.setpointApply {o l : Lane} (h : Keeps o l) (f : Nat) (s : Setpoint) : Keeps o (l.setpointApply f s) := by
  unfold Lane.setpointApply
  dsimp only
  split
  · exact .ite (.steerMove (.lit rfl ((h.setFunc ..).releaseIds ..)) ..) (.lit rfl ((h.setFunc ..).releaseIds ..))
  · exact ((h.setFunc ..).foldl _ (fun m k hm => (hm.setWheel ..).ite hm)).ite (h.setFunc ..)
  · exact h.upd.ite (h.setFunc ..)

theorem Keeps.setpointsDue {o l : Lane} (h : Keeps o l) (f : Nat) : Keeps o (l.setpointsDue f) := by
  unfold Lane.setpointsDue
  exact (h.setFunc ..).foldl _ (fun m k hm => hm.setpointApply ..)

theorem Keeps.fnRefresh {o l : Lane} (h : Keeps o l) (f : Nat) (v : F32) : Keeps o (l.fnRefresh f v) := by
  unfold Lane.fnRefresh
  exact h.upd.ite (h.upd.ite h.upd)

theorem Keeps.fnForward {o l : Lane} (h : Keeps o l) (own : Bool) (f : Nat) (wheel : Nat) (val : F32) (v : F32) (apply : Nat) : Keeps o (l.fnForward own f wheel val v apply) := by
  unfold Lane.fnForward
  exact h.upd.ite h

theorem Keeps.setpointTake {o l : Lane} (h : Keeps o l) (f : Nat) (v : F32) (s : Setpoint) : Keeps o (l.setpointTake f v s) := by
  unfold Lane.setpointTake
  exact (h.fnRefresh ..).setFunc ..

theorem Keeps.trySteer {o l : Lane} (h : Keeps o l) (own : Bool) (angle : F32) (v : F32) (apply : Nat) : Keeps o (l.trySteer own angle v apply).1 := by
  unfold Lane.trySteer
  split
  · exact h
  · split
    · exact h
    · exact (h.setpointTake ..).fnForward ..

theorem Keeps.tryBrake {o l : Lane} (h : Keeps o l) (own : Bool) (mask : Nat) (vals : List F32) (v : F32) (apply : Nat) : Keeps o (l.tryBrake own mask vals v apply).1 := by
  unfold Lane.tryBrake
  dsimp only
  split
  · exact h
  · split
    · exact h
    · exact (h.setpointTake ..).foldl _ (fun m k hm => hm.fnForward ..)

theorem Keeps.answered {o : Lane} {r : Lane × Nat} (h : Keeps o r.1) : Keeps o (answered r).1 := h

theorem Keeps.hSteerSet {o l : Lane} (h : Keeps o l) (m : Msg) : Keeps o (Lane.hSteerSet m l).1 := by
  unfold Lane.hSteerSet
  exact (h.trySteer ..).answered

theorem Keeps.hBrakeSet {o l : Lane} (h : Keeps o l) (m : Msg) : Keeps o (Lane.hBrakeSet m l).1 := by
  unfold Lane.hBrakeSet
  exact (h.tryBrake ..).answered

theorem Keeps.tryRetard {o l : Lane} (h : Keeps o l) (own : Bool) (force : F32) (v : F32) (apply : Nat) : Keeps o (l.tryRetard own force v apply).1 := by
  unfold Lane.tryRetard
  split
  · exact h
  · exact (h.setpointTake ..).fnForward ..

theorem Keeps.hRetardSet {o l : Lane} (h : Keeps o l) (m : Msg) : Keeps o (Lane.hRetardSet m l).1 := by
  unfold Lane.hRetardSet
  exact (h.tryRetard ..).answered

theorem Keeps.sbTestEnd {o l : Lane} (h : Keeps o l) : Keeps o l.sbTestEnd := by
  unfold Lane.sbTestEnd
  exact h.ite (h.upd.setCell ..)

theorem Keeps.sbSet {o l : Lane} (h : Keeps o l) (apply : Bool) : Keeps o (l.sbSet apply) := by
  unfold Lane.sbSet
  exact .ite (.setCell (.ite (.safetyRequest (.lit rfl h.sbTestEnd) ..) (.lit rfl h.sbTestEnd)) ..) (.cellFollow (.ite (.safetyRequest (.lit rfl h.sbTestEnd) ..) (.lit rfl h.sbTestEnd)))

theorem Keeps.sbSense {o l : Lane} (h : Keeps o l) (sense : List Bool) : Keeps o (l.sbSense sense) := by
  unfold Lane.sbSense
  exact ((h.upd.eventU ..).sbTestEnd).ite h.upd

theorem Keeps.sbJudge {o l : Lane} (h : Keeps o l) (sw : Option (List Bool)) : Keeps o (l.sbJudge sw) := by
  unfold Lane.sbJudge
  split
  · exact h.sbSense ..
  · exact h

theorem Keeps.trySpring {o l : Lane} (h : Keeps o l) (own : Bool) (apply : Bool) (emergency : Bool) (v : F32) : Keeps o (l.trySpring own apply emergency v).1 := by
  unfold Lane.trySpring
  split
  · exact h.eventU ..
  · split
    · exact h
    · exact ((h.upd.setFunc ..).sbSet ..).fnForward ..

theorem Keeps.hSpringBrake {o l : Lane} (h : Keeps o l) (m : Msg) : Keeps o (Lane.hSpringBrake m l).1 := by
  unfold Lane.hSpringBrake
  exact (h.trySpring ..).answered

theorem Keeps.sbTestStart {o l : Lane} (h : Keeps o l) (sw : Option (List Bool)) : Keeps o (l.sbTestStart sw) := by
  unfold Lane.sbTestStart
  exact .ite (.senseFollow (.lit rfl ((h.sbJudge ..).releaseIds ..))) (h.sbJudge ..)

theorem Keeps.sbTestStep {o l : Lane} (h : Keeps o l) (sense : List Bool) : Keeps o (l.sbTestStep sense) := by
  unfold Lane.sbTestStep
  refine h.ite (h.upd.ite ?_)
  dsimp only
  split
  · exact .senseFollow (.lit rfl (h.sbSense ..))
  · exact (h.sbSense ..).sbTestEnd
  · exact h.sbSense ..

theorem Keeps.sbRefreshLost {o l : Lane} (h : Keeps o l) : Keeps o l.sbRefreshLost := by
  unfold Lane.sbRefreshLost
  exact ((h.setFunc ..).event ..).ite h

theorem Keeps.linkNote {o l : Lane} (h : Keeps o l) (key : Nat) (down : Option Bool) : Keeps o (l.linkNote key down) := by
  unfold Lane.linkNote
  split
  · exact h.addInst ..
  · exact h.dropInst ..
  · exact h

theorem Keeps.linkTrack {o l : Lane} (h : Keeps o l) : Keeps o l.linkTrack := by
  unfold Lane.linkTrack
  exact ((h.linkNote ..).linkNote ..).linkNote ..

theorem Keeps.assess {o l : Lane} (h : Keeps o l) : Keeps o l.assess := by
  unfold Lane.assess
  exact h.ite ((h.ite (h.upd.eventU ..)).ite (.eventU (.lit rfl (h.ite (h.upd.eventU ..))) ..))

theorem Keeps.finalStop {o l : Lane} (h : Keeps o l) : Keeps o l.finalStop := by
  unfold Lane.finalStop
  exact (((h.upd.sbSet ..).assess).ite (h.upd.sbSet ..)).ite h

theorem Keeps.stopTrack {o l : Lane} (h : Keeps o l) : Keeps o l.stopTrack := h.upd

theorem Keeps.steerReturn {o l : Lane} (h : Keeps o l) : Keeps o l.steerReturn := by
  unfold Lane.steerReturn
  exact .ite (.steerMove (.lit rfl (h.upd.releaseIds ..)) ..) (h.upd.releaseIds ..)

theorem Keeps.breakaway {o l : Lane} (h : Keeps o l) : Keeps o l.breakaway := by
  have moded := (h.releaseIds [0x9102, 0x9103]).setFunc 1 { (l.releaseIds [0x9102, 0x9103]).func 1 with mode := 4 }
  unfold Lane.breakaway
  exact ((Keeps.upd (l := (l.releaseIds [0x9102, 0x9103]).setFunc 1 { (l.releaseIds [0x9102, 0x9103]).func 1 with mode := 4 }) moded).eventU 0x9104).safetyRequest _

theorem Keeps.cmdLost {o l : Lane} (h : Keeps o l) (f : Nat) : Keeps o (l.cmdLost f) := by
  unfold Lane.cmdLost
  dsimp only
  split
  · exact ((((h.setFunc ..).eventU ..).steerReturn).ite ((h.setFunc ..).eventU ..)).ite h
  · exact h

theorem Keeps.cmdHold {o l : Lane} (h : Keeps o l) : Keeps o l.cmdHold := by
  unfold Lane.cmdHold
  exact ((h.steerReturn.ite h).breakaway).ite (h.steerReturn.ite h)

theorem Keeps.parkDue {o l : Lane} (h : Keeps o l) : Keeps o l.parkDue := by
  unfold Lane.parkDue
  exact ((((h.setFunc ..).setFunc ..).eventU ..).sbSet ..).ite h

theorem Keeps.contact {o l : Lane} (h : Keeps o l) (w : Nat) : Keeps o (l.contact w) := by
  unfold Lane.contact
  exact (((h.setWheel ..).eventU ..).ite (h.setWheel ..)).ite ((((h.setWheel ..).eventU ..).ite (h.setWheel ..)).ite h)

theorem Keeps.brakeWheel {o l : Lane} (h : Keeps o l) (w : Nat) : Keeps o (l.brakeWheel w) := by
  unfold Lane.brakeWheel
  exact (((((((h.setWheel ..).ite h).releaseOf ..).ite ((h.setWheel ..).ite h)).safetyRequest ..).ite ((((h.setWheel ..).ite h).releaseOf ..).ite ((h.setWheel ..).ite h))).setWheel ..).contact ..

theorem Keeps.slackRun {o l : Lane} (h : Keeps o l) (w : Nat) : Keeps o (l.slackRun w) := by
  unfold Lane.slackRun
  split
  · exact h
  · exact h.ite ((h.setWheel ..).ite ((h.genPush ..).ite h))

theorem Keeps.slackStart {o l : Lane} (h : Keeps o l) (w : Nat) : Keeps o (l.slackStart w) := by
  unfold Lane.slackStart
  dsimp only
  split
  · exact h
  · exact (((h.releaseOf ..).setWheel ..).genPush ..).ite h

theorem Keeps.trySlack {o l : Lane} (h : Keeps o l) (own : Bool) (w : Nat) (travel : F32) (v : F32) : Keeps o (l.trySlack own w travel v).1 := by
  unfold Lane.trySlack
  dsimp only
  split
  · exact h
  · split
    · split
      · exact h
      · split
        · exact h
        · exact (h.setWheel ..).fnForward ..
    · split
      · exact h
      · split
        · exact h
        · exact (h.setWheel ..).fnForward ..

theorem Keeps.hSlackAdjust {o l : Lane} (h : Keeps o l) (m : Msg) : Keeps o (Lane.hSlackAdjust m l).1 := by
  unfold Lane.hSlackAdjust
  exact (h.trySlack ..).answered

theorem Keeps.hBrakeLearn {o l : Lane} (h : Keeps o l) (m : Msg) : Keeps o (Lane.hBrakeLearn m l).1 := by
  unfold Lane.hBrakeLearn
  exact h.guarded _ ((h.upd.eachOf _ (fun k m1 hm => hm.setWheel ..)).done ..)

theorem Keeps.estMismatch {o l : Lane} (h : Keeps o l) (w : Nat) : Keeps o (l.estMismatch w) := by
  unfold Lane.estMismatch
  exact ((h.setWheel ..).eventU ..).ite h

theorem Keeps.countSets {o l : Lane} (h : Keeps o l) : Keeps o l.countSets := by
  unfold Lane.countSets
  exact h.each _ (fun k m hm => hm.ite ((hm.upd.eventU ..).ite hm.upd))

theorem Keeps.assertInh {o l : Lane} (h : Keeps o l) : Keeps o l.assertInh := by
  unfold Lane.assertInh
  exact h.ite (h.upd.eventU ..)

theorem Keeps.chopDuty {o l : Lane} (h : Keeps o l) (c : Nat) (d : F32) : Keeps o (l.chopDuty c d) := by
  unfold Lane.chopDuty
  dsimp only
  split
  · exact ((h.setChop ..).shadowWrite ..).burstDone ..
  · exact h.setChop ..

theorem Keeps.chopFault {o l : Lane} (h : Keeps o l) (c : Nat) (cause : Nat) : Keeps o (l.chopFault c cause) := by
  unfold Lane.chopFault
  exact h.ite (.ite (.setChop (.lit rfl (((((h.setChop ..).chopDuty ..).eventU ..).sendBoth ..).assertInh)) ..) (.lit rfl (((((h.setChop ..).chopDuty ..).eventU ..).sendBoth ..).assertInh)))

theorem Keeps.chopTrip {o l : Lane} (h : Keeps o l) (n : Nat) : Keeps o (l.chopTrip n) := by
  unfold Lane.chopTrip
  refine h.foldl _ (fun m k hm => ?_)
  split
  · exact (hm.chopFault ..).ite hm
  · exact hm

theorem Keeps.chopTest {o l : Lane} (h : Keeps o l) (c : Nat) : Keeps o (l.chopTest c) := by
  unfold Lane.chopTest
  exact h.ite (((h.chopFault ..).ite h).ite (((h.setChop ..).chopFault ..).ite (h.setChop ..)))

theorem Keeps.chopRun {o l : Lane} (h : Keeps o l) (c : Nat) : Keeps o (l.chopRun c) := by
  unfold Lane.chopRun
  exact h.ite (((h.setChop ..).chopDuty ..).ite (h.setChop ..))

theorem Keeps.chopArm {o l : Lane} (h : Keeps o l) (c : Nat) : Keeps o (l.chopArm c) := by
  unfold Lane.chopArm
  exact ((((h.setChop ..).chopDuty ..).eventU ..).ite ((h.setChop ..).chopDuty ..)).ite h

theorem Keeps.chopDisarm {o l : Lane} (h : Keeps o l) (c : Nat) : Keeps o (l.chopDisarm c) := by
  unfold Lane.chopDisarm
  exact ((h.setChop ..).chopDuty ..).ite h

theorem Keeps.limUpdate {o l : Lane} (h : Keeps o l) : Keeps o l.limUpdate := h.upd

theorem Keeps.blendUpdate {o l : Lane} (h : Keeps o l) : Keeps o l.blendUpdate := by
  unfold Lane.blendUpdate
  exact h.upd.eachOf _ (fun k m hm => hm.setWheel ..)

theorem Keeps.inhRelease {o l : Lane} (h : Keeps o l) : Keeps o l.inhRelease := by
  unfold Lane.inhRelease
  exact (((h.upd.each _ (fun k m hm => hm.regenClear ..)).ite (.eventU (.lit rfl (h.upd.each _ (fun k m hm => hm.regenClear ..))) ..)).ite h.upd).ite (h.upd.ite h.upd)

theorem Keeps.retard {o l : Lane} (h : Keeps o l) : Keeps o l.retard := by
  unfold Lane.retard
  refine h.ite ?_
  extract_lets l1 _ l2 l3 lost l4 _ l6
  have h1 : Keeps o l1 := (h.chopTest 0).chopTest 1
  clear_value l1
  have h2 : Keeps o l2 := (Keeps.upd h1).assertInh.ite h1
  clear_value l2
  have h3 : Keeps o l3 := (h2.chopRun 0).chopRun 1
  clear_value l3
  have h4 : Keeps o l4 := (h3.eventU _).ite h3
  clear_value l4
  have h6 : Keeps o l6 := (Keeps.upd h4).limUpdate.ite h3
  exact h6.blendUpdate.inhRelease

theorem Keeps.chopNotice {o l : Lane} (h : Keeps o l) (code : Nat) (c : Nat) : Keeps o (l.chopNotice code c) := by
  unfold Lane.chopNotice
  exact h.ite h.upd

theorem Keeps.chopReport {o l : Lane} (h : Keeps o l) (p : LaneId) (st : Nat) (flags : List Bool) : Keeps o (l.chopReport p st flags) := by
  unfold Lane.chopReport
  extract_lets l1 l2
  have h1 : Keeps o l1 := (h.chopNotice ..).ite h
  have h2 : Keeps o l2 := (h1.chopNotice ..).ite h1
  clear_value l2
  exact .ite (.ite h2.upd h2.upd) h2

theorem Keeps.speedRequest {o l : Lane} (h : Keeps o l) : Keeps o l.speedRequest := by
  unfold Lane.speedRequest
  exact (h.upd.ite (h.upd.eventU ..)).ite h

theorem Keeps.setDrn {o l : Lane} (h : Keeps o l) (d : Nat) (x : Drn) : Keeps o (l.setDrn d x) := h.upd

theorem Keeps.busOv1 {o l : Lane} (h : Keeps o l) (d : Nat) : Keeps o (l.busOv1 d) := by
  unfold Lane.busOv1
  exact h.ite ((h.upd.eventU ..).eachOf _ (fun k m hm => hm.ite (hm.setPch ..)))

theorem Keeps.busOv1Clear {o l : Lane} (h : Keeps o l) (d : Nat) : Keeps o (l.busOv1Clear d) := by
  unfold Lane.busOv1Clear
  exact h.ite ((h.setDrn ..).eachOf _ (fun k m hm => hm.setPch ..))

theorem Keeps.ov2Slot {o l : Lane} (h : Keeps o l) (k : Nat) : Keeps o (l.ov2Slot k) := by
  unfold Lane.ov2Slot
  dsimp only
  split
  · exact h
  · exact h
  · exact ((h.flyStop ..).setMotor ..).setMotor ..
  · exact (h.setMotor ..).stepOff ..

theorem Keeps.busOv2 {o l : Lane} (h : Keeps o l) (d : Nat) : Keeps o (l.busOv2 d) := by
  unfold Lane.busOv2
  exact h.ite (((h.setDrn ..).eventU ..).ite (.each (.eventU (.lit rfl ((h.setDrn ..).eventU ..)) ..) _ (fun k m hm => hm.ov2Slot ..)))

theorem Keeps.fnReclose {o l : Lane} (h : Keeps o l) (f : Nat) : Keeps o (l.fnReclose f) := by
  unfold Lane.fnReclose
  exact h.ite ((h.each _ (fun k m hm => ((hm.loopPush ..).loopPush ..).ite hm)).fnClose ..)

theorem Keeps.busOff {o l : Lane} (h : Keeps o l) (d : Nat) : Keeps o (l.busOff d) := by
  unfold Lane.busOff
  exact ((h.busOv1Clear ..).setDrn ..).ite (h.busOv1Clear ..)

theorem Keeps.ov2Release {o l : Lane} (h : Keeps o l) (d : Nat) : Keeps o (l.ov2Release d) := by
  unfold Lane.ov2Release
  exact h.ite ((h.setDrn ..).ite (((h.upd.each _ (fun k m hm => hm.ite ((hm.setMotor ..).ite (hm.setMotor ..)))).fnReclose ..).fnReclose ..))

theorem Keeps.streamGone {o l : Lane} (h : Keeps o l) (f : Nat) : Keeps o (l.streamGone f) := by
  unfold Lane.streamGone
  exact (h.setFunc ..).event ..

theorem Keeps.sourceSwitch {o l : Lane} (h : Keeps o l) (f : Nat) : Keeps o (l.sourceSwitch f) := by
  unfold Lane.sourceSwitch
  dsimp only
  split
  · exact h
  · exact h.upd

theorem Keeps.streamApply {o l : Lane} (h : Keeps o l) (f : Nat) (e : StreamVal) : Keeps o (l.streamApply f e) := by
  unfold Lane.streamApply
  split
  · exact (h.setFunc ..).setpointApply ..
  · exact (h.setFunc ..).setpointApply ..
  · exact h.upd

theorem Keeps.streamStep {o l : Lane} (h : Keeps o l) (f : Nat) (inst : Nat) : Keeps o (l.streamStep f inst) := by
  unfold Lane.streamStep
  refine h.ite ?_
  dsimp only
  split
  · exact (((h.streamRead ..).setFunc ..).streamApply ..).ite ((h.streamRead ..).setFunc ..)
  · exact (h.streamRead ..).setFunc ..

theorem Keeps.streamCheck {o l : Lane} (h : Keeps o l) (f : Nat) : Keeps o (l.streamCheck f) := by
  unfold Lane.streamCheck
  exact (h.streamGone ..).ite h

theorem Keeps.hFnSourceSet {o l : Lane} (h : Keeps o l) (m : Msg) : Keeps o (Lane.hFnSourceSet m l).1 := by
  unfold Lane.hFnSourceSet
  exact h.guarded _ ((h.setFunc ..).done ..)

theorem Keeps.misCheck {o l : Lane} (h : Keeps o l) (f : Nat) : Keeps o (l.misCheck f) := by
  unfold Lane.misCheck
  exact h.ite (((h.setFunc ..).eventU ..).ite (h.setFunc ..))

theorem Keeps.forwardAll {o l : Lane} (h : Keeps o l) : Keeps o l.forwardAll := by
  unfold Lane.forwardAll
  exact .lit rfl (h.eachOf _ (fun k m hm => (hm.foldl _ (fun m1 k1 hm1 => hm1.sendTo ..)).ite hm))

theorem Keeps.fnPeriod {o l : Lane} (h : Keeps o l) (ds : List (Option DsRes)) : Keeps o (l.fnPeriod ds) := by
  unfold Lane.fnPeriod
  exact h.ite (((((((((((((((h.dsTake ..).eachOf _ (fun k m hm => hm.sourceSwitch ..)).eachOf _ (fun k m hm => hm.setpointsDue ..)).streamStep ..).streamStep ..).streamStep ..).eachOf _ (fun k m hm => (hm.streamCheck ..).misCheck ..)).steerReturn).ite (((((((h.dsTake ..).eachOf _ (fun k m hm => hm.sourceSwitch ..)).eachOf _ (fun k m hm => hm.setpointsDue ..)).streamStep ..).streamStep ..).streamStep ..).eachOf _ (fun k m hm => (hm.streamCheck ..).misCheck ..))).countSets).retard).eachOf _ (fun k m hm => (hm.brakeWheel ..).slackRun ..)).forwardAll).assess).stopTrack)

theorem Keeps.fnStart {o l : Lane} (h : Keeps o l) (f : Nat) : Keeps o (l.fnStart f) := by
  unfold Lane.fnStart
  exact h.ite (((h.setFunc ..).eachOf _ (fun k m hm => hm.loopEnable ..)).fnClose ..)

theorem Keeps.fnStop {o l : Lane} (h : Keeps o l) (f : Nat) : Keeps o (l.fnStop f) := by
  unfold Lane.fnStop
  refine h.ite ?_
  dsimp only
  split
  · split
    · refine .takeSafe ?_ ..
      split
      · exact ((h.upd.streamFlush ..).eachOf _ (fun k m hm => hm.loopDisable ..)).genHalt ..
      · exact (h.upd.streamFlush ..).eachOf _ (fun k m hm => hm.loopDisable ..)
    · split
      · exact ((h.upd.streamFlush ..).eachOf _ (fun k m hm => hm.loopDisable ..)).genHalt ..
      · exact (h.upd.streamFlush ..).eachOf _ (fun k m hm => hm.loopDisable ..)
  · exact (h.upd.streamFlush ..).each _ (fun k m hm => hm.setWheel ..)
  · refine (h.setFunc ..).each _ (fun k m hm => ?_)
    split
    · exact (hm.genHalt ..).setWheel ..
    · exact hm
  · exact h.setFunc ..
  · exact (((h.upd.streamFlush ..).each _ (fun k m hm => hm.setWheel ..)).each _ (fun k m hm => (hm.setChop ..).chopDuty ..)).assertInh

theorem Keeps.hFnEnable {o l : Lane} (h : Keeps o l) (m : Msg) : Keeps o (Lane.hFnEnable m l).1 := by
  unfold Lane.hFnEnable
  exact h.guarded _ (((h.upd.idleToRun.fnStart ..).ite (h.upd.fnStop ..)).done ..)

theorem Keeps.hFnStatus {o l : Lane} (h : Keeps o l) (m : Msg) : Keeps o (Lane.hFnStatus m l).1 := by
  unfold Lane.hFnStatus
  split
  · exact h.refuse ..
  · exact h.done ..

theorem Keeps.batchResult {o : Lane} {r : Lane × Nat} (h : Keeps o r.1) (op : Nat) : Keeps o (Lane.batchResult op r) :=
  h.ite (h.event ..)

theorem Keeps.batchRecord {o l : Lane} (h : Keeps o l) (m : Msg) (k : Nat) : Keeps o (l.batchRecord m k) := by
  unfold Lane.batchRecord
  exact h.ite ((((((h.trySteer ..).batchResult ..).ite h).tryBrake ..).batchResult ..).ite (((h.trySteer ..).batchResult ..).ite h))

theorem Keeps.hFnBatch {o l : Lane} (h : Keeps o l) (m : Msg) : Keeps o (Lane.hFnBatch m l).1 := by
  unfold Lane.hFnBatch
  exact (h.foldl _ (fun m1 k hm => hm.batchRecord ..)).done ..

/-! ### Machine/Redund -/

theorem Keeps.latchRef {o l : Lane} (h : Keeps o l) (j : Nat) (v : Int) (t : Nat) : Keeps o (l.latchRef j v t) := h.upd
theorem Keeps.refCame {o l : Lane} (h : Keeps o l) (t : Nat) : Keeps o (l.refCame t) := h.upd

theorem Keeps.splitStart {o l : Lane} (h : Keeps o l) (live : List Nat) : Keeps o (l.splitStart live) := by
  unfold Lane.splitStart
  exact h.upd.dupStart

theorem Keeps.authCheck {o l : Lane} (h : Keeps o l) : Keeps o l.authCheck := by
  unfold Lane.authCheck
  split
  · exact h.authLost.ite h
  · exact h

theorem Keeps.linkTell {o l : Lane} (h : Keeps o l) : Keeps o l.linkTell := by
  unfold Lane.linkTell
  exact (h.sendBoth ..).ite h

theorem Keeps.linkLost {o l : Lane} (h : Keeps o l) (p : LaneId) : Keeps o (l.linkLost p) := by
  unfold Lane.linkLost
  exact h.ite ((h.setLnk ..).ite (((((((h.setLnk ..).linkTrack).eventU ..).linkTell).splitStart ..).ite (((((h.setLnk ..).linkTrack).eventU ..).linkTell).authCheck)).assess))

theorem Keeps.badBlock {o l : Lane} (h : Keeps o l) (p : LaneId) : Keeps o (l.badBlock p) := by
  unfold Lane.badBlock
  exact h.ite (((h.upd.ite (h.setLnk ..)).linkLost ..).ite (h.upd.ite (h.setLnk ..)))

theorem Keeps.relayBlock {o l : Lane} (h : Keeps o l) (from_ : LaneId) (b : Block) (urgent : Bool) : Keeps o (l.relayBlock from_ b urgent) := by
  unfold Lane.relayBlock
  exact h.ite (h.send ..)

theorem Keeps.actOn {o l : Lane} (h : Keeps o l) (from_ : LaneId) (b : Block) (kind : Nat) {f : LaneId → Lane → Lane} (hf : ∀ p, Keeps o (f p l)) : Keeps o (l.actOn from_ b kind f) :=
  h.ite (h.ite (h.ite (h.ite (hf _))))

theorem Keeps.rxBlock {o₀ l : Lane} (h : Keeps o₀ l) (from_ : LaneId) (b : Block) (urgent : Bool) (kind : Nat) {f : LaneId → Lane → Lane}
    (hf : ∀ p m, Keeps o₀ m → Keeps o₀ (f p m)) : Keeps o₀ (l.rxBlock from_ b urgent kind f) := by
  have taken (k : Link) : Keeps o₀ ((((l.setLnk from_ k).relayBlock from_ b urgent).actOn from_ b kind f)) :=
    (((h.setLnk ..).relayBlock ..)).actOn _ _ _ fun p => hf p _ ((h.setLnk ..).relayBlock ..)
  unfold Lane.rxBlock
  refine h.ite ?_
  dsimp only
  split
  · exact (h.badBlock _).ite (taken _)
  · exact taken _

theorem Keeps.refRx {o l : Lane} (h : Keeps o l) (p : List Byte) (origin : LaneId) : Keeps o (l.refRx p origin) := by
  unfold Lane.refRx
  refine ((h.foldl _ (fun m k hm => ?_)).refCame ..).ite ((h.upd.foldl _ (fun m k hm => ?_)).ite h)
  · split
    · exact hm.latchRef ..
    · exact hm
  · split
    · exact hm.latchRef ..
    · exact hm

theorem Keeps.setDis {o l : Lane} (h : Keeps o l) (x : LaneId) (y : LaneId) (v : List Nat) : Keeps o (l.setDis x y v) := by
  unfold Lane.setDis
  split <;> exact h.upd

theorem Keeps.compare {o l : Lane} (h : Keeps o l) (x : LaneId) (y : LaneId) (c : Nat) (idx : Nat) : Keeps o (l.compare x y c idx) := by
  unfold Lane.compare
  split
  · exact (h.upd.ite h).setDis ..
  · exact h

theorem Keeps.noMajority {o l : Lane} (h : Keeps o l) (c : Nat) (n : Nat) : Keeps o (l.noMajority c n) := by
  unfold Lane.noMajority
  exact (((h.eventU ..).addInst ..).addInst ..).ite ((h.eventU ..).addInst ..)

theorem Keeps.outVote {o l : Lane} (h : Keeps o l) (z : LaneId) (c : Nat) : Keeps o (l.outVote z c) := by
  unfold Lane.outVote
  exact .ite (.failSilent (.lit rfl (h.eventU ..)) ..) (((((((h.eventU ..).setPeer ..).sendTo ..).addInst ..).safetyRequest ..).authLost).ite (((((h.eventU ..).setPeer ..).sendTo ..).addInst ..).assess))

theorem Keeps.voteChain {o l : Lane} (h : Keeps o l) (c : Nat) : Keeps o (l.voteChain c) := by
  unfold Lane.voteChain
  refine h.ite ?_
  dsimp only
  split
  · exact (h.ite ((h.upd.noMajority ..).assess)).ite ((((h.upd.dropInst ..).dropInst ..).outVote ..).ite ((((h.upd.dropInst ..).dropInst ..).outVote ..).ite ((((h.upd.dropInst ..).dropInst ..).outVote ..).ite ((h.ite ((((h.upd.dropInst ..).dropInst ..).eventU ..).assess)).ite (h.ite (((h.upd.dropInst ..).dropInst ..).assess))))))
  · exact (h.ite ((h.upd.noMajority ..).assess)).ite (h.ite (((h.upd.dropInst ..).dropInst ..).assess))
  · exact h

theorem Keeps.voteAll {o l : Lane} (h : Keeps o l) : Keeps o l.voteAll := by
  unfold Lane.voteAll
  exact h.eachOf _ (fun k m hm => hm.voteChain ..)

theorem Keeps.cmpTake {o l : Lane} (h : Keeps o l) (x : LaneId) (idx : Nat) (vs : List (Nat × Int)) : Keeps o (l.cmpTake x idx vs) := by
  unfold Lane.cmpTake
  exact (h.setPeer ..).foldl _ (fun m k hm => (((hm.compare ..).compare ..).voteChain ..).ite ((hm.compare ..).compare ..))

theorem Keeps.voteOutRx {o l : Lane} (h : Keeps o l) (p : List Byte) : Keeps o (l.voteOutRx p) := by
  unfold Lane.voteOutRx
  exact (h.upd.failSilent ..).ite h

theorem Keeps.rejoinSend {o l : Lane} (h : Keeps o l) : Keeps o l.rejoinSend := by
  unfold Lane.rejoinSend
  split
  · exact h.ite (h.upd.sendTo ..)
  · exact h

theorem Keeps.rejoinBegin {o l : Lane} (h : Keeps o l) : Keeps o l.rejoinBegin := by
  unfold Lane.rejoinBegin
  exact ((h.releaseIds ..).rejoinSend).ite h

theorem Keeps.rejoinRestart {o l : Lane} (h : Keeps o l) : Keeps o l.rejoinRestart := by
  unfold Lane.rejoinRestart
  exact h.upd.ite h

theorem Keeps.withdrawRx {o₀ l : Lane} (h : Keeps o₀ l) (p : List Byte) (o : LaneId) : Keeps o₀ (l.withdrawRx p o) := by
  unfold Lane.withdrawRx
  extract_lets v code cause hw l1 l2 _ l3 l4 _ l5
  have h2 : Keeps o₀ l2 := (((h.setPeer ..).addInst ..).ite (h.setPeer ..)).linkTrack
  clear_value l2
  have h3 : Keeps o₀ l3 := h2.upd
  clear_value l3
  have h4 : Keeps o₀ l4 := (h3.safetyRequest _).ite h3
  clear_value l4
  have h5 : Keeps o₀ l5 := h4.rejoinRestart.authLost.ite ((Keeps.upd h3).claimStep.ite h3)
  exact h5.assess

theorem Keeps.sendAck {o₀ l : Lane} (h : Keeps o₀ l) (o : LaneId) (p : List Byte) (ok : Bool) : Keeps o₀ (l.sendAck o p ok) := by
  unfold Lane.sendAck
  exact h.sendTo ..

theorem Keeps.claimRx {o₀ l : Lane} (h : Keeps o₀ l) (p : List Byte) (o : LaneId) : Keeps o₀ (l.claimRx p o) := by
  unfold Lane.claimRx
  exact (h.setPeer ..).ite (((h.setPeer ..).sendAck ..).ite (((((h.upd.sendAck ..).dupEnd).safetyRequest ..).ite (((h.setPeer ..).sendAck ..).claimStep)).ite ((h.setPeer ..).ite h.upd.rejoinBegin)))

theorem Keeps.ackRx {o l : Lane} (h : Keeps o l) (p : List Byte) : Keeps o (l.ackRx p) := by
  unfold Lane.ackRx
  split
  · exact h.ite (h.enterAuthority.assess.ite h.upd)
  · exact h

theorem Keeps.failoverLate {o l : Lane} (h : Keeps o l) : Keeps o l.failoverLate := by
  unfold Lane.failoverLate
  exact (((h.upd.eventU ..).internalFault).ite (h.upd.eventU ..)).ite h

theorem Keeps.pairSlot {o₀ l : Lane} (h : Keeps o₀ l) (k : Nat) (m : Int) (o : LaneId) : Keeps o₀ (l.pairSlot k m o) := by
  unfold Lane.pairSlot
  refine h.ite ?_
  dsimp only
  split
  · exact h
  · exact ((((h.setStepper ..).setStepper ..).eventU ..).genPush ..).ite (h.setStepper ..)

theorem Keeps.setpointRx {o l : Lane} (h : Keeps o l) (p : List Byte) : Keeps o (l.setpointRx p) := by
  unfold Lane.setpointRx
  refine h.ite ?_
  split
  · exact h.trySteer ..
  · exact h.tryBrake ..
  · exact h.trySlack ..
  · exact h.trySpring ..
  · exact h.tryRetard ..
  · exact h

theorem Keeps.mirPut {o l : Lane} (h : Keeps o l) (d : Nat) (v : W32) : Keeps o (l.mirPut d v) := by
  unfold Lane.mirPut
  dsimp only
  split
  · exact (h.setLoop ..).ite h
  · exact (h.setGen ..).ite h
  · exact h.ite (h.upd.steerMove ..)
  · exact h.setWheel ..
  · exact h.upd
  · exact h.upd
  · refine h.ite ?_
    split
    · exact h.sbSet ..
    · exact .cellFollow (.lit rfl h.sbTestEnd)
  · exact h.setWheel ..
  · exact h.ite h.upd
  · exact h.upd.ite h.upd
  · exact h.upd
  · exact h.upd
  · exact h.upd
  · exact h

theorem Keeps.inheritInst {o l : Lane} (h : Keeps o l) : Keeps o l.inheritInst := by
  unfold Lane.inheritInst
  refine h.eachOf _ (fun k m hm => ?_)
  split
  · exact (hm.addInst ..).ite hm
  · exact hm

theorem Keeps.blocksTaken {o l : Lane} (h : Keeps o l) : Keeps o l.blocksTaken := h.upd

theorem Keeps.blockPut {o l : Lane} (h : Keeps o l) (n : Nat) (from_ : LaneId) (b : Block) : Keeps o (l.blockPut n from_ b).1 := by
  unfold Lane.blockPut
  dsimp only
  split
  · exact h.qDropNew ..
  · exact h.qOverwrite ..

theorem Keeps.mirLoad {o l : Lane} (h : Keeps o l) : Keeps o l.mirLoad := by
  unfold Lane.mirLoad
  exact ((h.upd.foldl _ (fun m k hm => hm.mirPut ..)).inheritInst).ite (h.upd.ite (h.upd.eventU ..))

theorem Keeps.mirrorRx {o₀ l : Lane} (h : Keeps o₀ l) (from_ : LaneId) (b : Block) (o : LaneId) : Keeps o₀ (l.mirrorRx from_ b o) := by
  unfold Lane.mirrorRx
  exact (h.blockPut ..).ite (.ite (.lit rfl (h.blockPut ..)) (.lit rfl (h.blockPut ..)))

theorem Keeps.statusTake {o l : Lane} (h : Keeps o l) (w : W32) : Keeps o (l.statusTake w) := by
  unfold Lane.statusTake
  exact (h.upd.sbSet ..).ite (h.upd.ite h.upd)

theorem Keeps.healthRx {o₀ l : Lane} (h : Keeps o₀ l) (from_ : LaneId) (b : Block) (o : LaneId) : Keeps o₀ (l.healthRx from_ b o) := by
  unfold Lane.healthRx
  extract_lets l1 p v hw st was back l2 l3 l4 _ _ l5 fresh _ l6 l7 l8 l9 l10
  have h2 : Keeps o₀ l2 := (h.blockPut ..).setPeer ..
  have h3 : Keeps o₀ l3 := by
    unfold l3
    split
    · exact h2.chopReport ..
    · exact h2
  have h4 : Keeps o₀ l4 := ((h3.dropLane _).ite h3).linkTrack
  clear_value l4
  have hr : Keeps o₀ (l4.releaseIds [0xA122]) := h4.releaseIds _
  have h5 : Keeps o₀ l5 := (Keeps.upd hr).ite h4
  have h6 : Keeps o₀ l6 := h5.upd
  have h7 : Keeps o₀ l7 := h6.dupEnd.ite h6
  have h8 : Keeps o₀ l8 := h7.statusTake _
  have h9 : Keeps o₀ l9 := (h8.rejoinRestart.rejoinBegin.ite h8.rejoinBegin).ite h5
  have h10 : Keeps o₀ l10 := h9.takeSafeAll.ite h9
  exact h10.authCheck.claimStep.assess

theorem Keeps.idCompare {o l : Lane} (h : Keeps o l) : Keeps o l.idCompare := by
  unfold Lane.idCompare
  refine h.ite (h.upd.ite ?_)
  split
  · exact h.ite (h.upd.event ..)
  · exact h

theorem Keeps.cfgCompare {o l : Lane} (h : Keeps o l) (ok : Bool) : Keeps o (l.cfgCompare ok) := by
  unfold Lane.cfgCompare
  exact h.upd.ite (h.ite (h.upd.eventU ..))

theorem Keeps.rejoinFail {o l : Lane} (h : Keeps o l) : Keeps o l.rejoinFail := by
  unfold Lane.rejoinFail
  exact (h.upd.eventU ..).ite h.upd.rejoinSend

theorem Keeps.resyncReq {o₀ l : Lane} (h : Keeps o₀ l) (o : LaneId) : Keeps o₀ (l.resyncReq o) := by
  unfold Lane.resyncReq
  exact h.ite ((h.setPeer ..).sendTo ..)

theorem Keeps.shakeReq {o l : Lane} (h : Keeps o l) (from_ : LaneId) : Keeps o (l.shakeReq from_) := by
  unfold Lane.shakeReq
  exact (h.setLnk ..).send ..

theorem Keeps.chrysRejoin {o l : Lane} (h : Keeps o l) (cycle : Nat) : Keeps o (l.chrysRejoin cycle) := by
  unfold Lane.chrysRejoin
  split
  · exact h
  · exact h.upd.event ..

theorem Keeps.resyncAck {o₀ l : Lane} (h : Keeps o₀ l) (p : List Byte) (o : LaneId) : Keeps o₀ (l.resyncAck p o) := by
  unfold Lane.resyncAck
  exact h.ite (.ite (.lit rfl (((h.chrysRejoin ..).idCompare).cfgCompare ..)) ((((h.chrysRejoin ..).idCompare).cfgCompare ..).rejoinFail))

theorem Keeps.rejoinPeriod {o l : Lane} (h : Keeps o l) (complete : Bool) : Keeps o (l.rejoinPeriod complete) := by
  unfold Lane.rejoinPeriod
  exact h.ite (.ite (.eventU (.lit rfl (h.upd.enterShadow.releaseIds ..)) ..) (h.upd.rejoinFail.ite h.upd))

theorem Keeps.modesBack {o l : Lane} (h : Keeps o l) (ws : List W32) : Keeps o (l.modesBack ws) := h.upd

theorem Keeps.chrysStart {o l : Lane} (h : Keeps o l) : Keeps o l.chrysStart := by
  unfold Lane.chrysStart
  split
  · exact h
  · dsimp only
    split
    · exact h.upd.ite (.event (.ite (.lit rfl ((h.upd.foldl _ (fun m k hm => hm.mirPut ..)).modesBack ..)) ((h.upd.foldl _ (fun m k hm => hm.mirPut ..)).modesBack ..)) ..)
    · exact h.upd

theorem Keeps.moduleStart {o l : Lane} (h : Keeps o l) : Keeps o l.moduleStart := by
  unfold Lane.moduleStart
  exact h.ite (.ite (.assess (.claimStep (.dupStart (.lit rfl (((h.idCompare.cfgCompare ..).chrysStart).enterShadow))))) (h.idCompare.cfgCompare ..))

theorem Keeps.linkBack {o l : Lane} (h : Keeps o l) (p : LaneId) : Keeps o (l.linkBack p) := by
  unfold Lane.linkBack
  exact h.ite ((h.send ..).ite ((((((h.setLnk ..).linkTrack).eventU ..).enterSync).ite (((h.setLnk ..).linkTrack).eventU ..)).assess))

theorem Keeps.splitState {o l : Lane} (h : Keeps o l) (x : Split) : Keeps o (l.splitState x) := by
  unfold Lane.splitState
  dsimp only
  split
  · exact (h.dupEnd.ite h.dupStart.claimStep).ite (h.enterFollower.ite h.enterIsland)
  · exact (h.enterFollower.ite (h.enterIsland.ite (h.dupEnd.ite h.enterFollower))).ite ((h.enterIsland.ite (h.dupEnd.ite h.enterAuthority)).ite h.enterIsland)

theorem Keeps.splitDecide {o l : Lane} (h : Keeps o l) : Keeps o l.splitDecide := by
  unfold Lane.splitDecide
  split
  · exact ((((h.upd.splitState ..).enterSync).ite (h.upd.splitState ..)).assess).ite h
  · exact h

theorem Keeps.followerAge {o l : Lane} (h : Keeps o l) : Keeps o l.followerAge := by
  unfold Lane.followerAge
  exact h.enterIsland.ite h

theorem Keeps.graceEnd {o l : Lane} (h : Keeps o l) : Keeps o l.graceEnd := by
  unfold Lane.graceEnd
  exact (((h.upd.setCell ..).ite h.upd).eventU ..).ite h

theorem Keeps.ownRefs {o l : Lane} (h : Keeps o l) : Keeps o l.ownRefs := h.upd

theorem Keeps.sendList {o l : Lane} (h : Keeps o l) (p : LaneId) (urgent : Bool) (kind : Nat) (bs : List (List Byte)) : Keeps o (l.sendList p urgent kind bs) := by
  unfold Lane.sendList
  exact h.foldl _ (fun m k hm => hm.sendTo ..)

theorem Keeps.authPeriod {o l : Lane} (h : Keeps o l) : Keeps o l.authPeriod := by
  unfold Lane.authPeriod
  exact (((h.foldl _ (fun m k hm => hm.latchRef ..)).refCame ..).foldl _ (fun m k hm => hm.sendList ..)).foldl _ (fun m k hm => hm.sendList ..)

theorem Keeps.cmpPeriod {o l : Lane} (h : Keeps o l) : Keeps o l.cmpPeriod := by
  unfold Lane.cmpPeriod
  exact (h.foldl _ (fun m k hm => hm.sendList ..)).cmpTake ..

theorem Keeps.healthSend {o l : Lane} (h : Keeps o l) : Keeps o l.healthSend := by
  unfold Lane.healthSend
  exact (h.upd.ite h.upd).sendBoth ..

theorem Keeps.pairSend {o l : Lane} (h : Keeps o l) : Keeps o l.pairSend := by
  unfold Lane.pairSend
  refine h.each _ (fun k m hm => ?_)
  split
  · exact hm.ite (hm.upd.sendTo ..)
  · exact hm

theorem Keeps.outerSequence {o l : Lane} (h : Keeps o l) (ds : List (Option DsRes)) : Keeps o (l.outerSequence ds) := by
  unfold Lane.outerSequence
  refine h.ite ?_
  extract_lets step3 complete l1 _ _ l2 _ l3 l4 l5 l6 l7 l8 l9 l10
  have h1 : Keeps o l1 := h.mirLoad.ite h
  clear_value l1
  have h2 : Keeps o l2 := h1.blocksTaken.upd
  clear_value l2
  have h3 : Keeps o l3 := h2.upd
  clear_value l3
  have h4 : Keeps o l4 := (h3.failSilent 4).ite h3
  have h5 : Keeps o l5 := h4.outerLoops ds
  have h6 : Keeps o l6 := h5.ownRefs
  have h7 : Keeps o l7 := h6.authPeriod.ite h6
  have h8 : Keeps o l8 := h7.voteAll.ite h7
  have h9 : Keeps o l9 := h8.cmpPeriod.ite h8
  have h10 : Keeps o l10 := (h9.rejoinPeriod _).ite h9
  exact h4.ite (h5.ite (h10.ite h10.pairSend.healthSend))

theorem Keeps.hRedStatus {o l : Lane} (h : Keeps o l) : Keeps o (l.hRedStatus).1 := h.upd

theorem Keeps.hRedFaultClear {o l : Lane} (h : Keeps o l) (m : Msg) : Keeps o (Lane.hRedFaultClear m l).1 := by
  unfold Lane.hRedFaultClear
  exact h.guarded _ (h.upd.assess.done ..)

/-! ### Machine/Icbex -/

theorem Keeps.setChan {o l : Lane} (h : Keeps o l) (k : Nat) (c : Chan) : Keeps o (l.setChan k c) := h.upd
theorem Keeps.sendFrame {o l : Lane} (h : Keeps o l) (port : Nat) (x : Fr) (payload : List Byte) : Keeps o (l.sendFrame port x payload) := h.upd
theorem Keeps.bump {o l : Lane} (h : Keeps o l) (n : Nat) (f : RxCnt → RxCnt) : Keeps o (l.bump n f) := h.upd

theorem Keeps.checkEvent {o l : Lane} (h : Keeps o l) (check : Nat) (sender : Nat) (code : Nat) : Keeps o (l.checkEvent check sender code) := by
  unfold Lane.checkEvent
  exact h.ite (h.upd.eventU ..)

theorem Keeps.failCheck {o l : Lane} (h : Keeps o l) (check : Nat) (sender : Option Nat) : Keeps o (l.failCheck check sender) := by
  unfold Lane.failCheck
  dsimp only
  split
  · refine .checkEvent (.bump ?_ ..) ..
    split
    · exact (h.bump ..).ite h
    · exact h
  · refine .checkEvent (.bump ?_ ..) ..
    split
    · exact (h.bump ..).ite h
    · exact h
  · refine .checkEvent (.bump ?_ ..) ..
    split
    · exact (h.bump ..).ite h
    · exact h
  · refine .checkEvent (.bump ?_ ..) ..
    split
    · exact (h.bump ..).ite h
    · exact h
  · refine .checkEvent (.bump ?_ ..) ..
    split
    · exact (h.bump ..).ite h
    · exact h
  · refine .bump ?_ ..
    split
    · exact (h.bump ..).ite h
    · exact h

theorem Keeps.authCount {o l : Lane} (h : Keeps o l) (x : Fr) (fail : Bool) : Keeps o (l.authCount x fail) := by
  unfold Lane.authCount
  exact (h.setChan ..).ite h

theorem Keeps.rxMark {o l : Lane} (h : Keeps o l) (f : RxFrame) (x : Fr) : Keeps o (l.rxMark f x) := by
  unfold Lane.rxMark
  exact h.upd.ite (((h.setChan ..).bump ..).bump ..)

theorem Keeps.ownBack {o l : Lane} (h : Keeps o l) (f : RxFrame) (x : Fr) : Keeps o (l.ownBack f x) := by
  unfold Lane.ownBack
  exact .ite (.ite (.lit rfl (h.upd.ite h.upd)) (h.upd.ite h.upd)) h

theorem Keeps.rxOwn {o l : Lane} (h : Keeps o l) (f : RxFrame) (tys : List Nat) {act : Lane → Fr → Lane} (hf : ∀ m x, Keeps o m → Keeps o (act m x)) : Keeps o (l.rxOwn f tys act) := by
  have counted (x : Fr) (c k : Bool) : Keeps o (if c then l.authCount x k else l) := (h.authCount ..).ite h
  unfold Lane.rxOwn
  exact h.ite ((h.ownBack ..).ite (h.ite (h.ite (((hf _ _ ((counted ..).rxMark ..)).ite (counted ..)).ite ((counted ..).failCheck ..)))))

theorem Keeps.setOwn {o l : Lane} (h : Keeps o l) (k : Nat) (x : OwnSlot) : Keeps o (l.setOwn k x) := h.upd

theorem Keeps.appBytes {o l : Lane} (h : Keeps o l) (k : Nat) : Keeps o (l.appBytes k).1 := by
  unfold Lane.appBytes
  split
  · exact h
  · exact h.upd

theorem Keeps.appTake {o l : Lane} (h : Keeps o l) (k : Nat) (at_ : Nat) : Keeps o (l.appTake k at_) := by
  unfold Lane.appTake
  refine ((h.appBytes ..).setOwn ..).ite ?_
  split
  · exact (h.qDropN ..).setOwn ..
  · exact ((h.setOwn ..).eventU ..).ite (h.setOwn ..)

theorem Keeps.guardCut {o l : Lane} (h : Keeps o l) (own : Bool) : Keeps o (l.guardCut own) := by
  unfold Lane.guardCut
  exact .ite (.ite (.lit rfl (h.eventU ..)) (.lit rfl (h.eventU ..))) (h.eventU ..)

theorem Keeps.grdSee {o l : Lane} (h : Keeps o l) (base : Nat) : Keeps o (l.grdSee base) := h.upd
theorem Keeps.sendStatic {o l : Lane} (h : Keeps o l) (x : Fr) (payload : List Byte) : Keeps o (l.sendStatic x payload) := h.upd

theorem Keeps.insertStatic {o l : Lane} (h : Keeps o l) (slot : Nat) : Keeps o (l.insertStatic slot) := by
  unfold Lane.insertStatic
  exact h.ite (h.ite ((h.upd.guardCut ..).ite (.ite (.sendStatic (.lit rfl ((h.upd.grdSee ..).ite h.upd)) ..) (.sendStatic (.speedRequest (.lit rfl (h.upd.appTake ..))) ..))))

theorem Keeps.dynCount {o l : Lane} (h : Keeps o l) (n : Nat) : Keeps o (l.dynCount n) := h.upd

theorem Keeps.sendNotice {o l : Lane} (h : Keeps o l) (slot : Nat) : Keeps o (l.sendNotice slot) := by
  unfold Lane.sendNotice
  exact ((h.upd.dynCount ..).sendFrame ..).ite ((h.upd.dynCount ..).guardCut ..)

theorem Keeps.dynStart {o l : Lane} (h : Keeps o l) (slot : Nat) (payload : List Byte) : Keeps o (l.dynStart slot payload) := by
  unfold Lane.dynStart
  refine (h.sendNotice ..).ite (h.ite (.ite (.sendFrame (.dynCount (.netPump ?_ ..) ..) ..) (.guardCut (.dynCount (.netPump ?_ ..) ..) ..)))
  · split
    · exact h.qDropN ..
    · exact h
  · split
    · exact h.qDropN ..
    · exact h

theorem Keeps.relay {o l : Lane} (h : Keeps o l) (f : RxFrame) : Keeps o (l.relay f) := by
  unfold Lane.relay
  refine h.ite ?_
  split
  · exact h
  · refine h.ite (h.ite ?_)
    split
    · exact h.guardCut ..
    · exact (h.upd.guardCut ..).ite h.upd

theorem Keeps.phaseAlign {o l : Lane} (h : Keeps o l) : Keeps o l.phaseAlign := by
  unfold Lane.phaseAlign
  exact h.ite (((h.setTb ..).ite (h.setTb ..)).eachOf _ (fun k m hm => hm.followTb ..))

theorem Keeps.reintegrate {o l : Lane} (h : Keeps o l) : Keeps o l.reintegrate := h.upd

theorem Keeps.csDone {o l : Lane} (h : Keeps o l) (status : Nat) : Keeps o (l.csDone status) := by
  unfold Lane.csDone
  exact h.upd.completeOpt ..

theorem Keeps.netSynced {o l : Lane} (h : Keeps o l) (status : Nat) : Keeps o (l.netSynced status) := by
  unfold Lane.netSynced
  exact h.upd.csDone ..

theorem Keeps.netPassive {o l : Lane} (h : Keeps o l) : Keeps o l.netPassive := h.upd

theorem Keeps.reasmAll {o l : Lane} (h : Keeps o l) : Keeps o l.reasmAll := by
  unfold Lane.reasmAll
  exact h.upd.foldl _ (fun m k hm => hm.reasmFail ..)

theorem Keeps.channelLoss {o l : Lane} (h : Keeps o l) : Keeps o l.channelLoss := by
  unfold Lane.channelLoss
  exact (((h.upd.eventU ..).reasmAll).assess).ite (h.upd.assess.ite h.upd)

theorem Keeps.quorum {o l : Lane} (h : Keeps o l) : Keeps o l.quorum := by
  unfold Lane.quorum
  exact h.ite (.lit rfl (((h.upd.eventU ..).assess).ite (((h.upd.eventU ..).assess).ite h.upd)))

theorem Keeps.claims {o l : Lane} (h : Keeps o l) : Keeps o l.claims := by
  unfold Lane.claims
  refine h.upd.ite (h.upd.ite ?_)
  dsimp only
  split
  · split <;> exact h.upd
  · exact h.upd
  · exact h.upd.eventU ..
  · exact h.upd.ite h.upd
  · exact h.upd

theorem Keeps.epochStart {o l : Lane} (h : Keeps o l) (k : Nat) (own : Nat) : Keeps o (l.epochStart k own) := by
  unfold Lane.epochStart
  dsimp only
  split
  · exact (((h.setChan ..).eventU ..).completeOpt ..).ite h
  · exact h

theorem Keeps.seenPrune {o l : Lane} (h : Keeps o l) (k : Nat) (own : Nat) : Keeps o (l.seenPrune k own) := h.upd

theorem Keeps.cycleBlocks {o l : Lane} (h : Keeps o l) : Keeps o l.cycleBlocks := by
  unfold Lane.cycleBlocks
  exact h.ite (h.sendBoth ..)

theorem Keeps.skewTest {o l : Lane} (h : Keeps o l) : Keeps o l.skewTest := by
  unfold Lane.skewTest
  exact (h.upd.eventU ..).ite h.upd

theorem Keeps.adoptCand {o l : Lane} (h : Keeps o l) (x : Nat × Nat × Nat × Nat) : Keeps o (l.adoptCand x) := h.upd

theorem Keeps.netStep {o l : Lane} (h : Keeps o l) : Keeps o l.netStep := by
  unfold Lane.netStep
  refine h.upd.reintegrate.ite ?_
  split
  · exact h.reintegrate
  · exact (h.netSynced ..).ite h
  · refine ((h.netSynced ..).eventU ..).ite (.ite ?_ (h.netListen.ite h))
    split
    · exact (h.adoptCand ..).ite h.netListen
    · exact h.netListen
  · exact ((h.eventU ..).netPassive).ite h
  · exact h

theorem Keeps.linkJoin {o l : Lane} (h : Keeps o l) : Keeps o l.linkJoin := by
  unfold Lane.linkJoin
  split
  · exact (h.upd.eventU ..).ite h
  · exact h

theorem Keeps.healthRecord {o l : Lane} (h : Keeps o l) : Keeps o l.healthRecord := by
  unfold Lane.healthRecord
  exact h.qOverwrite ..

theorem Keeps.adoptEnd {o l : Lane} (h : Keeps o l) : Keeps o l.adoptEnd := by
  unfold Lane.adoptEnd
  exact h.when _ h.upd

theorem Keeps.cycleStart {o l : Lane} (h : Keeps o l) : Keeps o l.cycleStart := by
  unfold Lane.cycleStart
  refine h.ite ?_
  extract_lets l1 start _ l2 c l3 own _ l4 l5 _ l6 ok _ l7 l8
  have h1 : Keeps o l1 := h.releaseIds _
  have h2 : Keeps o l2 := h1.upd
  have h3 : Keeps o l3 := h2.linkJoin.claims.quorum
  have h4 : Keeps o l4 := h3.upd
  have h5 : Keeps o l5 := h4.adoptEnd.netStep.channelLoss
  have h6 : Keeps o l6 := h5.upd
  have h7 : Keeps o l7 := h6.upd
  have h8 : Keeps o l8 := ((h7.seenPrune ..).epochStart ..).epochStart ..
  exact h8.phaseAlign.cycleBlocks.skewTest.healthRecord.respFlush

theorem Keeps.nit {o l : Lane} (h : Keeps o l) : Keeps o l.nit := by
  unfold Lane.nit
  refine h.ite (.lit rfl ?_)
  split
  · refine .ite (.netPassive (.eventU ?_ ..)) ?_
    · split
      · exact ((h.upd.eventU ..).ite h.upd).ite h.upd
      · exact .ite (.eventU (.lit rfl ((h.upd.eventU ..).ite h.upd)) ..) (.lit rfl ((h.upd.eventU ..).ite h.upd))
    · split
      · exact ((h.upd.eventU ..).ite h.upd).ite h.upd
      · exact .ite (.eventU (.lit rfl ((h.upd.eventU ..).ite h.upd)) ..) (.lit rfl ((h.upd.eventU ..).ite h.upd))
  · split
    · exact ((h.upd.eventU ..).ite h.upd).ite h.upd
    · exact .ite (.eventU (.lit rfl ((h.upd.eventU ..).ite h.upd)) ..) (.lit rfl ((h.upd.eventU ..).ite h.upd))

theorem Keeps.delayPoll {o l : Lane} (h : Keeps o l) : Keeps o l.delayPoll := by
  unfold Lane.delayPoll
  split
  · exact h
  · exact h.ite (h.upd.ite (h.ite ((h.upd.sendFrame ..).ite (h.upd.guardCut ..))))

theorem Keeps.delayReq {o l : Lane} (h : Keeps o l) (f : RxFrame) : Keeps o (l.delayReq f) := by
  unfold Lane.delayReq
  refine h.ite ?_
  split <;> exact (h.guardCut ..).ite (.lit rfl h.freeNat)

theorem Keeps.delayResp {o l : Lane} (h : Keeps o l) (f : RxFrame) : Keeps o (l.delayResp f) := by
  unfold Lane.delayResp
  exact h.ite (h.upd.ite h.upd)

theorem Keeps.adopt {o l : Lane} (h : Keeps o l) (x : Fr) (f : RxFrame) : Keeps o (l.adopt x f) := h.upd
theorem Keeps.ffTake {o l : Lane} (h : Keeps o l) (x : Fr) (d : Int) : Keeps o (l.ffTake x d) := h.upd

theorem Keeps.ffUse {o l : Lane} (h : Keeps o l) (x : Fr) (d : Int) : Keeps o (l.ffUse x d) := by
  unfold Lane.ffUse
  split
  · exact h.ite (h.ffTake ..)
  · exact h.ffTake ..

theorem Keeps.ffListen {o l : Lane} (h : Keeps o l) (x : Fr) (f : RxFrame) : Keeps o (l.ffListen x f) := by
  unfold Lane.ffListen
  exact ((h.netListen.ite h).eventU ..).ite (((h.netListen.ite h).eventU ..).ite ((h.adopt ..).grdSee ..))

theorem Keeps.ffRx {o l : Lane} (h : Keeps o l) (f : RxFrame) (x : Fr) : Keeps o (l.ffRx f x) := by
  unfold Lane.ffRx
  dsimp only
  split
  · exact h.upd.ffListen ..
  · exact h.upd
  · exact h.upd
  · exact (h.upd.ffListen ..).ite (((h.upd.eventU ..).ffListen ..).ite h.upd)
  · exact (h.upd.ffListen ..).ite ((h.upd.grdSee ..).ite (h.upd.ite ((h.upd.grdSee ..).ite (.ite (.lit rfl ((h.upd.grdSee ..).ffUse ..)) ((h.upd.grdSee ..).netListen)))))
  · exact ((h.upd.eventU ..).ffListen ..).ite ((h.upd.grdSee ..).ite ((h.upd.grdSee ..).ffUse ..))

theorem Keeps.ffOutside {o l : Lane} (h : Keeps o l) (f : RxFrame) : Keeps o (l.ffOutside f) := by
  unfold Lane.ffOutside
  refine h.ite ?_
  split
  · exact h.upd.ite h
  · exact h

theorem Keeps.joinJudge {o l : Lane} (h : Keeps o l) (f : RxFrame) (x : Fr) : Keeps o (l.joinJudge f x) := by
  unfold Lane.joinJudge
  exact (h.upd.ite h).ite ((h.upd.ite h.upd).ite h)

theorem Keeps.joinSee {o l : Lane} (h : Keeps o l) (f : RxFrame) : Keeps o (l.joinSee f) := by
  unfold Lane.joinSee
  exact (h.joinJudge ..).ite (h.failCheck ..)

theorem Keeps.busBase {o l : Lane} (h : Keeps o l) (f : RxFrame) : Keeps o (l.busBase f) := by
  unfold Lane.busBase
  exact h.upd.ite h

theorem Keeps.fireflyIn {o l : Lane} (h : Keeps o l) (f : RxFrame) : Keeps o (l.fireflyIn f) := by
  unfold Lane.fireflyIn
  exact h.ite ((h.joinSee ..).ite (((h.busBase ..).ffOutside ..).rxOwn _ _ (fun m k hm => hm.ffRx ..)))

theorem Keeps.listenOver {o l : Lane} (h : Keeps o l) : Keeps o l.listenOver := by
  unfold Lane.listenOver
  exact (h.netStart ..).ite h

theorem Keeps.staticRx {o l : Lane} (h : Keeps o l) (f : RxFrame) (x : Fr) : Keeps o (l.staticRx f x) := by
  unfold Lane.staticRx
  exact .ite (.lit rfl (((h.upd.foldl _ (fun m k hm => hm.qOverwrite ..)).netSynced ..).ite (h.upd.foldl _ (fun m k hm => hm.qOverwrite ..)))) (((h.upd.foldl _ (fun m k hm => hm.qOverwrite ..)).netSynced ..).ite (h.upd.foldl _ (fun m k hm => hm.qOverwrite ..)))

theorem Keeps.hostStatus {o l : Lane} (h : Keeps o l) (f : RxFrame) (x : Fr) : Keeps o (l.hostStatus f x) := by
  unfold Lane.hostStatus
  exact .lit rfl (h.staticRx ..)

theorem Keeps.claimBack {o l : Lane} (h : Keeps o l) : Keeps o l.claimBack := by
  unfold Lane.claimBack
  exact .eventU (.lit rfl h.freeNat) ..

theorem Keeps.claimFrame {o l : Lane} (h : Keeps o l) (f : RxFrame) : Keeps o (l.claimFrame f) := by
  unfold Lane.claimFrame
  exact h.upd.ite (h.upd.claimBack.ite h.upd)

theorem Keeps.watchEnd {o l : Lane} (h : Keeps o l) : Keeps o l.watchEnd := by
  unfold Lane.watchEnd
  exact (((((h.upd.dynCount ..).sendFrame ..).claimBack).ite ((h.upd.dynCount ..).sendFrame ..)).ite (h.upd.guardCut ..)).ite h

theorem Keeps.rejoinRx {o l : Lane} (h : Keeps o l) (x : Fr) : Keeps o (l.rejoinRx x) := by
  unfold Lane.rejoinRx
  exact h.upd.ite h

theorem Keeps.mailboxRx {o l : Lane} (h : Keeps o l) (f : RxFrame) (x : Fr) : Keeps o (l.mailboxRx f x) := by
  unfold Lane.mailboxRx
  exact h.ite (h.segment ..)

theorem Keeps.netLinkDown {o l : Lane} (h : Keeps o l) (port : Nat) : Keeps o (l.netLinkDown port) := by
  unfold Lane.netLinkDown
  exact (h.upd.eventU ..).ite h.upd

theorem Keeps.netLinkUp {o l : Lane} (h : Keeps o l) (port : Nat) : Keeps o (l.netLinkUp port) := by
  unfold Lane.netLinkUp
  exact h.ite (h.upd.ite (h.upd.eventU ..))

theorem Keeps.cycleBlock {o₀ l : Lane} (h : Keeps o₀ l) (p : List Byte) (o : LaneId) : Keeps o₀ (l.cycleBlock p o) := by
  unfold Lane.cycleBlock
  exact h.upd.skewTest.ite (.ite (.phaseAlign (.lit rfl h.upd.skewTest)) (.phaseAlign (.lit rfl h.upd.skewTest)))

theorem Keeps.tapData {o l : Lane} (h : Keeps o l) (f : RxFrame) (x : Fr) : Keeps o (l.tapData f x) := by
  unfold Lane.tapData
  refine .ite (.enterSync (.ite (.foldl (.lit rfl (((h.upd.setPeer ..).statusTake ..).ite (h.upd.setPeer ..))) _ (fun m k hm => ?_)) (((h.upd.setPeer ..).statusTake ..).ite (h.upd.setPeer ..)))) (.ite (.foldl (.lit rfl (((h.upd.setPeer ..).statusTake ..).ite (h.upd.setPeer ..))) _ (fun m k hm => ?_)) (((h.upd.setPeer ..).statusTake ..).ite (h.upd.setPeer ..)))
  · split
    · exact hm.latchRef ..
    · exact hm
  · split
    · exact hm.latchRef ..
    · exact hm

theorem Keeps.tapRx {o l : Lane} (h : Keeps o l) (f : RxFrame) : Keeps o (l.tapRx f) := by
  unfold Lane.tapRx
  exact h.ite ((h.failCheck ..).ite ((((h.upd.bump ..).bump ..).tapData ..).ite ((h.upd.bump ..).bump ..)))

theorem Keeps.hNetStatus {o l : Lane} (h : Keeps o l) (m : Msg) : Keeps o (Lane.hNetStatus m l).1 := by
  unfold Lane.hNetStatus
  dsimp only
  split
  · exact h.refuse ..
  · exact h.done ..

theorem Keeps.hNetColdstart {o l : Lane} (h : Keeps o l) (m : Msg) : Keeps o (Lane.hNetColdstart m l).1 := by
  unfold Lane.hNetColdstart
  exact h.guarded _ (.accept (.lit rfl (h.when _ h.netListen)) ..)

theorem Keeps.hNetTxSrcSet {o l : Lane} (h : Keeps o l) (m : Msg) : Keeps o (Lane.hNetTxSrcSet m l).1 := by
  unfold Lane.hNetTxSrcSet
  dsimp only
  split
  · exact h.guarded _ ((h.setOwn ..).done ..)
  · exact h.refuse ..

theorem Keeps.hNetKeyEpoch {o l : Lane} (h : Keeps o l) (m : Msg) : Keeps o (Lane.hNetKeyEpoch m l).1 := by
  unfold Lane.hNetKeyEpoch
  exact h.guarded _ (((h.releaseIds ..).setChan ..).accept ..)

theorem Keeps.hNetWake {o l : Lane} (h : Keeps o l) : Keeps o (l.hNetWake).1 := h.upd

/-! ### Machine/Ports -/

theorem Keeps.canAccept {o l : Lane} (h : Keeps o l) (port : Nat) (host : Nat) (kind : Nat) (v : Nat) : Keeps o (l.canAccept port host kind v) := h.upd

theorem Keeps.canBad {o l : Lane} (h : Keeps o l) (host : Nat) : Keeps o (l.canBad host) := by
  unfold Lane.canBad
  exact (h.bump ..).checkEvent ..

theorem Keeps.canCommand {o l : Lane} (h : Keeps o l) (f : CanRx) : Keeps o (l.canCommand f) := by
  unfold Lane.canCommand
  exact h.ite ((h.canBad ..).ite (((h.bump ..).checkEvent ..).ite (((h.bump ..).checkEvent ..).ite (((h.bump ..).checkEvent ..).ite ((((h.canAccept ..).setCan ..).checkEvent ..).ite (((h.canAccept ..).setCan ..).segment ..))))))

theorem Keeps.canRx {o l : Lane} (h : Keeps o l) (f : CanRx) : Keeps o (l.canRx f) := by
  unfold Lane.canRx
  exact h.ite ((h.canBad ..).ite (h.canCommand ..))

theorem Keeps.canBusOff {o l : Lane} (h : Keeps o l) (p : Nat) : Keeps o (l.canBusOff p) := by
  unfold Lane.canBusOff
  exact h.ite (((((h.setCan ..).eventU ..).setCan ..).eventU ..).ite ((h.setCan ..).eventU ..))

theorem Keeps.hNetCanRestart {o l : Lane} (h : Keeps o l) (m : Msg) : Keeps o (Lane.hNetCanRestart m l).1 := by
  unfold Lane.hNetCanRestart
  exact h.guarded _ ((h.setCan ..).done ..)

theorem Keeps.canStatus {o l : Lane} (h : Keeps o l) (p : Nat) : Keeps o (l.canStatus p) := by
  unfold Lane.canStatus
  exact h.ite (((h.setCan ..).speedRequest).canSend ..)

theorem Keeps.setDl {o l : Lane} (h : Keeps o l) (k : Nat) (x : DLink) : Keeps o (l.setDl k x) := h.upd

theorem Keeps.dlSend {o l : Lane} (h : Keeps o l) (k : Nat) : Keeps o (l.dlSend k) := by
  unfold Lane.dlSend
  exact h.ite (((h.upd.ite h).qPass ..).setDl ..)

theorem Keeps.dlBad {o l : Lane} (h : Keeps o l) (k : Nat) : Keeps o (l.dlBad k) := by
  unfold Lane.dlBad
  exact (h.setDl ..).ite (((h.setDl ..).setDl ..).eventU ..)

theorem Keeps.dlData {o l : Lane} (h : Keeps o l) (k : Nat) (b : List Byte) (next : Bool) : Keeps o (l.dlData k b next) := by
  unfold Lane.dlData
  exact .lit rfl ((((h.qPass ..).setDl ..).eventU ..).ite ((h.qPass ..).setDl ..))

theorem Keeps.dlRx {o l : Lane} (h : Keeps o l) (k : Nat) (b : List Byte) : Keeps o (l.dlRx k b) := by
  unfold Lane.dlRx
  refine h.ite ((h.dlBad ..).ite ?_)
  split
  · exact h.dlData ..
  · exact (h.setDl ..).ite ((h.dlData ..).ite (h.dlBad ..))

theorem Keeps.dlLoss {o l : Lane} (h : Keeps o l) (k : Nat) : Keeps o (l.dlLoss k) := by
  unfold Lane.dlLoss
  exact ((h.setDl ..).eventU ..).ite h

/-! ### Machine/Memory -/

theorem Keeps.cutOwn {o l : Lane} (h : Keeps o l) : Keeps o l.cutOwn := h.upd

theorem Keeps.lockstep {o l : Lane} (h : Keeps o l) (cycles : Nat) (group : Nat) : Keeps o (l.lockstep cycles group) := by
  unfold Lane.lockstep
  exact h.ite ((((h.upd.aonEvent ..).tripOn ..).cutOwn).failSilent ..)

theorem Keeps.retire {o l : Lane} (h : Keeps o l) (reg : Nat) : Keeps o (l.retire reg) := by
  have cut : Keeps o { l with mem.retired := l.mem.retired ++ [reg], mem.cap := true, mem.hard := l.mem.hard.filter (fun r => r / 8 != reg),
                              mem.sram := l.mem.sram.filter (fun c => c.1 / 4096 != reg) } := h.of_sram (.filter ..) rfl rfl rfl
  unfold Lane.retire
  exact h.ite (((cut.event ..).failSilent ..).ite (cut.event ..))

theorem Keeps.spareRow {o l : Lane} (h : Keeps o l) (row : Nat) : Keeps o (l.spareRow row) := by
  unfold Lane.spareRow
  exact h.ite ((h.retire ..).ite (h.upd.event ..))

theorem Keeps.urgentRegion {o l : Lane} (h : Keeps o l) (reg : Nat) : Keeps o (l.urgentRegion reg) := by
  unfold Lane.urgentRegion
  exact h.ite h.upd

theorem Keeps.sramSettle {o l : Lane} (h : Keeps o l) (key : Nat) : Keeps o (l.sramSettle key) :=
  h.of_sram (.mergeAll ..) rfl rfl rfl

theorem Keeps.eccCount {o l : Lane} (h : Keeps o l) (n : Nat) (k : Nat) : Keeps o (l.eccCount n k) := h.upd

theorem Keeps.sramCheck {o l : Lane} (h : Keeps o l) (dma : Bool) (addr ecc : Nat) : Keeps o (l.sramCheck dma addr ecc) := by
  have void {m : Lane} (hm : Keeps o m) (a n : Nat) (bs : List Byte) : Keeps o { m with mem.sram := cellStore m.mem.sram a bs, fresh := n } :=
    hm.of_sram (.store ..) rfl rfl rfl
  have flag : Keeps o (if dma then { l with mem.errDma := ecc == 3 } else { l with mem.errProc := ecc == 3 }) := h.upd.ite h.upd
  dsimp only [Lane.sramCheck]
  split
  · exact flag
  · have hit := void ((flag.eccCount 1 1).event 0xE102 addr)
    exact ((hit ..).failSilent ..).ite ((hit ..).urgentRegion ..)
  · have told := (flag.eccCount 0 1).event 0xE101 addr
    exact told.ite (told.upd.urgentRegion ..)

theorem Keeps.sramRefuse {o l : Lane} (h : Keeps o l) (dma : Bool) : Keeps o (l.sramRefuse dma) := by
  unfold Lane.sramRefuse
  exact h.upd.ite h.upd

theorem Keeps.sramAccess {o l : Lane} (h : Keeps o l) (x : SramXfer) : Keeps o (l.sramAccess x) := by
  have settled := h.sramSettle (slotKey x.dma x.cycle)
  refine h.ite ((settled.sramRefuse _).ite ?_)
  dsimp only
  split
  · have checked := settled.sramCheck x.dma x.addr x.ecc
    exact checked.upd.ite checked.upd
  · exact .ite (settled.of_sram (.merge ..) rfl rfl rfl) (settled.sramCheck ..).upd

theorem Keeps.weevilStart {o l : Lane} (h : Keeps o l) : Keeps o l.weevilStart := by
  unfold Lane.weevilStart
  refine h.ite ?_
  dsimp only
  split
  · exact h
  · exact .lit rfl (h.releaseIds ..)

theorem Keeps.weevilNext {o l : Lane} (h : Keeps o l) : Keeps o l.weevilNext := by
  unfold Lane.weevilNext
  exact h.upd.ite h.upd

theorem Keeps.weevilEnd {o l : Lane} (h : Keeps o l) (rows : List Nat) (sigOk : Bool) (count : Nat) (verifyOk : Bool) : Keeps o (l.weevilEnd rows sigOk count verifyOk) := by
  unfold Lane.weevilEnd
  exact h.ite ((((h.event ..).ite h).foldl _ (fun m k hm => hm.spareRow ..)).ite (((((h.event ..).ite h).foldl _ (fun m k hm => hm.spareRow ..)).weevilNext).ite (.ite (.lit rfl ((((h.event ..).ite h).foldl _ (fun m k hm => hm.spareRow ..)).event ..)) ((((h.event ..).ite h).foldl _ (fun m k hm => hm.spareRow ..)).weevilNext))))

theorem Keeps.weevilAbort {o l : Lane} (h : Keeps o l) : Keeps o l.weevilAbort := by
  unfold Lane.weevilAbort
  exact h.ite h.upd

theorem Keeps.mramScrub {o l : Lane} (h : Keeps o l) (corrected uncorrectable : Nat) : Keeps o (l.mramScrub corrected uncorrectable) := by
  have taken : Keeps o { l.releaseIds [0xE106] with mem.scrubAt := l.now } := (h.releaseIds _).upd
  exact h.ite ((taken.eccCount ..).eccCount ..)

theorem Keeps.logRingMode {o l : Lane} (h : Keeps o l) : Keeps o l.logRingMode := by
  unfold Lane.logRingMode
  exact h.ite (h.upd.event ..)

theorem Keeps.logRoom {o l : Lane} (h : Keeps o l) : Keeps o l.logRoom := by
  unfold Lane.logRoom
  exact h.ite (h.upd.ite (h.upd.ite (.lit rfl h.logRingMode)))

theorem Keeps.logFlush {o l : Lane} (h : Keeps o l) (n : Nat) : Keeps o (l.logFlush n) := by
  induction n generalizing l with
  | zero => exact h
  | succ n ih =>
    dsimp only [Lane.logFlush]
    split
    · exact h
    · exact ih (h.upd.logRoom.of_eq rfl rfl rfl rfl)

theorem Keeps.logFlushAll {o l : Lane} (h : Keeps o l) : Keeps o l.logFlushAll := by
  unfold Lane.logFlushAll
  exact h.logFlush ..

theorem Keeps.mramWorn {o l : Lane} (h : Keeps o l) (addr : Nat) (bytes : List Byte) : Keeps o (l.mramWorn addr bytes) := by
  dsimp only [Lane.mramWorn]
  split
  · exact h.upd.ite h.upd.logRingMode
  · refine .ite (h.of_mram rfl (.store ..) rfl rfl) ?_
    split
    · exact h.upd.ite h.upd
    · exact h.upd
  · have worn (c : Bool) : Keeps o (if c then { l with mem.worn0 := true } else { l with mem.worn1 := true }) := h.upd.ite h.upd
    exact .ite (worn ..).upd ((worn ..).upd.event ..)

theorem Keeps.countWrites {o l : Lane} (h : Keeps o l) (addr : Nat) (len : Nat) : Keeps o (l.countWrites addr len) := by
  unfold Lane.countWrites
  exact h.ite h.upd

theorem Lane.countWrites_mram (l : Lane) (addr n : Nat) : (l.countWrites addr n).mem.mram = l.mem.mram := by
  unfold Lane.countWrites
  split <;> rfl

theorem Keeps.mramWriteEnd {o l : Lane} (h : Keeps o l) (addr : Nat) (bytes : List Byte) (ok : Bool) : Keeps o (l.mramWriteEnd addr bytes ok) := by
  have counted := h.countWrites addr bytes.length
  have stored (rest : List Wear) : Keeps o { l.countWrites addr bytes.length with mem.fails := rest, mem.mram := cellStore l.mem.mram addr bytes } :=
    counted.of_mram rfl (by rw [Lane.countWrites_mram]; exact .store ..) rfl rfl
  dsimp only [Lane.mramWriteEnd]
  exact h.ite (.ite (((stored ..).logFlush 1).ite (stored ..)) (counted.upd.ite (Keeps.mramWorn (counted.upd : Keeps o { l.countWrites addr bytes.length with mem.fails := _ }) ..)))

/-! ### Machine/ParamCmds -/

theorem Keeps.hParamRead {o l : Lane} (h : Keeps o l) (m : Msg) : Keeps o (Lane.hParamRead m l).1 := by
  unfold Lane.hParamRead
  split
  · exact h.refuse ..
  · split <;> exact h.guarded _ (h.done ..)

theorem Keeps.hParamInfo {o l : Lane} (h : Keeps o l) (m : Msg) : Keeps o (Lane.hParamInfo m l).1 := by
  unfold Lane.hParamInfo
  split
  · exact h.refuse ..
  · exact h.done ..

theorem Keeps.withVals {o l : Lane} (h : Keeps o l) (vs : List PVal) : Keeps o (l.withVals vs) := by
  unfold Lane.withVals
  exact h.settled.foldl _ (fun m k hm => hm.pset ..)

theorem Keeps.hold {o l : Lane} (h : Keeps o l) (v : PVal) : Keeps o (l.hold v) := by
  unfold Lane.hold
  exact h.upd.ite h

theorem Keeps.valueHook {o l : Lane} (h : Keeps o l) (old : Lane) (v : PVal) : Keeps o (Lane.valueHook old l v) := by
  unfold Lane.valueHook
  dsimp only
  split
  · exact h.ite ((h.tripOff ..).ite (h.tripOn ..))
  · exact (h.setGch ..).ite h
  · exact (h.setTb ..).ite h
  · exact (h.setTb ..).ite h
  · exact (h.setTb ..).ite h
  · exact (h.setTb ..).ite h
  · exact h.ite (h.followTb ..)
  · exact h.eachOf _ (fun k m hm => hm.busOff ..)
  · exact h.cmpStart ..
  · exact h.weevilAbort.ite h
  · exact h.grdTake.ite h

theorem Keeps.applyVals {o l : Lane} (h : Keeps o l) (vs : List PVal) : Keeps o (l.applyVals vs) := by
  unfold Lane.applyVals
  exact (((h.foldl _ (fun m k hm => (hm.hold ..).pset ..)).foldl _ (fun m k hm => hm.valueHook ..)).tellMerged ..).ite ((h.foldl _ (fun m k hm => (hm.hold ..).pset ..)).foldl _ (fun m k hm => hm.valueHook ..))

theorem Keeps.badEvent {o l : Lane} (h : Keeps o l) (budget : Bool) : Keeps o (l.badEvent budget) := by
  unfold Lane.badEvent
  exact (h.eventU ..).ite h

theorem Keeps.stage {o l : Lane} (h : Keeps o l) (m : Msg) (vs : List PVal) : Keeps o (l.stage m vs) := h.upd

theorem Keeps.estimate {o l : Lane} (h : Keeps o l) : Keeps o l.estimate := by
  unfold Lane.estimate
  exact h.upd

theorem Keeps.commitSet {o l : Lane} (h : Keeps o l) (vs : List PVal) : Keeps o (l.commitSet vs).1 := by
  unfold Lane.commitSet
  split
  · exact h
  · split
    · exact h.badEvent ..
    · exact (h.applyVals ..).estimate

theorem Keeps.hParamCommit {o l : Lane} (h : Keeps o l) (m : Msg) : Keeps o (Lane.hParamCommit m l).1 := by
  unfold Lane.hParamCommit
  split
  · exact h.guarded _ h
  · next s _ =>
    refine h.guarded _ ?_
    extract_lets _ l1 r _ _ l2
    have h1 : Keeps o l1 := h.upd
    have hr : Keeps o r.1 := Keeps.commitSet (h.upd : Keeps o { l with mb.staged := some { s with lastAt := l.now } }) s.vals
    clear_value r
    have h2 : Keeps o l2 := hr.upd
    split
    · exact h1
    · split
      · exact h2
      · exact hr

theorem Keeps.stageTimeout {o l : Lane} (h : Keeps o l) : Keeps o l.stageTimeout := by
  unfold Lane.stageTimeout
  split
  · exact (h.upd.event ..).ite h
  · exact h

theorem Keeps.writeParam {o l : Lane} (h : Keeps o l) (m : Msg) (r : PRow) (vs : List PVal) (reply : Nat → List Byte) : Keeps o (l.writeParam m r vs reply).1 := by
  unfold Lane.writeParam
  dsimp only
  split
  · exact h.refuse ..
  · split
    · refine h.guarded _ ?_
      split
      · exact (h.commitSet ..).done ..
      · exact h.commitSet ..
    · exact h.guarded _ ((h.stage ..).done ..)
  · refine h.guarded _ ?_
    split
    · exact h.badEvent ..
    · exact (h.applyVals ..).done ..

theorem Keeps.hParamWrite {o l : Lane} (h : Keeps o l) (m : Msg) : Keeps o (Lane.hParamWrite m l).1 := by
  unfold Lane.hParamWrite
  split
  · exact h.refuse ..
  · split <;> exact h.writeParam ..

theorem Keeps.clearCounter {o l : Lane} (h : Keeps o l) (id : Nat) (i : Nat) : Keeps o (l.clearCounter id i) := by
  unfold Lane.clearCounter
  split
  · exact h.upd
  · exact h.setStream ..
  · exact h.setSrc ..
  · exact h.setCmpU ..
  · exact h.upd
  · exact h.upd
  · exact h.upd
  · exact h

theorem Keeps.hCounterClear {o l : Lane} (h : Keeps o l) (m : Msg) : Keeps o (Lane.hCounterClear m l).1 := by
  unfold Lane.hCounterClear
  dsimp only
  split
  · exact h.refuse ..
  · exact h.guarded _ (((h.each _ (fun k m1 hm => hm.clearCounter ..)).ite (h.clearCounter ..)).done ..)

/-! ### Machine/Configs -/

theorem Keeps.stageClear {o l : Lane} (h : Keeps o l) : Keeps o l.stageClear := by
  unfold Lane.stageClear
  exact h.upd.mramErase ..

theorem Keeps.hCfgImageLoad {o l : Lane} (h : Keeps o l) (m : Msg) : Keeps o (Lane.hCfgImageLoad m l).1 := by
  unfold Lane.hCfgImageLoad
  refine h.guarded _ ?_
  extract_lets first ld l1 l2
  have h1 : Keeps o l1 := h.stageClear.ite h
  have h2 : Keeps o l2 := h1.mramPut ..
  clear_value l2
  split
  · exact h2.upd
  · split
    · exact h2.upd
    · exact h2.stageClear

theorem Keeps.hCfgGenBurn {o l : Lane} (h : Keeps o l) (m : Msg) : Keeps o (Lane.hCfgGenBurn m l).1 := by
  unfold Lane.hCfgGenBurn
  refine h.guarded _ ?_
  split
  · exact h.event ..
  · exact h.guarded _ (h.upd.accept ..)

theorem Keeps.otpPartial {o l : Lane} (h : Keeps o l) (off : Nat) (bs : List Byte) : Keeps o (l.otpPartial off bs) := by
  unfold Lane.otpPartial
  exact h.upd.otpProgram ..

theorem Keeps.genBurnEnd {o l : Lane} (h : Keeps o l) (ok : Bool) : Keeps o (l.genBurnEnd ok) := by
  unfold Lane.genBurnEnd
  refine h.ite ?_
  split
  · exact .ite (.complete (.ite (.event (.event (.lit rfl (h.upd.otpProgram ..)) ..) ..) (.event (.lit rfl (h.upd.otpProgram ..)) ..)) ..) ((h.upd.otpPartial ..).complete ..)
  · exact h

theorem Keeps.overlayEnd {o l : Lane} (h : Keeps o l) (b : List Byte) : Keeps o (l.overlayEnd b).1 := by
  unfold Lane.overlayEnd
  extract_lets body _ l1 crc
  have h1 : Keeps o l1 := h.upd
  split
  · exact h1
  · split
    · exact h1
    · split
      · exact h1
      · extract_lets x
        have hx : Keeps o x.1 := h1.commitSet _
        clear_value x
        split
        · exact Keeps.event hx.upd ..
        · exact hx

theorem Keeps.hCfgOverlayLoad {o l : Lane} (h : Keeps o l) (m : Msg) : Keeps o (Lane.hCfgOverlayLoad m l).1 := by
  unfold Lane.hCfgOverlayLoad
  refine h.guarded _ ?_
  dsimp only
  split
  · exact h.upd.done ..
  · exact h.overlayEnd ..

theorem Keeps.hCfgStatus {o l : Lane} (h : Keeps o l) : Keeps o (l.hCfgStatus).1 := h.upd

theorem Keeps.hLifecycleSet {o l : Lane} (h : Keeps o l) (m : Msg) : Keeps o (Lane.hLifecycleSet m l).1 := by
  unfold Lane.hLifecycleSet
  exact h.guarded _ (h.upd.accept ..)

theorem Keeps.lifeWriteEnd {o l : Lane} (h : Keeps o l) (ok : Bool) : Keeps o (l.lifeWriteEnd ok) := by
  unfold Lane.lifeWriteEnd
  refine h.ite ?_
  split
  · exact (((h.upd.otpProgram ..).event ..).complete ..).ite ((h.upd.otpPartial ..).complete ..)
  · exact h

theorem Keeps.tapProgram {o l : Lane} (h : Keeps o l) (area : Nat) (bytes : List Byte) : Keeps o (l.tapProgram area bytes) := by
  unfold Lane.tapProgram
  split
  · exact h
  · exact h.ite (h.otpProgram ..)

theorem Keeps.setSlot {o l : Lane} (h : Keeps o l) (k : Nat) (f : FwSlot → FwSlot) : Keeps o (l.setSlot k f) := h.upd

theorem Keeps.hMoltBegin {o l : Lane} (h : Keeps o l) (m : Msg) : Keeps o (Lane.hMoltBegin m l).1 := by
  unfold Lane.hMoltBegin
  exact h.guarded _ ((h.upd.setSlot ..).done ..)

theorem Keeps.hMoltData {o l : Lane} (h : Keeps o l) (m : Msg) : Keeps o (Lane.hMoltData m l).1 := by
  unfold Lane.hMoltData
  exact h.guarded _ ((h.mramPut ..).done ..)

theorem Keeps.hMoltVerify {o l : Lane} (h : Keeps o l) (m : Msg) : Keeps o (Lane.hMoltVerify m l).1 := by
  unfold Lane.hMoltVerify
  exact h.guarded _ (h.upd.accept ..)

theorem Keeps.moltVerifyEnd {o l : Lane} (h : Keeps o l) : Keeps o l.moltVerifyEnd := by
  unfold Lane.moltVerifyEnd
  split
  · exact h
  · exact (((h.upd.setSlot ..).event ..).complete ..).ite (((h.upd.setSlot ..).event ..).complete ..)

theorem Keeps.hMoltSwap {o l : Lane} (h : Keeps o l) (m : Msg) : Keeps o (Lane.hMoltSwap m l).1 := by
  unfold Lane.hMoltSwap
  exact h.guarded _ ((h.upd.accept ..).complete ..)

theorem Keeps.hMoltStatus {o l : Lane} (h : Keeps o l) : Keeps o (l.hMoltStatus).1 := h.upd

theorem Keeps.trialTimeout {o l : Lane} (h : Keeps o l) : Keeps o l.trialTimeout := by
  unfold Lane.trialTimeout
  split
  · exact h.upd.ite h
  · exact h

/-! ### Machine/Bist -/

theorem Keeps.bistGo {o l : Lane} (h : Keeps o l) (r : BistRun) (ss : List Nat) : Keeps o (l.bistGo r ss) := by
  induction ss with
  | nil => exact (h.bistFinish ..).ite h.upd
  | cons s rest ih => exact ih.ite h.upd

theorem Keeps.bistBegin {o l : Lane} (h : Keeps o l) (kind : Nat) (sections : List Nat) (want : List Nat) (key : Option CmdKey) (first : BistEntry) : Keeps o (l.bistBegin kind sections want key first) := by
  unfold Lane.bistBegin
  exact h.bistGo ..

theorem Keeps.sramSection {o l : Lane} (h : Keeps o l) (status : Nat) (detail : W32) : Keeps o (l.sramSection status detail) := by
  unfold Lane.sramSection
  exact (h.upd.spareRow ..).ite h.upd

theorem Keeps.sectionEnd {o l : Lane} (h : Keeps o l) (r : BistRun) (sig : W32) (count : Nat) (sigOk : Bool) (detail : W32) : Keeps o (l.sectionEnd r sig count sigOk detail) := by
  unfold Lane.sectionEnd
  exact (((h.bistPut ..).sramSection ..).ite (h.bistPut ..)).ite (.bistGo (.ite (.lit rfl (((h.bistPut ..).sramSection ..).ite (h.bistPut ..))) (((h.bistPut ..).sramSection ..).ite (h.bistPut ..))) ..)

theorem Keeps.bistSectionEnd {o l : Lane} (h : Keeps o l) (sig : W32) (count : Nat) (sigOk : Bool) (detail : W32) : Keeps o (l.bistSectionEnd sig count sigOk detail) := by
  unfold Lane.bistSectionEnd
  split
  · exact (h.sectionEnd ..).ite h
  · exact h

theorem Keeps.bistSectionTimeout {o l : Lane} (h : Keeps o l) (sig : W32) (count : Nat) (sigOk : Bool) (detail : W32) : Keeps o (l.bistSectionTimeout sig count sigOk detail) := by
  unfold Lane.bistSectionTimeout
  split
  · exact (h.sectionEnd ..).ite h
  · exact h

theorem Keeps.shutdownTest {o l : Lane} (h : Keeps o l) : Keeps o l.shutdownTest := by
  unfold Lane.shutdownTest
  exact (h.bistBegin ..).ite (h.bistBegin ..)

theorem Keeps.shutdownEnd {o l : Lane} (h : Keeps o l) : Keeps o l.shutdownEnd := by
  unfold Lane.shutdownEnd
  split
  · exact (h.bistFinish ..).ite h
  · exact h

theorem Keeps.bistHost {o l : Lane} (h : Keeps o l) (ss : List Nat) (key : CmdKey) : Keeps o (l.bistHost ss key).1 := by
  unfold Lane.bistHost
  exact h.guarded _ ((h.accept ..).bistBegin ..)

theorem Keeps.hBistRun {o l : Lane} (h : Keeps o l) (m : Msg) : Keeps o (Lane.hBistRun m l).1 := by
  unfold Lane.hBistRun
  exact h.bistHost ..

theorem Keeps.hBistSection {o l : Lane} (h : Keeps o l) (m : Msg) : Keeps o (Lane.hBistSection m l).1 := by
  unfold Lane.hBistSection
  exact h.bistHost ..

theorem Keeps.hBistResult {o l : Lane} (h : Keeps o l) (m : Msg) : Keeps o (Lane.hBistResult m l).1 := by
  unfold Lane.hBistResult
  split
  · exact h.refuse ..
  · split <;> exact h.done ..

theorem Keeps.hBistAbort {o l : Lane} (h : Keeps o l) : Keeps o (l.hBistAbort).1 := by
  unfold Lane.hBistAbort
  split
  · exact (h.bistAbort.ite h).done ..
  · exact h.done ..

/-! ### Machine/Restart -/

theorem Keeps.fromScratch {o l : Lane} (h : Keeps o l) (cycle : Bool) : Keeps o (l.fromScratch cycle) :=
  ⟨h.sram.trans (.nil ..), h.mram, h.ring.trans (.nil ..), h.otp⟩

theorem Keeps.portsDown {o l : Lane} (h : Keeps o l) : Keeps o l.portsDown := h.upd

theorem Keeps.goOff {o l : Lane} (h : Keeps o l) (pstate : Nat) : Keeps o (l.goOff pstate) := by
  unfold Lane.goOff
  exact (h.upd.portsDown.setSt ..).cellFollow

theorem Keeps.regStart {o l : Lane} (h : Keeps o l) : Keeps o l.regStart := h.upd

theorem Keeps.wakeBegin {o l : Lane} (h : Keeps o l) : Keeps o l.wakeBegin := by
  have waking : Keeps o { l.setSt .waking with pwr.pstate := 5, pwr.pend := none, boot.pu := { l.boot.pu with lock := false } } := (h.setSt .waking).upd
  unfold Lane.wakeBegin
  exact waking.regStart.ite waking.upd

theorem Keeps.coldStart {o l : Lane} (h : Keeps o l) (cycle : Bool) : Keeps o (l.coldStart cycle) := by
  unfold Lane.coldStart
  exact .cellFollow (.wakeBegin (.lit rfl (h.fromScratch ..)))

theorem Keeps.noteWake {o l : Lane} (h : Keeps o l) (src : Nat) : Keeps o (l.noteWake src) := h.upd

theorem Keeps.coldWake {o l : Lane} (h : Keeps o l) (src : Nat) : Keeps o (l.coldWake src) := by
  unfold Lane.coldWake
  exact (h.noteWake ..).coldStart ..

theorem Keeps.warmWake {o l : Lane} (h : Keeps o l) (src : Nat) : Keeps o (l.warmWake src) := by
  unfold Lane.warmWake
  exact (h.coldWake ..).ite (.wakeBegin (.lit rfl ((h.noteWake ..).releaseIds ..)))

theorem Keeps.restart {o l : Lane} (h : Keeps o l) : Keeps o l.restart := by
  unfold Lane.restart
  exact h.upd.coldStart ..

theorem Keeps.clocksUp {o l : Lane} (h : Keeps o l) : Keeps o l.clocksUp := by
  unfold Lane.clocksUp
  exact h.upd.ite (h.upd.setSt ..)

theorem Keeps.oscDead {o l : Lane} (h : Keeps o l) (k : Nat) : Keeps o (l.oscDead k) := by
  unfold Lane.oscDead
  exact .ite (.failSilent (.lit rfl (h.upd.event ..)) ..) (((h.upd.event ..).enterLimp).clocksUp)

theorem Keeps.regReady {o l : Lane} (h : Keeps o l) : Keeps o l.regReady := by
  unfold Lane.regReady
  exact h.upd.ite h

theorem Keeps.regTimeout {o l : Lane} (h : Keeps o l) (reg : Nat) : Keeps o (l.regTimeout reg) := by
  unfold Lane.regTimeout
  exact h.ite ((h.upd.event ..).ite ((h.upd.ite h.upd).aonEvent ..))

theorem Keeps.regRetry {o l : Lane} (h : Keeps o l) : Keeps o l.regRetry := by
  unfold Lane.regRetry
  exact h.upd.ite h

theorem Keeps.crystalReady {o l : Lane} (h : Keeps o l) : Keeps o l.crystalReady := by
  unfold Lane.crystalReady
  exact h.upd.ite h

theorem Keeps.crystalTimeout {o l : Lane} (h : Keeps o l) : Keeps o l.crystalTimeout := by
  unfold Lane.crystalTimeout
  exact h.ite (h.upd.ite ((h.upd.event ..).ite (h.oscDead ..)))

theorem Keeps.pllTimeout {o l : Lane} (h : Keeps o l) : Keeps o l.pllTimeout := by
  unfold Lane.pllTimeout
  exact h.ite ((h.upd.event ..).ite (h.oscDead ..))

theorem Keeps.clockFail {o l : Lane} (h : Keeps o l) (pll : Bool) : Keeps o (l.clockFail pll) := by
  unfold Lane.clockFail
  refine h.ite ?_
  split
  · exact (h.upd.event ..).enterLimp
  · exact (h.upd.event ..).enterLimp
  · exact (h.upd.event ..).enterLimp
  · exact (h.upd.event ..).enterLimp
  · exact (h.upd.event ..).enterLimp
  · exact (h.upd.event ..).enterLimp
  · exact (h.upd.event ..).enterLimp
  · exact h.upd.event ..
  · exact h

theorem Keeps.holdCheck {o l : Lane} (h : Keeps o l) (mv : Nat) : Keeps o (l.holdCheck mv) := by
  unfold Lane.holdCheck
  split
  · exact h.ite ((h.upd.event ..).ite h.upd)
  · exact h

/-! ### Machine/Power -/

theorem Keeps.stepOut {o l : Lane} (h : Keeps o l) : Keeps o l.stepOut := by
  unfold Lane.stepOut
  exact h.closeAll.ite (.cellFollow (.takeSafeAll (.withdraw (.setSt (.lit rfl h.closeAll.stepDown) ..) ..)))

theorem Keeps.entryTest {o l : Lane} (h : Keeps o l) (e : PwrEntry) : Keeps o (l.entryTest e) := by
  unfold Lane.entryTest
  exact h.upd.shutdownTest.ite h.upd

theorem Keeps.entryAbort {o l : Lane} (h : Keeps o l) (code : Nat) (src : Nat) : Keeps o (l.entryAbort code src) := by
  unfold Lane.entryAbort
  split
  · exact h
  · exact .ite (.warmWake (.completeOpt (.refused (.lit rfl (h.bistStop.ite h)) ..) ..) ..) (.enterSync (.ite (.stepOut (.completeOpt (.refused (.lit rfl (h.bistStop.ite h)) ..) ..)) (.completeOpt (.refused (.lit rfl (h.bistStop.ite h)) ..) ..)))

theorem Keeps.wakeLatch {o l : Lane} (h : Keeps o l) (src : Nat) : Keeps o (l.wakeLatch src) := by
  unfold Lane.wakeLatch
  exact h.ite h.upd

theorem Keeps.wake {o l : Lane} (h : Keeps o l) (src : Nat) : Keeps o (l.wake src) := by
  unfold Lane.wake
  refine h.ite ((h.wakeLatch ..).ite ?_)
  split
  · exact (h.entryAbort ..).ite (h.ite (h.wakeLatch ..))
  · exact (h.warmWake ..).ite h

theorem Keeps.cicada {o l : Lane} (h : Keeps o l) (port : Nat) : Keeps o (l.cicada port) := by
  unfold Lane.cicada
  exact h.ite (h.upd.wake ..)

theorem Keeps.linkActivity {o l : Lane} (h : Keeps o l) (port : Nat) : Keeps o (l.linkActivity port) := by
  unfold Lane.linkActivity
  exact h.ite (h.wake ..)

theorem Keeps.spWake {o l : Lane} (h : Keeps o l) (ptr : Nat) (read : Bool) : Keeps o (l.spWake ptr read) := by
  unfold Lane.spWake
  exact h.ite (h.wake ..)

theorem Keeps.supersede {o l : Lane} (h : Keeps o l) (e : PwrEntry) (target : Nat) (key : CmdKey) : Keeps o (l.supersede e target key) := by
  unfold Lane.supersede
  dsimp only
  split
  · exact .ite (.lit rfl ((h.refused ..).completeOpt ..)) (.bistStop (.lit rfl ((h.refused ..).completeOpt ..)))
  · exact .entryTest (.lit rfl ((h.refused ..).completeOpt ..)) ..
  · exact .lit rfl ((h.refused ..).completeOpt ..)

theorem Keeps.hPwrRequest {o l : Lane} (h : Keeps o l) (m : Msg) : Keeps o (Lane.hPwrRequest m l).1 := by
  have superseded (e : PwrEntry) (k : CmdKey) (t : Nat) : Keeps o ((Machine.accept l k).1.supersede e t k) := (h.accept _).supersede ..
  have requested (k : CmdKey) (t : Nat) : Keeps o ((Machine.accept l k).1.requestNew t (some k)) := (h.accept _).requestNew ..
  have idled (k : CmdKey) : Keeps o (((Machine.accept l k).1.entryAbort 6 0).requestNew 1 (some k)) := ((h.accept _).entryAbort ..).requestNew ..
  dsimp only [Lane.hPwrRequest]
  split
  · exact h
  · split
    · split
      · exact (h.wakeLatch 7).ite h.upd
      · split
        · exact Keeps.entryAbort (Keeps.accept (h.upd : Keeps o { l with pwr.runKey := _ }) _) ..
        · split
          · exact h.refused ..
          · split
            · exact idled _
            · exact superseded ..
    · split
      · exact h.idleToRun
      · split
        · exact h
        · split
          · exact h.refused ..
          · exact requested ..

theorem Keeps.hPwrStatus {o l : Lane} (h : Keeps o l) : Keeps o (l.hPwrStatus).1 := h.upd

theorem Keeps.entryWithdraw {o l : Lane} (h : Keeps o l) : Keeps o l.entryWithdraw := by
  unfold Lane.entryWithdraw
  refine h.ite ((h.upd.ite h.stepOut.restart).ite ?_)
  split
  · exact (h.stepOut.entryTest ..).ite h
  · exact h

theorem Keeps.marksStore {o l : Lane} (h : Keeps o l) : Keeps o l.marksStore := h.upd

theorem Keeps.persist {o l : Lane} (h : Keeps o l) : Keeps o l.persist :=
  (h.releaseIds [0xB170]).logFlushAll.marksStore.upd

theorem Keeps.retain {o l : Lane} (h : Keeps o l) (target : Nat) : Keeps o (l.retain target) := h.upd

theorem Keeps.entryCommit {o l : Lane} (h : Keeps o l) (e : PwrEntry) : Keeps o (l.entryCommit e) := by
  unfold Lane.entryCommit
  exact h.upd.ite (h.upd.completeOpt ..)

theorem Keeps.entryPersistEnd {o l : Lane} (h : Keeps o l) : Keeps o l.entryPersistEnd := by
  unfold Lane.entryPersistEnd
  split
  · exact ((((h.weevilAbort.ite h).persist).retain ..).entryCommit ..).ite h
  · exact h

theorem Keeps.aonDown {o l : Lane} (h : Keeps o l) : Keeps o l.aonDown := h.upd

theorem Keeps.offByRequest {o l : Lane} (h : Keeps o l) : Keeps o l.offByRequest := by
  unfold Lane.offByRequest
  exact .aonDown (.lit rfl (h.goOff ..))

theorem Keeps.sleepIn {o l : Lane} (h : Keeps o l) (target : Nat) : Keeps o (l.sleepIn target) := by
  have off := h.goOff target
  dsimp only [Lane.sleepIn]
  exact h.offByRequest.ite (.ite (off.of_sram (.nil ..) rfl rfl rfl) off.upd)

theorem Keeps.wakeFrom {o l : Lane} (h : Keeps o l) (target : Nat) (src : Nat) : Keeps o (l.wakeFrom target src) := by
  unfold Lane.wakeFrom
  exact ((h.goOff ..).coldWake ..).ite (.warmWake (.lit rfl (h.sleepIn ..)) ..)

theorem Keeps.powerDownEnd {o l : Lane} (h : Keeps o l) : Keeps o l.powerDownEnd := by
  unfold Lane.powerDownEnd
  split
  · exact h
  · refine h.ite ?_
    dsimp only
    split
    · exact (h.upd.wakeFrom ..).event ..
    · exact .ite (.entryTest (.lit rfl (h.upd.releaseIds ..)) ..) ((h.upd.sleepIn ..).ite (h.upd.wakeFrom ..))
    · exact h.upd.sleepIn ..

theorem Keeps.powerOn {o l : Lane} (h : Keeps o l) (mv : Nat) : Keeps o (l.powerOn mv) := by
  unfold Lane.powerOn
  exact ((h.upd.coldStart ..).ite h.upd).ite (h.upd.regStart.ite ((h.upd.coldWake ..).ite h.upd))

theorem Keeps.aonLost {o l : Lane} (h : Keeps o l) : Keeps o l.aonLost :=
  ((h.portsDown.setSt .off).fromScratch true).cellFollow.aonDown.upd

theorem Keeps.supplySag {o l : Lane} (h : Keeps o l) (mv : Nat) : Keeps o (l.supplySag mv) := by
  unfold Lane.supplySag
  exact h.upd.ite h.upd

theorem Keeps.supplyRecover {o l : Lane} (h : Keeps o l) (mv : Nat) : Keeps o (l.supplyRecover mv) := by
  unfold Lane.supplyRecover
  refine h.upd.ite ?_
  dsimp only
  split
  · exact h.upd.ite h.upd
  · exact h.upd

theorem Keeps.bistDrop {o l : Lane} (h : Keeps o l) : Keeps o l.bistDrop := by
  unfold Lane.bistDrop
  split
  · exact h.upd.ite (h.upd.event ..)
  · exact h

theorem Keeps.saveEntry {o l : Lane} (h : Keeps o l) (holdMv : Nat) : Keeps o (l.saveEntry holdMv) := by
  unfold Lane.saveEntry
  split
  · exact h
  · refine h.ite ?_
    extract_lets img was _ l1 l2 _ _ _ _ _ l3
    have h1 : Keeps o l1 := (Keeps.refused (h.upd : Keeps o { l with pwr.entry := none }) ..).ite h
    clear_value l1
    have h2 : Keeps o l2 := h1.bistDrop.weevilAbort.aonEvent ..
    have h3 : Keeps o l2.stepDown.testsGone.closeAll := h2.stepDown.testsGone.closeAll
    have h4 : Keeps o l3 := .upd h3
    exact ((h4.marksStore.setSt .save).withdraw 10 6).takeSafeAll.cellFollow

theorem Keeps.wakeSaved {o l : Lane} (h : Keeps o l) : Keeps o l.wakeSaved := by
  unfold Lane.wakeSaved
  dsimp only
  split
  · exact ((h.portsDown.noteWake ..).coldStart ..).event ..
  · exact (h.portsDown.noteWake ..).coldStart ..

theorem Keeps.saveLeave {o l : Lane} (h : Keeps o l) : Keeps o l.saveLeave := by
  unfold Lane.saveLeave
  exact h.wakeSaved.ite (h.goOff ..)

theorem Keeps.saveDone {o l : Lane} (h : Keeps o l) : Keeps o l.saveDone := by
  unfold Lane.saveDone
  split
  · exact .saveLeave (.lit rfl ((h.aonEvent ..).chrysStore ..))
  · exact h

theorem Keeps.saveStop {o l : Lane} (h : Keeps o l) (bytes : Nat) : Keeps o (l.saveStop bytes) := by
  unfold Lane.saveStop
  refine h.ite ?_
  split
  · exact .goOff (.aonEvent (.lit rfl (h.chrysWrite ..)) ..) ..
  · exact h.upd.goOff ..

theorem Keeps.saveReturn {o l : Lane} (h : Keeps o l) : Keeps o l.saveReturn := by
  unfold Lane.saveReturn
  exact h.wakeSaved.ite h

/-! ### Machine/Boot -/

theorem Keeps.bootGo {o l : Lane} (h : Keeps o l) (st : WakeStep) : Keeps o (l.bootGo st) := h.upd

theorem Keeps.bootFail {o l : Lane} (h : Keeps o l) : Keeps o l.bootFail := by
  unfold Lane.bootFail
  exact h.upd.failSilent ..

theorem Keeps.otpRead {o l : Lane} (h : Keeps o l) : Keeps o l.otpRead := by
  unfold Lane.otpRead
  refine h.ite ?_
  split
  · exact h.upd
  · exact h.upd
  · exact (h.upd.bootGo ..).ite h.upd.bootFail

theorem Keeps.comparatorBad {o l : Lane} (h : Keeps o l) (sig : W32) (count : Nat) (status : Nat) : Keeps o (l.comparatorBad sig count status) := by
  unfold Lane.comparatorBad
  exact h.upd.bootFail

theorem Keeps.comparatorEnd {o l : Lane} (h : Keeps o l) (sig : W32) (count : Nat) (sigOk : Bool) : Keeps o (l.comparatorEnd sig count sigOk) := by
  unfold Lane.comparatorEnd
  exact h.ite ((h.upd.bootGo ..).ite (h.upd.comparatorBad ..))

theorem Keeps.moltRecord {o l : Lane} (h : Keeps o l) : Keeps o l.moltRecord := by
  unfold Lane.moltRecord
  dsimp only
  split
  · exact .lit rfl (((h.upd.setSlot ..).event ..).ite h)
  · exact ((h.upd.setSlot ..).event ..).ite h

theorem Keeps.slotChoice {o l : Lane} (h : Keeps o l) : Keeps o (l.slotChoice).1 := by
  unfold Lane.slotChoice
  dsimp only
  split
  · split
    · exact h
    · split
      · exact (h.upd.setSlot ..).event ..
      · exact h
  · split
    · exact h
    · split
      · exact (h.upd.setSlot ..).event ..
      · exact h

theorem Keeps.cfgChoice {o l : Lane} (h : Keeps o l) (cfg : CfgImage) : Keeps o (l.cfgChoice cfg) := by
  unfold Lane.cfgChoice
  extract_lets l1 g found _ l2 _ l3
  have h1 : Keeps o l1 := h.foldl _ fun _ _ hx => hx.event ..
  clear_value l1
  have h2 : Keeps o l2 := h1.upd
  clear_value l2 found
  split
  · exact Keeps.mramErase (Keeps.upd h2) ..
  · exact ((Keeps.mramErase (h2.upd : Keeps o l3) ..).mramErase ..).event ..

theorem Keeps.imageVerify {o l : Lane} (h : Keeps o l) (cfg : CfgImage) : Keeps o (l.imageVerify cfg) := by
  unfold Lane.imageVerify
  refine h.ite ?_
  extract_lets r
  have hr : Keeps o r.1 := h.moltRecord.slotChoice
  clear_value r
  split
  · exact hr.bootFail
  · exact ((Keeps.setSlot (Keeps.upd hr) ..).cfgChoice cfg).bootGo ..

theorem Keeps.puWrite {o l : Lane} (h : Keeps o l) : Keeps o l.puWrite := h.upd

theorem Keeps.handover {o l : Lane} (h : Keeps o l) : Keeps o l.handover := by
  unfold Lane.handover
  exact h.ite (h.upd.bootGo ..)

theorem Keeps.bootWatchdog {o l : Lane} (h : Keeps o l) : Keeps o l.bootWatchdog := by
  unfold Lane.bootWatchdog
  split
  · exact h.upd.restart.ite h
  · exact h

theorem Keeps.withImage {o l : Lane} (h : Keeps o l) (x : CfgImage) : Keeps o (l.withImage x) := by
  unfold Lane.withImage
  exact (h.each _ (fun k m hm => hm.setMotor ..)).withVals ..

theorem Keeps.imageDrop {o l : Lane} (h : Keeps o l) : Keeps o l.imageDrop := by
  unfold Lane.imageDrop
  exact h.upd.event ..

theorem Keeps.imageJudge {o l : Lane} (h : Keeps o l) : Keeps o l.imageJudge := by
  unfold Lane.imageJudge
  exact h.imageDrop.ite (((h.badEvent ..).imageDrop).ite h)

theorem Keeps.applyImage {o l : Lane} (h : Keeps o l) : Keeps o l.applyImage := by
  unfold Lane.applyImage
  extract_lets l1 x vs m
  have h1 : Keeps o l1 := h.imageJudge
  have hm : Keeps o m := ((h1.withImage x).foldl vs fun _ _ hy => hy.valueHook ..).estimate.tellMerged false
  clear_value m
  exact hm.grdTake.upd

theorem Keeps.pinsIn {o l : Lane} (h : Keeps o l) : Keeps o l.pinsIn := by
  unfold Lane.pinsIn
  exact h.each _ (fun k m hm => (hm.tripOn ..).ite hm)

theorem Keeps.aonLog {o l : Lane} (h : Keeps o l) : Keeps o l.aonLog :=
  (h.foldl l.pwr.aonEv fun m e hm => hm.upd.ite hm).of_eq rfl rfl rfl rfl

theorem Keeps.latchRecord {o l : Lane} (h : Keeps o l) : Keeps o l.latchRecord := by
  unfold Lane.latchRecord
  split
  · exact h
  · exact .lit rfl ((h.upd.bistStore ..).event ..)

theorem Keeps.startPlan {o l : Lane} (h : Keeps o l) : Keeps o l.startPlan := by
  unfold Lane.startPlan
  dsimp only
  split
  · exact .lit rfl (h.event ..)
  · refine h.upd.ite ?_
    split
    · exact .lit rfl (h.event ..)
    · exact h.upd.ite (.lit rfl (h.event ..))

theorem Keeps.tabsLoad {o l : Lane} (h : Keeps o l) : Keeps o l.tabsLoad := by
  unfold Lane.tabsLoad
  refine h.each _ (fun k m hm => ?_)
  split
  · exact hm.setTable ..
  · exact hm.setTable ..
  · exact ((hm.setTable ..).eventU ..).ite (hm.setTable ..)

theorem Keeps.enterCheck {o l : Lane} (h : Keeps o l) : Keeps o l.enterCheck := by
  unfold Lane.enterCheck
  exact h.upd.ite (h.upd.setSt ..)

theorem Keeps.firmwareStart {o l : Lane} (h : Keeps o l) : Keeps o l.firmwareStart := by
  unfold Lane.firmwareStart
  refine h.ite ?_
  extract_lets l1 l2
  have h1 : Keeps o l1 := h.applyImage.tabsLoad.aonLog.latchRecord.startPlan
  clear_value l1
  have h2 : Keeps o l2 := ((h1.event ..).ite h1).enterCheck
  clear_value l2
  exact Keeps.pinsIn (Keeps.upd h2)

theorem Keeps.checkTemps {o l : Lane} (h : Keeps o l) (c : Checks) : Keeps o (l.checkTemps c).1 := by
  unfold Lane.checkTemps
  dsimp only
  split
  · exact h.upd
  · split <;> exact h.upd.event ..

theorem Keeps.checkCrack {o l : Lane} (h : Keeps o l) (r : F32) : Keeps o (l.checkCrack r) := by
  unfold Lane.checkCrack
  exact h.upd.crackDeclare.ite h.upd

theorem Keeps.checkWindings {o l : Lane} (h : Keeps o l) (mask : W16) : Keeps o (l.checkWindings mask) := by
  unfold Lane.checkWindings
  refine h.each _ (fun k m hm => .ite ?_ hm)
  split
  · exact hm.windFault ..
  · exact hm

theorem Keeps.checkTrim {o l t : Lane} (h : Keeps o l) {c : Checks} (e : l.checkTrim c = some t) : Keeps o t := by
  unfold Lane.checkTrim at e
  dsimp only at e
  split at e
  · exact Option.some.inj e ▸ h.upd
  · cases e

theorem Keeps.quickChecks {o l : Lane} (h : Keeps o l) (c : Checks) : Keeps o (l.quickChecks c).1 := by
  unfold Lane.quickChecks
  split
  · exact h.eventU _
  · extract_lets _ l1
    have h1 : Keeps o l1 := h.upd
    clear_value l1
    split
    · exact h1
    · next m e =>
      have hm : Keeps o m := h1.checkTrim e
      split
      · exact hm
      · split
        · exact Keeps.eventU (Keeps.upd hm) _
        · extract_lets _ l2 t l3 _ l4 l5
          have h2 : Keeps o l2 := hm.upd
          have ht : Keeps o t.1 := h2.checkTemps c
          clear_value t
          have h3 : Keeps o l3 := ht.checkCrack _
          clear_value l3
          have h4 : Keeps o l4 := Keeps.checkWindings (Keeps.upd h3) _
          have h5 : Keeps o l5 := h4.sbSense _
          clear_value l5
          split
          · exact ht
          · split
            · exact h4
            · split
              · exact h5
              · split
                · exact h5.upd
                · exact h5

theorem Keeps.quickRecord {o l : Lane} (h : Keeps o l) : Keeps o l.quickRecord := by
  unfold Lane.quickRecord
  exact h.ite (h.bistRecord ..)

theorem Keeps.checksEnd {o l : Lane} (h : Keeps o l) (c : Checks) : Keeps o (l.checksEnd c) := by
  unfold Lane.checksEnd
  refine h.ite ?_
  split
  · exact (h.bistFinish ..).ite h
  · refine (((h.quickChecks ..).quickRecord).failSilent ..).ite ?_
    split
    · exact .failSilent (.event (.lit rfl ((h.quickChecks ..).quickRecord)) ..) ..
    · exact ((h.quickChecks ..).bistBegin ..).ite (.ite (.requestWaiting (.lit rfl (h.quickChecks ..))) (((h.quickChecks ..).quickRecord).startDone))

theorem Keeps.retentionEnd {o l : Lane} (h : Keeps o l) (ok : Bool) (cmpOk : Bool) : Keeps o (l.retentionEnd ok cmpOk) := by
  unfold Lane.retentionEnd
  exact h.ite (h.restart.ite ((h.upd.comparatorBad ..).ite (.enterSync (.lit rfl h.puWrite.enterCheck))))

theorem Keeps.resetRx {o l : Lane} (h : Keeps o l) (p : List Byte) : Keeps o (l.resetRx p) := by
  unfold Lane.resetRx
  exact h.restart.ite h

theorem Keeps.hRedLaneReset {o l : Lane} (h : Keeps o l) (m : Msg) : Keeps o (Lane.hRedLaneReset m l).1 := by
  unfold Lane.hRedLaneReset
  split
  · exact h.refuse ..
  · split
    · split
      · exact h.done ..
      · exact h.refuse ..
    · split
      · exact (h.sendTo ..).done ..
      · exact h.refuse ..

theorem Keeps.redLaneReset {o l : Lane} (h : Keeps o l) (m : Msg) : Keeps o (l.redLaneReset m) := by
  unfold Lane.redLaneReset
  exact ((h.serve _ _ (fun m1 hm => hm.hRedLaneReset ..)).restart).ite (h.serve _ _ (fun m1 hm => hm.hRedLaneReset ..))

theorem Keeps.debugHalt {o l : Lane} (h : Keeps o l) : Keeps o l.debugHalt := by
  unfold Lane.debugHalt
  refine h.ite ?_
  extract_lets _ _ l1 l2 _ _ l3
  have h1 : Keeps o l1 := h.bistAbort.upd
  have h2 : Keeps o l2 := h1.each _ fun _ _ hx => hx.setSg ..
  clear_value l2
  have h3 : Keeps o l3 := h2.upd.ite h2
  clear_value l3
  exact .ite h3.upd ((Keeps.source12 h3.upd).tripWiden 12)

theorem Keeps.thaw {o l : Lane} (h : Keeps o l) (d : Nat) : Keeps o (l.thaw d) := h.upd

theorem Keeps.debugExit {o l : Lane} (h : Keeps o l) : Keeps o l.debugExit := by
  unfold Lane.debugExit
  exact h.ite (((((h.upd.thaw ..).ite h.upd).netPassive).ite ((h.upd.thaw ..).ite h.upd)).source12)

end Sys2Proof.Machine
end

section
/-! Every command keeps the byte memories: the rule of each keeps them, and the settlements of O6 and O7 from that. -/

namespace Sys2Proof.Machine

set_option Elab.async false

/-- A command that runs a rule has left each lane as it was, or has acted on it by the rule. -/
theorem Keeps.of_run {ok : Bool} {s t : State} {a : At} {f : Lane → Lane} (done : run ok s a f = .next t) (rule : ∀ o l, Keeps o l → Keeps o (f l)) (i : LaneId) :
    Keeps (s.lane i) (t.lane i) := by
  rw [run_next done]
  by_cases own : i = a.lane
  · subst own
    rw [State.lane_upd]
    exact (rule _ _ ((Keeps.refl _).advance _)).wired _
  · rw [State.lane_upd_ne _ _ _ i own]
    exact .refl _

/-- Every command keeps the byte memories of every lane. -/
theorem exec_keeps {c : Instr} {s t : State} (done : exec c s = .next t) (i : LaneId) : Keeps (s.lane i) (t.lane i) := by
  unfold exec at done
  cases c with
  | identify _ _ => exact .of_run done (fun _ _ h => h.serve _ _ (fun m1 hm => hm.hIdentify)) i
  | sessionChallenge _ _ => exact .of_run done (fun _ _ h => h.serve _ _ (fun m1 hm => hm.hSessionChallenge ..)) i
  | sessionResponse _ _ => exact .of_run done (fun _ _ h => h.serve _ _ (fun m1 hm => hm.hSessionResponse ..)) i
  | sessionClose _ _ => exact .of_run done (fun _ _ h => h.serve _ _ (fun m1 hm => hm.hSessionClose ..)) i
  | paramRead _ _ => exact .of_run done (fun _ _ h => h.serve _ _ (fun m1 hm => hm.hParamRead ..)) i
  | paramWrite _ _ => exact .of_run done (fun _ _ h => h.serve _ _ (fun m1 hm => hm.hParamWrite ..)) i
  | paramCommit _ _ => exact .of_run done (fun _ _ h => h.serve _ _ (fun m1 hm => hm.hParamCommit ..)) i
  | paramInfo _ _ => exact .of_run done (fun _ _ h => h.serve _ _ (fun m1 hm => hm.hParamInfo ..)) i
  | streamPush _ _ => exact .of_run done (fun _ _ h => h.serve _ _ (fun m1 hm => hm.hStreamPush ..)) i
  | fnEnable _ _ => exact .of_run done (fun _ _ h => h.serve _ _ (fun m1 hm => hm.hFnEnable ..)) i
  | fnSourceSet _ _ => exact .of_run done (fun _ _ h => h.serve _ _ (fun m1 hm => hm.hFnSourceSet ..)) i
  | steerSet _ _ => exact .of_run done (fun _ _ h => h.serve _ _ (fun m1 hm => hm.hSteerSet ..)) i
  | brakeSet _ _ => exact .of_run done (fun _ _ h => h.serve _ _ (fun m1 hm => hm.hBrakeSet ..)) i
  | springBrake _ _ => exact .of_run done (fun _ _ h => (h.serve _ _ (fun m1 hm => hm.hSpringBrake ..)).sbJudge ..) i
  | slackAdjust _ _ => exact .of_run done (fun _ _ h => h.serve _ _ (fun m1 hm => hm.hSlackAdjust ..)) i
  | retardSet _ _ => exact .of_run done (fun _ _ h => h.serve _ _ (fun m1 hm => hm.hRetardSet ..)) i
  | fnStatus _ _ => exact .of_run done (fun _ _ h => h.serve _ _ (fun m1 hm => hm.hFnStatus ..)) i
  | brakeLearn _ _ => exact .of_run done (fun _ _ h => h.serve _ _ (fun m1 hm => hm.hBrakeLearn ..)) i
  | fnBatch _ _ => exact .of_run done (fun _ _ h => h.serve _ _ (fun m1 hm => hm.hFnBatch ..)) i
  | motEnable _ _ => exact .of_run done (fun _ _ h => h.serve _ _ (fun m1 hm => hm.hMotEnable ..)) i
  | motStatus _ _ => exact .of_run done (fun _ _ h => h.serve _ _ (fun m1 hm => hm.hMotStatus ..)) i
  | motTableLoad _ _ => exact .of_run done (fun _ _ h => h.serve _ _ (fun m1 hm => hm.hMotTableLoad ..)) i
  | motAngleSrcSet _ _ => exact .of_run done (fun _ _ h => h.serve _ _ (fun m1 hm => hm.hMotAngleSrcSet ..)) i
  | tripClear _ _ => exact .of_run done (fun _ _ h => h.serve _ _ (fun m1 hm => hm.hTripClear ..)) i
  | tripForce _ _ => exact .of_run done (fun _ _ h => h.serve _ _ (fun m1 hm => hm.hTripForce ..)) i
  | tripStatus _ _ => exact .of_run done (fun _ _ h => h.serve _ _ (fun m1 hm => hm.hTripStatus)) i
  | gdFaultClear _ _ => exact .of_run done (fun _ _ h => h.serve _ _ (fun m1 hm => hm.hGdFaultClear ..)) i
  | gdSetStrength _ _ => exact .of_run done (fun _ _ h => h.serve _ _ (fun m1 hm => hm.hGdSetStrength ..)) i
  | gdSelftest _ _ => exact .of_run done (fun _ _ h => h.serve _ _ (fun m1 hm => hm.hGdSelftest ..)) i
  | gdSelftestEnd _ _ _ => exact .of_run done (fun _ _ h => h.when _ (h.gdTestEnd ..)) i
  | loopOpen _ _ => exact .of_run done (fun _ _ h => h.serve _ _ (fun m1 hm => hm.hLoopOpen ..)) i
  | loopClose _ _ => exact .of_run done (fun _ _ h => h.serve _ _ (fun m1 hm => hm.hLoopClose ..)) i
  | loopInject _ _ => exact .of_run done (fun _ _ h => h.serve _ _ (fun m1 hm => hm.hLoopInject ..)) i
  | loopCapture _ _ => exact .of_run done (fun _ _ h => h.serve _ _ (fun m1 hm => hm.hLoopCapture ..)) i
  | loopChainSet _ _ => exact .of_run done (fun _ _ h => h.serve _ _ (fun m1 hm => hm.hLoopChainSet ..)) i
  | loopCaptureStop _ _ => exact .of_run done (fun _ _ h => h.serve _ _ (fun m1 hm => hm.hLoopCaptureStop ..)) i
  | mpMove _ _ => exact .of_run done (fun _ _ h => h.serve _ _ (fun m1 hm => hm.hMpMove ..)) i
  | mpStop _ _ => exact .of_run done (fun _ _ h => h.serve _ _ (fun m1 hm => hm.hMpStop ..)) i
  | mpSourceSet _ _ => exact .of_run done (fun _ _ h => h.serve _ _ (fun m1 hm => hm.hMpSourceSet ..)) i
  | mpReference _ _ => exact .of_run done (fun _ _ h => h.serve _ _ (fun m1 hm => hm.hMpReference ..)) i
  | redStatus _ _ => exact .of_run done (fun _ _ h => h.serve _ _ (fun m1 hm => hm.hRedStatus)) i
  | redLaneReset _ _ => exact .of_run done (fun _ _ h => h.redLaneReset ..) i
  | redFaultClear _ _ => exact .of_run done (fun _ _ h => h.serve _ _ (fun m1 hm => hm.hRedFaultClear ..)) i
  | netStatus _ _ => exact .of_run done (fun _ _ h => h.serve _ _ (fun m1 hm => hm.hNetStatus ..)) i
  | netColdstart _ _ => exact .of_run done (fun _ _ h => h.serve _ _ (fun m1 hm => hm.hNetColdstart ..)) i
  | netTxSrcSet _ _ => exact .of_run done (fun _ _ h => h.serve _ _ (fun m1 hm => hm.hNetTxSrcSet ..)) i
  | netKeyEpoch _ _ => exact .of_run done (fun _ _ h => h.serve _ _ (fun m1 hm => hm.hNetKeyEpoch ..)) i
  | netWake _ _ => exact .of_run done (fun _ _ h => h.serve _ _ (fun m1 hm => hm.hNetWake)) i
  | netCanRestart _ _ => exact .of_run done (fun _ _ h => h.serve _ _ (fun m1 hm => hm.hNetCanRestart ..)) i
  | pwrRequest _ _ => exact .of_run done (fun _ _ h => h.serve _ _ (fun m1 hm => hm.hPwrRequest ..)) i
  | pwrStatus _ _ => exact .of_run done (fun _ _ h => h.serve _ _ (fun m1 hm => hm.hPwrStatus)) i
  | bistRun _ _ => exact .of_run done (fun _ _ h => h.serve _ _ (fun m1 hm => hm.hBistRun ..)) i
  | bistSection _ _ => exact .of_run done (fun _ _ h => h.serve _ _ (fun m1 hm => hm.hBistSection ..)) i
  | bistResult _ _ => exact .of_run done (fun _ _ h => h.serve _ _ (fun m1 hm => hm.hBistResult ..)) i
  | bistAbort _ _ => exact .of_run done (fun _ _ h => h.serve _ _ (fun m1 hm => hm.hBistAbort)) i
  | cfgImageLoad _ _ => exact .of_run done (fun _ _ h => h.serve _ _ (fun m1 hm => hm.hCfgImageLoad ..)) i
  | cfgGenBurn _ _ => exact .of_run done (fun _ _ h => h.serve _ _ (fun m1 hm => hm.hCfgGenBurn ..)) i
  | cfgGenBurnEnd _ _ => exact .of_run done (fun _ _ h => h.genBurnEnd ..) i
  | cfgOverlayLoad _ _ => exact .of_run done (fun _ _ h => h.serve _ _ (fun m1 hm => hm.hCfgOverlayLoad ..)) i
  | cfgStatus _ _ => exact .of_run done (fun _ _ h => h.serve _ _ (fun m1 hm => hm.hCfgStatus)) i
  | lifecycleSet _ _ => exact .of_run done (fun _ _ h => h.serve _ _ (fun m1 hm => hm.hLifecycleSet ..)) i
  | lifecycleWriteEnd _ _ => exact .of_run done (fun _ _ h => h.lifeWriteEnd ..) i
  | moltBegin _ _ => exact .of_run done (fun _ _ h => h.serve _ _ (fun m1 hm => hm.hMoltBegin ..)) i
  | moltData _ _ => exact .of_run done (fun _ _ h => h.serve _ _ (fun m1 hm => hm.hMoltData ..)) i
  | moltVerify _ _ => exact .of_run done (fun _ _ h => h.serve _ _ (fun m1 hm => hm.hMoltVerify ..)) i
  | moltVerifyEnd _ => exact .of_run done (fun _ _ h => h.moltVerifyEnd.ite h) i
  | moltSwap _ _ => exact .of_run done (fun _ _ h => h.serve _ _ (fun m1 hm => hm.hMoltSwap ..)) i
  | moltStatus _ _ => exact .of_run done (fun _ _ h => h.serve _ _ (fun m1 hm => hm.hMoltStatus)) i
  | eventRead _ _ => exact .of_run done (fun _ _ h => h.serve _ _ (fun m1 hm => hm.hEventRead ..)) i
  | logRead _ _ => exact .of_run done (fun _ _ h => h.serve _ _ (fun m1 hm => hm.hLogRead ..)) i
  | counterClear _ _ => exact .of_run done (fun _ _ h => h.serve _ _ (fun m1 hm => hm.hCounterClear ..)) i
  | traceCtrl _ _ => exact .of_run done (fun _ _ h => h.serve _ _ (fun m1 hm => hm.hTraceCtrl ..)) i
  | unknownOpcode _ _ m => exact .of_run done (fun _ _ h => h.serve _ m fun _ hx => hx) i
  | doorbellWrite _ _ _ _ => exact .of_run done (fun _ _ h => h.spiWriteTxn ..) i
  | irqStatClear _ _ _ => exact .of_run done (fun _ _ h => h.spiWriteTxn ..) i
  | spiStatClear _ _ _ => exact .of_run done (fun _ _ h => h.spiWriteTxn ..) i
  | qheadWrite _ _ _ _ => exact .of_run done (fun _ _ h => h.spiWriteTxn ..) i
  | registerWrite _ _ => exact .of_run done (fun _ _ h => h.spiWriteTxn ..) i
  | hirqHoldoffEnd _ => exact .of_run done (fun _ _ h => h.irqLine) i
  | spMbInWrite _ _ _ => exact .of_run done (fun _ _ h => h.spWrite _ (h.spIn ..)) i
  | spCommit _ _ => exact .of_run done (fun _ _ h => h.spWrite _ h.spCommit) i
  | spAbort _ _ => exact .of_run done (fun _ _ h => h.spWrite _ h.spDiscard) i
  | spMbOutRead _ _ => exact .of_run done (fun _ _ h => h.spWrite _ h.spOut) i
  | spStatRead _ _ => exact .of_run done (fun _ _ h => h.spWrite _ h.upd) i
  | spMessageTimeout _ => exact .of_run done (fun _ _ h => h.when _ h.upd) i
  | servicePortWake _ _ _ => exact .of_run done (fun _ _ h => h.spWake ..) i
  | mailboxFrameRx _ _ => exact .of_run done (fun _ _ h => h.rxOwn _ _ (fun m k hm => hm.mailboxRx ..)) i
  | canFrameRx _ _ => exact .of_run done (fun _ _ h => h.canRx ..) i
  | reasmTimeout _ _ _ _ =>
    refine .of_run done (fun _ _ h => ?_) i
    split
    · exact ((h.setReasms ..).reasmFail ..).ite h
    · exact h
  | canBusOff _ _ => exact .of_run done (fun _ _ h => h.canBusOff ..) i
  | canStatusSend _ _ => exact .of_run done (fun _ _ h => h.canStatus ..) i
  | sessionIdleTimeout _ _ => exact .of_run done (fun _ _ h => h.sesIdle ..) i
  | stageTimeout _ => exact .of_run done (fun _ _ h => h.stageTimeout) i
  | periodStart _ _ => exact .of_run done (fun _ _ h => (h.periodStart ..).ite ((h.periodStart ..).eachOf _ (fun k m hm => (hm.blendStart ..).leaveSafe ..))) i
  | shadowLoad _ _ => exact .of_run done (fun _ _ h => h.loadTick ..) i
  | triggerFire _ _ => exact .of_run done (fun _ _ h => h.trigger ..) i
  | adcConversionEnd _ _ _ => exact .of_run done (fun _ _ h => h.adcEnd ..) i
  | delayCal _ _ => exact .of_run done (fun _ _ h => h.delayCal ..) i
  | tripInputActive _ _ => exact .of_run done (fun _ _ h => (h.tripOn ..).chopTrip ..) i
  | tripInputInactive _ _ => exact .of_run done (fun _ _ h => h.tripOff ..) i
  | debugHaltEntry _ => exact .of_run done (fun _ _ h => h.debugHalt) i
  | debugHaltExit _ => exact .of_run done (fun _ _ h => h.debugExit) i
  | gateEdgeMeasured _ _ _ _ _ => exact .of_run done (fun _ _ h => h.upd.gateEdge ..) i
  | vdsFault _ _ _ => exact .of_run done (fun _ _ h => h.vdsFault ..) i
  | vdsAutoClear _ _ => exact .of_run done (fun _ _ h => h.vdsAuto ..) i
  | vgdFault _ _ => exact .of_run done (fun _ _ h => h.vgdFault ..) i
  | vgdRecovery _ => exact .of_run done (fun _ _ h => h.vgdBack) i
  | bstUv _ _ => exact .of_run done (fun _ _ h => h.bstLow ..) i
  | bstUvRecover _ _ => exact .of_run done (fun _ _ h => h.bstRise ..) i
  | shootReq _ _ => exact .of_run done (fun _ _ h => h.shoot ..) i
  | gateDoubleDrive _ _ => exact .of_run done (fun _ _ h => h.doubleDrive ..) i
  | directPulseEdge _ _ _ => exact .of_run done (fun _ _ h => h.directPulse ..) i
  | directEnableChange _ _ _ => exact .of_run done (fun _ _ h => h.directEnable ..) i
  | busOv1 _ _ => exact .of_run done (fun _ _ h => h.busOv1 ..) i
  | busOv1Clear _ _ => exact .of_run done (fun _ _ h => h.busOv1Clear ..) i
  | busOv2 _ _ => exact .of_run done (fun _ _ h => h.busOv2 ..) i
  | ov2Release _ _ => exact .of_run done (fun _ _ h => h.ov2Release ..) i
  | ovHard _ _ => exact .of_run done (fun _ _ h => h.ovHard ..) i
  | dsModFault _ _ => exact .of_run done (fun _ _ h => h.dsModFault ..) i
  | tempSample _ _ _ _ => exact .of_run done (fun _ _ h => h.tempSample ..) i
  | tempShutdown _ => exact .of_run done (fun _ _ h => h.tempShut) i
  | tempSensorFault _ => exact .of_run done (fun _ _ h => h.tempFault) i
  | crackMeasure _ _ => exact .of_run done (fun _ _ h => h.crackMeasure ..) i
  | hallTransition _ _ _ => exact .of_run done (fun _ _ h => h.hallMove ..) i
  | hallIllegal _ _ _ => exact .of_run done (fun _ _ h => (h.hallBad ..).loopsLost) i
  | hallSpeedTimeout _ _ =>
    refine .of_run done (fun _ _ h => ?_) i
    dsimp only
    split
    · exact (h.setHall ..).ite h
    · exact h
  | encoderEdge _ _ _ _ => exact .of_run done (fun _ _ h => h.encEdge ..) i
  | encZEdge _ _ => exact .of_run done (fun _ _ h => h.encZ ..) i
  | ppFrameEnd _ _ _ => exact .of_run done (fun _ _ h => h.ppEnd ..) i
  | ppPresent _ _ => exact .of_run done (fun _ _ h => h.ppPresent ..) i
  | ptFrameRelayed _ _ _ => exact .of_run done (fun _ _ h => h.ptFrame ..) i
  | ptLost _ _ => exact .of_run done (fun _ _ h => (h.ptLost ..).loopsLost) i
  | posFrozen _ _ => exact .of_run done (fun _ _ h => h.posFrozen ..) i
  | currentSequence _ _ _ => exact .of_run done (fun _ _ h => h.currentSequence ..) i
  | outerSequence _ _ => exact .of_run done (fun _ _ h => h.outerSequence ..) i
  | fallbackRampEnd _ _ => exact .of_run done (fun _ _ h => (((h.setLoop ..).takeSafe ..).ite (h.setLoop ..)).ite h) i
  | flyingStartProbe _ _ => exact .of_run done (fun _ _ h => h.flyProbe ..) i
  | sourceBlendEnd _ _ => exact .of_run done (fun _ _ h => h.blendEnd ..) i
  | profileTick _ _ => exact .of_run done (fun _ _ h => h.profileTick ..) i
  | refSwitchEdge _ _ _ => exact .of_run done (fun _ _ h => h.each _ (fun k m hm => hm.refEdge ..)) i
  | stepperStageUpdate _ _ => exact .of_run done (fun _ _ h => h.stepStage ..) i
  | stepIdleTimeout _ _ => exact .of_run done (fun _ _ h => (h.setStepper ..).ite h) i
  | stepHoldTimeout _ _ => exact .of_run done (fun _ _ h => h.stepHoldEnd ..) i
  | fnOuterPeriod _ _ => exact .of_run done (fun _ _ h => h.fnPeriod ..) i
  | chopperPrearmCheck _ _ => exact .of_run done (fun _ _ h => h.chopArm ..) i
  | chopperDisarm _ _ => exact .of_run done (fun _ _ h => h.chopDisarm ..) i
  | cmdLost _ _ => exact .of_run done (fun _ _ h => h.cmdLost ..) i
  | cmdHoldTimeout _ => exact .of_run done (fun _ _ h => h.cmdHold) i
  | rejoinHoldTimeout _ => exact .of_run done (fun _ _ h => h.breakaway.ite h) i
  | parkTimeout _ => exact .of_run done (fun _ _ h => h.parkDue) i
  | stopParkTimeout _ => exact .of_run done (fun _ _ h => h.finalStop) i
  | sbRefreshTimeout _ => exact .of_run done (fun _ _ h => h.sbRefreshLost) i
  | sbTestStart _ => exact .of_run done (fun _ _ h => h.sbTestStart ..) i
  | sbTestStep _ _ => exact .of_run done (fun _ _ h => h.sbTestStep ..) i
  | slackQuietTimeout _ _ => exact .of_run done (fun _ _ h => h.slackStart ..) i
  | brakeEstMismatch _ _ => exact .of_run done (fun _ _ h => h.estMismatch ..) i
  | refBlockRx _ _ _ => exact .of_run done (fun _ _ h => h.rxBlock _ _ _ _ (fun k m hm => hm.refRx ..)) i
  | cmpBlockRx _ _ _ => exact .of_run done (fun _ _ h => h.rxBlock _ _ _ _ (fun k m hm => hm.cmpTake ..)) i
  | withdrawBlockRx _ _ _ => exact .of_run done (fun _ _ h => h.rxBlock _ _ _ _ (fun k m hm => hm.withdrawRx ..)) i
  | authClaimRx _ _ _ => exact .of_run done (fun _ _ h => h.rxBlock _ _ _ _ (fun k m hm => hm.claimRx ..)) i
  | authAckRx _ _ _ => exact .of_run done (fun _ _ h => h.rxBlock _ _ _ _ (fun k m hm => hm.ackRx ..)) i
  | voteOutRx _ _ _ => exact .of_run done (fun _ _ h => h.rxBlock _ _ _ _ (fun k m hm => hm.voteOutRx ..)) i
  | tripNoticeRx _ _ _ => exact .of_run done (fun _ _ h => h.rxBlock _ _ _ _ (fun k m hm => hm.setPeer ..)) i
  | chopNoticeRx _ _ _ => exact .of_run done (fun _ _ h => h.rxBlock _ _ _ _ (fun k m hm => hm.chopNotice ..)) i
  | cycleBlockRx _ _ _ => exact .of_run done (fun _ _ h => h.rxBlock _ _ _ _ (fun k m hm => hm.cycleBlock ..)) i
  | mirrorBlockRx _ _ _ => exact .of_run done (fun _ _ h => h.rxBlock _ _ _ _ (fun k m hm => hm.mirrorRx ..)) i
  | healthBlockRx _ _ _ => exact .of_run done (fun _ _ h => h.rxBlock _ _ _ _ (fun k m hm => hm.healthRx ..)) i
  | resyncReqRx _ _ _ => exact .of_run done (fun _ _ h => h.rxBlock _ _ _ _ (fun k m hm => ((hm.resyncReq ..).ite (hm.send ..)).ite ((hm.shakeReq ..).ite hm))) i
  | resyncAckRx _ _ _ => exact .of_run done (fun _ _ h => h.rxBlock _ _ _ _ (fun k m hm => (hm.resyncAck ..).ite ((hm.setLnk ..).ite hm))) i
  | resetBlockRx _ _ _ => exact .of_run done (fun _ _ h => h.rxBlock _ _ _ _ (fun k m hm => hm.resetRx ..)) i
  | pairPosRx _ _ _ => exact .of_run done (fun _ _ h => h.rxBlock _ _ _ _ (fun k m hm => (hm.pairSlot ..).ite hm)) i
  | setpointBlockRx _ _ _ => exact .of_run done (fun _ _ h => h.rxBlock _ _ _ _ (fun k m hm => hm.setpointRx ..)) i
  | interlaneBadBlock _ _ => exact .of_run done (fun _ _ h => (h.badBlock ..).ite h) i
  | linkLossTimeout _ _ => exact .of_run done (fun _ _ h => (h.linkLost ..).ite h) i
  | linkRestore _ _ => exact .of_run done (fun _ _ h => h.linkBack ..) i
  | splitDecision _ => exact .of_run done (fun _ _ h => h.splitDecide) i
  | followerAgeTimeout _ => exact .of_run done (fun _ _ h => h.followerAge) i
  | tapFrameRx _ _ => exact .of_run done (fun _ _ h => h.tapRx ..) i
  | islandGraceEnd _ => exact .of_run done (fun _ _ h => h.graceEnd) i
  | resyncTimeout _ => exact .of_run done (fun _ _ h => h.rejoinFail.ite h) i
  | joinRampEnd _ _ =>
    refine .of_run done (fun _ _ h => ?_) i
    dsimp only
    split
    · exact h.upd.ite h
    · exact h
  | failoverLate _ => exact .of_run done (fun _ _ h => h.failoverLate) i
  | moduleStartShadow _ => exact .of_run done (fun _ _ h => h.moduleStart) i
  | clockFail _ _ => exact .of_run done (fun _ _ h => h.clockFail ..) i
  | limpRefTimeout _ => exact .of_run done (fun _ _ h => h.takeSafeAll.ite h) i
  | lockstepMismatch _ _ _ => exact .of_run done (fun _ _ h => h.lockstep ..) i
  | cycleStart _ => exact .of_run done (fun _ _ h => h.cycleStart) i
  | staticSlotInsert _ _ => exact .of_run done (fun _ _ h => h.insertStatic ..) i
  | dynamicFrameStart _ _ _ => exact .of_run done (fun _ _ h => h.dynStart ..) i
  | nitStart _ => exact .of_run done (fun _ _ h => h.nit.delayPoll) i
  | icbexRelay _ _ => exact .of_run done (fun _ _ h => h.relay ..) i
  | icbexFrameDrop _ _ => exact .of_run done (fun _ _ h => h.rxOwn _ _ (fun m k hm => hm)) i
  | dataFrameRx _ _ => exact .of_run done (fun _ _ h => h.rxOwn _ _ (fun m k hm => hm.staticRx ..)) i
  | fireflyRx _ _ => exact .of_run done (fun _ _ h => h.fireflyIn ..) i
  | hostStatusRx _ _ => exact .of_run done (fun _ _ h => h.rxOwn _ _ (fun m k hm => hm.hostStatus ..)) i
  | claimFrameRx _ _ => exact .of_run done (fun _ _ h => h.rxOwn _ _ (fun m k hm => (hm.qPass ..).claimFrame ..)) i
  | rejoinFrameRx _ _ => exact .of_run done (fun _ _ h => h.rxOwn _ _ (fun m k hm => (hm.qPass ..).rejoinRx ..)) i
  | delayReqRx _ _ => exact .of_run done (fun _ _ h => h.rxOwn _ _ (fun m k hm => hm.delayReq ..)) i
  | delayRespRx _ _ => exact .of_run done (fun _ _ h => h.rxOwn _ _ (fun m k hm => hm.delayResp ..)) i
  | listenTimeout _ => exact .of_run done (fun _ _ h => h.listenOver) i
  | linkDown _ _ => exact .of_run done (fun _ _ h => h.netLinkDown ..) i
  | linkUp _ _ => exact .of_run done (fun _ _ h => h.netLinkUp ..) i
  | slotWatchEnd _ => exact .of_run done (fun _ _ h => h.watchEnd) i
  | claimBackoffEnd _ => exact .of_run done (fun _ _ h => h.upd.ite h) i
  | cicadaRecognised _ _ => exact .of_run done (fun _ _ h => h.cicada ..) i
  | linkActivityWake _ _ => exact .of_run done (fun _ _ h => h.linkActivity ..) i
  | dlFrameSend _ _ => exact .of_run done (fun _ _ h => h.dlSend ..) i
  | dlFrameRx _ _ _ => exact .of_run done (fun _ _ h => h.dlRx ..) i
  | dlLossTimeout _ _ => exact .of_run done (fun _ _ h => h.dlLoss ..) i
  | powerOn _ _ => exact .of_run done (fun _ _ h => h.powerOn ..) i
  | wakeEvent _ _ => exact .of_run done (fun _ _ h => h.wake ..) i
  | regulatorsReady _ => exact .of_run done (fun _ _ h => h.regReady) i
  | regulatorTimeout _ _ => exact .of_run done (fun _ _ h => h.regTimeout ..) i
  | regulatorRetry _ => exact .of_run done (fun _ _ h => h.regRetry) i
  | crystalReady _ => exact .of_run done (fun _ _ h => h.crystalReady) i
  | crystalTimeout _ => exact .of_run done (fun _ _ h => h.crystalTimeout) i
  | pllLock _ => exact .of_run done (fun _ _ h => h.clocksUp.ite h) i
  | pllTimeout _ => exact .of_run done (fun _ _ h => h.pllTimeout) i
  | otpReadEnd _ => exact .of_run done (fun _ _ h => h.otpRead) i
  | comparatorTestEnd _ _ _ _ => exact .of_run done (fun _ _ h => h.comparatorEnd ..) i
  | imageVerifyEnd _ _ => exact .of_run done (fun _ _ h => h.imageVerify ..) i
  | bootHandover _ => exact .of_run done (fun _ _ h => h.handover) i
  | firmwareStartEnd _ => exact .of_run done (fun _ _ h => h.firmwareStart) i
  | checksEnd _ _ => exact .of_run done (fun _ _ h => h.checksEnd ..) i
  | bootWatchdog _ => exact .of_run done (fun _ _ h => h.bootWatchdog) i
  | retentionCheckEnd _ _ _ => exact .of_run done (fun _ _ h => h.retentionEnd ..) i
  | moltTrialTimeout _ => exact .of_run done (fun _ _ h => h.trialTimeout) i
  | holdupChargeTimeout _ _ => exact .of_run done (fun _ _ h => h.holdCheck ..) i
  | idleWakeEvent _ => exact .of_run done (fun _ _ h => h.upd.ite h) i
  | idleGateTimeout _ => exact .of_run done (fun _ _ h => h.upd.ite h) i
  | supplySag _ _ => exact .of_run done (fun _ _ h => h.supplySag ..) i
  | supplyRecover _ _ => exact .of_run done (fun _ _ h => h.supplyRecover ..) i
  | saveEntry _ _ => exact .of_run done (fun _ _ h => h.saveEntry ..) i
  | saveImageDone _ => exact .of_run done (fun _ _ h => h.saveDone) i
  | saveStop _ _ => exact .of_run done (fun _ _ h => h.saveStop ..) i
  | saveSupplyReturn _ => exact .of_run done (fun _ _ h => h.saveReturn) i
  | pwrEntryWithdraw _ => exact .of_run done (fun _ _ h => h.entryWithdraw) i
  | shutdownTestEnd _ => exact .of_run done (fun _ _ h => h.shutdownEnd) i
  | pwrEntryPersistEnd _ => exact .of_run done (fun _ _ h => h.entryPersistEnd) i
  | pwrPowerDownEnd _ => exact .of_run done (fun _ _ h => h.powerDownEnd) i
  | bistSectionEnd _ _ _ _ _ => exact .of_run done (fun _ _ h => h.bistSectionEnd ..) i
  | bistSectionTimeout _ _ _ _ _ => exact .of_run done (fun _ _ h => h.bistSectionTimeout ..) i
  | sramAccess _ _ => exact .of_run done (fun _ _ h => h.sramAccess ..) i
  | weevilPassStart _ => exact .of_run done (fun _ _ h => h.weevilStart) i
  | weevilPassEnd _ _ _ _ _ => exact .of_run done (fun _ _ h => h.weevilEnd ..) i
  | mramScrub _ _ _ => exact .of_run done (fun _ _ h => h.mramScrub ..) i
  | mramWriteEnd _ _ _ _ => exact .of_run done (fun _ _ h => h.mramWriteEnd ..) i
  | aonPowerLoss _ => exact .of_run done (fun _ _ h => h.aonLost) i
  | tapOtpProgram _ _ _ => exact .of_run done (fun _ _ h => h.tapProgram ..) i
  | spiReadTransaction _ _ => exact .of_run done (fun _ _ h => h.spiReadTxn ..) i
  | gateComparatorTest _ _ => exact .of_run done (fun _ _ h => h.gateTest ..) i

/-- Settles O6: each byte memory is in canonical form after the step as each command keeps it so. -/
theorem stepKeepsMemories : Obligations.StepKeepsMemories := by
  intro s t wf done i
  obtain rfl | ⟨c, rest, -, carried⟩ := step_cases done
  · exact wf i
  · have kept : Keeps (s.lane i) (t.lane i) := exec_keeps carried i
    obtain ⟨sram, mram, otp, ring⟩ := wf i
    exact ⟨kept.sram.ok sram, kept.mram.ok mram, (kept.otp otp).1, kept.ring.ok ring⟩

/-- Settles O7: each command keeps the programmed bits, as each programming of the OTP does. -/
theorem otpBitsStay : Obligations.OtpBitsStay := by
  intro s t i b wf done
  obtain rfl | ⟨c, rest, -, carried⟩ := step_cases done
  · exact BitVec.and_self
  · have kept : Keeps (s.lane i) (t.lane i) := exec_keeps carried i
    obtain ⟨-, -, otp, -⟩ := wf
    exact (kept.otp otp).2 b

end Sys2Proof.Machine
end

section
/-! Which parts of a lane a function can change, beside reports: a relation between two lanes that every function of the model meets for the parts it writes. -/

namespace Sys2Proof.Machine

set_option Elab.async false

/-- A part of a lane that a frame names: a record of the lane, without the part of it that is named on its own. -/
inductive Part where
  | st | link | params | held | gd | halfBridges | pwm | channels | sns | pos | freeze | mot | slots | le | mp | fn | red | net | ports | pwr | mem | mram | boot | bist
deriving DecidableEq

/-- The new value of a part that is named, the old one of a part that is not. -/
def Part.pick {α : Type} (ps : List Part) (p : Part) (old new : α) : α := if ps.elem p then new else old

/-- The lane l with the named parts, and what reports change, taken from l'. -/
def Lane.blend (ps : List Part) (l l' : Lane) : Lane :=
  { l' with
    now := l.now, st := Part.pick ps .st l.st l'.st, link := Part.pick ps .link l.link l'.link, params := Part.pick ps .params l.params l'.params,
    held := Part.pick ps .held l.held l'.held, gd := { Part.pick ps .gd l.gd l'.gd with hb := Part.pick ps .halfBridges l.gd.hb l'.gd.hb },
    pwm := { Part.pick ps .pwm l.pwm l'.pwm with ch := Part.pick ps .channels l.pwm.ch l'.pwm.ch }, sns := Part.pick ps .sns l.sns l'.sns,
    pos := { Part.pick ps .pos l.pos l'.pos with freeze := Part.pick ps .freeze l.pos.freeze l'.pos.freeze },
    mot := { Part.pick ps .mot l.mot l'.mot with slot := Part.pick ps .slots l.mot.slot l'.mot.slot }, le := Part.pick ps .le l.le l'.le,
    mp := Part.pick ps .mp l.mp l'.mp, fn := Part.pick ps .fn l.fn l'.fn, red := Part.pick ps .red l.red l'.red, net := Part.pick ps .net l.net l'.net,
    ports := Part.pick ps .ports l.ports l'.ports, pwr := Part.pick ps .pwr l.pwr l'.pwr,
    mem := { Part.pick ps .mem l.mem l'.mem with mram := Part.pick ps .mram l.mem.mram l'.mem.mram, logBuf := l'.mem.logBuf, logNext := l'.mem.logNext },
    boot := Part.pick ps .boot l.boot l'.boot, bist := Part.pick ps .bist l.bist l'.bist }

/-- l' is l but for reports and the named parts. -/
def Within (ps : List Part) (l l' : Lane) : Prop := l' = l.blend ps l'

@[simp] theorem Part.pick_self {α : Type} (ps : List Part) (p : Part) (x : α) : p.pick ps x x = x := by
  unfold Part.pick; split <;> rfl

/-- Of two changes the later one stands. -/
@[simp] theorem Part.pick_pick {α : Type} (ps : List Part) (p : Part) (x y z : α) : p.pick ps (p.pick ps x y) z = p.pick ps x z := by
  unfold Part.pick; split <;> rfl

/-- A part that is not named in the larger frame is not named in the smaller one. -/
theorem Part.pick_sub {α : Type} {ps qs : List Part} (sub : ps ⊆ qs) (p : Part) (x y : α) : p.pick qs x (p.pick ps x y) = p.pick ps x y := by
  unfold Part.pick
  by_cases hp : p ∈ ps
  · simp [hp, sub hp]
  · simp [hp]

theorem Lane.blend_blend_left (ps : List Part) (l m n : Lane) : (l.blend ps m).blend ps n = l.blend ps n := by
  simp only [Lane.blend, Part.pick_pick]
  congr 2 <;> (unfold Part.pick; split <;> rfl)

theorem Lane.blend_blend_right {ps qs : List Part} (sub : ps ⊆ qs) (l m : Lane) : l.blend qs (l.blend ps m) = l.blend ps m := by
  have mem (p : Part) (hp : ¬ p ∈ qs) : ¬ p ∈ ps := fun h => hp (sub h)
  simp only [Lane.blend, Part.pick_sub sub]
  congr 2 <;> (unfold Part.pick; split <;> simp_all)

theorem Within.refl {ps : List Part} (l : Lane) : Within ps l l := by
  simp [Within, Lane.blend]

theorem Within.trans {ps : List Part} {l m n : Lane} (h : Within ps l m) (k : Within ps m n) : Within ps l n := by
  unfold Within at h k ⊢
  rw [h, Lane.blend_blend_left] at k
  exact k

theorem Within.mono {ps qs : List Part} {l m : Lane} (h : Within ps l m) (sub : ps ⊆ qs) : Within qs l m := by
  unfold Within at h ⊢
  rw [h, Lane.blend_blend_right sub]

/-- An update of named parts alone. -/
theorem Within.upd {ps : List Part} {o l m : Lane} (h : Within ps o l) (e : m = l.blend ps m := by rfl) : Within ps o m := h.trans e

/-- A lane written out field by field, that differs from l in named parts alone. -/
theorem Within.lit {ps : List Part} {o l m : Lane} (e : m = l.blend ps m) (h : Within ps o l) : Within ps o m := h.trans e

/-- What changes some parts alone can follow what changes more. -/
theorem Within.then {ps qs : List Part} {o l m : Lane} (h : Within qs o l) (sub : ps ⊆ qs) (k : ∀ o, Within ps o l → Within ps o m) : Within qs o m :=
  h.trans ((k l (.refl l)).mono sub)

theorem Within.ite {ps : List Part} {o l m : Lane} {c : Prop} {_ : Decidable c} (h : Within ps o l) (h' : Within ps o m) : Within ps o (if c then l else m) := by
  split <;> assumption

theorem Within.foldl {α : Type} {ps : List Part} {o l : Lane} (h : Within ps o l) (xs : List α) {f : Lane → α → Lane} (hf : ∀ m x, Within ps o m → Within ps o (f m x)) :
    Within ps o (xs.foldl f l) :=
  List.foldlRecOn (motive := Within ps o) xs _ h fun m hm x _ => hf m x hm

theorem Within.when {ps : List Part} {o l : Lane} (h : Within ps o l) (c : Bool) {f : Lane → Lane} (hf : Within ps o (f l)) : Within ps o (l.when c f) := by
  unfold Lane.when; split <;> assumption

theorem Within.eachOf {ps : List Part} {o l : Lane} (h : Within ps o l) (ks : List Nat) {f : Nat → Lane → Lane} (hf : ∀ k m, Within ps o m → Within ps o (f k m)) :
    Within ps o (l.eachOf ks f) :=
  h.foldl ks fun m k hm => hf k m hm

theorem Within.each {ps : List Part} {o l : Lane} (h : Within ps o l) (n : Nat) {f : Nat → Lane → Lane} (hf : ∀ k m, Within ps o m → Within ps o (f k m)) :
    Within ps o (l.each n f) := h.eachOf (List.range n) hf

end Sys2Proof.Machine
end

section
/-! What each function of the model leaves as it was, one lemma a function: a change that stays within the parts which the function names stays within them (`Part`, `Within`).
Each proof follows the branches of its function and cites the lemmas of the functions that it calls; the parts of a lemma are those of its callees and of its own updates. -/

namespace Sys2Proof.Machine

set_option Elab.async false

theorem Within.releaseIds {ps : List Part} {o l : Lane} (h : Within ps o l) (ids : List Nat) (sub : [.held] ⊆ ps := by decide) : Within ps o (l.releaseIds ids) :=
  h.then sub fun _ h => h.upd

theorem Within.releaseOf {ps : List Part} {o l : Lane} (h : Within ps o l) (ids : List Nat) (inst : Nat) (sub : [.held] ⊆ ps := by decide) : Within ps o (l.releaseOf ids inst) :=
  h.then sub fun _ h => h.upd

theorem Within.settled {ps : List Part} {o l : Lane} (h : Within ps o l) (sub : [.held] ⊆ ps := by decide) : Within ps o l.settled :=
  h.then sub fun _ h => h.upd

theorem Within.pset {ps : List Part} {o l : Lane} (h : Within ps o l) (id : Nat) (inst : Nat) (v : List Nat) (sub : [.params] ⊆ ps := by decide) : Within ps o (l.pset id inst v) := by
  refine h.then sub fun _ h => ?_
  unfold Lane.pset
  exact h.upd.ite h.upd

theorem Within.mramPut {ps : List Part} {o l : Lane} (h : Within ps o l) (off : Nat) (bs : List Byte) (sub : [.mram] ⊆ ps := by decide) : Within ps o (l.mramPut off bs) :=
  h.then sub fun _ h => h.upd

theorem Within.mramErase {ps : List Part} {o l : Lane} (h : Within ps o l) (off n : Nat) (sub : [.mram] ⊆ ps := by decide) : Within ps o (l.mramErase off n) :=
  h.then sub fun _ h => h.upd

theorem Within.chrysUsed {ps : List Part} {o l : Lane} (h : Within ps o l) (sub : [.mram] ⊆ ps := by decide) : Within ps o l.chrysUsed := by
  refine h.then sub fun _ h => ?_
  unfold Lane.chrysUsed
  exact (h.mramPut ..).mramPut ..

theorem Within.bistStore {ps : List Part} {o l : Lane} (h : Within ps o l) (r : BistRec) (sub : [.mram, .bist] ⊆ ps := by decide) : Within ps o (l.bistStore r) := by
  refine h.then sub fun o h => ?_
  unfold Lane.bistStore
  generalize r.bytes = bs
  extract_lets m
  have hm : Within [.mram, .bist] o m := h.mramPut ..
  clear_value m
  exact hm.ite (hm.mramPut ..).upd

theorem Within.irqLine {ps : List Part} {o l : Lane} (h : Within ps o l) : Within ps o l.irqLine := by
  rw [Lane.irqLine_eq]
  exact h.then (List.nil_subset _) fun _ h => h.upd

theorem Within.irqSet {ps : List Part} {o l : Lane} (h : Within ps o l) (n : Nat) (sub : [] ⊆ ps := by decide) : Within ps o (l.irqSet n) := by
  rw [Lane.irqSet_eq]
  exact h.then sub fun _ h => h.upd

theorem Within.wired {ps : List Part} {o l : Lane} (h : Within ps o l) (i : LaneId) (sub : [] ⊆ ps := by decide) : Within ps o (l.wired i) :=
  h.then sub fun _ h => h.upd

theorem Within.freeNat {ps : List Part} {o l : Lane} (h : Within ps o l) (sub : [] ⊆ ps := by decide) : Within ps o (l.freeNat).2 :=
  h.then sub fun _ h => h.upd

theorem Within.setQ {ps : List Part} {o l : Lane} (h : Within ps o l) (n : Nat) (q : Queue) (sub : [] ⊆ ps := by decide) : Within ps o (l.setQ n q) := by
  rw [Lane.setQ_eq]
  exact h.then sub fun _ h => h.upd

theorem Within.qPut {ps : List Part} {o l : Lane} (h : Within ps o l) (n : Nat) (flags : Nat) (data : List Byte) (sub : [] ⊆ ps := by decide) : Within ps o (l.qPut n flags data) := by
  rw [Lane.qPut_eq]
  exact h.then sub fun _ h => h.upd

theorem Within.qOverwrite {ps : List Part} {o l : Lane} (h : Within ps o l) (n : Nat) (data : List Byte) (sub : [] ⊆ ps := by decide) : Within ps o (l.qOverwrite n data) := by
  rw [Lane.qOverwrite_eq]
  exact h.then sub fun _ h => h.upd

theorem Within.qDropNew {ps : List Part} {o l : Lane} (h : Within ps o l) (n : Nat) (data : List Byte) (sub : [] ⊆ ps := by decide) : Within ps o (l.qDropNew n data) := by
  rw [Lane.qDropNew_eq]
  exact h.then sub fun _ h => h.upd

theorem Within.qPutMsg {ps : List Part} {o l : Lane} (h : Within ps o l) (n : Nat) (m : List Byte) (sub : [] ⊆ ps := by decide) : Within ps o (l.qPutMsg n m) := by
  rw [Lane.qPutMsg_eq]
  exact h.then sub fun _ h => h.upd

theorem Within.qDropN {ps : List Part} {o l : Lane} (h : Within ps o l) (n : Nat) (k : Nat) (sub : [] ⊆ ps := by decide) : Within ps o (l.qDropN n k) := by
  rw [Lane.qDropN_eq]
  exact h.then sub fun _ h => h.upd

theorem Within.qPass {ps : List Part} {o l : Lane} (h : Within ps o l) (n : Nat) (data : List Byte) (sub : [] ⊆ ps := by decide) : Within ps o (l.qPass n data) := by
  refine h.then sub fun _ h => ?_
  unfold Lane.qPass
  exact (h.qPut ..).qDropN ..

theorem Within.event {ps : List Part} {o l : Lane} (h : Within ps o l) (code : Nat) (arg : Nat) (sub : [] ⊆ ps := by decide) : Within ps o (l.event code arg) := by
  rw [Lane.event_eq]
  exact h.then sub fun _ h => h.upd

theorem Within.eventU {ps : List Part} {o l : Lane} (h : Within ps o l) (code : Nat) (sub : [] ⊆ ps := by decide) : Within ps o (l.eventU code) := by
  rw [Lane.eventU_eq]
  exact h.then sub fun _ h => h.upd

theorem Within.aonEvent {ps : List Part} {o l : Lane} (h : Within ps o l) (code : Nat) (arg : Nat) (sub : [.pwr] ⊆ ps := by decide) : Within ps o (l.aonEvent code arg) :=
  h.then sub fun _ h => h.upd

theorem Within.complete {ps : List Part} {o l : Lane} (h : Within ps o l) (k : CmdKey) (status : Nat) (sub : [] ⊆ ps := by decide) : Within ps o (l.complete k status) := by
  rw [Lane.complete_eq]
  exact h.then sub fun _ h => h.upd

theorem Within.completeOpt {ps : List Part} {o l : Lane} (h : Within ps o l) (k : Option CmdKey) (status : Nat) (sub : [] ⊆ ps := by decide) : Within ps o (l.completeOpt k status) := by
  rw [Lane.completeOpt_eq]
  exact h.then sub fun _ h => h.upd

theorem Within.setSt {ps : List Part} {o l : Lane} (h : Within ps o l) (st : LaneSt) (sub : [.st] ⊆ ps := by decide) : Within ps o (l.setSt st) := by
  refine h.then sub fun _ h => ?_
  unfold Lane.setSt
  exact h.ite ((h.upd.irqSet ..).irqLine)

theorem Within.setLnk {ps : List Part} {o l : Lane} (h : Within ps o l) (p : LaneId) (k : Link) (sub : [.link] ⊆ ps := by decide) : Within ps o (l.setLnk p k) :=
  h.then sub fun _ h => h.upd

theorem Within.send {ps : List Part} {o l : Lane} (h : Within ps o l) (p : LaneId) (urgent : Bool) (kind : Nat) (payload : List Byte) (dest : Option LaneId) (side : Option LaneNews) (sub : [.link] ⊆ ps := by decide) : Within ps o (l.send p urgent kind payload dest side) := by
  refine h.then sub fun _ h => ?_
  unfold Lane.send
  exact h.ite (h.setLnk ..)

theorem Within.sendBoth {ps : List Part} {o l : Lane} (h : Within ps o l) (urgent : Bool) (kind : Nat) (payload : List Byte) (side : Option LaneNews) (sub : [.link] ⊆ ps := by decide) : Within ps o (l.sendBoth urgent kind payload side) := by
  refine h.then sub fun _ h => ?_
  unfold Lane.sendBoth
  exact (h.send ..).send ..

theorem Within.setCan {ps : List Part} {o l : Lane} (h : Within ps o l) (port : Nat) (c : Can) (sub : [.ports] ⊆ ps := by decide) : Within ps o (l.setCan port c) :=
  h.then sub fun _ h => h.upd

theorem Within.canSend {ps : List Part} {o l : Lane} (h : Within ps o l) (port : Nat) (id : Nat) (seg : Nat) (msgId : Nat) (body : List Byte) (fd : Bool) (sub : [.ports] ⊆ ps := by decide) : Within ps o (l.canSend port id seg msgId body fd) :=
  h.then sub fun _ h => h.upd

theorem Within.setCnt {ps : List Part} {o l : Lane} (h : Within ps o l) (tr : Transport) (c : MbCounters) (sub : [] ⊆ ps := by decide) : Within ps o (l.setCnt tr c) := by
  rw [Lane.setCnt_eq]
  exact h.then sub fun _ h => h.upd

theorem Within.respSend {ps : List Part} {o l : Lane} (h : Within ps o l) (k : CmdKey) (msg : List Byte) (sub : [.ports] ⊆ ps := by decide) : Within ps o (l.respSend k msg) := by
  rw [Lane.respSend_eq]
  exact h.then sub fun _ h => h.upd

theorem Within.respFlush {ps : List Part} {o l : Lane} (h : Within ps o l) (sub : [.ports] ⊆ ps := by decide) : Within ps o l.respFlush := by
  refine h.then sub fun _ h => ?_
  unfold Lane.respFlush
  exact h.upd.foldl _ (fun m k hm => hm.respSend ..)

theorem Within.answer {ps : List Part} {o l : Lane} (h : Within ps o l) (k : CmdKey) (status : Nat) (res : List Byte) (sub : [.ports] ⊆ ps := by decide) : Within ps o (l.answer k status res) := by
  rw [Lane.answer_eq]
  exact h.then sub fun _ h => h.upd

theorem Within.answerOpt {ps : List Part} {o l : Lane} (h : Within ps o l) (k : Option CmdKey) (status : Nat) (sub : [.ports] ⊆ ps := by decide) : Within ps o (l.answerOpt k status) := by
  refine h.then sub fun _ h => ?_
  unfold Lane.answerOpt
  split
  · exact h.answer ..
  · exact h

theorem Within.accept {ps : List Part} {o l : Lane} (h : Within ps o l) (k : CmdKey) (sub : [] ⊆ ps := by decide) : Within ps o (accept l k).1 :=
  h.then sub fun _ h => h.upd

theorem Within.idleToRun {ps : List Part} {o l : Lane} (h : Within ps o l) (sub : [.pwr] ⊆ ps := by decide) : Within ps o l.idleToRun := by
  refine h.then sub fun _ h => ?_
  unfold Lane.idleToRun
  exact h.upd.ite h

theorem Within.closeAll {ps : List Part} {o l : Lane} (h : Within ps o l) (sub : [] ⊆ ps := by decide) : Within ps o l.closeAll :=
  h.then sub fun _ h => h.upd

theorem Within.setLoop {ps : List Part} {o l : Lane} (h : Within ps o l) (k : Nat) (x : LoopSlot) (sub : [.le] ⊆ ps := by decide) : Within ps o (l.setLoop k x) :=
  h.then sub fun _ h => h.upd

theorem Within.setMotor {ps : List Part} {o l : Lane} (h : Within ps o l) (k : Nat) (x : MotSlot) (sub : [.slots] ⊆ ps := by decide) : Within ps o (l.setMotor k x) :=
  h.then sub fun _ h => h.upd

theorem Within.setGen {ps : List Part} {o l : Lane} (h : Within ps o l) (k : Nat) (x : Gen) (sub : [.mp] ⊆ ps := by decide) : Within ps o (l.setGen k x) :=
  h.then sub fun _ h => h.upd

theorem Within.setFunc {ps : List Part} {o l : Lane} (h : Within ps o l) (k : Nat) (x : Fn) (sub : [.fn] ⊆ ps := by decide) : Within ps o (l.setFunc k x) :=
  h.then sub fun _ h => h.upd

theorem Within.streamFlush {ps : List Part} {o l : Lane} (h : Within ps o l) (i : Nat) (sub : [] ⊆ ps := by decide) : Within ps o (l.streamFlush i) :=
  h.then sub fun _ h => h.upd

theorem Within.spiErr {ps : List Part} {o l : Lane} (h : Within ps o l) (crc : Bool) (frame : Bool) (addr : Bool) (ovr : Bool) (nos : Bool) (sub : [] ⊆ ps := by decide) : Within ps o (l.spiErr crc frame addr ovr nos) := by
  refine h.then sub fun _ h => ?_
  unfold Lane.spiErr
  exact (h.upd.irqSet ..).ite h

theorem Within.ringTake {ps : List Part} {o l : Lane} (h : Within ps o l) (n k : Nat) (sub : [] ⊆ ps := by decide) : Within ps o (l.ringTake n k) := by
  induction k generalizing l with
  | zero => exact h
  | succ k ih => exact ih (h.setQ _ _ sub)

theorem Within.setReasms {ps : List Part} {o l : Lane} (h : Within ps o l) (tr : Transport) (r : List Reasm) (sub : [] ⊆ ps := by decide) : Within ps o (l.setReasms tr r) := by
  refine h.then sub fun _ h => ?_
  unfold Lane.setReasms
  exact h.upd.ite h.upd

theorem Within.reasmFail {ps : List Part} {o l : Lane} (h : Within ps o l) (tr : Transport) (sub : [] ⊆ ps := by decide) : Within ps o (l.reasmFail tr) := by
  refine h.then sub fun _ h => ?_
  unfold Lane.reasmFail
  exact (h.setCnt ..).eventU ..

theorem Within.msgComplete {ps : List Part} {o l : Lane} (h : Within ps o l) (tr : Transport) (port : Nat) (host : Nat) (msgId : Nat) (bcast : Bool) (b : List Byte) (sub : [.ports] ⊆ ps := by decide) : Within ps o (l.msgComplete tr port host msgId bcast b) := by
  refine h.then sub fun _ h => ?_
  unfold Lane.msgComplete
  refine (h.reasmFail ..).ite (h.upd.ite ?_)
  split
  · exact (h.setCnt ..).respSend ..
  · exact (h.qPutMsg ..).ite ((h.setCnt ..).eventU ..)

theorem Within.segment {ps : List Part} {o l : Lane} (h : Within ps o l) (tr : Transport) (port : Nat) (host : Nat) (seg : Nat) (msgId : Nat) (bcast : Bool) (b : List Byte) (sub : [.ports] ⊆ ps := by decide) : Within ps o (l.segment tr port host seg msgId bcast b) := by
  refine h.then sub fun _ h => ?_
  unfold Lane.segment
  refine .ite (.ite (.msgComplete ?_ ..) (.reasmFail ?_ ..)) (.ite (.ite (.reasmFail ?_ ..) (.ite (.reasmFail ?_ ..) (.setReasms ?_ ..))) ?_)
  · split
    · exact (h.setReasms ..).reasmFail ..
    · exact h
  · split
    · exact (h.setReasms ..).reasmFail ..
    · exact h
  · split
    · exact (h.setReasms ..).reasmFail ..
    · exact h
  · split
    · exact (h.setReasms ..).reasmFail ..
    · exact h
  · split
    · exact (h.setReasms ..).reasmFail ..
    · exact h
  · split
    · exact h.reasmFail ..
    · refine .ite ?_ (((h.setReasms ..).msgComplete ..).ite (h.setReasms ..))
      split
      · exact (h.setReasms ..).reasmFail ..
      · exact h

theorem Within.setHb {ps : List Part} {o l : Lane} (h : Within ps o l) (k : Nat) (x : HalfBridge) (sub : [.halfBridges] ⊆ ps := by decide) : Within ps o (l.setHb k x) :=
  h.then sub fun _ h => h.upd

theorem Within.setGch {ps : List Part} {o l : Lane} (h : Within ps o l) (k : Nat) (x : GateCh) (sub : [.gd] ⊆ ps := by decide) : Within ps o (l.setGch k x) :=
  h.then sub fun _ h => h.upd

theorem Within.setTb {ps : List Part} {o l : Lane} (h : Within ps o l) (k : Nat) (x : TimeBase) (sub : [.pwm] ⊆ ps := by decide) : Within ps o (l.setTb k x) :=
  h.then sub fun _ h => h.upd

theorem Within.setPch {ps : List Part} {o l : Lane} (h : Within ps o l) (k : Nat) (x : PwmCh) (sub : [.channels] ⊆ ps := by decide) : Within ps o (l.setPch k x) :=
  h.then sub fun _ h => h.upd

theorem Within.setSrc {ps : List Part} {o l : Lane} (h : Within ps o l) (k : Nat) (x : TripSrc) (sub : [.pwm] ⊆ ps := by decide) : Within ps o (l.setSrc k x) :=
  h.then sub fun _ h => h.upd

theorem Within.setStepper {ps : List Part} {o l : Lane} (h : Within ps o l) (k : Nat) (x : Stepper) (sub : [.mp] ⊆ ps := by decide) : Within ps o (l.setStepper k x) :=
  h.then sub fun _ h => h.upd

theorem Within.injAbort {ps : List Part} {o l : Lane} (h : Within ps o l) (j : Nat) (sub : [.le] ⊆ ps := by decide) : Within ps o (l.injAbort j) := by
  refine h.then sub fun _ h => ?_
  unfold Lane.injAbort
  exact ((h.setLoop ..).eventU ..).ite h

theorem Within.genHalt {ps : List Part} {o l : Lane} (h : Within ps o l) (g : Nat) (status : Nat) (sub : [.mp] ⊆ ps := by decide) : Within ps o (l.genHalt g status) := by
  refine h.then sub fun _ h => ?_
  unfold Lane.genHalt
  exact (h.setGen ..).foldl _ (fun m k hm => hm.complete ..)

theorem Within.stepOff {ps : List Part} {o l : Lane} (h : Within ps o l) (k : Nat) (sub : [.mp] ⊆ ps := by decide) : Within ps o (l.stepOff k) := by
  refine h.then sub fun _ h => ?_
  unfold Lane.stepOff
  exact ((h.setStepper ..).eventU ..).ite h

theorem Within.stepTrip {ps : List Part} {o l : Lane} (h : Within ps o l) (k : Nat) (sub : [.mp] ⊆ ps := by decide) : Within ps o (l.stepTrip k) := by
  refine h.then sub fun _ h => ?_
  unfold Lane.stepTrip
  exact h.ite (((h.genHalt ..).ite ((h.genHalt ..).stepOff ..)).setStepper ..)

theorem Within.stepStand {ps : List Part} {o l : Lane} (h : Within ps o l) (k : Nat) (sub : [.mp] ⊆ ps := by decide) : Within ps o (l.stepStand k) := by
  refine h.then sub fun _ h => ?_
  unfold Lane.stepStand
  split
  · exact h.ite ((h.genHalt ..).setStepper ..)
  · exact h

theorem Within.takeSafe {ps : List Part} {o l : Lane} (h : Within ps o l) (k : Nat) (sub : [.held, .slots, .mp] ⊆ ps := by decide) : Within ps o (l.takeSafe k) := by
  refine h.then sub fun _ h => ?_
  unfold Lane.takeSafe
  exact h.ite (((h.ite (h.releaseOf ..)).stepStand ..).setMotor ..)

theorem Within.takeSafeAll {ps : List Part} {o l : Lane} (h : Within ps o l) (sub : [.held, .slots, .mp] ⊆ ps := by decide) : Within ps o l.takeSafeAll := by
  refine h.then sub fun _ h => ?_
  unfold Lane.takeSafeAll
  exact h.each _ (fun k m hm => hm.takeSafe ..)

theorem Within.allOff {ps : List Part} {o l : Lane} (h : Within ps o l) (sub : [.slots, .mp] ⊆ ps := by decide) : Within ps o l.allOff := by
  refine h.then sub fun _ h => ?_
  unfold Lane.allOff
  exact h.each _ (fun k m hm => (hm.setMotor ..).stepOff ..)

theorem Within.windFault {ps : List Part} {o l : Lane} (h : Within ps o l) (k : Nat) (sub : [.slots] ⊆ ps := by decide) : Within ps o (l.windFault k) :=
  h.then sub fun _ h => h.upd

theorem Within.loopSafe {ps : List Part} {o l : Lane} (h : Within ps o l) (k : Nat) (sub : [.held, .le] ⊆ ps := by decide) : Within ps o (l.loopSafe k) := by
  refine h.then sub fun _ h => ?_
  unfold Lane.loopSafe
  exact h.eachOf _ (fun k1 m hm => ((((hm.injAbort ..).releaseOf ..).setLoop ..).event ..).ite (hm.injAbort ..))

theorem Within.flyBack {ps : List Part} {o l : Lane} (h : Within ps o l) (k : Nat) (sub : [.held, .slots, .le, .mp] ⊆ ps := by decide) : Within ps o (l.flyBack k) := by
  refine h.then sub fun _ h => ?_
  unfold Lane.flyBack
  exact ((h.setMotor ..).takeSafe ..).loopSafe ..

theorem Within.flyStop {ps : List Part} {o l : Lane} (h : Within ps o l) (k : Nat) (sub : [.held, .slots, .le, .mp] ⊆ ps := by decide) : Within ps o (l.flyStop k) := by
  refine h.then sub fun _ h => ?_
  unfold Lane.flyStop
  exact (h.flyBack ..).ite h

theorem Within.slotLoaded {ps : List Part} {o l : Lane} (h : Within ps o l) (k : Nat) (sub : [.slots] ⊆ ps := by decide) : Within ps o (l.slotLoaded k) := by
  refine h.then sub fun _ h => ?_
  unfold Lane.slotLoaded
  exact (h.setMotor ..).ite h

theorem Within.openFrame {ps : List Part} {o l : Lane} (h : Within ps o l) (ch : Nat) (sub : [.channels] ⊆ ps := by decide) : Within ps o (l.openFrame ch) :=
  h.then sub fun _ h => h.upd

theorem Within.freshStart {ps : List Part} {o l : Lane} (h : Within ps o l) (ch : Nat) (sub : [.channels] ⊆ ps := by decide) : Within ps o (l.freshStart ch) :=
  h.then sub fun _ h => h.upd

theorem Within.takeLevel {ps : List Part} {o l : Lane} (h : Within ps o l) (ch : Nat) (sub : [.channels] ⊆ ps := by decide) : Within ps o (l.takeLevel ch) :=
  h.then sub fun _ h => h.upd

theorem Within.setPeer {ps : List Part} {o l : Lane} (h : Within ps o l) (p : LaneId) (v : PeerView) (sub : [.red] ⊆ ps := by decide) : Within ps o (l.setPeer p v) :=
  h.then sub fun _ h => h.upd

theorem Within.sendTo {ps : List Part} {o l : Lane} (h : Within ps o l) (p : LaneId) (urgent : Bool) (kind : Nat) (payload : List Byte) (sub : [.link] ⊆ ps := by decide) : Within ps o (l.sendTo p urgent kind payload) := by
  refine h.then sub fun _ h => ?_
  unfold Lane.sendTo
  exact (h.send ..).ite (h.foldl _ (fun m k hm => hm.send ..))

theorem Within.addInst {ps : List Part} {o l : Lane} (h : Within ps o l) (cls : Nat) (lane : Nat) (key : Nat) (sub : [.red] ⊆ ps := by decide) : Within ps o (l.addInst cls lane key) := by
  refine h.then sub fun _ h => ?_
  unfold Lane.addInst
  exact h.ite h.upd

theorem Within.dropInst {ps : List Part} {o l : Lane} (h : Within ps o l) (cls : Nat) (lane : Nat) (key : Nat) (sub : [.red] ⊆ ps := by decide) : Within ps o (l.dropInst cls lane key) :=
  h.then sub fun _ h => h.upd

theorem Within.setCell {ps : List Part} {o l : Lane} (h : Within ps o l) (c : Cell) (sub : [.fn] ⊆ ps := by decide) : Within ps o (l.setCell c) :=
  h.then sub fun _ h => h.upd

theorem Within.cellFollow {ps : List Part} {o l : Lane} (h : Within ps o l) (sub : [.fn] ⊆ ps := by decide) : Within ps o l.cellFollow := by
  refine h.then sub fun _ h => ?_
  unfold Lane.cellFollow
  split
  · exact h.ite (h.setCell ..)
  · exact h.ite (h.setCell ..)
  · exact h.ite (h.setCell ..)
  · exact h
  · exact h
  · exact h.ite (h.setCell ..)

theorem Within.dupStart {ps : List Part} {o l : Lane} (h : Within ps o l) (sub : [.red] ⊆ ps := by decide) : Within ps o l.dupStart := by
  refine h.then sub fun _ h => ?_
  unfold Lane.dupStart
  exact h.ite (h.upd.eventU ..)

theorem Within.dupEnd {ps : List Part} {o l : Lane} (h : Within ps o l) (sub : [.red] ⊆ ps := by decide) : Within ps o l.dupEnd := by
  refine h.then sub fun _ h => ?_
  unfold Lane.dupEnd
  exact (h.upd.eventU ..).ite h

theorem Within.withdraw {ps : List Part} {o l : Lane} (h : Within ps o l) (code : Nat) (cause : Nat) (sub : [.link] ⊆ ps := by decide) : Within ps o (l.withdraw code cause) := by
  refine h.then sub fun _ h => ?_
  unfold Lane.withdraw
  exact h.sendBoth ..

theorem Within.stepDown {ps : List Part} {o l : Lane} (h : Within ps o l) (sub : [.red] ⊆ ps := by decide) : Within ps o l.stepDown := by
  refine h.then sub fun _ h => ?_
  unfold Lane.stepDown
  exact (h.upd.eventU ..).ite h

theorem Within.testsGone {ps : List Part} {o l : Lane} (h : Within ps o l) (sub : [.gd, .halfBridges, .bist] ⊆ ps := by decide) : Within ps o l.testsGone :=
  h.then sub fun _ h => h.upd

theorem Within.logSilent {ps : List Part} {o l : Lane} (h : Within ps o l) (sub : [] ⊆ ps := by decide) : Within ps o l.logSilent :=
  h.then sub fun _ h => h.upd

theorem Within.failSilent {ps : List Part} {o l : Lane} (h : Within ps o l) (cause : Nat) (sub : [.st, .link, .gd, .halfBridges, .slots, .mp, .fn, .red, .pwr, .mem, .boot, .bist] ⊆ ps := by decide) : Within ps o (l.failSilent cause) := by
  refine h.then sub fun o h => ?_
  unfold Lane.failSilent
  refine h.ite ?_
  extract_lets m
  have hm : Within [.st, .link, .gd, .halfBridges, .slots, .mp, .fn, .red, .pwr, .mem, .boot, .bist] o m := h.stepDown.testsGone
  clear_value m
  exact ((hm.upd.setSt .failSilent).logSilent.withdraw 11 cause).allOff.cellFollow

theorem Within.enterLimp {ps : List Part} {o l : Lane} (h : Within ps o l) (sub : [.st, .link, .held, .slots, .mp, .fn, .red] ⊆ ps := by decide) : Within ps o l.enterLimp := by
  refine h.then sub fun _ h => ?_
  unfold Lane.enterLimp
  exact h.ite (.cellFollow (.takeSafeAll (.withdraw (.setSt (.lit rfl h.stepDown) ..) ..)))

theorem Within.grdTake {ps : List Part} {o l : Lane} (h : Within ps o l) (sub : [.net] ⊆ ps := by decide) : Within ps o l.grdTake :=
  h.then sub fun _ h => h.upd

theorem Within.netListen {ps : List Part} {o l : Lane} (h : Within ps o l) (sub : [.net] ⊆ ps := by decide) : Within ps o l.netListen :=
  h.then sub fun _ h => h.upd

theorem Within.netStart {ps : List Part} {o l : Lane} (h : Within ps o l) (st : NetSt) (sub : [.net] ⊆ ps := by decide) : Within ps o (l.netStart st) :=
  h.then sub fun _ h => h.upd

theorem Within.netEnter {ps : List Part} {o l : Lane} (h : Within ps o l) (sub : [.net] ⊆ ps := by decide) : Within ps o l.netEnter := by
  refine h.then sub fun _ h => ?_
  unfold Lane.netEnter
  exact h.ite ((h.netListen.netStart ..).ite h.netListen)

theorem Within.enterSync {ps : List Part} {o l : Lane} (h : Within ps o l) (sub : [.st, .held, .slots, .mp, .fn, .red, .net, .pwr] ⊆ ps := by decide) : Within ps o l.enterSync := by
  refine h.then sub fun _ h => ?_
  unfold Lane.enterSync
  exact .completeOpt (.netEnter (.cellFollow (.takeSafeAll (.lit rfl (h.ite (h.setSt ..)))))) ..

theorem Within.tripBack {ps : List Part} {o l : Lane} (h : Within ps o l) (n : Nat) (code : Nat) (sub : [.pwm, .channels] ⊆ ps := by decide) : Within ps o (l.tripBack n code) := by
  refine h.then sub fun _ h => ?_
  unfold Lane.tripBack
  exact h.ite ((h.setSrc ..).eachOf _ (fun k m hm => hm.setPch ..))

theorem Within.vdsBack {ps : List Part} {o l : Lane} (h : Within ps o l) (k : Nat) (v : Nat) (sub : [.halfBridges] ⊆ ps := by decide) : Within ps o (l.vdsBack k v) :=
  h.then sub fun _ h => h.upd

theorem Within.chrysBase {ps : List Part} {o l : Lane} (h : Within ps o l) (sub : [.halfBridges, .pwm, .channels, .pwr, .mram] ⊆ ps := by decide) : Within ps o l.chrysBase := by
  refine h.then sub fun o h => ?_
  have used := h.chrysUsed
  unfold Lane.chrysBase
  split
  · exact h
  · refine h.ite ?_
    generalize l.chrysUsed = m at used ⊢
    exact (Within.each (Within.upd used) 14 fun _ _ hx => hx.tripBack ..).each 16 fun _ _ hx => hx.vdsBack ..

theorem Within.refused {ps : List Part} {o l : Lane} (h : Within ps o l) (code : Nat) (src : Nat) (abort : Bool) (sub : [.pwr] ⊆ ps := by decide) : Within ps o (l.refused code src abort) := by
  refine h.then sub fun _ h => ?_
  unfold Lane.refused
  exact h.upd.event ..

theorem Within.requestNew {ps : List Part} {o l : Lane} (h : Within ps o l) (target : Nat) (key : Option CmdKey) (sub : [.held, .pwr] ⊆ ps := by decide) : Within ps o (l.requestNew target key) := by
  refine h.then sub fun o h => ?_
  have idle : Within [.held, .pwr] o { (l.releaseIds [0xC100, 0xC101, 0xD100, 0xD101]).closeAll with pwr.pstate := 1, pwr.gateAt := none } := (h.releaseIds _).closeAll.upd
  unfold Lane.requestNew
  exact (idle.completeOpt ..).ite h.upd

theorem Within.requestWaiting {ps : List Part} {o l : Lane} (h : Within ps o l) (sub : [.held, .pwr] ⊆ ps := by decide) : Within ps o l.requestWaiting := by
  refine h.then sub fun _ h => ?_
  unfold Lane.requestWaiting
  split
  · exact h
  · dsimp only
    split
    · exact h.upd.refused ..
    · exact h.upd.requestNew ..

theorem Within.startDone {ps : List Part} {o l : Lane} (h : Within ps o l) (sub : [.st, .held, .halfBridges, .pwm, .channels, .slots, .mp, .fn, .red, .net, .pwr, .mram] ⊆ ps := by decide) : Within ps o l.startDone := by
  refine h.then sub fun _ h => ?_
  unfold Lane.startDone
  exact h.upd.enterSync.chrysBase.requestWaiting

theorem Within.enterIsland {ps : List Part} {o l : Lane} (h : Within ps o l) (sub : [.st, .held, .slots, .mp, .fn, .red] ⊆ ps := by decide) : Within ps o l.enterIsland := by
  refine h.then sub fun _ h => ?_
  unfold Lane.enterIsland
  exact .eventU (.cellFollow (.takeSafeAll (.dupEnd (.setSt (.lit rfl (h.stepDown.releaseIds ..)) ..)))) ..

theorem Within.bistRecord {ps : List Part} {o l : Lane} (h : Within ps o l) (r : BistRun) (sub : [.mram, .bist] ⊆ ps := by decide) : Within ps o (l.bistRecord r) := by
  refine h.then sub fun _ h => ?_
  unfold Lane.bistRecord
  exact .ite (.lit rfl (h.bistStore ..)) (h.bistStore ..)

theorem Within.bistPut {ps : List Part} {o l : Lane} (h : Within ps o l) (r : BistRun) (sig : W32) (count : Nat) (status : Nat) (detail : W32) (sub : [] ⊆ ps := by decide) : Within ps o (l.bistPut r sig count status detail).1 := by
  refine h.then sub fun o h => ?_
  have told := h.event (0xD100 + status) r.section_
  exact Within.when told (r.section_ == 7 && status != 1) (f := fun l => l.eventU 0x2108) (told.eventU 0x2108)

theorem Within.startTestEnd {ps : List Part} {o l : Lane} (h : Within ps o l) (r : BistRun) (sub : [.st, .link, .held, .gd, .halfBridges, .pwm, .channels, .slots, .mp, .fn, .red, .net, .pwr, .mem, .mram, .boot, .bist] ⊆ ps := by decide) : Within ps o (l.startTestEnd r) := by
  refine h.then sub fun _ h => ?_
  unfold Lane.startTestEnd
  exact .ite (.failSilent (.lit rfl (h.upd.ite h)) ..) ((h.upd.ite h).startDone)

theorem Within.bistFinish {ps : List Part} {o l : Lane} (h : Within ps o l) (r : BistRun) (sub : [.st, .link, .held, .gd, .halfBridges, .pwm, .channels, .slots, .mp, .fn, .red, .net, .pwr, .mem, .mram, .boot, .bist] ⊆ ps := by decide) : Within ps o (l.bistFinish r) := by
  refine h.then sub fun _ h => ?_
  unfold Lane.bistFinish
  dsimp only
  split
  · exact .lit rfl (h.upd.bistRecord ..)
  · exact (h.upd.bistRecord ..).startTestEnd ..
  · exact (h.upd.bistRecord ..).completeOpt ..

theorem Within.bistAbort {ps : List Part} {o l : Lane} (h : Within ps o l) (sub : [.st, .link, .held, .gd, .halfBridges, .pwm, .channels, .slots, .mp, .fn, .red, .net, .pwr, .mem, .mram, .boot, .bist] ⊆ ps := by decide) : Within ps o l.bistAbort := by
  refine h.then sub fun _ h => ?_
  unfold Lane.bistAbort
  split
  · exact h
  · exact h.ite ((h.freeNat.bistPut ..).bistFinish ..)

theorem Within.gdTestEnd {ps : List Part} {o l : Lane} (h : Within ps o l) (pass : List Byte) (count : Nat) (aborted : Bool) (sub : [.gd, .halfBridges, .ports] ⊆ ps := by decide) : Within ps o (l.gdTestEnd pass count aborted) := by
  refine h.then sub fun _ h => ?_
  unfold Lane.gdTestEnd
  split
  · exact h
  · dsimp only
    split
    · exact (h.upd.ite (h.upd.eventU ..)).answer ..
    · exact h.upd.ite (h.upd.eventU ..)

theorem Within.gdTestAbort {ps : List Part} {o l : Lane} (h : Within ps o l) (hbs : List Nat) (sub : [.gd, .halfBridges, .ports] ⊆ ps := by decide) : Within ps o (l.gdTestAbort hbs) := by
  refine h.then sub fun _ h => ?_
  unfold Lane.gdTestAbort
  split
  · exact (h.upd.gdTestEnd ..).ite h
  · exact h

theorem Within.safetyRequest {ps : List Part} {o l : Lane} (h : Within ps o l) (hbs : List Nat) (sub : [.st, .link, .held, .gd, .halfBridges, .pwm, .channels, .slots, .mp, .fn, .red, .net, .ports, .pwr, .mem, .mram, .boot, .bist] ⊆ ps := by decide) : Within ps o (l.safetyRequest hbs) := by
  refine h.then sub fun _ h => ?_
  unfold Lane.safetyRequest
  exact (h.gdTestAbort ..).bistAbort

theorem Within.sendClaim {ps : List Part} {o l : Lane} (h : Within ps o l) (sub : [.link, .red] ⊆ ps := by decide) : Within ps o l.sendClaim := by
  refine h.then sub fun _ h => ?_
  unfold Lane.sendClaim
  exact h.upd.sendBoth ..

theorem Within.enterAuthority {ps : List Part} {o l : Lane} (h : Within ps o l) (sub : [.st, .link, .held, .gd, .halfBridges, .pwm, .channels, .slots, .mp, .fn, .red, .net, .ports, .pwr, .mem, .mram, .boot, .bist] ⊆ ps := by decide) : Within ps o l.enterAuthority := by
  refine h.then sub fun _ h => ?_
  unfold Lane.enterAuthority
  exact .cellFollow (.setPeer (.dupEnd (.eventU (.setSt (.lit rfl (h.safetyRequest ..)) ..) ..)) ..)

theorem Within.claimStep {ps : List Part} {o l : Lane} (h : Within ps o l) (sub : [.st, .link, .held, .gd, .halfBridges, .pwm, .channels, .slots, .mp, .fn, .red, .net, .ports, .pwr, .mem, .mram, .boot, .bist] ⊆ ps := by decide) : Within ps o l.claimStep := by
  refine h.then sub fun _ h => ?_
  unfold Lane.claimStep
  exact (h.enterAuthority.ite h.sendClaim).ite h

theorem Within.sinkAt {ps : List Part} {o l : Lane} (h : Within ps o l) (ch : Nat) (code : Nat) (sub : [.gd] ⊆ ps := by decide) : Within ps o (l.sinkAt ch code) :=
  h.then sub fun _ h => h.upd

theorem Within.codesStart {ps : List Part} {o l : Lane} (h : Within ps o l) (ch : Nat) (sub : [.gd] ⊆ ps := by decide) : Within ps o (l.codesStart ch) :=
  h.then sub fun _ h => h.upd

theorem Within.hbEvent {ps : List Part} {o l : Lane} (h : Within ps o l) (k : Nat) {raise : Lane → Lane} (hf : Within ps o (raise l)) : Within ps o (l.hbEvent k raise) :=
  hf.ite h

theorem Within.hbLost {ps : List Part} {o l : Lane} (h : Within ps o l) (k : Nat) (sub : [.slots] ⊆ ps := by decide) : Within ps o (l.hbLost k) := by
  refine h.then sub fun _ h => ?_
  unfold Lane.hbLost
  split
  · exact h.windFault ..
  · exact h

theorem Within.shadowWrite {ps : List Part} {o l : Lane} (h : Within ps o l) (ch : Nat) (v : Nat) (sub : [.pwm, .channels] ⊆ ps := by decide) : Within ps o (l.shadowWrite ch v) :=
  h.then sub fun _ h => h.upd

theorem Within.burstDone {ps : List Part} {o l : Lane} (h : Within ps o l) (tb : Nat) (t : Nat) (sub : [.pwm] ⊆ ps := by decide) : Within ps o (l.burstDone tb t) :=
  h.then sub fun _ h => h.upd

theorem Within.emitCh {ps : List Part} {o l : Lane} (h : Within ps o l) (ch : Nat) (sub : [.channels] ⊆ ps := by decide) : Within ps o (l.emitCh ch) := by
  refine h.then sub fun _ h => ?_
  unfold Lane.emitCh
  exact ((h.openFrame ..).setPch ..).ite (((h.openFrame ..).setPch ..).ite (((h.openFrame ..).setPch ..).ite ((h.openFrame ..).setPch ..)))

theorem Within.loadShadows {ps : List Part} {o l : Lane} (h : Within ps o l) (tb : Nat) (sub : [.pwm, .channels] ⊆ ps := by decide) : Within ps o (l.loadShadows tb) := by
  refine h.then sub fun _ h => ?_
  unfold Lane.loadShadows
  exact ((h.eachOf _ (fun k m hm => hm.setPch ..)).eachOf _ (fun k m hm => hm.upd)).setTb ..

theorem Within.loadPoint {ps : List Part} {o l : Lane} (h : Within ps o l) (tb : Nat) (sub : [.pwm, .channels, .slots] ⊆ ps := by decide) : Within ps o (l.loadPoint tb) := by
  refine h.then sub fun _ h => ?_
  unfold Lane.loadPoint
  exact h.ite (((((h.loadShadows ..).ite (h.eventU ..)).ite ((h.eventU ..).ite h)).eachOf _ (fun k m hm => hm.emitCh ..)).eachOf _ (fun k m hm => hm.slotLoaded ..))

theorem Within.tripNotice {ps : List Part} {o l : Lane} (h : Within ps o l) (n : Nat) (sub : [.link] ⊆ ps := by decide) : Within ps o (l.tripNotice n) := by
  refine h.then sub fun _ h => ?_
  unfold Lane.tripNotice
  exact (h.eventU ..).sendBoth ..

theorem Within.tripCh {ps : List Part} {o l : Lane} (h : Within ps o l) (ch : Nat) (sub : [.gd, .channels] ⊆ ps := by decide) : Within ps o (l.tripCh ch) := by
  refine h.then sub fun _ h => ?_
  unfold Lane.tripCh
  exact (((h.takeLevel ..).setPch ..).when _ (((h.takeLevel ..).setPch ..).sinkAt ..)).when _ ((((h.takeLevel ..).setPch ..).when _ (((h.takeLevel ..).setPch ..).sinkAt ..)).sinkAt ..)

theorem Within.tripCover {ps : List Part} {o l : Lane} (h : Within ps o l) (n : Nat) (sub : [.st, .link, .held, .gd, .halfBridges, .pwm, .channels, .slots, .le, .mp, .fn, .red, .net, .ports, .pwr, .mem, .mram, .boot, .bist] ⊆ ps := by decide) : Within ps o (l.tripCover n) := by
  refine h.then sub fun _ h => ?_
  unfold Lane.tripCover
  exact ((((h.eachOf _ (fun k m hm => hm.tripCh ..)).each _ (fun k m hm => (hm.flyStop ..).ite hm)).each _ (fun k m hm => (hm.injAbort ..).ite hm)).each _ (fun k m hm => (hm.stepTrip ..).ite hm)).safetyRequest ..

theorem Within.tripEnter {ps : List Part} {o l : Lane} (h : Within ps o l) (n : Nat) (sub : [.st, .link, .held, .gd, .halfBridges, .pwm, .channels, .slots, .le, .mp, .fn, .red, .net, .ports, .pwr, .mem, .mram, .boot, .bist] ⊆ ps := by decide) : Within ps o (l.tripEnter n) := by
  refine h.then sub fun _ h => ?_
  unfold Lane.tripEnter
  exact ((h.setSrc ..).ite ((h.setSrc ..).tripNotice ..)).tripCover ..

theorem Within.tripOn {ps : List Part} {o l : Lane} (h : Within ps o l) (n : Nat) (sub : [.st, .link, .held, .gd, .halfBridges, .pwm, .channels, .slots, .le, .mp, .fn, .red, .net, .ports, .pwr, .mem, .mram, .boot, .bist] ⊆ ps := by decide) : Within ps o (l.tripOn n) := by
  refine h.then sub fun _ h => ?_
  unfold Lane.tripOn
  refine h.ite ?_
  dsimp only
  split
  · exact (h.setSrc ..).tripEnter ..
  · exact (h.setSrc ..).tripEnter ..
  · exact ((h.setSrc ..).setSrc ..).safetyRequest ..
  · exact h.setSrc ..

theorem Within.tripOff {ps : List Part} {o l : Lane} (h : Within ps o l) (n : Nat) (sub : [.pwm, .sns] ⊆ ps := by decide) : Within ps o (l.tripOff n) := by
  refine h.then sub fun _ h => ?_
  unfold Lane.tripOff
  dsimp only
  split <;> exact (h.upd.ite h).setSrc ..

theorem Within.rearm {ps : List Part} {o l : Lane} (h : Within ps o l) (tb : Nat) (n : Nat) (sub : [.pwm, .channels] ⊆ ps := by decide) : Within ps o (l.rearm tb n) := by
  refine h.then sub fun _ h => ?_
  unfold Lane.rearm
  refine h.ite ?_
  split
  · exact ((h.upd.ite (h.setSrc ..)).eachOf _ (fun k m hm => hm.takeLevel ..)).eventU ..
  · exact h.setSrc ..
  · exact h

theorem Within.resumeCh {ps : List Part} {o l : Lane} (h : Within ps o l) (ch : Nat) (sub : [.channels] ⊆ ps := by decide) : Within ps o (l.resumeCh ch) := by
  refine h.then sub fun _ h => ?_
  unfold Lane.resumeCh
  exact (h.setPch ..).ite (h.setPch ..)

theorem Within.refreshOpen {ps : List Part} {o l : Lane} (h : Within ps o l) (k : Nat) (sub : [.channels] ⊆ ps := by decide) : Within ps o (l.refreshOpen k) := by
  refine h.then sub fun _ h => ?_
  unfold Lane.refreshOpen
  exact (h.setPch ..).ite h

theorem Within.periodHb {ps : List Part} {o l : Lane} (h : Within ps o l) (k : Nat) (bstLow : W16) (vgd : Bool) (sub : [.halfBridges, .channels] ⊆ ps := by decide) : Within ps o (l.periodHb k bstLow vgd) := by
  refine h.then sub fun _ h => ?_
  unfold Lane.periodHb
  exact (h.when _ (h.freshStart ..)).ite (((h.when _ (h.freshStart ..)).setHb ..).refreshOpen ..)

theorem Within.preEnd {ps : List Part} {o l : Lane} (h : Within ps o l) (k : Nat) (sub : [.halfBridges, .channels] ⊆ ps := by decide) : Within ps o (l.preEnd k) := by
  refine h.then sub fun _ h => ?_
  unfold Lane.preEnd
  split
  · exact ((h.setHb ..).when _ ((h.setHb ..).setPch ..)).ite h
  · exact h

theorem Within.carryStart {ps : List Part} {o l : Lane} (h : Within ps o l) (tb : Nat) (sub : [.channels] ⊆ ps := by decide) : Within ps o (l.carryStart tb) := by
  refine h.then sub fun _ h => ?_
  unfold Lane.carryStart
  exact (h.eachOf _ (fun k m hm => hm.setPch ..)).ite h

theorem Within.periodRelease {ps : List Part} {o l : Lane} (h : Within ps o l) (tb : Nat) (sub : [.held] ⊆ ps := by decide) : Within ps o (l.periodRelease tb) :=
  h.then sub fun _ h => h.upd

theorem Within.followTb {ps : List Part} {o l : Lane} (h : Within ps o l) (tb : Nat) (sub : [.pwm] ⊆ ps := by decide) : Within ps o (l.followTb tb) := by
  refine h.then sub fun _ h => ?_
  unfold Lane.followTb
  exact (h.setTb ..).ite (h.setTb ..)

theorem Within.refollow {ps : List Part} {o l : Lane} (h : Within ps o l) (tb : Nat) (sub : [.pwm] ⊆ ps := by decide) : Within ps o (l.refollow tb) := by
  refine h.then sub fun _ h => ?_
  unfold Lane.refollow
  exact h.eachOf _ (fun k m hm => hm.followTb ..)

theorem Within.periodStart {ps : List Part} {o l : Lane} (h : Within ps o l) (tb : Nat) (bstLow : W16) (sub : [.held, .gd, .halfBridges, .pwm, .channels] ⊆ ps := by decide) : Within ps o (l.periodStart tb bstLow) := by
  refine h.then sub fun _ h => ?_
  unfold Lane.periodStart
  exact h.ite (.eachOf (.each (.lit rfl ((((h.periodRelease ..).carryStart ..).setTb ..).when _ ((((h.periodRelease ..).carryStart ..).setTb ..).refollow ..))) _ (fun k m hm => hm.rearm ..)) _ (fun k m hm => ((hm.preEnd ..).periodHb ..).resumeCh ..))

theorem Within.setAdc {ps : List Part} {o l : Lane} (h : Within ps o l) (k : Nat) (x : Adc) (sub : [.sns] ⊆ ps := by decide) : Within ps o (l.setAdc k x) :=
  h.then sub fun _ h => h.upd

theorem Within.adcTrigger {ps : List Part} {o l : Lane} (h : Within ps o l) (k : Nat) (sub : [.sns] ⊆ ps := by decide) : Within ps o (l.adcTrigger k) := by
  refine h.then sub fun _ h => ?_
  unfold Lane.adcTrigger
  exact h.ite ((h.setAdc ..).ite ((h.setAdc ..).eventU ..))

theorem Within.setDs {ps : List Part} {o l : Lane} (h : Within ps o l) (k : Nat) (x : DsIn) (sub : [.sns] ⊆ ps := by decide) : Within ps o (l.setDs k x) :=
  h.then sub fun _ h => h.upd

theorem Within.regenClear {ps : List Part} {o l : Lane} (h : Within ps o l) (k : Nat) (sub : [.sns] ⊆ ps := by decide) : Within ps o (l.regenClear k) := by
  refine h.then sub fun _ h => ?_
  unfold Lane.regenClear
  exact h.ite ((h.eventU ..).ite (h.setDs ..))

theorem Within.tempSample {ps : List Part} {o l : Lane} (h : Within ps o l) (ts : List F32) (sub : [.sns, .bist] ⊆ ps := by decide) : Within ps o (l.tempSample ts) := by
  refine h.then sub fun _ h => ?_
  unfold Lane.tempSample
  exact (h.upd.eventU ..).ite (h.upd.ite (h.upd.ite h.upd))

theorem Within.crackDeclare {ps : List Part} {o l : Lane} (h : Within ps o l) (sub : [.sns] ⊆ ps := by decide) : Within ps o l.crackDeclare := by
  refine h.then sub fun _ h => ?_
  unfold Lane.crackDeclare
  exact h.ite (h.upd.eventU ..)

theorem Within.crackMeasure {ps : List Part} {o l : Lane} (h : Within ps o l) (r : F32) (sub : [.sns] ⊆ ps := by decide) : Within ps o (l.crackMeasure r) := by
  refine h.then sub fun _ h => ?_
  unfold Lane.crackMeasure
  exact h.upd.crackDeclare.ite h.upd

theorem Within.setHall {ps : List Part} {o l : Lane} (h : Within ps o l) (k : Nat) (x : Hall) (sub : [.pos] ⊆ ps := by decide) : Within ps o (l.setHall k x) :=
  h.then sub fun _ h => h.upd

theorem Within.setEnc {ps : List Part} {o l : Lane} (h : Within ps o l) (k : Nat) (x : Enc) (sub : [.pos] ⊆ ps := by decide) : Within ps o (l.setEnc k x) :=
  h.then sub fun _ h => h.upd

theorem Within.setPp {ps : List Part} {o l : Lane} (h : Within ps o l) (k : Nat) (x : PosPort) (sub : [.pos] ⊆ ps := by decide) : Within ps o (l.setPp k x) :=
  h.then sub fun _ h => h.upd

theorem Within.setCmpU {ps : List Part} {o l : Lane} (h : Within ps o l) (k : Nat) (x : CmpUnit) (sub : [.pos] ⊆ ps := by decide) : Within ps o (l.setCmpU k x) :=
  h.then sub fun _ h => h.upd

theorem Within.setFrz {ps : List Part} {o l : Lane} (h : Within ps o l) (k : Nat) (x : Freeze) (sub : [.freeze] ⊆ ps := by decide) : Within ps o (l.setFrz k x) :=
  h.then sub fun _ h => h.upd

theorem Within.cmpJump {ps : List Part} {o l : Lane} (h : Within ps o l) (code : Nat) (new : Int) (sub : [.pos] ⊆ ps := by decide) : Within ps o (l.cmpJump code new) := by
  refine h.then sub fun _ h => ?_
  unfold Lane.cmpJump
  exact h.each _ (fun k m hm => (hm.setCmpU ..).ite hm)

theorem Within.cmpStart {ps : List Part} {o l : Lane} (h : Within ps o l) (k : Nat) (sub : [.pos] ⊆ ps := by decide) : Within ps o (l.cmpStart k) := by
  refine h.then sub fun _ h => ?_
  unfold Lane.cmpStart
  exact (h.setCmpU ..).ite (h.setCmpU ..)

theorem Within.hallSnap {ps : List Part} {o l : Lane} (h : Within ps o l) (g : Nat) (sub : [.pos] ⊆ ps := by decide) : Within ps o (l.hallSnap g) :=
  h.then sub fun _ h => h.upd

theorem Within.encZ {ps : List Part} {o l : Lane} (h : Within ps o l) (k : Nat) (sub : [.pos] ⊆ ps := by decide) : Within ps o (l.encZ k) := by
  refine h.then sub fun _ h => ?_
  unfold Lane.encZ
  exact h.ite (((((h.setEnc ..).eventU ..).ite (h.setEnc ..)).cmpJump ..).ite (((h.setEnc ..).eventU ..).ite (h.setEnc ..)))

theorem Within.encSnap {ps : List Part} {o l : Lane} (h : Within ps o l) (k : Nat) (sub : [.pos] ⊆ ps := by decide) : Within ps o (l.encSnap k) :=
  h.then sub fun _ h => h.upd

theorem Within.ppSample {ps : List Part} {o l : Lane} (h : Within ps o l) (k : Nat) (r : PosRes) (sub : [.pos] ⊆ ps := by decide) : Within ps o (l.ppSample k r) := by
  refine h.then sub fun _ h => ?_
  unfold Lane.ppSample
  exact ((((h.setPp ..).eventU ..).ite (h.setPp ..)).event ..).ite (((h.setPp ..).eventU ..).ite (h.setPp ..))

theorem Within.ppPresent {ps : List Part} {o l : Lane} (h : Within ps o l) (k : Nat) (sub : [.pos] ⊆ ps := by decide) : Within ps o (l.ppPresent k) := by
  refine h.then sub fun _ h => ?_
  unfold Lane.ppPresent
  refine h.ite ?_
  split
  · exact h
  · refine h.ite ?_
    dsimp only
    split
    · exact (h.setPp ..).ppSample ..
    · exact ((h.setPp ..).ite ((h.setPp ..).eventU ..)).ppSample ..

theorem Within.ptLost {ps : List Part} {o l : Lane} (h : Within ps o l) (k : Nat) (sub : [.pos] ⊆ ps := by decide) : Within ps o (l.ptLost k) := by
  refine h.then sub fun _ h => ?_
  unfold Lane.ptLost
  exact h.ite ((h.setPp ..).eventU ..)

theorem Within.ptLatch {ps : List Part} {o l : Lane} (h : Within ps o l) (k : Nat) (sub : [.pos] ⊆ ps := by decide) : Within ps o (l.ptLatch k) := by
  refine h.then sub fun _ h => ?_
  unfold Lane.ptLatch
  exact h.ite (h.setPp ..)

theorem Within.snapshots {ps : List Part} {o l : Lane} (h : Within ps o l) (cmp : Nat) (sub : [.pos] ⊆ ps := by decide) : Within ps o (l.snapshots cmp) := by
  refine h.then sub fun _ h => ?_
  unfold Lane.snapshots
  exact h.each _ (fun k m hm => ((hm.hallSnap ..).ite ((hm.encSnap ..).ite (hm.ptLatch ..))).ite hm)

theorem Within.setTable {ps : List Part} {o l : Lane} (h : Within ps o l) (k : Nat) (x : SineTab) (sub : [.mot] ⊆ ps := by decide) : Within ps o (l.setTable k x) :=
  h.then sub fun _ h => h.upd

theorem Within.frzWatch {ps : List Part} {o l : Lane} (h : Within ps o l) (k : Nat) (c : Nat) (w : F32) (i : F32) (sub : [.freeze] ⊆ ps := by decide) : Within ps o (l.frzWatch k c w i) := by
  refine h.then sub fun _ h => ?_
  unfold Lane.frzWatch
  refine h.ite ?_
  split
  · exact h.setFrz ..
  · exact (h.setFrz ..).ite (h.setFrz ..)

theorem Within.frzSample {ps : List Part} {o l : Lane} (h : Within ps o l) (k : Nat) (wCmd : Option F32) (iMag : F32) (sub : [.freeze] ⊆ ps := by decide) : Within ps o (l.frzSample k wCmd iMag) := by
  refine h.then sub fun _ h => ?_
  unfold Lane.frzSample
  exact h.eachOf _ (fun k1 m hm => hm.frzWatch ..)

theorem Within.blendStart {ps : List Part} {o l : Lane} (h : Within ps o l) (k : Nat) (sub : [.params, .held, .slots] ⊆ ps := by decide) : Within ps o (l.blendStart k) := by
  refine h.then sub fun _ h => ?_
  unfold Lane.blendStart
  dsimp only
  split
  · exact h
  · exact (((((h.ite (h.releaseOf ..)).setMotor ..).pset ..).pset ..).eventU ..).ite ((h.ite (h.releaseOf ..)).ite ((((((h.ite (h.releaseOf ..)).setMotor ..).pset ..).pset ..).eventU ..).ite ((((h.ite (h.releaseOf ..)).setMotor ..).pset ..).pset ..)))

theorem Within.idleSpeed {ps : List Part} {o l : Lane} (h : Within ps o l) (k : Nat) (sub : [.slots] ⊆ ps := by decide) : Within ps o (l.idleSpeed k) := by
  refine h.then sub fun _ h => ?_
  unfold Lane.idleSpeed
  exact h.ite (h.setMotor ..)

theorem Within.leaveSafe {ps : List Part} {o l : Lane} (h : Within ps o l) (k : Nat) (sub : [.slots, .mp] ⊆ ps := by decide) : Within ps o (l.leaveSafe k) := by
  refine h.then sub fun _ h => ?_
  unfold Lane.leaveSafe
  exact (((h.idleSpeed ..).setMotor ..).setStepper ..).ite (((h.idleSpeed ..).setMotor ..).ite (h.idleSpeed ..))

theorem Within.genDone {ps : List Part} {o l : Lane} (h : Within ps o l) (g : Nat) (status : Nat) (sub : [.mp] ⊆ ps := by decide) : Within ps o (l.genDone g status) := by
  refine h.then sub fun _ h => ?_
  unfold Lane.genDone
  exact (h.setGen ..).completeOpt ..

theorem Within.refDone {ps : List Part} {o l : Lane} (h : Within ps o l) (g : Nat) (slot : Nat) (sub : [.mp] ⊆ ps := by decide) : Within ps o (l.refDone g slot) := by
  refine h.then sub fun _ h => ?_
  unfold Lane.refDone
  exact (((h.setGen ..).setStepper ..).eventU ..).genDone ..

theorem Within.genEnd {ps : List Part} {o l : Lane} (h : Within ps o l) (g : Nat) (was : Nat) (sub : [.mp] ⊆ ps := by decide) : Within ps o (l.genEnd g was) := by
  refine h.then sub fun _ h => ?_
  unfold Lane.genEnd
  refine h.ite ?_
  split
  · exact (h.genDone ..).ite (((h.setGen ..).eventU ..).genDone ..)
  · exact (((h.setGen ..).eventU ..).ite (h.setGen ..)).genDone ..
  · split
    · exact (h.refDone ..).ite (((h.setGen ..).genDone ..).ite h)
    · exact h
  · exact h

theorem Within.genPush {ps : List Part} {o l : Lane} (h : Within ps o l) (g : Nat) (c : GenCmd) (k : Option CmdKey) (sub : [.mp] ⊆ ps := by decide) : Within ps o (l.genPush g c k) :=
  h.then sub fun _ h => h.upd

theorem Within.stepStage {ps : List Part} {o l : Lane} (h : Within ps o l) (k : Nat) (sub : [.pwm, .channels, .freeze, .mp] ⊆ ps := by decide) : Within ps o (l.stepStage k) := by
  refine h.then sub fun _ h => ?_
  unfold Lane.stepStage
  dsimp only
  split
  · exact h.ite (((((((((h.shadowWrite ..).shadowWrite ..).shadowWrite ..).shadowWrite ..).setStepper ..).eventU ..).ite (((((h.shadowWrite ..).shadowWrite ..).shadowWrite ..).shadowWrite ..).setStepper ..)).frzSample ..).burstDone ..)
  · exact h

theorem Within.setWheel {ps : List Part} {o l : Lane} (h : Within ps o l) (w : Nat) (x : Wheel) (sub : [.fn] ⊆ ps := by decide) : Within ps o (l.setWheel w x) :=
  h.then sub fun _ h => h.upd

theorem Within.capLast {ps : List Part} {o l : Lane} (h : Within ps o l) (j : Nat) (c : Capture) (inj : Bool) (sub : [.le] ⊆ ps := by decide) : Within ps o (l.capLast j c inj) := by
  refine h.then sub fun _ h => ?_
  unfold Lane.capLast
  exact (h.setLoop ..).ite ((h.qPut ..).setLoop ..)

theorem Within.capEnd {ps : List Part} {o l : Lane} (h : Within ps o l) (j : Nat) (sub : [.le] ⊆ ps := by decide) : Within ps o (l.capEnd j) := by
  refine h.then sub fun _ h => ?_
  unfold Lane.capEnd
  split
  · exact h
  · exact h.capLast ..

theorem Within.loopPush {ps : List Part} {o l : Lane} (h : Within ps o l) (j : Nat) (c : LoopCmd) (k : Option CmdKey) (sub : [.le] ⊆ ps := by decide) : Within ps o (l.loopPush j c k) :=
  h.then sub fun _ h => h.upd

theorem Within.loopFall {ps : List Part} {o l : Lane} (h : Within ps o l) (j : Nat) (sub : [.held, .le] ⊆ ps := by decide) : Within ps o (l.loopFall j) := by
  refine h.then sub fun _ h => ?_
  unfold Lane.loopFall
  exact (((h.injAbort ..).releaseOf ..).setLoop ..).event ..

theorem Within.loopsLost {ps : List Part} {o l : Lane} (h : Within ps o l) (sub : [.held, .le] ⊆ ps := by decide) : Within ps o l.loopsLost := by
  refine h.then sub fun _ h => ?_
  unfold Lane.loopsLost
  exact h.each _ (fun k m hm => (hm.loopFall ..).ite hm)

theorem Within.loopDisable {ps : List Part} {o l : Lane} (h : Within ps o l) (j : Nat) (sub : [.le, .ports] ⊆ ps := by decide) : Within ps o (l.loopDisable j) := by
  refine h.then sub fun _ h => ?_
  unfold Lane.loopDisable
  refine ((h.injAbort ..).capEnd ..).ite ((((((h.injAbort ..).capEnd ..).streamFlush ..).streamFlush ..).setLoop ..).foldl _ (fun m k hm => ?_))
  split <;> exact hm.answerOpt ..

theorem Within.loopEnable {ps : List Part} {o l : Lane} (h : Within ps o l) (j : Nat) (sub : [.le] ⊆ ps := by decide) : Within ps o (l.loopEnable j) := by
  refine h.then sub fun _ h => ?_
  unfold Lane.loopEnable
  exact (h.setLoop ..).ite h

theorem Within.fnClose {ps : List Part} {o l : Lane} (h : Within ps o l) (f : Nat) (sub : [.le] ⊆ ps := by decide) : Within ps o (l.fnClose f) := by
  refine h.then sub fun _ h => ?_
  unfold Lane.fnClose
  exact h.each _ (fun k m hm => (hm.loopPush ..).ite hm)

theorem Within.srcFresh {ps : List Part} {o l : Lane} (h : Within ps o l) (c : Nat) (sub : [.pos, .freeze] ⊆ ps := by decide) : Within ps o (l.srcFresh c) := by
  refine h.then sub fun _ h => ?_
  unfold Lane.srcFresh
  exact (((h.setFrz ..).setHall ..).cmpJump ..).ite (((h.setFrz ..).setEnc ..).ite (h.setFrz ..))

theorem Within.slotEnable {ps : List Part} {o l : Lane} (h : Within ps o l) (k : Nat) (sub : [.gd, .halfBridges, .pos, .freeze, .slots, .le, .mp] ⊆ ps := by decide) : Within ps o (l.slotEnable k) := by
  refine h.then sub fun o h => ?_
  unfold Lane.slotEnable
  extract_lets m integ slow l1 dev src l2 l3 _ l4 js l5
  have h1 : Within [.gd, .halfBridges, .pos, .freeze, .slots, .le, .mp] o l1 := h.eachOf _ fun _ _ hx => (((hx.codesStart _).codesStart _).setHb ..).ite hx
  clear_value l1
  have h3 : Within [.gd, .halfBridges, .pos, .freeze, .slots, .le, .mp] o l3 := (h1.setMotor ..).eachOf _ fun _ _ hx => hx.srcFresh ..
  have h5 : Within [.gd, .halfBridges, .pos, .freeze, .slots, .le, .mp] o l5 := (h3.setStepper ..).eachOf _ fun _ _ hx => hx.loopEnable ..
  split
  · exact (h5.fnClose _).ite h5
  · exact h5

theorem Within.codeFrozen {ps : List Part} {o l : Lane} (h : Within ps o l) (c : Nat) (sub : [.held, .freeze, .le] ⊆ ps := by decide) : Within ps o (l.codeFrozen c) := by
  refine h.then sub fun _ h => ?_
  unfold Lane.codeFrozen
  dsimp only
  split
  · exact (((h.setFrz ..).event ..).loopsLost).ite h
  · exact h

theorem Within.posFrozen {ps : List Part} {o l : Lane} (h : Within ps o l) (k : Nat) (sub : [.held, .freeze, .le] ⊆ ps := by decide) : Within ps o (l.posFrozen k) := by
  refine h.then sub fun _ h => ?_
  unfold Lane.posFrozen
  exact h.eachOf _ (fun k1 m hm => hm.codeFrozen ..)

theorem Within.tellMerged {ps : List Part} {o l : Lane} (h : Within ps o l) (before : Bool) (sub : [.held] ⊆ ps := by decide) : Within ps o (l.tellMerged before) := by
  refine h.then sub fun _ h => ?_
  unfold Lane.tellMerged
  exact (h.eventU ..).ite h

theorem Within.setChop {ps : List Part} {o l : Lane} (h : Within ps o l) (c : Nat) (x : Chopper) (sub : [.fn] ⊆ ps := by decide) : Within ps o (l.setChop c x) :=
  h.then sub fun _ h => h.upd

theorem Within.steerMove {ps : List Part} {o l : Lane} (h : Within ps o l) (angle : F32) (sub : [.mp] ⊆ ps := by decide) : Within ps o (l.steerMove angle) := by
  refine h.then sub fun _ h => ?_
  unfold Lane.steerMove
  split
  · exact h.genPush ..
  · exact h

theorem Within.setpointApply {ps : List Part} {o l : Lane} (h : Within ps o l) (f : Nat) (s : Setpoint) (sub : [.held, .mp, .fn] ⊆ ps := by decide) : Within ps o (l.setpointApply f s) := by
  refine h.then sub fun _ h => ?_
  unfold Lane.setpointApply
  dsimp only
  split
  · exact .ite (.steerMove (.lit rfl ((h.setFunc ..).releaseIds ..)) ..) (.lit rfl ((h.setFunc ..).releaseIds ..))
  · exact ((h.setFunc ..).foldl _ (fun m k hm => (hm.setWheel ..).ite hm)).ite (h.setFunc ..)
  · exact h.upd.ite (h.setFunc ..)

theorem Within.setpointsDue {ps : List Part} {o l : Lane} (h : Within ps o l) (f : Nat) (sub : [.held, .mp, .fn] ⊆ ps := by decide) : Within ps o (l.setpointsDue f) := by
  refine h.then sub fun _ h => ?_
  unfold Lane.setpointsDue
  exact (h.setFunc ..).foldl _ (fun m k hm => hm.setpointApply ..)

theorem Within.sbTestEnd {ps : List Part} {o l : Lane} (h : Within ps o l) (sub : [.fn] ⊆ ps := by decide) : Within ps o l.sbTestEnd := by
  refine h.then sub fun _ h => ?_
  unfold Lane.sbTestEnd
  exact h.ite (h.upd.setCell ..)

theorem Within.sbSense {ps : List Part} {o l : Lane} (h : Within ps o l) (sense : List Bool) (sub : [.fn] ⊆ ps := by decide) : Within ps o (l.sbSense sense) := by
  refine h.then sub fun _ h => ?_
  unfold Lane.sbSense
  exact ((h.upd.eventU ..).sbTestEnd).ite h.upd

theorem Within.linkNote {ps : List Part} {o l : Lane} (h : Within ps o l) (key : Nat) (down : Option Bool) (sub : [.red] ⊆ ps := by decide) : Within ps o (l.linkNote key down) := by
  refine h.then sub fun _ h => ?_
  unfold Lane.linkNote
  split
  · exact h.addInst ..
  · exact h.dropInst ..
  · exact h

theorem Within.linkTrack {ps : List Part} {o l : Lane} (h : Within ps o l) (sub : [.red] ⊆ ps := by decide) : Within ps o l.linkTrack := by
  refine h.then sub fun _ h => ?_
  unfold Lane.linkTrack
  exact ((h.linkNote ..).linkNote ..).linkNote ..

theorem Within.assess {ps : List Part} {o l : Lane} (h : Within ps o l) (sub : [.red] ⊆ ps := by decide) : Within ps o l.assess := by
  refine h.then sub fun _ h => ?_
  unfold Lane.assess
  exact h.ite ((h.ite (h.upd.eventU ..)).ite (.eventU (.lit rfl (h.ite (h.upd.eventU ..))) ..))

theorem Within.steerReturn {ps : List Part} {o l : Lane} (h : Within ps o l) (sub : [.held, .mp, .fn] ⊆ ps := by decide) : Within ps o l.steerReturn := by
  refine h.then sub fun _ h => ?_
  unfold Lane.steerReturn
  exact .ite (.steerMove (.lit rfl (h.upd.releaseIds ..)) ..) (h.upd.releaseIds ..)

theorem Within.contact {ps : List Part} {o l : Lane} (h : Within ps o l) (w : Nat) (sub : [.fn] ⊆ ps := by decide) : Within ps o (l.contact w) := by
  refine h.then sub fun _ h => ?_
  unfold Lane.contact
  exact (((h.setWheel ..).eventU ..).ite (h.setWheel ..)).ite ((((h.setWheel ..).eventU ..).ite (h.setWheel ..)).ite h)

theorem Within.slackRun {ps : List Part} {o l : Lane} (h : Within ps o l) (w : Nat) (sub : [.mp, .fn] ⊆ ps := by decide) : Within ps o (l.slackRun w) := by
  refine h.then sub fun _ h => ?_
  unfold Lane.slackRun
  split
  · exact h
  · exact h.ite ((h.setWheel ..).ite ((h.genPush ..).ite h))

theorem Within.countSets {ps : List Part} {o l : Lane} (h : Within ps o l) (sub : [.fn] ⊆ ps := by decide) : Within ps o l.countSets := by
  refine h.then sub fun _ h => ?_
  unfold Lane.countSets
  exact h.each _ (fun k m hm => hm.ite ((hm.upd.eventU ..).ite hm.upd))

theorem Within.assertInh {ps : List Part} {o l : Lane} (h : Within ps o l) (sub : [.sns, .fn] ⊆ ps := by decide) : Within ps o l.assertInh := by
  refine h.then sub fun _ h => ?_
  unfold Lane.assertInh
  exact h.ite (h.upd.eventU ..)

theorem Within.chopDuty {ps : List Part} {o l : Lane} (h : Within ps o l) (c : Nat) (d : F32) (sub : [.pwm, .channels, .fn] ⊆ ps := by decide) : Within ps o (l.chopDuty c d) := by
  refine h.then sub fun _ h => ?_
  unfold Lane.chopDuty
  dsimp only
  split
  · exact ((h.setChop ..).shadowWrite ..).burstDone ..
  · exact h.setChop ..

theorem Within.chopFault {ps : List Part} {o l : Lane} (h : Within ps o l) (c : Nat) (cause : Nat) (sub : [.link, .pwm, .channels, .sns, .fn] ⊆ ps := by decide) : Within ps o (l.chopFault c cause) := by
  refine h.then sub fun _ h => ?_
  unfold Lane.chopFault
  exact h.ite (.ite (.setChop (.lit rfl (((((h.setChop ..).chopDuty ..).eventU ..).sendBoth ..).assertInh)) ..) (.lit rfl (((((h.setChop ..).chopDuty ..).eventU ..).sendBoth ..).assertInh)))

theorem Within.chopTest {ps : List Part} {o l : Lane} (h : Within ps o l) (c : Nat) (sub : [.link, .pwm, .channels, .sns, .fn] ⊆ ps := by decide) : Within ps o (l.chopTest c) := by
  refine h.then sub fun _ h => ?_
  unfold Lane.chopTest
  exact h.ite (((h.chopFault ..).ite h).ite (((h.setChop ..).chopFault ..).ite (h.setChop ..)))

theorem Within.chopRun {ps : List Part} {o l : Lane} (h : Within ps o l) (c : Nat) (sub : [.pwm, .channels, .fn] ⊆ ps := by decide) : Within ps o (l.chopRun c) := by
  refine h.then sub fun _ h => ?_
  unfold Lane.chopRun
  exact h.ite (((h.setChop ..).chopDuty ..).ite (h.setChop ..))

theorem Within.chopArm {ps : List Part} {o l : Lane} (h : Within ps o l) (c : Nat) (sub : [.pwm, .channels, .fn] ⊆ ps := by decide) : Within ps o (l.chopArm c) := by
  refine h.then sub fun _ h => ?_
  unfold Lane.chopArm
  exact ((((h.setChop ..).chopDuty ..).eventU ..).ite ((h.setChop ..).chopDuty ..)).ite h

theorem Within.chopDisarm {ps : List Part} {o l : Lane} (h : Within ps o l) (c : Nat) (sub : [.pwm, .channels, .fn] ⊆ ps := by decide) : Within ps o (l.chopDisarm c) := by
  refine h.then sub fun _ h => ?_
  unfold Lane.chopDisarm
  exact ((h.setChop ..).chopDuty ..).ite h

theorem Within.limUpdate {ps : List Part} {o l : Lane} (h : Within ps o l) (sub : [.fn] ⊆ ps := by decide) : Within ps o l.limUpdate :=
  h.then sub fun _ h => h.upd

theorem Within.blendUpdate {ps : List Part} {o l : Lane} (h : Within ps o l) (sub : [.fn] ⊆ ps := by decide) : Within ps o l.blendUpdate := by
  refine h.then sub fun _ h => ?_
  unfold Lane.blendUpdate
  exact h.upd.eachOf _ (fun k m hm => hm.setWheel ..)

theorem Within.inhRelease {ps : List Part} {o l : Lane} (h : Within ps o l) (sub : [.sns, .fn] ⊆ ps := by decide) : Within ps o l.inhRelease := by
  refine h.then sub fun _ h => ?_
  unfold Lane.inhRelease
  exact (((h.upd.each _ (fun k m hm => hm.regenClear ..)).ite (.eventU (.lit rfl (h.upd.each _ (fun k m hm => hm.regenClear ..))) ..)).ite h.upd).ite (h.upd.ite h.upd)

theorem Within.retard {ps : List Part} {o l : Lane} (h : Within ps o l) (sub : [.link, .pwm, .channels, .sns, .fn] ⊆ ps := by decide) : Within ps o l.retard := by
  refine h.then sub fun o h => ?_
  unfold Lane.retard
  refine h.ite ?_
  extract_lets l1 _ l2 l3 lost l4 _ l6
  have h1 : Within [.link, .pwm, .channels, .sns, .fn] o l1 := (h.chopTest 0).chopTest 1
  clear_value l1
  have h2 : Within [.link, .pwm, .channels, .sns, .fn] o l2 := (Within.upd h1).assertInh.ite h1
  clear_value l2
  have h3 : Within [.link, .pwm, .channels, .sns, .fn] o l3 := (h2.chopRun 0).chopRun 1
  clear_value l3
  have h4 : Within [.link, .pwm, .channels, .sns, .fn] o l4 := (h3.eventU _).ite h3
  clear_value l4
  have h6 : Within [.link, .pwm, .channels, .sns, .fn] o l6 := (Within.upd h4).limUpdate.ite h3
  exact h6.blendUpdate.inhRelease

theorem Within.speedRequest {ps : List Part} {o l : Lane} (h : Within ps o l) (sub : [.fn] ⊆ ps := by decide) : Within ps o l.speedRequest := by
  refine h.then sub fun _ h => ?_
  unfold Lane.speedRequest
  exact (h.upd.ite (h.upd.eventU ..)).ite h

theorem Within.setDrn {ps : List Part} {o l : Lane} (h : Within ps o l) (d : Nat) (x : Drn) (sub : [.sns] ⊆ ps := by decide) : Within ps o (l.setDrn d x) :=
  h.then sub fun _ h => h.upd

theorem Within.busOv1Clear {ps : List Part} {o l : Lane} (h : Within ps o l) (d : Nat) (sub : [.channels, .sns] ⊆ ps := by decide) : Within ps o (l.busOv1Clear d) := by
  refine h.then sub fun _ h => ?_
  unfold Lane.busOv1Clear
  exact h.ite ((h.setDrn ..).eachOf _ (fun k m hm => hm.setPch ..))

theorem Within.ov2Slot {ps : List Part} {o l : Lane} (h : Within ps o l) (k : Nat) (sub : [.held, .slots, .le, .mp] ⊆ ps := by decide) : Within ps o (l.ov2Slot k) := by
  refine h.then sub fun _ h => ?_
  unfold Lane.ov2Slot
  dsimp only
  split
  · exact h
  · exact h
  · exact ((h.flyStop ..).setMotor ..).setMotor ..
  · exact (h.setMotor ..).stepOff ..

theorem Within.fnReclose {ps : List Part} {o l : Lane} (h : Within ps o l) (f : Nat) (sub : [.le] ⊆ ps := by decide) : Within ps o (l.fnReclose f) := by
  refine h.then sub fun _ h => ?_
  unfold Lane.fnReclose
  exact h.ite ((h.each _ (fun k m hm => ((hm.loopPush ..).loopPush ..).ite hm)).fnClose ..)

theorem Within.busOff {ps : List Part} {o l : Lane} (h : Within ps o l) (d : Nat) (sub : [.channels, .sns] ⊆ ps := by decide) : Within ps o (l.busOff d) := by
  refine h.then sub fun _ h => ?_
  unfold Lane.busOff
  exact ((h.busOv1Clear ..).setDrn ..).ite (h.busOv1Clear ..)

theorem Within.fnStart {ps : List Part} {o l : Lane} (h : Within ps o l) (f : Nat) (sub : [.le, .fn] ⊆ ps := by decide) : Within ps o (l.fnStart f) := by
  refine h.then sub fun _ h => ?_
  unfold Lane.fnStart
  exact h.ite (((h.setFunc ..).eachOf _ (fun k m hm => hm.loopEnable ..)).fnClose ..)

theorem Within.linkTell {ps : List Part} {o l : Lane} (h : Within ps o l) (sub : [.link] ⊆ ps := by decide) : Within ps o l.linkTell := by
  refine h.then sub fun _ h => ?_
  unfold Lane.linkTell
  exact (h.sendBoth ..).ite h

theorem Within.sendAck {ps : List Part} {o₀ l : Lane} (h : Within ps o₀ l) (o : LaneId) (p : List Byte) (ok : Bool) (sub : [.link] ⊆ ps := by decide) : Within ps o₀ (l.sendAck o p ok) := by
  refine h.then sub fun _ h => ?_
  unfold Lane.sendAck
  exact h.sendTo ..

theorem Within.blockPut {ps : List Part} {o l : Lane} (h : Within ps o l) (n : Nat) (from_ : LaneId) (b : Block) (sub : [] ⊆ ps := by decide) : Within ps o (l.blockPut n from_ b).1 := by
  refine h.then sub fun _ h => ?_
  unfold Lane.blockPut
  dsimp only
  split
  · exact h.qDropNew ..
  · exact h.qOverwrite ..

theorem Within.setChan {ps : List Part} {o l : Lane} (h : Within ps o l) (k : Nat) (c : Chan) (sub : [.net] ⊆ ps := by decide) : Within ps o (l.setChan k c) :=
  h.then sub fun _ h => h.upd

theorem Within.bump {ps : List Part} {o l : Lane} (h : Within ps o l) (n : Nat) (f : RxCnt → RxCnt) (sub : [.net] ⊆ ps := by decide) : Within ps o (l.bump n f) :=
  h.then sub fun _ h => h.upd

theorem Within.checkEvent {ps : List Part} {o l : Lane} (h : Within ps o l) (check : Nat) (sender : Nat) (code : Nat) (sub : [.net] ⊆ ps := by decide) : Within ps o (l.checkEvent check sender code) := by
  refine h.then sub fun _ h => ?_
  unfold Lane.checkEvent
  exact h.ite (h.upd.eventU ..)

theorem Within.failCheck {ps : List Part} {o l : Lane} (h : Within ps o l) (check : Nat) (sender : Option Nat) (sub : [.net] ⊆ ps := by decide) : Within ps o (l.failCheck check sender) := by
  refine h.then sub fun _ h => ?_
  unfold Lane.failCheck
  dsimp only
  split
  · refine .checkEvent (.bump ?_ ..) ..
    split
    · exact (h.bump ..).ite h
    · exact h
  · refine .checkEvent (.bump ?_ ..) ..
    split
    · exact (h.bump ..).ite h
    · exact h
  · refine .checkEvent (.bump ?_ ..) ..
    split
    · exact (h.bump ..).ite h
    · exact h
  · refine .checkEvent (.bump ?_ ..) ..
    split
    · exact (h.bump ..).ite h
    · exact h
  · refine .checkEvent (.bump ?_ ..) ..
    split
    · exact (h.bump ..).ite h
    · exact h
  · refine .bump ?_ ..
    split
    · exact (h.bump ..).ite h
    · exact h

theorem Within.guardCut {ps : List Part} {o l : Lane} (h : Within ps o l) (own : Bool) (sub : [.net] ⊆ ps := by decide) : Within ps o (l.guardCut own) := by
  refine h.then sub fun _ h => ?_
  unfold Lane.guardCut
  exact .ite (.ite (.lit rfl (h.eventU ..)) (.lit rfl (h.eventU ..))) (h.eventU ..)

theorem Within.grdSee {ps : List Part} {o l : Lane} (h : Within ps o l) (base : Nat) (sub : [.net] ⊆ ps := by decide) : Within ps o (l.grdSee base) :=
  h.then sub fun _ h => h.upd

theorem Within.sendStatic {ps : List Part} {o l : Lane} (h : Within ps o l) (x : Fr) (payload : List Byte) (sub : [.net] ⊆ ps := by decide) : Within ps o (l.sendStatic x payload) :=
  h.then sub fun _ h => h.upd

theorem Within.phaseAlign {ps : List Part} {o l : Lane} (h : Within ps o l) (sub : [.pwm] ⊆ ps := by decide) : Within ps o l.phaseAlign := by
  refine h.then sub fun _ h => ?_
  unfold Lane.phaseAlign
  exact h.ite (((h.setTb ..).ite (h.setTb ..)).eachOf _ (fun k m hm => hm.followTb ..))

theorem Within.reintegrate {ps : List Part} {o l : Lane} (h : Within ps o l) (sub : [.net] ⊆ ps := by decide) : Within ps o l.reintegrate :=
  h.then sub fun _ h => h.upd

theorem Within.csDone {ps : List Part} {o l : Lane} (h : Within ps o l) (status : Nat) (sub : [.net] ⊆ ps := by decide) : Within ps o (l.csDone status) := by
  refine h.then sub fun _ h => ?_
  unfold Lane.csDone
  exact h.upd.completeOpt ..

theorem Within.netSynced {ps : List Part} {o l : Lane} (h : Within ps o l) (status : Nat) (sub : [.net] ⊆ ps := by decide) : Within ps o (l.netSynced status) := by
  refine h.then sub fun _ h => ?_
  unfold Lane.netSynced
  exact h.upd.csDone ..

theorem Within.netPassive {ps : List Part} {o l : Lane} (h : Within ps o l) (sub : [.net] ⊆ ps := by decide) : Within ps o l.netPassive :=
  h.then sub fun _ h => h.upd

theorem Within.reasmAll {ps : List Part} {o l : Lane} (h : Within ps o l) (sub : [] ⊆ ps := by decide) : Within ps o l.reasmAll := by
  refine h.then sub fun _ h => ?_
  unfold Lane.reasmAll
  exact h.upd.foldl _ (fun m k hm => hm.reasmFail ..)

theorem Within.channelLoss {ps : List Part} {o l : Lane} (h : Within ps o l) (sub : [.red, .net] ⊆ ps := by decide) : Within ps o l.channelLoss := by
  refine h.then sub fun _ h => ?_
  unfold Lane.channelLoss
  exact (((h.upd.eventU ..).reasmAll).assess).ite (h.upd.assess.ite h.upd)

theorem Within.quorum {ps : List Part} {o l : Lane} (h : Within ps o l) (sub : [.red, .net] ⊆ ps := by decide) : Within ps o l.quorum := by
  refine h.then sub fun _ h => ?_
  unfold Lane.quorum
  exact h.ite (.lit rfl (((h.upd.eventU ..).assess).ite (((h.upd.eventU ..).assess).ite h.upd)))

theorem Within.claims {ps : List Part} {o l : Lane} (h : Within ps o l) (sub : [.net] ⊆ ps := by decide) : Within ps o l.claims := by
  refine h.then sub fun _ h => ?_
  unfold Lane.claims
  refine h.upd.ite (h.upd.ite ?_)
  dsimp only
  split
  · split <;> exact h.upd
  · exact h.upd
  · exact h.upd.eventU ..
  · exact h.upd.ite h.upd
  · exact h.upd

theorem Within.epochStart {ps : List Part} {o l : Lane} (h : Within ps o l) (k : Nat) (own : Nat) (sub : [.net] ⊆ ps := by decide) : Within ps o (l.epochStart k own) := by
  refine h.then sub fun _ h => ?_
  unfold Lane.epochStart
  dsimp only
  split
  · exact (((h.setChan ..).eventU ..).completeOpt ..).ite h
  · exact h

theorem Within.seenPrune {ps : List Part} {o l : Lane} (h : Within ps o l) (k : Nat) (own : Nat) (sub : [.net] ⊆ ps := by decide) : Within ps o (l.seenPrune k own) :=
  h.then sub fun _ h => h.upd

theorem Within.cycleBlocks {ps : List Part} {o l : Lane} (h : Within ps o l) (sub : [.link] ⊆ ps := by decide) : Within ps o l.cycleBlocks := by
  refine h.then sub fun _ h => ?_
  unfold Lane.cycleBlocks
  exact h.ite (h.sendBoth ..)

theorem Within.skewTest {ps : List Part} {o l : Lane} (h : Within ps o l) (sub : [.net] ⊆ ps := by decide) : Within ps o l.skewTest := by
  refine h.then sub fun _ h => ?_
  unfold Lane.skewTest
  exact (h.upd.eventU ..).ite h.upd

theorem Within.adoptCand {ps : List Part} {o l : Lane} (h : Within ps o l) (x : Nat × Nat × Nat × Nat) (sub : [.net] ⊆ ps := by decide) : Within ps o (l.adoptCand x) :=
  h.then sub fun _ h => h.upd

theorem Within.netStep {ps : List Part} {o l : Lane} (h : Within ps o l) (sub : [.net] ⊆ ps := by decide) : Within ps o l.netStep := by
  refine h.then sub fun _ h => ?_
  unfold Lane.netStep
  refine h.upd.reintegrate.ite ?_
  split
  · exact h.reintegrate
  · exact (h.netSynced ..).ite h
  · refine ((h.netSynced ..).eventU ..).ite (.ite ?_ (h.netListen.ite h))
    split
    · exact (h.adoptCand ..).ite h.netListen
    · exact h.netListen
  · exact ((h.eventU ..).netPassive).ite h
  · exact h

theorem Within.linkJoin {ps : List Part} {o l : Lane} (h : Within ps o l) (sub : [.net] ⊆ ps := by decide) : Within ps o l.linkJoin := by
  refine h.then sub fun _ h => ?_
  unfold Lane.linkJoin
  split
  · exact (h.upd.eventU ..).ite h
  · exact h

theorem Within.healthRecord {ps : List Part} {o l : Lane} (h : Within ps o l) (sub : [] ⊆ ps := by decide) : Within ps o l.healthRecord := by
  refine h.then sub fun _ h => ?_
  unfold Lane.healthRecord
  exact h.qOverwrite ..

theorem Within.adoptEnd {ps : List Part} {o l : Lane} (h : Within ps o l) (sub : [.net] ⊆ ps := by decide) : Within ps o l.adoptEnd := by
  refine h.then sub fun _ h => ?_
  unfold Lane.adoptEnd
  exact h.when _ h.upd

theorem Within.delayReq {ps : List Part} {o l : Lane} (h : Within ps o l) (f : RxFrame) (sub : [.net] ⊆ ps := by decide) : Within ps o (l.delayReq f) := by
  refine h.then sub fun _ h => ?_
  unfold Lane.delayReq
  refine h.ite ?_
  split <;> exact (h.guardCut ..).ite (.lit rfl h.freeNat)

theorem Within.delayResp {ps : List Part} {o l : Lane} (h : Within ps o l) (f : RxFrame) (sub : [.net] ⊆ ps := by decide) : Within ps o (l.delayResp f) := by
  refine h.then sub fun _ h => ?_
  unfold Lane.delayResp
  exact h.ite (h.upd.ite h.upd)

theorem Within.adopt {ps : List Part} {o l : Lane} (h : Within ps o l) (x : Fr) (f : RxFrame) (sub : [.net] ⊆ ps := by decide) : Within ps o (l.adopt x f) :=
  h.then sub fun _ h => h.upd

theorem Within.ffTake {ps : List Part} {o l : Lane} (h : Within ps o l) (x : Fr) (d : Int) (sub : [.net] ⊆ ps := by decide) : Within ps o (l.ffTake x d) :=
  h.then sub fun _ h => h.upd

theorem Within.ffUse {ps : List Part} {o l : Lane} (h : Within ps o l) (x : Fr) (d : Int) (sub : [.net] ⊆ ps := by decide) : Within ps o (l.ffUse x d) := by
  refine h.then sub fun _ h => ?_
  unfold Lane.ffUse
  split
  · exact h.ite (h.ffTake ..)
  · exact h.ffTake ..

theorem Within.ffListen {ps : List Part} {o l : Lane} (h : Within ps o l) (x : Fr) (f : RxFrame) (sub : [.net] ⊆ ps := by decide) : Within ps o (l.ffListen x f) := by
  refine h.then sub fun _ h => ?_
  unfold Lane.ffListen
  exact ((h.netListen.ite h).eventU ..).ite (((h.netListen.ite h).eventU ..).ite ((h.adopt ..).grdSee ..))

theorem Within.ffRx {ps : List Part} {o l : Lane} (h : Within ps o l) (f : RxFrame) (x : Fr) (sub : [.net] ⊆ ps := by decide) : Within ps o (l.ffRx f x) := by
  refine h.then sub fun _ h => ?_
  unfold Lane.ffRx
  dsimp only
  split
  · exact h.upd.ffListen ..
  · exact h.upd
  · exact h.upd
  · exact (h.upd.ffListen ..).ite (((h.upd.eventU ..).ffListen ..).ite h.upd)
  · exact (h.upd.ffListen ..).ite ((h.upd.grdSee ..).ite (h.upd.ite ((h.upd.grdSee ..).ite (.ite (.lit rfl ((h.upd.grdSee ..).ffUse ..)) ((h.upd.grdSee ..).netListen)))))
  · exact ((h.upd.eventU ..).ffListen ..).ite ((h.upd.grdSee ..).ite ((h.upd.grdSee ..).ffUse ..))

theorem Within.staticRx {ps : List Part} {o l : Lane} (h : Within ps o l) (f : RxFrame) (x : Fr) (sub : [.net] ⊆ ps := by decide) : Within ps o (l.staticRx f x) := by
  refine h.then sub fun _ h => ?_
  unfold Lane.staticRx
  exact .ite (.lit rfl (((h.upd.foldl _ (fun m k hm => hm.qOverwrite ..)).netSynced ..).ite (h.upd.foldl _ (fun m k hm => hm.qOverwrite ..)))) (((h.upd.foldl _ (fun m k hm => hm.qOverwrite ..)).netSynced ..).ite (h.upd.foldl _ (fun m k hm => hm.qOverwrite ..)))

theorem Within.claimBack {ps : List Part} {o l : Lane} (h : Within ps o l) (sub : [.net] ⊆ ps := by decide) : Within ps o l.claimBack := by
  refine h.then sub fun _ h => ?_
  unfold Lane.claimBack
  exact .eventU (.lit rfl h.freeNat) ..

theorem Within.claimFrame {ps : List Part} {o l : Lane} (h : Within ps o l) (f : RxFrame) (sub : [.net] ⊆ ps := by decide) : Within ps o (l.claimFrame f) := by
  refine h.then sub fun _ h => ?_
  unfold Lane.claimFrame
  exact h.upd.ite (h.upd.claimBack.ite h.upd)

theorem Within.rejoinRx {ps : List Part} {o l : Lane} (h : Within ps o l) (x : Fr) (sub : [.net] ⊆ ps := by decide) : Within ps o (l.rejoinRx x) := by
  refine h.then sub fun _ h => ?_
  unfold Lane.rejoinRx
  exact h.upd.ite h

theorem Within.netLinkDown {ps : List Part} {o l : Lane} (h : Within ps o l) (port : Nat) (sub : [.net] ⊆ ps := by decide) : Within ps o (l.netLinkDown port) := by
  refine h.then sub fun _ h => ?_
  unfold Lane.netLinkDown
  exact (h.upd.eventU ..).ite h.upd

theorem Within.netLinkUp {ps : List Part} {o l : Lane} (h : Within ps o l) (port : Nat) (sub : [.net] ⊆ ps := by decide) : Within ps o (l.netLinkUp port) := by
  refine h.then sub fun _ h => ?_
  unfold Lane.netLinkUp
  exact h.ite (h.upd.ite (h.upd.eventU ..))

theorem Within.canBusOff {ps : List Part} {o l : Lane} (h : Within ps o l) (p : Nat) (sub : [.ports] ⊆ ps := by decide) : Within ps o (l.canBusOff p) := by
  refine h.then sub fun _ h => ?_
  unfold Lane.canBusOff
  exact h.ite (((((h.setCan ..).eventU ..).setCan ..).eventU ..).ite ((h.setCan ..).eventU ..))

theorem Within.canStatus {ps : List Part} {o l : Lane} (h : Within ps o l) (p : Nat) (sub : [.fn, .ports] ⊆ ps := by decide) : Within ps o (l.canStatus p) := by
  refine h.then sub fun _ h => ?_
  unfold Lane.canStatus
  exact h.ite (((h.setCan ..).speedRequest).canSend ..)

theorem Within.setDl {ps : List Part} {o l : Lane} (h : Within ps o l) (k : Nat) (x : DLink) (sub : [.ports] ⊆ ps := by decide) : Within ps o (l.setDl k x) :=
  h.then sub fun _ h => h.upd

theorem Within.dlSend {ps : List Part} {o l : Lane} (h : Within ps o l) (k : Nat) (sub : [.fn, .ports] ⊆ ps := by decide) : Within ps o (l.dlSend k) := by
  refine h.then sub fun _ h => ?_
  unfold Lane.dlSend
  exact h.ite (((h.upd.ite h).qPass ..).setDl ..)

theorem Within.dlData {ps : List Part} {o l : Lane} (h : Within ps o l) (k : Nat) (b : List Byte) (next : Bool) (sub : [.fn, .ports] ⊆ ps := by decide) : Within ps o (l.dlData k b next) := by
  refine h.then sub fun _ h => ?_
  unfold Lane.dlData
  exact .lit rfl ((((h.qPass ..).setDl ..).eventU ..).ite ((h.qPass ..).setDl ..))

theorem Within.cutOwn {ps : List Part} {o l : Lane} (h : Within ps o l) (sub : [.net] ⊆ ps := by decide) : Within ps o l.cutOwn :=
  h.then sub fun _ h => h.upd

theorem Within.weevilAbort {ps : List Part} {o l : Lane} (h : Within ps o l) (sub : [.mem] ⊆ ps := by decide) : Within ps o l.weevilAbort := by
  refine h.then sub fun _ h => ?_
  unfold Lane.weevilAbort
  exact h.ite h.upd

theorem Within.logRingMode {ps : List Part} {o l : Lane} (h : Within ps o l) (sub : [.mem] ⊆ ps := by decide) : Within ps o l.logRingMode := by
  refine h.then sub fun _ h => ?_
  unfold Lane.logRingMode
  exact h.ite (h.upd.event ..)

theorem Within.logRoom {ps : List Part} {o l : Lane} (h : Within ps o l) (sub : [.mem] ⊆ ps := by decide) : Within ps o l.logRoom := by
  refine h.then sub fun _ h => ?_
  unfold Lane.logRoom
  exact h.ite (h.upd.ite (h.upd.ite (.lit rfl h.logRingMode)))

theorem Within.withVals {ps : List Part} {o l : Lane} (h : Within ps o l) (vs : List PVal) (sub : [.params, .held] ⊆ ps := by decide) : Within ps o (l.withVals vs) := by
  refine h.then sub fun _ h => ?_
  unfold Lane.withVals
  exact h.settled.foldl _ (fun m k hm => hm.pset ..)

theorem Within.badEvent {ps : List Part} {o l : Lane} (h : Within ps o l) (budget : Bool) (sub : [] ⊆ ps := by decide) : Within ps o (l.badEvent budget) := by
  refine h.then sub fun _ h => ?_
  unfold Lane.badEvent
  exact (h.eventU ..).ite h

theorem Within.estimate {ps : List Part} {o l : Lane} (h : Within ps o l) (sub : [.gd, .sns, .le] ⊆ ps := by decide) : Within ps o l.estimate := by
  have set (a b c : Nat) : Within ps o { l with gd.pwrEst := a, le.load := b, sns.occ := c } := h.then sub fun _ h => h.upd
  exact set ..

theorem Within.portsDown {ps : List Part} {o l : Lane} (h : Within ps o l) (sub : [.link, .red, .net] ⊆ ps := by decide) : Within ps o l.portsDown :=
  h.then sub fun _ h => h.upd

theorem Within.goOff {ps : List Part} {o l : Lane} (h : Within ps o l) (pstate : Nat) (sub : [.st, .link, .fn, .red, .net, .pwr] ⊆ ps := by decide) : Within ps o (l.goOff pstate) := by
  refine h.then sub fun _ h => ?_
  unfold Lane.goOff
  exact (h.upd.portsDown.setSt ..).cellFollow

theorem Within.regStart {ps : List Part} {o l : Lane} (h : Within ps o l) (sub : [.pwr] ⊆ ps := by decide) : Within ps o l.regStart :=
  h.then sub fun _ h => h.upd

theorem Within.wakeBegin {ps : List Part} {o l : Lane} (h : Within ps o l) (sub : [.st, .pwr, .boot] ⊆ ps := by decide) : Within ps o l.wakeBegin := by
  refine h.then sub fun o h => ?_
  have waking : Within [.st, .pwr, .boot] o { l.setSt .waking with pwr.pstate := 5, pwr.pend := none, boot.pu := { l.boot.pu with lock := false } } := (h.setSt .waking).upd
  unfold Lane.wakeBegin
  exact waking.regStart.ite waking.upd

theorem Within.bootGo {ps : List Part} {o l : Lane} (h : Within ps o l) (st : WakeStep) (sub : [.pwr] ⊆ ps := by decide) : Within ps o (l.bootGo st) :=
  h.then sub fun _ h => h.upd

theorem Within.cfgChoice {ps : List Part} {o l : Lane} (h : Within ps o l) (cfg : CfgImage) (sub : [.mram, .boot] ⊆ ps := by decide) : Within ps o (l.cfgChoice cfg) := by
  refine h.then sub fun o h => ?_
  unfold Lane.cfgChoice
  extract_lets l1 g found _ l2 _ l3
  have h1 : Within [.mram, .boot] o l1 := h.foldl _ fun _ _ hx => hx.event ..
  clear_value l1
  have h2 : Within [.mram, .boot] o l2 := h1.upd
  clear_value l2 found
  split
  · exact Within.mramErase (Within.upd h2) ..
  · exact ((Within.mramErase (h2.upd : Within [.mram, .boot] o l3) ..).mramErase ..).event ..

theorem Within.handover {ps : List Part} {o l : Lane} (h : Within ps o l) (sub : [.pwr, .boot] ⊆ ps := by decide) : Within ps o l.handover := by
  refine h.then sub fun _ h => ?_
  unfold Lane.handover
  exact h.ite (h.upd.bootGo ..)

theorem Within.withImage {ps : List Part} {o l : Lane} (h : Within ps o l) (x : CfgImage) (sub : [.params, .held, .slots] ⊆ ps := by decide) : Within ps o (l.withImage x) := by
  refine h.then sub fun _ h => ?_
  unfold Lane.withImage
  exact (h.each _ (fun k m hm => hm.setMotor ..)).withVals ..

theorem Within.imageDrop {ps : List Part} {o l : Lane} (h : Within ps o l) (sub : [.boot] ⊆ ps := by decide) : Within ps o l.imageDrop := by
  refine h.then sub fun _ h => ?_
  unfold Lane.imageDrop
  exact h.upd.event ..

theorem Within.imageJudge {ps : List Part} {o l : Lane} (h : Within ps o l) (sub : [.params, .held, .slots, .boot] ⊆ ps := by decide) : Within ps o l.imageJudge := by
  refine h.then sub fun _ h => ?_
  unfold Lane.imageJudge
  exact h.imageDrop.ite (((h.badEvent ..).imageDrop).ite h)

theorem Within.tabsLoad {ps : List Part} {o l : Lane} (h : Within ps o l) (sub : [.mot] ⊆ ps := by decide) : Within ps o l.tabsLoad := by
  refine h.then sub fun _ h => ?_
  unfold Lane.tabsLoad
  refine h.each _ (fun k m hm => ?_)
  split
  · exact hm.setTable ..
  · exact hm.setTable ..
  · exact ((hm.setTable ..).eventU ..).ite (hm.setTable ..)

theorem Within.quickRecord {ps : List Part} {o l : Lane} (h : Within ps o l) (sub : [.mram, .bist] ⊆ ps := by decide) : Within ps o l.quickRecord := by
  refine h.then sub fun _ h => ?_
  unfold Lane.quickRecord
  exact h.ite (h.bistRecord ..)

end Sys2Proof.Machine
end

section
/-! What a frame leaves as it was, field by field, and how the settlement of a statement about one command begins. -/

namespace Sys2Proof.Machine

set_option Elab.async false

/-! ### What a frame leaves as it was -/

theorem Part.pick_out {α : Type} {ps : List Part} {p : Part} (out : ps.elem p = false) (x y : α) : p.pick ps x y = x := by
  unfold Part.pick
  rw [if_neg (by rw [out]; decide)]

section
variable {ps : List Part} {l m : Lane} (h : Within ps l m)
include h

theorem Within.now_eq : m.now = l.now := (congrArg Lane.now h :)

theorem Within.st_eq (out : ps.elem .st = false := by rfl) : m.st = l.st := (congrArg Lane.st h :).trans (Part.pick_out out ..)
theorem Within.link_eq (out : ps.elem .link = false := by rfl) : m.link = l.link := (congrArg Lane.link h :).trans (Part.pick_out out ..)
theorem Within.params_eq (out : ps.elem .params = false := by rfl) : m.params = l.params := (congrArg Lane.params h :).trans (Part.pick_out out ..)
theorem Within.held_eq (out : ps.elem .held = false := by rfl) : m.held = l.held := (congrArg Lane.held h :).trans (Part.pick_out out ..)
theorem Within.sns_eq (out : ps.elem .sns = false := by rfl) : m.sns = l.sns := (congrArg Lane.sns h :).trans (Part.pick_out out ..)
theorem Within.mp_eq (out : ps.elem .mp = false := by rfl) : m.mp = l.mp := (congrArg Lane.mp h :).trans (Part.pick_out out ..)
theorem Within.fn_eq (out : ps.elem .fn = false := by rfl) : m.fn = l.fn := (congrArg Lane.fn h :).trans (Part.pick_out out ..)
theorem Within.red_eq (out : ps.elem .red = false := by rfl) : m.red = l.red := (congrArg Lane.red h :).trans (Part.pick_out out ..)
theorem Within.net_eq (out : ps.elem .net = false := by rfl) : m.net = l.net := (congrArg Lane.net h :).trans (Part.pick_out out ..)
theorem Within.ports_eq (out : ps.elem .ports = false := by rfl) : m.ports = l.ports := (congrArg Lane.ports h :).trans (Part.pick_out out ..)
theorem Within.pwr_eq (out : ps.elem .pwr = false := by rfl) : m.pwr = l.pwr := (congrArg Lane.pwr h :).trans (Part.pick_out out ..)
theorem Within.boot_eq (out : ps.elem .boot = false := by rfl) : m.boot = l.boot := (congrArg Lane.boot h :).trans (Part.pick_out out ..)
theorem Within.bist_eq (out : ps.elem .bist = false := by rfl) : m.bist = l.bist := (congrArg Lane.bist h :).trans (Part.pick_out out ..)
theorem Within.slot_eq (out : ps.elem .slots = false := by rfl) : m.mot.slot = l.mot.slot := (congrArg (fun m => m.mot.slot) h :).trans (Part.pick_out out ..)
theorem Within.freeze_eq (out : ps.elem .freeze = false := by rfl) : m.pos.freeze = l.pos.freeze := (congrArg (fun m => m.pos.freeze) h :).trans (Part.pick_out out ..)
theorem Within.mram_eq (out : ps.elem .mram = false := by rfl) : m.mem.mram = l.mem.mram := (congrArg (fun m => m.mem.mram) h :).trans (Part.pick_out out ..)

theorem Within.gd_eq (out : ps.elem .gd = false := by rfl) (hbs : ps.elem .halfBridges = false := by rfl) : m.gd = l.gd := by
  have e : m.gd = { Part.pick ps .gd l.gd m.gd with hb := Part.pick ps .halfBridges l.gd.hb m.gd.hb } := (congrArg Lane.gd h :)
  rwa [Part.pick_out out, Part.pick_out hbs] at e

theorem Within.pwm_eq (out : ps.elem .pwm = false := by rfl) (chs : ps.elem .channels = false := by rfl) : m.pwm = l.pwm := by
  have e : m.pwm = { Part.pick ps .pwm l.pwm m.pwm with ch := Part.pick ps .channels l.pwm.ch m.pwm.ch } := (congrArg Lane.pwm h :)
  rwa [Part.pick_out out, Part.pick_out chs] at e

theorem Within.pos_eq (out : ps.elem .pos = false := by rfl) (frz : ps.elem .freeze = false := by rfl) : m.pos = l.pos := by
  have e : m.pos = { Part.pick ps .pos l.pos m.pos with freeze := Part.pick ps .freeze l.pos.freeze m.pos.freeze } := (congrArg Lane.pos h :)
  rwa [Part.pick_out out, Part.pick_out frz] at e

theorem Within.mot_eq (out : ps.elem .mot = false := by rfl) (sl : ps.elem .slots = false := by rfl) : m.mot = l.mot := by
  have e : m.mot = { Part.pick ps .mot l.mot m.mot with slot := Part.pick ps .slots l.mot.slot m.mot.slot } := (congrArg Lane.mot h :)
  rwa [Part.pick_out out, Part.pick_out sl] at e

/-- The records of the gate drive and of the PWM unit but for their half-bridges and channels. -/
theorem Within.gd_but_hb (out : ps.elem .gd = false := by rfl) : m.gd = { l.gd with hb := m.gd.hb } := by
  have e : m.gd = { Part.pick ps .gd l.gd m.gd with hb := Part.pick ps .halfBridges l.gd.hb m.gd.hb } := (congrArg Lane.gd h :)
  rw [Part.pick_out out] at e
  rw [e]
theorem Within.pwm_but_ch (out : ps.elem .pwm = false := by rfl) : m.pwm = { l.pwm with ch := m.pwm.ch } := by
  have e : m.pwm = { Part.pick ps .pwm l.pwm m.pwm with ch := Part.pick ps .channels l.pwm.ch m.pwm.ch } := (congrArg Lane.pwm h :)
  rw [Part.pick_out out] at e
  rw [e]

/-- The parameter values, but for the address of the service port, which depends on the lane code. -/
theorem Within.pwork_eq (id inst : Nat) (params : ps.elem .params = false := by rfl) (own : id ≠ 0x1106 := by decide) : m.pwork id inst = l.pwork id inst := by
  simp only [Lane.pwork, Lane.dflt, h.params_eq params, beq_iff_eq, own, if_false]
theorem Within.pvals_eq (id inst : Nat) (params : ps.elem .params = false := by rfl) (held : ps.elem .held = false := by rfl) (own : id ≠ 0x1106 := by decide) :
    m.pvals id inst = l.pvals id inst := by
  simp only [Lane.pvals, h.held_eq held, h.pwork_eq id inst params own]
theorem Within.p_eq (id inst : Nat) (params : ps.elem .params = false := by rfl) (held : ps.elem .held = false := by rfl) (own : id ≠ 0x1106 := by decide) :
    m.p id inst = l.p id inst := by
  simp only [Lane.p, h.pvals_eq id inst params held own]

/-- The memory but for its MRAM and for what reports change. -/
theorem Within.mem_eq (out : ps.elem .mem = false := by rfl) (mr : ps.elem .mram = false := by rfl) : m.mem = { l.mem with logBuf := m.mem.logBuf, logNext := m.mem.logNext } := by
  have e : m.mem = { Part.pick ps .mem l.mem m.mem with mram := Part.pick ps .mram l.mem.mram m.mem.mram, logBuf := m.mem.logBuf, logNext := m.mem.logNext } := (congrArg Lane.mem h :)
  rwa [Part.pick_out out, Part.pick_out mr] at e

end

/-- A frame of reports alone. -/
theorem Within.reports {l l' : Lane} (h : Within [] l l') : Reports l l' := h

/-! ### Statements about one command -/

/-- A command that acts on its lane at once, with what its rule comes to on the lane. -/
theorem next_of_eq {i : Instr} {s : State} {a : At} {ok : Bool} {f : Lane → Lane} {x : Lane} {P : Lane → Prop} (e : exec i s = run ok s a f) (k : ok = true)
    (r : f (s.laneAt a) = x) (p : P (x.wired a.lane)) (b : i.stamp = a := by rfl) : Next i s P := by
  subst b
  exact next_of e k (r ▸ p)

/-- A command whose refusals all fail is served. -/
theorem guarded_ok {l : Lane} {cs : List (Bool × Nat)} {f : Lane → Lane × Reply} (ok : ∀ c ∈ cs, c.1 = false) : guarded l cs f = f l := by
  have none : firstOf cs = none := by
    induction cs with
    | nil => rfl
    | cons c cs ih =>
      obtain ⟨here, rest⟩ := List.forall_mem_cons.mp ok
      simp only [firstOf, here, Bool.false_eq_true, if_false]
      exact ih rest
  unfold guarded
  rw [none]

/-- A host command none of whose refusals applies, and that answers at once. -/
theorem answers_guarded {i : Instr} {s : State} {a : At} {op st : Nat} {m : Msg} {res : List Byte} {P : Lane → Prop} {h : Lane → Lane × Reply} {cs : List (Bool × Nat)}
    {f : Lane → Lane × Reply} {x : Lane} (e : exec i s = run true s a (fun l => l.serve op m h)) (b : (s.laneAt a).ready op m = true)
    (g : h ((s.laneAt a).taken op m) = guarded ((s.laneAt a).taken op m) cs f) (ok : ∀ c ∈ cs, c.1 = false)
    (r : f ((s.laneAt a).taken op m) = (x, .now st res)) (p : P x) (at_ : i.stamp = a := by rfl) : Answers i s op m st res P := by
  subst at_
  exact answers_of e b (g.trans ((guarded_ok ok).trans r)) p

/-- A host command none of whose refusals applies, and that a later step answers. -/
theorem defers_guarded {i : Instr} {s : State} {a : At} {op : Nat} {m : Msg} {P : Lane → Prop} {h : Lane → Lane × Reply} {cs : List (Bool × Nat)}
    {f : Lane → Lane × Reply} {x : Lane} (e : exec i s = run true s a (fun l => l.serve op m h)) (b : (s.laneAt a).ready op m = true)
    (g : h ((s.laneAt a).taken op m) = guarded ((s.laneAt a).taken op m) cs f) (ok : ∀ c ∈ cs, c.1 = false)
    (r : f ((s.laneAt a).taken op m) = (x, .later)) (p : P x) (at_ : i.stamp = a := by rfl) : Defers i s op m P := by
  subst at_
  exact defers_of e b (g.trans ((guarded_ok ok).trans r)) p

end Sys2Proof.Machine
end

section
/-! Latches of a half-bridge (R50 to R54): what a VDS fault, its automatic clear, a double drive and both commands on do to the lane, and the settlement of O10. -/

namespace Sys2Proof.Machine

set_option Elab.async false

/-! ### Frames -/

/-- A half-bridge that is off for good or for now takes its slot to the lane-safe state: the slots, the stages and the held values may change, the gate drive does not. -/
def Lane.slotOff (l : Lane) (k : Nat) : Lane :=
  match l.slotOfHb k with
  | some s => (l.takeSafe s).stepOff s
  | none => l

theorem Within.slotOff {l m : Lane} (h : Within [.held, .slots, .mp] l m) (k : Nat) : Within [.held, .slots, .mp] l (m.slotOff k) := by
  unfold Lane.slotOff
  split
  · exact (h.takeSafe ..).stepOff ..
  · exact h

/-! ### VDS (R41, R50, R51) -/

/-- The lane with the latch of a VDS fault: the half-bridge is latched and the switch sinks at the soft-off code. -/
def Lane.vdsLatch (l : Lane) (k ch : Nat) : Lane :=
  let m := (l.setHb k { l.hb k with vds := if l.p 0x2124 == 0 then .untilPowerCycle else .latched l.now, vdsRetry := l.p 0x2124 }).setGch ch { l.gch ch with soft := true }
  m.sinkAt ch (m.sinkCode ch)

theorem Lane.vdsFault_latches (l : Lane) (k : Nat) (v : VdsOver) (clear : (l.hb k).vds = .clear) (drives : (l.hb k).doubleDrive = false) (holds : l.vdsHolds k v = true) :
    Within [.held, .slots, .mp] (l.vdsLatch k (2 * k + b2n (!v.high))) (l.vdsFault k v) := by
  have met : ¬((l.hb k).vds != .clear || (l.hb k).doubleDrive || !l.vdsHolds k v) = true := by simp [clear, drives, holds]
  unfold Lane.vdsFault
  rw [if_neg met]
  have told : Within [.held, .slots, .mp] (l.vdsLatch k (2 * k + b2n (!v.high))) ((l.vdsLatch k (2 * k + b2n (!v.high))).hbEvent k (fun l => l.event 0x2105 (2 * k + b2n (!v.high)))) :=
    (Within.refl _).hbEvent _ ((Within.refl _).event ..)
  exact ((told.hbLost k).ite told).slotOff k

/-- The gate drive with the latch of a VDS fault. -/
theorem Lane.vdsLatch_gd (l : Lane) (k ch : Nat) :
    ∃ x : GateCh, (ch < l.gd.ch.length → x = { l.gch ch with soft := true, sink := some (l.p 0x210B) }) ∧
      (l.vdsLatch k ch).gd = { l.gd with hb := l.gd.hb.set k { l.hb k with vds := if l.p 0x2124 = 0 then .untilPowerCycle else .latched l.now, vdsRetry := l.p 0x2124 },
                                         ch := l.gd.ch.set ch x } := by
  let m := (l.setHb k { l.hb k with vds := if l.p 0x2124 == 0 then .untilPowerCycle else .latched l.now, vdsRetry := l.p 0x2124 }).setGch ch { l.gch ch with soft := true }
  refine ⟨{ m.gch ch with sink := some (m.sinkCode ch) }, fun known => ?_, ?_⟩
  · have soft : m.gch ch = { l.gch ch with soft := true } := Lane.gch_setGch _ _ _ known
    have code : m.sinkCode ch = l.p 0x210B := if_pos (by rw [soft])
    rw [code, soft]
  · show ({ m.gd with ch := m.gd.ch.set ch _ } : Gd) = _
    simp only [m, Lane.setGch, Lane.setHb, List.set_set, beq_iff_eq]

/-! ### The automatic clear (R51) -/

theorem Lane.vdsAuto_due (l : Lane) (k t : Nat) (latched : (l.hb k).vds = .latched t) (due : t + ms 10 ≤ l.now) (runs : l.fwRuns = true) :
    l.vdsAuto k = if recentClears (l.hb k) l.now < (l.hb k).vdsRetry then
        ((l.setHb k { l.hb k with vds := .clear, vdsHold := l.p 0x2130 k == 0, autoClears := recent l.now (sec 1) (l.hb k).autoClears }).softEnd k).freshStart k
      else (l.setHb k { l.hb k with vds := .untilPowerCycle }).hbLost k := by
  simp [Lane.vdsAuto, latched, Lane.due, due, runs]

/-! ### Double drive (R54) -/

/-- The lane with both gates of a half-bridge sunk at code 63 and the half-bridge latched until power cycle. -/
def Lane.driveLatch (l : Lane) (k : Nat) : Lane := ((l.setHb k { l.hb k with doubleDrive := true }).sinkAt (2 * k) 63).sinkAt (2 * k + 1) 63

theorem Lane.doubleDrive_latches (l : Lane) (k : Nat) (first : (l.hb k).doubleDrive = false) : Within [.held, .slots, .mp] (l.driveLatch k) (l.doubleDrive k) := by
  have told : Within [.held, .slots, .mp] (l.driveLatch k) ((l.driveLatch k).hbEvent k (fun l => l.eventU 0x2106)) := (Within.refl _).hbEvent _ ((Within.refl _).eventU ..)
  unfold Lane.doubleDrive
  rw [if_neg (by simp [first])]
  exact (told.hbLost k).slotOff k

/-- The gate drive with both gates sunk at code 63. -/
theorem Lane.driveLatch_gd (l : Lane) (k : Nat) :
    ∃ x y : GateCh, (2 * k + 1 < l.gd.ch.length → x = { l.gch (2 * k) with sink := some 63 } ∧ y = { l.gch (2 * k + 1) with sink := some 63 }) ∧
      (l.driveLatch k).gd = { l.gd with hb := l.gd.hb.set k { l.hb k with doubleDrive := true }, ch := (l.gd.ch.set (2 * k) x).set (2 * k + 1) y } := by
  refine ⟨_, _, fun _ => ⟨rfl, ?_⟩, rfl⟩
  have other : (l.gd.ch.set (2 * k) { l.gch (2 * k) with sink := some 63 }).getD (2 * k + 1) {} = l.gch (2 * k + 1) := getD_set_ne _ _ _ _ _ (by omega)
  exact congrArg (fun g : GateCh => { g with sink := some 63 }) other

/-! ### O10 -/

/-- Settles O10: each latch is set before what follows it for the slot, which leaves the gate drive alone. -/
theorem halfBridgeLatches : Obligations.HalfBridgeLatches := by
  intro s a hb v t
  extract_lets l h ch
  intro known
  have frame {m l' : Lane} (latched : Within [.gd, .halfBridges] l m) (rest : Within [.held, .slots, .mp] m l') :
      Reports { l with gd := l'.gd, mot := l'.mot, mp := l'.mp, held := l'.held } l' :=
    ((latched.mono (by decide)).trans (rest.mono (by decide)) : Within [.held, .gd, .halfBridges, .slots, .mot, .mp] l l')
  refine ⟨fun clear drives holds => ?_, fun latched due runs => ?_, fun first => ?_, ?_⟩
  · have fault := (l.vdsFault_latches hb v clear drives holds).wired a.lane
    obtain ⟨x, sunk, gd⟩ := l.vdsLatch_gd hb ch
    exact next_of rfl (decide_eq_true known) ⟨x, sunk, fault.gd_eq.trans gd, frame (.upd (.refl l)) fault⟩
  · refine next_of_eq rfl (decide_eq_true known) (l.vdsAuto_due hb t latched due runs) ?_
    by_cases retry : recentClears h l.now < h.vdsRetry
    · rw [if_pos retry, if_pos retry]
      exact reports_wired _ _
    · have lost : Within [.slots] (l.setHb hb { h with vds := .untilPowerCycle }) (((l.setHb hb { h with vds := .untilPowerCycle }).hbLost hb).wired a.lane) :=
        ((Within.refl _).hbLost hb).wired a.lane
      rw [if_neg retry, if_neg retry]
      have whole : Within [.gd, .halfBridges, .mot, .slots] l (((l.setHb hb { h with vds := .untilPowerCycle }).hbLost hb).wired a.lane) :=
        .trans (.upd (.refl l)) (lost.mono (by decide))
      exact ⟨lost.gd_eq, whole⟩
  · obtain ⟨x, y, sunk, gd⟩ := l.driveLatch_gd hb
    have drive := (l.doubleDrive_latches hb first).wired a.lane
    exact next_of rfl (decide_eq_true known) ⟨x, y, sunk, drive.gd_eq.trans gd, frame (.upd (.refl l)) drive⟩
  · refine next_of rfl (decide_eq_true known) ?_
    have both : (if l.p 0x2130 hb == 1 && !(l.hb hb).den then Interlock.waitPeriod else .waitBothOff) = if l.p 0x2130 hb = 1 ∧ h.den = false then .waitPeriod else .waitBothOff := by
      simp [h]
    rw [← both]
    exact (((Within.refl (ps := []) _).hbEvent hb ((Within.refl _).eventU 0x2104)).wired a.lane).reports

end Sys2Proof.Machine
end

section
/-! Gate supply, bootstraps and direct mode (R43, R45, R46, R55): what does not change for the slots and the other half-bridges, and the settlement of O11. -/

namespace Sys2Proof.Machine

set_option Elab.async false

/-! ### Gate supply (R43) -/

/-- The frame of what may bring slots to their lane-safe state. -/
theorem Within.drive {l l' : Lane} (h : Within [.gd, .halfBridges, .held, .slots, .mot, .mp] l l') :
    Reports { l with gd := l'.gd, mot := l'.mot, mp := l'.mp, held := l'.held } l' := h

/-- A slot that stands in its lane-safe state and takes it anew starts nothing. -/
theorem Lane.takeSafe_again (l : Lane) (k : Nat) (safe : (l.motor k).laneSafe = true) : Within [.slots] l (l.takeSafe k) := by
  have stand : l.stepStand k = l := by
    unfold Lane.stepStand
    split
    · rw [if_pos safe]
    · rfl
  unfold Lane.takeSafe
  extract_lets m
  have safe : m.laneSafe = true := safe
  rw [if_pos safe, stand]
  split
  · exact .refl l
  · exact .upd (.refl l)

theorem Lane.vgdFlags_frame (l : Lane) (ov uv : Bool) : Within [.gd] l { l with gd.vgdOv := ov, gd.vgdUv := uv } := .upd (.refl l)

/-- VGD out of a threshold, with what follows for slots and stages. -/
theorem Lane.vgdFault_sets (l : Lane) (ov : Bool) :
    Within [.held, .slots, .mp] { l with gd.vgdOv := l.gd.vgdOv || ov, gd.vgdUv := l.gd.vgdUv || !ov } (l.vgdFault ov) := by
  have flag : (if ov then { l with gd.vgdOv := true } else { l with gd.vgdUv := true }) = { l with gd.vgdOv := l.gd.vgdOv || ov, gd.vgdUv := l.gd.vgdUv || !ov } := by
    cases ov <;> simp
  unfold Lane.vgdFault
  rw [flag]
  refine ((Within.refl _).eventU _).each 8 fun k m hm => .stepOff ?_ k
  exact (hm.takeSafe k).ite hm

/-- VGD back inside both thresholds; slots in their lane-safe state take it anew. -/
theorem Lane.vgdBack_clears (l : Lane) (bad : l.vgdBad = true) :
    Within [.slots] { l with gd.vgdUv := false, gd.vgdOv := false, gd.vgdHold := 0x00FF } l.vgdBack := by
  unfold Lane.vgdBack
  rw [if_neg (by simp [bad])]
  refine (Within.refl _).each 8 fun k m hm => ?_
  split
  · exact hm.trans (m.takeSafe_again k ‹_›)
  · exact hm

/-! ### Bootstraps (R45, R46) -/

theorem HalfBridge.follow_bst (h : HalfBridge) (d : Bool) (t : Nat) :
    (h.follow d t).bstUv = h.bstUv ∧ (h.follow d t).refreshing = h.refreshing ∧ (h.follow d t).waitBst = h.waitBst := by
  unfold HalfBridge.follow
  split
  · exact ⟨rfl, rfl, rfl⟩
  · split <;> exact ⟨rfl, rfl, rfl⟩

/-- A high side whose bootstrap stands below its threshold is off. -/
theorem Lane.switchOn_bstUv (l : Lane) (k : Nat) (low : (l.hb k).bstUv = true) : l.switchOn k true = false := by
  unfold Lane.switchOn Lane.gateSince
  extract_lets h
  have low : h.bstUv = true := by
    unfold h
    split
    · exact (HalfBridge.follow_bst _ _ _).1.trans low
    · exact low
  simp [low]

theorem Lane.setHb_setHb (l : Lane) (k : Nat) (x y : HalfBridge) : (l.setHb k x).setHb k y = l.setHb k y := by
  simp [Lane.setHb]

/-- An update of one half-bridge after another is one update, also where there is no such half-bridge. -/
theorem Lane.setHb_update (l : Lane) (k : Nat) (x : HalfBridge) (f : HalfBridge → HalfBridge) :
    (l.setHb k x).setHb k (f ((l.setHb k x).hb k)) = l.setHb k (f x) := by
  rw [Lane.setHb_setHb]
  by_cases known : k < l.gd.hb.length
  · rw [l.hb_setHb k x known]
  · simp [Lane.setHb, List.set_eq_of_length_le (Nat.le_of_not_lt known)]

/-- What waited for a bootstrap does not depend on the half-bridge itself. -/
theorem Lane.waitFree_setHb (l : Lane) (k : Nat) (x : HalfBridge) : (l.setHb k x).waitFree k = l.waitFree k := by
  have other (f : HalfBridge → Bool) : (fun i => i != k && f ((l.setHb k x).hb i)) = fun i => i != k && f (l.hb i) := by
    funext i
    by_cases e : i = k
    · simp [e]
    · rw [l.hb_setHb_ne k i x e]
  unfold Lane.waitFree
  simp only [Bool.and_assoc, other (fun h => h.bstUv), other (fun h => h.waitBst && !h.bstUv)]
  rfl

/-- A bootstrap that recovers outside a refresh pulse frees its own high side and, where its first pulse waited, lets that come. -/
theorem Lane.bstRise_alone (l : Lane) (k : Nat) (quiet : (l.hb k).refreshing = false) (alone : (l.hb k).waitBst = true → l.waitFree k = [k]) :
    let h := l.hb k
    let g := l.dirHb k l.now
    l.bstRise k = l.setHb k { g with bstUv := false, bstRose := l.now, bstHold := g.bstHold && !h.waitBst, waitBst := false, bstAt := if h.waitBst then l.now else g.bstAt } := by
  intro h g
  obtain ⟨-, idle, wait⟩ := HalfBridge.follow_bst (l.hb k) (l.p 0x2130 k == 1) l.now
  have idle : g.refreshing = false := idle.trans quiet
  have wait : g.waitBst = h.waitBst := wait
  have last : l.bstRise k = if h.waitBst then (l.setHb k { g with bstUv := false, bstRose := l.now }).eachOf ((l.setHb k { g with bstUv := false, bstRose := l.now }).waitFree k)
      (fun i l => l.setHb i { l.hb i with waitBst := false, bstHold := false, bstAt := l.now }) else l.setHb k { g with bstUv := false, bstRose := l.now } := by
    unfold Lane.bstRise
    simp only [show l.dirHb k l.now = g from rfl, idle, wait, Bool.false_and]
  rw [last]
  cases first : h.waitBst with
  | false =>
    rw [if_neg (by simp)]
    simp [wait, first]
  | true =>
    rw [if_pos rfl, Lane.waitFree_setHb, alone first]
    exact (l.setHb_update k _ fun x => { x with waitBst := false, bstHold := false, bstAt := l.now }).trans (by simp)

/-! ### Direct mode (R55) -/

/-- A level of the pulse input counts once it has stood for 8 cycles of 2.5 ns. -/
theorem HalfBridge.follow_level (h : HalfBridge) (d : Bool) (t : Nat) (edge : h.dpul ≠ h.dpulOk) :
    (t < h.dpulAt + 8 → h.follow d t = h) ∧ (h.dpulAt + 8 ≤ t → (h.follow d t).dpulOk = h.dpul ∧ (h.follow d t).dirAt = h.dpulAt + 8) := by
  unfold HalfBridge.follow
  constructor
  · intro short
    simp [short]
  · intro stood
    rw [if_neg (by simp [edge, stood])]
    cases d <;> exact ⟨rfl, rfl⟩

/-- The switches of a half-bridge in direct mode that no protection holds. -/
theorem Lane.switchOn_direct (l : Lane) (k : Nat) (high : Bool) (direct : l.p 0x2130 k = 1) (drives : mayDrive l.st = true) (free : l.hbHeld k = false)
    (own : l.extCh k = false) (live : (l.pch k).tripped = false) (runs : l.pwm.frozen = false) (clear : (l.dirHb k l.now).interlock = .clear) (bus : l.busSink k = false)
    (both : l.lowOnly k = false) (boot : high = true → (l.dirHb k l.now).bstUv = false ∧ (l.dirHb k l.now).bstHold = false ∧ (l.dirHb k l.now).waitBst = false) :
    l.switchOn k high = ((l.dirHb k l.now).den && (l.dirHb k l.now).dpulOk == high && decide (max (fine (l.dirHb k l.now).dirAt) (l.pch k).cutAt + l.p 0x2131 k * 128 / 5 ≤ fine l.now)) := by
  have tick : fine l.now / 64 = l.now := Nat.mul_div_cancel_left _ (by decide)
  have used : l.hbUnused k = false := by simp [Lane.hbUnused, own, direct]
  have held : (high && ((l.dirHb k l.now).bstUv || ((l.dirHb k l.now).bstHold && !l.refreshFreed k (fine l.now)) || (l.dirHb k l.now).waitBst)) = false := by
    cases high with
    | false => rfl
    | true => simp [boot rfl]
  have dead : l.deadOf k high = l.p 0x2131 k * 128 / 5 := by simp [Lane.deadOf, Lane.deadTimes, both, direct]
  simp only [Lane.switchOn, Lane.gateSince, Lane.cmdSince, Lane.haltTime, Lane.directSide, direct, tick, used, free, drives, held, live, runs, clear, bus, both, dead, beq_self_eq_true, if_true,
    Bool.false_and, Bool.not_true, Bool.or_self, Bool.not_false, Bool.and_true, bne_self_eq_false, Bool.false_eq_true, if_false]
  cases (l.dirHb k l.now).den with
  | false => simp
  | true =>
    simp only [if_true, Bool.true_and, Option.some_beq_some]
    cases (l.dirHb k l.now).dpulOk == high with
    | false => rfl
    | true =>
      by_cases late : max (fine (l.dirHb k l.now).dirAt) (l.pch k).cutAt + l.p 0x2131 k * 128 / 5 ≤ fine l.now <;> simp [late]

/-! ### O11 -/

/-- Settles O11: each flag, latch or level is the model's own update, and what follows it for slots and stages leaves the gate drive alone. -/
theorem gateSuppliesAndDirectMode : Obligations.GateSuppliesAndDirectMode := by
  refine ⟨fun s a hb ov => ?_, fun s a hb level => ?_, fun h d t => h.follow_level d t, fun l hb high => l.switchOn_direct hb high⟩
  · extract_lets l h g
    refine ⟨?_, fun bad => ?_, fun known up => ?_, fun known idle alone => ?_⟩
    · have fault := (l.vgdFault_sets ov).wired a.lane
      have flag := l.vgdFlags_frame (l.gd.vgdOv || ov) (l.gd.vgdUv || !ov)
      have frame := ((flag.mono (by decide)).trans (fault.mono (by decide))).drive
      refine next_of_eq rfl rfl rfl (And.intro ?_ ?_)
      · exact fault.gd_eq
      · exact frame
    · have back := (l.vgdBack_clears bad).wired a.lane
      have flags : Within [.gd, .halfBridges, .slots, .mot] l { l with gd.vgdUv := false, gd.vgdOv := false, gd.vgdHold := 0x00FF } := .upd (.refl l)
      exact next_of_eq rfl rfl rfl ⟨back.gd_eq, flags.trans (back.mono (by decide))⟩
    · have up : ¬g.bstUv = true := by
        rw [show g.bstUv = h.bstUv from (HalfBridge.follow_bst _ _ _).1, up]
        decide
      let x : HalfBridge := { g with bstUv := true, bstHold := true, refreshDue := l.p 0x2110 hb != 0 && l.p 0x2130 hb == 0 }
      have told : Within [] (l.setHb hb x) ((l.setHb hb x).hbEvent hb fun l => l.eventU 0x2103) := (Within.refl _).hbEvent hb ((Within.refl _).eventU 0x2103)
      have low := (told.wired a.lane).reports
      refine next_of_eq rfl (decide_eq_true known) (if_neg up) ⟨fun here => Lane.switchOn_bstUv _ _ ?_, low⟩
      have same := congrArg (fun m => (Lane.hb m hb).bstUv) low
      exact same.trans (congrArg HalfBridge.bstUv (l.hb_setHb hb x here))
    · exact next_of_eq rfl (decide_eq_true known) (l.bstRise_alone hb idle alone) (reports_wired _ _)
  · extract_lets l h g
    intro known
    refine ⟨fun edge => ?_, fun edge => ?_⟩
    · refine next_of_eq rfl (decide_eq_true known) (if_neg fun same => edge (beq_iff_eq.mp same)) ?_
      simp only [Lane.when]
      split <;> rfl
    · refine next_of_eq rfl (decide_eq_true known) (if_neg fun same => edge (beq_iff_eq.mp same)) ?_
      cases level with
      | false => simp only [Bool.false_eq_true, if_false, Bool.and_eq_true, beq_iff_eq]; rfl
      | true => rfl

end Sys2Proof.Machine
end

section
/-! Parameter values by their place: what a list of values holds after one is placed or dropped, and the working values of a lane after one is set. -/

namespace Sys2Proof.Machine

set_option Elab.async false

@[simp] theorem pfind_pinsert_same (v : PVal) (ps : List PVal) : pfind (pinsert v ps) v.id v.inst = some v.vals := by
  induction ps with
  | nil => simp [pinsert, pfind]
  | cons p ps ih =>
    unfold pinsert
    by_cases same : (p.id == v.id && p.inst == v.inst) = true
    · rw [if_pos same]; simp [pfind]
    · rw [if_neg same]
      split
      · simpa [pfind, List.find?_cons, Bool.eq_false_iff.mpr same] using ih
      · simp [pfind]

theorem pfind_pinsert_ne (v : PVal) (ps : List PVal) {id inst : Nat} (ne : (v.id == id && v.inst == inst) = false) : pfind (pinsert v ps) id inst = pfind ps id inst := by
  induction ps with
  | nil => simp [pinsert, pfind, ne]
  | cons p ps ih =>
    have skip (r : List PVal) : pfind (p :: r) id inst = if (p.id == id && p.inst == inst) = true then some p.vals else pfind r id inst := by
      unfold pfind
      rw [List.find?_cons]
      split <;> simp_all
    unfold pinsert
    by_cases same : (p.id == v.id && p.inst == v.inst) = true
    · have other : (p.id == id && p.inst == inst) = false := by
        simp only [Bool.and_eq_true, beq_iff_eq] at same
        rw [same.1, same.2, ne]
      rw [if_pos same]
      simp [pfind, ne, other]
    · rw [if_neg same]
      split
      · rw [skip, skip, ih]
      · simp [pfind, List.find?_cons, ne]

@[simp] theorem pfind_pdrop_same (id inst : Nat) (ps : List PVal) : pfind (pdrop id inst ps) id inst = none := by
  simp only [pfind, pdrop, List.find?_filter, List.find?_eq_none, Option.map_eq_none_iff, decide_eq_true_eq]
  exact fun p _ kept => by simp [kept.2] at kept

theorem pfind_pdrop_ne (ps : List PVal) {id inst id' inst' : Nat} (ne : (id' == id && inst' == inst) = false) : pfind (pdrop id inst ps) id' inst' = pfind ps id' inst' := by
  have same : (fun p : PVal => decide ((!(p.id == id && p.inst == inst)) = true ∧ (p.id == id' && p.inst == inst') = true)) = fun p => p.id == id' && p.inst == inst' := by
    funext p
    cases here : (p.id == id' && p.inst == inst') with
    | false => simp
    | true =>
      simp only [Bool.and_eq_true, beq_iff_eq] at here
      rw [here.1, here.2, ne]
      rfl
  simp only [pfind, pdrop, List.find?_filter, same]

/-- A value that is set leaves what is found at every other place. -/
theorem Lane.pfind_pset_ne (l : Lane) (v : List Nat) {id inst id' inst' : Nat} (ne : (id' == id && inst' == inst) = false) :
    pfind (l.pset id inst v).params id' inst' = pfind l.params id' inst' := by
  unfold Lane.pset
  split
  · exact pfind_pdrop_ne _ ne
  · refine pfind_pinsert_ne _ _ ?_
    rw [Bool.and_eq_false_iff] at ne ⊢
    exact ne.imp (fun h => BEq.comm.trans h) fun h => BEq.comm.trans h

/-- The defaults do not depend on a value that is set, but for the one that follows another parameter. -/
theorem Lane.dflt_pset (l : Lane) (v : List Nat) (id inst id' inst' : Nat) (own : id' = 0xB10A → id ≠ 0xB101) : (l.pset id inst v).dflt id' inst' = l.dflt id' inst' := by
  have base (h : id' = 0xB10A) : pfind (l.pset id inst v).params 0xB101 0 = pfind l.params 0xB101 0 := l.pfind_pset_ne v (by simp [(own h).symm])
  have code : (l.pset id inst v).id = l.id := by unfold Lane.pset; split <;> rfl
  unfold Lane.dflt
  rw [code]
  by_cases h : id' = 0xB10A
  · rw [base h]
  · simp only [beq_iff_eq, h, if_false]

@[simp] theorem Lane.pwork_pset (l : Lane) (id inst : Nat) (v : List Nat) : (l.pset id inst v).pwork id inst = v := by
  unfold Lane.pwork
  rw [l.dflt_pset v id inst id inst fun h => by rw [h]; decide]
  unfold Lane.pset
  split
  · simp_all
  · simp [pfind_pinsert_same ⟨id, inst, v⟩]

theorem Lane.pwork_pset_ne (l : Lane) (v : List Nat) {id inst id' inst' : Nat} (ne : (id' == id && inst' == inst) = false) (own : id' = 0xB10A → id ≠ 0xB101) :
    (l.pset id inst v).pwork id' inst' = l.pwork id' inst' := by
  unfold Lane.pwork
  rw [l.dflt_pset v id inst id' inst' own, l.pfind_pset_ne v ne]

end Sys2Proof.Machine
end

section
/-! The gate-drive commands of the host and the background test (R40, R51, R58, R59), and the settlement of O12. -/

namespace Sys2Proof.Machine

set_option Elab.async false

/-- What holds a comparator self-test off holds one of the named half-bridges or the lane. -/
theorem any_or_false {α : Type} {xs : List α} {p q : α → Bool} (h : xs.any (fun x => p x || q x) = false) : xs.any p = false ∧ xs.any q = false := by
  simp only [List.any_eq_false, Bool.or_eq_true, not_or] at h ⊢
  exact ⟨fun x hx => (h x hx).1, fun x hx => (h x hx).2⟩

/-- Marking half-bridges as under test changes the gate drive alone. -/
theorem Lane.markTested_frame (l : Lane) (ks : List Nat) : Within [.halfBridges] l (l.eachOf ks fun k l => l.setHb k { l.hb k with underTest := true }) :=
  (Within.refl l).eachOf ks fun _ _ hm => hm.setHb ..

/-- The frame of the gate drive and the ports. -/
theorem Within.gdPorts {l l' : Lane} (h : Within [.gd, .halfBridges, .ports] l l') : Reports { l with gd := l'.gd, ports := l'.ports } l' := h

/-- The end of the comparator self-test clears its record and the mark of every half-bridge. -/
theorem Lane.gdTestEnd_ends (l : Lane) (pass : List Byte) (count : Nat) (runs : l.gd.test.isSome = true) :
    Within [.ports] { l with gd.test := none, gd.hb := l.gd.hb.map fun h => { h with underTest := false } } (l.gdTestEnd pass count false) := by
  unfold Lane.gdTestEnd
  split
  · simp_all
  · extract_lets m ks n good x y
    have told : Within [.ports] x y := .ite (.refl x) ((Within.refl x).eventU 0x2108)
    split
    · exact told.answer ..
    · exact told

/-- Settles O12. -/
theorem gateCommands : Obligations.GateCommands := by
  intro s a m pass count
  refine ⟨?_, ?_, ?_, ?_, ?_⟩
  · intro l named ready idle quiet awake free
    obtain ⟨tested, busy⟩ := any_or_false (by simpa only [Bool.or_assoc] using free)
    have marked := Lane.markTested_frame { l with gd.test := some { mask := .ofNat 16 (m.u16 0), start := l.now } } named
    refine defers_guarded rfl ready (Lane.hGdSelftest.eq_def ..) ?_ rfl (And.intro ?_ ?_)
    · simp [idle, quiet, awake, tested, busy, l, named]
    · exact (congrArg (fun l => l.gd.test) marked :)
    · exact (.trans (.upd (.refl l)) (marked.mono (by decide)) : Within [.gd, .halfBridges] l _)
  · intro l runs due
    have ends := (l.gdTestEnd_ends pass count runs).wired a.lane
    have whole : Within [.gd, .halfBridges, .ports] l _ := .trans (.upd (.refl l)) (ends.mono (by decide))
    have gd := (congrArg Lane.gd ends :)
    refine next_of_eq rfl rfl (if_pos due) ⟨?_, ?_, ?_⟩
    · exact congrArg Gd.test gd
    · intro h hh
      rw [gd] at hh
      obtain ⟨x, -, rfl⟩ := List.mem_map.mp hh
      rfl
    · exact whole.gdPorts
  · intro l named ready tested free
    refine answers_guarded rfl ready (Lane.hGdFaultClear.eq_def ..) ?_ rfl rfl
    simp [tested, free, l, named]
  · intro l ready tested known on onMax off offMax
    refine answers_guarded rfl ready (Lane.hGdSetStrength.eq_def ..) ?_ rfl ⟨?_, ?_, ?_⟩
    · simp [tested, known, on, onMax, off, offMax, l]
    · exact (Lane.pwork_pset_ne _ _ rfl (by decide)).trans (Lane.pwork_pset ..)
    · exact Lane.pwork_pset ..
    · exact (((Within.refl (ps := [.params]) l).pset ..).pset .. : Within [.params] l _)
  · intro l drives passed
    refine next_of_eq rfl rfl ?_ (reports_wired _ _)
    unfold Lane.gateTest
    rw [if_neg (by simp [drives, l]), if_pos ?_]
    simpa [l] using passed

end Sys2Proof.Machine
end

section
/-! Triggers and delay-line calibration (R69 to R71, R92), and the settlement of O14. -/

namespace Sys2Proof.Machine

set_option Elab.async false

/-- A trigger starts the sequence of an idle ADC. -/
theorem Lane.adcTrigger_idle (l : Lane) (d : Nat) (entries : l.pvals 0x4110 d ≠ []) (first : (l.adc d).firedAt ≠ some l.now) (idle : (l.adc d).left = []) :
    l.adcTrigger d = l.setAdc d { l.adc d with left := l.pvals 0x4110 d, trigAt := l.now, entry := 1, firedAt := some l.now } := by
  simp [Lane.adcTrigger, entries, first, idle]

/-- A trigger to an idle ADC starts its sequence, behind the snapshots of the position inputs. -/
theorem Lane.trigger_adc (l : Lane) (n d : Nat) (runs : l.pwm.frozen = false) (dest : (l.pwm.cmp.getD n {}).dest = d + 1) (known : d < 4) (entries : l.pvals 0x4110 d ≠ [])
    (first : (l.adc d).firedAt ≠ some l.now) (idle : (l.adc d).left = []) :
    ∃ m, Within [.pos, .freeze] l m ∧ l.trigger n = m.setAdc d { l.adc d with left := l.pvals 0x4110 d, trigAt := l.now, entry := 1, firedAt := some l.now } := by
  have snap : Within [.pos, .freeze] l (l.snapshots n) := (Within.refl l).snapshots n
  unfold Lane.trigger
  generalize l.snapshots n = m at snap
  have adc : m.adc d = l.adc d := congrArg (fun x : Sns => x.adc.getD d {}) snap.sns_eq
  refine ⟨m, snap, ?_⟩
  have dest : (m.pwm.cmp.getD n {}).dest = d + 1 := by rw [snap.pwm_eq, dest]
  rw [if_neg (by simp [runs])]
  simp only [dest]
  rw [if_pos (by omega), Nat.add_sub_cancel, Lane.adcTrigger_idle _ _ (by rwa [snap.pvals_eq 0x4110 d]) (by rwa [adc, snap.now_eq]) (by rwa [adc]), adc, snap.pvals_eq 0x4110 d, snap.now_eq]

/-- The frame of the sensing and of the position inputs. -/
theorem Within.snsPos {l l' : Lane} (h : Within [.sns, .pos, .freeze] l l') : Reports { l with sns := l'.sns, pos := l'.pos } l' := h

/-- Settles O14. -/
theorem triggerAndCalibration : Obligations.TriggerAndCalibration := by
  intro s a n d l runs
  refine ⟨fun known dest adc entries first idle => ?_, fun low high => ?_⟩
  · obtain ⟨m, snap, start⟩ := l.trigger_adc n d runs dest adc entries first idle
    refine next_of_eq rfl (decide_eq_true known) start (And.intro ?_ ?_)
    · show ({ m.sns with adc := m.sns.adc.set d _ } : Sns) = _
      rw [snap.sns_eq]
      rfl
    · exact ((snap.mono (by decide)).upd.wired a.lane).snsPos
  · refine next_of_eq rfl rfl ?_ (reports_wired _ _)
    unfold Lane.delayCal
    rw [if_neg (by simp [runs, l]), if_neg (by simp; omega)]

end Sys2Proof.Machine
end

section
/-! Trip latches (R77 to R84): entry, covered channels, removal and clear, and the settlement of O16. -/

namespace Sys2Proof.Machine

set_option Elab.async false

/-! ### Covered channels -/

/-- An entry that is replaced by one of the same value of f leaves the value of f of every entry. -/
theorem getD_set_keeps {α β : Type} (f : α → β) (xs : List α) (i k : Nat) (x d : α) (same : f x = f (xs.getD i d)) : f ((xs.set i x).getD k d) = f (xs.getD k d) := by
  by_cases here : k = i
  · subst here
    by_cases known : k < xs.length
    · rw [getD_set_same xs k x d known, same]
    · rw [List.set_eq_of_length_le (Nat.le_of_not_lt known)]
  · rw [getD_set_ne xs i k x d here]

/-- What every round of a fold keeps, and one of its rounds brings about, holds after it. -/
theorem Lane.eachOf_reaches {P Q : Lane → Prop} {ks : List Nat} {f : Nat → Lane → Lane} {k : Nat} (mem : k ∈ ks) (inv : ∀ i l, Q l → Q (f i l))
    (keep : ∀ i l, P l → P (f i l)) (reach : ∀ l, Q l → P (f k l)) {l : Lane} (h : Q l) : P (l.eachOf ks f) := by
  have keeps (ks : List Nat) (l : Lane) (h : P l) : P (l.eachOf ks f) := List.foldlRecOn (motive := P) ks _ h fun l h i _ => keep i l h
  induction ks generalizing l with
  | nil => cases mem
  | cons i ks ih =>
    rcases List.mem_cons.mp mem with rfl | later
    · exact keeps ks _ (reach l h)
    · exact ih later (inv i l h)

/-- A channel that trips changes its own record and the gates' sink codes alone. -/
theorem Lane.tripCh_keeps (l : Lane) (ch : Nat) :
    (l.tripCh ch).pwm = { l.pwm with ch := (l.tripCh ch).pwm.ch } ∧ (l.tripCh ch).bist = l.bist ∧ (l.tripCh ch).gd.test = l.gd.test := by
  simp only [Lane.tripCh, Lane.when]
  split <;> split <;> exact ⟨rfl, rfl, rfl⟩

theorem Lane.tripCh_bist (l : Lane) (ch : Nat) : (l.tripCh ch).bist = l.bist := by
  obtain ⟨-, bist, -⟩ := l.tripCh_keeps ch
  exact bist

theorem Lane.tripCh_gdTest (l : Lane) (ch : Nat) : (l.tripCh ch).gd.test = l.gd.test := by
  obtain ⟨-, -, test⟩ := l.tripCh_keeps ch
  exact test

/-- The list of channels after one trips. -/
theorem Lane.tripCh_ch (l : Lane) (ch : Nat) : ∃ x : PwmCh, x.tripped = true ∧ (l.tripCh ch).pwm.ch = l.pwm.ch.set ch x := by
  have sunk (m : Lane) (c : Bool) (k : Nat) : (m.when c fun l => l.sinkAt k (l.sinkCode k)).pwm = m.pwm := by
    unfold Lane.when; split <;> rfl
  unfold Lane.tripCh
  extract_lets hi lo m x n o
  rw [sunk, sunk]
  refine ⟨{ x with tripped := true, emitted := 0, carryHi := 0, carryLo := 0, resumed := false }, rfl, ?_⟩
  simp only [n, m, Lane.setPch, Lane.takeLevel, List.set_set]

theorem Lane.tripCh_length (l : Lane) (ch : Nat) : (l.tripCh ch).pwm.ch.length = l.pwm.ch.length := by
  obtain ⟨x, -, ch⟩ := l.tripCh_ch ch
  rw [ch, List.length_set]

theorem Lane.tripCh_tripped (l : Lane) (ch : Nat) (known : ch < l.pwm.ch.length) : ((l.tripCh ch).pch ch).tripped = true := by
  obtain ⟨x, trips, ch⟩ := l.tripCh_ch ch
  simp [Lane.pch, ch, known, trips]

theorem Lane.tripCh_stays (l : Lane) (ch c : Nat) (known : c < l.pwm.ch.length) (h : (l.pch c).tripped = true) : ((l.tripCh ch).pch c).tripped = true := by
  by_cases same : c = ch
  · subst same
    exact l.tripCh_tripped c known
  · obtain ⟨x, -, list⟩ := l.tripCh_ch ch
    have other : (l.tripCh ch).pch c = l.pch c := by
      unfold Lane.pch
      rw [list, getD_set_ne _ _ _ _ _ same]
    rw [other, h]

/-- While no self-test runs, a safety request ends nothing. -/
theorem Lane.safetyRequest_idle (l : Lane) (hbs : List Nat) (test : l.gd.test = none) (run : l.bist.run = none) : l.safetyRequest hbs = l := by
  simp [Lane.safetyRequest, Lane.gdTestAbort, Lane.bistAbort, test, run]

/-- Without a self-test, the safe levels leave every source as it is and trip each covered channel. -/
theorem Lane.tripCover_trips (l : Lane) (n : Nat) (test : l.gd.test = none) (run : l.bist.run = none) :
    (l.tripCover n).pwm.src = l.pwm.src ∧ ∀ c < l.pwm.ch.length, c < 16 → l.covers n c = true → ((l.tripCover n).pch c).tripped = true := by
  unfold Lane.tripCover
  extract_lets cs levels fly inj stp
  have src : levels.pwm.src = l.pwm.src := Lane.eachOf_keeps (fun l => l.pwm.src) cs _ (fun c l => by rw [(l.tripCh_keeps c).1]) l
  have bist : levels.bist = l.bist := Lane.eachOf_keeps Lane.bist cs _ (fun c l => l.tripCh_bist c) l
  have gdTest : levels.gd.test = l.gd.test := Lane.eachOf_keeps (fun l => l.gd.test) cs _ (fun c l => l.tripCh_gdTest c) l
  have rest : Within [.held, .slots, .le, .mp] levels stp := by
    refine Within.each (Within.each (Within.each (.refl levels) 8 fun k m hm => ?_) 32 fun j m hm => ?_) 8 fun k m hm => ?_
    · exact (hm.flyStop k).ite hm
    · exact (hm.injAbort j).ite hm
    · exact (hm.stepTrip k).ite hm
  rw [Lane.safetyRequest_idle _ _ (by rw [rest.gd_eq, gdTest, test]) (by rw [rest.bist_eq, bist, run])]
  refine ⟨by rw [rest.pwm_eq, src], fun c known below covered => ?_⟩
  have mem : c ∈ cs := List.mem_filter.mpr ⟨List.mem_range.mpr below, covered⟩
  have trips : (levels.pch c).tripped = true ∧ c < levels.pwm.ch.length :=
    Lane.eachOf_reaches (P := fun l => (l.pch c).tripped = true ∧ c < l.pwm.ch.length) (Q := fun l => c < l.pwm.ch.length) mem
      (fun i l h => by rwa [l.tripCh_length]) (fun i l h => ⟨l.tripCh_stays i c h.2 h.1, by rw [l.tripCh_length]; exact h.2⟩)
      (fun l h => ⟨l.tripCh_tripped c h, by rwa [l.tripCh_length]⟩) known
  unfold Lane.pch
  rw [rest.pwm_eq]
  exact trips.1

/-! ### Entry (R82) -/

/-- The record of a source after its input has come active in ARMED. -/
def Lane.entered (l : Lane) (n : Nat) : TripSrc :=
  { l.src n with st := .active, input := true, pin := if n < 8 then l.p 0x3130 n == 1 else true, count := satInc (l.src n).count, burst := !l.latched n, seen := 0, clean := 0 }

theorem Lane.setSrc_update (l : Lane) (k : Nat) (x : TripSrc) (f : TripSrc → TripSrc) : (l.setSrc k x).setSrc k (f ((l.setSrc k x).src k)) = l.setSrc k (f x) := by
  have twice (y : TripSrc) : (l.setSrc k x).setSrc k y = l.setSrc k y := by simp [Lane.setSrc]
  rw [twice]
  by_cases known : k < l.pwm.src.length
  · rw [l.src_setSrc k x known]
  · simp [Lane.setSrc, List.set_eq_of_length_le (Nat.le_of_not_lt known)]

theorem Lane.tripOn_armed (l : Lane) (n : Nat) (armed : (l.src n).st = .armed) (off : (l.src n).input = false) (run : l.bist.run = none) (test : l.gd.test = none) :
    (l.tripOn n).pwm.src = l.pwm.src.set n (l.entered n) ∧ ∀ c < l.pwm.ch.length, c < 16 → l.covers n c = true → ((l.tripOn n).pch c).tripped = true := by
  have told (c : Bool) (m : Lane) : Within [.link] m (if c then m else m.tripNotice n) := .ite (.refl m) ((Within.refl m).tripNotice n)
  have enter : l.tripOn n = (l.setSrc n { l.src n with input := true, pin := if n < 8 then l.p 0x3130 n == 1 else true }).tripEnter n := by
    simp [Lane.tripOn, armed, off]
  rw [enter]
  unfold Lane.tripEnter
  extract_lets _ x said m
  have hm : m = l.setSrc n (l.entered n) :=
    l.setSrc_update n _ fun x => { x with st := .active, count := satInc x.count, burst := !l.latched n, seen := 0, clean := 0 }
  have link := told said m
  generalize (if said then m else m.tripNotice n) = o at link
  have covers (c : Nat) : o.covers n c = l.covers n c := by
    unfold Lane.covers
    rw [link.pwm_eq, link.p_eq 0x3132 n, hm]
    rfl
  have trips := o.tripCover_trips n (by rw [link.gd_eq, hm]; exact test) (by rw [link.bist_eq, hm]; exact run)
  simp only [covers] at trips
  rw [link.pwm_eq, hm] at trips
  exact trips

/-- Sources and trips stand as they did. -/
def Lane.sameTrips (l m : Lane) : Prop := m.pwm.src = l.pwm.src ∧ ∀ c, (m.pch c).tripped = (l.pch c).tripped

theorem Within.sameTrips {ps : List Part} {l m : Lane} (h : Within ps l m) (out : ps.elem .pwm = false := by rfl) (chs : ps.elem .channels = false := by rfl) : l.sameTrips m := by
  refine ⟨by rw [h.pwm_eq out chs], fun c => ?_⟩
  unfold Lane.pch
  rw [h.pwm_eq out chs]

theorem Lane.sameTrips.trans {l m n : Lane} (h : l.sameTrips m) (k : m.sameTrips n) : l.sameTrips n := ⟨k.1.trans h.1, fun c => (k.2 c).trans (h.2 c)⟩

/-- A duty that goes to a shadow leaves sources and trips as they are. -/
theorem Lane.chopDuty_sameTrips (l : Lane) (c : Nat) (d : F32) : l.sameTrips (l.chopDuty c d) := by
  unfold Lane.chopDuty
  extract_lets _ m
  split
  · next ch _ =>
    refine ⟨rfl, fun k => ?_⟩
    exact getD_set_keeps PwmCh.tripped l.pwm.ch ch k _ {} rfl
  · exact ⟨rfl, fun _ => rfl⟩

theorem Lane.chopFault_sameTrips (l : Lane) (c cause : Nat) : l.sameTrips (l.chopFault c cause) := by
  unfold Lane.chopFault
  extract_lets x m n _ _ o
  split
  · exact ⟨rfl, fun _ => rfl⟩
  · have faulty : Within [.fn] l (l.setChop c { x with faulty := true, armed := false, preAt := none, misCnt := 0 }) := .upd (.refl l)
    have duty : l.sameTrips m := faulty.sameTrips.trans (Lane.chopDuty_sameTrips _ c f0)
    have told : Within [.link, .sns, .fn] m n := (Within.refl m).eventU _ |>.sendBoth ..
    have cut : Within [.link, .sns, .fn] m o := told.assertInh.upd
    refine duty.trans (Within.sameTrips (ps := [.link, .sns, .fn]) ?_)
    exact cut.upd.ite cut

/-- The fault of a chopper that a trip source covers leaves the sources and the trips as they are. -/
theorem Lane.chopTrip_sameTrips (l : Lane) (n : Nat) : l.sameTrips (l.chopTrip n) := by
  refine List.foldlRecOn (motive := l.sameTrips) [0, 1] _ ⟨rfl, fun _ => rfl⟩ fun m hm c _ => ?_
  split
  · split
    · exact hm.trans (m.chopFault_sameTrips c 2)
    · exact hm
  · exact hm

/-! ### The host's commands (R77, R84) -/

theorem reports_of_eq {l m : Lane} (e : m = l) : Reports l m := e ▸ .refl _


/-- A held source goes to RESUMING. -/
def Lane.resume (l : Lane) (n : Nat) : Lane := if (l.src n).st == .held then l.setSrc n { l.src n with st := .resuming } else l

/-- A source that there is not counts as armed. -/
theorem Lane.src_none (l : Lane) (n : Nat) (none : ¬n < l.pwm.src.length) : l.src n = {} := by
  simp [Lane.src, List.getElem?_eq_none (Nat.le_of_not_lt none)]

theorem Lane.src_resume (l : Lane) (i n : Nat) : (l.resume i).src n = if n = i ∧ (l.src n).st = .held then { l.src n with st := .resuming } else l.src n := by
  unfold Lane.resume
  by_cases held : (l.src i).st = .held
  · have known : i < l.pwm.src.length := by
      by_contra none
      rw [l.src_none i none] at held
      cases held
    rw [if_pos (by simp [held])]
    by_cases same : n = i
    · subst same
      rw [l.src_setSrc n _ known, if_pos ⟨rfl, held⟩]
    · rw [l.src_setSrc_ne i n _ same, if_neg fun h => same h.1]
  · rw [if_neg (by simpa using held), if_neg]
    rintro ⟨rfl, h⟩
    exact held h

/-- Each held source of a list goes to RESUMING. -/
theorem Lane.src_resumeAll (l : Lane) (ks : List Nat) (n : Nat) :
    (l.eachOf ks fun k l => l.resume k).src n = if n ∈ ks ∧ (l.src n).st = .held then { l.src n with st := .resuming } else l.src n := by
  induction ks generalizing l with
  | nil => simp [Lane.eachOf]
  | cons k ks ih =>
    refine (ih (l.resume k)).trans ?_
    rw [l.src_resume k n]
    by_cases held : (l.src n).st = .held
    · rcases eq_or_ne n k with rfl | other
      · simp [held]
      · simp [held, other]
    · simp [held]

/-- Clearing changes the sources alone. -/
theorem Lane.resumeAll_frame (l : Lane) (ks : List Nat) :
    (l.eachOf ks fun k l => l.resume k) = { l with pwm := { l.pwm with src := (l.eachOf ks fun k l => l.resume k).pwm.src } } := by
  refine List.foldlRecOn (motive := fun m : Lane => m = { l with pwm := { l.pwm with src := m.pwm.src } }) ks _ rfl fun m hm k _ => ?_
  show m.resume k = { l with pwm := { l.pwm with src := (m.resume k).pwm.src } }
  unfold Lane.resume
  split
  · rw [hm]; rfl
  · exact hm

/-- A clear that names no active source and not source 13 resumes each held one that it names. -/
theorem Lane.hTripClear_clears (l : Lane) (m : Msg) (known : m.u16 0 < 2 ^ 13) (idle : l.inSection 9 = false)
    (inactive : ((List.range 14).filter (bit (m.u16 0))).any (fun n => (l.src n).st == .active) = false) :
    let x := l.eachOf ((List.range 14).filter (bit (m.u16 0))) fun n l => l.resume n
    Lane.hTripClear m l = (x, .now stDone x.tripStates) := by
  have none : bit (m.u16 0) 13 = false := by
    unfold bit
    rw [Nat.div_eq_of_lt known]
    rfl
  have act : ((List.range 14).filter (bit (m.u16 0))).filter (fun n => (l.src n).st == .active) = [] := List.filter_eq_nil_iff.mpr (by simpa using inactive)
  have low : ((List.range 14).filter (bit (m.u16 0))).filter (fun n => n != 13) = (List.range 14).filter (bit (m.u16 0)) := by
    refine List.filter_eq_self.mpr fun n hn => ?_
    have set := (List.mem_filter.mp hn).2
    exact bne_iff_ne.mpr fun h => by simp [h, none] at set
  have out : ((List.range 14).filter (bit (m.u16 0))).contains 13 = false := by simp [none]
  intro x
  unfold Lane.hTripClear
  extract_lets mask named act' y z
  have same : z = x := by
    simp only [z, y, show act' = [] from act, show named.filter (fun n => n != 13) = (List.range 14).filter (bit (m.u16 0)) from low]
    rfl
  rw [if_neg (by simp only [mask, decide_eq_true_eq]; omega), if_neg (by simp [idle]), show act' = [] from act, show named.contains 13 = false from out, same]
  rfl

/-! ### O16 -/

/-- The input of an active source that ends. -/
theorem Lane.tripOff_active (l : Lane) (n : Nat) (active : (l.src n).st = .active) :
    l.tripOff n = { l.setSrc n { l.src n with input := false, pin := if n < 8 then l.p 0x3130 n == 0 else false, st := if l.latched n then .held else .resuming }
      with sns := if 8 ≤ n ∧ n < 12 then { l.sns with ds := l.sns.ds.set (n - 8) { l.dsIn (n - 8) with above := false } } else l.sns } := by
  simp only [Lane.tripOff, active]
  by_cases sense : 8 ≤ n ∧ n < 12
  · simp only [sense, decide_true, Bool.and_self, if_true, and_self]
    rfl
  · rw [if_neg (by simpa using sense), if_neg sense]
    rfl

/-- Settles O16. -/
theorem trips : Obligations.Trips := by
  refine ⟨fun s a n => ?_, fun s a m => ⟨?_, ?_, ?_⟩⟩
  · intro l x known
    refine ⟨fun armed off run test => ?_, fun active => ?_⟩
    · obtain ⟨src, tripped⟩ := l.tripOn_armed n armed off run test
      obtain ⟨src', same⟩ := (l.tripOn n).chopTrip_sameTrips n
      exact next_of_eq rfl (decide_eq_true known) rfl ⟨src'.trans src, fun c here below covered => (same c).trans (tripped c here below covered)⟩
    · exact next_of_eq rfl (decide_eq_true known) (l.tripOff_active n active) (reports_wired _ _)
  · intro l named ready known idle inactive
    exact ⟨_, answers_of rfl ready (l.hTripClear_clears m known idle inactive) rfl, fun n => l.src_resumeAll named n, reports_of_eq (l.resumeAll_frame named)⟩
  · intro l ready idle run test on armed off known
    obtain ⟨src, tripped⟩ := Lane.tripOn_armed { l with pwm.force := true } 12 armed off run test
    have state : (({ l with pwm.force := true } : Lane).tripOn 12).src 12 = ({ l with pwm.force := true } : Lane).entered 12 := by
      unfold Lane.src
      rw [src]
      exact getD_set_same _ _ _ _ (by simp [known])
    refine answers_guarded (x := ({ l with pwm.force := true } : Lane).tripOn 12) rfl ready (Lane.hTripForce.eq_def ..) ?_ ?_ ⟨src, tripped⟩
    · simp [idle, on, l]
    · have input : Lane.source12 { l with pwm.force := m.u8 0 == 1 } = ({ l with pwm.force := true } : Lane).tripOn 12 := by
        simp [Lane.source12, on]
      show done _ [b8 (TripSrc.st _).code, 0, 0, 0] = _
      rw [input, state]
      rfl
  · intro l ready
    exact answers_of rfl ready rfl rfl

end Sys2Proof.Machine
end

section
/-! Period starts, load points and the debug halt (R62, R65, R67, R70, R85, R86), and the settlement of O13. -/

namespace Sys2Proof.Machine

set_option Elab.async false

/-! ### Period starts -/

theorem Lane.tbase_setTb_ne (l : Lane) (k i : Nat) (x : TimeBase) (ne : i ≠ k) : (l.setTb k x).tbase i = l.tbase i := getD_set_ne _ _ _ _ _ ne

/-- The timebases and whether the counters are frozen. -/
def Lane.bases (l : Lane) : List TimeBase × Bool := (l.pwm.tb, l.pwm.frozen)

/-- What a source does at a period start leaves the timebases alone. -/
theorem Lane.rearm_bases (l : Lane) (tb n : Nat) : (l.rearm tb n).bases = l.bases := by
  have level (m : Lane) (cs : List Nat) : (m.eachOf cs fun c l => l.takeLevel c).bases = m.bases := Lane.eachOf_keeps Lane.bases cs (fun c l => l.takeLevel c) (fun _ _ => rfl) m
  unfold Lane.rearm
  extract_lets _ _ _ _ _ m
  split
  · rfl
  · split
    · rw [congrArg Lane.bases (Lane.eventU_eq _ _)]
      refine (level _ _).trans ?_
      simp only [m]
      split <;> rfl
    · rfl
    · rfl

/-- A timebase that takes its phase anew keeps its count, and no other one changes. -/
theorem Lane.followTb_tb (l : Lane) (tb : Nat) : ∃ x : TimeBase, x.periods = (l.tbase tb).periods ∧ x.carryClear = (l.tbase tb).carryClear ∧ l.followTb tb = l.setTb tb x := by
  unfold Lane.followTb
  extract_lets b b0 d
  split
  · exact ⟨{ b with syncErr := d + b0.syncErr }, rfl, rfl, rfl⟩
  · exact ⟨{ b with started := ((b.started : Int) + d).toNat, syncErr := b0.syncErr }, rfl, rfl, rfl⟩

theorem Lane.refollow_tb (l : Lane) (tb i : Nat) :
    ((l.refollow tb).tbase i).periods = (l.tbase i).periods ∧ ((l.refollow tb).tbase i).carryClear = (l.tbase i).carryClear ∧ (tb ≠ 0 → i ≠ tb → (l.refollow tb).tbase i = l.tbase i) := by
  have both : ∀ ks : List Nat, ((l.eachOf ks fun k l => l.followTb k).tbase i).periods = (l.tbase i).periods ∧
      ((l.eachOf ks fun k l => l.followTb k).tbase i).carryClear = (l.tbase i).carryClear := fun ks => by
    refine List.foldlRecOn (motive := fun m : Lane => (m.tbase i).periods = (l.tbase i).periods ∧ (m.tbase i).carryClear = (l.tbase i).carryClear) ks _ ⟨rfl, rfl⟩ fun m hm k _ => ?_
    obtain ⟨x, periods, carry, step⟩ := m.followTb_tb k
    simp only [step]
    exact ⟨(getD_set_keeps TimeBase.periods m.pwm.tb k i x {} periods).trans hm.1, (getD_set_keeps TimeBase.carryClear m.pwm.tb k i x {} carry).trans hm.2⟩
  refine ⟨(both _).1, (both _).2, fun own other => ?_⟩
  obtain ⟨x, -, -, step⟩ := l.followTb_tb tb
  unfold Lane.refollow
  rw [if_neg (by simpa using own)]
  show (l.followTb tb).tbase i = l.tbase i
  rw [step]
  exact l.tbase_setTb_ne tb i x other

theorem Lane.refollow_frozen (l : Lane) (tb : Nat) : (l.refollow tb).pwm.frozen = l.pwm.frozen :=
  Lane.eachOf_keeps (fun l => l.pwm.frozen) _ (fun i l => l.followTb i) (fun k m => by obtain ⟨x, -, -, step⟩ := m.followTb_tb k; rw [step]; rfl) l

/-- The record of a timebase at its period start. -/
def Lane.started (l : Lane) (tb : Nat) : TimeBase :=
  let b := l.tbase tb
  { b with started := l.now, periods := b.periods + 1, mapTaps := b.pendingMap.getD b.mapTaps, pendingMap := none, coarse := b.coarse && b.pendingMap.isNone,
           carryClear := false, syncErr := slewSync b.syncErr ((l.periodRelease tb).p 0x3105) }

/-- The timebases after a period start: the own one is stamped, and a change of the period lets the phases be taken anew. -/
theorem Lane.periodStart_tb (l : Lane) (tb : Nat) (bstLow : W16) (runs : l.pwm.frozen = false) :
    ∃ m : Lane, m.bases = (l.pwm.tb.set tb (l.started tb), false) ∧ (l.periodStart tb bstLow).bases = if (l.tbase tb).carryClear then (m.refollow tb).bases else m.bases := by
  have before : Within [.held, .channels] l ((l.periodRelease tb).carryStart tb) := ((Within.refl l).periodRelease tb).carryStart tb
  have slew : Within [.channels] (l.periodRelease tb) ((l.periodRelease tb).carryStart tb) := (Within.refl _).carryStart tb
  unfold Lane.periodStart
  rw [if_neg (by simp [runs])]
  generalize (l.periodRelease tb).carryStart tb = x at before slew
  have own : x.tbase tb = l.tbase tb := by
    unfold Lane.tbase
    rw [before.pwm_but_ch]
  refine ⟨x.setTb tb (l.started tb), by rw [Lane.setTb, before.pwm_but_ch, ← runs]; rfl, ?_⟩
  extract_lets x' b y vgd _ z src
  have start : y = if (l.tbase tb).carryClear then (x.setTb tb (l.started tb)).refollow tb else x.setTb tb (l.started tb) := by
    simp only [y, b, x', Lane.when, own, before.now_eq, slew.p_eq 0x3105 0]
    rfl
  have hbs : Within [.halfBridges, .channels] src (src.eachOf (src.tbChs tb) fun c l => ((l.preEnd c).periodHb c bstLow vgd).resumeCh c) :=
    (Within.refl src).eachOf _ fun c m hm => ((hm.preEnd c).periodHb c bstLow vgd).resumeCh c
  have rearmed : src.bases = y.bases := Lane.each_keeps Lane.bases 14 (fun n l => l.rearm tb n) (fun n m => m.rearm_bases tb n) z
  unfold Lane.bases at *
  rw [hbs.pwm_but_ch]
  show (src.pwm.tb, src.pwm.frozen) = _
  rw [rearmed, start]
  split <;> rfl

/-! ### Load points (R67) -/

/-- A channel is given a new record that keeps its pulse command, and nothing else changes. -/
def Lane.Rekeyed (l : Lane) (ch : Nat) (m : Lane) : Prop := ∃ x : PwmCh, x.tOn = (l.pch ch).tOn ∧ m = l.setPch ch x

theorem Lane.Rekeyed.set {l m : Lane} {ch : Nat} (h : l.Rekeyed ch m) {x : PwmCh} (same : x.tOn = (m.pch ch).tOn) : l.Rekeyed ch (m.setPch ch x) := by
  obtain ⟨y, keeps, rfl⟩ := h
  refine ⟨x, same.trans (getD_set_keeps PwmCh.tOn l.pwm.ch ch ch y {} keeps), ?_⟩
  simp [Lane.setPch]

/-- A load point gives a channel a new record with the same pulse command. -/
theorem Lane.emitCh_rekeyed (l : Lane) (ch : Nat) : l.Rekeyed ch (l.emitCh ch) := by
  unfold Lane.emitCh
  extract_lets m act _ c r
  have opened : l.Rekeyed ch m := ⟨{ l.pch ch with side := (l.rawSide ch (fine l.now)).1, sideAt := (l.rawSide ch (fine l.now)).2, loadAt := fine l.now + l.phaseFine (l.tbOf ch), frame := l.periodFine (l.tbOf ch), half := false }, rfl, rfl⟩
  split
  · exact opened.set rfl
  · split
    · exact opened.set rfl
    · split
      · exact opened.set rfl
      · exact opened.set rfl

/-- The load point of the channels of a timebase keeps every pulse command and every other channel. -/
theorem Lane.emitAll_keeps (l : Lane) (cs : List Nat) :
    (l.eachOf cs fun c l => l.emitCh c).pwm.tb = l.pwm.tb ∧ (∀ k, ((l.eachOf cs fun c l => l.emitCh c).pch k).tOn = (l.pch k).tOn) ∧
      ∀ k ∉ cs, (l.eachOf cs fun c l => l.emitCh c).pch k = l.pch k := by
  refine List.foldlRecOn (motive := fun m : Lane => m.pwm.tb = l.pwm.tb ∧ (∀ k, (m.pch k).tOn = (l.pch k).tOn) ∧ ∀ k ∉ cs, m.pch k = l.pch k) cs _
    ⟨rfl, fun _ => rfl, fun _ _ => rfl⟩ fun m hm c mem => ?_
  obtain ⟨tb, on, other⟩ := hm
  obtain ⟨x, same, step⟩ := m.emitCh_rekeyed c
  simp only [step]
  refine ⟨tb, fun k => ?_, fun k out => ?_⟩
  · exact (getD_set_keeps PwmCh.tOn m.pwm.ch c k x {} same).trans (on k)
  · exact (m.pch_setPch_ne c k x fun h => out (h ▸ mem)).trans (other k out)

/-- The shadows of the channels of a list become their pulse commands. -/
theorem Lane.loadAll (l : Lane) (cs : List Nat) (k : Nat) :
    let m := l.eachOf cs fun c l => l.setPch c { l.pch c with tOn := (l.pch c).shadow }
    m.pch k = if k ∈ cs ∧ k < l.pwm.ch.length then { l.pch k with tOn := (l.pch k).shadow } else l.pch k := by
  induction cs generalizing l with
  | nil => simp [Lane.eachOf]
  | cons c cs ih =>
    refine (ih (l.setPch c { l.pch c with tOn := (l.pch c).shadow })).trans ?_
    have len : (l.setPch c { l.pch c with tOn := (l.pch c).shadow }).pwm.ch.length = l.pwm.ch.length := List.length_set
    rw [len]
    by_cases known : k < l.pwm.ch.length
    · rcases eq_or_ne k c with rfl | other
      · rw [l.pch_setPch k _ known]
        simp [known]
      · rw [l.pch_setPch_ne c k _ other]
        simp [other]
    · have none : (l.setPch c { l.pch c with tOn := (l.pch c).shadow }).pch k = l.pch k := by
        simp only [Lane.pch, Lane.setPch, List.getD_eq_getElem?_getD]
        rw [List.getElem?_eq_none (by simpa using known), List.getElem?_eq_none (by simpa using known)]
      simp [known, none]

/-- Trigger positions that load leave timebases and channels alone. -/
theorem Lane.loadShadows_keeps (l : Lane) (tb : Nat) :
    (l.loadShadows tb).pwm.tb = l.pwm.tb.set tb { l.tbase tb with ready := false, burst := false } ∧
      ∀ k, (l.loadShadows tb).pch k = if k ∈ l.tbChs tb ∧ k < l.pwm.ch.length then { l.pch k with tOn := (l.pch k).shadow } else l.pch k := by
  unfold Lane.loadShadows
  extract_lets m n
  have tbs : m.pwm.tb = l.pwm.tb := Lane.eachOf_keeps (fun l => l.pwm.tb) _ (fun c l => l.setPch c { l.pch c with tOn := (l.pch c).shadow }) (fun _ _ => rfl) l
  have same : n.pwm.tb = m.pwm.tb ∧ n.pwm.ch = m.pwm.ch := List.foldlRecOn (motive := fun n : Lane => n.pwm.tb = m.pwm.tb ∧ n.pwm.ch = m.pwm.ch) _ _ ⟨rfl, rfl⟩ fun _ h _ _ => h
  refine ⟨?_, fun k => ?_⟩
  · have own : n.tbase tb = l.tbase tb := congrArg (fun xs : List TimeBase => xs.getD tb {}) (same.1.trans tbs)
    show n.pwm.tb.set tb { n.tbase tb with ready := false, burst := false } = _
    rw [own, same.1, tbs]
  · refine Eq.trans ?_ (l.loadAll (l.tbChs tb) k)
    exact congrArg (fun xs : List PwmCh => xs.getD k {}) same.2

/-- A load point changes a slot only where its last output loads or it probes. -/
theorem Lane.slotLoaded_keeps (l : Lane) (ks : List Nat) (k : Nat) (tail : (l.motor k).tail = false) (probe : (l.motor k).probe = none) :
    (l.eachOf ks fun k l => l.slotLoaded k).motor k = l.motor k := by
  refine List.foldlRecOn (motive := fun m : Lane => m.motor k = l.motor k) ks _ rfl fun m hm i _ => ?_
  show (m.slotLoaded i).motor k = l.motor k
  unfold Lane.slotLoaded
  extract_lets x
  split
  · next h =>
    rcases eq_or_ne k i with rfl | other
    · simp [x, hm, tail, probe] at h
    · exact (getD_set_ne _ _ _ _ _ other).trans hm
  · exact hm

theorem Lane.mem_tbChs (l : Lane) (tb c : Nat) : c ∈ l.tbChs tb ↔ c < 16 ∧ l.tbOf c = tb := by
  simp [Lane.tbChs]

/-- A load point with the ready flag set in time. -/
theorem Lane.loadTick_ready (l : Lane) (tb : Nat) (runs : l.pwm.frozen = false) (ready : (l.tbase tb).ready = true) (due : (l.tbase tb).readyAt + 80 ≤ l.now) :
    l.loadTick tb = l.loadPoint tb ∧ (∀ c, c < 16 → l.tbOf c = tb → ((l.loadPoint tb).pch c).tOn = (l.pch c).shadow) ∧ (∀ c, l.tbOf c ≠ tb → (l.loadPoint tb).pch c = l.pch c) ∧
      (l.loadPoint tb).pwm.tb = l.pwm.tb.set tb { l.tbase tb with ready := false, burst := false } ∧
      ∀ k, (l.motor k).tail = false → (l.motor k).probe = none → (l.loadPoint tb).motor k = l.motor k := by
  have late : (!l.pwm.frozen && (l.tbase tb).ready && decide (l.now < (l.tbase tb).readyAt + 80)) = false := by simp; omega
  refine ⟨by unfold Lane.loadTick; simp only [late, Bool.false_eq_true, if_false], ?_⟩
  have shadows : Within [.pwm, .channels] l (l.loadShadows tb) := (Within.refl l).loadShadows tb
  obtain ⟨tbs, loaded⟩ := l.loadShadows_keeps tb
  unfold Lane.loadPoint
  rw [if_neg (by simp [runs])]
  rw [if_pos (by simp [ready]; omega), if_pos due]
  generalize l.loadShadows tb = m at shadows tbs loaded
  have chs : m.tbChs tb = l.tbChs tb := by
    unfold Lane.tbChs Lane.tbOf
    simp only [shadows.p_eq 0x3110]
  obtain ⟨tbs', on, other⟩ := m.emitAll_keeps (m.tbChs tb)
  have emit : Within [.channels] m (m.eachOf (m.tbChs tb) fun c l => l.emitCh c) := (Within.refl m).eachOf _ fun c _ hm => hm.emitCh c
  extract_lets x o
  have pwm (ks : List Nat) : (o.eachOf ks fun k l => l.slotLoaded k).pwm = o.pwm := ((Within.refl o).eachOf (ps := [.slots]) ks fun k _ hm => hm.slotLoaded k).pwm_eq
  have pch (ks : List Nat) (c : Nat) : (o.eachOf ks fun k l => l.slotLoaded k).pch c = o.pch c := by
    unfold Lane.pch
    rw [pwm]
  refine ⟨fun c below own => ?_, fun c foreign => ?_, by rw [pwm, tbs', tbs], fun k tail probe => ?_⟩
  · rw [pch, on, loaded]
    by_cases known : c < l.pwm.ch.length
    · rw [if_pos ⟨(l.mem_tbChs tb c).mpr ⟨below, own⟩, known⟩]
    · rw [if_neg fun h => known h.2]
      simp [Lane.pch, List.getElem?_eq_none (Nat.le_of_not_lt known)]
  · have out : c ∉ l.tbChs tb := fun h => foreign ((l.mem_tbChs tb c).mp h).2
    rw [pch, other c (chs ▸ out), loaded, if_neg fun h => out h.1]
  · have same : o.motor k = l.motor k := congrArg (fun xs : List MotSlot => xs.getD k {}) (emit.slot_eq.trans shadows.slot_eq)
    exact (o.slotLoaded_keeps _ k (by rw [same, tail]) (by rw [same, probe])).trans same

/-! ### Debug halt (R85, R86) -/

/-- The step generators stop at the present instant. -/
def Lane.stopSteps (l : Lane) : Lane := l.each 4 fun i l => l.setSg i { (l.sgen i).at_ l.now with w := 0 }

theorem Lane.stopSteps_frame (l : Lane) : l.stopSteps = { l with mp := { l.mp with sg := l.stopSteps.mp.sg } } := by
  refine List.foldlRecOn (motive := fun m : Lane => m = { l with mp := { l.mp with sg := m.mp.sg } }) _ _ rfl fun m hm k _ => ?_
  rw [hm]
  rfl

/-- A step generator that stops stands; the others stand where they did. -/
theorem Lane.stopSteps_still (l : Lane) (i : Nat) (below : i < 4) (known : i < l.mp.sg.length) : (l.stopSteps.sgen i).w = 0 := by
  have len (k : Nat) (m : Lane) (x : StepGen) : (m.setSg k x).mp.sg.length = m.mp.sg.length := List.length_set
  have still (m : Lane) (h : i < m.mp.sg.length) : ((m.setSg i { (m.sgen i).at_ m.now with w := 0 }).sgen i).w = 0 :=
    congrArg StepGen.w (getD_set_same m.mp.sg i { (m.sgen i).at_ m.now with w := 0 } {} h)
  refine (Lane.eachOf_reaches (P := fun m => (m.sgen i).w = 0 ∧ i < m.mp.sg.length) (Q := fun m => i < m.mp.sg.length) (List.mem_range.mpr below) (fun k m h => by rwa [len]) (fun k m h => ?_)
    (fun m h => ⟨still m h, by rwa [len]⟩) known).1
  refine ⟨?_, by rw [len]; exact h.2⟩
  rcases eq_or_ne i k with rfl | other
  · exact still m h.2
  · exact (congrArg StepGen.w (getD_set_ne m.mp.sg k i { (m.sgen k).at_ m.now with w := 0 } {} other)).trans h.1

/-- What a halt does behind the step generators: a Weevil pass pauses, and the counters freeze or source 12 trips. -/
def Lane.haltRest (m : Lane) : Lane :=
  let n := if m.mem.weevil.phase == .running then { m with mem.weevil := { m.mem.weevil with paused := true } } else m
  if n.p 0x3150 == 0 then { n with pwm.frozen := true } else ({ n with pwm.haltTrip := true }.source12).tripWiden 12

theorem Lane.haltRest_freezes (m : Lane) (freeze : m.p 0x3150 = 0) :
    m.haltRest = { m with pwm := { m.pwm with frozen := true }, mem := { m.mem with weevil := { m.mem.weevil with paused := m.mem.weevil.paused || m.mem.weevil.phase == .running } } } := by
  have zero (n : Lane) (h : n.p 0x3150 = m.p 0x3150) : (n.p 0x3150 == 0) = true := by rw [h, freeze]; rfl
  unfold Lane.haltRest
  by_cases runs : (m.mem.weevil.phase == .running) = true
  · simp only [runs, if_true, Bool.or_true]
    exact if_pos (zero _ rfl)
  · simp only [Bool.eq_false_iff.mpr runs, Bool.false_eq_true, if_false, Bool.or_false]
    exact if_pos (zero _ rfl)

/-- A halt that freezes the counters, while no self-test runs. -/
theorem Lane.debugHalt_freezes (l : Lane) (gate : l.boot.pu.debugEn = true) (on : l.powered = true) (first : l.pwm.halted = false) (idle : l.bist.run = none) (freeze : l.p 0x3150 = 0) :
    let m := Lane.stopSteps { l with pwm := { l.pwm with halted := true, haltAt := l.now } }
    let w := l.mem.weevil
    l.debugHalt = { l with pwm := { l.pwm with halted := true, haltAt := l.now, frozen := true }, mp := { l.mp with sg := m.mp.sg },
                           mem := { l.mem with weevil := { w with paused := w.paused || w.phase == .running } } } := by
  intro m w
  have frame : m = { l with pwm := { l.pwm with halted := true, haltAt := l.now }, mp := { l.mp with sg := m.mp.sg } } := Lane.stopSteps_frame _
  have shape : l.debugHalt = m.haltRest := by
    unfold Lane.debugHalt
    rw [if_neg (by simp [gate, on, first]), show l.bistAbort = l by simp [Lane.bistAbort, idle]]
    rfl
  clear_value m
  rw [shape, m.haltRest_freezes (by rw [frame]; exact freeze), frame]

/-- The end of the input of source 12, which is always latched. -/
theorem Lane.tripOff_source12 (l : Lane) :
    l.tripOff 12 = l.setSrc 12 { l.src 12 with input := false, pin := false, st := if (l.src 12).st = .active then .held else (l.src 12).st } := by
  unfold Lane.tripOff
  cases st : (l.src 12).st <;> simp [Lane.latched, st]

/-- The end of a halt that froze the counters. -/
theorem Lane.debugExit_thaws (l : Lane) (halted : l.pwm.halted = true) (frozen : l.pwm.frozen = true) (free : l.pwm.force = false) (apart : l.net.st ≠ .synced) :
    let t := l.thaw (l.now - l.pwm.haltAt)
    let x := l.src 12
    l.debugExit = { t with pwm := { t.pwm with halted := false, frozen := false, src := l.pwm.src.set 12 { x with input := false, pin := false, st := if x.st = .active then .held else x.st } },
                           mem := { l.mem with weevil := { l.mem.weevil with paused := false } } } := by
  intro t x
  unfold Lane.debugExit
  rw [if_neg (by simp [halted])]
  have apart : (l.net.st == .synced) = false := by simpa using apart
  have off (m : Lane) (free : m.pwm.force = false) (runs : m.pwm.halted = false) : m.source12 = m.tripOff 12 := by simp [Lane.source12, free, runs]
  simp only [frozen, if_true, Lane.thaw, apart, Bool.false_eq_true, if_false]
  refine (off _ ?_ ?_).trans (Lane.tripOff_source12 _)
  · exact free
  · rfl

/-! ### O13 -/

/-- A frame in which a period start stands. -/
theorem Within.period {l l' : Lane} (h : Within [.held, .gd, .halfBridges, .pwm, .channels, .mot, .slots, .mp, .params] l l') :
    Reports { l with pwm := l'.pwm, gd := l'.gd, mot := l'.mot, mp := l'.mp, params := l'.params, held := l'.held } l' := h

theorem Within.loads {l l' : Lane} (h : Within [.pwm, .channels, .slots] l l') : Reports { l with pwm := l'.pwm, mot := { l.mot with slot := l'.mot.slot } } l' := h

/-- The slots of a timebase that begin a period leave the timebases alone. -/
theorem Lane.slotStarts_frame (l : Lane) (ks : List Nat) : Within [.params, .held, .slots, .mp] l (l.eachOf ks fun k l => (l.blendStart k).leaveSafe k) :=
  (Within.refl l).eachOf ks fun k _ hm => (hm.blendStart k).leaveSafe k

/-- What stands of the timebases after a period start. -/
theorem Lane.periodStart_tbase (l : Lane) (tb : Nat) (bstLow : W16) (runs : l.pwm.frozen = false) :
    let m := l.periodStart tb bstLow
    let b := l.tbase tb
    m.pwm.frozen = false ∧ (b.carryClear = false → m.pwm.tb = l.pwm.tb.set tb (l.started tb)) ∧ (tb < l.pwm.tb.length → (m.tbase tb).periods = b.periods + 1 ∧ (m.tbase tb).carryClear = false) ∧
      (tb ≠ 0 → ∀ i, i ≠ tb → m.tbase i = l.tbase i) := by
  intro m b
  obtain ⟨x, stamped, phases⟩ := l.periodStart_tb tb bstLow runs
  have tbs : x.pwm.tb = l.pwm.tb.set tb (l.started tb) := congrArg Prod.fst stamped
  have runs : x.pwm.frozen = false := congrArg Prod.snd stamped
  have at_ (i : Nat) : x.tbase i = (l.pwm.tb.set tb (l.started tb)).getD i {} := congrArg (fun xs : List TimeBase => xs.getD i {}) tbs
  have own (known : tb < l.pwm.tb.length) : x.tbase tb = l.started tb := (at_ tb).trans (getD_set_same _ _ _ _ known)
  have other (i : Nat) (ne : i ≠ tb) : x.tbase i = l.tbase i := (at_ i).trans (getD_set_ne _ _ _ _ _ ne)
  cases carry : b.carryClear with
  | false =>
    have same : m.bases = x.bases := phases.trans (if_neg (by simpa [b] using carry))
    have unit (i : Nat) : m.tbase i = x.tbase i := congrArg (fun xs : List TimeBase => xs.getD i {}) (congrArg Prod.fst same :)
    refine ⟨(congrArg Prod.snd same :).trans runs, fun _ => (congrArg Prod.fst same :).trans tbs, fun known => ?_, fun _ i ne => (unit i).trans (other i ne)⟩
    rw [unit, own known]
    exact ⟨rfl, rfl⟩
  | true =>
    have same : m.bases = (x.refollow tb).bases := phases.trans (if_pos carry)
    have unit (i : Nat) : m.tbase i = (x.refollow tb).tbase i := congrArg (fun xs : List TimeBase => xs.getD i {}) (congrArg Prod.fst same :)
    refine ⟨(congrArg Prod.snd same :).trans ((x.refollow_frozen tb).trans runs), nofun, fun known => ?_, fun first i ne => ?_⟩
    · obtain ⟨periods, clear, -⟩ := x.refollow_tb tb tb
      rw [unit, periods, clear, own known]
      exact ⟨rfl, rfl⟩
    · obtain ⟨-, -, follows⟩ := x.refollow_tb tb i
      rw [unit, follows first ne, other i ne]

/-- Settles O13. -/
theorem periodBoundaries : Obligations.PeriodBoundaries := by
  refine ⟨fun s a p => ?_, fun s a tb => ?_, fun s a => ?_⟩
  · intro l known runs b
    obtain ⟨live, stamped, counted, others⟩ := l.periodStart_tbase p.tb p.bstLow runs
    have start : Within [.held, .gd, .halfBridges, .pwm, .channels] l (l.periodStart p.tb p.bstLow) := (Within.refl l).periodStart ..
    have live : ¬(l.periodStart p.tb p.bstLow).pwm.frozen = true := by simp [live]
    refine next_of_eq rfl (decide_eq_true known) (if_neg live) ?_
    generalize l.periodStart p.tb p.bstLow = m at *
    have slots := (m.slotStarts_frame ((List.range 8).filter fun k => (m.motor k).cfg.kind != .none && m.slotTb k == p.tb)).wired a.lane
    generalize ((m.eachOf _ _).wired a.lane) = n at slots ⊢
    have unit (i : Nat) : n.tbase i = m.tbase i := by
      unfold Lane.tbase
      rw [slots.pwm_eq]
    refine ⟨fun carry => ?_, fun here => ?_, fun own i ne => ?_, ?_⟩
    · rw [slots.pwm_eq]
      refine (stamped carry).trans (congrArg (l.pwm.tb.set p.tb) ?_)
      unfold Lane.started
      rw [← carry]
    · rw [unit]
      exact counted here
    · rw [unit]
      exact others own i ne
    · exact ((start.mono (by decide)).trans (slots.mono (by decide))).period
  · intro l known runs ready due
    obtain ⟨tick, loaded, other, tbs, slots⟩ := l.loadTick_ready tb runs ready due
    have frame := (((Within.refl (ps := [.pwm, .channels, .slots]) l).loadPoint tb).wired a.lane).loads
    exact next_of_eq rfl (decide_eq_true known) tick ⟨loaded, other, tbs, slots, frame⟩
  · intro l w x t
    refine ⟨fun gate on first idle freeze => ?_, fun halted frozen free apart => ?_⟩
    · refine next_of_eq rfl rfl (l.debugHalt_freezes gate on first idle freeze) ⟨fun i known below => ?_, reports_wired _ _⟩
      exact Lane.stopSteps_still { l with pwm := { l.pwm with halted := true, haltAt := l.now } } i below known
    · exact next_of_eq rfl rfl (l.debugExit_thaws halted frozen free apart) (reports_wired _ _)

end Sys2Proof.Machine
end

section
/-! Sensing (R92 to R103): conversions, delta-sigma inputs, die temperature and the crack loop, and the settlement of O17. -/

namespace Sys2Proof.Machine

set_option Elab.async false

/-! ### Entry to FAILSILENT (Table LN-4) -/

theorem Lane.setSt_st (l : Lane) (st : LaneSt) : (l.setSt st).st = st := by
  unfold Lane.setSt
  split
  · exact eq_of_beq ‹_›
  · simp

/-- Once every slot is off, each is disabled. -/
theorem Lane.allOff_disabled (l : Lane) (k : Nat) (known : k < 8) : (l.allOff.motor k).enabled = false := by
  have off (m : Lane) (i : Nat) : ∃ x : MotSlot, x.enabled = false ∧
      (((m.setMotor i { m.motor i with enabled := false, laneSafe := true, short := false, tail := false, holdAt := none }).stepOff i).mot.slot) = m.mot.slot.set i x :=
    ⟨_, rfl, (((Within.refl (ps := [.mp]) _).stepOff i).slot_eq)⟩
  refine Lane.eachOf_reaches (P := fun m => (m.motor k).enabled = false) (Q := fun _ => True) (List.mem_range.mpr known) (fun _ _ _ => trivial) (fun i m h => ?_) (fun m _ => ?_) trivial
  · obtain ⟨x, disabled, step⟩ := off m i
    show ((List.getD _ k {} : MotSlot)).enabled = false
    rw [step]
    rcases eq_or_ne k i with rfl | other
    · by_cases here : k < m.mot.slot.length
      · rw [getD_set_same _ _ _ _ here, disabled]
      · rw [List.set_eq_of_length_le (Nat.le_of_not_lt here)]; exact h
    · rw [getD_set_ne _ _ _ _ _ other]; exact h
  · obtain ⟨x, disabled, step⟩ := off m k
    show ((List.getD _ k {} : MotSlot)).enabled = false
    rw [step]
    by_cases here : k < m.mot.slot.length
    · rw [getD_set_same _ _ _ _ here, disabled]
    · rw [List.set_eq_of_length_le (Nat.le_of_not_lt here)]
      simp [List.getElem?_eq_none (Nat.le_of_not_lt here)]

/-- A lane that enters FAILSILENT stands in it, with every slot disabled. -/
theorem Lane.failSilent_enters (l : Lane) (cause : Nat) (first : l.st ≠ .failSilent) :
    (l.failSilent cause).st = .failSilent ∧ ∀ k < 8, ((l.failSilent cause).motor k).enabled = false := by
  unfold Lane.failSilent
  rw [if_neg (by simpa using first)]
  have st (n : Lane) : (((n.setSt .failSilent).logSilent.withdraw 11 cause).allOff.cellFollow).st = (n.setSt .failSilent).st :=
    Within.st_eq (ps := [.link, .slots, .mp, .fn]) ((((Within.refl _).logSilent.withdraw 11 cause).allOff).cellFollow)
  have slots (o : Lane) : o.cellFollow.mot.slot = o.mot.slot := Within.slot_eq (ps := [.fn]) (Within.refl o).cellFollow
  refine ⟨(st _).trans (Lane.setSt_st _ _), fun k known => ?_⟩
  unfold Lane.motor
  rw [slots]
  exact Lane.allOff_disabled _ k known

/-! ### Delta-sigma inputs (R97, R99) -/

theorem Lane.inhStart_frame (l : Lane) (on : Bool) : Within [.fn] l (l.inhStart on) := by
  unfold Lane.inhStart
  exact .ite (.upd (.refl l)) (.refl l)

/-- OV_HARD marks its input, and its trip source enters. -/
theorem Lane.ovHard_enters (l : Lane) (k : Nat) (enabled : l.p 0x4133 k ≠ 0) (run : l.bist.run = none) (test : l.gd.test = none) (armed : (l.src (8 + k)).st = .armed)
    (off : (l.src (8 + k)).input = false) :
    (l.ovHard k).sns.ds = l.sns.ds.set k { l.dsIn k with above := true, aboveRel := true, regen := (l.dsIn k).regen || l.p 0x4135 k == 1 } ∧
      (l.ovHard k).pwm.src = l.pwm.src.set (8 + k) (l.entered (8 + k)) := by
  unfold Lane.ovHard
  rw [if_neg (by simpa using enabled)]
  extract_lets d m
  have marked : Within [.fn] (l.setDs k { d with above := true, aboveRel := true, regen := d.regen || l.p 0x4135 k == 1 }) m :=
    (((Lane.inhStart_frame _ _)).eventU 0x4103)
  clear_value m
  have src : m.src (8 + k) = l.src (8 + k) := by
    unfold Lane.src
    rw [marked.pwm_eq]
    rfl
  have entered : m.entered (8 + k) = l.entered (8 + k) := by
    have latch : m.latched (8 + k) = l.latched (8 + k) := by
      unfold Lane.latched
      rw [marked.p_eq 0x3134 (8 + k)]
      rfl
    unfold Lane.entered
    rw [src, latch, if_neg (by omega), if_neg (by omega)]
  have on := m.tripOn_armed (8 + k) (src ▸ armed) (src ▸ off) (by rw [marked.bist_eq]; exact run) (by rw [marked.gd_eq]; exact test)
  have sns : (m.tripOn (8 + k)).sns = m.sns := Within.sns_eq ((Within.refl (ps := [.st, .link, .held, .gd, .halfBridges, .pwm, .channels, .slots, .le, .mp, .fn, .red, .net, .ports, .pwr, .mem, .mram, .boot, .bist]) m).tripOn (8 + k))
  refine ⟨?_, ?_⟩
  · rw [sns, marked.sns_eq]
    rfl
  · rw [on.1, entered, marked.pwm_eq]
    rfl

/-! ### Die temperature and crack loop (R102, R103) -/

theorem Lane.tempSample_reads (l : Lane) (ts : List F32) :
    (l.tempSample ts).sns.temp = (l.sns.temp.zip ts).map (fun p => { p.1 with value := p.2 }) ∧ (l.tempSample ts).sns.tempAt = l.now := by
  have told (m : Lane) : (m.eventU 0x4106).sns = m.sns := Within.sns_eq (ps := []) ((Within.refl m).eventU 0x4106)
  unfold Lane.tempSample
  extract_lets
  split
  · rw [told]
    exact ⟨rfl, rfl⟩
  · split
    · exact ⟨rfl, rfl⟩
    · split <;> exact ⟨rfl, rfl⟩

/-- A disagreement of three sensors that has lasted 100 ms. -/
theorem Lane.tempFault_drops (l : Lane) (t : Nat) (apart : l.sns.disagree = some t) (due : t + ms 100 ≤ l.now) (three : l.validTemps = [0, 1, 2]) :
    (l.tempFault).sns.temp = l.sns.temp.set (outlier l.tempOf) { l.sns.temp.getD (outlier l.tempOf) {} with dropped := true } ∧
      Reports { l with sns := { l.sns with temp := l.tempFault.sns.temp, disagree := l.tempFault.sns.disagree, hotSince := l.tempFault.sns.hotSince } } l.tempFault := by
  unfold Lane.tempFault
  rw [if_neg (by simp [apart, Lane.due, due]), if_pos (by simp [three])]
  extract_lets k _ m _
  have told (x : Lane) : (x.event 0x4108 k).sns = x.sns := Within.sns_eq (ps := []) ((Within.refl x).event 0x4108 k)
  refine ⟨by rw [told], ?_⟩
  rw [told]
  exact reports_event _ _ _

theorem Lane.crackMeasure_notes (l : Lane) (r : F32) :
    let m := l.crackMeasure r
    m.sns.crackR = r ∧ m.sns.crackAt = l.now ∧ m.sns.crackRun = (if l.crackBad r then l.sns.crackRun + 1 else 0) ∧ m.sns.cracked = (l.sns.cracked || (l.crackBad r && l.sns.crackRun == 2)) := by
  have third : (if l.crackBad r then l.sns.crackRun + 1 else 0) = 3 ↔ (l.crackBad r && l.sns.crackRun == 2) = true := by
    cases l.crackBad r <;> simp
  have told (x : Lane) : (x.eventU 0x4109).sns = x.sns := Within.sns_eq (ps := []) ((Within.refl x).eventU _)
  unfold Lane.crackMeasure
  extract_lets n _ x m
  by_cases run : n = 3
  · have now : (l.crackBad r && l.sns.crackRun == 2) = true := third.mp run
    rw [now, Bool.or_true]
    unfold m
    rw [if_pos (by simpa using run)]
    unfold Lane.crackDeclare
    split
    · exact ⟨rfl, rfl, rfl, ‹_›⟩
    · rw [told]
      exact ⟨rfl, rfl, rfl, rfl⟩
  · have still : (l.crackBad r && l.sns.crackRun == 2) = false := Bool.eq_false_iff.mpr fun h => run (third.mpr h)
    rw [still, Bool.or_false]
    unfold m
    rw [if_neg (by simpa using run)]
    exact ⟨rfl, rfl, rfl, rfl⟩

/-- 145 °C that has held for 1 ms. -/
theorem Lane.tempShut_due (l : Lane) (t : Nat) (hot : l.sns.hotSince = some t) (due : t + ms 1 ≤ l.now) (off : l.st ≠ .off) (waking : l.st ≠ .waking) (save : l.st ≠ .save)
    (silent : l.st ≠ .failSilent) : l.tempShut = (l.eventU 0x4107).failSilent 1 :=
  if_pos (by simp [hot, Lane.due, due, off, waking, save, silent])

/-- The end of a conversion of a running sequence. -/
theorem Lane.adcEnd_running (l : Lane) (k code src : Nat) (rest : List Nat) (running : (l.adc k).left = src :: rest) :
    let c := l.adc k
    l.adcEnd k code = (l.setLatch src (adcWord true (l.settle src (c.trigAt + 2 + 80 * (c.entry - 1))) src (c.count + 1) code) c.trigAt).setAdc k
      { c with left := rest, entry := c.entry + 1, count := (c.count + 1) % 128, lost := c.lost.filter (fun x => x.1 != src || decide (c.trigAt ≤ x.2.1)) } := by
  simp only [Lane.adcEnd, running]

theorem Lane.dsModFault_first (l : Lane) (k : Nat) (first : (l.dsIn k).modFault = false) :
    l.dsModFault k = ((l.setDs k { l.dsIn k with modFault := true, valid := false, regen := (l.dsIn k).regen || l.p 0x4135 k == 1 }).inhStart (l.p 0x4135 k == 1)).eventU 0x4104 :=
  if_neg (by simp [first])

/-- Settles O17. -/
theorem conversions : Obligations.Conversions := by
  refine ⟨fun s a k code src rest => ?_, fun s a k => ?_, fun s a t0 t1 t2 r t => ?_⟩
  · intro l c known range running
    exact next_of_eq rfl (by simp [known, range]) (l.adcEnd_running k code src rest running) (reports_wired _ _)
  · intro l d known
    refine ⟨fun enabled run test armed off => ?_, fun first => ?_⟩
    · obtain ⟨ds, src⟩ := l.ovHard_enters k enabled run test armed off
      refine next_of_eq rfl (decide_eq_true known) rfl ?_
      refine ⟨ds, src.trans ?_⟩
      unfold Lane.entered
      rw [if_neg (by omega)]
    · refine next_of_eq rfl (decide_eq_true known) (l.dsModFault_first k first) ?_
      exact (reports_eventU _ _).trans (reports_wired _ _)
  · intro l
    refine ⟨?_, fun hot due off waking save silent => ?_, fun apart due three => ?_, ?_⟩
    · obtain ⟨temp, at_⟩ := l.tempSample_reads [t0, t1, t2]
      refine next_of_eq rfl rfl rfl ?_
      exact ⟨temp, at_, (((Within.refl (ps := [.sns, .bist]) l).tempSample [t0, t1, t2]).wired a.lane : _)⟩
    · have told : Within [] l (l.eventU 0x4107) := (Within.refl l).eventU _
      have silentNow := (l.eventU 0x4107).failSilent_enters 1 (by rwa [told.st_eq])
      exact next_of_eq rfl rfl (l.tempShut_due t hot due off waking save silent) silentNow
    · obtain ⟨temp, frame⟩ := l.tempFault_drops t apart due three
      refine next_of_eq rfl rfl rfl ?_
      exact ⟨temp, frame.trans (reports_wired _ _)⟩
    · obtain ⟨reading, at_, run, cracked⟩ := l.crackMeasure_notes r
      refine next_of_eq rfl rfl rfl ?_
      exact ⟨reading, at_, run, cracked, (((Within.refl (ps := [.sns]) l).crackMeasure r).wired a.lane : _)⟩

end Sys2Proof.Machine
end

section
/-! The actuator bus (R228 to R230): channels that an OV1 comparator turns on and off, the OV2 reaction slot by slot and its end, and the settlement of O18. -/

namespace Sys2Proof.Machine

set_option Elab.async false

/-! ### Channels (R228) -/

/-- The lane with a list of PWM channels. -/
def Lane.withCh (l : Lane) (xs : List PwmCh) : Lane := { l with pwm.ch := xs }

/-- A fold whose rounds each rewrite their own channel. -/
theorem Lane.eachOf_withCh (l : Lane) (ks : List Nat) {f : Nat → Lane → Lane} {h : Nat → PwmCh → PwmCh} (step : ∀ k xs, f k (l.withCh xs) = l.withCh (xs.set k (h k (xs.getD k {})))) :
    l.eachOf ks f = l.withCh (ks.foldl (fun xs k => xs.set k (h k (xs.getD k {}))) l.pwm.ch) := by
  have fold (xs : List PwmCh) : (l.withCh xs).eachOf ks f = l.withCh (ks.foldl (fun xs k => xs.set k (h k (xs.getD k {}))) xs) := by
    induction ks generalizing xs with
    | nil => rfl
    | cons k ks ih =>
      show (f k (l.withCh xs)).eachOf ks f = _
      rw [step, ih]
      rfl
  exact fold l.pwm.ch

/-- An entry that listed rounds rewrite, each as often as it is listed. -/
theorem getD_foldl_set {α : Type} (ks : List Nat) (h : Nat → α → α) (idem : ∀ k x, h k (h k x) = h k x) (xs : List α) (c : Nat) (d : α) (known : c < xs.length) :
    (ks.foldl (fun xs k => xs.set k (h k (xs.getD k d))) xs).getD c d = if c ∈ ks then h c (xs.getD c d) else xs.getD c d := by
  induction ks generalizing xs with
  | nil => simp
  | cons k ks ih =>
    rw [List.foldl_cons, ih _ (by simpa using known)]
    rcases eq_or_ne c k with rfl | other
    · rw [getD_set_same _ _ _ _ known, idem]
      simp
    · rw [getD_set_ne _ _ _ _ _ other]
      simp [other]

theorem set_getD_self {α : Type} (xs : List α) (k : Nat) (d : α) : xs.set k (xs.getD k d) = xs := by
  by_cases known : k < xs.length
  · simp [known]
  · exact List.set_eq_of_length_le (Nat.le_of_not_lt known)

/-- The timebase of a channel and its period, where the parameters stand as they did. -/
theorem Within.tbOf_eq {ps : List Part} {l m : Lane} (h : Within ps l m) (ch : Nat) (params : ps.elem .params = false := by rfl) (held : ps.elem .held = false := by rfl) : m.tbOf ch = l.tbOf ch :=
  h.p_eq 0x3110 ch params held
theorem Within.periodFine_eq {ps : List Part} {l m : Lane} (h : Within ps l m) (tb : Nat) (params : ps.elem .params = false := by rfl) (held : ps.elem .held = false := by rfl) :
    m.periodFine tb = l.periodFine tb := by
  simp only [Lane.periodFine, Lane.periodTicks, h.p_eq 0x3100 tb params held, h.p_eq 0x3101 tb params held, h.p_eq 0x3102 tb params held]

/-- The channel of a sink is on for the whole period unless a trip holds it. -/
def Lane.sunk (l : Lane) (k : Nat) (c : PwmCh) : PwmCh := if c.tripped then c else { c with emitted := l.periodFine (l.tbOf k) }

theorem Lane.busOv1_rises (l : Lane) (d : Nat) (on : bit (l.p 0x4123) d = true) (low : (l.drn d).ov1 = false) :
    ∃ m : Lane, Within [] { l.setDrn d { l.drn d with ov1 := true } with sns.ov1At := l.now } m ∧
      l.busOv1 d = m.withCh ((m.sinkChs.filter m.busSink).foldl (fun xs k => xs.set k (l.sunk k (xs.getD k {}))) l.pwm.ch) := by
  have told : Within [] { l.setDrn d { l.drn d with ov1 := true } with sns.ov1At := l.now } ({ l.setDrn d { l.drn d with ov1 := true } with sns.ov1At := l.now }.eventU 0x4101) :=
    (Within.refl _).eventU _
  refine ⟨_, told, ?_⟩
  unfold Lane.busOv1
  rw [if_neg (by simp [on, low])]
  generalize (Lane.eventU _ 0x4101) = m at told
  have own : m.pwm = l.pwm := told.pwm_eq
  refine (m.eachOf_withCh _ (h := l.sunk) fun k xs => ?_).trans (by rw [own])
  have here : (m.withCh xs).pch k = xs.getD k {} := rfl
  have period : (m.withCh xs).periodFine ((m.withCh xs).tbOf k) = l.periodFine (l.tbOf k) := by
    refine (told.periodFine_eq _).trans (congrArg l.periodFine ?_)
    exact told.tbOf_eq k
  rw [here, period]
  unfold Lane.sunk
  split
  · rw [set_getD_self]
  · rfl

theorem Lane.busOv1Clear_falls (l : Lane) (d : Nat) (high : (l.drn d).ov1 = true) :
    let m := l.setDrn d { l.drn d with ov1 := false }
    l.busOv1Clear d = m.withCh ((l.sinkChs.filter fun c => !m.busSink c).foldl (fun xs k => xs.set k { xs.getD k {} with emitted := 0 }) l.pwm.ch) := by
  intro m
  unfold Lane.busOv1Clear
  rw [if_neg (by simp [high])]
  exact m.eachOf_withCh _ (h := fun _ c => { c with emitted := 0 }) fun k xs => rfl

/-! ### The OV2 reaction (R229) -/

theorem Lane.pvals_releaseOf (l : Lane) (ids : List Nat) (k id inst : Nat) (ne : id ∉ ids) : (l.releaseOf ids k).pvals id inst = l.pvals id inst := by
  have same : (fun h : Held => decide ((!(ids.contains h.id && h.inst == k)) = true ∧ (h.id == id && h.inst == inst) = true)) = fun h => h.id == id && h.inst == inst := by
    funext h
    rw [Bool.eq_iff_iff]
    by_cases here : h.id = id
    · simp [here, ne]
    · simp [here]
  unfold Lane.pvals Lane.releaseOf Lane.release
  simp only [List.find?_filter, same]
  rfl

/-- The parameters of the speed threshold act as they did. -/
def Lane.sameThr (l m : Lane) : Prop := ∀ i, m.pvals 0x6140 i = l.pvals 0x6140 i ∧ m.pvals 0x6101 i = l.pvals 0x6101 i

theorem Lane.sameThr.trans {l m n : Lane} (h : l.sameThr m) (k : m.sameThr n) : l.sameThr n := fun i => ⟨(k i).1.trans (h i).1, (k i).2.trans (h i).2⟩

theorem Within.sameThr {ps : List Part} {l m : Lane} (h : Within ps l m) (params : ps.elem .params = false := by rfl) (held : ps.elem .held = false := by rfl) : l.sameThr m :=
  fun i => ⟨h.pvals_eq 0x6140 i params held, h.pvals_eq 0x6101 i params held⟩

theorem Lane.takeSafe_sameThr (l : Lane) (k : Nat) : l.sameThr (l.takeSafe k) := by
  unfold Lane.takeSafe
  extract_lets m
  split
  · exact fun _ => ⟨rfl, rfl⟩
  · refine Lane.sameThr.trans (m := if m.laneSafe then l else l.releaseOf [0x6150] k) ?_ (Within.sameThr (ps := [.slots, .mp]) ?_)
    · split
      · exact fun _ => ⟨rfl, rfl⟩
      · exact fun i => ⟨l.pvals_releaseOf _ _ _ _ (by decide), l.pvals_releaseOf _ _ _ _ (by decide)⟩
    · exact ((Within.refl _).stepStand k).upd

theorem Lane.loopSafe_sameThr (l : Lane) (k : Nat) : l.sameThr (l.loopSafe k) := by
  refine List.foldlRecOn (motive := l.sameThr) _ _ (fun _ => ⟨rfl, rfl⟩) fun m hm j _ => hm.trans ?_
  beta_reduce
  extract_lets n x
  have abort : m.sameThr n := ((Within.refl (ps := [.le]) m).injAbort j).sameThr
  split
  · refine abort.trans (Lane.sameThr.trans (m := n.releaseOf [0x7121] j) (fun i => ⟨n.pvals_releaseOf _ _ _ _ (by decide), n.pvals_releaseOf _ _ _ _ (by decide)⟩) (Within.sameThr (ps := [.le]) ?_))
    exact Within.event (.upd (.refl _)) ..
  · exact abort

/-- A step of the reaction on one slot: that slot has a new record of the same kind, and the thresholds act as they did. -/
def Lane.SlotStep (l : Lane) (k : Nat) (m : Lane) : Prop := (∃ x : MotSlot, x.cfg = (l.motor k).cfg ∧ m.mot.slot = l.mot.slot.set k x) ∧ l.sameThr m

theorem Lane.SlotStep.motor_ne {l m : Lane} {k j : Nat} (h : l.SlotStep k m) (ne : j ≠ k) : m.motor j = l.motor j := by
  obtain ⟨⟨x, -, slots⟩, -⟩ := h
  unfold Lane.motor
  rw [slots, getD_set_ne _ _ _ _ _ ne]

theorem Lane.SlotStep.length {l m : Lane} {k : Nat} (h : l.SlotStep k m) : m.mot.slot.length = l.mot.slot.length := by
  obtain ⟨⟨x, -, slots⟩, -⟩ := h
  rw [slots, List.length_set]

theorem Lane.SlotStep.cfg {l m : Lane} {k : Nat} (h : l.SlotStep k m) : (m.motor k).cfg = (l.motor k).cfg := by
  obtain ⟨⟨x, cfg, slots⟩, -⟩ := h
  unfold Lane.motor at cfg ⊢
  rw [slots]
  exact getD_set_keeps MotSlot.cfg l.mot.slot k k x {} cfg

theorem Lane.SlotStep.refl (l : Lane) (k : Nat) : l.SlotStep k l := ⟨⟨l.motor k, rfl, (set_getD_self ..).symm⟩, fun _ => ⟨rfl, rfl⟩⟩

theorem Lane.SlotStep.trans {l m n : Lane} {k : Nat} (h : l.SlotStep k m) (i : m.SlotStep k n) : l.SlotStep k n := by
  obtain ⟨⟨y, cfg', slots'⟩, thr'⟩ := i
  refine ⟨⟨y, cfg'.trans h.cfg, ?_⟩, h.2.trans thr'⟩
  obtain ⟨⟨x, -, slots⟩, -⟩ := h
  rw [slots', slots, List.set_set]

theorem Lane.SlotStep.set (l : Lane) (k : Nat) (x : MotSlot) (cfg : x.cfg = (l.motor k).cfg) : l.SlotStep k (l.setMotor k x) := ⟨⟨x, cfg, rfl⟩, fun _ => ⟨rfl, rfl⟩⟩

/-- What changes no slot and no parameter is a step of every slot. -/
theorem Within.slotStep {ps : List Part} {l m : Lane} (h : Within ps l m) (k : Nat) (slots : ps.elem .slots = false := by rfl) (params : ps.elem .params = false := by rfl)
    (held : ps.elem .held = false := by rfl) : l.SlotStep k m :=
  ⟨⟨l.motor k, rfl, (h.slot_eq slots).trans (set_getD_self ..).symm⟩, h.sameThr params held⟩

theorem Lane.takeSafe_slotStep (l : Lane) (k : Nat) : l.SlotStep k (l.takeSafe k) := by
  refine ⟨?_, l.takeSafe_sameThr k⟩
  unfold Lane.takeSafe
  extract_lets m
  split
  · exact (Lane.SlotStep.refl l k).1
  · have stand : Within [.held, .mp] l ((if m.laneSafe then l else l.releaseOf [0x6150] k).stepStand k) := Within.stepStand (.ite (.refl l) ((Within.refl l).releaseOf ..)) k
    refine ⟨_, ?_, congrArg (fun xs : List MotSlot => xs.set k _) stand.slot_eq⟩
    rfl

theorem Lane.flyStop_slotStep (l : Lane) (k : Nat) : l.SlotStep k (l.flyStop k) := by
  unfold Lane.flyStop
  extract_lets m
  split
  · unfold Lane.flyBack
    refine (Lane.SlotStep.set l k { m with fly := .acquire, syncLost := true, probe := none, acq := false } rfl).trans ((Lane.takeSafe_slotStep _ k).trans ?_)
    exact ⟨⟨_, rfl, ((Within.refl (ps := [.held, .le]) _).loopSafe k).slot_eq.trans (set_getD_self ..).symm⟩, Lane.loopSafe_sameThr _ k⟩
  · exact .refl l k

/-- The reaction of one slot is a step of that slot. -/
theorem Lane.ov2Slot_slotStep (l : Lane) (k : Nat) : l.SlotStep k (l.ov2Slot k) := by
  unfold Lane.ov2Slot
  extract_lets m x _ y _
  split
  · exact .refl l k
  · exact .refl l k
  · have marked : l.SlotStep k y := (l.flyStop_slotStep k).trans (.set x k _ rfl)
    exact marked.trans (.set y k _ rfl)
  · exact (Lane.SlotStep.set l k { m with ov2 := true, laneSafe := true, short := false } rfl).trans (((Within.refl (ps := [.mp]) _).stepOff k).slotStep k)

theorem Lane.motor_none (l : Lane) (k : Nat) (none : ¬k < l.mot.slot.length) : l.motor k = {} := by
  simp [Lane.motor, List.getElem?_eq_none (Nat.le_of_not_lt none)]

theorem Lane.motor_known (l : Lane) (k : Nat) (kind : (l.motor k).cfg.kind ≠ .none) : k < l.mot.slot.length := by
  by_contra none
  exact kind (by rw [l.motor_none k none])

/-- A chopper's slot is left alone. -/
theorem Lane.ov2Slot_chopper (l : Lane) (k : Nat) (kind : (l.motor k).cfg.kind = .chopper) : l.ov2Slot k = l := by
  simp only [Lane.ov2Slot, kind]

/-- Every other slot takes its lane-safe state; only a three-phase one may short. -/
theorem Lane.ov2Slot_safe (l : Lane) (k : Nat) (any : (l.motor k).cfg.kind ≠ .none) (other : (l.motor k).cfg.kind ≠ .chopper) :
    ((l.ov2Slot k).motor k).ov2 = true ∧ ((l.ov2Slot k).motor k).laneSafe = true ∧ ((l.motor k).cfg.kind ≠ .threePhase → ((l.ov2Slot k).motor k).short = false) := by
  have known := l.motor_known k any
  have off (x : MotSlot) (set : x.ov2 = true ∧ x.laneSafe = true ∧ x.short = false) : let m := (l.setMotor k x).stepOff k
      (m.motor k).ov2 = true ∧ (m.motor k).laneSafe = true ∧ ((l.motor k).cfg.kind ≠ .threePhase → (m.motor k).short = false) := by
    intro m
    have same : m.motor k = x := by
      unfold Lane.motor
      rw [((Within.refl (ps := [.mp]) (l.setMotor k x)).stepOff k).slot_eq]
      exact l.motor_setMotor k x known
    rw [same]
    obtain ⟨ov2, safe, short⟩ := set
    exact ⟨ov2, safe, fun _ => short⟩
  unfold Lane.ov2Slot
  extract_lets m x _ y _
  split
  · exact absurd ‹_› any
  · exact absurd ‹_› other
  · next kind =>
    have here : k < x.mot.slot.length := by rw [(l.flyStop_slotStep k).length]; exact known
    have marked : y.motor k = { x.motor k with ov2 := true, laneSafe := true } := x.motor_setMotor k _ here
    have done : (y.setMotor k { y.motor k with short := y.safeShort k }).motor k = { y.motor k with short := y.safeShort k } := y.motor_setMotor k _ (by simpa [y, Lane.setMotor] using here)
    rw [done, marked]
    exact ⟨rfl, rfl, fun not => absurd kind not⟩
  · exact off _ ⟨rfl, rfl, rfl⟩

/-- A three-phase slot outside a run of flying start shorts where it is fast. -/
theorem Lane.ov2Slot_threePhase (l : Lane) (k : Nat) (kind : (l.motor k).cfg.kind = .threePhase) (zero : (l.motor k).fly ≠ .zeroRun) (ramp : (l.motor k).fly ≠ .ramp) :
    (l.ov2Slot k).motor k = { l.motor k with ov2 := true, laneSafe := true, short := !l.vgdBad && l.fastFor k (l.asThr k) } := by
  have known := l.motor_known k (by rw [kind]; decide)
  have still : l.flyStop k = l := if_neg (by simp [zero, ramp])
  have marked (x : MotSlot) : (l.setMotor k x).motor k = x := l.motor_setMotor k x known
  have speed : (l.setMotor k { l.motor k with ov2 := true, laneSafe := true }).fastFor k (l.asThr k) = l.fastFor k (l.asThr k) := by
    simp only [Lane.fastFor, Lane.safeSpeed, marked]
  have short : (l.setMotor k { l.motor k with ov2 := true, laneSafe := true }).safeShort k = (!l.vgdBad && l.fastFor k (l.asThr k)) := by
    unfold Lane.safeShort
    simp only [marked, kind, if_true, beq_self_eq_true, Bool.true_and]
    cases bad : l.vgdBad with
    | true => exact if_pos bad
    | false => exact (if_neg (by simp [Lane.vgdBad] at bad ⊢; exact bad)).trans speed
  simp only [Lane.ov2Slot, kind, still, marked, short]
  exact Lane.motor_setMotor _ k _ (by simpa [Lane.setMotor] using known)

/-- What the reactions of other slots leave: each slot they do not concern, the thresholds, and the gate supply. -/
theorem Lane.ov2Slots_at (l : Lane) (ks : List Nat) (nodup : ks.Nodup) (k : Nat) (mem : k ∈ ks) :
    ∃ m : Lane, m.motor k = l.motor k ∧ l.sameThr m ∧ m.gd = l.gd ∧ (l.eachOf ks fun k l => l.ov2Slot k).motor k = (m.ov2Slot k).motor k := by
  have others (ks : List Nat) (out : k ∉ ks) (m : Lane) : (m.eachOf ks fun k l => l.ov2Slot k).motor k = m.motor k :=
    List.foldlRecOn (motive := fun n : Lane => n.motor k = m.motor k) ks _ rfl fun n hn i hi => ((n.ov2Slot_slotStep i).motor_ne fun e : k = i => out (e ▸ hi)).trans hn
  induction ks generalizing l with
  | nil => cases mem
  | cons i ks ih =>
    obtain ⟨out, nodup⟩ := List.nodup_cons.mp nodup
    rcases List.mem_cons.mp mem with rfl | later
    · exact ⟨l, rfl, fun _ => ⟨rfl, rfl⟩, rfl, others ks out _⟩
    · have ne : k ≠ i := fun e => out (e ▸ later)
      have step := l.ov2Slot_slotStep i
      obtain ⟨m, same, thr, gd, last⟩ := ih (l.ov2Slot i) nodup later
      exact ⟨m, same.trans (step.motor_ne ne), step.2.trans thr, gd.trans ((Within.refl (ps := [.held, .slots, .le, .mp]) l).ov2Slot i).gd_eq, last⟩

/-! ### The end of the reaction (R230) -/

/-- A slot is released. -/
def Lane.ov2Free (l : Lane) (k : Nat) : Lane :=
  let m := l.motor k
  if !m.ov2 then l
  else if m.cfg.kind == .threePhase && m.enabled && m.fly != .failed then
    l.setMotor k { m with ov2 := false, fly := .acquire, syncLost := true, probe := none, acq := false, flyAt := if m.fly == .none then l.now + ms (l.p 0x6142 k) else m.flyAt }
  else l.setMotor k { m with ov2 := false }

theorem Lane.ov2Free_frees (l : Lane) (i k : Nat) (h : i = k ∨ (l.motor k).ov2 = false) : ((l.ov2Free i).motor k).ov2 = false := by
  have set (x : MotSlot) (off : x.ov2 = false) : (((l.setMotor i x).motor k)).ov2 = false := by
    by_cases here : i = k
    · subst here
      by_cases known : i < l.mot.slot.length
      · rw [l.motor_setMotor i x known, off]
      · have none := (l.setMotor i x).motor_none i (by simpa [Lane.setMotor] using known)
        rw [none]
    · exact (congrArg MotSlot.ov2 (getD_set_ne l.mot.slot i k x {} fun e => here e.symm)).trans (h.resolve_left here)
  unfold Lane.ov2Free
  extract_lets m
  split
  · next free =>
    rcases h with rfl | off
    · simpa [m] using free
    · exact off
  · split
    · exact set _ rfl
    · exact set _ rfl

theorem Lane.ov2Release_early (l : Lane) (d : Nat) (early : l.now < (l.drn d).ov2At + ms (l.p 0x9150)) : l.ov2Release d = l := by
  have wait : ¬(l.drn d).ov2At + ms (l.p 0x9150) ≤ l.now := Nat.not_le.mpr early
  exact if_pos (by simp [Lane.due, wait])

theorem Lane.ov2Release_frees (l : Lane) (d : Nat) (on : l.fn.ov2On = true) (due : (l.drn d).ov2At + ms (l.p 0x9150) ≤ l.now) (others : ∀ i < 4, i ≠ d → (l.drn i).ov2 = false)
    (known : d < l.sns.drn.length) :
    (l.ov2Release d).sns = (l.setDrn d { l.drn d with ov2 := false }).sns ∧ (l.ov2Release d).fn = { l.fn with ov2On := false } ∧ ∀ k < 8, ((l.ov2Release d).motor k).ov2 = false := by
  have low : ¬(List.range 4).any (fun i => ((l.setDrn d { l.drn d with ov2 := false }).drn i).ov2) = true := by
    simp only [List.any_eq_true, List.mem_range, not_exists, not_and, Bool.not_eq_true]
    intro i below
    rcases eq_or_ne i d with rfl | other
    · exact congrArg Drn.ov2 (getD_set_same l.sns.drn i _ {} known)
    · exact (congrArg Drn.ov2 (getD_set_ne l.sns.drn d i _ {} other)).trans (others i below other)
  unfold Lane.ov2Release
  rw [if_neg (by simp [on, Lane.due, due])]
  extract_lets m _ _ n o
  rw [if_neg low]
  have free : Within [.slots] n o := (Within.refl n).each 8 fun k x hx => by
    show Within [.slots] n (x.ov2Free k)
    unfold Lane.ov2Free
    exact hx.ite (.ite hx.upd hx.upd)
  have close : Within [.le] o ((o.fnReclose 0).fnReclose 1) := ((Within.refl o).fnReclose 0).fnReclose 1
  refine ⟨close.sns_eq.trans free.sns_eq, close.fn_eq.trans free.fn_eq, fun k below => ?_⟩
  have freed : (o.motor k).ov2 = false :=
    Lane.eachOf_reaches (P := fun x => (x.motor k).ov2 = false) (Q := fun _ => True) (List.mem_range.mpr below) (fun _ _ _ => trivial) (fun i x h => x.ov2Free_frees i k (.inr h))
      (fun x _ => x.ov2Free_frees k k (.inl rfl)) trivial
  unfold Lane.motor
  rw [close.slot_eq]
  exact freed

/-! ### O18 -/

/-- The reaction of every slot to OV2. -/
theorem Lane.busOv2_reacts (l : Lane) (d : Nat) (on : bit (l.p 0x4123) d = true) (first : l.fn.ov2On = false) :
    ∃ m : Lane, Within [] { l.setDrn d { l.drn d with ov2 := true, ov2At := l.now } with fn.ov2On := true } m ∧ l.busOv2 d = m.each 8 fun k l => l.ov2Slot k := by
  have told : Within [] (l.setDrn d { l.drn d with ov2 := true, ov2At := l.now }) ((l.setDrn d { l.drn d with ov2 := true, ov2At := l.now }).eventU 0x4102) := (Within.refl _).eventU _
  refine ⟨Lane.eventU { (l.setDrn d { l.drn d with ov2 := true, ov2At := l.now }).eventU 0x4102 with fn.ov2On := true } 0x910F, ?_, ?_⟩
  · refine Within.eventU ?_ _
    generalize (l.setDrn d { l.drn d with ov2 := true, ov2At := l.now }).eventU 0x4102 = m at told
    exact congrArg (fun x : Lane => { x with fn.ov2On := true }) told
  · unfold Lane.busOv2
    rw [if_neg (by simp [on]), if_neg ?_]
    rw [told.fn_eq]
    exact Bool.eq_false_iff.mp first

/-- Each slot reacts in a lane that differs from l in other slots alone. -/
theorem Lane.busOv2_slots (l : Lane) (d : Nat) (on : bit (l.p 0x4123) d = true) (first : l.fn.ov2On = false) :
    Within [.sns, .fn, .slots, .le, .mp, .held] l (l.busOv2 d) ∧ (l.busOv2 d).sns = (l.setDrn d { l.drn d with ov2 := true, ov2At := l.now }).sns ∧
      (l.busOv2 d).fn = { l.fn with ov2On := true } ∧
      ∀ k < 8, ∃ x : Lane, x.motor k = l.motor k ∧ l.sameThr x ∧ x.gd = l.gd ∧ (l.busOv2 d).motor k = (x.ov2Slot k).motor k := by
  obtain ⟨m, told, react⟩ := l.busOv2_reacts d on first
  have base : Within [.sns, .fn] l { l.setDrn d { l.drn d with ov2 := true, ov2At := l.now } with fn.ov2On := true } := .upd (.refl l)
  have slots : Within [.held, .slots, .le, .mp] m (m.each 8 fun k l => l.ov2Slot k) := (Within.refl m).each 8 fun k _ hx => hx.ov2Slot k
  have marked : Within [.sns, .fn] l m := base.trans (told.mono (by decide))
  rw [react]
  refine ⟨(marked.mono (by decide)).trans (slots.mono (by decide)), slots.sns_eq.trans told.sns_eq, slots.fn_eq.trans told.fn_eq, fun k below => ?_⟩
  obtain ⟨x, same, thr, gd, last⟩ := m.ov2Slots_at (List.range 8) List.nodup_range k (List.mem_range.mpr below)
  exact ⟨x, same.trans (congrArg (fun xs : List MotSlot => xs.getD k {}) marked.slot_eq), marked.sameThr.trans thr, gd.trans marked.gd_eq, last⟩

/-- Whether a slot is fast depends on its own record and the threshold alone. -/
theorem Lane.fast_eq {l x : Lane} {k : Nat} (same : x.motor k = l.motor k) (thr : l.sameThr x) (gd : x.gd = l.gd) :
    (!x.vgdBad && x.fastFor k (x.asThr k)) = (!l.vgdBad && l.fastFor k (l.asThr k)) := by
  have bad : x.vgdBad = l.vgdBad := by rw [Lane.vgdBad, gd]; rfl
  have limit : x.asThr k = l.asThr k := by
    simp only [Lane.asThr, Lane.pf, Lane.p, (thr k).1, (thr k).2]
  simp only [bad, limit, Lane.fastFor, Lane.safeSpeed, same]

theorem Lane.sunk_idem (l : Lane) (k : Nat) (c : PwmCh) : l.sunk k (l.sunk k c) = l.sunk k c := by
  unfold Lane.sunk
  split
  · rfl
  · rfl

/-- The frame of the bus: the drain inputs and the channels. -/
theorem Lane.withCh_frame {l m : Lane} (h : Within [.sns] l m) (xs : List PwmCh) (i : LaneId) :
    Reports { l with sns := ((m.withCh xs).wired i).sns, pwm := { l.pwm with ch := xs } } ((m.withCh xs).wired i) := by
  have frame : Within [.sns, .channels] l ((m.withCh xs).wired i) := ((h.mono (by decide)).upd).wired i
  exact frame

theorem Within.reaction {l l' : Lane} (h : Within [.sns, .fn, .slots, .le, .mp, .held] l l') :
    Reports { l with sns := l'.sns, fn := l'.fn, mot := { l.mot with slot := l'.mot.slot }, le := l'.le, mp := l'.mp, held := l'.held } l' := h

/-- Settles O18. -/
theorem actuatorBus : Obligations.ActuatorBus := by
  intro s a d k l known
  refine ⟨fun on low => ?_, fun high => ?_, fun on first => ?_, fun _ early => ?_, fun on due others here => ?_⟩
  · obtain ⟨m, told, rise⟩ := l.busOv1_rises d on low
    refine next_of_eq rfl (decide_eq_true known) rise ?_
    refine ⟨fun c here => ?_, ?_, ?_⟩
    · refine (getD_foldl_set _ l.sunk (fun k x => l.sunk_idem k x) l.pwm.ch c {} here).trans ?_
      have sinks : m.sinkChs = l.sinkChs := by
        unfold Lane.sinkChs Lane.motor
        rw [told.slot_eq]
        rfl
      have turnsOn : c ∈ m.sinkChs.filter m.busSink ↔ c ∈ l.sinkChs ∧ m.busSink c = true := by rw [List.mem_filter, sinks]
      simp only [turnsOn]
      by_cases sink : c ∈ l.sinkChs ∧ m.busSink c = true
      · rw [if_pos sink]
        by_cases held : (l.pch c).tripped = true
        · exact (if_pos held).trans (if_neg fun ⟨_, _, free⟩ => Bool.noConfusion (held.symm.trans free)).symm
        · exact (if_neg held).trans (if_pos ⟨sink.1, sink.2, Bool.eq_false_iff.mpr held⟩).symm
      · rw [if_neg sink]
        exact (if_neg fun ⟨here, on_, _⟩ => sink ⟨here, on_⟩).symm
    · exact told.sns_eq
    · have base : Within [.sns] l { l.setDrn d { l.drn d with ov1 := true } with sns.ov1At := l.now } := .upd (.refl l)
      exact Lane.withCh_frame (base.trans (told.mono (by decide))) _ a.lane
  · refine next_of_eq rfl (decide_eq_true known) (l.busOv1Clear_falls d high) ?_
    refine ⟨fun c here => ?_, rfl, ?_⟩
    · refine (getD_foldl_set _ (fun _ x => { x with emitted := 0 }) (fun _ _ => rfl) l.pwm.ch c {} here).trans ?_
      simp only [List.mem_filter, Bool.not_eq_true']
      rfl
    · exact Lane.withCh_frame (.upd (.refl l)) _ a.lane
  · obtain ⟨frame, sns, fn, slots⟩ := l.busOv2_slots d on first
    refine next_of_eq rfl (decide_eq_true known) rfl ?_
    refine ⟨sns, fn, fun below kind zero ramp => ?_, fun below kind => ?_, fun i _ below any other => ?_, (frame.wired a.lane).reaction⟩
    · obtain ⟨x, own, thr, gd, last⟩ := slots k below
      have short := x.ov2Slot_threePhase k (by rw [own]; exact kind) (by rw [own]; exact zero) (by rw [own]; exact ramp)
      rw [own, Lane.fast_eq own thr gd] at short
      exact last.trans short
    · obtain ⟨x, own, -, -, last⟩ := slots k below
      have still := x.ov2Slot_chopper k (by rw [own]; exact kind)
      rw [still, own] at last
      exact last
    · obtain ⟨x, own, -, -, last⟩ := slots i below
      have safe := x.ov2Slot_safe i (by rw [own]; exact any) (by rw [own]; exact other)
      rw [own, ← last] at safe
      exact safe
  · exact next_of_eq rfl (decide_eq_true known) (l.ov2Release_early d early) (reports_wired _ _)
  · exact next_of_eq rfl (decide_eq_true known) rfl (l.ov2Release_frees d on due others here)

end Sys2Proof.Machine
end

section
/-! Hall groups and incremental inputs (R106 to R113): what compare units leave of the inputs, transitions and edges, and the settlement of O19. -/

namespace Sys2Proof.Machine

set_option Elab.async false

/-! ### Compare units (R127) -/

/-- The inputs that a compare unit reads and does not change. -/
def Lane.inputs (l : Lane) : List Hall × List Enc × List PosPort := (l.pos.hall, l.pos.enc, l.pos.pp)

theorem Within.inputs_eq {ps : List Part} {l m : Lane} (h : Within ps l m) (out : ps.elem .pos = false := by rfl) (frz : ps.elem .freeze = false := by rfl) : m.inputs = l.inputs := by
  rw [Lane.inputs, h.pos_eq out frz]
  rfl

theorem Lane.cmpAct_inputs (l : Lane) (k : Nat) (hit : Int) (skips t : Nat) : (l.cmpAct k hit skips t).inputs = l.inputs := by
  unfold Lane.cmpAct
  extract_lets act m n
  have noted : Within [.sns] l n := by
    have told : Within [.sns] l m := .ite ((Within.refl l).qDropNew ..) (.refl l)
    exact (told.adcTrigger _).ite told
  split
  · exact Eq.trans (b := n.inputs) rfl noted.inputs_eq
  · exact noted.inputs_eq

theorem Lane.cmpEval_inputs (l : Lane) (k : Nat) (new : Int) (t : Nat) : (l.cmpEval k new t).inputs = l.inputs := by
  unfold Lane.cmpEval
  extract_lets u inc left sk0 sk val left' m n
  have acted : n.inputs = l.inputs := (Lane.cmpAct_inputs _ _ _ _ _).trans (((Within.refl (ps := [.params]) m).pset ..).inputs_eq)
  split
  · rfl
  · split
    · split
      · exact acted
      · exact ((Within.refl (ps := []) n).eventU _).inputs_eq.trans acted
    · rfl

theorem Lane.cmpSource_inputs (l : Lane) (code : Nat) (new : Int) (t : Nat) : (l.cmpSource code new t).inputs = l.inputs :=
  Lane.each_keeps Lane.inputs 8 _ (fun k m => by
    show Lane.inputs (if _ then _ else _) = _
    split
    · exact m.cmpEval_inputs ..
    · rfl) l

theorem Lane.cmpJump_inputs (l : Lane) (code : Nat) (new : Int) : (l.cmpJump code new).inputs = l.inputs :=
  Lane.each_keeps Lane.inputs 8 _ (fun k m => by
    show Lane.inputs (if _ then _ else _) = _
    split <;> rfl) l

/-! ### Hall groups (R106 to R110) -/

/-- The fault of a group that has just been given a record. -/
theorem Lane.hallFault_hall (l : Lane) (g : Nat) (x : Hall) (xs : List Hall) (own : l.pos.hall = xs.set g x) : (l.hallFault g).pos.hall = xs.set g { x with lost := true } := by
  have told (m : Lane) : (m.eventU 0x5103).pos = m.pos := ((Within.refl (ps := []) m).eventU _).pos_eq
  have twice (y : Hall) : l.pos.hall.set g y = xs.set g y := by rw [own, List.set_set]
  unfold Lane.hallFault
  extract_lets h
  by_cases known : g < xs.length
  · have same : h = x := by
      show l.pos.hall.getD g {} = x
      rw [own]
      exact getD_set_same _ _ _ _ known
    rw [same]
    split
    · next lost =>
      rw [own, ← lost]
    · rw [told]
      exact twice _
  · have none (y : Hall) : xs.set g y = xs := List.set_eq_of_length_le (Nat.le_of_not_lt known)
    split
    · rw [own, none, none]
    · rw [told]
      exact twice _ |>.trans ((none _).trans (none _).symm)

theorem Lane.inputs_inj {l m : Lane} (h : m.inputs = l.inputs) : m.pos.hall = l.pos.hall ∧ m.pos.enc = l.pos.enc ∧ m.pos.pp = l.pos.pp := by
  simpa only [Lane.inputs, Prod.mk.injEq] using h

theorem Lane.inputs_enc {l m : Lane} (h : m.inputs = l.inputs) : m.pos.enc = l.pos.enc := by
  obtain ⟨-, enc, -⟩ := Lane.inputs_inj h
  exact enc

theorem Lane.inputs_pp {l m : Lane} (h : m.inputs = l.inputs) : m.pos.pp = l.pos.pp := by
  obtain ⟨-, -, pp⟩ := Lane.inputs_inj h
  exact pp

theorem hallSector_lt {code x : Nat} (h : hallSector code = some x) : x < 6 := by
  unfold hallSector at h
  split at h <;> cases h <;> decide

/-- A transition to a neighbouring sector. -/
theorem Lane.hallMove_steps (l : Lane) (g x : Nat) (e : HallEdge) (sector : hallSector e.code = some x) (stood : l.stood e.since (l.p 0x5100 g) = true) (legal : (l.hall g).legal = true)
    (known : (l.hall g).sector < 6) (near : x = ((l.hall g).sector + 1) % 6 ∨ x = ((l.hall g).sector + 5) % 6) :
    ∃ y : Hall, (l.hallMove g e).pos.hall = l.pos.hall.set g y ∧ y.code = e.code ∧ y.sector = x ∧ y.fwd = decide (x = ((l.hall g).sector + 1) % 6) ∧
      y.net = (l.hall g).net + (if x = ((l.hall g).sector + 1) % 6 then 1 else -1) ∧ y.lastT = some e.since ∧ y.stopped = false ∧ y.illegalAt = none := by
  have below := hallSector_lt sector
  have turn : ((x + 6 - (l.hall g).sector) % 6 = 1 ∧ x = ((l.hall g).sector + 1) % 6) ∨ ((x + 6 - (l.hall g).sector) % 6 = 5 ∧ ¬x = ((l.hall g).sector + 1) % 6) := by omega
  unfold Lane.hallMove
  extract_lets h code t
  rw [if_neg (by simpa [t] using stood)]
  split
  next none => cases none.symm.trans sector
  next s found =>
  obtain rfl : x = s := Option.some.inj (sector.symm.trans found)
  rw [if_neg (by simp [h, legal]), if_neg (by simp only [beq_iff_eq, h]; omega)]
  extract_lets d skip fwd step ivals sk m n o
  have turn : (d = 1 ∧ x = (h.sector + 1) % 6) ∨ (d = 5 ∧ ¬x = (h.sector + 1) % 6) := turn
  have direct : skip = false := by
    rcases turn with ⟨one, -⟩ | ⟨five, -⟩
    · simp [skip, one]
    · simp [skip, five]
  have away : fwd = decide (x = (h.sector + 1) % 6) := by
    rcases turn with ⟨one, fore⟩ | ⟨five, back⟩
    · simp [fwd, one, ← fore]
    · simp [fwd, five, back]
  have count : step = if x = (h.sector + 1) % 6 then 1 else -1 := by
    rcases turn with ⟨one, fore⟩ | ⟨five, back⟩
    · simp [step, one, ← fore]
    · simp [step, five, back]
  have calm : n = m := by simp [n, direct]
  rw [(Lane.inputs_inj (o.cmpSource_inputs _ _ _)).1]
  unfold o
  rw [calm]
  split
  · exact ⟨_, m.hallFault_hall g _ _ rfl, rfl, rfl, away, congrArg (h.net + ·) count, rfl, rfl, rfl⟩
  · exact ⟨_, rfl, rfl, rfl, away, congrArg (h.net + ·) count, rfl, rfl, rfl⟩

/-- An illegal code that has stood for its time. -/
theorem Lane.hallBad_counts (l : Lane) (g : Nat) (e : HallEdge) (illegal : hallSector e.code = none) (stood : l.stood e.since (l.p 0x5100 g + 1000 * l.p 0x5103) = true) :
    ∃ y : Hall, ((l.hallBad g e).loopsLost).pos.hall = l.pos.hall.set g y ∧ y.code = e.code ∧ y.illTimes = recent l.now (sec 1) (l.hall g).illTimes ∧
      y.lost = ((l.hall g).lost || decide (3 ≤ (recent l.now (sec 1) (l.hall g).illTimes).length)) ∧ y.sector = (l.hall g).sector ∧ y.net = (l.hall g).net := by
  have loops (m : Lane) : m.loopsLost.pos = m.pos := ((Within.refl (ps := [.held, .le]) m).loopsLost).pos_eq
  have told (m : Lane) : Within [] m (m.eventU 0x5101) := (Within.refl m).eventU _
  rw [loops]
  unfold Lane.hallBad
  rw [if_neg (by simp [illegal, stood])]
  extract_lets h ts m
  by_cases third : 3 ≤ ts.length
  · rw [if_pos third]
    exact ⟨_, m.hallFault_hall g _ _ (congrArg Pos.hall (told _).pos_eq), rfl, rfl, by simp [third, ts, h], rfl, rfl⟩
  · rw [if_neg third, (told _).pos_eq]
    exact ⟨_, rfl, rfl, rfl, by simp [third, h, ts], rfl, rfl⟩

/-- An edge of one input of an incremental encoder. -/
theorem Lane.encEdge_steps (l : Lane) (k : Nat) (x y : PinLvl) :
    let e := l.enc k
    let u := if l.stood x.since (l.p 0x5111 k) then x.lvl else e.a
    let v := if l.stood y.since (l.p 0x5111 k) then y.lvl else e.b
    let d := (quadPhase u v + 4 - quadPhase e.a e.b) % 4
    (d = 0 → l.encEdge k x y = l) ∧ (d = 1 ∨ d = 3 →
      (l.encEdge k x y).pos.enc = l.pos.enc.set k { e with a := u, b := v, count := s32 (e.count + if d = 1 then 1 else -1), fwd := d == 1, lastT := if u = e.a then y.since else x.since }) := by
  intro e u v d
  unfold Lane.encEdge
  extract_lets
  refine ⟨fun still => if_pos (by simpa using still), fun step => ?_⟩
  have moves : d ≠ 0 ∧ d ≠ 2 := by omega
  have alone : (if u != e.a then x.since else y.since) = if u = e.a then y.since else x.since := by
    by_cases same : u = e.a <;> simp [same]
  rw [if_neg (by simpa using moves.1), if_neg (by simpa using moves.2), Lane.inputs_enc (Lane.cmpSource_inputs _ _ _ _)]
  show l.pos.enc.set k { e with a := u, b := v, count := s32 (e.count + if (d == 1) = true then 1 else -1), fwd := d == 1, lastT := if (u != e.a) = true then x.since else y.since } = _
  rw [alone]
  simp only [beq_iff_eq]

/-- The first Z edge since the slot enable in mode 2. -/
theorem Lane.encZ_zeroes (l : Lane) (k : Nat) (mode : l.p 0x5112 k = 2) (first : (l.enc k).zFirst = true) :
    ∃ y : Enc, (l.encZ k).pos.enc = l.pos.enc.set k y ∧ y.count = 0 ∧ y.zCap = some (0, (l.enc k).fwd) ∧ y.zFirst = false ∧ y.a = (l.enc k).a ∧ y.b = (l.enc k).b ∧
      y.fwd = (l.enc k).fwd ∧ y.lastT = (l.enc k).lastT := by
  unfold Lane.encZ
  extract_lets e m quad judged turn bad n zero c o q
  have on : zero = true := by simp [zero, m, mode, e, first]
  have told : Within [] o q := .ite ((Within.refl o).eventU _) (.refl o)
  rw [if_neg (by simp [m, mode]), if_pos on, Lane.inputs_enc (q.cmpJump_inputs _ _), told.pos_eq]
  refine ⟨_, rfl, ?_, ?_, ?_, rfl, rfl, rfl, rfl⟩
  · exact if_pos on
  · exact congrArg (fun c => some (c, e.fwd)) (if_pos on)
  · simp [on]

/-- Settles O19. -/
theorem hallsAndEncoders : Obligations.HallsAndEncoders := by
  refine ⟨fun s a g x e => ?_, fun s a k x y => ?_⟩
  · intro l h known code
    refine ⟨fun sector stood legal range near => ?_, fun short => ?_, fun illegal stood => ?_, fun t last due => ?_⟩
    · exact next_of_eq rfl (by simp [known, code]) rfl (l.hallMove_steps g x e sector stood legal range near)
    · have still : l.hallMove g e = l := if_pos (by simp [short])
      exact next_of_eq rfl (by simp [known, code]) still (reports_wired _ _)
    · have counts := l.hallBad_counts g e illegal stood
      generalize result : (l.hallBad g e).loopsLost = m at counts
      exact next_of_eq rfl (by simp [known, code]) result counts
    · refine next_of_eq (x := l.setHall g { h with stopped := true }) rfl (decide_eq_true known) ?_ (reports_wired _ _)
      have late : l.due (t + ms 100) = true := decide_eq_true due
      dsimp only
      split
      · next u seen =>
        obtain rfl : u = t := Option.some.inj (seen.symm.trans last)
        exact if_pos late
      · next none => cases none.symm.trans last
  · intro l e u v d known
    obtain ⟨still, steps⟩ := l.encEdge_steps k x y
    refine ⟨fun zero => ?_, fun one => ?_, fun mode first => ?_⟩
    · exact next_of_eq rfl (decide_eq_true known) (still zero) (reports_wired _ _)
    · exact next_of_eq rfl (decide_eq_true known) rfl (steps one)
    · refine next_of_eq rfl (decide_eq_true known) rfl (And.intro ?_ ?_)
      · exact l.encZ_zeroes k mode first
      · have frame : Within [.pos, .freeze] l ((l.encZ k).wired a.lane) := ((Within.refl l).encZ k).wired _
        exact frame

end Sys2Proof.Machine
end

section
/-! Serial ports, pass-through and frozen sources (R114 to R130), and the settlement of O20. -/

namespace Sys2Proof.Machine

set_option Elab.async false

/-! ### Serial ports (R118 to R125) -/

theorem Lane.setPp_update (l : Lane) (k : Nat) (x : PosPort) (f : PosPort → PosPort) : (l.setPp k x).setPp k (f ((l.setPp k x).pp k)) = l.setPp k (f x) := by
  have twice (y : PosPort) : (l.setPp k x).setPp k y = l.setPp k y := by simp [Lane.setPp]
  rw [twice]
  by_cases known : k < l.pos.pp.length
  · rw [show (l.setPp k x).pp k = x from getD_set_same _ _ _ _ known]
  · simp [Lane.setPp, List.set_eq_of_length_le (Nat.le_of_not_lt known)]

/-- What a reply that has just been judged teaches its port. -/
def PosPort.learnt (p : PosPort) (kpp bad : Bool) (f : PosFrame) (r : PosRead) : PosPort :=
  { p with errRun := if bad then p.errRun + 1 else 0, alive := if bad || !kpp then p.alive else some r.alive,
           data := if bad || !kpp then p.data else p.data.filter (fun x => x.1 != byteAt p.request 1 / 16) ++ [(byteAt p.request 1 / 16, ((f.bytes.filterMap (fun x => x)).drop 2).take 6)] }

theorem Lane.ppLearn_learns (l : Lane) (k : Nat) (x : PosPort) (f : PosFrame) (r : PosRead) (bad : Bool) :
    Within [] (l.setPp k (x.learnt (l.p 0x5120 k == 3 || l.p 0x5120 k == 6) bad f r)) ((l.setPp k x).ppLearn k f r bad) := by
  have learn := l.setPp_update k x fun p => p.learnt (l.p 0x5120 k == 3 || l.p 0x5120 k == 6) bad f r
  rw [← learn]
  unfold Lane.ppLearn
  extract_lets p mode kpp cmd data m n o
  have told : Within [] m o := by
    have bad : Within [] m n := .ite ((Within.refl m).eventU _) (.refl m)
    exact .ite (bad.eventU _) bad
  exact .ite (told.eventU _) told

/-- A checked reply. -/
theorem Lane.ppEnd_judges (l : Lane) (k : Nat) (f : PosFrame) (busy : (l.pp k).busy = true) (some_ : 0 < l.p 0x5120 k) (own : l.p 0x5120 k < 4) :
    let p := l.pp k
    let mode := l.p 0x5120 k
    let q := if mode = 1 then l.ssiRead k f p.trigAt else if mode = 2 then l.bissRead k f else l.kppRead k f p.request (p.trigAt + 1000)
    let j := l.ppJudge k q (p.trigAt + (if mode = 3 then 1000 else 0))
    ∃ y : PosPort, (l.ppEnd k f).pos.pp = l.pos.pp.set k y ∧ y.busy = false ∧ y.errRun = (if j.1 then p.errRun + 1 else 0) ∧ y.shown = p.shown ∧
      y.jobs = p.jobs.map (fun z => if z.trigAt == p.trigAt && !z.told then { z with res := some j.2, doneAt := l.now + 40 } else z) := by
  intro p mode q j
  have learn := l.ppLearn_learns k { p with busy := false, jobs := p.jobs.map (fun (x : PosJob) => if x.trigAt == p.trigAt && !x.told then { x with res := some j.2, doneAt := l.now + 40 } else x) } f q j.1
  unfold Lane.ppEnd
  rw [if_neg (by simp [busy]; omega)]
  simp only [beq_iff_eq]
  have inputs (m : Lane) : Lane.inputs (if j.1 = true then m else m.cmpSource (16 + k) j.2.cmpVal j.2.stamp) = m.inputs := by
    split
    · rfl
    · exact m.cmpSource_inputs ..
  refine ⟨_, (Lane.inputs_pp (inputs _)).trans (congrArg Pos.pp learn.pos_eq), rfl, rfl, rfl, ?_⟩
  simp only [Bool.and_eq_true, beq_iff_eq]
  rfl

/-- A port's record after it presents a result. -/
def PosPort.present (p : PosPort) (limit : Nat) (kpp : Bool) (r : PosRes) : PosPort :=
  let bad := !r.valid || r.err || r.stale
  let n := if bad then p.bad + 1 else 0
  let st := if r.stale then p.stale + 1 else 0
  { p with prevShown := if p.shown.valid && p.shown.stamp != r.stamp then p.shown else p.prevShown, shown := r, bad := n, stale := st,
           lost := (p.lost && bad) || decide (limit ≤ n), frozen := (p.frozen && bad) || (decide (2 ≤ st) && kpp) }

theorem Lane.ppSample_shows (l : Lane) (k : Nat) (r : PosRes) :
    Within [] (l.setPp k ((l.pp k).present (l.p 0x5128 k) (l.p 0x5120 k == 3) r)) (l.ppSample k r) := by
  unfold Lane.ppSample
  extract_lets p bad n st lost frz m o
  exact .ite (.event (.ite ((Within.refl m).eventU _) (.refl m)) ..) (.ite ((Within.refl m).eventU _) (.refl m))

theorem Lane.noSample_invalid (l : Lane) (k : Nat) (own : l.p 0x5120 k < 4) : (l.noSample k).valid = false := by
  have none : ∀ mode < 4, bit (posStat false false false false mode 0).toNat 31 = false := by decide
  exact none _ own

/-- At its presentation time a port shows the result of its oldest request, or an invalid one. -/
theorem Lane.ppPresent_shows (l : Lane) (k : Nat) (x : PosJob) (rest : List PosJob) (some_ : 0 < l.p 0x5120 k) (own : l.p 0x5120 k < 4) (jobs : (l.pp k).jobs = x :: rest)
    (due : x.trigAt + us (l.p 0x5126 k) ≤ l.now) :
    ∃ y : PosPort, (l.ppPresent k).pos.pp = l.pos.pp.set k y ∧ y.jobs = rest ∧ y.bad = (if !y.shown.valid || y.shown.err || y.shown.stale then (l.pp k).bad + 1 else 0) ∧
      (∀ r, x.res = some r → x.doneAt ≤ x.trigAt + us (l.p 0x5126 k) → y.shown = r) ∧
      (x.res = none ∨ x.trigAt + us (l.p 0x5126 k) < x.doneAt → y.shown.valid = false) := by
  have show_ (m : Lane) (told : Within [] (l.setPp k { l.pp k with jobs := rest }) m) (r : PosRes) :
      ∃ y : PosPort, (m.ppSample k r).pos.pp = l.pos.pp.set k y ∧ y.jobs = rest ∧ y.bad = (if !r.valid || r.err || r.stale then (l.pp k).bad + 1 else 0) ∧ y.shown = r := by
    have pp := congrArg Pos.pp ((m.ppSample_shows k r).pos_eq)
    have set := congrArg (fun m => m.pos.pp) (l.setPp_update k { l.pp k with jobs := rest } fun p => p.present (m.p 0x5128 k) (m.p 0x5120 k == 3) r)
    have before : m.pos = (l.setPp k { l.pp k with jobs := rest }).pos := told.pos_eq
    refine ⟨_, (pp.trans ?_).trans set, rfl, rfl, rfl⟩
    simp only [Lane.setPp, Lane.pp, before]
  have invalid (m : Lane) (told : Within [] (l.setPp k { l.pp k with jobs := rest }) m) : (m.noSample k).valid = false :=
    m.noSample_invalid k (by rwa [told.p_eq 0x5120 k])
  unfold Lane.ppPresent
  rw [if_neg (by simp; omega), jobs]
  dsimp only
  rw [if_neg (by simp [Lane.due, due])]
  split
  next r found =>
    obtain ⟨y, pp, jobs, bad, shown⟩ := show_ _ (.refl _) r
    split at found
    next inTime =>
      exact ⟨y, pp, jobs, shown ▸ bad, fun q res _ => shown.trans (Option.some.inj (found.symm.trans res)),
        fun h => (h.elim (fun none => by simp [found] at none) fun late => by omega)⟩
    next => cases found
  next missing =>
    have told : Within [] (l.setPp k { l.pp k with jobs := rest }) (if x.told then l.setPp k { l.pp k with jobs := rest } else (l.setPp k { l.pp k with jobs := rest }).eventU 0x5106) :=
      .ite (.refl _) ((Within.refl _).eventU _)
    obtain ⟨y, pp, jobs, bad, shown⟩ := show_ _ told ((l.setPp k { l.pp k with jobs := rest }).noSample k)
    refine ⟨y, pp, jobs, shown ▸ bad, fun q res inTime => ?_, fun _ => shown ▸ invalid _ (.refl _)⟩
    rw [if_pos inTime, res] at missing
    cases missing

/-! ### Pass-through (R124, R125) -/

theorem Lane.ptLost_loses (l : Lane) (k : Nat) (relayed : 4 ≤ l.p 0x5120 k) (there : (l.pp k).lost = false) (late : (l.pp k).ptAt + us (3 * l.p 0x5129 k) ≤ l.now) :
    Within [.held, .le] (l.setPp k { l.pp k with lost := true }) (l.ptLost k).loopsLost := by
  unfold Lane.ptLost
  dsimp only
  rw [if_neg (by simp [there, Lane.due, late]; omega)]
  exact ((Within.refl _).eventU _).loopsLost

/-- What a frame tells a port in pass-through rests on these four fields of its record alone. -/
theorem Lane.ptRead_setPp (l : Lane) (k : Nat) (f : PosFrame) (x : PosPort) (clk : x.lastClk = (l.pp k).lastClk) (shown : x.shown = (l.pp k).shown)
    (errRun : x.errRun = (l.pp k).errRun) (alive : x.alive = (l.pp k).alive) :
    (l.setPp k x).ptRead k f = l.ptRead k f ∧ ∀ r t, (l.setPp k x).ppJudge k r t = l.ppJudge k r t := by
  have keeps {β : Type} (g : PosPort → β) (same : g x = g (l.pp k)) : g ((l.setPp k x).pp k) = g (l.pp k) := getD_set_keeps g _ _ _ _ _ same
  constructor
  · have rested (t : Nat) : (l.setPp k x).ssiRested k t = l.ssiRested k t := by
      unfold Lane.ssiRested
      rw [keeps PosPort.lastClk clk]
      rfl
    unfold Lane.ptRead Lane.ssiHear
    simp only [rested]
    rfl
  · intro r t
    unfold Lane.ppJudge PosPort.advance
    dsimp only
    rw [keeps PosPort.alive alive, keeps PosPort.errRun errRun, keeps PosPort.shown shown]
    rfl

theorem Lane.ptFrame_keeps (l : Lane) (k : Nat) (f : PosFrame) (own : 4 ≤ l.p 0x5120 k) (on : relays l.st = true) (synced : l.p 0x5120 k = 6 → f.synced = true)
    (good : (l.ppJudge k (l.ptRead k f) f.first).1 = false) (found : (l.ptRead k f).pos.isSome = true) :
    ∃ y : PosPort, (l.ptFrame k f).pos.pp = l.pos.pp.set k y ∧
      (k < l.pos.pp.length → y.ptNew = true ∧ y.ptRes = (l.ppJudge k (l.ptRead k f) f.first).2 ∧ y.ptAt = l.now ∧ y.lost = false ∧ y.errRun = 0) := by
  unfold Lane.ptFrame
  extract_lets mode _ l₁ r j _ l₂ l₃
  rw [if_neg (by simp [mode, on]; exact ⟨own, synced⟩)]
  obtain ⟨read, judge, now, y₁, pp₁⟩ : l₁.ptRead k f = l.ptRead k f ∧ (∀ r t, l₁.ppJudge k r t = l.ppJudge k r t) ∧ l₁.now = l.now ∧ ∃ y, l₁.pos.pp = l.pos.pp.set k y := by
    unfold l₁
    split
    · obtain ⟨read, judge⟩ := l.ptRead_setPp k f { l.pp k with request := f.asked, relayed := f.passed.filterMap fun x => x } rfl rfl rfl rfl
      exact ⟨read, judge, rfl, _, rfl⟩
    · exact ⟨rfl, fun _ _ => rfl, rfl, l.pp k, (set_getD_self ..).symm⟩
  obtain ⟨now₂, y₂, pp₂⟩ : l₂.now = l₁.now ∧ ∃ y, l₂.pos.pp = l₁.pos.pp.set k y := by
    unfold l₂
    split
    · exact ⟨rfl, _, rfl⟩
    · exact ⟨rfl, l₁.pp k, (set_getD_self ..).symm⟩
  have same : j = l.ppJudge k (l.ptRead k f) f.first := by rw [← judge, ← read]
  rw [same, good, show r = l.ptRead k f from read, if_neg (by simp [← Option.isSome_iff_ne_none, found])]
  have learns := l₂.ppLearn_learns k (l₂.pp k) f (l.ptRead k f) false
  rw [show l₂.setPp k (l₂.pp k) = l₂ by rw [Lane.setPp, Lane.pp, set_getD_self]] at learns
  have same₃ : l₃ = l₂.ppLearn k f (l.ptRead k f) false := by unfold l₃; rw [same, good, show r = l.ptRead k f from read]
  have pp₃ : l₃.pos.pp = l₂.pos.pp.set k ((l₂.pp k).learnt _ false f (l.ptRead k f)) := same₃ ▸ (congrArg Pos.pp learns.pos_eq)
  have now₃ : l₃.now = l₂.now := same₃ ▸ learns.now_eq
  have known₃ (known : k < l.pos.pp.length) : l₃.pp k = (l₂.pp k).learnt (l₂.p 0x5120 k == 3 || l₂.p 0x5120 k == 6) false f (l.ptRead k f) := by
    rw [Lane.pp, pp₃]
    exact getD_set_same _ _ _ _ (by simpa [pp₂, pp₁] using known)
  refine ⟨{ l₃.pp k with ptNew := true, ptRes := (l.ppJudge k (l.ptRead k f) f.first).2, ptAt := l₃.now, lost := false }, (Lane.inputs_pp (Lane.cmpSource_inputs ..)).trans ?_,
    fun known => ⟨rfl, rfl, now₃.trans (now₂.trans now), rfl, ?_⟩⟩
  · exact (congrArg (fun pp : List PosPort => pp.set k _) pp₃).trans (by simp only [pp₂, pp₁, List.set_set]; rfl)
  · exact (congrArg PosPort.errRun (known₃ known))

/-! ### Sources that show no motion (R130) -/

theorem Lane.codeFrozen_steps (l : Lane) (c : Nat) :
    Within [.held, .le] (l.setFrz c { l.frz c with frozen := (l.frz c).frozen || ((l.frz c).since.any fun t => l.due (t + ms (l.frz c).win)) && (l.frz c).moved < (l.frz c).dmin }) (l.codeFrozen c) := by
  have same (x : Bool) (e : x = (l.frz c).frozen) : l.setFrz c { l.frz c with frozen := x } = l := by
    rw [e, Lane.setFrz, Lane.frz, set_getD_self]
  unfold Lane.codeFrozen
  dsimp only
  split
  next t since =>
    split
    next judged =>
      have judged : (!(l.frz c).frozen) = true ∧ l.due (t + ms (l.frz c).win) = true ∧ (l.frz c).moved < (l.frz c).dmin := by simpa [and_assoc] using judged
      obtain ⟨-, due, still⟩ := judged
      rw [since, show ((l.frz c).frozen || _) = true by simp [due, still]]
      exact ((Within.refl _).event ..).loopsLost
    next notJudged =>
      rw [same _ (by rw [since]; cases h : (l.frz c).frozen <;> simp_all)]
      exact .refl l
  next none =>
    rw [same _ (by simp [none])]
    exact .refl l

/-- Each source that a slot judges is frozen where it showed no motion through its window, and no other source changes. -/
theorem Lane.posFrozen_frozen (l : Lane) (k : Nat) :
    (∀ c < l.pos.freeze.length, c ∈ l.frzCodes k → ∀ t, (l.frz c).since = some t → t + ms (l.frz c).win ≤ l.now → (l.frz c).moved < (l.frz c).dmin →
      ((l.posFrozen k).frz c).frozen = true) ∧
    (∀ c, c ∉ l.frzCodes k → (l.posFrozen k).frz c = l.frz c) := by
  have frz (m : Lane) (d c : Nat) : (m.codeFrozen d).frz c = (m.setFrz d _).frz c := congrArg (fun xs : List Freeze => xs.getD c {}) (m.codeFrozen_steps d).freeze_eq
  constructor
  · intro c known mem t since late still
    refine (Lane.eachOf_reaches (P := fun m => (m.frz c).frozen = true) (Q := fun m => m.now = l.now ∧ c < m.pos.freeze.length ∧ ∃ b, m.frz c = { l.frz c with frozen := b })
      mem ?_ ?_ ?_ ⟨rfl, known, (l.frz c).frozen, rfl⟩)
    · rintro d m ⟨now, known, b, same⟩
      refine ⟨(m.codeFrozen_steps d).now_eq.trans now, ?_, ?_⟩
      · rw [(m.codeFrozen_steps d).freeze_eq]
        simpa [Lane.setFrz] using known
      · rw [frz]
        by_cases here : c = d
        · subst here
          exact ⟨_, (getD_set_same _ _ _ _ known).trans (by rw [same])⟩
        · exact ⟨b, (getD_set_ne _ _ _ _ _ here).trans same⟩
    · intro d m h
      rw [frz]
      by_cases here : c = d
      · subst here
        by_cases known : c < m.pos.freeze.length
        · rw [show (m.setFrz c _).frz c = _ from getD_set_same _ _ _ _ known]
          simp [h]
        · rwa [Lane.setFrz, List.set_eq_of_length_le (Nat.le_of_not_lt known)]
      · rwa [show (m.setFrz d _).frz c = _ from getD_set_ne _ _ _ _ _ here]
    · rintro m ⟨now, known, b, same⟩
      rw [frz, show (m.setFrz c _).frz c = _ from getD_set_same _ _ _ _ known]
      simp [same, since, Lane.due, now, late, still]
  · intro c other
    have walk (cs : List Nat) (m : Lane) (other : c ∉ cs) : (m.eachOf cs fun c l => l.codeFrozen c).frz c = m.frz c := by
      refine List.foldlRecOn (motive := fun n : Lane => n.frz c = m.frz c) cs _ rfl fun n same d mem => ?_
      rw [frz]
      exact (getD_set_ne _ _ _ _ _ (by rintro rfl; exact other mem)).trans same
    exact walk _ l other

theorem Within.position {l l' : Lane} (h : Within [.pos, .freeze] l l') : Reports { l with pos := l'.pos } l' := h
theorem Within.positionLoops {l l' : Lane} (h : Within [.pos, .freeze, .held, .le] l l') : Reports { l with pos := l'.pos, le := l'.le, held := l'.held } l' := h
theorem Within.freezeLoops {l l' : Lane} (h : Within [.freeze, .held, .le] l l') :
    Reports { l with pos := { l.pos with freeze := l'.pos.freeze }, le := l'.le, held := l'.held } l' := h

/-- Settles O20: a port's reply, its presentation and its relayed frames, each as a change of that port's record; the judged sources one by one. -/
theorem serialPositions : Obligations.SerialPositions := by
  unfold Obligations.SerialPositions
  refine ⟨?_, ?_⟩
  · intro s a k f x rest r l p mode due known some_ own
    refine ⟨fun busy => ?_, fun jobs late => ?_⟩
    · have facts := l.ppEnd_judges k f busy some_ own
      refine next_of_eq rfl (by simp [known]) rfl ?_
      exact facts
    · have facts := l.ppPresent_shows k x rest some_ own jobs late
      have frame : Within [.pos, .freeze] l (l.ppPresent k) := (Within.refl l).ppPresent k
      obtain ⟨y, pp, jobs, bad, shown, invalid⟩ := facts
      refine next_of_eq rfl (by simp [known]) rfl ?_
      exact ⟨y, pp, jobs, bad, shown r, invalid, (frame.wired a.lane).position⟩
  · intro s a k f l p q j
    refine ⟨fun known own on synced good found => ?_, fun known own there late => ?_, fun known => ?_⟩
    · have facts := l.ptFrame_keeps k f own on synced good found
      exact next_of_eq rfl (by simp [known]) rfl facts
    · have loses := l.ptLost_loses k own there late
      have frame : Within [.pos, .freeze, .held, .le] l (l.ptLost k).loopsLost := ((Within.refl l).ptLost k).loopsLost
      have pos := loses.pos_eq
      generalize result : (l.ptLost k).loopsLost = m at frame pos
      exact next_of_eq rfl (by simp [known]) result ⟨pos, (frame.wired a.lane).positionLoops⟩
    · obtain ⟨frozen, others⟩ := l.posFrozen_frozen k
      have frame : Within [.freeze, .held, .le] l (l.posFrozen k) := (Within.refl l).posFrozen k
      refine next_of_eq rfl (by simp [known]) rfl ⟨frozen, others, ?_⟩
      exact (frame.wired a.lane).freezeLoops

end Sys2Proof.Machine
end

section
/-! The motor commands of the host (R134, R137, R152), and the settlement of O21. -/

namespace Sys2Proof.Machine

set_option Elab.async false

/-- An enabled slot: its record as the enable command leaves it. -/
def Lane.enabledSlot (l : Lane) (k : Nat) : MotSlot :=
  { cfg := (l.motor k).cfg, enabled := true, laneSafe := true, short := (l.motor k).short, ov2 := (l.motor k).ov2, windFault := (l.motor k).windFault,
    angleSrc := l.p 0x6110 k, angleDev := l.p 0x6111 k, omega := (l.motor k).omega, speedOk := (l.motor k).speedOk, lastW := (l.motor k).lastW, holdAt := none }

/-- Of the motor slots an enable command changes the named one alone. -/
theorem Lane.slotEnable_mot (l : Lane) (k : Nat) : (l.slotEnable k).mot = (l.setMotor k (l.enabledSlot k)).mot := by
  unfold Lane.slotEnable
  extract_lets m integ slow l₁ dev src l₂ l₃ _ l₄ js l₅
  have gates : Within [.gd, .halfBridges] l l₁ := by
    refine (Within.refl l).eachOf _ fun h n hn => ?_
    split
    · exact ((hn.codesStart _).codesStart _).setHb ..
    · exact hn
  have slot : l₂.mot = (l.setMotor k (l.enabledSlot k)).mot := by
    simp only [l₂, Lane.setMotor, gates.mot_eq, dev, src, gates.p_eq 0x6110 k, gates.p_eq 0x6111 k]
    rfl
  have sources : Within [.pos, .freeze] l₂ l₃ := (Within.refl l₂).eachOf _ fun c n hn => hn.srcFresh c
  have stepper : Within [.mp] l₃ l₄ := (Within.refl l₃).setStepper ..
  have loops : Within [.le] l₄ l₅ := (Within.refl l₄).eachOf _ fun j n hn => hn.loopEnable j
  have same : l₅.mot = l₂.mot := loops.mot_eq.trans (stepper.mot_eq.trans sources.mot_eq)
  refine Eq.trans ?_ (same.trans slot)
  split
  · split
    · exact ((Within.refl l₅).fnClose _ : Within [.le] l₅ _).mot_eq
    · rfl
  · rfl

theorem Lane.setMotor_of {l m : Lane} (same : m.mot = l.mot) (k : Nat) (x : MotSlot) : (m.setMotor k x).mot = (l.setMotor k x).mot := by
  rw [Lane.setMotor, same]
  rfl

/-- Of two writes of one record the later one stands. -/
theorem Lane.setMotor_over {l m : Lane} {k : Nat} {y : MotSlot} (set : m.mot = (l.setMotor k y).mot) (x : MotSlot) : (m.setMotor k x).mot = (l.setMotor k x).mot := by
  simp [Lane.setMotor, set]

/-- What holds of a record that is set, and of the record of a slot that does not exist, holds of the slot after it. -/
theorem Lane.motor_set {l m : Lane} {k : Nat} {x : MotSlot} (set : m.mot = (l.setMotor k x).mot) {P : MotSlot → Prop} (here : P x) (none : P {}) : P (m.motor k) := by
  have same : m.motor k = (l.setMotor k x).motor k := congrArg (fun m : Mot => m.slot.getD k {}) set
  rw [same]
  by_cases known : k < l.mot.slot.length
  · rwa [l.motor_setMotor k x known]
  · have len : (l.setMotor k x).mot.slot.length ≤ k := by simpa [Lane.setMotor] using Nat.le_of_not_lt known
    rwa [Lane.motor, List.getD_eq_default _ _ len]

/-- A slot that takes its lane-safe state. -/
theorem Lane.takeSafe_mot (l : Lane) (k : Nat) :
    ∃ y : MotSlot, (l.takeSafe k).mot = (l.setMotor k y).mot ∧ y.enabled = (l.motor k).enabled ∧ y.fly = (l.motor k).fly ∧ y.blend = (l.motor k).blend ∧
      ((l.motor k).cfg.kind ≠ .none → y.laneSafe = true) := by
  unfold Lane.takeSafe
  dsimp only
  split
  next none =>
    exact ⟨l.motor k, congrArg (fun xs => { l.mot with slot := xs }) (set_getD_self ..).symm, rfl, rfl, rfl, fun own => absurd (by simpa using none) own⟩
  next =>
    have stands : Within [.held, .mp] l ((if (l.motor k).laneSafe then l else l.releaseOf [0x6150] k).stepStand k) :=
      Within.stepStand (.ite (.refl l) ((Within.refl l).releaseOf ..)) k
    exact ⟨{ l.motor k with laneSafe := true, short := l.safeShort k, holdAt := if (l.motor k).cfg.kind == .stepper then (if (l.motor k).laneSafe then (l.motor k).holdAt else some l.now) else none },
      Lane.setMotor_of stands.mot_eq k _, rfl, rfl, rfl, fun _ => rfl⟩

/-- Of the motor slots a disable command changes the named one alone. -/
theorem Lane.slotDisable_mot (l : Lane) (k : Nat) :
    ∃ y : MotSlot, (l.slotDisable k).mot = (l.setMotor k y).mot ∧ y.enabled = false ∧ y.fly = .none ∧ y.blend = none ∧ y.tail = (l.slotAct k == .run) ∧
      ((l.motor k).cfg.kind ≠ .none → k < l.mot.slot.length → y.laneSafe = true) := by
  unfold Lane.slotDisable
  extract_lets m tail l₁ l₂ l₃ _ l₄ l₅ l₆
  have loops : Within [.le, .ports] l l₁ := (Within.refl l).eachOf _ fun j n hn => hn.loopDisable j
  have stream : Within [.le, .ports] l l₂ := loops.streamFlush _
  have gens : Within [.le, .ports, .mp] l l₃ := by
    have before : Within [.le, .ports, .mp] l l₂ := stream.mono (by decide)
    unfold l₃
    split
    · exact (before.genHalt ..).streamFlush _
    · exact before
  have mot₄ : l₄.mot = (l.setMotor k { l.motor k with enabled := false, syncLost := false, fly := .none, blend := none, probe := none }).mot := by
    rw [← Lane.setMotor_of gens.mot_eq]
    simp only [l₄, ← show l₃.motor k = l.motor k from congrArg (fun m : Mot => m.slot.getD k {}) gens.mot_eq]
    rfl
  obtain ⟨y, mot₅, on, fly, blend, safe⟩ := l₄.takeSafe_mot k
  obtain ⟨off₄, fly₄, blend₄⟩ : (l₄.motor k).enabled = false ∧ (l₄.motor k).fly = .none ∧ (l₄.motor k).blend = none :=
    Lane.motor_set mot₄ (P := fun x => x.enabled = false ∧ x.fly = .none ∧ x.blend = none) ⟨rfl, rfl, rfl⟩ ⟨rfl, rfl, rfl⟩
  have mot₆ : l₆.mot = (l.setMotor k y).mot := by
    have carry : Within [.channels] l₅ l₆ := (Within.refl l₅).eachOf _ fun c n hn => hn.setPch ..
    exact carry.mot_eq.trans (mot₅.trans (Lane.setMotor_over mot₄ y))
  obtain ⟨off₆, fly₆, blend₆⟩ : (l₆.motor k).enabled = false ∧ (l₆.motor k).fly = .none ∧ (l₆.motor k).blend = none :=
    Lane.motor_set mot₆ (P := fun x => x.enabled = false ∧ x.fly = .none ∧ x.blend = none) ⟨on.trans off₄, fly.trans fly₄, blend.trans blend₄⟩ ⟨rfl, rfl, rfl⟩
  refine ⟨{ l₆.motor k with tail := tail }, Lane.setMotor_over mot₆ _, off₆, fly₆, blend₆, rfl, fun own known => ?_⟩
  have same₄ : l₄.motor k = _ := (congrArg (fun m : Mot => m.slot.getD k {}) mot₄).trans (l.motor_setMotor k _ known)
  have same₆ : l₆.motor k = y := (congrArg (fun m : Mot => m.slot.getD k {}) mot₆).trans (l.motor_setMotor k _ known)
  exact (congrArg MotSlot.laneSafe same₆).trans (safe (by rw [same₄]; exact own))

/-- Settles O21: the records of the motor slots after an enable and a disable command; the other commands answer at once. -/
theorem motorSlots : Obligations.MotorSlots := by
  intro s a m k
  refine ⟨?_, ?_, ?_, ?_⟩
  · intro l x ready known
    refine ⟨fun on tested awake kind ok raw off => ?_, fun off on => ?_⟩
    · have idle : Within [.pwr] l l.idleToRun := (Within.refl l).idleToRun
      have motor (i : Nat) : l.idleToRun.motor i = l.motor i := congrArg (fun m : Mot => m.slot.getD i {}) idle.mot_eq
      have mot := l.idleToRun.slotEnable_mot k
      have frame : Within [.gd, .halfBridges, .pos, .freeze, .mot, .slots, .le, .mp] l.idleToRun (l.idleToRun.slotEnable k) := (Within.refl _).slotEnable k
      refine answers_guarded rfl ready (Lane.hMotEnable.eq_def ..) (List.forall_mem_cons.mpr ⟨?_, List.forall_mem_cons.mpr ⟨?_, List.forall_mem_cons.mpr ⟨?_, by simp⟩⟩⟩)
        (x := l.idleToRun.slotEnable k) ?_ ⟨?_, frame⟩
      · exact (Bool.and_eq_false_imp.mpr fun _ => tested)
      · exact (Bool.and_eq_false_imp.mpr fun _ => (by simp only [Bool.or_eq_false_iff, beq_eq_false_iff_ne]; exact ⟨awake, kind⟩))
      · have there : ¬ 8 ≤ m.u8 0 := by omega
        have bits : ¬ 1 < m.u8 1 := by omega
        have raw : (l.p 0x3114 (l.slotTb k) == 2 && !l.rawOk (l.slotTb k)) = false := by
          rcases raw with other | raw <;> simp [*]
        have ready : (!l.motOk k || (l.p 0x3114 (l.slotTb k) == 2 && !l.rawOk (l.slotTb k))) = false := by rw [ok, raw]; rfl
        simp only [there, bits, decide_false, Bool.false_or]
        exact Bool.and_eq_false_imp.mpr fun _ => ready
      · rw [if_pos (by exact beq_iff_eq.mpr on), if_neg (by simpa using off)]
        rfl
      · rw [mot]
        simp only [Lane.setMotor, Lane.enabledSlot, motor, idle.mot_eq, idle.p_eq 0x6110 k, idle.p_eq 0x6111 k]
        rfl
    · obtain ⟨y, facts⟩ := l.slotDisable_mot k
      refine answers_guarded rfl ready (Lane.hMotEnable.eq_def ..) ?_ (x := l.slotDisable k) ?_ ⟨y, facts⟩
      · have there : ¬ 8 ≤ m.u8 0 := by omega
        simp [off, there]
      · rw [if_neg (by simp [off]), if_pos (by exact on)]
        rfl
  · intro l x ready known
    refine answers_guarded rfl ready (Lane.hMotStatus.eq_def ..) ?_ rfl rfl
    simp [known, k]
  · intro l t ws ready one four free blk next
    refine answers_guarded rfl ready (Lane.hMotTableLoad.eq_def ..) ?_ (x := l.setTable (k - 1) { t with nextBlk := m.u8 1 + 1, loading := (if m.u8 1 = 0 then [] else t.loading) ++ ws }) ?_ rfl
    · have there : ¬ 4 < m.u8 0 ∧ ¬ m.u8 0 < 1 ∧ ¬ 15 < m.u8 1 := by omega
      simp only [List.forall_mem_cons, there, decide_false, Bool.or_false, show ((s.laneAt a).taken 0x22 m).tabInUse (m.u8 0) = false from free, Bool.and_false]
      simp
    · have mid : ¬ m.u8 1 = 15 := by omega
      have follows : ¬ ((m.u8 1 != 0 && m.u8 1 != (l.table (m.u8 0 - 1)).nextBlk) = true) := by
        rcases next with first | next
        · simp [first]
        · simp [next, t, k]
      have loads : (if m.u8 1 = 0 then ws else t.loading ++ ws) = (if m.u8 1 = 0 then [] else t.loading) ++ ws := by split <;> rfl
      rw [← loads]
      dsimp only
      rw [if_neg follows, if_neg (by simpa using mid)]
      simp only [beq_iff_eq]
      rfl
  · intro l x ready known on clear kind fits
    refine answers_guarded rfl ready (Lane.hMotAngleSrcSet.eq_def ..) ?_ rfl rfl
    simp [known, on, clear, kind, fits, l, k, x] 

end Sys2Proof.Machine
end

section
/-! The end of a fallback's ramp, and the settlement of O22. -/

namespace Sys2Proof.Machine

set_option Elab.async false

/-- A lane whose current loop 0 stands in FALLBACK and serves motor slot 0, a stepper that is not in its lane-safe state and whose step generator has run 5 microsteps. -/
def stepperInFallback : Lane :=
  { up .shadow with
    le.slot := (List.replicate 32 {}).set 0 { st := .fallback }, params := [⟨0x7100, 0, [1]⟩],
    mot.slot := (List.replicate 8 {}).set 0 { cfg := { kind := .stepper }, laneSafe := false }, mp.sg := (List.replicate 4 {}).set 0 { m := 5 } }

/-- The microstep at which the stepper of slot 0 of lane A stands. -/
def standsAt : Out → Nat
  | .next s => (s.a.stepper 0).holdM.toNat
  | _ => 0

/-- Refutes O22: a stepper that the ramp's end puts into its lane-safe state stands at its present microstep and its generator stops (R196), and these records are none of those that the last clause lets change. -/
theorem not_loopEngine : ¬ Obligations.LoopEngine := by
  unfold Obligations.LoopEngine
  rintro ⟨-, engine⟩
  obtain ⟨-, ramp⟩ := engine (on stepperInFallback) at0 0 0 []
  obtain ⟨l', ends, -, frame⟩ := ramp (by decide) (by decide +kernel) (by decide +kernel) (by decide +kernel)
  have stands : standsAt (exec (.fallbackRampEnd at0 0) (on stepperInFallback)) = 5 := by decide +kernel
  have mp : l'.mp = stepperInFallback.mp := (congrArg Lane.mp frame :)
  rw [ends] at stands
  have before : (l'.stepper 0).holdM = 0 := by
    rw [Lane.stepper, mp]
    rfl
  exact absurd (show (l'.stepper 0).holdM.toNat = 5 from stands) (by rw [before]; decide)

end Sys2Proof.Machine
end

section
/-! The profile commands of the host (R186, R187, R189, R197), and the settlement of O23. -/

namespace Sys2Proof.Machine

set_option Elab.async false

/-- None of two conditions of refusal applies. -/
theorem free_two {b c : Bool} {p q : Nat} (hb : b = false) (hc : c = false) : ∀ x ∈ [(b, p), (c, q)], x.1 = false := by simp [hb, hc]

theorem any_false_of {α : Type} {xs : List α} {p : α → Bool} (h : ∀ x ∈ xs, p x = false) : xs.any p = false := List.any_eq_false.mpr fun x hx => by simp [h x hx]

/-- Settles O23. -/
theorem profileCommands : Obligations.ProfileCommands := by
  intro s a m g start
  refine ⟨?_, ?_, ?_, ?_⟩
  · intro l t ready known mode awake rests stream referenced within_ period
    refine answers_guarded rfl ready (Lane.hMpMove.eq_def ..) (free_two ?_ ?_) rfl rfl
    · have busy : ((l.gen g).st == .stream && !(l.gen g).leaving) = false := by
        cases h : ((l.gen g).st == .stream)
        · rfl
        · simp [stream (by simpa using h)]
      have placed : (m.u8 1 == 0 && (l.genSteppers g).any fun k => !(l.stepper k).referenced) = false :=
        Bool.and_eq_false_imp.mpr fun zero => any_false_of fun k hk => by simp [referenced (by simpa using zero) k hk]
      have free : (l.entering || (l.gen g).refers || ((l.gen g).st == .stream && !(l.gen g).leaving) || (m.u8 1 == 0 && (l.genSteppers g).any fun k => !(l.stepper k).referenced)) = false := by
        rw [awake, rests, busy, placed]; rfl
      exact Bool.and_eq_false_imp.mpr fun _ => free
    · have there : ¬ 8 ≤ m.u8 0 ∧ ¬ 2 < m.u8 1 := by omega
      have out : (m.u8 1 < 2 && (dlt t (dofF (l.pf 0x8107 g)) || dlt (dofF (l.pf 0x8108 g)) t)) = false :=
        Bool.and_eq_false_imp.mpr fun two => by simp [within_ (by simpa using two)]
      have stepped : (((l.genSteppers g).any fun k => l.p 0x8140 k != 0) && m.u32 8 == 0) = false := by
        cases h : (m.u32 8 == 0)
        · simp
        · simp only [Bool.and_true]
          exact any_false_of fun k hk => by simp [period (by simpa using h) k hk]
      simp only [there, decide_false, Bool.false_or, Bool.or_eq_false_iff]
      refine ⟨?_, stepped⟩
      simpa only [t, beq_iff_eq] using out
  · intro l ready known kind
    refine answers_guarded rfl ready (Lane.hMpStop.eq_def ..) ?_ rfl rfl
    have there : ¬ 8 ≤ m.u8 0 ∧ ¬ 1 < m.u8 1 := by omega
    simp [there]
  · intro l ready known kind awake rests
    refine answers_guarded rfl ready (Lane.hMpSourceSet.eq_def ..) (free_two ?_ ?_) rfl rfl
    · have free : ((l.entering && m.u8 1 == 1) || (l.gen g).refers) = false := by
        rw [rests]
        rcases awake with awake | zero <;> simp [*]
      exact Bool.and_eq_false_imp.mpr fun _ => free
    · have there : ¬ 8 ≤ m.u8 0 ∧ ¬ 1 < m.u8 1 := by omega
      simp [there]
  · intro l ready known awake on r serves rests enc fits slow
    have gen : (l.refGen (m.u8 0)).getD 0 = r := by rw [serves]; rfl
    refine answers_guarded rfl ready (Lane.hMpReference.eq_def ..) (free_two ?_ ?_) rfl ?_
    · have lost : (l.p 0x8130 (m.u8 0) == 0 && l.p 0x8120 (m.u8 0) != 0xFF && l.encGone (m.u8 0)) = false := by
        rcases enc with h | h | h <;> simp [h]
      refine Bool.and_eq_false_imp.mpr fun _ => ?_
      change (l.entering || !(l.motor (m.u8 0)).enabled || ((l.refGen (m.u8 0)).isSome && !(l.gen ((l.refGen (m.u8 0)).getD 0)).rests) || _) = false
      rw [awake, on, gen, rests, serves]
      exact lost
    · have there : ¬ 8 ≤ m.u8 0 := by omega
      change (decide (8 ≤ m.u8 0) || (l.refGen (m.u8 0)).isNone || !l.refFits (m.u8 0) || fgt (l.pf 0x8132 (m.u8 0)) (l.pf 0x8102 ((l.refGen (m.u8 0)).getD 0))) = false
      rw [gen, fits, slow, serves]
      simp [there]
    · exact congrArg (fun r => { l.genPush r (.reference (m.u8 0) (l.refSpeed r (m.u8 0))) (some (m.key 0x53)) with mb.accepted := l.mb.accepted ++ [m.key 0x53] }) gen

end Sys2Proof.Machine
end

section
/-! Ticks of a move, steppers, references, flying start and source blends (R151, R152, R185, R194 to R199), and the settlement of O24. -/

namespace Sys2Proof.Machine

set_option Elab.async false

/-! ### A tick of a move (R184 to R186) -/

theorem Lane.setGen_update (l : Lane) (g : Nat) (x : Gen) (f : Gen → Gen) : (l.setGen g x).setGen g (f ((l.setGen g x).gen g)) = l.setGen g (f x) := by
  have twice (y : Gen) : (l.setGen g x).setGen g y = l.setGen g y := by simp [Lane.setGen]
  rw [twice]
  by_cases known : g < l.mp.gen.length
  · rw [l.gen_setGen g x known]
  · simp [Lane.setGen, List.set_eq_of_length_le (Nat.le_of_not_lt known)]

theorem Within.setGen_both {l m : Lane} (h : Within [] l m) (g : Nat) (x : Gen) : Within [] (l.setGen g x) (m.setGen g x) := by
  have same : m = l.blend [] m := h
  rw [same]
  rfl

/-- A generator whose command is complete. -/
theorem Lane.genDone_ends {l m : Lane} {g : Nat} {x : Gen} (h : Within [] (l.setGen g x) m) (known : g < l.mp.gen.length) (status : Nat) :
    Within [] (l.setGen g { x with active := none }) (m.genDone g status) := by
  have here : m.gen g = x := (congrArg (fun mp : Mp => mp.gen.getD g {}) h.mp_eq).trans (l.gen_setGen g x known)
  have set := h.setGen_both g { x with active := none }
  rw [show (l.setGen g x).setGen g { x with active := none } = l.setGen g { x with active := none } from l.setGen_update g x fun _ => { x with active := none }] at set
  unfold Lane.genDone
  rw [here]
  exact set.completeOpt ..

/-- Of two writes of one generator the later one stands. -/
theorem Lane.setGen_over {l m : Lane} {g : Nat} {y : Gen} (set : m.mp.gen = l.mp.gen.set g y) (x : Gen) : (m.setGen g x).mp.gen = l.mp.gen.set g x :=
  (congrArg (fun xs : List Gen => xs.set g x) set).trans (List.set_set ..)

/-- A tick inside a move keeps what the move is; at the end of its last phase a position move stands on its target. -/
theorem Gen.tick_moving (x : Gen) (t : W64) (moving : x.st = .moving) (mode : x.mode < 2) (runs : x.ph < 7) :
    (x.tick t).st = .moving ∧ (x.tick t).mode = x.mode ∧ (7 ≤ (x.tick t).ph → x.tick t = { x.tick t with p := x.target, v := 0, a := 0 }) := by
  have inside : ¬ 7 ≤ x.ph := by omega
  have other : ¬ x.mode = 2 := by omega
  unfold Gen.tick
  rw [if_neg inside]
  dsimp only
  have step : (x.integrate t).st = .moving ∧ (x.integrate t).mode = x.mode ∧ (x.integrate t).target = x.target := by
    unfold Gen.integrate
    rw [if_neg inside]
    exact ⟨moving, rfl, rfl⟩
  obtain ⟨st, same, target⟩ := step
  split
  · exact ⟨st, same, fun _ => by omega⟩
  · rw [st]
    simp only [same, beq_iff_eq, other, if_false, target, and_self, implies_true]

theorem Lane.profileTick_moves (l : Lane) (g : Nat) (runs : l.pwm.halted = false) (empty : (l.gen g).cmds = []) (moving : (l.gen g).st = .moving) (mode : (l.gen g).mode < 2)
    (phase : (l.gen g).ph < 7) (free : l.genSteppers g = []) :
    let y := (l.gen g).tick (l.lim g).t
    Within [] (l.setGen g (if y.ph < 7 then y else { y with p := (l.gen g).target, v := 0, a := 0, st := .idle, active := none })) (l.profileTick g) := by
  intro y
  obtain ⟨st, same, ends⟩ := (l.gen g).tick_moving (l.lim g).t moving mode phase
  have other : ¬ (l.gen g).mode = 2 := by omega
  have idle : l.setGen g { l.gen g with cmds := [] } = l := by
    rw [← empty]
    exact congrArg (fun xs => { l with mp := { l.mp with gen := xs } }) (set_getD_self ..)
  have known : g < l.mp.gen.length := by
    by_contra far
    rw [Lane.gen, List.getD_eq_default _ _ (Nat.le_of_not_lt far)] at moving
    cases moving
  have here : (l.setGen g y).gen g = y := l.gen_setGen g y known
  have cmds : l.genCmds g (l.gen g).cmds [] = l := by rw [empty, Lane.genCmds, idle]
  have calm : l.softCheck g = l := by
    unfold Lane.softCheck
    dsimp only
    rw [if_pos (by simp [other])]
  have ticks : l.profileTick g = (l.setGen g y).genEnd g (l.gen g).ph := by
    unfold Lane.profileTick
    rw [if_neg (by simp [runs]), free]
    dsimp only [Lane.eachOf, List.foldl_nil]
    rw [cmds, calm, moving]
    dsimp only
    rw [show (l.setGen g ((l.gen g).tick (l.lim g).t)).gen g = y from here, if_neg (by rw [show y.st = _ from st]; decide)]
    have none : (((l.setGen g y).genEnd g (l.gen g).ph)).genSteppers g = [] := by
      have frame : Within [.mp] l ((l.setGen g y).genEnd g (l.gen g).ph) := ((Within.refl l).setGen ..).genEnd ..
      rw [← free]
      simp only [Lane.genSteppers, Lane.stepSlots, Lane.motor, frame.mot_eq, fun k => frame.p_eq 0x8110 k]
    rw [none]
    rfl
  rw [ticks, Lane.genEnd]
  dsimp only
  rw [here]
  by_cases inside : y.ph < 7
  · rw [if_pos inside, if_pos (by simp [inside])]
    exact .refl _
  · rw [if_neg inside, if_neg (by simp [inside]; omega), show y.st = _ from st]
    dsimp only
    rw [if_neg (by rw [show y.mode = _ from same]; simpa using other)]
    have twice : (l.setGen g y).setGen g { y with st := .idle } = l.setGen g { y with st := .idle } := l.setGen_update g y fun _ => { y with st := .idle }
    rw [twice]
    have done := Lane.genDone_ends ((Within.refl (l.setGen g { y with st := .idle })).eventU 0x8101) known stDone
    rw [show y = { y with p := (l.gen g).target, v := 0, a := 0 } from ends (Nat.le_of_not_lt inside)] at done ⊢
    exact done

/-! ### Steppers (R194, R196) -/

theorem Lane.setStepper_of {l m : Lane} (same : m.mp = l.mp) (k : Nat) (x : Stepper) : (m.setStepper k x).mp = (l.setStepper k x).mp := by
  rw [Lane.setStepper, same]
  rfl

theorem Lane.stepStage_runs (l : Lane) (k i h1 h2 h3 h4 : Nat) (own : (l.motor k).cfg.hbs = [h1, h2, h3, h4]) (serves : l.sgOf k = some i) (on : (l.stepper k).off = false)
    (runs : l.pwm.halted = false) :
    ∃ b, (l.stepStage k).mp = (l.setStepper k { l.stepper k with current := l.stepCurrent k, satTold := b }).mp := by
  unfold Lane.stepStage
  extract_lets m s
  split
  next =>
    rw [if_neg (by simp [runs, s, on])]
    extract_lets y w vp vq raw av lead m16 n sc va vbb l₁ l₂ l₃ l₄
    have shadows : Within [.pwm, .channels] l l₁ := (((((Within.refl l).shadowWrite ..).shadowWrite ..).shadowWrite ..).shadowWrite ..)
    have told : Within [] l₂ l₃ := .ite ((Within.refl l₂).eventU _) (.refl l₂)
    have frozen : Within [.freeze] l₃ l₄ := (Within.refl l₃).frzSample ..
    have burst : Within [.pwm] l₄ (l₄.burstDone (l₄.slotTb k) l₄.now) := (Within.refl l₄).burstDone ..
    exact ⟨_, burst.mp_eq.trans (frozen.mp_eq.trans (told.mp_eq.trans (Lane.setStepper_of shadows.mp_eq k _)))⟩
  next other => exact (other h1 h2 h3 h4 i own serves).elim

theorem Lane.setStepper_update (l : Lane) (k : Nat) (x : Stepper) (f : Stepper → Stepper) : (l.setStepper k x).setStepper k (f ((l.setStepper k x).stepper k)) = l.setStepper k (f x) := by
  have twice (y : Stepper) : (l.setStepper k x).setStepper k y = l.setStepper k y := by simp [Lane.setStepper]
  rw [twice]
  by_cases known : k < l.mp.stp.length
  · rw [show (l.setStepper k x).stepper k = x from getD_set_same _ _ _ _ known]
  · simp [Lane.setStepper, List.set_eq_of_length_le (Nat.le_of_not_lt known)]

theorem Lane.stepOff_ends (l : Lane) (k : Nat) (own : (l.motor k).cfg.kind = .stepper) :
    Within [] (l.setStepper k { l.stepper k with referenced := (l.stepper k).referenced && l.p 0x811A k != 0 }) (l.stepOff k) := by
  have same (b : Bool) (e : b = (l.stepper k).referenced) : l.setStepper k { l.stepper k with referenced := b } = l := by
    rw [e]
    exact congrArg (fun xs => { l with mp := { l.mp with stp := xs } }) (set_getD_self ..)
  unfold Lane.stepOff
  split
  next loses =>
    have zero : l.p 0x811A k = 0 := by simp at loses; exact loses.2
    rw [zero]
    simpa using (Within.refl (ps := []) (l.setStepper k { l.stepper k with referenced := false })).eventU 0x8109
  next keeps =>
    rw [same _ (by cases h : (l.stepper k).referenced <;> simp_all)]
    exact .refl l

theorem Lane.stepHoldEnd_ends (l : Lane) (k t : Nat) (holds : (l.motor k).holdAt = some t) (own : (l.motor k).cfg.kind = .stepper) (safe : (l.motor k).laneSafe = true)
    (on : (l.stepper k).off = false) (late : t + ms (l.p 0x6150 k) ≤ l.now) :
    Within [] (l.setStepper k { l.stepper k with off := true, referenced := (l.stepper k).referenced && l.p 0x811A k != 0 }) (l.stepHoldEnd k) := by
  have off := (l.setStepper k { l.stepper k with off := true }).stepOff_ends k own
  have twice := l.setStepper_update k { l.stepper k with off := true } fun x => { x with referenced := x.referenced && l.p 0x811A k != 0 }
  unfold Lane.stepHoldEnd
  dsimp only
  rw [holds]
  dsimp only
  rw [if_pos (by simp [own, safe, on, Lane.due, late])]
  rw [← twice]
  exact off

/-! ### The edge of the reference switch (R199) -/

/-- Of numbers whose update changes nothing but one, each is that one's update. -/
theorem Lane.each_only {l : Lane} {f : Nat → Lane → Lane} {g n : Nat} (below : g < n) (before : ∀ k, k ≠ g → f k l = l) (after : ∀ k, k ≠ g → f k (f g l) = f g l) :
    l.each n f = f g l := by
  have succ (n : Nat) : l.each (n + 1) f = f n (l.each n f) := by simp [Lane.each, List.range_succ]
  have first (n : Nat) (le : n ≤ g) : l.each n f = l := by
    induction n with
    | zero => rfl
    | succ n ih => rw [succ, ih (by omega), before n (by omega)]
  induction n with
  | zero => omega
  | succ n ih =>
    rw [succ]
    by_cases last : n = g
    · rw [first n (by omega), last]
    · rw [ih (by omega), after n last]

theorem Lane.refEdge_none (l : Lane) (g pin : Nat) (e : PinLvl) (none : (l.gen g).ref = none) : l.refEdge g pin e = l := by
  unfold Lane.refEdge
  dsimp only
  rw [none]

/-- A position shift moves the generator, and no other one. -/
theorem Lane.refShift_gen (l : Lane) (g slot : Nat) (at_ : W64) :
    ∃ y : Gen, (l.refShift g slot at_).mp.gen = l.mp.gen.set g y ∧ y.st = (l.gen g).st ∧ y.ref = (l.gen g).ref ∧ y.p = dadd (l.gen g).p (dsub (dofF (l.pf 0x8136 slot)) at_) := by
  refine ⟨{ l.gen g with p := dadd (l.gen g).p (dsub (dofF (l.pf 0x8136 slot)) at_), target := dadd (l.gen g).p (dsub (dofF (l.pf 0x8136 slot)) at_) }, ?_, rfl, rfl, rfl⟩
  unfold Lane.refShift
  extract_lets sh x l₁ l₂ _ l₃
  have sg : l₂.mp.gen = l₁.mp.gen := by
    unfold l₂
    split <;> rfl
  have stp : l₃.mp.gen = l₂.mp.gen := by
    unfold l₃
    split <;> rfl
  split
  · dsimp only
    split
    · exact stp.trans sg
    · exact stp.trans sg
  · exact stp.trans sg

theorem Lane.refEdge_places (l : Lane) (g pin : Nat) (e : PinLvl) (r : RefRun) (run : (l.gen g).ref = some r) (method : r.method = 1) (seen : r.edgeSeen = false) (well : r.failing = false)
    (refers : (l.gen g).st = .referencing) (own : l.p 0x8134 r.slot = pin) (level : (l.p 0x8135 r.slot == 1) = e.lvl) (stood : l.pinStood pin e.since = true) :
    let pos := match l.sgOf r.slot with
      | some i => dq ((l.sgen i).posAt e.since) (2 ^ 48)
      | none => l.servoPos r.slot e.since
    ∃ x : Gen, (l.refEdge g pin e).mp.gen = l.mp.gen.set g x ∧ x.st = .referencing ∧ x.ref = some { r with edgeSeen := true } ∧ x.p = dadd (l.gen g).p (dsub (dofF (l.pf 0x8136 r.slot)) pos) := by
  intro pos
  have known : g < l.mp.gen.length := by
    by_contra far
    rw [Lane.gen, List.getD_eq_default _ _ (Nat.le_of_not_lt far)] at run
    cases run
  unfold Lane.refEdge
  dsimp only
  rw [run]
  dsimp only
  rw [if_neg (by simp [method, seen, well, refers, own, level, stood])]
  have marked := l.gen_setGen g { l.gen g with ref := some { r with edgeSeen := true } } known
  obtain ⟨y, gens, -, ref, place⟩ := (l.setGen g { l.gen g with ref := some { r with edgeSeen := true } }).refShift_gen g r.slot pos
  rw [marked] at ref place
  change _ = (l.mp.gen.set g _).set g y at gens
  rw [List.set_set] at gens
  generalize (l.setGen g { l.gen g with ref := some { r with edgeSeen := true } }).refShift g r.slot pos = n at gens ⊢
  have here : n.gen g = y := by
    rw [Lane.gen, gens]
    exact getD_set_same _ _ _ _ known
  unfold Lane.genStop
  dsimp only
  rw [here]
  refine ⟨_, Lane.setGen_over gens _, ?_, ref, place⟩
  rw [ref]
  rfl

/-- The edge reaches the one generator that refers. -/
theorem Lane.refEdges_place (l : Lane) (g pin : Nat) (e : PinLvl) (r : RefRun) (below : g < 8) (others : ∀ n, n ≠ g → (l.gen n).ref = none) (run : (l.gen g).ref = some r)
    (method : r.method = 1) (seen : r.edgeSeen = false) (well : r.failing = false) (refers : (l.gen g).st = .referencing) (own : l.p 0x8134 r.slot = pin)
    (level : (l.p 0x8135 r.slot == 1) = e.lvl) (stood : l.pinStood pin e.since = true) :
    let pos := match l.sgOf r.slot with
      | some i => dq ((l.sgen i).posAt e.since) (2 ^ 48)
      | none => l.servoPos r.slot e.since
    let l' := l.each 8 fun g l => l.refEdge g pin e
    (l'.gen g).st = .referencing ∧ (l'.gen g).ref = some { r with edgeSeen := true } ∧ (l'.gen g).p = dadd (l.gen g).p (dsub (dofF (l.pf 0x8136 r.slot)) pos) := by
  intro pos l'
  obtain ⟨y, gens, facts⟩ := l.refEdge_places g pin e r run method seen well refers own level stood
  have known : g < l.mp.gen.length := by
    by_contra far
    rw [Lane.gen, List.getD_eq_default _ _ (Nat.le_of_not_lt far)] at run
    cases run
  have only : l' = l.refEdge g pin e := by
    refine Lane.each_only below (fun n other => l.refEdge_none n pin e (others n other)) fun n other => Lane.refEdge_none _ n pin e ?_
    rw [Lane.gen, gens, getD_set_ne _ _ _ _ _ other]
    exact others n other
  have here : l'.gen g = y := by
    rw [only, Lane.gen, gens]
    exact getD_set_same _ _ _ _ known
  rw [here]
  exact facts

/-! ### Flying start and source blends (R151, R152) -/

theorem Lane.flyProbe_starts (l : Lane) (k : Nat) (acquires : (l.motor k).fly = .acquire) (due : (l.motor k).flyAt ≤ l.now) (free : l.flyWaits k = false) (acq : (l.motor k).acq = true)
    (fast : flt (fabs (l.motor k).wHat) (l.wLo k) = false) (below : flt (fabs (l.motor k).wHat) (fmul (l.pf 0x6141 k) (l.pf 0x6101 k)) = true) :
    (l.flyProbe k).mot = (l.setMotor k { l.motor k with
      flyAt := (l.motor k).flyAt + ms (l.p 0x6142 k), fly := .zeroRun, laneSafe := false, short := false, lockCnt := 0, locked := false, cntS := 0, cntE := 0, imp := false, probe := none, vA := f0, vB := f0 }).mot ∧
    Within [.slots, .halfBridges, .le] l (l.flyProbe k) := by
  have known : k < l.mot.slot.length := by
    by_contra far
    rw [Lane.motor, List.getD_eq_default _ _ (Nat.le_of_not_lt far)] at acquires
    cases acquires
  have allowed : ((l.motor k).acq && !flt (fabs (l.motor k).wHat) (l.wLo k) && flt (fabs (l.motor k).wHat) (fmul (l.pf 0x6141 k) (l.pf 0x6101 k))) = true := by
    rw [acq, fast, below]
    rfl
  have starts : l.flyProbe k = (l.setMotor k { l.motor k with flyAt := (l.motor k).flyAt + ms (l.p 0x6142 k) }).zeroRun k := by
    unfold Lane.flyProbe
    dsimp only
    rw [if_neg (by simp [acquires, Lane.due, due]), free, if_neg (by simp)]
    exact if_pos allowed
  have here := l.motor_setMotor k { l.motor k with flyAt := (l.motor k).flyAt + ms (l.p 0x6142 k) } known
  rw [starts]
  generalize set : l.setMotor k { l.motor k with flyAt := (l.motor k).flyAt + ms (l.p 0x6142 k) } = n at here ⊢
  unfold Lane.zeroRun
  rw [here]
  extract_lets _ x wait l₁ l₂
  have gates : Within [.halfBridges] n l₁ := (Within.refl n).eachOf _ fun h m hm => hm.setHb ..
  have loops : Within [.le] l₂ (l₂.eachOf (l₂.loopsOf k) fun j l => if l.p 0x7100 j == 1 then l.setLoop j { l.loop j with st := .closed, mode := .law, told := false, xD := f0, xQ := f0, missed := 0 } else l) :=
    (Within.refl l₂).eachOf _ fun j m hm => .ite (hm.setLoop ..) hm
  constructor
  · refine loops.mot_eq.trans ((Lane.setMotor_of gates.mot_eq k _).trans ?_)
    rw [← set]
    exact Lane.setMotor_over rfl _
  · have first : Within [.slots, .halfBridges, .le] l n := set ▸ (Within.refl l).setMotor ..
    have second : Within [.slots, .halfBridges, .le] l l₂ := (first.trans (gates.mono (by decide))).setMotor ..
    exact second.trans (loops.mono (by decide))

theorem Within.steppers {l l' : Lane} (h : Within [.pwm, .channels, .freeze, .mp] l l') : Reports { l with mp := l'.mp, pwm := l'.pwm, pos := { l.pos with freeze := l'.pos.freeze } } l' := h
theorem Within.flying {l l' : Lane} (h : Within [.slots, .halfBridges, .le] l l') : Reports { l with mot := l'.mot, gd := { l.gd with hb := l'.gd.hb }, le := l'.le } l' := by
  have wide : Within [.mot, .slots, .halfBridges, .le] l l' := h.mono (by decide)
  exact wide

/-- Settles O24. -/
theorem ticksAndSteppers : Obligations.TicksAndSteppers := by
  unfold Obligations.TicksAndSteppers
  refine ⟨?_, ?_⟩
  · intro s a g l x y known runs empty moving mode phase free
    have moves := l.profileTick_moves g runs empty moving mode phase free
    have frame : Within [.mp] l (l.profileTick g) := .trans ((Within.refl l).setGen ..) (moves.mono (by decide))
    refine next_of_eq rfl (by simp [known]) rfl ⟨?_, ?_⟩
    · exact moves.mp_eq
    · exact (frame.wired a.lane)
  · intro s a k g pin t i e r b h1 h2 h3 h4 l x m w
    refine ⟨?_, ?_, ?_, ?_, ?_, ?_⟩
    · intro known own serves on runs
      obtain ⟨b, mp⟩ := l.stepStage_runs k i h1 h2 h3 h4 own serves on runs
      have frame : Within [.pwm, .channels, .freeze, .mp] l (l.stepStage k) := (Within.refl l).stepStage k
      refine next_of_eq rfl (by simp [known]) rfl ⟨b, mp, ?_⟩
      exact (frame.wired a.lane).steppers
    · intro known own still none rests
      refine next_of_eq rfl (by simp [known]) (if_pos ?_) (reports_wired _ _)
      have idle : (m.cfg.kind == .stepper && !x.moving && x.rampAt.isNone && l.due (x.restAt + ms (l.p 0x8113 k))) = true := by
        simp [own, still, none, Lane.due, rests]
      exact idle
    · intro known holds own safe on late
      have ends := l.stepHoldEnd_ends k t holds own safe on late
      exact next_of_eq rfl (by simp [known]) rfl (ends.wired a.lane)
    · intro below others run method seen well refers own level stood
      have facts := l.refEdges_place g pin e r below others run method seen well refers own level stood
      generalize result : l.each 8 (fun g l => l.refEdge g pin e) = n at facts
      exact next_of_eq (f := fun l => l.each 8 fun g l => l.refEdge g pin e) rfl rfl result facts
    · intro known acquires due free acq fast below
      obtain ⟨mot, frame⟩ := l.flyProbe_starts k acquires due free acq fast below
      refine next_of_eq rfl (by simp [known]) rfl ⟨mot, ?_⟩
      exact (frame.wired a.lane).flying
    · intro known blends active keeps due
      have ends : l.blendEnd k = l.setMotor k { m with blend := none } := by
        unfold Lane.blendEnd
        dsimp only
        rw [blends]
        dsimp only
        rw [if_pos (by simp [active, keeps, due])]
      exact next_of_eq rfl (by simp [known]) ends (reports_wired _ _)

end Sys2Proof.Machine
end

section
/-! Enabling, sources and status of functions, loss of commands and its end (R205, R208, R215, R216, R265), and the settlement of O25. -/

namespace Sys2Proof.Machine

set_option Elab.async false

/-- A function that is not in the state of one that does not exist exists. -/
theorem Lane.func_known {l : Lane} {f : Nat} (other : l.func f ≠ {}) : f < l.fn.fn.length := by
  by_contra far
  exact other (List.getD_eq_default _ _ (Nat.le_of_not_lt far))

/-! ### Enable and disable (R205) -/

theorem Lane.fnStart_starts (l : Lane) (f : Nat) (off : (l.func f).enabled = false) :
    Within [.le] (l.setFunc f { enabled := true, lastCycle := some l.cyc }) (l.fnStart f) := by
  unfold Lane.fnStart
  rw [if_neg (by simp [off])]
  exact ((Within.refl _).eachOf _ fun j m hm => hm.loopEnable j).fnClose f

/-- The functions, the speed that their commands bring, and the steering setpoint in force. -/
def Lane.functions (l : Lane) : List Fn × F32 × F32 := (l.fn.fn, l.fn.v, l.fn.steerSet)

theorem Within.functions_eq {ps : List Part} {l m : Lane} (h : Within ps l m) (fn : ps.elem .fn = false := by rfl) : m.functions = l.functions := by
  rw [Lane.functions, h.fn_eq fn]
  rfl

theorem Lane.chopDuty_functions (l : Lane) (c : Nat) (d : F32) : (l.chopDuty c d).functions = l.functions := by
  unfold Lane.chopDuty
  extract_lets _ m
  split
  · exact (((Within.refl m).shadowWrite ..).burstDone .. : Within [.pwm, .channels] m _).functions_eq
  · rfl

theorem Lane.assertInh_functions (l : Lane) : l.assertInh.functions = l.functions := by
  unfold Lane.assertInh
  split
  · rfl
  · exact ((Within.refl (ps := []) { l with sns.regenFw := true, fn.inhAt := some l.now }).eventU _).functions_eq

theorem Lane.fnStop_functions (l : Lane) (f : Nat) (on : (l.func f).enabled = true) : (l.fnStop f).functions = (l.fn.fn.set f {}, l.fn.v, l.fn.steerSet) := by
  unfold Lane.fnStop
  rw [if_neg (by simp [on])]
  extract_lets m _ a₁ a₂ a₃ b₁ c₁ c₂ c₃
  split
  · have frame : Within [.held, .slots, .le, .mp, .ports] a₁ a₃ := by
      have loops : Within [.held, .slots, .le, .mp, .ports] a₁ a₂ := (Within.refl a₁).eachOf _ fun j n hn => hn.loopDisable j
      unfold a₃
      split
      · exact loops.genHalt ..
      · exact loops
    have first : a₁.functions = m.functions := ((Within.refl (ps := []) { m with fn.returning := false }).streamFlush _).functions_eq
    refine Eq.trans ?_ first
    split
    · exact (frame.takeSafe _).functions_eq
    · exact frame.functions_eq
  · have first : b₁.functions = m.functions := ((Within.refl (ps := []) { m with fn.baAt := none }).streamFlush _).functions_eq
    exact (Lane.each_keeps Lane.functions 4 (fun w l => l.setWheel w { l.wheel w with fHost := f0, fBlend := f0, learning := false }) (fun _ _ => rfl) _).trans first
  · refine Lane.each_keeps Lane.functions _ _ (fun w n => ?_) m
    split
    · exact ((Within.refl n).genHalt .. : Within [.mp] n _).functions_eq
    · rfl
  · rfl
  · have first : c₁.functions = m.functions := ((Within.refl (ps := []) { m with fn.pLim := f0, fn.fDem := f0, fn.fEl := f0, fn.strLimit := none, fn.strArm := false }).streamFlush _).functions_eq
    have wheels : c₂.functions = c₁.functions := Lane.each_keeps Lane.functions 4 (fun w l => l.setWheel w { l.wheel w with fBlend := f0 }) (fun _ _ => rfl) _
    have chops : c₃.functions = c₂.functions :=
      Lane.each_keeps Lane.functions 2 (fun c l => (l.setChop c { l.chop c with armed := false, preAt := none, quietAt := none }).chopDuty c f0) (fun _ _ => (Lane.chopDuty_functions ..).trans rfl) _
    exact c₃.assertInh_functions.trans (chops.trans (wheels.trans first))

/-! ### Loss of commands and its end (R215, R216, R265) -/

theorem Lane.steerReturn_returns (l : Lane) :
    (l.steerReturn).fn.fn = l.fn.fn.set 0 { l.func 0 with mode := 4 } ∧ l.steerReturn.fn.returning = true ∧ (l.ownSet = true → l.steerReturn.fn.steerSet = f0) ∧
      l.steerReturn.gd = l.gd ∧ l.steerReturn.bist = l.bist := by
  have frame : Within [.held, .mp, .fn] l l.steerReturn := (Within.refl l).steerReturn
  refine ⟨?_, ?_, ?_, frame.gd_eq, frame.bist_eq⟩
  all_goals
    unfold Lane.steerReturn
    extract_lets _ l₁ _ l₂
    have released : Within [.held] { l₁ with fn.returning := true } l₂ := (Within.refl _).releaseIds _
    have moved : Within [.mp] { l₂ with fn.steerSet := f0 } ({ l₂ with fn.steerSet := f0 }.steerMove f0) := (Within.refl _).steerMove f0
  · split
    · exact (congrArg Fns.fn moved.fn_eq).trans (congrArg Fns.fn released.fn_eq)
    · exact congrArg Fns.fn released.fn_eq
  · split
    · exact (congrArg Fns.returning moved.fn_eq).trans (congrArg Fns.returning released.fn_eq)
    · exact congrArg Fns.returning released.fn_eq
  · intro own
    have own : l₂.ownSet = true := own
    rw [if_pos own]
    exact congrArg Fns.steerSet moved.fn_eq

theorem Lane.breakaway_starts (l : Lane) (test : l.gd.test = none) (run : l.bist.run = none) :
    ∃ t, l.breakaway.fn = { (l.setFunc 1 { l.func 1 with mode := 4 }).fn with baAt := some l.now, holdAt := t } := by
  unfold Lane.breakaway
  extract_lets l₁ _ l₂ ramp
  rw [Lane.safetyRequest_idle _ _ (by rw [Lane.eventU_eq]; exact test) (by rw [Lane.eventU_eq]; exact run)]
  exact ⟨_, ((Within.refl (ps := []) { l₂ with fn.baAt := some l₂.now, fn.holdAt := l₂.now + ramp.toNat }).eventU _).fn_eq⟩

/-- The decision about the spring brake, the functions and the instants of a stop. -/
def Lane.brakeNotes (l : Lane) : List Fn × F32 × Option Bool × Option Nat := (l.fn.fn, l.fn.v, l.fn.sbApply, l.fn.stopSince)

theorem Lane.cellFollow_brakeNotes (l : Lane) : l.cellFollow.brakeNotes = l.brakeNotes := by
  unfold Lane.cellFollow
  split
  iterate 3 · split <;> rfl
  · rfl
  · rfl
  · split <;> rfl

theorem Lane.sbTestEnd_brakeNotes (l : Lane) : l.sbTestEnd.brakeNotes = l.brakeNotes := by
  unfold Lane.sbTestEnd
  split <;> rfl

/-- An apply ends in the cell alone. -/
theorem Lane.sbSet_applies (l : Lane) (test : l.gd.test = none) (run : l.bist.run = none) :
    (l.sbSet true).brakeNotes = { l with fn.sbApply := some true }.brakeNotes ∧ Within [.fn] l (l.sbSet true) := by
  have ended : Within [.fn] l l.sbTestEnd := (Within.refl l).sbTestEnd
  unfold Lane.sbSet
  extract_lets _ _ l₁ l₂
  have same : l₂ = l₁ := Lane.safetyRequest_idle _ _ (by rw [← test]; exact congrArg Gd.test ended.gd_eq) (by rw [← run]; exact congrArg Bist.run ended.bist_eq)
  rw [same]
  have notes : l₁.brakeNotes = { l with fn.sbApply := some true }.brakeNotes := by
    have notes := l.sbTestEnd_brakeNotes
    simp only [Lane.brakeNotes, Prod.mk.injEq] at notes ⊢
    obtain ⟨fns, v, -, stop⟩ := notes
    exact ⟨fns, v, rfl, stop⟩
  split
  · exact ⟨notes, ended.upd.setCell _⟩
  · exact ⟨(l₁.cellFollow_brakeNotes).trans notes, ended.upd.cellFollow⟩

theorem Lane.held_known {l : Lane} {f t : Nat} (held : l.heldFor f t = true) : f < l.fn.fn.length := by
  refine l.func_known fun none => ?_
  rw [Lane.heldFor, none] at held
  cases held

theorem Lane.cmdHold_returns (l : Lane) (held : l.heldFor 0 (ms (l.p 0x9100)) = true) (run : l.bist.run = none) (test : l.gd.test = none) :
    (l.cmdHold.func 0).mode = 4 ∧ l.cmdHold.fn.returning = true ∧ (l.ownSet = true → l.cmdHold.fn.steerSet = f0) := by
  obtain ⟨fn, returning, steer, gd, bist⟩ := l.steerReturn_returns
  have here : (l.steerReturn.func 0).mode = 4 := by
    rw [Lane.func, fn]
    exact congrArg Fn.mode (getD_set_same _ _ _ _ (l.held_known held))
  unfold Lane.cmdHold
  dsimp only
  rw [if_pos held]
  split
  · obtain ⟨t, brakes⟩ := l.steerReturn.breakaway_starts (by rw [gd, test]) (by rw [bist, run])
    rw [Lane.func, brakes]
    refine ⟨?_, returning, steer⟩
    exact (congrArg Fn.mode (getD_set_ne _ _ _ _ _ (by decide))).trans here
  · exact ⟨here, returning, steer⟩

theorem Lane.assess_parked (l : Lane) : l.assess.red.parked = l.red.parked := by
  unfold Lane.assess
  dsimp only
  split
  · rfl
  · generalize counted : (if (min 2 l.ccLanes == l.red.ccCount) = true then l else ({ l with red.ccCount := min 2 l.ccLanes }).eventU 0xA10F) = m
    have same : m.red.parked = l.red.parked := by
      rw [← counted]
      split
      · rfl
      · rw [((Within.refl (ps := []) { l with red.ccCount := min 2 l.ccLanes }).eventU _).red_eq]
    split
    · exact same
    · rw [((Within.refl (ps := []) { m with red.vehReq := m.wanted }).eventU _).red_eq]
      exact same

theorem Lane.finalStop_parks (l : Lane) {t : Nat} (stop : l.red.vehReq = 3) (since : l.fn.stopSince = some t) (late : t + ms 100 * l.p 0x9105 ≤ l.now) (run : l.bist.run = none)
    (test : l.gd.test = none) : l.finalStop.red.parked = true ∧ l.finalStop.fn.sbApply = some true ∧ l.finalStop.fn.stopSince = none := by
  obtain ⟨notes, frame⟩ := { l with red.parked := true, fn.stopSince := none }.sbSet_applies test run
  simp only [Lane.brakeNotes, Prod.mk.injEq] at notes
  obtain ⟨-, -, apply, ended⟩ := notes
  unfold Lane.finalStop
  rw [if_pos (by simp [stop, since, Lane.due, late])]
  dsimp only
  split
  · have judged : Within [.red] _ ({ l with red.parked := true, fn.stopSince := none }.sbSet true).assess := (Within.refl _).assess
    refine ⟨(Lane.assess_parked _).trans (congrArg Red.parked frame.red_eq), ?_, ?_⟩
    · rw [judged.fn_eq]; exact apply
    · rw [judged.fn_eq]; exact ended
  · exact ⟨congrArg Red.parked frame.red_eq, apply, ended⟩

theorem Within.enabling {l l' : Lane} (h : Within [.fn, .le, .pwr] l l') : Reports { l with fn := l'.fn, le := l'.le, pwr := l'.pwr } l' := h

theorem Lane.parkDue_parks (l : Lane) (breaks : l.fn.baAt.isSome = true) (mode : (l.func 1).mode = 4)
    (late : l.fn.holdAt + (fto (fdiv l.fn.v (l.pf 0x9102)) 400000000 1).toNat + ms 100 * l.p 0x9105 ≤ l.now) (run : l.bist.run = none) (test : l.gd.test = none) :
    (l.parkDue.func 1).mode = 5 ∧ l.parkDue.fn.sbApply = some true ∧ Within [.fn] l l.parkDue := by
  have known : 1 < l.fn.fn.length := l.func_known (by intro none; rw [none] at mode; cases mode)
  unfold Lane.parkDue
  extract_lets t _ _ m
  rw [if_pos (by simp [breaks, mode, Lane.due, t, late])]
  have told : Within [] m (m.eventU 0x9105) := (Within.refl m).eventU _
  obtain ⟨notes, frame⟩ := (m.eventU 0x9105).sbSet_applies (by rw [told.gd_eq]; exact test) (by rw [told.bist_eq]; exact run)
  have first : Within [.fn] l (m.eventU 0x9105) := .trans (.upd (.refl l)) (told.mono (by decide))
  simp only [Lane.brakeNotes, Prod.mk.injEq] at notes
  obtain ⟨fn, -, apply, -⟩ := notes
  refine ⟨?_, apply, first.trans frame⟩
  rw [Lane.func, fn]
  rw [told.fn_eq]
  exact (congrArg Fn.mode (getD_set_ne _ _ _ _ _ (by decide))).trans (congrArg Fn.mode (l.func_setFunc 1 _ known))

/-- Settles O25. -/
theorem functionCommands : Obligations.FunctionCommands := by
  unfold Obligations.FunctionCommands
  refine ⟨?_, ?_⟩
  · intro s a m f
    refine ⟨?_, ?_, ?_⟩
    · intro l ready known kind
      have there : ¬ 5 ≤ m.u8 0 ∧ ¬ 1 < m.u8 1 := by omega
      refine ⟨fun on awake off => ?_, fun zero rests on => ?_⟩
      · have idle : Within [.pwr] { l with fn.v := m.f32 4 } { l with fn.v := m.f32 4 }.idleToRun := (Within.refl _).idleToRun
        have starts := { l with fn.v := m.f32 4 }.idleToRun.fnStart_starts f (by rw [Lane.func, idle.fn_eq]; exact off)
        have frame : Within [.fn, .le, .pwr] l ({ l with fn.v := m.f32 4 }.idleToRun.fnStart f) := ((Within.upd (.refl l) (m := { l with fn.v := m.f32 4 })).trans (idle.mono (by decide))).fnStart f
        refine answers_guarded rfl ready (Lane.hFnEnable.eq_def ..) (free_two ?_ ?_) (x := { l with fn.v := m.f32 4 }.idleToRun.fnStart f) ?_ ⟨?_, frame.enabling⟩
        · exact Bool.and_eq_false_imp.mpr fun _ => by simp [on]; exact awake
        · simp [there]
        · dsimp only
          rw [if_pos (by simpa using on)]
          rfl
        · refine starts.fn_eq.trans ?_
          have cyc : { l with fn.v := m.f32 4 }.idleToRun.cyc = l.cyc := by
            unfold Lane.idleToRun
            split <;> rfl
          simp only [Lane.setFunc, idle.fn_eq, cyc]
      · have stops := { l with fn.v := m.f32 4 }.fnStop_functions f on
        refine answers_guarded rfl ready (Lane.hFnEnable.eq_def ..) (free_two ?_ ?_) (x := { l with fn.v := m.f32 4 }.fnStop f) ?_ ⟨congrArg Prod.fst stops, congrArg (fun x => x.2.1) stops⟩
        · have slow : ((f == 0 || f == 1 || f == 4) && fgt (m.f32 4) (l.pf 0x9130)) = false := by
            rcases rests with two | three | slow
            · simp [two]
            · simp [three]
            · rw [slow, Bool.and_false]
          refine Bool.and_eq_false_imp.mpr fun _ => ?_
          rw [zero]
          exact slow
        · simp [there]
        · dsimp only
          rw [if_neg (by simp [zero])]
          rfl
    · intro l ready known kind on
      have there : ¬ 5 ≤ m.u8 0 ∧ ¬ 1 < m.u8 1 := by omega
      refine answers_guarded rfl ready (Lane.hFnSourceSet.eq_def ..) (free_two ?_ ?_) rfl rfl
      · exact Bool.and_eq_false_imp.mpr fun _ => by simpa using on
      · simp [there]
    · intro l ready known
      refine answers_of rfl ready (x := l) ?_ rfl
      exact if_neg (by omega)
  · intro s a f c t l x
    refine ⟨?_, ?_, ?_, ?_, ?_, ?_⟩
    · intro kind last on hw mode late whole
      have lost : l.cmdLost f = (l.setFunc f { x with mode := 3, lastAt := l.now }).eventU 0x9101 := by
        unfold Lane.cmdLost
        dsimp only
        split
        next c' found =>
          obtain rfl : c' = c := Option.some.inj (found.symm.trans last)
          have due : ((l.func f).enabled && !(l.func f).host && (l.func f).mode == 1 && decide (c' + 4 ≤ l.cyc)) = true := by
            simp [show (l.func f).enabled = true from on, show (l.func f).host = false from hw, show (l.func f).mode = 1 from mode, late]
          rw [if_pos due]
          refine if_neg fun both => ?_
          obtain ⟨steer, part⟩ := Bool.and_eq_true_iff.mp both
          have same : ((l.setFunc f { x with mode := 3, lastAt := l.now }).eventU 0x9101).modPart = l.modPart := by
            rw [Lane.eventU_eq]
            rfl
          exact absurd (same.symm.trans part) (by simp [whole (by simpa using steer)])
        next none => exact absurd (none.symm.trans last) (by simp)
      refine next_of_eq rfl ?_ lost (((Within.refl (ps := []) (l.setFunc f { x with mode := 3, lastAt := l.now })).eventU _).wired a.lane)
      rcases kind with rfl | rfl | rfl <;> rfl
    · intro held run test
      have facts := l.cmdHold_returns held run test
      exact next_of_eq rfl rfl rfl facts
    · intro part held run test
      have known : 1 < l.fn.fn.length := l.held_known held
      obtain ⟨t, fn⟩ := l.breakaway_starts test run
      have due : (l.modPart && l.heldFor 1 (ms (l.p 0xB119))) = true := by rw [part, held]; rfl
      refine next_of_eq rfl rfl (if_pos due) ?_
      change (l.breakaway.func 1).mode = 4 ∧ l.breakaway.fn.baAt = some l.now
      rw [Lane.func, fn]
      exact ⟨congrArg Fn.mode (l.func_setFunc 1 _ known), rfl⟩
    · intro breaks mode late run test
      obtain ⟨parked, apply, frame⟩ := l.parkDue_parks breaks mode late run test
      refine next_of_eq rfl rfl rfl ⟨parked, apply, ?_⟩
      exact frame.wired a.lane
    · intro stop since late run test
      have facts := l.finalStop_parks stop since late run test
      exact next_of_eq rfl rfl rfl facts
    · intro on host late
      have lost : l.sbRefreshLost = (l.setFunc 3 { l.func 3 with host := false }).event 0x9102 3 := by
        unfold Lane.sbRefreshLost
        exact if_pos (by simp [on, host, Lane.due, late])
      exact next_of_eq rfl rfl lost (((Within.refl (ps := []) (l.setFunc 3 { l.func 3 with host := false })).event ..).wired a.lane)

end Sys2Proof.Machine
end

section
/-! The setpoint commands and their coming into force (R205, R206, R210, R213, R224), and the settlement of O26. -/

namespace Sys2Proof.Machine

set_option Elab.async false

/-! ### A setpoint is taken (R215, R350) -/

/-- The record of a function that takes a setpoint. -/
def Lane.takenFn (l : Lane) (f : Nat) (p : Setpoint) : Fn := { l.func f with lastCycle := some l.cyc, mode := 1, pending := (l.func f).pending ++ [p], limited := false }

/-- The lane after a valid command for a function: what it ends, beside the list of the functions. -/
def Lane.refreshed (l : Lane) (f : Nat) (v : F32) (xs : List Fn) : Lane :=
  { l with fn := { l.fn with fn := xs, v := v, baAt := if f == 1 then none else l.fn.baAt,
                             strLimit := if f == 4 && !(l.func 4).host then none else l.fn.strLimit, strArm := if f == 4 && !(l.func 4).host then false else l.fn.strArm } }

theorem Lane.setpointTake_takes (l : Lane) (f : Nat) (v : F32) (p : Setpoint) (known : f < l.fn.fn.length) :
    l.setpointTake f v p = l.refreshed f v (l.fn.fn.set f (l.takenFn f p)) := by
  have twice (m : Lane) (x : Fn → Fn) (e : m.fn.fn = l.fn.fn.set f { l.func f with lastCycle := some l.cyc, mode := 1 }) :
      m.fn.fn.set f (x (m.func f)) = l.fn.fn.set f (x { l.func f with lastCycle := some l.cyc, mode := 1 }) := by
    rw [Lane.func, e, List.set_set, getD_set_same _ _ _ _ known]
  have fresh : l.fnRefresh f v = l.refreshed f v (l.fn.fn.set f { l.func f with lastCycle := some l.cyc, mode := 1 }) := by
    have host : ((l.setFunc f { l.func f with lastCycle := some l.cyc, mode := 1 }).func 4).host = (l.func 4).host := getD_set_keeps Fn.host _ _ _ _ _ rfl
    unfold Lane.fnRefresh
    extract_lets _ m _ n
    have same : (n.func 4).host = (l.func 4).host := host
    rw [same]
    by_cases one : f = 1
    · subst one; rfl
    · by_cases four : (f == 4 && !(l.func 4).host) = true
      · simp only [beq_iff_eq, one, if_false, if_pos four, Lane.refreshed]; rfl
      · simp only [beq_iff_eq, one, if_false, if_neg four, Lane.refreshed]; rfl
  unfold Lane.setpointTake
  rw [fresh]
  exact congrArg (l.refreshed f v) (twice _ (fun x => { x with pending := x.pending ++ [p], limited := false }) rfl)

theorem Lane.fnForward_fwd (l : Lane) (own : Bool) (f w : Nat) (val v : F32) (apply : Nat) :
    l.fnForward own f w val v apply = { l with fn := { l.fn with fwd := (l.fnForward own f w val v apply).fn.fwd } } := by
  unfold Lane.fnForward
  split <;> rfl

theorem Lane.enabled_known {l : Lane} {f : Nat} (on : (l.func f).enabled = true) : f < l.fn.fn.length := l.func_known (by intro none; rw [none] at on; cases on)

theorem Lane.fnForwards_fwd (l : Lane) (ws : List Nat) (own : Bool) (f : Nat) (val : Nat → F32) (v : F32) (apply : Nat) :
    ∃ xs : List (List Byte), ws.foldl (fun (l : Lane) w => l.fnForward own f w (val w) v apply) l = { l with fn := { l.fn with fwd := xs } } := by
  refine List.foldlRecOn (motive := fun m => ∃ xs : List (List Byte), m = { l with fn := { l.fn with fwd := xs } }) ws _ ⟨l.fn.fwd, rfl⟩ ?_
  rintro m ⟨xs, rfl⟩ w -
  exact ⟨_, Lane.fnForward_fwd ..⟩

theorem Lane.trySteer_takes (l : Lane) (own : Bool) (angle v : F32) (apply : Nat) (on : (l.func 0).enabled = true) (hw : (l.func 0).host = false)
    (low : flt angle (l.pf 0x9110) = false) (high : flt (l.pf 0x9111) angle = false) :
    ∃ xs, l.trySteer own angle v apply = ({ l.refreshed 0 v (l.fn.fn.set 0 (l.takenFn 0 ⟨[angle], 1, apply⟩)) with
      fn := { (l.refreshed 0 v (l.fn.fn.set 0 (l.takenFn 0 ⟨[angle], 1, apply⟩))).fn with fwd := xs } }, stAccepted) := by
  unfold Lane.trySteer
  rw [if_neg (by simp [on, hw]), if_neg (by simp [low, high]), Lane.fnForward_fwd, l.setpointTake_takes 0 v _ (l.enabled_known on)]
  exact ⟨_, rfl⟩

/-! ### Setpoints come into force at an outer period (R205, R206, R210) -/

/-- What an outer period makes of a steering setpoint in a lane that follows no mirror set. -/
def Lane.Steered (v : F32) (l : Lane) : Prop :=
  l.fn.steerSet = v ∧ 0 < l.fn.fn.length ∧ (l.func 0).pending = [] ∧ (l.func 0).mode = 1 ∧ (∀ f < 5, (l.func f).host = false) ∧ l.ownSet = true

theorem Lane.Steered.of_functions {v : F32} {l m : Lane} (h : l.Steered v) (same : m.functions = l.functions) (own : m.ownSet = l.ownSet) : m.Steered v := by
  simp only [Lane.functions, Prod.mk.injEq] at same
  obtain ⟨fn, -, steer⟩ := same
  unfold Lane.Steered Lane.func at h ⊢
  rw [fn, steer, own]
  exact h

/-- A change of another function's record but for its host mode. -/
theorem Lane.Steered.setFunc {v : F32} {l m : Lane} (h : l.Steered v) {f : Nat} {x : Fn} (other : f ≠ 0) (host : x.host = (l.func f).host) (fn : m.fn.fn = l.fn.fn.set f x)
    (steer : m.fn.steerSet = l.fn.steerSet) (own : m.ownSet = l.ownSet) : m.Steered v := by
  obtain ⟨set, known, pending, mode, hosts, ours⟩ := h
  have zero : m.func 0 = l.func 0 := by
    rw [Lane.func, fn]
    exact getD_set_ne _ _ _ _ _ other.symm
  refine ⟨steer.trans set, by simpa [fn] using known, by rw [zero]; exact pending, by rw [zero]; exact mode, fun g hg => ?_, own.trans ours⟩
  rw [Lane.func, fn]
  exact (getD_set_keeps Fn.host _ _ _ _ _ host).trans (hosts g hg)

theorem Lane.Steered.set {v : F32} {l : Lane} (h : l.Steered v) {f : Nat} {x : Fn} (other : f ≠ 0) (host : x.host = (l.func f).host) : (l.setFunc f x).Steered v :=
  h.setFunc other host rfl rfl rfl

theorem Lane.setWheel_functions (l : Lane) (w : Nat) (x : Wheel) : (l.setWheel w x).functions = l.functions := rfl

theorem Lane.setpointApply_steered {v : F32} {l : Lane} (h : l.Steered v) (f : Nat) (other : f ≠ 0) (p : Setpoint) : (l.setpointApply f p).Steered v := by
  unfold Lane.setpointApply
  dsimp only
  split
  · exact absurd rfl other
  · generalize hx : ({ l.func 1 with rx := _ } : Fn) = x
    have host : x.host = (l.func 1).host := hx ▸ rfl
    have set : (l.setFunc 1 x).Steered v := h.set other host
    split
    · refine List.foldlRecOn (motive := Lane.Steered v) _ _ set fun m hm w _ => ?_
      split
      · exact hm.of_functions rfl rfl
      · exact hm
    · exact set
  · have set : (l.setFunc f { l.func f with rx := [p.vals.headD f0] }).Steered v := h.set other rfl
    split
    · exact set.of_functions rfl rfl
    · exact set

theorem Lane.setpointsDue_steered {v : F32} {l : Lane} (h : l.Steered v) (f : Nat) (other : f ≠ 0) : (l.setpointsDue f).Steered v := by
  unfold Lane.setpointsDue
  dsimp only
  refine List.foldlRecOn (motive := Lane.Steered v) _ _ (h.set other rfl) fun m hm p _ => ?_
  exact Lane.setpointApply_steered hm f other p

/-- The lane that has received a steering setpoint, before it follows it. -/
def Lane.steerTaken (l : Lane) (v : F32) : Lane := { (l.setFunc 0 { l.func 0 with rx := [v] }).releaseIds [0x9112] with fn.returning := false }

theorem Lane.setpointApply_steering (l : Lane) (p : Setpoint) :
    l.setpointApply 0 p = if (l.steerTaken (p.vals.headD f0)).ownSet then { l.steerTaken (p.vals.headD f0) with fn.steerSet := p.vals.headD f0 }.steerMove (p.vals.headD f0)
      else l.steerTaken (p.vals.headD f0) := rfl

/-- A steering setpoint whose cycle has begun comes into force. -/
theorem Lane.setpointsDue_steers (l : Lane) (p : Setpoint) (ours : l.ownSet = true) (pending : (l.func 0).pending = [p]) (mode : (l.func 0).mode = 1)
    (hosts : ∀ f < 5, (l.func f).host = false) (begun : l.begun p.apply = true) : (l.setpointsDue 0).Steered (p.vals.headD f0) := by
  have known : 0 < l.fn.fn.length := l.func_known (by intro none; rw [none] at pending; cases pending)
  have taken : l.setpointsDue 0 = (l.setFunc 0 { l.func 0 with pending := [] }).setpointApply 0 p := by
    unfold Lane.setpointsDue
    dsimp only
    rw [pending]
    simp [begun]
  have here := l.func_setFunc 0 { l.func 0 with pending := [] } known
  rw [taken, Lane.setpointApply_steering]
  generalize emptied : l.setFunc 0 { l.func 0 with pending := [] } = n at here ⊢
  have fn : (n.steerTaken (p.vals.headD f0)).fn.fn = l.fn.fn.set 0 { l.func 0 with pending := [], rx := [p.vals.headD f0] } := by
    change n.fn.fn.set 0 { n.func 0 with rx := [p.vals.headD f0] } = _
    rw [here, ← emptied]
    exact List.set_set ..
  have own : (n.steerTaken (p.vals.headD f0)).ownSet = true := by
    rw [← emptied]
    exact ours
  generalize n.steerTaken (p.vals.headD f0) = m at fn own ⊢
  rw [if_pos own]
  have moves : Within [.mp] { m with fn.steerSet := p.vals.headD f0 } ({ m with fn.steerSet := p.vals.headD f0 }.steerMove (p.vals.headD f0)) := (Within.refl _).steerMove _
  have zero : m.func 0 = { l.func 0 with pending := [], rx := [p.vals.headD f0] } := by
    rw [Lane.func, fn]
    exact getD_set_same _ _ _ _ known
  have set : Lane.Steered (p.vals.headD f0) { m with fn.steerSet := p.vals.headD f0 } := by
    refine ⟨rfl, by simpa [fn] using known, congrArg Fn.pending zero, (congrArg Fn.mode zero).trans mode, fun f hf => ?_, own⟩
    change (m.func f).host = false
    rw [Lane.func, fn]
    exact (getD_set_keeps Fn.host _ 0 f { l.func 0 with pending := [], rx := [p.vals.headD f0] } _ rfl).trans (hosts f hf)
  exact set.of_functions moves.functions_eq (by simp only [Lane.ownSet, moves.st_eq])

/-! ### The rest of an outer period leaves the functions alone -/

theorem Lane.eventU_functions (l : Lane) (code : Nat) : (l.eventU code).functions = l.functions := ((Within.refl (ps := []) l).eventU code).functions_eq

theorem Lane.chopFault_functions (l : Lane) (c cause : Nat) : (l.chopFault c cause).functions = l.functions := by
  unfold Lane.chopFault
  extract_lets x l₁ l₂ l₀ _ l₃
  split
  · rfl
  · have duty : l₁.functions = l.functions := Lane.chopDuty_functions ..
    have sent : Within [.link] l₁ l₂ := ((Within.refl l₁).eventU _).sendBoth ..
    have cut : l₀.functions = l₂.functions := l₂.assertInh_functions
    have all : l₀.functions = l.functions := cut.trans (sent.functions_eq.trans duty)
    clear_value l₁ l₂ l₀
    split
    · exact all
    · exact all

theorem Lane.chopTest_functions (l : Lane) (c : Nat) : (l.chopTest c).functions = l.functions := by
  unfold Lane.chopTest
  extract_lets x full i tol bad n m
  split
  · rfl
  · split
    · split
      · exact l.chopFault_functions ..
      · rfl
    · split
      · exact m.chopFault_functions ..
      · rfl

theorem Lane.chopRun_functions (l : Lane) (c : Nat) : (l.chopRun c).functions = l.functions := by
  unfold Lane.chopRun
  extract_lets
  split
  · rfl
  · split
    · exact Lane.chopDuty_functions ..
    · rfl

theorem Lane.inhRelease_functions (l : Lane) : l.inhRelease.functions = l.functions := by
  unfold Lane.inhRelease
  extract_lets _ m at0 _ n _ _ o q
  have clear : Within [.sns] o q := (Within.refl o).each _ fun k m hm => hm.regenClear k
  have clear : q.functions = l.functions := clear.functions_eq
  clear_value q
  split
  · split
    · split
      · exact clear
      · exact (Lane.eventU_functions _ _).trans clear
    · rfl
  · split <;> rfl

theorem Lane.blendUpdate_functions (l : Lane) : l.blendUpdate.functions = l.functions := by
  unfold Lane.blendUpdate
  extract_lets avail v fel fric _ m
  exact Lane.eachOf_keeps Lane.functions m.braked _ (fun w n => n.setWheel_functions w _) m

theorem Lane.retard_functions (l : Lane) : l.retard.functions = l.functions := by
  unfold Lane.retard
  extract_lets l₁ _ l₂ l₃ lost l₄ _ l₅
  have tests : l₁.functions = l.functions := (Lane.chopTest_functions ..).trans (Lane.chopTest_functions ..)
  clear_value l₁
  have notes : l₂.functions = l₁.functions := by
    unfold l₂
    split
    · exact (Lane.assertInh_functions _).trans rfl
    · rfl
  clear_value l₂
  have runs : l₃.functions = l₂.functions := (Lane.chopRun_functions ..).trans (Lane.chopRun_functions ..)
  clear_value l₃
  have told : l₄.functions = l₃.functions := (Within.ite ((Within.refl l₃).eventU _) (.refl l₃) : Within [] l₃ l₄).functions_eq
  clear_value l₄
  have limits : l₅.functions = l₃.functions := by
    unfold l₅
    split
    · exact told
    · rfl
  have all : l₅.functions = l.functions := limits.trans (runs.trans (notes.trans tests))
  split
  · rfl
  · exact (Lane.inhRelease_functions _).trans ((Lane.blendUpdate_functions _).trans all)

theorem Lane.countSets_functions (l : Lane) : l.countSets.functions = l.functions := by
  refine Lane.each_keeps Lane.functions 8 _ (fun k m => ?_) l
  split
  · rfl
  · extract_lets n old _ m₁
    split
    · exact Lane.eventU_functions _ _
    · rfl

theorem Lane.contact_functions (l : Lane) (w : Nat) : (l.contact w).functions = l.functions := by
  unfold Lane.contact
  dsimp only
  split
  · split
    · exact Lane.eventU_functions _ _
    · rfl
  · split
    · split
      · exact Lane.eventU_functions _ _
      · rfl
    · rfl

theorem Lane.slackRun_functions (l : Lane) (w : Nat) : (l.slackRun w).functions = l.functions := by
  unfold Lane.slackRun
  dsimp only
  split
  · rfl
  · split
    · rfl
    · split
      · rfl
      · split <;> rfl

/-- With no self-test to end, the clamp of a wheel leaves the functions and the self-tests alone. -/
theorem Lane.brakeWheel_functions (l : Lane) (w : Nat) (test : l.gd.test = none) (run : l.bist.run = none) :
    (l.brakeWheel w).functions = l.functions ∧ (l.brakeWheel w).gd = l.gd ∧ (l.brakeWheel w).bist = l.bist := by
  unfold Lane.brakeWheel
  extract_lets _ l₁ x l₂ asked want cap c on l₃ bad l₄
  have forced : l₁.functions = l.functions ∧ l₁.gd = l.gd ∧ l₁.bist = l.bist := by
    unfold l₁
    split <;> exact ⟨rfl, rfl, rfl⟩
  have released : l₂.functions = l₁.functions ∧ l₂.gd = l₁.gd ∧ l₂.bist = l₁.bist := by
    unfold l₂
    split <;> exact ⟨rfl, rfl, rfl⟩
  obtain ⟨fn₁, gd₁, bist₁⟩ := forced
  obtain ⟨fn₂, gd₂, bist₂⟩ := released
  have same : l₃ = l₂ := by
    unfold l₃
    rw [Lane.safetyRequest_idle _ _ (by rw [gd₂, gd₁, test]) (by rw [bist₂, bist₁, run]), ite_self]
  have frame : Within [.fn] l₄ (l₄.contact w) := (Within.refl l₄).contact w
  refine ⟨(l₄.contact_functions w).trans ?_, frame.gd_eq.trans ?_, frame.bist_eq.trans ?_⟩
  · exact (congrArg Lane.functions same).trans (fn₂.trans fn₁)
  · exact (congrArg Lane.gd same).trans (gd₂.trans gd₁)
  · exact (congrArg Lane.bist same).trans (bist₂.trans bist₁)

/-- The wheels of an outer period. -/
theorem Lane.brakeWheels_functions (l : Lane) (ws : List Nat) (test : l.gd.test = none) (run : l.bist.run = none) :
    (l.eachOf ws fun w l => (l.brakeWheel w).slackRun w).functions = l.functions := by
  have all : (l.eachOf ws fun w l => (l.brakeWheel w).slackRun w).functions = l.functions ∧ (l.eachOf ws fun w l => (l.brakeWheel w).slackRun w).gd = l.gd ∧
      (l.eachOf ws fun w l => (l.brakeWheel w).slackRun w).bist = l.bist := by
    refine List.foldlRecOn (motive := fun m : Lane => m.functions = l.functions ∧ m.gd = l.gd ∧ m.bist = l.bist) ws _ ⟨rfl, rfl, rfl⟩ ?_
    rintro m ⟨fn, gd, bist⟩ w -
    obtain ⟨fn', gd', bist'⟩ := m.brakeWheel_functions w (by rw [gd, test]) (by rw [bist, run])
    have frame : Within [.mp, .fn] (m.brakeWheel w) ((m.brakeWheel w).slackRun w) := (Within.refl _).slackRun w
    exact ⟨(Lane.slackRun_functions ..).trans (fn'.trans fn), frame.gd_eq.trans (gd'.trans gd), frame.bist_eq.trans (bist'.trans bist)⟩
  exact all.1

theorem Lane.forwardAll_functions (l : Lane) : l.forwardAll.functions = l.functions := by
  unfold Lane.forwardAll
  extract_lets m
  have sent : Within [.link] l m := by
    refine (Within.refl l).eachOf _ fun i n hn => ?_
    dsimp only
    split
    · exact hn.foldl _ fun q b hq => hq.sendTo ..
    · exact hn
  exact sent.functions_eq

theorem Lane.fnPeriod_steers (l : Lane) (p : Setpoint) (runs : l.fnRuns = true) (ours : l.ownSet = true) (still : ∀ f < 5, (l.func f).srcNext = none) (pending : (l.func 0).pending = [p])
    (mode : (l.func 0).mode = 1) (hosts : ∀ f < 5, (l.func f).host = false) (begun : l.begun p.apply = true) (run : l.bist.run = none) (test : l.gd.test = none) :
    (l.fnPeriod []).fn.steerSet = p.vals.headD f0 ∧ ((l.fnPeriod []).func 0).pending = [] := by
  unfold Lane.fnPeriod
  extract_lets l₁ l₂ l₃ l₄ l₅ l₆ l₇ l₈ l₉
  rw [if_neg (by simp [runs])]
  have sources : l₂ = l := by
    have quiet (f : Nat) (hf : f < 5) (m : Lane) (h : m = l) : m.sourceSwitch f = l := by
      rw [h, Lane.sourceSwitch, still f hf]
    exact List.foldlRecOn (motive := fun m => m = l) [0, 1, 2, 3, 4] _ rfl fun m hm f hf => quiet f (by simp at hf; omega) m hm
  have steers : l₃.Steered (p.vals.headD f0) := by
    unfold l₃
    rw [sources]
    exact (Lane.setpointsDue_steered (Lane.setpointsDue_steered (l.setpointsDue_steers p ours pending mode hosts begun) 1 (by decide)) 4 (by decide))
  have quiet : Within [.held, .mp, .fn] l l₃ := by
    unfold l₃
    rw [sources]
    exact (Within.refl l).eachOf _ fun f m hm => hm.setpointsDue f
  clear_value l₃
  have steered := steers
  obtain ⟨-, -, -, hardware, hw, own⟩ := steered
  have streams : l₄ = l₃ := by
    have off (f : Nat) (hf : f < 5) (i : Nat) : l₃.streamStep f i = l₃ := by
      unfold Lane.streamStep
      rw [hw f hf, Bool.not_false, Bool.or_true, if_pos rfl]
    unfold l₄
    rw [off 0 (by decide), off 1 (by decide), off 4 (by decide)]
  have checks : l₅ = l₃ := by
    have off (f : Nat) (hf : f < 5) : (l₃.streamCheck f).misCheck f = l₃ := by
      rw [Lane.streamCheck, hw f hf, Bool.false_and, if_neg (by decide)]
      unfold Lane.misCheck
      simp [own]
    unfold l₅
    rw [streams]
    exact List.foldlRecOn (motive := fun m => m = l₃) [0, 1, 4] _ rfl fun m hm f hf => by rw [hm]; exact off f (by simp at hf; omega)
  have same : l₆ = l₃ := by
    unfold l₆
    rw [checks, hardware]
    simp
  clear_value l₆
  subst same
  have counted : Within [.fn] l₆ l₇ := (Within.refl l₆).countSets
  have retards : Within [.link, .pwm, .channels, .sns, .fn] l₇ l₈ := (Within.refl l₇).retard
  have fn₈ : l₈.functions = l₆.functions := (Lane.retard_functions _).trans (Lane.countSets_functions _)
  have test₈ : l₈.gd.test = none := by rw [retards.gd_eq, counted.gd_eq, quiet.gd_eq, test]
  have run₈ : l₈.bist.run = none := by rw [retards.bist_eq, counted.bist_eq, quiet.bist_eq, run]
  have fn₉ : l₉.functions = l₆.functions := (Lane.brakeWheels_functions _ _ test₈ run₈).trans fn₈
  clear_value l₉
  have judged : Within [.red] l₉.forwardAll l₉.forwardAll.assess := (Within.refl _).assess
  have last : l₉.forwardAll.assess.stopTrack.functions = l₆.functions := judged.functions_eq.trans ((Lane.forwardAll_functions l₉).trans fn₉)
  simp only [Lane.functions, Prod.mk.injEq] at last
  obtain ⟨fn, -, steer⟩ := last
  obtain ⟨set, -, empty, -⟩ := steers
  refine ⟨steer.trans set, ?_⟩
  rw [Lane.func, fn]
  exact empty

/-- Settles O26. -/
theorem setpoints : Obligations.Setpoints := by
  unfold Obligations.Setpoints
  refine ⟨?_, ?_⟩
  · intro s a m taken
    refine ⟨?_, ?_, ?_, ?_⟩
    · intro l ready on hw low high
      obtain ⟨xs, takes⟩ := l.trySteer_takes true (m.f32 0) (m.f32 4) (m.u32 8) on hw low high
      exact answers_of rfl ready (congrArg answered takes) ⟨rfl, rfl, rfl⟩
    · intro l vals ready on hw some_ below force
      have known := l.enabled_known on
      obtain ⟨xs, forwards⟩ := ((l.refreshed 1 (m.f32 4) (l.fn.fn.set 1 (l.takenFn 1 ⟨vals, m.u8 0, m.u32 8⟩))).fnForwards_fwd ((List.range 4).filter (bit (m.u8 0))) true 1
        (fun w => vals.getD w f0) (m.f32 4) (m.u32 8))
      have takes : l.tryBrake true (m.u8 0) vals (m.f32 4) (m.u32 8) = ({ l.refreshed 1 (m.f32 4) (l.fn.fn.set 1 (l.takenFn 1 ⟨vals, m.u8 0, m.u32 8⟩)) with
          fn := { (l.refreshed 1 (m.f32 4) (l.fn.fn.set 1 (l.takenFn 1 ⟨vals, m.u8 0, m.u32 8⟩))).fn with fwd := xs } }, stAccepted) := by
        unfold Lane.tryBrake
        dsimp only
        rw [if_neg (by simp [on, hw]), if_neg ?_, l.setpointTake_takes 1 _ _ known, forwards]
        have named : ((List.range 4).filter (bit (m.u8 0))).isEmpty = false := by
          have named : ∀ v < 16, 0 < v → ((List.range 4).filter (bit v)).isEmpty = false := by decide
          exact named _ below some_
        have low : (((List.range 4).filter (bit (m.u8 0))).any fun w => flt (vals.getD w f0) f0 || flt (l.pf 0x9120 w) (vals.getD w f0)) = false := by
          refine any_false_of fun w hw => ?_
          obtain ⟨range, marked⟩ := List.mem_filter.mp hw
          have four : w < 4 := List.mem_range.mp range
          have val : vals.getD w f0 = m.f32 (12 + 4 * w) := by simp [vals, List.getD, four]
          obtain ⟨low, high⟩ := force w four marked
          rw [val, low, high]
          rfl
        rw [named, low]
        simp
        omega
      exact answers_of rfl ready (congrArg answered takes) ⟨rfl, rfl, rfl, rfl⟩
    · intro l ready on
      have known := l.enabled_known on
      have takes : l.tryRetard true (m.f32 0) (m.f32 4) (m.u32 8) = ((l.setpointTake 4 (m.f32 4) ⟨[m.f32 0], 1, m.u32 8⟩).fnForward true 4 0 (m.f32 0) (m.f32 4) (m.u32 8), stAccepted) :=
        if_neg (by simp [on])
      rw [Lane.fnForward_fwd, l.setpointTake_takes 4 _ _ known] at takes
      refine answers_of rfl ready (congrArg answered takes) ⟨rfl, rfl, ?_, ?_, rfl⟩
      · cases h : (l.func 4).host <;> simp [Lane.refreshed, h]
      · cases h : (l.func 4).host <;> simp [Lane.refreshed, h]
    · intro l angle ready one own kind on hw low high
      obtain ⟨xs, takes⟩ := l.trySteer_takes true angle (m.f32 0) (m.u32 4) on hw low high
      refine answers_of rfl ready (x := (l.trySteer true angle (m.f32 0) (m.u32 4)).1) ?_ ?_
      · have record : l.batchRecord m 0 = (l.trySteer true angle (m.f32 0) (m.u32 4)).1 := by
          have own : ¬ (m.u8 (12 + 8 * 0) != l.np 0xB105) = true := by simpa using own
          unfold Lane.batchRecord
          rw [if_neg own, show m.u8 (12 + 8 * 0 + 1) = 1 from kind]
          change (if bit 1 1 = true then _ else if bit 1 0 = true then Lane.batchResult 0x12 (l.trySteer true angle (m.f32 0) (m.u32 4)) else l) = _
          rw [if_neg (by decide), if_pos (by decide), Lane.batchResult, takes]
          rfl
        unfold Lane.hFnBatch
        rw [one]
        exact congrArg done record
      · rw [takes]
        exact ⟨rfl, rfl⟩
  · intro s a p l runs ours still pending mode host hosts begun run test
    have steers := l.fnPeriod_steers p runs ours still pending mode hosts begun run test
    generalize result : l.fnPeriod [] = n at steers
    exact next_of_eq (f := fun l => l.fnPeriod []) rfl rfl result steers

end Sys2Proof.Machine
end

section
/-! The settlement of O27: the response of SPRING_BRAKE over CAN. -/

namespace Sys2Proof.Machine

set_option Elab.async false

/-- SPRING_BRAKE with apply and emergency, received over CAN. -/
def springOverCan : Msg := { tr := .can, args := [129, 0, 0, 0, 0, 0, 0, 0] }

/-- A command that brings the sensed switches of lane A. -/
def sensedAt : At := { at0 with sw := some [true, true, true] }

/-- The frames that CAN controller 0 of lane A has sent. -/
def canSent : Out → Nat
  | .next s => (s.a.canOf 0).txFresh.toNat
  | _ => 0

/-- Refutes O27: where the switches come with SPRING_BRAKE, the clause lets nothing but the functions and the reports change, while a response over CAN goes into the controller's transmit queue (R349). -/
theorem not_brakeCommands : ¬ Obligations.BrakeCommands := by
  unfold Obligations.BrakeCommands
  intro h
  obtain ⟨spring, -⟩ := h (on (up .shadow)) sensedAt springOverCan
  obtain ⟨-, sensed⟩ := spring (by decide +kernel) (by decide +kernel) (by decide +kernel) (by decide +kernel) (by decide +kernel)
  obtain ⟨l', answers, -, -, -, -, frame⟩ := sensed (by decide)
  have sent : canSent (exec (.springBrake sensedAt springOverCan) (on (up .shadow))) = 1 := by decide +kernel
  rw [answers] at sent
  have ports : l'.ports = ((on (up .shadow)).laneAt sensedAt |>.taken 0x14 springOverCan).ports := (congrArg Lane.ports frame :)
  have none : (l'.canOf 0).txFresh.toNat = 0 := by
    rw [Lane.canOf, ports]
    decide +kernel
  exact absurd (show (l'.canOf 0).txFresh.toNat = 1 from sent) (by rw [none]; decide)

end Sys2Proof.Machine
end

section
/-! The tests of the cell, the retarder's channels and the wheels (R211, R214, R220, R223), and the settlement of O28. -/

namespace Sys2Proof.Machine

set_option Elab.async false

/-! ### The cell's tests (R220) -/

/-- Sensed switches that agree with the commanded ones are noted and change nothing else. -/
theorem Lane.sbSense_agrees (l : Lane) : ∃ x y, l.sbSense l.cmdClosed = { l with fn := { l.fn with sense := x, senseBad := y } } := by
  refine ⟨_, _, if_neg ?_⟩
  simp

/-- Of three switches one differs where the sensed ones are not the commanded ones. -/
theorem Lane.far_of_ne (l : Lane) (sense : List Bool) (three : sense.length = 3) (differs : sense ≠ l.cmdClosed) :
    (List.range 3).any (fun i => sense.getD i false != l.cmdClosed.getD i false) = true := by
  obtain ⟨x, y, z, rfl⟩ := List.length_eq_three.mp three
  by_contra near
  refine differs ?_
  simpa [Lane.cmdClosed, List.range_succ] using near

/-- A running test of the cell ends with the switches of the cell's mode. -/
theorem Lane.sbTestEnd_ends (l : Lane) (runs : l.fn.cellTest ≠ .none) (hold : l.fn.cell = .hold) :
    l.sbTestEnd.fn.cellTest = .none ∧ l.sbTestEnd.fn.testStop = l.fn.testStop ∧ l.sbTestEnd.fn.testOk = l.fn.testOk ∧ l.sbTestEnd.fn.cmdHold = true := by
  unfold Lane.sbTestEnd
  rw [if_neg (by simpa using runs), hold]
  exact ⟨rfl, rfl, rfl, rfl⟩

/-- A switch that differs from its command stops the tests for good. -/
theorem Lane.sbSense_differs (l : Lane) (sense : List Bool) (three : sense.length = 3) (differs : sense ≠ l.cmdClosed) (runs : l.fn.cellTest ≠ .none) (hold : l.fn.cell = .hold) :
    (l.sbSense sense).fn.cellTest = .none ∧ (l.sbSense sense).fn.testStop = true ∧ (l.sbSense sense).fn.testOk = false ∧ (l.sbSense sense).fn.cmdHold = true := by
  unfold Lane.sbSense
  extract_lets far bad _ m
  rw [if_pos (l.far_of_ne sense three differs)]
  generalize stopped : ({ m with fn := { m.fn with testStop := true, testOk := false } } : Lane) = n
  have told : (n.eventU 0x9109).fn = { m.fn with testStop := true, testOk := false } := by
    rw [((Within.refl (ps := []) n).eventU _).fn_eq, ← stopped]
  obtain ⟨none, stop, ok, closed⟩ := (n.eventU 0x9109).sbTestEnd_ends (by rw [told]; exact runs) (by rw [told]; exact hold)
  rw [told] at stop ok
  exact ⟨none, stop, ok, closed⟩

theorem Lane.sbTestStart_starts (l : Lane) (sw : Option (List Bool)) (agrees : sw = none ∨ sw = some l.cmdClosed) (drives : l.st.driving = true) (hold : l.fn.cell = .hold)
    (idle : l.fn.cellTest = .none) (may : l.fn.testStop = false) (fresh : l.fn.testedPer ≠ some l.sbPeriod) (turn : l.sbPeriod % 3 = l.id.idx) (cyc : l.cyc % 3 = l.id.idx)
    (peers : l.peersHold = true) :
    ∃ x y, l.sbTestStart sw = { l.releaseIds [0x9132, 0x9133] with fn := { l.fn with
      cellTest := .veto, testAt := l.now, testedPer := some l.sbPeriod, cmdVeto1 := false, cmdVeto2 := false, sense := x, senseBad := y } } := by
  obtain ⟨x, y, judged⟩ : ∃ x y, l.sbJudge sw = { l with fn := { l.fn with sense := x, senseBad := y } } := by
    rcases agrees with rfl | rfl
    · exact ⟨_, _, rfl⟩
    · exact l.sbSense_agrees
  unfold Lane.sbTestStart
  rw [judged]
  refine ⟨_, y, if_pos ?_⟩
  have due : (l.st.driving && l.fn.cell == .hold && l.fn.cellTest == .none && !l.fn.testStop && l.fn.testedPer != some l.sbPeriod &&
      l.sbPeriod % 3 == l.id.idx && l.cyc % 3 == l.id.idx && l.peersHold) = true := by
    simp [drives, hold, idle, may, fresh, turn, cyc, peers]
  exact due

/-- The step from the veto switches to the hold switch, while the sensed contacts agree. -/
theorem Lane.sbTestStep_turns (l : Lane) (due : l.fn.testAt + 40000 * l.p 0x9133 ≤ l.now) (hold : l.fn.cell = .hold) (veto : l.fn.cellTest = .veto) :
    ∃ x y, l.sbTestStep l.cmdClosed =
      { l with fn := { l.fn with cellTest := .hold, testAt := l.now, cmdVeto1 := true, cmdVeto2 := true, cmdHold := false, sense := x, senseBad := y } } := by
  obtain ⟨x, y, agrees⟩ := l.sbSense_agrees
  unfold Lane.sbTestStep
  rw [if_neg (by simp [veto, Lane.due, due]), if_neg (by simp [hold]), agrees]
  refine ⟨(List.range 3).map fun i => if y.getD i false then x.getD i false else [false, true, true].getD i false, y, ?_⟩
  simp only [veto]
  rfl

/-- A contact that differs ends the test, whose step does nothing more. -/
theorem Lane.sbTestStep_stops (l : Lane) (sense : List Bool) (three : sense.length = 3) (differs : sense ≠ l.cmdClosed) (due : l.fn.testAt + 40000 * l.p 0x9133 ≤ l.now)
    (hold : l.fn.cell = .hold) (runs : l.fn.cellTest ≠ .none) : l.sbTestStep sense = l.sbSense sense := by
  obtain ⟨ended, -⟩ := l.sbSense_differs sense three differs runs hold
  unfold Lane.sbTestStep
  rw [if_neg (by simp [runs, Lane.due, due]), if_neg (by simp [hold])]
  simp only [ended]

/-! ### The retarder's channels (R223) -/

theorem Lane.chop_known {l : Lane} {c : Nat} (other : l.chop c ≠ {}) : c < l.fn.ch.length := by
  by_contra far
  exact other (List.getD_eq_default _ _ (Nat.le_of_not_lt far))

/-- A duty is noted in its channel, whatever the channel's PWM output. -/
theorem Lane.chopDuty_notes (l : Lane) (c : Nat) (d : F32) : (l.chopDuty c d).fn = (l.setChop c { l.chop c with duty := d }).fn := by
  unfold Lane.chopDuty
  extract_lets m
  split
  · rfl
  · rfl

/-- A channel that is set, and then its duty. -/
theorem Lane.chopDuty_set (l : Lane) (c : Nat) (x : Chopper) (d : F32) (known : c < l.fn.ch.length) : ((l.setChop c x).chopDuty c d).fn = (l.setChop c { x with duty := d }).fn := by
  rw [Lane.chopDuty_notes]
  have here : (l.setChop c x).chop c = x := getD_set_same _ _ _ _ known
  rw [here]
  simp only [Lane.setChop, List.set_set]

theorem Lane.chopArm_arms (l : Lane) (c t : Nat) (sound : (l.chop c).faulty = false) (off : (l.chop c).armed = false) (on : (l.func 4).enabled = true) (drives : l.st.driving = true)
    (ok : l.drvOk c = true) (pre : (l.chop c).preAt = some t) (late : t + ms 1 ≤ l.now) :
    (l.chopArm c).fn = (l.setChop c { l.chop c with armed := true, inService := true, preAt := none, quietAt := none, misCnt := 0, duty := f0 }).fn := by
  have known := l.chop_known (c := c) (by intro none; rw [none] at pre; cases pre)
  have noted := l.chopDuty_set c { l.chop c with armed := true, inService := true, preAt := none, quietAt := none, misCnt := 0 } f0 known
  unfold Lane.chopArm
  extract_lets x n
  rw [if_pos (by simp [x, sound, off, on, drives, ok, pre, Lane.due, late])]
  split
  · exact ((Within.refl (ps := []) n).eventU _).fn_eq.trans noted
  · exact noted

theorem Lane.chopDisarm_disarms (l : Lane) (c t : Nat) (on : (l.chop c).armed = true) (quiet : (l.chop c).quietAt = some t) (late : t + sec 1 ≤ l.now) :
    (l.chopDisarm c).fn = (l.setChop c { l.chop c with armed := false, preAt := none, quietAt := none, duty := f0 }).fn := by
  have known := l.chop_known (c := c) (by intro none; rw [none] at on; cases on)
  unfold Lane.chopDisarm
  extract_lets x
  rw [if_pos (by simp [x, on, quiet, Lane.due, late])]
  exact l.chopDuty_set c _ f0 known

theorem Within.retarder {l l' : Lane} (h : Within [.fn, .pwm, .channels] l l') : Reports { l with fn := l'.fn, pwm := l'.pwm } l' := h

/-! ### The wheels (R211, R214) -/

/-- A quiet wheel starts the move that it was asked for. -/
theorem Lane.slackStart_starts (l : Lane) (w t k : Nat) (x : F32) (slot : l.adjSlot w = some k) (quiet : (l.wheel w).quietAt = some t) (late : t + ms 100 * l.p 0x912A ≤ l.now)
    (on : (l.func 2).enabled = true) (rests : (l.wheel w).running = false) (drives : l.st.driving = true) (motor : (l.motor k).enabled = true) (wanted : (l.wheel w).wanted = some x)
    (some' : (b32.toRat x.toNat).1 ≠ 0) :
    ∃ goal, l.slackStart w = ((l.releaseOf [0x9125] w).setWheel w { l.wheel w with running := true, wanted := none, goal := goal }).genPush (l.p 0x8110 k)
      (.move 1 (fmul x (l.pf 0x9129 w)) (l.pairCycle k)) none := by
  have gain : (l.releaseOf [0x9125] w).pf 0x9129 w = l.pf 0x9129 w := by
    rw [Lane.pf, Lane.p, l.pvals_releaseOf [0x9125] w 0x9129 w (by decide)]
    rfl
  have gen : (l.releaseOf [0x9125] w).p 0x8110 k = l.p 0x8110 k := by
    rw [Lane.p, l.pvals_releaseOf [0x9125] w 0x8110 k (by decide)]
    rfl
  have pair : (l.releaseOf [0x9125] w).pairCycle k = l.pairCycle k := by
    have mode : (l.releaseOf [0x9125] w).p 0x8140 k = l.p 0x8140 k := by
      rw [Lane.p, l.pvals_releaseOf [0x9125] w 0x8140 k (by decide)]
      rfl
    have period : (l.releaseOf [0x9125] w).np 0xB101 = l.np 0xB101 := by
      rw [Lane.np, l.pvals_releaseOf [0x9125] w 0xB101 0 (by decide)]
      rfl
    unfold Lane.pairCycle Lane.cyc Lane.cycRef
    rw [mode, period]
    rfl
  unfold Lane.slackStart
  simp only [slot]
  rw [if_pos (by simp [quiet, Lane.due, late, on, rests, drives, motor, wanted]), gen, pair]
  simp only [wanted, gain, beq_iff_eq, some', if_false]
  exact ⟨_, rfl⟩

theorem Lane.estMismatch_takes (l : Lane) (w t : Nat) (both : (l.wheel w).useMin = false) (apart : (l.wheel w).misSince = some t) (late : t + ms 50 ≤ l.now) :
    Within [] (l.setWheel w { l.wheel w with useMin := true }) (l.estMismatch w) := by
  unfold Lane.estMismatch
  extract_lets x
  rw [if_pos (by simp [x, both, apart, Lane.due, late])]
  exact (Within.refl _).eventU _

/-! ### The statement -/

theorem Within.cell {l l' : Lane} (h : Within [.fn] l l') : Reports { l with fn := l'.fn } l' := h

/-- Settles O28. -/
theorem cellRetarderAndWheels : Obligations.CellRetarderAndWheels := by
  unfold Obligations.CellRetarderAndWheels
  refine ⟨fun s a sense => ?_, fun s a c w t k x => ?_⟩
  · intro l
    refine ⟨fun agrees drives hold idle may fresh turn cyc peers => ?_, fun three due hold => ⟨fun agrees veto => ?_, fun differs runs => ?_⟩⟩
    · obtain ⟨x, y, starts⟩ := l.sbTestStart_starts a.sw agrees drives hold idle may fresh turn cyc peers
      exact next_of_eq (f := fun l => l.sbTestStart a.sw) rfl rfl starts (reports_wired _ a.lane)
    · obtain ⟨x, y, turns⟩ := l.sbTestStep_turns due hold veto
      subst agrees
      exact next_of_eq (f := fun m => m.sbTestStep l.cmdClosed) rfl rfl turns ⟨rfl, rfl, rfl, rfl, rfl, rfl, reports_wired _ a.lane⟩
    · obtain ⟨none, stop, ok, closed⟩ := l.sbSense_differs sense three differs runs hold
      exact next_of_eq (f := fun m => m.sbTestStep sense) rfl (by simp [three]) (l.sbTestStep_stops sense three differs due hold runs)
        ⟨none, stop, ok, closed, (((Within.refl l).sbSense sense).wired a.lane).cell⟩
  · intro l
    refine ⟨fun two sound off on drives ok pre late => ?_, fun two on quiet late => ?_, fun four slot quiet late on rests drives motor wanted some' => ?_, fun four both apart late => ?_⟩
    · exact next_of_eq rfl (by simpa using two) rfl ⟨l.chopArm_arms c t sound off on drives ok pre late, (((Within.refl l).chopArm c).wired a.lane).retarder⟩
    · exact next_of_eq rfl (by simpa using two) rfl ⟨l.chopDisarm_disarms c t on quiet late, (((Within.refl l).chopDisarm c).wired a.lane).retarder⟩
    · obtain ⟨goal, starts⟩ := l.slackStart_starts w t k x slot quiet late on rests drives motor wanted some'
      exact next_of_eq (f := fun m => m.slackStart w) rfl (by simpa using four) starts ⟨goal, rfl, rfl, reports_wired _ a.lane⟩
    · exact next_of_eq (f := fun m => m.estMismatch w) rfl (by simpa using four) rfl ((l.estMismatch_takes w t both apart late).wired a.lane).reports

end Sys2Proof.Machine
end

section
/-! The checks of R337 in their order, repetitions and broadcasts, and the settlement of O29. -/

namespace Sys2Proof.Machine

set_option Elab.async false

/-! ### The checks in their order (R337) -/

theorem Lane.gate_expired (l : Lane) (op : Nat) {m : Msg} (v2 : m.ver = 2) (late : l.expired m.expire = true) : l.gate op m = some stTimeout := by
  unfold Lane.gate
  exact if_pos (by simp [v2, late])

section
variable (l : Lane) (op : Nat) {m : Msg} (live : l.expired m.expire = false)
include live

theorem Lane.gate_version (v1 : m.ver ≠ 1) (v2 : m.ver ≠ 2) : l.gate op m = some stUnsupported := by
  unfold Lane.gate
  extract_lets v
  rw [if_neg (by simp [live])]
  exact if_pos (by simp [v, v1, v2])

variable (v2 : m.ver = 2)
include v2

theorem Lane.gate_masked (masked : bit (l.senderMask m.tr).toNat (op / 16) = false) : l.gate op m = some stRefusedAuth := by
  unfold Lane.gate
  extract_lets v
  rw [if_neg (by simp [live]), if_neg (by simp [v2])]
  exact if_pos (by simp [masked])

variable (open_ : bit (l.senderMask m.tr).toNat (op / 16) = true)
include open_

theorem Lane.gate_session (closed : l.sesHas (l.sesNeed op m.tr) m = false) : l.gate op m = some stRefusedAuth := by
  unfold Lane.gate
  extract_lets v
  rw [if_neg (by simp [live]), if_neg (by simp [v2]), if_neg (by simp [open_])]
  exact if_pos (by simp [closed])

variable (session : l.sesHas (l.sesNeed op m.tr) m = true)
include session

theorem Lane.gate_opcode (unlisted : layoutOf op = none) : l.gate op m = some stUnsupported := by
  unfold Lane.gate
  extract_lets v
  rw [if_neg (by simp [live]), if_neg (by simp [v2]), if_neg (by simp [open_]), if_neg (by simp [session])]
  exact if_pos (by simp [unlisted])

theorem Lane.gate_layout (listed : layoutOf op ≠ none) (bad : layoutOk op m.args = false) : l.gate op m = some stBadParam := by
  unfold Lane.gate
  extract_lets v
  rw [if_neg (by simp [live]), if_neg (by simp [v2]), if_neg (by simp [open_]), if_neg (by simp [session]), if_neg (by simp [listed, v, v2])]
  exact if_pos (by simp [v, v2, bad])

end

/-! ### Commands that are put aside (R348, R349) -/

/-- A repetition over Icbex gets the stored response. -/
theorem Lane.aside_repeated (l : Lane) (op : Nat) {m : Msg} {r : Remembered} (net : m.tr = .net) (single : m.bcast = false)
    (stored : l.mb.memNet.find? (fun r => r.host == m.host && r.msgId == m.msgId) = some r) :
    l.aside op m = some ((l.setCnt .net { l.cntOf .net with dup := (l.cntOf .net).dup + 1 }).respSend (m.key op) r.resp) := by
  simp [Lane.aside, Lane.recall, net, single, stored]

/-- A broadcast outside the functions' opcodes is discarded and counted. -/
theorem Lane.aside_broadcast (l : Lane) (op : Nat) {m : Msg} (bus : m.tr = .net ∨ m.tr = .can) (all : m.bcast = true) (other : op < 0x10 ∨ 0x1F < op) :
    l.aside op m = some { l with mb.bcastDrop := l.mb.bcastDrop + 1 } := by
  unfold Lane.aside
  refine if_pos ?_
  have none : (decide (0x10 ≤ op) && decide (op ≤ 0x1F)) = false := by
    rw [Bool.and_eq_false_iff, decide_eq_false_iff_not, decide_eq_false_iff_not]
    omega
  rw [all, none]
  rcases bus with bus | bus
  · simp [bus]
  · simp [bus]

/-! ### The statement -/

/-- Settles O29. -/
theorem commandChecks : Obligations.CommandChecks := by
  unfold Obligations.CommandChecks
  refine fun s a op m t taken => ⟨fun v2 late => t.gate_expired op v2 late, fun v1 v2 live => t.gate_version op live v1 v2, fun v2 live masked => t.gate_masked op live v2 masked,
    fun v2 live open_ closed => t.gate_session op live v2 open_ closed, fun v2 live open_ session unlisted => ?_,
    fun v2 live open_ session listed bad => t.gate_layout op live v2 open_ session listed bad, fun st h kept failed => (s.laneAt a).serve_checked t op st m h taken kept failed,
    fun h r net single stored => (s.laneAt a).serve_aside t _ op m h taken (t.aside_repeated op net single stored),
    fun h bus all other => (s.laneAt a).serve_aside t _ op m h taken (t.aside_broadcast op bus all other)⟩
  have unsupported := t.gate_opcode op live v2 open_ session unlisted
  refine ⟨unsupported, fun byte kept => ?_⟩
  have served := (s.laneAt a).serve_checked t op stUnsupported m (fun l => refuse l stUnsupported) taken kept unsupported
  have e : exec (.unknownOpcode a op m) s = run ((layoutOf op).isNone && decide (op < 256)) s a (fun l => l.serve op m (fun l => refuse l stUnsupported)) := rfl
  rw [e, run_ok (by simp [unlisted, byte])]
  exact congrArg (fun l => Host.Outcome.next (s.put a l)) served

end Sys2Proof.Machine
end

section
/-! What reports leave of the mailboxes, the session commands (R351 to R353), and the settlement of O30. -/

namespace Sys2Proof.Machine

set_option Elab.async false

/-! ### What a report leaves of the mailboxes -/

/-- Of the host SPI port, interrupts may have come and the line of HIRQ may have moved. -/
def SpiPort.raised (x y : SpiPort) : Prop :=
  y = { x with irqStat := y.irqStat, hirq := y.hirq, hirqHigh := y.hirqHigh, hirqEver := y.hirqEver } ∧ y.irqStat &&& x.irqStat = x.irqStat

theorem SpiPort.raised.refl (x : SpiPort) : x.raised x := ⟨rfl, BitVec.and_self⟩

theorem SpiPort.raised.trans {x y z : SpiPort} (h : x.raised y) (i : y.raised z) : x.raised z := by
  obtain ⟨same, stay⟩ := h
  obtain ⟨same', stay'⟩ := i
  exact ⟨by rw [same', same], by rw [← stay, ← BitVec.and_assoc, stay']⟩

/-- Of the mailboxes, the queues with their ring, the interrupts of the host SPI port and the log of events alone may differ. -/
def Mb.told (x y : Mb) : Prop :=
  y = { x with q := y.q, ring := y.ring, spi := y.spi, log := y.log, evtCnt := y.evtCnt, evtLost := y.evtLost } ∧ x.spi.raised y.spi

theorem Mb.told.trans {x y z : Mb} (h : x.told y) (i : y.told z) : x.told z := by
  obtain ⟨same, raised⟩ := h
  obtain ⟨same', raised'⟩ := i
  exact ⟨by rw [same', same], raised.trans raised'⟩

theorem Mb.told_log (x : Mb) (log : List EventRec) (cnt lost : Nat) : x.told { x with log := log, evtCnt := cnt, evtLost := lost } := ⟨rfl, .refl _⟩

/-- What changes the queues and their ring alone. -/
theorem Mb.told_queues (x : Mb) (q : List Queue) (ring : List Host.Cell) : x.told { x with q := q, ring := ring } := ⟨rfl, .refl _⟩

/-- The line of HIRQ moves, and no interrupt comes or goes. -/
theorem Lane.irqLine_moves (l : Lane) : ∃ line high ever, l.irqLine.mb = { l.mb with spi := { l.mb.spi with hirq := line, hirqHigh := high, hirqEver := ever } } := by
  unfold Lane.irqLine
  extract_lets q want free
  split
  · split
    · exact ⟨_, _, _, rfl⟩
    · exact ⟨_, _, _, rfl⟩
  · split
    · exact ⟨_, _, _, rfl⟩
    · exact ⟨_, _, _, rfl⟩

theorem Lane.irqSet_told (l : Lane) (n : Nat) : l.mb.told (l.irqSet n).mb := by
  unfold Lane.irqSet
  generalize flagged : ({ l with mb := { l.mb with spi := { l.mb.spi with irqStat := l.mb.spi.irqStat ||| BitVec.ofNat 32 (2 ^ n) } } } : Lane) = m
  obtain ⟨line, high, ever, moves⟩ := m.irqLine_moves
  rw [moves, ← flagged]
  refine ⟨rfl, rfl, ?_⟩
  ext i
  simp only [BitVec.getElem_and, BitVec.getElem_or]
  cases l.mb.spi.irqStat[i] <;> simp

theorem Lane.qPut_told (l : Lane) (n flags : Nat) (data : List Byte) : l.mb.told (l.qPut n flags data).mb := by
  unfold Lane.qPut
  extract_lets q fl e ring q' _ m
  have put : l.mb.told m.mb := l.mb.told_queues ..
  split
  · exact put.trans (m.irqSet_told _)
  · exact put

theorem Lane.qMarkDrop_told (l : Lane) (n : Nat) : l.mb.told (l.qMarkDrop n).mb := by
  unfold Lane.qMarkDrop
  extract_lets q
  split
  · exact l.mb.told_queues ..
  · split
    · exact l.mb.told_queues ..
    · exact l.mb.told_queues ..

theorem Lane.qPop_told (l : Lane) (n : Nat) : l.mb.told (l.qPop n).mb := by
  unfold Lane.qPop
  extract_lets q
  split
  · exact l.mb.told_queues ..
  · exact l.mb.told_queues ..

theorem Lane.qOverwrite_told (l : Lane) (n : Nat) (data : List Byte) : l.mb.told (l.qOverwrite n data).mb := by
  unfold Lane.qOverwrite Lane.when
  split
  · exact ((l.qPop_told n).trans ((l.qPop n).qMarkDrop_told n)).trans (Lane.qPut_told ..)
  · exact l.qPut_told ..

theorem Lane.logAdd_mb (l : Lane) (code : Nat) (arg : W32) (t : Nat) (aon : Bool) : (l.logAdd code arg t aon).mb = l.mb := by
  unfold Lane.logAdd
  split
  · rfl
  · rfl

theorem Lane.eventRaw_told (l : Lane) (code arg : Nat) (after : Bool) : l.mb.told (l.eventRaw code arg after).mb := by
  unfold Lane.eventRaw
  extract_lets e lost _ m
  have logged : l.mb.told m.mb := l.mb.told_log ..
  rw [Lane.logAdd_mb]
  exact logged.trans (m.qOverwrite_told ..)

theorem Lane.event_told (l : Lane) (code arg : Nat) : l.mb.told (l.event code arg).mb := by
  unfold Lane.event
  split
  · have first : l.mb.told ({ l with mb.evtLost := 0 } : Lane).mb := l.mb.told_log ..
    exact (first.trans (Lane.eventRaw_told ..)).trans (Lane.eventRaw_told ..)
  · exact l.eventRaw_told ..

theorem Lane.eventU_told (l : Lane) (code : Nat) : l.mb.told (l.eventU code).mb := ({ l with fresh := l.fresh + 1 } : Lane).event_told ..

section
variable {x y : Mb} (h : x.told y)
include h
theorem Mb.told.ses : y.ses = x.ses := (congrArg Mb.ses h.1 :)
theorem Mb.told.failCount : y.failCount = x.failCount := (congrArg Mb.failCount h.1 :)
theorem Mb.told.lockUntil : y.lockUntil = x.lockUntil := (congrArg Mb.lockUntil h.1 :)
theorem Mb.told.lockLen : y.lockLen = x.lockLen := (congrArg Mb.lockLen h.1 :)
end

/-! ### The session commands (R351 to R353) -/

/-- The right response to a nonce that is not expired and was given to this host opens its level. -/
theorem Lane.hSessionResponse_opens (l : Lane) (m : Msg) (level : m.u8 0 = 1 ∨ m.u8 0 = 2) {n : List Byte} {t : Nat} (nonce : (l.ses m.tr).nonce = some (n, t)) (live : l.now < t + sec 10)
    (host : (l.ses m.tr).nonceHost = m.host) (key : l.keyLoaded (3 + m.u8 0) = true) (right : l.sesValue (m.u8 0) n m.tr m.host = (m.args.drop 4).take 16) :
    ∃ x, Lane.hSessionResponse m l = (x, .now stDone []) ∧
      x.mb.ses = l.mb.ses.set (m.tr.code - 1) { l.ses m.tr with nonce := none, level := m.u8 0, host := m.host, lastCmd := l.now, idle := sec (l.p 0x1105) } ∧
      x.mb.failCount = 0 ∧ x.mb.lockLen = 10 ∧ Within [] l x := by
  have known : (m.u8 0 != 1 && m.u8 0 != 2) = false := by
    rcases level with level | level
    · simp [level]
    · simp [level]
  unfold Lane.hSessionResponse
  extract_lets lv s good a b
  rw [if_neg (by rw [known]; decide), if_pos (by simp [good, s, lv, nonce, live, host, key, right])]
  generalize opened : ({ b with mb := { b.mb with failCount := 0, lockLen := 10 } } : Lane) = c
  have told : c.mb.told (c.eventU 0x1106).mb := c.eventU_told _
  subst opened
  have ses : b.mb.ses = l.mb.ses.set (m.tr.code - 1) { s with nonce := none, level := m.u8 0, host := m.host, lastCmd := l.now, idle := sec (l.p 0x1105) } := List.set_set ..
  exact ⟨_, rfl, told.ses.trans ses, told.failCount, told.lockLen, .trans (.upd (.refl l)) ((Within.refl _).eventU _)⟩

theorem Lane.hSessionResponse_fails (l : Lane) (m : Msg) (level : m.u8 0 = 1 ∨ m.u8 0 = 2) {n : List Byte} {t : Nat} (nonce : (l.ses m.tr).nonce = some (n, t))
    (wrong : l.sesValue (m.u8 0) n m.tr m.host ≠ (m.args.drop 4).take 16) :
    Lane.hSessionResponse m l = ((l.setSes m.tr { l.ses m.tr with nonce := none }).sesFail, .now stRefusedAuth []) := by
  have known : (m.u8 0 != 1 && m.u8 0 != 2) = false := by
    rcases level with level | level
    · simp [level]
    · simp [level]
  unfold Lane.hSessionResponse
  extract_lets lv s good a b
  rw [if_neg (by rw [known]; decide), if_neg (by simp [good, s, lv, nonce, wrong])]

/-- The third failure in a row locks challenges out (R353). -/
theorem Lane.sesFail_locks (l : Lane) (third : 2 ≤ l.mb.failCount) :
    l.sesFail.mb.ses = l.mb.ses ∧ l.sesFail.mb.failCount = l.mb.failCount + 1 ∧ l.sesFail.mb.lockUntil = l.now + sec l.mb.lockLen ∧
      l.sesFail.mb.lockLen = min 640 (2 * l.mb.lockLen) ∧ Within [] l l.sesFail := by
  unfold Lane.sesFail
  extract_lets _ m
  have told : ({ l with mb.failCount := l.mb.failCount + 1 } : Lane).mb.told m.mb := Lane.eventU_told ..
  have frame : Within [] l m := (Within.refl (ps := []) ({ l with mb.failCount := l.mb.failCount + 1 } : Lane)).eventU _
  have count : m.mb.failCount = l.mb.failCount + 1 := told.failCount
  rw [if_pos (by rw [count]; omega)]
  generalize locked : ({ m with mb := { m.mb with lockUntil := m.now + sec m.mb.lockLen, lockLen := min 640 (2 * m.mb.lockLen) } } : Lane) = n
  have ended : n.mb.told (n.eventU 0x1108).mb := n.eventU_told _
  subst locked
  refine ⟨ended.ses.trans told.ses, ended.failCount.trans count, ended.lockUntil.trans ?_, ended.lockLen.trans ?_, ?_⟩
  · exact congrArg₂ (fun t k => t + sec k) frame.now_eq told.lockLen
  · exact congrArg (fun k => min 640 (2 * k)) told.lockLen
  · exact .trans frame ((Within.upd (.refl m)).eventU _)

/-! ### The statement -/

/-- Settles O30. -/
theorem sessionCommands : Obligations.SessionCommands := by
  unfold Obligations.SessionCommands
  refine fun s a m tr => ⟨?_, ?_, ?_, ?_⟩
  · intro l ready open_
    refine ⟨(List.range 16).map fun i => BitVec.ofNat 8 (Config.freeNat (l.fresh + i)), by simp, ?_⟩
    exact answers_of rfl ready (if_neg (Nat.not_lt.mpr open_)) ⟨rfl, rfl⟩
  · intro l x ready level n t nonce live host key
    refine ⟨fun right => ?_, fun wrong third => ?_⟩
    · obtain ⟨y, opens, ses, count, len, frame⟩ := l.hSessionResponse_opens m level nonce live host key right
      exact answers_of rfl ready opens ⟨ses, count, len, frame.reports⟩
    · have fails := l.hSessionResponse_fails m level nonce wrong
      obtain ⟨ses, count, lock, len, frame⟩ := (l.setSes m.tr { l.ses m.tr with nonce := none }).sesFail_locks third
      exact answers_of rfl ready fails ⟨ses, count, lock, len, (Within.trans (.upd (.refl l)) frame).reports⟩
  · intro l ready
    exact answers_of rfl ready rfl rfl
  · intro l opened late
    have closes : l.sesIdle tr = l.closeSes tr := if_pos (by simp [opened, Lane.due, late])
    exact next_of_eq (f := fun l => l.sesIdle tr) rfl rfl closes ⟨rfl, reports_wired _ a.lane⟩

end Sys2Proof.Machine
end

section
/-! The reading commands (R362, R364), and the settlement of O31. -/

namespace Sys2Proof.Machine

set_option Elab.async false

theorem Lane.hParamRead_reads (l : Lane) {m : Msg} {r : PRow} (v2 : m.ver = 2) (row : prow (m.u16 0) = some r) (some' : 0 < m.u16 4) (fits : m.u16 2 + m.u16 4 ≤ r.n)
    (short : (valueBlock r (m.u16 2) ((List.range (m.u16 4)).map fun i => l.readVals r (m.u8 6 == 1) (m.u16 2 + i))).length ≤ 2032) :
    Lane.hParamRead m l = (l, .now stDone (valueBlock r (m.u16 2) ((List.range (m.u16 4)).map fun i => l.readVals r (m.u8 6 == 1) (m.u16 2 + i)))) := by
  have first : ¬r.n ≤ m.u16 2 := by omega
  have last : ¬r.n < m.u16 2 + m.u16 4 := by omega
  unfold Lane.hParamRead
  have count : (m.u16 4 == 0) = false := beq_eq_false_iff_ne.mpr (Nat.ne_of_gt some')
  have version : (m.ver == 1) = false := by rw [v2]; rfl
  simp only [row, version, count, Bool.false_eq_true, if_false]
  refine (guarded_ok ?_).trans rfl
  simp [first, last, short]

theorem Lane.hParamInfo_reads (l : Lane) {m : Msg} {r : PRow} (row : prow (m.u16 0) = some r) :
    Lane.hParamInfo m l = (l, .now stDone ([b8 r.ty.code, b8 (b2n (r.cls != .ro))] ++ leBytes 2 r.n ++ leBytes 2 r.elems ++ [b8 r.cls.code, 0] ++
      if r.cls = .ro then List.replicate 24 0 else ext8 r r.lo ++ ext8 r r.hi ++ ext8 r ((l.dflt r.id 0).headD 0))) := by
  unfold Lane.hParamInfo
  simp only [row, beq_iff_eq]
  rfl

theorem Lane.hRedStatus_reads (l : Lane) :
    l.hRedStatus = (l, .now stDone
      (leBytes 4 (if LaneId.a = l.id then l.healthWord else if (l.peer .a).known = true then (l.peer .a).health.toNat else 0) ++
        leBytes 4 (if LaneId.b = l.id then l.healthWord else if (l.peer .b).known = true then (l.peer .b).health.toNat else 0) ++
        leBytes 4 (if LaneId.c = l.id then l.healthWord else if (l.peer .c).known = true then (l.peer .c).health.toNat else 0) ++
        leBytes 4 (if l.st = .authority then l.moduleStatus else l.red.modStat.toNat))) := by
  unfold Lane.hRedStatus
  simp only [beq_iff_eq]
  rfl

theorem Lane.hNetStatus_reads (l : Lane) {m : Msg} (own : m.u8 0 = 0) :
    Lane.hNetStatus m l = (l, .now stDone ([b8 l.netStateByte, b8 (l.chan 0).epoch, 0, 0] ++ leBytes 6 l.net.cycle.toNat ++ [0, 0] ++ leBytes 4 (nsF l.net.delta).toNat ++
      leBytes 4 (usF (l.retDelay.getD 0)).toNat ++ (l.rxCnt 64).words.flatMap fun w => leBytes 4 w.toNat)) := by
  unfold Lane.hNetStatus
  simp only [own, Nat.not_lt_zero, if_false, beq_self_eq_true, if_true]
  rfl

theorem Lane.hBistResult_reads (l : Lane) {m : Msg} {b : BistRec} (known : m.u8 0 < 16) (held : l.bistHolding (m.u8 0) = some b) :
    Lane.hBistResult m l = (l, .now stDone (leBytes 4 (b.results.getD (m.u8 0) {}).sig.toNat ++ leBytes 4 (b.results.getD (m.u8 0) {}).count ++
      [b8 (b.results.getD (m.u8 0) {}).status, 0, 0, 0] ++ leBytes 8 b.stamp)) := by
  unfold Lane.hBistResult
  simp only [held, Nat.not_le.mpr known, if_false]
  rfl

/-- A read from the number of the newest event gives that event alone. -/
theorem Lane.hEventRead_newest (l : Lane) {m : Msg} {e : EventRec} (some' : 0 < m.u8 2) (few : m.u8 2 ≤ 126) (newest : m.u16 0 = l.mb.evtCnt % 65536) (last : l.mb.log.getLast? = some e) :
    Lane.hEventRead m l = (l, .now stDone (leBytes 2 l.mb.evtCnt ++ [1, 0] ++ e.bytes l)) := by
  obtain ⟨older, log⟩ := List.getLast?_eq_some_iff.mp last
  have back : (l.mb.evtCnt + 65536 - m.u16 0) % 65536 = 0 := by omega
  have len : l.mb.log.length = older.length + 1 := by rw [log, List.length_append]; rfl
  have tail : (l.mb.log.drop older.length).take (m.u8 2) = [e] := by
    rw [log, List.drop_left, List.take_of_length_le some']
  have range : (decide (m.u8 2 < 1) || decide (126 < m.u8 2)) = false := by
    rw [Bool.or_eq_false_iff, decide_eq_false_iff_not, decide_eq_false_iff_not]
    omega
  unfold Lane.hEventRead
  simp only [back, len, tail, range, Bool.false_eq_true, if_false, Nat.succ_pos, if_true, Nat.sub_zero, Nat.add_sub_cancel, Nat.add_sub_cancel_left, List.length_singleton, List.flatMap_singleton]
  rfl

/-- Settles O31. -/
theorem readingCommands : Obligations.ReadingCommands := by
  unfold Obligations.ReadingCommands
  intro s a m r b e go
  refine ⟨?_, ?_, ?_, ?_, ?_, ?_, ?_, ?_, ?_, ?_, ?_⟩
  · exact fun ready => answers_of rfl ready rfl rfl
  · exact fun v2 row some' fits short ready => answers_of rfl ready (Lane.hParamRead_reads _ v2 row some' fits short) rfl
  · exact fun row ready => answers_of rfl ready (Lane.hParamInfo_reads _ row) rfl
  · exact fun ready => answers_of rfl ready (Lane.hRedStatus_reads _) rfl
  · exact fun own ready => answers_of rfl ready (Lane.hNetStatus_reads _ own) rfl
  · exact fun ready => answers_of rfl ready rfl rfl
  · exact fun known held ready => answers_of rfl ready (Lane.hBistResult_reads _ known held) rfl
  · exact fun ready => answers_of rfl ready rfl rfl
  · exact fun ready => answers_of rfl ready rfl rfl
  · exact fun some' few newest last ready => answers_of rfl ready (Lane.hEventRead_newest _ some' few newest last) rfl
  · exact fun ready => answers_of rfl ready rfl rfl

end Sys2Proof.Machine
end

section
/-! Writes, commits and discards of parameters (R366 to R368, Tables CP-8 and MB-4), and the settlement of O32. -/

namespace Sys2Proof.Machine

set_option Elab.async false

theorem all_of_forall {α : Type} {xs : List α} {p : α → Bool} (all : ∀ x ∈ xs, p x = true) : xs.all p = true := List.all_eq_true.mpr all

/-! ### Writes of one parameter (Table CP-8) -/

section
variable (l : Lane) {m : Msg} {r : PRow} {vs : List PVal} (reply : Nat → List Byte)

theorem Lane.writeParam_stages {c : PCond} (v2 : m.ver = 2) (cls : r.cls = .staged c) (own : l.stagedByOther m = false)
    (conds : ∀ v ∈ vs, l.condOk r.cls.cond v.id v.inst v.vals = true) (ranges : ∀ v ∈ vs, l.valueOk r v = true) :
    l.writeParam m r vs reply = (l.stage m vs, .now stDone (reply 1)) := by
  have version : (m.ver == 1) = false := by rw [v2]; rfl
  unfold Lane.writeParam
  simp only [all_of_forall conds, all_of_forall ranges]
  simp only [cls, version, Bool.false_eq_true, if_false]
  refine (guarded_ok ?_).trans rfl
  simp [own]

variable (free : ∀ v ∈ vs, l.valueTested v.id v.inst = false) (good : l.firstBad (l.withVals vs) vs = none)
include free good

theorem Lane.writeParam_direct (cls : r.cls ≠ .ro) (cls' : ∀ c, r.cls ≠ .staged c) (conds : ∀ v ∈ vs, l.condOk r.cls.cond v.id v.inst v.vals = true) :
    l.writeParam m r vs reply = (l.applyVals vs, .now stDone (reply 0)) := by
  unfold Lane.writeParam
  simp only [all_of_forall conds, any_false_of free]
  refine (guarded_ok ?_).trans ?_
  · simp
  · simp only [good]
    rfl

theorem Lane.commitSet_applies : l.commitSet vs = ((l.applyVals vs).estimate, stDone, none) := by
  unfold Lane.commitSet
  rw [if_neg (by rw [any_false_of free]; decide)]
  simp only [good]

theorem Lane.writeParam_old {c : PCond} (v1 : m.ver = 1) (cls : r.cls = .staged c) (none : l.mb.staged = none) :
    l.writeParam m r vs reply = ((l.applyVals vs).estimate, .now stDone (reply 0)) := by
  have version : (m.ver == 1) = true := by rw [v1]; rfl
  unfold Lane.writeParam
  simp only [cls, version, if_true]
  refine (guarded_ok ?_).trans ?_
  · simp [any_false_of free, none]
  · rw [l.commitSet_applies free good]
    rfl

end

/-! ### PARAM_WRITE -/

/-- The values of a PARAM_WRITE (R364). -/
def Msg.written (m : Msg) (r : PRow) : List PVal := (writeVals r (m.u16 4) (m.u16 8) (m.args.drop 12)).mapIdx fun i v => ⟨r.id, m.u16 2 + i, v⟩

/-- The value of a PARAM_WRITE in version 1 (Table MB-4). -/
def Msg.writtenOld (m : Msg) (r : PRow) : List PVal := [⟨r.id, m.u8 2, itemsOf r ((m.args.drop 4).length / r.ty.bytes) (m.args.drop 4)⟩]

theorem Lane.hParamWrite_writes (l : Lane) {m : Msg} {r : PRow} (row : prow (m.u16 0) = some r) (v2 : m.ver = 2) :
    Lane.hParamWrite m l = l.writeParam m r (m.written r) fun staged => leBytes 2 r.id ++ leBytes 2 (m.u16 4) ++ [b8 staged, 0, 0, 0] := by
  have version : (m.ver == 1) = false := by rw [v2]; rfl
  unfold Lane.hParamWrite
  simp only [row, version, Bool.false_eq_true, if_false]
  rfl

theorem Lane.hParamWrite_old (l : Lane) {m : Msg} {r : PRow} (row : prow (m.u16 0) = some r) (v1 : m.ver = 1) :
    Lane.hParamWrite m l = l.writeParam m r (m.writtenOld r) fun _ => m.args.drop 4 := by
  have version : (m.ver == 1) = true := by rw [v1]; rfl
  unfold Lane.hParamWrite
  simp only [row, version, if_true]
  rfl

/-! ### PARAM_COMMIT -/

theorem Lane.commitResult_good (l : Lane) (applied : Nat) :
    l.commitResult applied none = leBytes 2 applied ++ [0xFF, 0xFF, 0, 0, 0, 0] ++ leBytes 4 l.gd.pwrEst ++ leBytes 2 l.le.load ++ leBytes 2 l.sns.occ := by
  have bytes : leBytes 2 0xFFFF ++ leBytes 2 0 ++ [0, 0] = ([0xFF, 0xFF, 0, 0, 0, 0] : List Byte) := by decide
  unfold Lane.commitResult
  rw [← bytes]
  simp only [List.append_assoc]
  rfl

theorem Lane.hParamCommit_commits (l : Lane) {m : Msg} {st : Staged} (set : l.mb.staged = some st) (own : l.stagedByOther m = false) (go : m.u8 0 = 0)
    (free : ∀ v ∈ st.vals, l.valueTested v.id v.inst = false) {l₂ : Lane} (now : { l with mb.staged := some { st with lastAt := l.now } } = l₂)
    (good : l₂.firstBad (l₂.withVals st.vals) st.vals = none) {x : Lane} (force : (l₂.applyVals st.vals).estimate = x) :
    Lane.hParamCommit m l = ({ x with mb.staged := none }, .now stDone (x.commitResult st.vals.length none)) := by
  have free₂ : ∀ v ∈ st.vals, l₂.valueTested v.id v.inst = false := by
    subst now
    exact free
  have commit : (m.u8 0 == 1) = false := by rw [go]; rfl
  unfold Lane.hParamCommit
  simp only [set]
  refine (guarded_ok ?_).trans ?_
  · simp [any_false_of free, own, go]
  · simp only [commit, now, l₂.commitSet_applies free₂ good, force, Bool.false_eq_true, if_false, beq_self_eq_true, if_true]
    rfl

theorem Lane.hParamCommit_discards (l : Lane) {m : Msg} {st : Staged} (set : l.mb.staged = some st) (own : l.stagedByOther m = false) (drop : m.u8 0 = 1) :
    Lane.hParamCommit m l = ({ l with mb.staged := none }, .now stDone (l.commitResult 0 none)) := by
  unfold Lane.hParamCommit
  simp only [set]
  refine (guarded_ok ?_).trans ?_
  · simp [own, drop]
  · rw [drop]
    rfl

/-! ### The statement -/

/-- Settles O32. -/
theorem parametersAndStreams : Obligations.ParametersAndStreams := by
  unfold Obligations.ParametersAndStreams
  intro s a m r st c vals res body one
  refine ⟨?_, ?_⟩
  · intro l ready row
    refine ⟨fun v2 fits conds => ⟨fun cls own ranges => ?_, fun cls cls' free good => ?_⟩, fun v1 known free good => ⟨fun cls none => ?_, fun cls cls' conds => ?_⟩⟩
    · exact answers_of rfl ready ((l.hParamWrite_writes row v2).trans (l.writeParam_stages _ v2 cls own conds ranges)) ⟨rfl, rfl, rfl⟩
    · exact answers_of rfl ready ((l.hParamWrite_writes row v2).trans (l.writeParam_direct _ free good cls cls' conds)) rfl
    · exact answers_of rfl ready ((l.hParamWrite_old row v1).trans (l.writeParam_old _ free good v1 cls none)) rfl
    · exact answers_of rfl ready ((l.hParamWrite_old row v1).trans (l.writeParam_direct _ free good cls cls' conds)) rfl
  · intro l l₂ x ready set own
    refine ⟨fun go free good => ?_, fun drop => ?_⟩
    · have commits := l.hParamCommit_commits set own go free rfl good rfl
      rw [Lane.commitResult_good] at commits
      exact answers_of rfl ready commits rfl
    · have discards := l.hParamCommit_discards set own drop
      rw [Lane.commitResult_good] at discards
      exact answers_of rfl ready discards rfl

end Sys2Proof.Machine
end

section
/-! Streams, counters, traces and idle staged sets (R354, R355, R367), and the settlement of O33. -/

namespace Sys2Proof.Machine

set_option Elab.async false

section
variable {x y : Mb} (h : x.told y)
include h
theorem Mb.told.staged : y.staged = x.staged := (congrArg Mb.staged h.1 :)
theorem Mb.told.stream : y.stream = x.stream := (congrArg Mb.stream h.1 :)
end

/-! ### Staged sets and counters -/

theorem Lane.stageTimeout_discards (l : Lane) {st : Staged} (set : l.mb.staged = some st) (late : st.lastAt + sec 5 ≤ l.now) (runs : l.fwRuns = true) :
    l.stageTimeout.mb.staged = none ∧ Within [] l l.stageTimeout := by
  unfold Lane.stageTimeout
  simp only [set, Lane.due, late, runs, decide_true, Bool.and_self, if_true]
  generalize dropped : ({ l with mb := { l.mb with staged := none } } : Lane) = m
  have told := m.event_told 0x110C st.vals.length
  subst dropped
  exact ⟨told.staged, (Within.upd (.refl l)).event ..⟩

/-- A counter that is cleared is no parameter value. -/
theorem Lane.clearCounter_params (l : Lane) (id i : Nat) : (l.clearCounter id i).params = l.params := by
  unfold Lane.clearCounter
  split <;> rfl

theorem Lane.hCounterClear_clears (l : Lane) {m : Msg} {r : PRow} (row : prow (m.u16 0) = some r) (counter : counterIds.contains (m.u16 0) = true) (known : m.u16 2 < r.n)
    (one : m.u16 2 ≠ 0xFFFF) : Lane.hCounterClear m l = (l.clearCounter (m.u16 0) (m.u16 2), .now stDone []) := by
  have single : (m.u16 2 == 0xFFFF) = false := beq_eq_false_iff_ne.mpr one
  unfold Lane.hCounterClear
  simp only [row, single, Bool.false_eq_true, if_false]
  refine (guarded_ok ?_).trans rfl
  simp only [List.forall_mem_singleton, counter, Nat.not_le.mpr known, decide_false, Bool.and_false, Bool.not_true, Bool.or_self]

/-! ### Stream entries (R354) -/

theorem Lane.streamReject_counts (l : Lane) (i : Nat) :
    (l.streamReject i).mb.stream = l.mb.stream.set i { l.stream i with rejected := (l.stream i).rejected + 1 } ∧ Within [] l (l.streamReject i) := by
  unfold Lane.streamReject
  extract_lets x m told
  have counted : Within [] l m := .upd (.refl l)
  split
  · exact ⟨rfl, counted⟩
  · generalize noted : ({ m with mb := { m.mb with lastRejEv := some m.now } } : Lane) = n
    have told := n.eventU_told 0x1109
    subst noted
    exact ⟨told.stream, .trans counted ((Within.upd (.refl m)).eventU _)⟩

/-- The entry of a PUSH of one is the first of its bytes. -/
theorem Lane.hStreamPush_one (l : Lane) {m : Msg} (one : m.u8 0 = 1) :
    Lane.hStreamPush m l = ((l.streamTake ((m.args.drop 4).take 32)).1, .now stDone [.ofNat 8 (b2n (l.streamTake ((m.args.drop 4).take 32)).2), 0, 0, 0]) := by
  unfold Lane.hStreamPush
  rw [one]
  rfl

theorem Lane.streamTake_rejects (l : Lane) (e : List Byte) (closed : l.streamOpen (byteAt e 0) (byteAt e 1) = false) :
    l.streamTake e = (l.streamReject (streamInst (byteAt e 0) (byteAt e 1)), false) := by
  unfold Lane.streamTake
  exact if_pos (by simp [closed])

theorem Lane.streamTake_takes (l : Lane) (e : List Byte) (known : streamInst (byteAt e 0) (byteAt e 1) ≠ 95) (open_ : l.streamOpen (byteAt e 0) (byteAt e 1) = true)
    (fresh : (l.stream (streamInst (byteAt e 0) (byteAt e 1))).lastSeq ≠ some (.ofNat 16 (leAt e 2 2))) :
    ∃ gaps replaced : W32, l.streamTake e = (l.setStream (streamInst (byteAt e 0) (byteAt e 1)) { l.stream (streamInst (byteAt e 0) (byteAt e 1)) with
      fifo := (if l.p 0x1102 ≤ (l.stream (streamInst (byteAt e 0) (byteAt e 1))).fifo.length then (l.stream (streamInst (byteAt e 0) (byteAt e 1))).fifo.drop 1
          else (l.stream (streamInst (byteAt e 0) (byteAt e 1))).fifo) ++
        [{ stamp := .ofNat 64 (leAt e 8 8), v0 := .ofNat 32 (leAt e 16 4), v1 := .ofNat 32 (leAt e 20 4), v2 := .ofNat 32 (leAt e 24 4), v3 := .ofNat 32 (leAt e 28 4) }],
      lastSeq := some (.ofNat 16 (leAt e 2 2)), accepted := (l.stream (streamInst (byteAt e 0) (byteAt e 1))).accepted + 1, gaps := gaps, replaced := replaced }, true) := by
  unfold Lane.streamTake
  extract_lets kind index i x q gap v full fifo
  rw [if_neg (by simp [i, x, q, kind, index, known, open_, fresh])]
  refine ⟨if gap then x.gaps + 1 else x.gaps, if full then x.replaced + 1 else x.replaced, ?_⟩
  simp only [fifo, full, decide_eq_true_eq]
  rfl

/-! ### The statement -/

/-- Settles O33. -/
theorem streamsAndCounters : Obligations.StreamsAndCounters := by
  unfold Obligations.StreamsAndCounters
  refine ⟨fun s a m r st => ⟨?_, ?_, ?_⟩, fun s a m => ?_⟩
  · intro l set late runs
    obtain ⟨none, frame⟩ := l.stageTimeout_discards set late runs
    exact next_of_eq rfl rfl rfl ⟨none, (frame.wired a.lane).reports⟩
  · intro l id i ready row counter known one
    refine answers_of rfl ready (l.hCounterClear_clears row counter known one) ⟨rfl, l.clearCounter_params id i, fun h => ?_, fun h => ?_, fun h => ?_, fun h => ?_, fun h => ?_⟩
    · rw [show m.u16 0 = 0x1107 from h]; rfl
    · rw [show m.u16 0 = 0x3135 from h]
      by_cases known : i < l.pwm.src.length
      · rw [if_pos known]
        exact congrArg TripSrc.count (getD_set_same _ _ _ _ known)
      · rw [if_neg known]
        exact congrArg (fun xs => TripSrc.count (xs.getD i {})) (List.set_eq_of_length_le (Nat.le_of_not_lt known))
    · rw [show m.u16 0 = 0xB136 from h]; rfl
    · rw [show m.u16 0 = 0xC107 from h]; rfl
    · rw [show m.u16 0 = 0xE105 from h]; rfl
  · intro l ready valid
    exact answers_of rfl ready (if_neg (Nat.not_lt.mpr valid)) rfl
  · intro l e i x v ready one
    refine ⟨fun known open_ fresh => ?_, fun closed => ?_⟩
    · obtain ⟨gaps, replaced, takes⟩ := l.streamTake_takes e known open_ fresh
      have push := l.hStreamPush_one one
      rw [takes] at push
      exact answers_of rfl ready push ⟨gaps, replaced, rfl⟩
    · have push := l.hStreamPush_one one
      rw [l.streamTake_rejects e closed] at push
      obtain ⟨counted, frame⟩ := l.streamReject_counts i
      exact answers_of rfl ready push ⟨counted, frame.reports⟩

end Sys2Proof.Machine
end

section
/-! Transactions of the host SPI (R334, R339 to R343), and the settlement of O35. -/

namespace Sys2Proof.Machine

set_option Elab.async false

section
variable {x y : Mb} (h : x.told y)
include h
theorem Mb.told.raised : x.spi.raised y.spi := And.right h
theorem Mb.told.crcErr : y.spi.crcErr = x.spi.crcErr := (congrArg SpiPort.crcErr h.raised.left :)
theorem Mb.told.irqEn : y.spi.irqEn = x.spi.irqEn := (congrArg SpiPort.irqEn h.raised.left :)
theorem Mb.told.irqStat : y.spi.irqStat &&& x.spi.irqStat = x.spi.irqStat := h.raised.right
end

/-! ### One transaction -/

/-- A transaction that is carried out is counted. -/
def Lane.spiBegun (l : Lane) : Lane := { l with mb.spi.count := l.mb.spi.count + 1, mb.spi.txn := l.mb.spi.txn + 1 }

/-- A transaction that raises no flag: what it does, and its status word. -/
theorem Lane.spiTxn_runs (l : Lane) {addrOk : Bool} {f : Lane → Lane × Bool × Bool × Bool} {x : Lane} (on : l.spiOn = true) (ok : addrOk = true)
    (does : f l.spiBegun = (x, false, false, false)) : ∃ status, l.spiTxn {} addrOk f = { x with mb.spi.status := status } := by
  unfold Lane.spiTxn
  rw [if_neg (by simp [on]), if_neg (by decide), if_neg (by simp [ok])]
  change ∃ status, ({ (f l.spiBegun).1 with mb.spi.status := spiWordOf true false false (f l.spiBegun).2.2.2 (f l.spiBegun).2.1 (f l.spiBegun).2.2.1 (l.mb.spi.count + 1) } : Lane).spiErr
    false false (f l.spiBegun).2.2.2 (f l.spiBegun).2.1 (f l.spiBegun).2.2.1 = _
  rw [does]
  exact ⟨_, rfl⟩

/-- A write of one word that the host may write. -/
theorem Lane.spiWriteTxn_one (l : Lane) {wa : Nat} {v : W32} {x : Lane} (on : l.spiOn = true) (may : l.spiCanWrite wa = true) (does : l.spiBegun.spiWrite wa v = (x, false, false, false)) :
    ∃ status, l.spiWriteTxn {} wa [v] = { x with mb.spi.status := status } := by
  refine l.spiTxn_runs (f := fun l => l.spiWrites wa [v]) (x := x) on ?_ ?_
  · simp [may]
  · simp only [Lane.spiWrites, does, Bool.or_self]

theorem bit_testBit (v n : Nat) : bit v n = v.testBit n := by
  unfold bit
  rw [Nat.testBit_eq_decide_div_mod_eq]
  rfl

theorem Lane.irqSet_sets (l : Lane) (n : Nat) (known : n < 32) : bit (l.irqSet n).mb.spi.irqStat.toNat n = true := by
  unfold Lane.irqSet
  generalize flagged : ({ l with mb := { l.mb with spi := { l.mb.spi with irqStat := l.mb.spi.irqStat ||| BitVec.ofNat 32 (2 ^ n) } } } : Lane) = m
  obtain ⟨line, high, ever, moves⟩ := m.irqLine_moves
  rw [moves, ← flagged, bit_testBit]
  simp only [BitVec.toNat_or, BitVec.toNat_ofNat, Nat.testBit_or, Nat.mod_eq_of_lt (Nat.pow_lt_pow_right (by decide : 1 < 2) known), Nat.testBit_two_pow_self, Bool.or_true]

theorem and_stays {x y z : W32} (h : y &&& x = x) (i : z &&& y = y) : z &&& x = x := by rw [← h, ← BitVec.and_assoc, i]

/-- A standing interrupt stays. -/
theorem Mb.told.bit {x y : Mb} (h : x.told y) {n : Nat} (set : bit x.spi.irqStat.toNat n = true) : Machine.bit y.spi.irqStat.toNat n = true := by
  rw [bit_testBit] at set ⊢
  rw [← h.irqStat, BitVec.toNat_and, Nat.testBit_and, Bool.and_eq_true] at set
  exact set.1

/-- A bad CRC sets its flag and interrupt. -/
theorem Lane.spiErr_crc (l : Lane) :
    (l.spiErr true false false false false).mb.spi.crcErr = true ∧ bit (l.spiErr true false false false false).mb.spi.irqStat.toNat 9 = true ∧
      (l.spiErr true false false false false).mb.spi.irqStat &&& l.mb.spi.irqStat = l.mb.spi.irqStat ∧ (l.spiErr true false false false false).mb.spi.irqEn = l.mb.spi.irqEn := by
  unfold Lane.spiErr
  rw [if_pos (by decide)]
  extract_lets q
  generalize flagged : ({ l with mb := { l.mb with spi := { l.mb.spi with
    crcErr := q.crcErr || true, frameErr := q.frameErr || false, addrErr := q.addrErr || false, overrun := q.overrun || false, noSession := q.noSession || false } } } : Lane) = m
  have told := m.irqSet_told 9
  have sets := m.irqSet_sets 9 (by decide)
  subst flagged
  exact ⟨told.crcErr.trans (Bool.or_true _), sets, told.irqStat, told.irqEn⟩

/-- A refused transaction: the flag and its interrupt, and what stood before stays. -/
theorem Lane.spiTxn_badCrc (l : Lane) (w : Wire) (addrOk : Bool) (f : Lane → Lane × Bool × Bool × Bool) (on : l.spiOn = true) (bad : w.crcOk = false) :
    (l.spiTxn w addrOk f).mb.spi.crcErr = true ∧ bit (l.spiTxn w addrOk f).mb.spi.irqStat.toNat 9 = true ∧
      (l.spiTxn w addrOk f).mb.spi.irqStat &&& l.mb.spi.irqStat = l.mb.spi.irqStat ∧ (l.spiTxn w addrOk f).mb.spi.irqEn = l.mb.spi.irqEn ∧ Within [] l (l.spiTxn w addrOk f) := by
  unfold Lane.spiTxn
  rw [if_neg (by simp [on])]
  extract_lets n _ _ counted _ _ noted _ marked flagged
  rw [if_pos (by simp [bad])]
  obtain ⟨err, irq, stay, enabled⟩ := marked.spiErr_crc
  have frame : Within [] l flagged := Within.spiErr (l := marked) (.upd (.refl l)) ..
  split
  · generalize dated : ({ flagged with mb := { flagged.mb with spi := { flagged.mb.spi with lastCrcEv := some flagged.now } } } : Lane) = m
    have told := m.eventU_told 0x1101
    subst dated
    exact ⟨told.crcErr.trans err, told.bit irq, and_stays stay told.irqStat, told.irqEn.trans enabled, .trans frame ((Within.upd (.refl flagged)).eventU _)⟩
  · exact ⟨err, irq, stay, enabled, frame⟩

/-! ### What the written words do -/

theorem Lane.ringTake_spi (l : Lane) (n k : Nat) (x : SpiPort) : ({ l with mb.spi := x } : Lane).ringTake n k = { l.ringTake n k with mb.spi := x } := by
  induction k generalizing l with
  | zero => rfl
  | succ k ih => exact ih (l.setQ n { l.q n with items := (l.q n).items ++ [l.ringEntry n (l.q n).tail], tail := ((l.q n).tail + 1) % l.qDepth n })

theorem Lane.ringTake_ring (l : Lane) (n k : Nat) : (l.ringTake n k).mb.ring = l.mb.ring := by
  induction k generalizing l with
  | zero => rfl
  | succ k ih => exact ih (l.setQ n { l.q n with items := (l.q n).items ++ [l.ringEntry n (l.q n).tail], tail := ((l.q n).tail + 1) % l.qDepth n })

/-- A doorbell of a queue whose entries stay takes the entries up to its TAIL. -/
theorem Lane.doorbell_takes (l : Lane) {q k tail : Nat} (few : q < 16) (other : q ≠ 11) (host : qHostIn q = true) (session : q = 0 ∨ l.sesOpen .spi = true) (known : tail < l.qDepth q)
    (count : k = (tail + l.qDepth q - (l.q q).tail) % l.qDepth q) (room : k ≤ l.qFree q) : l.doorbell q tail = (l.ringTake q k, false, false, false) := by
  have served : (q != 0 && !l.sesOpen .spi) = false := by
    rcases session with rfl | session
    · rfl
    · rw [session, Bool.not_true, Bool.and_false]
  unfold Lane.doorbell
  extract_lets x d k' place m n
  rw [if_neg (by simp [host]), if_neg (by simp [served])]
  have same : k' = k := count.symm
  have fits : (decide (d ≤ tail) || decide (place < k')) = false := by
    have free : place = l.qFree q := if_neg (by omega)
    rw [free, same, Bool.or_eq_false_iff, decide_eq_false_iff_not, decide_eq_false_iff_not]
    exact ⟨Nat.not_le.mpr known, Nat.not_lt.mpr room⟩
  have took : n = l.ringTake q k := by
    have kept : m = l := if_neg (by omega)
    change m.ringTake q k' = _
    rw [kept, same]
  rw [if_neg (by rw [fits]; decide), if_neg (by simp [other]), took]

theorem Lane.qhead_frees (l : Lane) {q n : Nat} (other : q ≠ 1) (known : n < l.qDepth q) (there : (n + l.qDepth q - (l.q q).head) % l.qDepth q ≤ (l.q q).items.length) :
    l.qhead q n = l.qDropN q ((n + l.qDepth q - (l.q q).head) % l.qDepth q) := by
  unfold Lane.qhead
  extract_lets x d k m
  rw [if_neg (by simp only [Bool.or_eq_true, decide_eq_true_eq, d, k, x]; omega), if_neg (by simp [other])]

/-- What a written word leaves, by its place: of a descriptor the words BUF and FLAGS, and every other word. -/
def wordCase {α : Type} (wd : Option (Nat × Nat)) (buf flags other : α) : α :=
  match wd.map Prod.snd with
  | some 0 => buf
  | some 1 => flags
  | _ => other

theorem wordCase_none {α : Type} (buf flags other : α) : wordCase none buf flags other = other := rfl
theorem wordCase_buf {α : Type} (i : Nat) (buf flags other : α) : wordCase (some (i, 0)) buf flags other = buf := rfl
theorem wordCase_flags {α : Type} (i : Nat) (buf flags other : α) : wordCase (some (i, 1)) buf flags other = flags := rfl
theorem wordCase_other {α : Type} (i k : Nat) (buf flags other : α) : wordCase (some (i, k + 2)) buf flags other = other := rfl

/-- The ring memory after a write of one word (Table MB-3): BUF is the lane's, and of FLAGS only SOP and EOP are the host's. -/
theorem Lane.ringWrite_writes (l : Lane) {wa x q : Nat} {wd : Option (Nat × Nat)} (place : l.ringWhere (4 * wa) = some (q, wd)) :
    l.ringWrite wa x = { l with mb.ring := (wordCase wd l.mb.ring
      (cellStore l.mb.ring (4 * wa) (leBytes 4 (bits x 31 30 * 2 ^ 30 + bits (leNat (cellBytes l.mb.ring (4 * wa) 4)) 29 16 * 2 ^ 16 + x % 2 ^ 16)))
      (cellStore l.mb.ring (4 * wa) (leBytes 4 x))) } := by
  unfold Lane.ringWrite
  rcases wd with _ | ⟨i, _ | _ | k⟩
  · simp only [place, wordCase_none]
  · simp only [place, wordCase_buf]
  · simp only [place]
    exact congrArg (fun r => ({ l with mb := { l.mb with ring := r } } : Lane)) (wordCase_flags ..).symm
  · simp only [place, wordCase_other]

theorem Lane.irqLine_keeps (l : Lane) : l.irqLine.mb.spi.irqStat = l.mb.spi.irqStat ∧ l.irqLine.mb.spi.irqEn = l.mb.spi.irqEn ∧ l.irqLine.mb.q = l.mb.q ∧ l.irqLine.mb.ring = l.mb.ring := by
  obtain ⟨line, high, ever, moves⟩ := l.irqLine_moves
  rw [moves]
  exact ⟨rfl, rfl, rfl, rfl⟩

/-! ### The statement -/

theorem Lane.doorbellTxn_takes (l : Lane) {q k tail : Nat} (on : l.spiOn = true) (few : q < 16) (other : q ≠ 11) (host : qHostIn q = true) (session : q = 0 ∨ l.sesOpen .spi = true)
    (known : tail < l.qDepth q) (word : tail < 65536) (count : k = (tail + l.qDepth q - (l.q q).tail) % l.qDepth q) (room : k ≤ l.qFree q) :
    ∃ spi, l.spiWriteTxn {} 4 [.ofNat 32 (tail * 65536 + q)] = { l.ringTake q k with mb.spi := spi } := by
  have value : (BitVec.ofNat 32 (tail * 65536 + q)).toNat = tail * 65536 + q := by
    rw [BitVec.toNat_ofNat]
    omega
  have low : (tail * 65536 + q) % 64 = q := by omega
  have high : (tail * 65536 + q) / 65536 = tail := by omega
  have does : l.spiBegun.spiWrite 4 (.ofNat 32 (tail * 65536 + q)) = (l.spiBegun.ringTake q k, false, false, false) := by
    have takes : l.spiBegun.doorbell q tail = (l.spiBegun.ringTake q k, false, false, false) := l.spiBegun.doorbell_takes few other host session known count room
    unfold Lane.spiWrite
    simp only [value, low, high, takes, beq_iff_eq, Nat.reduceEqDiff, if_false, if_true]
  obtain ⟨status, writes⟩ := l.spiWriteTxn_one on rfl does
  rw [writes, show l.spiBegun.ringTake q k = _ from l.ringTake_spi q k _]
  exact ⟨_, rfl⟩

theorem Lane.qheadTxn_frees (l : Lane) {q n : Nat} (on : l.spiOn = true) (other : q ≠ 1) (few : q < 64) (host : qHostOut q = true) (known : n < l.qDepth q) (word : n < 65536)
    (there : (n + l.qDepth q - (l.q q).head) % l.qDepth q ≤ (l.q q).items.length) :
    ∃ spi, l.spiWriteTxn {} (0x102 + 4 * q) [.ofNat 32 n] = { l.qDropN q ((n + l.qDepth q - (l.q q).head) % l.qDepth q) with mb.spi := spi } := by
  have value : (BitVec.ofNat 32 n).toNat = n := by
    rw [BitVec.toNat_ofNat]
    omega
  have queue : (0x102 + 4 * q - 0x100) / 4 = q := by omega
  have may : l.spiCanWrite (0x102 + 4 * q) = true := by
    unfold Lane.spiCanWrite
    rw [if_neg (by omega), if_pos (by rw [Bool.and_eq_true, decide_eq_true_eq, decide_eq_true_eq]; omega), queue, host, Bool.and_true, beq_iff_eq]
    omega
  have does : l.spiBegun.spiWrite (0x102 + 4 * q) (.ofNat 32 n) = (l.spiBegun.qDropN q ((n + l.qDepth q - (l.q q).head) % l.qDepth q), false, false, false) := by
    have frees : l.spiBegun.qhead q n = l.spiBegun.qDropN q ((n + l.qDepth q - (l.q q).head) % l.qDepth q) := l.spiBegun.qhead_frees other known there
    unfold Lane.spiWrite
    extract_lets x ok _ stat
    rw [if_neg (by rw [beq_iff_eq]; omega), if_neg (by rw [beq_iff_eq]; omega), if_neg (by rw [beq_iff_eq]; omega), if_neg (by rw [beq_iff_eq]; omega), if_neg (by rw [beq_iff_eq]; omega),
      if_pos (by omega), queue, show x % 65536 = n by omega, frees]
  obtain ⟨status, writes⟩ := l.spiWriteTxn_one on may does
  rw [writes]
  exact ⟨_, rfl⟩

theorem Lane.ringTxn_writes (l : Lane) {wa q : Nat} {v : W32} {wd : Option (Nat × Nat)} (on : l.spiOn = true) (low : 0x1000 ≤ wa) (high : wa < 0x4000)
    (place : l.ringWhere (4 * wa) = some (q, wd)) (host : qHostIn q = true) :
    ∃ spi, l.spiWriteTxn {} wa [v] = { l with mb.spi := spi, mb.ring := (wordCase wd l.mb.ring
      (cellStore l.mb.ring (4 * wa) (leBytes 4 (bits v.toNat 31 30 * 2 ^ 30 + bits (leNat (cellBytes l.mb.ring (4 * wa) 4)) 29 16 * 2 ^ 16 + v.toNat % 2 ^ 16)))
      (cellStore l.mb.ring (4 * wa) (leBytes 4 v.toNat))) } := by
  have may : l.spiCanWrite wa = true := by
    unfold Lane.spiCanWrite
    rw [if_neg (by omega), if_neg (by rw [Bool.and_eq_true, decide_eq_true_eq, decide_eq_true_eq]; omega), if_pos (by rw [Bool.and_eq_true, decide_eq_true_eq, decide_eq_true_eq]; omega), place]
    exact host
  have place' : l.spiBegun.ringWhere (4 * wa) = some (q, wd) := place
  have writes := l.spiBegun.ringWrite_writes (x := v.toNat) place'
  generalize written : l.spiBegun.ringWrite wa v.toNat = n at writes
  have does : l.spiBegun.spiWrite wa v = (n, false, false, false) := by
    unfold Lane.spiWrite
    extract_lets x ok _ stat
    rw [if_neg (by rw [beq_iff_eq]; omega), if_neg (by rw [beq_iff_eq]; omega), if_neg (by rw [beq_iff_eq]; omega), if_neg (by rw [beq_iff_eq]; omega), if_neg (by rw [beq_iff_eq]; omega),
      if_neg (by omega), written]
  obtain ⟨status, txn⟩ := l.spiWriteTxn_one on may does
  rw [txn, writes]
  exact ⟨_, rfl⟩

/-- Settles O35. -/
theorem hostSpi : Obligations.HostSpi := by
  unfold Obligations.HostSpi
  refine ⟨fun s a w q k n tail mask v x wd => ?_, fun s a => ?_⟩
  · intro l d keep on wire wireX
    subst wire
    refine ⟨fun few other host session known word count room => ?_, ?_, ?_, fun other few host known word there => ?_, fun addr data => ?_, fun low high place host data => ?_, fun words => ?_, ?_⟩
    · obtain ⟨spi, takes⟩ := l.doorbellTxn_takes on few other host session known word count room
      have frame : Within [] l (l.ringTake q k) := (Within.refl l).ringTake ..
      exact next_of_eq (f := fun l => l.spiWriteTxn {} 4 [.ofNat 32 (tail * 65536 + q)]) rfl (decide_eq_true (by omega)) takes
        ⟨rfl, l.ringTake_ring q k, (Within.wired (.trans frame (.upd (.refl _))) a.lane).reports⟩
    · obtain ⟨status, clears⟩ := l.spiWriteTxn_one (wa := 2) (v := mask) on rfl rfl
      obtain ⟨irq, -, queues, ring⟩ := ({ l.spiBegun with mb.spi.irqStat := l.mb.spi.irqStat &&& ~~~mask } : Lane).irqLine_keeps
      have frame : Within [] l ({ l.spiBegun with mb.spi.irqStat := l.mb.spi.irqStat &&& ~~~mask } : Lane).irqLine := Within.irqLine (.upd (.refl l))
      exact next_of_eq (f := fun l => l.spiWriteTxn {} 2 [mask]) rfl rfl clears ⟨irq, queues, ring, (Within.wired (.trans frame (.upd (.refl _))) a.lane).reports⟩
    · obtain ⟨status, clears⟩ := l.spiWriteTxn_one (wa := 1) (v := mask) on rfl rfl
      exact next_of_eq (f := fun l => l.spiWriteTxn {} 1 [mask]) rfl rfl clears ⟨rfl, rfl, rfl, rfl, rfl, rfl, rfl, reports_wired _ a.lane⟩
    · obtain ⟨spi, frees⟩ := l.qheadTxn_frees on other few host known word there
      exact next_of_eq (f := fun l => l.spiWriteTxn {} (0x102 + 4 * q) [.ofNat 32 n]) rfl (decide_eq_true few) frees ⟨rfl, rfl, reports_wired _ a.lane⟩
    · obtain ⟨status, sets⟩ := l.spiWriteTxn_one (wa := 3) (v := v) on rfl rfl
      obtain ⟨-, enabled, queues, ring⟩ := ({ l.spiBegun with mb.spi.irqEn := .ofNat 32 (v.toNat % 1024) } : Lane).irqLine_keeps
      have frame : Within [] l ({ l.spiBegun with mb.spi.irqEn := .ofNat 32 (v.toNat % 1024) } : Lane).irqLine := Within.irqLine (.upd (.refl l))
      have same : l.spiWriteTxn x.wire x.addr x.data = l.spiWriteTxn {} 3 [v] := by rw [wireX, addr, data]
      exact next_of_eq (f := fun l => l.spiWriteTxn x.wire x.addr x.data) rfl rfl (same.trans sets)
        ⟨enabled, queues, ring, (Within.wired (.trans frame (.upd (.refl _))) a.lane).reports⟩
    · obtain ⟨spi, writes⟩ := l.ringTxn_writes (v := v) on low high place host
      exact next_of_eq (f := fun l => l.spiWriteTxn x.wire x.addr x.data) rfl rfl ((congrArg₂ (fun w d => l.spiWriteTxn w x.addr d) wireX data).trans writes) ⟨rfl, rfl, reports_wired _ a.lane⟩
    · have allowed : ((List.range x.count).all fun i => spiCanRead (x.addr + i) && spiRegion (x.addr + i) == spiRegion x.addr) = true := by
        refine all_of_forall fun i hi => ?_
        obtain ⟨may, same⟩ := words i (List.mem_range.mp hi)
        rw [may, same, beq_self_eq_true]
        rfl
      obtain ⟨status, reads⟩ := l.spiTxn_runs (f := fun l => ({ l with mb.spi.rdata := (List.range x.count).map fun i => l.spiRead (x.addr + i) }, false, false, false)) on allowed rfl
      exact next_of_eq (f := fun l => l.spiReadTxn x.wire x.addr x.count) rfl rfl ((congrArg (fun w => l.spiReadTxn w x.addr x.count) wireX).trans reads) ⟨rfl, rfl, rfl, reports_wired _ a.lane⟩
    · obtain ⟨err, irq, stay, enabled, frame⟩ := l.spiTxn_badCrc { ({} : Wire) with crcOk := false } _ (fun l => l.spiWrites 2 [mask]) on rfl
      exact next_of_eq (f := fun l => l.spiWriteTxn { ({} : Wire) with crcOk := false } 2 [mask]) rfl rfl rfl ⟨err, irq, stay, enabled, (frame.wired a.lane).reports⟩
  · intro l q off waking boot waits late
    have drives : l.irqLine = { l with mb := { l.mb with spi := { q with hirq := true } } } := by
      have wants : (q.irqStat &&& q.irqEn != 0 && l.st != .off && l.st != .waking && l.st != .boot) = true := by
        rw [bne_iff_ne.mpr waits]
        simp [off, waking, boot]
      have frees : (!q.hirqEver || decide (q.hirqHigh + us (q.irqHold.toNat % 65536) ≤ l.now)) = true := by simp [late]
      have free : (q.hirq || !(!q.hirqEver || decide (q.hirqHigh + us (q.irqHold.toNat % 65536) ≤ l.now))) = q.hirq := by rw [frees, Bool.not_true, Bool.or_false]
      refine (if_pos wants).trans ?_
      by_cases high : q.hirq = true
      · have same : q = { q with hirq := true } := by rw [← high]
        exact (if_pos (free.trans high)).trans (congrArg (fun x => ({ l with mb := { l.mb with spi := x } } : Lane)) same)
      · exact if_neg (by rw [free]; exact high)
    exact next_of_eq (f := Lane.irqLine) rfl rfl drives ⟨rfl, reports_wired _ a.lane⟩

end Sys2Proof.Machine
end

section
/-! The service port (R344, R345, Tables MB-11 and MB-12), and the settlement of O36. -/

namespace Sys2Proof.Machine

set_option Elab.async false

theorem Mb.told.sp {x y : Mb} (h : x.told y) : y.sp = x.sp := (congrArg Mb.sp h.1 :)

theorem Lane.spWrite_good (l : Lane) (on : l.spOn = true) (f : Lane → Lane) : l.spWrite true f = f l := by
  unfold Lane.spWrite
  rw [if_neg (by simp [on]), if_pos rfl]

theorem Lane.spWrite_bad (l : Lane) (on : l.spOn = true) (f : Lane → Lane) : (l.spWrite false f).mb.sp = { l.mb.sp with crcErr := true } ∧ Within [] l (l.spWrite false f) := by
  unfold Lane.spWrite
  rw [if_neg (by simp [on]), if_neg (by decide)]
  extract_lets c
  generalize marked : ({ l with mb := { l.mb with sp := { l.mb.sp with crcErr := true } } } : Lane).setCnt .sp { c with crc := c.crc + 1 } = m
  have told := m.eventU_told 0x1101
  subst marked
  exact ⟨told.sp, (Within.upd (.refl l)).eventU _⟩

theorem Lane.spIn_joins (l : Lane) (b : List Byte) (short : (l.mb.sp.inBytes ++ b).length ≤ 2048) (fits : l.qFits 4 (l.mb.sp.inBytes ++ b) = true) :
    l.spIn b = { l with mb.sp.inBytes := l.mb.sp.inBytes ++ b, mb.sp.openAt := some (l.mb.sp.openAt.getD l.now) } := by
  have both : (decide ((l.mb.sp.inBytes ++ b).length ≤ 2048) && l.qFits 4 (l.mb.sp.inBytes ++ b)) = true := by rw [decide_eq_true short, fits]; rfl
  exact if_pos both

theorem Lane.spCommit_hands (l : Lane) (some' : l.mb.sp.inBytes ≠ []) (fits : l.qFits 4 l.mb.sp.inBytes = true) :
    l.spCommit = ({ l with mb.sp.inBytes := [], mb.sp.openAt := none } : Lane).qPutMsg 4 ((l.mb.sp.inBytes.set 6 0).set 7 (.ofNat 8 (byteAt l.mb.sp.inBytes 7 % 2))) := by
  unfold Lane.spCommit
  extract_lets msg m
  rw [if_neg (by simpa [msg] using some')]
  exact if_pos fits

/-- A read of MB_OUT within the response. -/
theorem Lane.spOut_reads (l : Lane) (more : l.mb.sp.outPos + 32 < (l.qHeadMsg 5).length) :
    l.spOut = { l with mb.sp.rdata := 32 :: ((l.qHeadMsg 5).drop l.mb.sp.outPos).take 32, mb.sp.outPos := l.mb.sp.outPos + 32 } := by
  have full : (((l.qHeadMsg 5).drop l.mb.sp.outPos).take 32).length = 32 := by
    rw [List.length_take, List.length_drop]
    omega
  unfold Lane.spOut
  extract_lets msg b pos _ _ m
  have whole : pos = l.mb.sp.outPos + 32 := congrArg (l.mb.sp.outPos + ·) full
  rw [if_neg (by rw [whole]; simp [msg]; omega)]
  simp only [m, whole, b, full, msg]
  rfl

/-- Settles O36. -/
theorem servicePort : Obligations.ServicePort := by
  unfold Obligations.ServicePort
  intro s a bytes t l sp msg on
  refine ⟨fun some' few short fits => ?_, fun some' fits => ?_, ?_, fun more => ?_, ?_, fun opened late => ?_, ?_⟩
  · exact next_of_eq (f := fun l => l.spWrite true fun l => l.spIn bytes) rfl (by simp [some', few]) ((l.spWrite_good on _).trans (l.spIn_joins bytes short fits))
      ⟨rfl, reports_wired _ a.lane⟩
  · have frame : Within [] l (({ l with mb.sp.inBytes := [], mb.sp.openAt := none } : Lane).qPutMsg 4 ((sp.inBytes.set 6 0).set 7 (.ofNat 8 (byteAt sp.inBytes 7 % 2)))) :=
      Within.qPutMsg (.upd (.refl l)) ..
    exact next_of_eq (f := fun l => l.spWrite true Lane.spCommit) rfl rfl ((l.spWrite_good on _).trans (l.spCommit_hands some' fits)) ⟨rfl, (frame.wired a.lane).reports⟩
  · exact next_of_eq (f := fun l => l.spWrite true Lane.spDiscard) rfl rfl (l.spWrite_good on _) ⟨rfl, reports_wired _ a.lane⟩
  · exact next_of_eq (f := fun l => l.spWrite true Lane.spOut) rfl rfl ((l.spWrite_good on _).trans (l.spOut_reads more)) ⟨rfl, reports_wired _ a.lane⟩
  · exact next_of_eq (f := fun l => l.spWrite true fun l => { l with mb.sp.rdata := [.ofNat 8 l.spStat], mb.sp.crcErr := false, mb.sp.drop := false }) rfl rfl (l.spWrite_good on _)
      ⟨rfl, reports_wired _ a.lane⟩
  · have drops : l.when (l.dueAt (l.mb.sp.openAt.map (· + sec 1))) (fun l => { l.spDiscard with mb.sp.drop := true }) = { l.spDiscard with mb.sp.drop := true } := by
      refine if_pos ?_
      rw [show l.mb.sp.openAt = some t from opened]
      exact decide_eq_true late
    exact next_of_eq (f := fun l => l.when (l.dueAt (l.mb.sp.openAt.map (· + sec 1))) (fun l => { l.spDiscard with mb.sp.drop := true })) rfl rfl drops ⟨rfl, reports_wired _ a.lane⟩
  · obtain ⟨err, frame⟩ := l.spWrite_bad on Lane.spDiscard
    exact next_of_eq (f := fun l => l.spWrite false Lane.spDiscard) rfl rfl rfl ⟨err, (frame.wired a.lane).reports⟩

end Sys2Proof.Machine
end

section
/-! Frames of CAN that carry messages (R317 to R319), and the refutation of O37. -/

namespace Sys2Proof.Machine

set_option Elab.async false

theorem leBytes_length (n v : Nat) : (leBytes n v).length = n := by
  induction n generalizing v with
  | zero => rfl
  | succ n ih => exact congrArg (· + 1) (ih _)

theorem leNat_leBytes (n v : Nat) : leNat (leBytes n v) = v % 256 ^ n := by
  induction n generalizing v with
  | zero => simp [leBytes, leNat, Nat.mod_one]
  | succ n ih =>
    have split : v % 256 ^ (n + 1) = v % 256 + 256 * (v / 256 % 256 ^ n) := by rw [Nat.pow_succ', Nat.mod_mul]
    rw [leBytes, leNat, ih, split, BitVec.toNat_ofNat]

/-- The tag of a frame reads back from its last bytes. -/
theorem beNat_tag (tag : W32) : beNat (beBytes 4 tag.toNat) = tag.toNat := by
  rw [beNat, beBytes, List.reverse_reverse, leNat_leBytes]
  exact Nat.mod_eq_of_lt tag.isLt

/-- A driving lane whose CAN controller 0 runs CAN FD. -/
def busOn : Lane := { up .shadow with params := [⟨0xB150, 0, [1]⟩] }

/-- What comes before the tag of a frame of host 0 with FRESH 5000. -/
def canHead : List Byte := [0, 0, 0, 136, 19, 0, 0]

/-- A classical frame with the right tag for lane A. -/
def classicFrame : CanRx := { canned ((on busOn).laneAt at0) 0 (2 ^ 17) canHead with classic := true }

/-- Malformed frames that lane A has counted. -/
def malformed : Out → Nat
  | .next s => (s.a.rxCnt 64).malformed.toNat
  | _ => 0

/-- Refutes O37: a classical frame is malformed whatever its tag (R317), and the clause of CAN frames asks of no frame that it is CAN FD. -/
theorem not_messageFrames : ¬ Obligations.MessageFrames := by
  unfold Obligations.MessageFrames
  intro h
  obtain ⟨-, can, -⟩ := h (on busOn) at0 {} classicFrame .can 0 0 ⟨0, 0, 0, 0, 0, false, []⟩
  have front : classicFrame.data.take (11 - 4) = canHead := rfl
  have right : (((on busOn).laneAt at0).canTag 0 (byteAt classicFrame.data 2) (2 ^ 17) (classicFrame.data.take (11 - 4))).toNat = beNat (classicFrame.data.drop (11 - 4)) := by
    rw [front]
    exact (beNat_tag _).symm
  obtain ⟨l', answers, frame⟩ := can (by decide) (by decide +kernel) (by decide +kernel) rfl (by decide +kernel) (by decide) (by decide) (by decide) (by decide) (by decide) (by decide +kernel)
    (by decide +kernel) (by decide) (by decide +kernel) (by decide +kernel) (by decide +kernel) right (by decide +kernel)
  have counted : malformed (exec (.canFrameRx at0 classicFrame) (on busOn)) = 1 := by decide +kernel
  rw [answers] at counted
  have net : l'.net = busOn.net := (congrArg Lane.net frame :).trans ((Within.refl (ps := [.ports]) _).segment ..).net_eq
  have none : (l'.rxCnt 64).malformed.toNat = 0 := by
    rw [Lane.rxCnt, net]
    decide +kernel
  exact absurd (show (l'.rxCnt 64).malformed.toNat = 1 from counted) (by rw [none]; decide)

end Sys2Proof.Machine
end

section
/-! The CAN controllers (R320, R321) and the drive links (R322 to R325), and the settlement of O38. -/

namespace Sys2Proof.Machine

set_option Elab.async false

/-! ### The CAN controllers -/

theorem Lane.canOf_setCan (l : Lane) (p : Nat) (c : Can) (known : p < l.ports.can.length) : (l.setCan p c).canOf p = c := getD_set_same _ _ _ _ known

/-- The limit of bus-offs within a minute switches the controller off. -/
theorem Lane.canBusOff_counts (l : Lane) (p : Nat) (known : p < l.ports.can.length) (on : (l.canOf p).off = false) (used : l.p 0xB150 p ≠ 0) (runs : l.fwRuns = true) :
    (l.canBusOff p).canOf p =
      { l.canOf p with busOff := recent l.now (sec 60) (l.canOf p).busOff, off := decide (l.p 0xB155 p ≤ (recent l.now (sec 60) (l.canOf p).busOff).length) } := by
  unfold Lane.canBusOff
  extract_lets c ts m
  rw [if_neg (by simp [c, on, used, runs])]
  have told : Within [.ports] l m := (Within.setCan (.refl l) ..).eventU _
  have limit : m.p 0xB155 p = l.p 0xB155 p := told.p_eq ..
  have noted : m.ports = (l.setCan p { c with busOff := ts }).ports := ((Within.refl (ps := []) (l.setCan p { c with busOff := ts })).eventU _).ports_eq
  have counted : m.canOf p = { c with busOff := ts } := by
    rw [Lane.canOf, noted]
    exact l.canOf_setCan p _ known
  split
  next many =>
    rw [limit] at many
    have ended : ((m.setCan p { m.canOf p with off := true }).eventU 0xB11A).ports = (m.setCan p { m.canOf p with off := true }).ports :=
      ((Within.refl (ps := []) (m.setCan p { m.canOf p with off := true })).eventU _).ports_eq
    have there : p < m.ports.can.length := by
      rw [noted]
      exact (List.length_set ..).symm ▸ known
    rw [Lane.canOf, ended, decide_eq_true many, counted]
    exact m.canOf_setCan p _ there
  next few =>
    rw [limit] at few
    rw [counted, decide_eq_false few, ← on]

/-- The status frame of a multiple of its period. -/
theorem Lane.canStatus_sends (l : Lane) (p : Nat) (known : p < l.ports.can.length) (runs : l.fwRuns = true) (live : l.pwm.halted = false) (sound : l.st ≠ .failSilent) (used : l.p 0xB150 p ≠ 0)
    (on : (l.canOf p).off = false) (period : l.p 0xB153 p ≠ 0) (fresh : (l.canOf p).lastMult ≠ some (l.canIndex p)) :
    ((l.canStatus p).canOf p).lastMult = some (l.canIndex p) ∧ ((l.canStatus p).canOf p).txFresh = (l.canOf p).txFresh + 1 ∧
      ∃ f, ((l.canStatus p).canOf p).tx = (l.canOf p).tx ++ [f] := by
  unfold Lane.canStatus
  extract_lets c i auth m n
  rw [if_neg (by simp [c, i, runs, live, sound, used, on, period, fresh])]
  have asked : n.ports = m.ports := ((Within.refl (ps := [.fn]) m).speedRequest).ports_eq
  have there : p < n.ports.can.length := by
    rw [asked]
    exact (List.length_set ..).symm ▸ known
  have noted : n.canOf p = { c with lastMult := some i, msgId := (c.msgId + 1) % 256 } := by
    rw [Lane.canOf, asked]
    exact l.canOf_setCan p _ known
  unfold Lane.canSend
  extract_lets x x' head k data frame
  rw [n.canOf_setCan p _ there]
  have here : x = { c with lastMult := some i, msgId := (c.msgId + 1) % 256 } := noted
  have mult : x.lastMult = some i := (congrArg Can.lastMult here :)
  have count : x.txFresh = c.txFresh := (congrArg Can.txFresh here :)
  have sent : x.tx = c.tx := (congrArg Can.tx here :)
  exact ⟨mult, congrArg (· + 1) count, (n.canId 3 2 0, frame), congrArg (· ++ [(n.canId 3 2 0, frame)]) sent⟩

/-! ### The drive links -/

theorem Lane.dlink_setDl (l : Lane) (k : Nat) (x : DLink) (known : k < l.ports.dl.length) : (l.setDl k x).dlink k = x := getD_set_same _ _ _ _ known

/-- A driving lane starts the frame of the present step. -/
theorem Lane.dlSend_starts (l : Lane) (k n : Nat) (step : n = l.cyc * (l.cycNom / us 50) + (l.now - (l.cycRef.2 + us (l.p 0xB141))) / us 50) (known : k < l.ports.dl.length)
    (used : l.p 0xB140 k ≠ 0) (runs : l.fwRuns = true) (drives : l.st.driving = true) (due : l.cycRef.2 + us (l.p 0xB141) ≤ l.now) (fresh : (l.dlink k).frame ≠ some n) :
    ((l.dlSend k).dlink k).frame = some n ∧ ((l.dlSend k).dlink k).txAlive = (l.dlink k).txAlive + 1 ∧ ∃ f, ((l.dlSend k).dlink k).tx = (l.dlink k).tx ++ [f] := by
  unfold Lane.dlSend
  extract_lets t₀ i n' _ m x f
  have same : n' = n := step.symm
  rw [if_neg (by simp [same, t₀, used, runs, drives, Lane.due, due, fresh])]
  have ports : m.ports = l.ports := by
    unfold m
    split
    · rfl
    · rfl
  have passed : (m.qPass (56 + 2 * k) f).ports = m.ports := ((Within.refl (ps := []) m).qPass ..).ports_eq
  have link : x = l.dlink k := congrArg (fun p => List.getD (Ports.dl p) k {}) ports
  rw [Lane.dlink_setDl _ k _ (by rw [passed, ports]; exact known), same, link]
  exact ⟨rfl, rfl, f, rfl⟩

/-- A valid frame sets the values of the inverter. -/
theorem Lane.dlData_sets (l : Lane) (k : Nat) (b : List Byte) (known : k < l.ports.dl.length) :
    (l.dlData k b true).dlink k = { l.dlink k with
      rxAlive := some (byteAt b 2), missed := 0, good := (l.dlink k).good + 1, lost := (l.dlink k).lost && decide ((l.dlink k).good + 1 < 20), ever := true, lastAt := l.now,
      ackSeq := .ofNat 16 (leAt b 4 2), pInv := .ofNat 32 (leAt b 6 4), pAcc := .ofNat 32 (leAt b 10 4), pAvail := .ofNat 32 (leAt b 14 4), wMot := .ofNat 32 (leAt b 18 4),
      vLink := .ofNat 32 (leAt b 22 4), invInh := bit (byteAt b 1) 7, invFault := bit (byteAt b 1) 6 } := by
  unfold Lane.dlData
  extract_lets f x good back m n q
  have passed : Within [] l m := (Within.refl l).qPass ..
  have told : q.ports = n.ports := by
    unfold q
    split
    · exact ((Within.refl (ps := []) n).eventU _).ports_eq
    · rfl
  have lost : (x.lost && !back) = (x.lost && decide (x.good + 1 < 20)) := by
    have many : decide (20 ≤ x.good + 1) = !decide (x.good + 1 < 20) := by rw [← decide_not, decide_eq_decide, Nat.not_lt]
    show (x.lost && !(x.lost && decide (20 ≤ x.good + 1))) = _
    rw [many]
    cases x.lost
    · rfl
    · rw [Bool.true_and, Bool.true_and, Bool.not_not, Bool.true_and]
  have link : n.dlink k = _ := m.dlink_setDl k _ (by rw [passed.ports_eq]; exact known)
  refine (congrArg (fun p => List.getD (Ports.dl p) k {}) told : _ = n.dlink k).trans (link.trans ?_)
  rw [lost, passed.now_eq]
  rfl

/-! ### Frames of the inverter -/

section
variable (l : Lane) {k : Nat} {b : List Byte} (used : l.p 0xB140 k ≠ 0) (runs : l.fwRuns = true) (len : b.length = 32) (check : leAt b 30 2 = (crc16 (b.take 30)).toNat)
  (kind : byteAt b 0 = 0x12)
include used runs len check kind

/-- A valid frame whose alive count follows. -/
theorem Lane.dlRx_takes (follows : ∀ v, (l.dlink k).rxAlive = some v → (byteAt b 2 + 256 - v) % 256 = 1) : l.dlRx k b = l.dlData k b true := by
  unfold Lane.dlRx
  extract_lets x
  rw [if_neg (by simp [used, runs]), if_neg (by simp [len, check, kind])]
  split
  next => rfl
  next v alive =>
    have one := follows v alive
    simp only [one]
    exact if_pos (Nat.le_add_right ..)

/-- A frame that repeats the alive count. -/
theorem Lane.dlRx_repeated (alive : (l.dlink k).rxAlive = some (byteAt b 2)) : l.dlRx k b = l.setDl k { l.dlink k with good := 0 } := by
  have still : (byteAt b 2 + 256 - byteAt b 2) % 256 = 0 := by omega
  unfold Lane.dlRx
  extract_lets x
  rw [if_neg (by simp [used, runs]), if_neg (by simp [len, check, kind])]
  simp only [x, alive, still]
  rfl

end

theorem Lane.dlLoss_loses (l : Lane) (k : Nat) (used : l.p 0xB140 k ≠ 0) (live : (l.dlink k).lost = false) (late : (l.dlink k).lastAt + us 50 * l.p 0xB142 k ≤ l.now) :
    Within [] (l.setDl k { l.dlink k with lost := true, good := 0 }) (l.dlLoss k) := by
  unfold Lane.dlLoss
  extract_lets x
  rw [if_pos (by simp [x, used, live, Lane.due, late])]
  exact (Within.refl _).eventU _

/-! ### The statement -/

theorem Within.links {l l' : Lane} (h : Within [.fn, .ports] l l') : Reports { l with ports := l'.ports, fn := l'.fn } l' := h
theorem Within.controllers {l l' : Lane} (h : Within [.ports] l l') : Reports { l with ports := l'.ports } l' := h

/-- Settles O38. -/
theorem canAndDriveLinks : Obligations.CanAndDriveLinks := by
  unfold Obligations.CanAndDriveLinks
  refine ⟨fun s a m p => ⟨?_, ?_, ?_⟩, fun s a k b => ?_⟩
  · intro two known on used runs
    exact next_of_eq rfl (by simpa using two) rfl ⟨Lane.canBusOff_counts _ p known on used runs, (((Within.refl _).canBusOff p).wired a.lane).controllers⟩
  · intro l ready other two
    have valid : ¬1 < m.u8 0 := by omega
    exact answers_guarded rfl ready (Lane.hNetCanRestart.eq_def ..) (by simp [other, valid]) rfl rfl
  · intro two known runs live sound used on period fresh
    obtain ⟨mult, count, sent⟩ := Lane.canStatus_sends _ p known runs live sound used on period fresh
    exact next_of_eq rfl (by simpa using two) rfl ⟨mult, count, sent, (((Within.refl _).canStatus p).wired a.lane).links⟩
  · intro l x t₀ n two known
    refine ⟨fun used runs drives due fresh => ?_, ?_, ?_, ?_⟩
    · obtain ⟨step, count, sent⟩ := l.dlSend_starts k n rfl known used runs drives due fresh
      exact next_of_eq rfl (by simpa using two) rfl ⟨step, count, sent, (((Within.refl l).dlSend k).wired a.lane).links⟩
    · intro used runs len check kind follows
      have sets := l.dlData_sets k b known
      have frame : Within [.fn, .ports] l (l.dlData k b true) := (Within.refl l).dlData ..
      have takes := l.dlRx_takes used runs len check kind follows
      generalize l.dlData k b true = l' at sets frame takes
      exact next_of_eq (f := fun l => l.dlRx k b) rfl (by simpa using two) takes ⟨congrArg DLink.rxAlive sets, congrArg DLink.good sets, congrArg DLink.lost sets, congrArg DLink.lastAt sets,
        congrArg DLink.pInv sets, congrArg DLink.pAvail sets, congrArg DLink.vLink sets, (frame.wired a.lane).links⟩
    · intro used runs len check kind alive
      exact next_of_eq (f := fun l => l.dlRx k b) rfl (by simpa using two) (l.dlRx_repeated used runs len check kind alive) (reports_wired _ a.lane)
    · intro used live late
      exact next_of_eq rfl (by simpa using two) rfl ((l.dlLoss_loses k used live late).wired a.lane).reports

end Sys2Proof.Machine
end

section
/-! Blocks of the peers: what reaches its own action (R20, R21), references, notices, mirror values and setpoints (R168, R225, R237, R248), and the settlement of O39. -/

namespace Sys2Proof.Machine

set_option Elab.async false

/-! ### A block reaches its action -/

/-- A relayed block waits on a link, whose state stays. -/
theorem Lane.relayBlock_link (l : Lane) (p : LaneId) (b : Block) (urgent : Bool) (q : LaneId) :
    ∃ xs, l.relayBlock p b urgent = { l with link := xs } ∧ ((l.relayBlock p b urgent).lnk q).up = (l.lnk q).up := by
  unfold Lane.relayBlock
  extract_lets r
  split
  · exact ⟨l.link, rfl, rfl⟩
  · unfold Lane.send
    split
    · exact ⟨l.link, rfl, rfl⟩
    · refine ⟨_, rfl, getD_set_keeps Link.up _ _ _ _ _ ?_⟩
      split
      · rfl
      · rfl

/-- A block that is heard changes its link alone, and its link is up as before. -/
theorem Lane.heard_link (l : Lane) (p : LaneId) (b : Block) (urgent : Bool) : ∃ xs, l.heard p b urgent = { l with link := xs } ∧ ((l.heard p b urgent).lnk p).up = (l.lnk p).up := by
  obtain ⟨xs, relays, up⟩ := (l.setLnk p { l.lnk p with seqRx := some b.seq, lastValid := l.now }).relayBlock_link p b urgent p
  refine ⟨xs, relays.trans rfl, up.trans ?_⟩
  exact getD_set_keeps Link.up _ _ _ _ _ rfl

theorem Lane.rxBlock_acts (l : Lane) (p : LaneId) (b : Block) (urgent : Bool) (kind : Nat) (f : LaneId → Lane → Lane) (heard : l.hears p b kind = true) :
    l.rxBlock p b urgent kind f = f p (l.heard p b urgent) := by
  simp only [Lane.hears, Bool.and_eq_true, bne_iff_ne, ne_eq, Bool.not_eq_true', Bool.or_eq_true, beq_iff_eq] at heard
  obtain ⟨⟨⟨⟨⟨⟨⟨other, on⟩, order⟩, direct⟩, link⟩, awake⟩, minded⟩, mine⟩ := heard
  have acts : (l.heard p b urgent).actOn p b kind f = f p (l.heard p b urgent) := by
    obtain ⟨xs, same, up⟩ := l.heard_link p b urgent
    have linked : (!((l.heard p b urgent).lnk p).up && !handshake kind) = false := by
      rw [up]
      rcases link with link | link
      · rw [link]; rfl
      · rw [link, Bool.not_true, Bool.and_false]
    have free : ¬((l.peer p).ignored && kind != 0x12 && kind != 0x22) = true := by rcases minded with (minded | minded) | minded <;> simp [minded]
    have serves : ¬(l.st == .failSilent && kind != 0x24) = true := by rcases awake with awake | awake <;> simp [awake]
    generalize l.heard p b urgent = m at same linked
    subst same
    unfold Lane.actOn
    extract_lets origin
    have from_ : origin = p := if_neg (by rw [direct]; decide)
    rw [linked, if_neg (by decide), from_, if_neg (by simp [mine])]
    exact (if_neg serves).trans (if_neg free)
  have first : ¬(p == l.id || !l.linkOn) = true := by simp [other, on]
  unfold Lane.rxBlock
  rw [if_neg first]
  extract_lets k
  split
  next q seq =>
    have follows : k.inOrder q b.seq l.now = true := by
      rw [show (l.lnk p).seqRx = some q from seq] at order
      exact order
    rw [if_neg (by rw [follows]; decide)]
    exact acts
  next => exact acts

/-- The shape of what a peer's block does: its action on the lane that has heard it. -/
theorem next_heard {i : Instr} {s : State} {a : At} {p : LaneId} {b : Block} {urgent : Bool} {kind : Nat} {f : LaneId → Lane → Lane} {x : Lane} {P : Lane → Prop}
    (e : exec i s = run true s a (fun l => l.rxBlock p b urgent kind f)) (hears : (s.laneAt a).hears p b kind = true) (r : f p ((s.laneAt a).heard p b urgent) = x) (q : P (x.wired a.lane))
    (at_ : i.stamp = a := by rfl) : Next i s P :=
  next_of_eq e rfl (((s.laneAt a).rxBlock_acts p b urgent kind f hears).trans r) q at_

/-! ### References (R168) -/

/-- One value of a REF block enters its chain's latch. -/
def Lane.latchOne (t : Nat) (l : Lane) (v : Nat × Int) : Lane :=
  match l.chains[v.1]? with
  | some j => l.latchRef j v.2 t
  | none => l

theorem Lane.latchOne_loops (l : Lane) (t : Nat) (v : Nat × Int) : ∃ xs, l.latchOne t v = { l with le.slot := xs } ∧ xs.length = l.le.slot.length := by
  unfold Lane.latchOne
  split
  · exact ⟨_, rfl, List.length_set ..⟩
  · exact ⟨_, rfl, rfl⟩

theorem Lane.latchAll_loops (l : Lane) (t : Nat) (vs : List (Nat × Int)) : ∃ xs, vs.foldl (Lane.latchOne t) l = { l with le.slot := xs } ∧ xs.length = l.le.slot.length := by
  induction vs generalizing l with
  | nil => exact ⟨_, rfl, rfl⟩
  | cons v vs ih =>
    obtain ⟨xs, one, len⟩ := l.latchOne_loops t v
    obtain ⟨ys, all, len'⟩ := ih (l.latchOne t v)
    refine ⟨ys, all.trans ?_, len'.trans ?_⟩
    · rw [one]
    · rw [one]
      exact len

theorem Lane.latchOne_other (l : Lane) (t : Nat) (v : Nat × Int) (j : Nat) (other : l.chains[v.1]? ≠ some j) : (l.latchOne t v).loop j = l.loop j := by
  unfold Lane.latchOne
  split
  next k chain =>
    refine getD_set_ne _ _ _ _ _ fun same => other ?_
    rw [chain, same]
  next => rfl

theorem Lane.latchAll_other (l : Lane) (t : Nat) (vs : List (Nat × Int)) (j : Nat) (other : ∀ v ∈ vs, l.chains[v.1]? ≠ some j) : (vs.foldl (Lane.latchOne t) l).loop j = l.loop j := by
  induction vs generalizing l with
  | nil => rfl
  | cons v vs ih =>
    obtain ⟨first, rest⟩ := List.forall_mem_cons.mp other
    obtain ⟨xs, one, -⟩ := l.latchOne_loops t v
    have chains : (l.latchOne t v).chains = l.chains := by
      rw [one]
      rfl
    exact (ih (l.latchOne t v) (by rw [chains]; exact rest)).trans (l.latchOne_other t v j first)

theorem Lane.latchOne_here (l : Lane) (t : Nat) (v : Nat × Int) (j : Nat) (chain : l.chains[v.1]? = some j) (known : j < l.le.slot.length) :
    ((l.latchOne t v).loop j).refNext.getLast? = some (fmul (fq v.2 16384) (l.pf 0x6102 (l.p 0x7101 j)), t) := by
  unfold Lane.latchOne
  simp only [chain]
  have set : (l.latchRef j v.2 t).loop j = _ := getD_set_same _ _ _ _ known
  rw [set]
  exact List.getLast?_concat

/-- The chains of a lane are different loop slots. -/
theorem Lane.chains_nodup (l : Lane) : l.chains.Nodup := (List.nodup_range.filter _).sublist (List.take_sublist ..)

/-- Each value of a REF block reaches its own chain. -/
theorem Lane.latchAll_here (l : Lane) (t : Nat) (vs : List (Nat × Int)) (nodup : (vs.map Prod.fst).Nodup) (v : Nat × Int) (mem : v ∈ vs) (j : Nat) (chain : l.chains[v.1]? = some j)
    (known : j < l.le.slot.length) : ((vs.foldl (Lane.latchOne t) l).loop j).refNext.getLast? = some (fmul (fq v.2 16384) (l.pf 0x6102 (l.p 0x7101 j)), t) := by
  obtain ⟨pre, post, rfl⟩ := List.append_of_mem mem
  rw [List.map_append, List.map_cons, List.nodup_append] at nodup
  obtain ⟨-, later, -⟩ := nodup
  obtain ⟨xs, before, len⟩ := l.latchAll_loops t pre
  rw [List.foldl_append, List.foldl_cons]
  have chains : (pre.foldl (Lane.latchOne t) l).chains = l.chains := by
    rw [before]
    rfl
  have there : j < (pre.foldl (Lane.latchOne t) l).le.slot.length := by
    rw [before]
    exact len ▸ known
  have here := (pre.foldl (Lane.latchOne t) l).latchOne_here t v j (chains ▸ chain) there
  obtain ⟨ys, one, -⟩ := (pre.foldl (Lane.latchOne t) l).latchOne_loops t v
  have after : ∀ w ∈ post, ((pre.foldl (Lane.latchOne t) l).latchOne t v).chains[w.1]? ≠ some j := by
    intro w hw same
    have chains' : ((pre.foldl (Lane.latchOne t) l).latchOne t v).chains = l.chains := by
      rw [one]
      exact chains
    rw [chains', ← chain] at same
    obtain ⟨bound, -⟩ := List.getElem?_eq_some_iff.mp chain
    have equal : v.1 = w.1 := (List.getElem?_inj bound l.chains_nodup).mp same.symm
    exact (List.nodup_cons.mp later).1 (equal ▸ List.mem_map_of_mem hw)
  rw [Lane.latchAll_other _ t post j after, here, before]
  rfl

/-- References of the authority reach their latches in SHADOW. -/
theorem Lane.refRx_latches (l : Lane) (d : List Byte) (p : LaneId) (shadow : l.st = .shadow) (auth : l.red.auth = p.code) :
    l.refRx d p = ((blockVals d).foldl (Lane.latchOne (l.le.outerEnd + us 5)) l).refCame (l.le.outerEnd + us 5) := by
  unfold Lane.refRx
  extract_lets from_ put t
  rw [if_pos (by simp [shadow, from_, auth])]
  rfl

theorem blockVals_nodup (d : List Byte) : ((blockVals d).map Prod.fst).Nodup := by
  have firsts : (blockVals d).map Prod.fst = (List.range 5).map fun i => byteAt d 1 + i := by
    unfold blockVals
    rw [List.map_map]
    rfl
  rw [firsts]
  exact List.nodup_range.map fun i j same => Nat.add_left_cancel same

/-! ### Mirror values (R248) -/

/-- The queue of a peer's mirror blocks. -/
def Lane.mirrorQ (l : Lane) (p : LaneId) : Nat := 60 + b2n (p != l.id.next)

/-- Mirror values of the authority join the next set; where their queue is full the set has a gap. -/
theorem Lane.mirrorRx_joins (l : Lane) (p : LaneId) (b : Block) (auth : l.red.auth = p.code) (state : l.st = .shadow ∨ l.st = .sync ∧ l.red.rejoin.step = 3) :
    ∃ mb, l.mirrorRx p b p = { l with mb := mb, red := if l.qFull (l.mirrorQ p) = true then { l.red with mirGap := true }
      else { l.red with mirNext := l.red.mirNext ++ [.ofNat 32 (leAt b.payload 0 4), .ofNat 32 (leAt b.payload 4 4), .ofNat 32 (leAt b.payload 8 4)] } } := by
  have takes : (p.code != l.red.auth || !(l.st == .shadow || (l.st == .sync && l.red.rejoin.step == 3))) = false := by
    rw [auth]
    rcases state with state | ⟨state, step⟩
    · simp [state]
    · simp [state, step]
  obtain ⟨mb, put⟩ : ∃ mb, (l.blockPut 60 p b).1 = { l with mb := mb } := ⟨_, Lane.qDropNew_eq ..⟩
  have full : (l.blockPut 60 p b).2 = l.qFull (l.mirrorQ p) := rfl
  have both : l.blockPut 60 p b = ({ l with mb := mb }, l.qFull (l.mirrorQ p)) := Prod.ext put full
  refine ⟨mb, ?_⟩
  unfold Lane.mirrorRx
  rw [both]
  refine (if_neg (by rw [takes]; decide)).trans ?_
  split
  · rfl
  · rfl

/-! ### Forwarded setpoints (R237) -/

/-- The apply cycle of a forwarded setpoint has the low 16 bits that came with it. -/
theorem wrap_low (c low : Nat) (word : low < 65536) : wrap 32 ((c : Int) + sext 16 (wrap 16 ((low : Int) - c))) % 65536 = low := by
  simp only [wrap, sext, Nat.reducePow, Nat.reduceSub, Nat.cast_ofNat, Int.reducePow]
  split_ifs
  · omega
  · omega

theorem leNat_lt (bs : List Byte) : leNat bs < 256 ^ bs.length := by
  induction bs with
  | nil => decide
  | cons b bs ih =>
    have byte := b.isLt
    rw [leNat, List.length_cons, Nat.pow_succ]
    omega

theorem leAt_word (d : List Byte) (k : Nat) : leAt d k 2 < 65536 :=
  (leNat_lt _).trans_le (Nat.pow_le_pow_right (by decide) ((List.length_take ..).trans_le (Nat.min_le_left ..)))

/-- A forwarded retarder setpoint waits for its apply cycle. -/
theorem Lane.setpointRx_retard (l : Lane) (d : List Byte) (lost : l.net.chLost = true) (runs : l.fnRuns = true) (retard : byteAt d 0 = 4) (on : (l.func 4).enabled = true)
    (force : ffinite (.ofNat 32 (leAt d 2 4)) = true) (speed : ffinite (.ofNat 32 (leAt d 6 4)) = true) :
    ∃ apply, apply % 65536 = leAt d 10 2 ∧ l.setpointRx d = l.refreshed 4 (.ofNat 32 (leAt d 6 4)) (l.fn.fn.set 4 (l.takenFn 4 ⟨[.ofNat 32 (leAt d 2 4)], 1, apply⟩)) := by
  refine ⟨wrap 32 ((l.cyc : Int) + sext 16 (wrap 16 ((leAt d 10 2 : Int) - l.cyc))), wrap_low _ _ (leAt_word d 10), ?_⟩
  unfold Lane.setpointRx
  extract_lets w x v c apply
  rw [if_neg (by simp [lost, runs, x, v, force, speed])]
  simp only [retard]
  unfold Lane.tryRetard
  rw [if_neg (by simp [on])]
  exact l.setpointTake_takes 4 v ⟨[x], 1, apply⟩ (Lane.enabled_known on)

/-- Settles O39. -/
theorem peerBlocks : Obligations.PeerBlocks := by
  unfold Obligations.PeerBlocks
  intro s a p b j i l d put
  refine ⟨?_, ?_, ?_, ?_, ?_⟩
  · intro x hears shadow auth
    obtain ⟨xs, heard, -⟩ := l.heard_link p b true
    have same : x = { l with link := xs } := heard
    have latches := x.refRx_latches d p (by rw [same]; exact shadow) (by rw [same]; exact auth)
    obtain ⟨loops, latched, len⟩ := x.latchAll_loops (x.le.outerEnd + us 5) (blockVals d)
    have outer : x.le.outerEnd = l.le.outerEnd := by rw [same]
    have here (five : i < 5) (chain : l.chains[byteAt d 1 + i]? = some j) (known : j < l.le.slot.length) :=
      x.latchAll_here (x.le.outerEnd + us 5) (blockVals d) (blockVals_nodup d) (byteAt d 1 + i, sext 16 (leAt d (2 + 2 * i) 2))
        (List.mem_map.mpr ⟨i, List.mem_range.mpr five, rfl⟩) j (by rw [same]; exact chain) (by rw [same]; exact known)
    generalize (blockVals d).foldl (Lane.latchOne (x.le.outerEnd + us 5)) x = n at latches latched here
    refine next_heard rfl hears latches ⟨?_, ?_, fun five chain known => ?_⟩
    · rw [latched, outer]
      rfl
    · rw [latched]
      exact reports_wired _ a.lane
    · have rated : x.pf 0x6102 (x.p 0x7101 j) = l.pf 0x6102 (l.p 0x7101 j) := by rw [same]; rfl
      exact (here five chain known).trans (congrArg₂ (fun r t => some (fmul (fq (sext 16 (leAt d (2 + 2 * i) 2)) 16384) r, t)) rated (congrArg (· + us 5) outer))
  · intro x hears
    exact next_heard rfl hears rfl (reports_wired _ a.lane)
  · intro x hears fresh
    obtain ⟨xs, heard, -⟩ := l.heard_link p b true
    have same : x = { l with link := xs } := heard
    have notes : x.chopNotice (byteAt d 0) (byteAt d 1) =
        { x with fn := { l.fn with notice := l.fn.notice ++ [(byteAt d 0, byteAt d 1)], noticeDue := true, limCut := true, cutAt := some l.now, pLim := f0, speedDue := true } } := by
      rw [same]
      exact if_neg (by rw [fresh]; decide)
    exact next_heard rfl hears notes (reports_wired _ a.lane)
  · intro x hears auth state
    obtain ⟨xs, heard, -⟩ := l.heard_link p b false
    have same : x = { l with link := xs } := heard
    obtain ⟨mb, joins⟩ := x.mirrorRx_joins p b (by rw [same]; exact auth) (by rw [same]; exact state)
    have queue : x.mirrorQ p = 60 + b2n (p != l.id.next) := by rw [same]; rfl
    have words : x.red.mirNext = l.red.mirNext := by rw [same]
    rw [queue, words] at joins
    exact next_heard rfl hears joins (reports_wired _ a.lane)
  · intro x hears lost runs retard on force speed
    obtain ⟨xs, heard, -⟩ := l.heard_link p b false
    have same : x = { l with link := xs } := heard
    obtain ⟨apply, low, takes⟩ := x.setpointRx_retard d (by rw [same]; exact lost) (by rw [same]; exact runs) retard (by rw [same]; exact on) force speed
    refine next_heard rfl hears takes ⟨apply, low, rfl, ?_, reports_wired _ a.lane⟩
    rw [same]
    rfl

end Sys2Proof.Machine
end

section
/-! The vote (R238 to R240), the blocks that compare (R202, R238), cycle starts of the peers (R283), and the settlement of O40. -/

namespace Sys2Proof.Machine

set_option Elab.async false

/-! ### Entering FAILSILENT -/

/-- What FAILSILENT leaves of a lane's view of redundancy. -/
theorem Lane.failSilent_red (l : Lane) (cause : Nat) (first : l.st ≠ .failSilent) :
    ∃ auth, (l.failSilent cause).red = { l.red with auth := auth, dup := false, claim := none, split := none } := by
  unfold Lane.failSilent
  rw [if_neg (by simpa using first)]
  have ended (n : Lane) : Within [.st, .link, .slots, .mp, .fn] n (((n.setSt .failSilent).logSilent.withdraw 11 cause).allOff.cellFollow) :=
    (((((Within.refl n).setSt _).logSilent).withdraw ..).allOff).cellFollow
  obtain ⟨auth, down⟩ : ∃ auth, l.stepDown.testsGone.red = { l.red with auth := auth } := by
    unfold Lane.stepDown
    split
    · exact ⟨0, ((Within.refl (ps := []) ({ l with red.auth := 0 } : Lane)).eventU _).red_eq⟩
    · exact ⟨l.red.auth, rfl⟩
  refine ⟨auth, (ended _).red_eq.trans ?_⟩
  change { l.stepDown.testsGone.red with dup := false, claim := none, split := none } = _
  rw [down]

/-- The own lane is out-voted. -/
theorem Lane.selfOut_leaves (l : Lane) (cause : Nat) (first : l.st ≠ .failSilent) :
    (({ l with red.selfOut := true } : Lane).failSilent cause).st = .failSilent ∧ (({ l with red.selfOut := true } : Lane).failSilent cause).red.selfOut = true := by
  obtain ⟨st, -⟩ := ({ l with red.selfOut := true } : Lane).failSilent_enters cause first
  obtain ⟨auth, red⟩ := ({ l with red.selfOut := true } : Lane).failSilent_red cause first
  exact ⟨st, (congrArg Red.selfOut red :)⟩

/-! ### The vote -/

theorem Lane.disOf_setDis (l : Lane) (x y : LaneId) (v : List Nat) : (l.setDis x y v).disOf x y = v := by
  cases x <;> cases y <;> rfl

/-- The count of a pair on a chain. -/
theorem Lane.compare_counts (l : Lane) (x y : LaneId) (c idx : Nat) {u v : Int} (here : l.cmpVal x c idx = some u) (there : l.cmpVal y c idx = some v) :
    (l.compare x y c idx).disOf x y = (l.disOf x y).set c (if fgt (fq (u - v).natAbs 16384) (l.pf 0xA101 c) = true then (l.disOf x y).getD c 0 + 1 else 0) := by
  unfold Lane.compare
  simp only [here, there]
  exact Lane.disOf_setDis ..

theorem Lane.addInst_red (l : Lane) (cls lane key : Nat) : ∃ inst, l.addInst cls lane key = { l with red.inst := inst } := by
  unfold Lane.addInst
  extract_lets i
  split
  · exact ⟨l.red.inst, rfl⟩
  · exact ⟨_, rfl⟩

/-- A lane that is not the authority assesses nothing. -/
theorem Lane.assess_other (l : Lane) (other : l.st ≠ .authority) : l.assess = l := by
  unfold Lane.assess
  exact if_pos (by simpa using other)

section
variable (l : Lane) {x y z : LaneId} (c : Nat) (shadow : l.st = .shadow)
include shadow

/-- A lane that disagrees with two that agree is out-voted. -/
theorem Lane.voteChain_outVotes (voters : [LaneId.a, .b, .c].filter (l.votes c) = [x, y, z]) (xy : l.disagree x y c = true) (yz : l.disagree y z c = true) (zx : l.disagree z x c = false) :
    ∃ inst, l.voteChain c = ({ l with red.voteTold := l.red.voteTold.set c 0, red.inst := inst } : Lane).outVote y c := by
  unfold Lane.voteChain
  rw [if_neg (by simp [shadow])]
  extract_lets told mark clear
  simp only [voters, xy, yz, zx]
  exact ⟨_, rfl⟩

/-- Two lanes that disagree out-vote nobody. -/
theorem Lane.voteChain_noMajority (voters : [LaneId.a, .b, .c].filter (l.votes c) = [x, y]) (xy : l.disagree x y c = true) (fresh : l.red.voteTold.getD c 0 ≠ 2) :
    l.voteChain c = (({ l with red.voteTold := l.red.voteTold.set c 2 } : Lane).noMajority c 1).assess := by
  unfold Lane.voteChain
  rw [if_neg (by simp [shadow])]
  extract_lets told mark clear
  have fresh' : ¬(told == 2) = true := fun same => fresh (eq_of_beq same)
  have notes : mark l 2 = { l with red.voteTold := l.red.voteTold.set c 2 } := rfl
  simp only [voters]
  rw [if_pos xy, if_neg fresh', notes]

end

/-- The own lane is out-voted, and withdraws. -/
theorem Lane.outVote_own (l : Lane) (z : LaneId) (c : Nat) (shadow : l.st = .shadow) (own : z = l.id) :
    (l.outVote z c).st = .failSilent ∧ (l.outVote z c).red.selfOut = true := by
  unfold Lane.outVote
  extract_lets m _ _ n q
  have told : Within [] l m := (Within.refl l).eventU _
  rw [if_pos (by simpa [m, (l.eventU_frame 0xA103).1] using own)]
  exact m.selfOut_leaves 1 (by rw [told.st_eq, shadow]; decide)

/-- Another lane than the authority is out-voted. -/
theorem Lane.outVote_other (l : Lane) (z : LaneId) (c : Nat) (shadow : l.st = .shadow) (other : z ≠ l.id) (junior : l.red.auth ≠ z.code) :
    (l.outVote z c).red.peer = l.red.peer.set z.idx { l.peer z with outVoted := true } ∧ (l.outVote z c).st = .shadow := by
  unfold Lane.outVote
  extract_lets m _ _ n q
  have told : Within [] l m := (Within.refl l).eventU _
  rw [if_neg (by simpa [m, (l.eventU_frame 0xA103).1] using other)]
  have sent : Within [.link] (m.setPeer z { m.peer z with outVoted := true }) n := (Within.refl _).sendTo ..
  obtain ⟨inst, added⟩ : ∃ inst, q = { n with red.inst := inst } := n.addInst_red ..
  have red : q.red = { l.red with peer := l.red.peer.set z.idx { l.peer z with outVoted := true }, inst := inst } := by
    rw [added]
    change { n.red with inst := inst } = _
    rw [sent.red_eq]
    change { m.red with peer := m.red.peer.set z.idx { List.getD m.red.peer z.idx {} with outVoted := true }, inst := inst } = _
    rw [told.red_eq]
    rfl
  have st : q.st = .shadow := by
    rw [added]
    exact (sent.st_eq.trans told.st_eq).trans shadow
  have auth : ¬(q.red.auth == z.code) = true := by
    rw [red]
    simpa using junior
  rw [if_neg auth, q.assess_other (by rw [st]; decide)]
  exact ⟨(congrArg Red.peer red :), st⟩

/-- A chain on which two lanes disagree is noted as one without majority. -/
theorem Lane.noMajority_notes (l : Lane) (c : Nat) (shadow : l.st = .shadow) :
    ((l.noMajority c 1).assess).red.voteTold = l.red.voteTold ∧ ((l.noMajority c 1).assess).red.peer = l.red.peer ∧ ((l.noMajority c 1).assess).st = .shadow := by
  obtain ⟨inst, added⟩ := (l.eventU 0xA105).addInst_red 1 0 (noMajKey c 0)
  have told : Within [] l (l.eventU 0xA105) := (Within.refl l).eventU _
  have noted : l.noMajority c 1 = { l.eventU 0xA105 with red.inst := inst } := added
  have st : (l.noMajority c 1).st = .shadow := by
    rw [noted]
    exact told.st_eq.trans shadow
  rw [Lane.assess_other _ (by rw [st]; decide)]
  refine ⟨?_, ?_, st⟩
  · rw [noted]
    exact (congrArg Red.voteTold told.red_eq :)
  · rw [noted]
    exact (congrArg Red.peer told.red_eq :)

/-! ### Comparison values of a peer (R238) -/

/-- Outside the driving states a comparison changes the counts alone. -/
theorem Lane.compare_red (l : Lane) (x y : LaneId) (c idx : Nat) : ∃ red, l.compare x y c idx = { l with red := red } ∧ red.peer = l.red.peer := by
  have set (m : Lane) (v : List Nat) : ∃ red, m.setDis x y v = { m with red := red } ∧ red.peer = m.red.peer := by
    unfold Lane.setDis
    split
    · exact ⟨_, rfl, rfl⟩
    · exact ⟨_, rfl, rfl⟩
    · exact ⟨_, rfl, rfl⟩
  unfold Lane.compare
  split
  next u v _ _ =>
    extract_lets far n _ _ m
    obtain ⟨red, sets, peer⟩ := set m (n.set c (if far then n.getD c 0 + 1 else 0))
    obtain ⟨red', bad, peer'⟩ : ∃ red, m = { l with red := red } ∧ red.peer = l.red.peer := by
      unfold m
      split
      · exact ⟨_, rfl, rfl⟩
      · exact ⟨_, rfl, rfl⟩
    exact ⟨red, by rw [sets, bad], by rw [peer, bad, peer']⟩
  next => exact ⟨l.red, rfl, rfl⟩

theorem Lane.voteChain_idle (l : Lane) (c : Nat) (sync : l.st = .sync) : l.voteChain c = l := by
  unfold Lane.voteChain
  exact if_pos (by simp [sync])

/-- In SYNC a value is compared and nobody votes. -/
theorem Lane.cmpAll_red (l : Lane) (x : LaneId) (idx : Nat) (vs : List (Nat × Int)) (sync : l.st = .sync) :
    ∃ red, vs.foldl (fun l q => if ((l.compare x x.next q.1 idx).compare x x.prev q.1 idx).voteReady q.1 idx then ((l.compare x x.next q.1 idx).compare x x.prev q.1 idx).voteChain q.1
      else (l.compare x x.next q.1 idx).compare x x.prev q.1 idx) l = { l with red := red } ∧ red.peer = l.red.peer := by
  refine List.foldlRecOn (motive := fun m => ∃ red, m = { l with red := red } ∧ red.peer = l.red.peer) vs _ ⟨l.red, rfl, rfl⟩ ?_
  rintro m ⟨red, same, peer⟩ q -
  obtain ⟨red₁, first, peer₁⟩ := m.compare_red x x.next q.1 idx
  obtain ⟨red₂, second, peer₂⟩ := (m.compare x x.next q.1 idx).compare_red x x.prev q.1 idx
  have both : (m.compare x x.next q.1 idx).compare x x.prev q.1 idx = { l with red := red₂ } := by rw [second, first, same]
  have kept : red₂.peer = l.red.peer := by rw [peer₂, first, peer₁, same, peer]
  refine ⟨red₂, ?_, kept⟩
  rw [both]
  split
  · exact Lane.voteChain_idle _ _ sync
  · rfl

theorem getD_sets_ne {α : Type} (vs : List (Nat × α)) (xs : List (Option α)) (i : Nat) (other : ∀ q ∈ vs, i ≠ q.1) :
    (vs.foldl (fun m q => m.set q.1 (some q.2)) xs).getD i none = xs.getD i none := by
  induction vs generalizing xs with
  | nil => rfl
  | cons q vs ih =>
    obtain ⟨first, rest⟩ := List.forall_mem_cons.mp other
    exact (ih _ rest).trans (getD_set_ne _ _ _ _ _ first)

theorem getD_replicate_self {α : Type} (n i : Nat) (d : α) : (List.replicate n d).getD i d = d := by
  rw [List.getD_eq_getElem?_getD, List.getElem?_replicate]
  split
  · rfl
  · rfl

theorem blockVals_cons (d : List Byte) :
    ∃ rest, blockVals d = (byteAt d 1, sext 16 (leAt d 2 2)) :: rest ∧ ∀ q ∈ rest, byteAt d 1 ≠ q.1 := by
  refine ⟨[(byteAt d 1 + 1, sext 16 (leAt d 4 2)), (byteAt d 1 + 2, sext 16 (leAt d 6 2)), (byteAt d 1 + 3, sext 16 (leAt d 8 2)), (byteAt d 1 + 4, sext 16 (leAt d 10 2))], rfl, ?_⟩
  simp

/-- Values of a new period replace those of the last one. -/
theorem Lane.cmpTake_notes (l : Lane) (x : LaneId) (idx : Nat) (d : List Byte) (sync : l.st = .sync) (known : byteAt d 1 < l.chains.length) (new : (l.peer x).cmpIdx ≠ idx) :
    ∃ v : PeerView, ∃ red, l.cmpTake x idx (blockVals d) = { l with red := red } ∧ red.peer = l.red.peer.set x.idx v ∧ v.cmpIdx = idx ∧
      v.cmp.getD (byteAt d 1) none = some (sext 16 (leAt d 2 2)) := by
  obtain ⟨rest, vals, others⟩ := blockVals_cons d
  have eight : l.chains.length ≤ 8 := List.length_take_le ..
  unfold Lane.cmpTake
  extract_lets v old vs m
  have empty : old = List.replicate 8 none := if_neg (by simpa [v] using new)
  have first : ∃ more, vs = (byteAt d 1, sext 16 (leAt d 2 2)) :: more ∧ ∀ q ∈ more, byteAt d 1 ≠ q.1 := by
    refine ⟨rest.filter fun q => decide (q.1 < l.chains.length) && (old.getD q.1 none).isNone, ?_, fun q hq => others q (List.mem_of_mem_filter hq)⟩
    unfold vs
    rw [vals]
    refine List.filter_cons_of_pos ?_
    rw [empty, getD_replicate_self]
    simp [known]
  obtain ⟨more, vs_eq, others'⟩ := first
  obtain ⟨red, all, peer⟩ := m.cmpAll_red x idx vs sync
  refine ⟨_, red, all, peer, rfl, ?_⟩
  change (vs.foldl (fun m q => m.set q.1 (some q.2)) old).getD (byteAt d 1) none = _
  rw [vs_eq, List.foldl_cons, getD_sets_ne _ _ _ others', empty]
  exact getD_set_same _ _ _ _ (by rw [List.length_replicate]; omega)

/-! ### Microstep counts and cycle starts of the peers (R202, R283) -/

theorem Lane.pairSlot_near (l : Lane) (k : Nat) (m own : Int) (o : LaneId) (stepper : (l.motor k).cfg.kind = .stepper) (pair : l.p 0x8140 k = o.code) (counts : l.red.pairM.getD k none = some own)
    (near : (own - m).natAbs ≤ l.p 0x8141 k) : l.pairSlot k m o = l.setStepper k { l.stepper k with pairCnt := 0, pairTold := false } := by
  have far : (l.peerDrives o && decide (l.p 0x8141 k < (own - m).natAbs)) = false := by rw [decide_eq_false (Nat.not_lt.mpr near), Bool.and_false]
  unfold Lane.pairSlot
  rw [if_neg (by simp [stepper, pair])]
  simp only [counts, far, Bool.and_false]
  rfl

/-- A lane whose own channel is SYNCED takes no time from a peer's cycle start. -/
theorem Lane.cycleBlock_notes (l : Lane) (d : List Byte) (o : LaneId) (synced : l.net.st = .synced) {t : Nat} (now : l.now = t) :
    ∃ told, Within [] { l with net := { l.net with
      peerStart := l.net.peerStart.set o.idx (some (t - us 1 - leAt d 6 2)), peerCyc := l.net.peerCyc.set o.idx (leAt d 0 6), peerSync := l.net.peerSync.set o.idx (bit (byteAt d 8) 0),
      skewTold := told } } (l.cycleBlock d o) := by
  have skew (m : Lane) : ∃ told, Within [] { m with net := { m.net with skewTold := told } } m.skewTest := by
    obtain ⟨far, test⟩ : ∃ far : Bool, m.skewTest =
        if far && !m.net.skewTold then ({ m with net := { m.net with skewTold := far } } : Lane).eventU 0xB112 else { m with net := { m.net with skewTold := far } } := ⟨_, rfl⟩
    rw [test]
    refine ⟨far, ?_⟩
    split
    · exact (Within.refl _).eventU _
    · exact .refl _
  subst now
  unfold Lane.cycleBlock
  extract_lets t c _ m n
  obtain ⟨told, tested⟩ := skew m
  have st : n.net.st = .synced := (congrArg Net.st tested.net_eq).trans synced
  rw [if_pos (by simp [st])]
  exact ⟨told, tested⟩

/-! ### The statement -/

/-- Settles O40. -/
theorem votes : Obligations.Votes := by
  unfold Obligations.Votes
  refine ⟨fun l x y z c idx u v => ⟨fun here there => l.compare_counts x y c idx here there, fun shadow voters xy yz zx => ⟨fun own => ?_, fun other junior => ?_⟩, fun shadow voters xy fresh => ?_,
    fun s a b at_ hears state mine => ?_⟩, fun s a p b k own => ?_⟩
  · obtain ⟨inst, votes⟩ := l.voteChain_outVotes c shadow voters xy yz zx
    rw [votes]
    exact Lane.outVote_own _ y c shadow own
  · obtain ⟨inst, votes⟩ := l.voteChain_outVotes c shadow voters xy yz zx
    rw [votes]
    exact Lane.outVote_other _ y c shadow other junior
  · rw [l.voteChain_noMajority c shadow voters xy fresh]
    exact Lane.noMajority_notes _ c shadow
  · subst at_
    obtain ⟨xs, heard, -⟩ := (s.laneAt a).heard_link x b true
    have acts : (((s.laneAt a).heard x b true).voteOutRx b.payload) = ({ (s.laneAt a).heard x b true with red.selfOut := true } : Lane).failSilent 1 := by
      rw [heard]
      refine if_pos ?_
      rw [mine]
      rcases state with state | state
      · simp [state]
      · simp [state]
    obtain ⟨st, out⟩ := ((s.laneAt a).heard x b true).selfOut_leaves 1 (by rw [heard]; rcases state with state | state <;> simp [state])
    exact next_heard rfl hears acts ⟨st, out, (congrArg LaneSt.driving st :)⟩
  · intro l d
    refine ⟨?_, ?_, ?_⟩
    · intro x hears sync known new
      obtain ⟨xs, heard, -⟩ := l.heard_link p b true
      have same : x = { l with link := xs } := heard
      obtain ⟨v, red, takes, peer, index, value⟩ := x.cmpTake_notes p (byteAt d 0) d (by rw [same]; exact sync) (by rw [same]; exact known) (by rw [same]; exact new)
      exact next_heard rfl hears takes ⟨v, peer, index, value, reports_wired _ a.lane⟩
    · intro x hears slot few stepper pair counts near
      obtain ⟨xs, heard, -⟩ := l.heard_link p b false
      have same : x = { l with link := xs } := heard
      have near' := x.pairSlot_near k (sext 32 (leAt d 2 4)) own p (by rw [same]; exact stepper) (by rw [same]; exact pair) (by rw [same]; exact counts) (by rw [same]; exact near)
      have old : x.stepper k = l.stepper k := by rw [same]; rfl
      rw [old] at near'
      refine next_heard rfl hears ((if_pos (by rw [slot]; exact few)).trans ?_) (reports_wired _ a.lane)
      rw [slot]
      exact near'
    · intro x hears synced
      obtain ⟨xs, heard, -⟩ := l.heard_link p b true
      have same : x = { l with link := xs } := heard
      obtain ⟨told, notes⟩ := x.cycleBlock_notes d p (by rw [same]; exact synced) (t := l.now) (by rw [same])
      have skew : (x.cycleBlock d p).net.skewTold = told := (congrArg Net.skewTold notes.net_eq :)
      rw [← skew] at notes
      exact next_heard rfl hears rfl (notes.wired a.lane).reports

end Sys2Proof.Machine
end

section
/-! Withdrawals, claims and acknowledgements (R242, R243), health blocks (R250, R253) and the answer to a resynchronisation (R252), and the settlement of O41. -/

namespace Sys2Proof.Machine

set_option Elab.async false

/-! ### What the steps of authority write into a lane's view of redundancy -/

theorem Lane.linkNote_red (l : Lane) (key : Nat) (down : Option Bool) : ∃ inst, l.linkNote key down = { l with red.inst := inst } := by
  match down with
  | some true => exact l.addInst_red 2 0 key
  | some false => exact ⟨_, rfl⟩
  | none => exact ⟨l.red.inst, rfl⟩

theorem Lane.linkTrack_red (l : Lane) : ∃ inst, l.linkTrack = { l with red.inst := inst } := by
  unfold Lane.linkTrack
  extract_lets n p live own up far
  obtain ⟨i, first⟩ := l.linkNote_red 0 (own n)
  obtain ⟨j, second⟩ := (l.linkNote 0 (own n)).linkNote_red 1 (own p)
  obtain ⟨k, third⟩ := ((l.linkNote 0 (own n)).linkNote 1 (own p)).linkNote_red 2 far
  exact ⟨k, by rw [third, second, first]⟩

theorem Lane.dupStart_red (l : Lane) : l.dupStart.red = { l.red with dup := true } ∧ l.dupStart.id = l.id := by
  unfold Lane.dupStart
  split
  next dup => exact ⟨by rw [← dup], rfl⟩
  next => exact ⟨((Within.refl (ps := []) _).eventU _).red_eq, (Lane.eventU_frame _ _).1⟩

theorem Lane.dupEnd_red (l : Lane) : l.dupEnd.red = { l.red with dup := false } ∧ l.dupEnd.id = l.id := by
  unfold Lane.dupEnd
  split
  next => exact ⟨((Within.refl (ps := []) _).eventU _).red_eq, (Lane.eventU_frame _ _).1⟩
  next dup => exact ⟨by rw [← Bool.eq_false_iff.mpr dup], rfl⟩

theorem Lane.assess_red (l : Lane) : ∃ cc q, l.assess.red = { l.red with ccCount := cc, vehReq := q } := by
  have told (m : Lane) (c : Nat) : (m.eventU c).red = m.red := ((Within.refl (ps := []) m).eventU c).red_eq
  unfold Lane.assess
  split
  · exact ⟨l.red.ccCount, l.red.vehReq, rfl⟩
  · extract_lets cc _ m q
    obtain ⟨c, counted⟩ : ∃ c, m.red = { l.red with ccCount := c } := by
      unfold m
      split
      · exact ⟨l.red.ccCount, rfl⟩
      · exact ⟨cc, told _ _⟩
    split
    · exact ⟨c, l.red.vehReq, counted⟩
    · exact ⟨c, q, (told _ _).trans (congrArg (fun r : Red => { r with vehReq := q }) counted)⟩

/-- A lane on which no self-test runs enters AUTHORITY. -/
theorem Lane.enterAuthority_enters (l : Lane) (test : l.gd.test = none) (run : l.bist.run = none) :
    l.enterAuthority.st = .authority ∧ ∃ peer, l.enterAuthority.red = { l.red with auth := l.id.code, claim := none, dup := false, peer := peer } := by
  unfold Lane.enterAuthority
  rw [l.safetyRequest_idle _ test run]
  extract_lets _ _ m n
  have told : Within [] (m.setSt .authority) ((m.setSt .authority).eventU 0xA101) := (Within.refl _).eventU _
  have red : n.red = { l.red with auth := l.id.code, claim := none, dup := false } := by
    refine (Lane.dupEnd_red _).1.trans ?_
    rw [told.red_eq, ((Within.refl (ps := [.st]) m).setSt _).red_eq]
  have follow : Within [.fn] (n.setPeer n.id { n.peer n.id with gone := false }) ((n.setPeer n.id { n.peer n.id with gone := false }).cellFollow) := (Within.refl _).cellFollow
  refine ⟨follow.st_eq.trans ?_, n.red.peer.set n.id.idx { n.peer n.id with gone := false }, follow.red_eq.trans ?_⟩
  · exact ((Within.refl (ps := [.red]) _).dupEnd).st_eq.trans (told.st_eq.trans (Lane.setSt_st ..))
  · change { n.red with peer := n.red.peer.set n.id.idx { n.peer n.id with gone := false } } = _
    rw [red]

/-- What a lane in SHADOW whose authority is open comes to by a claim: it claims, or is the authority itself. -/
structure Lane.Claims (l l' : Lane) : Prop where
  st : l'.st = .shadow ∧ l'.red.auth = l.red.auth ∨ l'.st = .authority ∧ l'.red.auth = l.id.code
  fail : l'.red.failAt = l.red.failAt
  params : l'.params = l.params

theorem Lane.claimStep_claims (l : Lane) (shadow : l.st = .shadow) (test : l.gd.test = none) (run : l.bist.run = none) : Lane.Claims l l.claimStep := by
  have params : l.claimStep.params = l.params :=
    ((Within.refl (ps := [.st, .link, .held, .gd, .halfBridges, .pwm, .channels, .slots, .mp, .fn, .red, .net, .ports, .pwr, .mem, .mram, .boot, .bist]) l).claimStep).params_eq
  refine ⟨?_, ?_, params⟩
  all_goals unfold Lane.claimStep
  · split
    · split
      · obtain ⟨st, peer, red⟩ := l.enterAuthority_enters test run
        exact .inr ⟨st, (congrArg Red.auth red :)⟩
      · have sent := (Within.refl (ps := [.link]) ({ l with red.claim := some ⟨l.cyc, l.le.outerIdx % 256, l.now⟩ } : Lane)).sendBoth true 0x13
          (l.cycleBytes ++ [b8 l.le.outerIdx, b8 l.id.code] ++ leBytes 4 l.healthWord) none
        exact .inl ⟨sent.st_eq.trans shadow, (congrArg Red.auth sent.red_eq :)⟩
    · exact .inl ⟨shadow, rfl⟩
  · split
    · split
      · obtain ⟨-, peer, red⟩ := l.enterAuthority_enters test run
        exact (congrArg Red.failAt red :)
      · exact (congrArg Red.failAt (((Within.refl (ps := [.link]) ({ l with red.claim := some ⟨l.cyc, l.le.outerIdx % 256, l.now⟩ } : Lane)).sendBoth true 0x13
          (l.cycleBytes ++ [b8 l.le.outerIdx, b8 l.id.code] ++ leBytes 4 l.healthWord) none).red_eq) :)
    · rfl

/-! ### A withdrawal (R242) -/

/-- The part of a withdrawal that notes it. -/
def Lane.withdrawNoted (l : Lane) (o : LaneId) (v : PeerView) (inst : List FaultInst) : Lane :=
  { l with red := { l.red with peer := l.red.peer.set o.idx v, inst := inst, joinAt := l.red.joinAt.set o.idx none } }

theorem Lane.withdrawRx_notes (l : Lane) (p : List Byte) (o : LaneId) :
    ∃ v inst, v.gone = true ∧ v.goneCls = byteAt p 1 ∧ v.known = true ∧ l.withdrawRx p o =
      (if (l.withdrawNoted o v inst).red.auth == o.code then
        ((if (l.withdrawNoted o v inst).st == .shadow && (l.withdrawNoted o v inst).mostSenior then (l.withdrawNoted o v inst).safetyRequest (l.withdrawNoted o v inst).slotHbs else l.withdrawNoted o v inst).rejoinRestart).authLost
      else if (l.withdrawNoted o v inst).red.auth == 0 then ({ l.withdrawNoted o v inst with red.claim := none } : Lane).claimStep
      else l.withdrawNoted o v inst).assess := by
  unfold Lane.withdrawRx
  extract_lets v code cause h m n _ q
  obtain ⟨i, added⟩ : ∃ i, (if 1 ≤ cause ∧ cause ≤ 8 then m.addInst cause o.code 0 else m) = { m with red.inst := i } := by
    split
    · exact m.addInst_red ..
    · exact ⟨m.red.inst, rfl⟩
  obtain ⟨j, tracked⟩ := (if 1 ≤ cause ∧ cause ≤ 8 then m.addInst cause o.code 0 else m).linkTrack_red
  have same : n = { m with red.inst := j } := tracked.trans (by rw [added])
  have noted : q = l.withdrawNoted o { v with gone := true, goneCls := cause, known := true, health := h, outVoted := false, ignored := false } j := by
    change ({ n with red.joinAt := n.red.joinAt.set o.idx none } : Lane) = _
    rw [same]
    rfl
  refine ⟨{ v with gone := true, goneCls := cause, known := true, health := h, outVoted := false, ignored := false }, j, rfl, rfl, rfl, ?_⟩
  rw [← noted]

section
variable (l : Lane) (p : List Byte) (o : LaneId)

theorem Lane.withdrawRx_other (open_ : l.red.auth ≠ 0) (other : l.red.auth ≠ o.code) :
    (∃ v : PeerView, (l.withdrawRx p o).red.peer = l.red.peer.set o.idx v ∧ v.gone = true ∧ v.goneCls = byteAt p 1 ∧ v.known = true) ∧
    (l.withdrawRx p o).red.joinAt = l.red.joinAt.set o.idx none ∧ Within [.red] l (l.withdrawRx p o) := by
  obtain ⟨v, inst, gone, cls, known, step⟩ := l.withdrawRx_notes p o
  rw [if_neg (show ¬((l.withdrawNoted o v inst).red.auth == o.code) = true by simpa [Lane.withdrawNoted] using other),
    if_neg (show ¬((l.withdrawNoted o v inst).red.auth == 0) = true by simpa [Lane.withdrawNoted] using open_)] at step
  rw [step]
  obtain ⟨cc, q, red⟩ := (l.withdrawNoted o v inst).assess_red
  exact ⟨⟨v, (congrArg Red.peer red :), gone, cls, known⟩, (congrArg Red.joinAt red :), (Within.refl l).upd.assess⟩

theorem Lane.withdrawRx_authority (auth : l.red.auth = o.code) (shadow : l.st = .shadow) (test : l.gd.test = none) (run : l.bist.run = none) :
    ((l.withdrawRx p o).st = .shadow ∧ (l.withdrawRx p o).red.auth = 0 ∨ (l.withdrawRx p o).st = .authority ∧ (l.withdrawRx p o).red.auth = l.id.code) ∧
    (l.withdrawRx p o).red.failAt.isSome = true ∧ (l.withdrawRx p o).params = l.params := by
  obtain ⟨v, inst, -, -, -, step⟩ := l.withdrawRx_notes p o
  rw [if_pos (show ((l.withdrawNoted o v inst).red.auth == o.code) = true by simpa [Lane.withdrawNoted] using auth)] at step
  rw [(l.withdrawNoted o v inst).safetyRequest_idle _ test run, ite_self] at step
  have rejoin : (l.withdrawNoted o v inst).rejoinRestart = l.withdrawNoted o v inst := if_neg (by simp [Lane.withdrawNoted, shadow])
  rw [rejoin] at step
  obtain ⟨m, lost, red, id, parts⟩ : ∃ m : Lane, (l.withdrawNoted o v inst).authLost = m.claimStep ∧ (m.red.auth = 0 ∧ m.red.failAt.isSome = true) ∧ m.id = l.id ∧ Within [.red] l m := by
    refine ⟨({ l.withdrawNoted o v inst with red.auth := 0, red.failAt := some ((l.withdrawNoted o v inst).red.failAt.getD l.now), red.claim := none } : Lane).dupStart,
      if_pos (by simp [Lane.withdrawNoted, shadow]), ?_, (Lane.dupStart_red _).2, (Within.refl l).upd.dupStart⟩
    rw [(Lane.dupStart_red _).1]
    exact ⟨rfl, rfl⟩
  obtain ⟨st, fail, params⟩ := m.claimStep_claims (parts.st_eq.trans shadow) ((congrArg Gd.test parts.gd_eq :).trans test) ((congrArg Bist.run parts.bist_eq :).trans run)
  obtain ⟨cc, q, judged⟩ := m.claimStep.assess_red
  have last : Within [.red] m.claimStep m.claimStep.assess := (Within.refl _).assess
  rw [step, lost, last.st_eq, judged, last.params_eq]
  rw [red.1, id] at st
  exact ⟨st, (congrArg Option.isSome fail :).trans red.2, params.trans parts.params_eq⟩

end

/-! ### Claims and their answers (R242) -/

/-- A more senior lane's claim is accepted. -/
theorem Lane.claimRx_senior (l : Lane) (p : List Byte) (o : LaneId) (named : byteAt p 7 = o.code) (voted : (l.peer o).outVoted = false) (shadow : l.st = .shadow) (senior : l.senior o l.id = true)
    (test : l.gd.test = none) (run : l.bist.run = none) :
    (l.claimRx p o).red.auth = o.code ∧ (l.claimRx p o).red.claim = none ∧ (l.claimRx p o).red.dup = false ∧ (l.claimRx p o).st = .shadow ∧ (l.claimRx p o).params = l.params := by
  unfold Lane.claimRx
  extract_lets v m _ n
  have sent : Within [.link] ({ m with red := { m.red with auth := o.code, claim := none } } : Lane) (({ m with red := { m.red with auth := o.code, claim := none } } : Lane).sendAck o p true) :=
    (Within.refl _).sendAck ..
  have ended : Within [.red] _ n := (Within.refl _).dupEnd
  have red : n.red = { m.red with auth := o.code, claim := none, dup := false } := (Lane.dupEnd_red _).1.trans (by rw [sent.red_eq])
  have st : m.st = .shadow := shadow
  have out : v.outVoted = false := voted
  have before : m.senior o m.id = true := senior
  rw [if_neg (by simpa using named), if_neg (by simp [st, out]), if_pos (by simp [st]), if_pos (by simp [before]),
    n.safetyRequest_idle _ ((congrArg Gd.test (ended.gd_eq.trans sent.gd_eq) :).trans test) ((congrArg Bist.run (ended.bist_eq.trans sent.bist_eq) :).trans run), red]
  exact ⟨rfl, rfl, rfl, (ended.st_eq.trans sent.st_eq).trans shadow, ended.params_eq.trans sent.params_eq⟩

/-- The authority refuses a claim. -/
theorem Lane.claimRx_refuses (l : Lane) (p : List Byte) (o : LaneId) (named : byteAt p 7 = o.code) (auth : l.st = .authority) :
    (l.claimRx p o).red.auth = l.red.auth ∧ (l.claimRx p o).st = .authority := by
  unfold Lane.claimRx
  extract_lets v m _ n
  have st : m.st = .authority := auth
  have sent : Within [.link] m (m.sendAck o p false) := (Within.refl _).sendAck ..
  rw [if_neg (by simpa using named), if_pos (by simp [st])]
  exact ⟨(congrArg Red.auth sent.red_eq :), sent.st_eq.trans auth⟩

/-- The first accepting answer to the own claim. -/
theorem Lane.ackRx_accepted (l : Lane) (p : List Byte) {c : Claim} (shadow : l.st = .shadow) (claim : l.red.claim = some c) (mine : byteAt p 6 = l.id.code) (cycle : leAt p 0 6 = c.cycle)
    (yes : byteAt p 7 = 1) (test : l.gd.test = none) (run : l.bist.run = none) :
    (l.ackRx p).st = .authority ∧ (l.ackRx p).red.auth = l.id.code ∧ (l.ackRx p).red.claim = none ∧ (l.ackRx p).red.dup = false ∧ (l.ackRx p).params = l.params := by
  have takes : l.ackRx p = l.enterAuthority.assess := by
    unfold Lane.ackRx
    rw [claim]
    dsimp only
    rw [if_neg (by simp [mine, cycle, shadow]), if_pos (by simpa using yes)]
  obtain ⟨st, peer, red⟩ := l.enterAuthority_enters test run
  obtain ⟨cc, q, judged⟩ := l.enterAuthority.assess_red
  have last : Within [.red] l.enterAuthority l.enterAuthority.assess := (Within.refl _).assess
  have params : l.enterAuthority.params = l.params :=
    ((Within.refl (ps := [.st, .link, .held, .gd, .halfBridges, .pwm, .channels, .slots, .mp, .fn, .red, .net, .ports, .pwr, .mem, .mram, .boot, .bist]) l).enterAuthority).params_eq
  rw [takes, judged, red, last.st_eq, last.params_eq]
  exact ⟨st, rfl, rfl, rfl, params⟩

/-! ### Health blocks (R250, R253) -/

/-- The functions after a peer's chopper notice. -/
def Fns.noticed (f : Fns) (now code c : Nat) : Fns :=
  if f.notice.contains (code, c) then f
  else { f with notice := f.notice ++ [(code, c)], noticeDue := true, limCut := true, cutAt := some now, pLim := f0, speedDue := true }

/-- The functions after the report of a peer's fault flags. -/
def Fns.reported (f : Fns) (now code st : Nat) (flags : List Bool) : Fns :=
  let f := if flags.getD 0 false then f.noticed now code 0 else f
  let f := if flags.getD 1 false then f.noticed now code 1 else f
  if st == 4 && !flags.contains true && f.notice.any (fun n => n.1 == code) then
    let f := { f with notice := f.notice.filter (fun n => n.1 != code) }
    if f.notice.isEmpty && !f.ch.any Chopper.faulty then { f with speedReq := false, speedDue := false } else f
  else f

/-- A peer's fault flags change the functions alone, and by these alone. -/
theorem Lane.chopReport_eq (l : Lane) (p : LaneId) (st : Nat) (flags : List Bool) : l.chopReport p st flags = { l with fn := l.fn.reported l.now p.code st flags } := by
  have notice (m : Lane) (c : Nat) : (if flags.getD c false then m.chopNotice p.code c else m) = { m with fn := if flags.getD c false then m.fn.noticed m.now p.code c else m.fn } := by
    unfold Lane.chopNotice Fns.noticed
    split
    · split
      · rfl
      · rfl
    · rfl
  unfold Fns.reported
  extract_lets f g h
  unfold Lane.chopReport
  extract_lets m n _ q
  have first : m = { l with fn := f } := notice l 0
  have both : n = { l with fn := g } := (notice m 1).trans (by rw [first])
  clear_value n
  subst both
  change (if st == 4 && !flags.contains true && g.notice.any (fun n => n.1 == p.code) then _ else _) = _
  split
  · change (if h.notice.isEmpty && !h.ch.any Chopper.faulty then _ else _) = _
    split
    · rfl
    · rfl
  · rfl

/-- A HEALTH block at the authority. -/
theorem Lane.healthRx_authority (l : Lane) (p : LaneId) (b : Block) {h : W32} (auth : l.st = .authority) (word : .ofNat 32 (leAt b.payload 0 4) = h) :
    (∃ v : PeerView, (l.healthRx p b p).red.peer = l.red.peer.set p.idx v ∧ v.health = h ∧ v.modStat = .ofNat 32 (leAt b.payload 4 4) ∧ v.faults = .ofNat 32 (leAt b.payload 8 4) ∧ v.known = true ∧
      (b.side.isSome = true → v.side = b.side)) ∧
    (l.healthRx p b p).red.joinAt = (if healthState h = 5 ∧ healthState (l.peer p).health ≠ 5 ∧ healthState (l.peer p).health ≠ 6 then l.red.joinAt.set p.idx (some l.now) else l.red.joinAt) ∧
    Reports { l with red := (l.healthRx p b p).red, held := (l.healthRx p b p).held, fn := (match b.side with | some y => l.chopReport p (healthState h) y.rtFault | none => l).fn } (l.healthRx p b p) := by
  subst word
  have put : Within [] l (l.blockPut 62 p b).1 := (Within.refl l).blockPut 62 p b
  unfold Lane.healthRx
  extract_lets m d v h st was back n c t _ _ j _ _ _ _ _ y z
  have seen : v = l.peer p := congrArg (fun r : Red => r.peer.getD p.idx {}) put.red_eq
  have clock : n.now = l.now := put.now_eq
  have flags : c = { n with fn := (match b.side with | some y => l.chopReport p st y.rtFault | none => l).fn } := by
    unfold c
    cases b.side with
    | none => exact congrArg (fun f => { n with fn := f }) put.fn_eq
    | some x =>
      dsimp only
      rw [Lane.chopReport_eq, l.chopReport_eq, clock, show n.fn = l.fn from put.fn_eq]
  obtain ⟨i, tracked⟩ : ∃ i, t = { c with red.inst := i } := by
    obtain ⟨i, back⟩ : ∃ i, (if st == 5 || st == 6 then c.dropLane p.code else c) = { c with red.inst := i } := by
      split
      · exact ⟨_, rfl⟩
      · exact ⟨c.red.inst, rfl⟩
    obtain ⟨k, tracks⟩ := (if st == 5 || st == 6 then c.dropLane p.code else c).linkTrack_red
    exact ⟨k, tracks.trans (by rw [back])⟩
  have driving : t.st = .authority := by
    rw [tracked, flags]
    exact put.st_eq.trans auth
  have former : was = healthState (l.peer p).health := by rw [← seen]
  obtain ⟨held, joins⟩ : ∃ held, j = { t with held := held, red.joinAt := if st = 5 ∧ was ≠ 5 ∧ was ≠ 6 then t.red.joinAt.set p.idx (some t.now) else t.red.joinAt } := by
    by_cases joining : st = 5 ∧ was ≠ 5 ∧ was ≠ 6
    · rw [if_pos joining]
      obtain ⟨five, other, driven⟩ := joining
      exact ⟨_, if_pos (by simp [driving, five, other, driven])⟩
    · rw [if_neg joining]
      refine ⟨t.held, if_neg ?_⟩
      simpa [driving, and_assoc] using joining
  have active : j.st = .authority := by rw [joins, driving]
  have rest : z = j := by
    have same : y = j := if_neg (by simp [active])
    exact (if_neg (by simp [same, active])).trans same
  have last : z.authCheck.claimStep.assess = j.assess := by
    rw [rest]
    have checked : j.authCheck = j := by
      unfold Lane.authCheck
      split
      · exact if_neg (by simp [active])
      · rfl
    rw [checked, show j.claimStep = j from if_neg (by simp [active])]
  rw [last]
  obtain ⟨cc, q, judged⟩ := j.assess_red
  have judging : Within [.red] j j.assess := (Within.refl _).assess
  have view : j.red = { n.red with inst := i, joinAt := if st = 5 ∧ was ≠ 5 ∧ was ≠ 6 then n.red.joinAt.set p.idx (some n.now) else n.red.joinAt } := by rw [joins, tracked, flags]
  obtain ⟨w, noted, health, status, faults, known, side⟩ : ∃ w : PeerView, n = m.setPeer p w ∧ w.health = h ∧ w.modStat = .ofNat 32 (leAt d 4 4) ∧ w.faults = .ofNat 32 (leAt d 8 4) ∧ w.known = true ∧ w.side = b.side.or v.side :=
    ⟨_, rfl, rfl, rfl, rfl, rfl, rfl⟩
  have before : n.red = { l.red with peer := l.red.peer.set p.idx w } := by
    rw [noted]
    change { m.red with peer := m.red.peer.set p.idx w } = _
    rw [put.red_eq]
  have heard : Within [.red, .held, .fn] l n := (put.mono (by decide)).setPeer p _
  have fns : j.fn = (match b.side with | some y => l.chopReport p st y.rtFault | none => l).fn := by rw [joins, tracked, flags]
  clear noted rest last
  clear_value y z
  clear_value j
  clear_value t
  clear_value c
  clear_value n
  refine ⟨⟨w, ?_, health, status, faults, known, fun has => ?_⟩, ?_, ?_⟩
  · rw [judged, view, before]
  · obtain ⟨x, some⟩ := Option.isSome_iff_exists.mp has
    rw [side, some]
    rfl
  · rw [judged, view, before, former, clock]
  · have parts : Within [.red, .held, .fn] l j := by
      rw [joins, tracked, flags]
      exact heard.upd
    have all : Within [.red, .held, .fn] l j.assess := parts.assess
    rw [← fns, ← judging.fn_eq]
    exact all

/-! ### The answer to a resynchronisation (R252) -/

theorem Lane.resyncAck_compares (l : Lane) (d : List Byte) (o : LaneId) (sync : l.st = .sync) (step : l.pwr.step = .done) (sent : l.red.rejoin.sent = true) (first : l.red.rejoin.step = 1)
    (auth : l.red.rejoin.auth = o.code) (fresh : l.pwr.restore = none) (same : l.boot.idOk = true) (cycle : leAt d 0 6 = l.cyc) (outer : byteAt d 6 = l.le.outerIdx % 256)
    (entries : byteAt d 7 = (l.mirMap.length + 255) % 256) (map : leAt d 8 4 = l.mapCrc.toNat) (order : l.senOk = true) :
    l.resyncAck d o = { l with red := { l.red with cfgTold := false, rejoin := { l.red.rejoin with step := 3, startAt := l.now, good := 0, periods := 0, bad := false }, mirNext := [], mirGap := false } } := by
  have image : l.chrysRejoin (leAt d 0 6) = l := by
    unfold Lane.chrysRejoin
    rw [fresh]
  have compared : l.idCompare = l := if_pos same
  have agrees : l.cfgCompare true = { l with red.cfgTold := false } := if_pos rfl
  unfold Lane.resyncAck
  rw [if_neg (by simp [sync, step, sent, first, auth]), image, compared]
  extract_lets _ mapOk m
  have ok : mapOk = true := by
    change (leAt d 8 4 == l.mapCrc.toNat && byteAt d 7 == (l.mirMap.length + 255) % 256) = true
    simp [map, entries]
  have took : m = { l with red.cfgTold := false } := by
    unfold m
    rw [ok, order]
    exact agrees
  have order' : m.senOk = true := by
    rw [took]
    exact order
  have cycle' : m.cyc = l.cyc := by
    rw [took]
    rfl
  have outer' : m.le.outerIdx = l.le.outerIdx := by rw [took]
  have same' : m.boot.idOk = true := by
    rw [took]
    exact same
  rw [if_pos (by simp [ok, order', cycle', outer', same', cycle, outer])]
  clear ok order' cycle' outer' same' agrees
  clear_value m
  subst took
  rfl

/-! ### The statement -/

/-- Settles O41. -/
theorem authority : Obligations.Authority := by
  unfold Obligations.Authority
  intro s a p b c l d free
  refine ⟨?_, fun hears named voted => ⟨fun shadow senior idle => ?_, fun auth => ?_⟩, fun hears shadow claim mine cycle yes idle => ?_, ?_, ?_⟩
  · intro x hears open_
    obtain ⟨xs, heard, -⟩ := l.heard_link p b true
    have same : x = { l with link := xs } := heard
    refine ⟨fun other => ?_, fun auth shadow idle => ?_⟩
    · obtain ⟨peer, join, parts⟩ := x.withdrawRx_other d p (by rw [same]; exact open_) (by rw [same]; exact other)
      generalize acts : x.withdrawRx d p = y at peer join parts
      exact next_heard rfl hears acts ⟨peer, join, (parts.wired a.lane :)⟩
    · obtain ⟨run, test⟩ := idle
      have leaves := x.withdrawRx_authority d p (by rw [same]; exact auth) (by rw [same]; exact shadow) (by rw [same]; exact test) (by rw [same]; exact run)
      have id : x.id = l.id := by rw [same]
      have params : x.params = l.params := by rw [same]
      rw [id, params] at leaves
      generalize acts : x.withdrawRx d p = y at leaves
      exact next_heard rfl hears acts leaves
  · obtain ⟨xs, heard, -⟩ := l.heard_link p b true
    obtain ⟨run, test⟩ := idle
    have takes := (l.heard p b true).claimRx_senior d p named (by rw [heard]; exact voted) (by rw [heard]; exact shadow) (by rw [heard]; exact senior) (by rw [heard]; exact test) (by rw [heard]; exact run)
    have params : (l.heard p b true).params = l.params := by rw [heard]
    rw [params] at takes
    generalize acts : (l.heard p b true).claimRx d p = y at takes
    exact next_heard rfl hears acts takes
  · obtain ⟨xs, heard, -⟩ := l.heard_link p b true
    have takes := (l.heard p b true).claimRx_refuses d p named (by rw [heard]; exact auth)
    have red : (l.heard p b true).red = l.red := by rw [heard]
    rw [red] at takes
    generalize acts : (l.heard p b true).claimRx d p = y at takes
    exact next_heard rfl hears acts takes
  · obtain ⟨xs, heard, -⟩ := l.heard_link p b true
    obtain ⟨run, test⟩ := idle
    obtain ⟨st, auth, none, dup, params⟩ := (l.heard p b true).ackRx_accepted d (by rw [heard]; exact shadow) (by rw [heard]; exact claim) (by rw [heard]; exact mine) cycle yes (by rw [heard]; exact test) (by rw [heard]; exact run)
    have id : (l.heard p b true).id = l.id := by rw [heard]
    have kept : (l.heard p b true).params = l.params := by rw [heard]
    rw [id] at auth
    rw [kept] at params
    generalize acts : (l.heard p b true).ackRx d = y at st auth none dup params
    exact next_heard rfl hears acts ⟨st, auth, none, dup, (congrArg LaneSt.driving st :), params⟩
  · intro x h hears auth
    obtain ⟨xs, heard, -⟩ := l.heard_link p b false
    have same : x = { l with link := xs } := heard
    obtain ⟨view, join, parts⟩ := x.healthRx_authority p b (h := h) (by rw [same]; exact auth) rfl
    have red : x.red.joinAt = l.red.joinAt := by rw [same]
    have now : x.now = l.now := by rw [same]
    have peer : x.peer p = l.peer p := by rw [same]; rfl
    rw [red, now, peer] at join
    generalize acts : x.healthRx p b p = y at view join parts
    exact next_heard rfl hears acts ⟨view, join, parts.trans (reports_wired _ a.lane)⟩
  · intro x r hears up sync step sent first auth fresh ok cycle outer entries map order
    obtain ⟨xs, heard, stays⟩ := l.heard_link p b false
    have same : x = { l with link := xs } := heard
    have compares := x.resyncAck_compares d p (by rw [same]; exact sync) (by rw [same]; exact step) (by rw [same]; exact sent) (by rw [same]; exact first) (by rw [same]; exact auth) (by rw [same]; exact fresh)
      (by rw [same]; exact ok) (by rw [same]; exact cycle) (by rw [same]; exact outer) (by rw [same]; exact entries) (by rw [same]; exact map) order
    refine next_heard rfl hears ((if_pos (stays.trans up)).trans compares) ?_
    rw [same]
    exact reports_wired _ a.lane

end Sys2Proof.Machine
end

section
/-! A limp lane without references takes its safe states (R147, R196, R402), and the refutation of O42. -/

namespace Sys2Proof.Machine

set_option Elab.async false

/-- A limp lane without references, whose stepper turns at microstep 5. -/
def limpStepper : Lane := { stepperInFallback with st := .limp }

/-- Refutes O42: a limp lane that takes its safe states holds each stepper at its present microstep (R196), which stands among the steppers, and the clause lets the motor slots and the held parameters alone change. -/
theorem not_redundancyInstants : ¬ Obligations.RedundancyInstants := by
  unfold Obligations.RedundancyInstants
  intro h
  obtain ⟨-, -, -, -, limp, -⟩ := h (on limpStepper) at0 .b [] 0
  obtain ⟨l', ends, -, frame⟩ := limp (by decide) (by decide +kernel)
  have stands : standsAt (exec (.limpRefTimeout at0) (on limpStepper)) = 5 := by decide +kernel
  have mp : l'.mp = limpStepper.mp := (congrArg Lane.mp frame :)
  rw [ends] at stands
  have before : (l'.stepper 0).holdM = 0 := by
    rw [Lane.stepper, mp]
    rfl
  exact absurd (show (l'.stepper 0).holdM.toNat = 5 from stands) (by rw [before]; decide)

end Sys2Proof.Machine
end

section
/-! Lost links, bad blocks and the way back of a link (R21, R242, R252, R255, R256), and the settlement of O43. -/

namespace Sys2Proof.Machine

set_option Elab.async false

/-! ### Blocks that wait on a link -/

theorem LaneId.idx_injective (p q : LaneId) : p.idx = q.idx → p = q := by
  cases p <;> cases q <;> decide

theorem LaneId.next_or_prev (p q : LaneId) : p ≠ q → p = q.next ∧ p ≠ q.prev ∨ p = q.prev ∧ p ≠ q.next := by
  cases p <;> cases q <;> decide

theorem Lane.lnk_setLnk_ne (l : Lane) {p q : LaneId} (k : Link) (other : p ≠ q) : (l.setLnk q k).lnk p = l.lnk p :=
  getD_set_ne _ _ _ _ _ fun same => other (LaneId.idx_injective p q same)

theorem Lane.lnk_setLnk (l : Lane) {p : LaneId} (k : Link) (known : p.idx < l.link.length) : (l.setLnk p k).lnk p = k :=
  getD_set_same _ _ _ _ known

/-- A link that is up stands in the list of links. -/
theorem Lane.link_known (l : Lane) {p : LaneId} (up : (l.lnk p).up = true) : p.idx < l.link.length := by
  by_contra beyond
  rw [Lane.lnk, List.getD_eq_default _ _ (Nat.le_of_not_lt beyond)] at up
  cases up

/-- A block for one peer waits on its link alone. -/
theorem Lane.send_lnk_ne (l : Lane) {p q : LaneId} (urgent : Bool) (kind : Nat) (payload : List Byte) (dest : Option LaneId) (side : Option LaneNews) (other : p ≠ q) :
    (l.send q urgent kind payload dest side).lnk p = l.lnk p := by
  unfold Lane.send
  split
  · rfl
  · exact l.lnk_setLnk_ne _ other

theorem Lane.send_lnk (l : Lane) {p : LaneId} (kind : Nat) (payload : List Byte) (dest : Option LaneId) (side : Option LaneNews) (peer : p ≠ l.id) (known : p.idx < l.link.length) :
    ∃ b : Block, b.kind = .ofNat 8 kind ∧ (l.send p true kind payload dest side).lnk p = { l.lnk p with urgent := (l.lnk p).urgent ++ [b] } := by
  unfold Lane.send
  rw [if_neg (by simpa using peer)]
  exact ⟨_, rfl, l.lnk_setLnk _ known⟩

theorem Lane.send_links (l : Lane) (q : LaneId) (urgent : Bool) (kind : Nat) (payload : List Byte) (dest : Option LaneId) (side : Option LaneNews) :
    ∃ xs, l.send q urgent kind payload dest side = { l with link := xs } ∧ xs.length = l.link.length := by
  unfold Lane.send
  split
  · exact ⟨l.link, rfl, rfl⟩
  · exact ⟨_, rfl, List.length_set ..⟩

theorem Lane.send_up (l : Lane) (q r : LaneId) (urgent : Bool) (kind : Nat) (payload : List Byte) (dest : Option LaneId) (side : Option LaneNews) :
    ((l.send q urgent kind payload dest side).lnk r).up = (l.lnk r).up := by
  unfold Lane.send
  split
  · rfl
  · refine getD_set_keeps Link.up _ _ _ _ _ ?_
    split
    · rfl
    · rfl

/-- An urgent block for both peers waits on the link of each. -/
theorem Lane.sendBoth_lnk (l : Lane) {p : LaneId} (kind : Nat) (payload : List Byte) (side : Option LaneNews) (peer : p ≠ l.id) (known : p.idx < l.link.length) :
    ∃ b : Block, b.kind = .ofNat 8 kind ∧ (l.sendBoth true kind payload side).lnk p = { l.lnk p with urgent := (l.lnk p).urgent ++ [b] } := by
  unfold Lane.sendBoth
  obtain ⟨xs, first, len⟩ := l.send_links l.id.next true kind payload none side
  rcases LaneId.next_or_prev p l.id peer with ⟨same, other⟩ | ⟨same, other⟩
  · rw [Lane.send_lnk_ne _ _ _ _ _ _ other, ← same]
    exact l.send_lnk _ _ _ _ peer known
  · obtain ⟨b, kind', waits⟩ := (l.send l.id.next true kind payload none side).send_lnk (p := p) kind payload none side (by rw [first]; exact peer) (by rw [first]; exact lt_of_lt_of_eq known len.symm)
    rw [l.send_lnk_ne _ _ _ _ _ other] at waits
    rw [← same]
    exact ⟨b, kind', waits⟩

/-! ### A bad block (R21) -/

theorem Lane.badBlock_counts (l : Lane) (p : LaneId) (peer : p ≠ l.id) (few : (recent l.now (ms 1) (l.lnk p).badTimes).length < 16) :
    l.badBlock p =
      { l with
        link := l.link.set p.idx { l.lnk p with badTimes := recent l.now (ms 1) (l.lnk p).badTimes, badCount := (l.lnk p).badCount + 1, cleanSince := l.now, seqRx := none, shook := (l.lnk p).shook && (l.lnk p).up },
        red := { l.red with mirGap := l.red.mirGap || (match LaneId.ofCode l.red.auth with | some x => x == p || !l.linkUp x | none => false) } } := by
  unfold Lane.badBlock
  rw [if_neg (by simpa using peer)]
  extract_lets k ts m n
  have gap : (match LaneId.ofCode m.red.auth with | some x => x == p || !m.linkUp x | none => false) = (match LaneId.ofCode l.red.auth with | some x => x == p || !l.linkUp x | none => false) := by
    change (match LaneId.ofCode l.red.auth with | some x => x == p || !m.linkUp x | none => false) = _
    cases LaneId.ofCode l.red.auth with
    | none => rfl
    | some x =>
      by_cases same : x = p
      · simp [same]
      · have up : m.linkUp x = l.linkUp x := congrArg (fun k : Link => x != l.id && k.up) (l.lnk_setLnk_ne _ same)
        simp only [up]
  rw [if_neg (Nat.not_le.mpr few)]
  change (if (match LaneId.ofCode m.red.auth with | some x => x == p || !m.linkUp x | none => false) = true then _ else _) = _
  rw [gap]
  generalize (match LaneId.ofCode l.red.auth with | some x => x == p || !l.linkUp x | none => false) = c
  cases c with
  | false =>
    simp only [Bool.or_false]
    rfl
  | true =>
    simp only [Bool.or_true]
    rfl

/-! ### A link that is lost (R21, R255, R256) -/

/-- The state of a link that is lost. -/
def Link.dropped (k : Link) (now : Nat) : Link := { k with up := false, cleanSince := now, badTimes := [], seqRx := none, shook := false }

/-- The lane once it has noted a lost link. -/
def Lane.linkNoted (l : Lane) (p : LaneId) : Lane := (l.setLnk p ((l.lnk p).dropped l.now)).linkTrack.eventU 0xA106

theorem Lane.linkNoted_red (l : Lane) (p : LaneId) : ∃ inst, (l.linkNoted p).red = { l.red with inst := inst } ∧ (l.linkNoted p).id = l.id ∧ (l.linkNoted p).link = l.link.set p.idx ((l.lnk p).dropped l.now) := by
  obtain ⟨inst, tracked⟩ := (l.setLnk p ((l.lnk p).dropped l.now)).linkTrack_red
  have told : Within [] (l.setLnk p ((l.lnk p).dropped l.now)).linkTrack (l.linkNoted p) := (Within.refl _).eventU _
  refine ⟨inst, told.red_eq.trans ?_, (Lane.eventU_frame _ _).1.trans ?_, told.link_eq.trans ?_⟩
  · rw [tracked]
    rfl
  · rw [tracked]
    rfl
  · rw [tracked]
    rfl

theorem Lane.linkNoted_within (l : Lane) (p : LaneId) : Within [.link, .red] l (l.linkNoted p) :=
  (((Within.refl l).setLnk p _).linkTrack).eventU _

/-- A lost link shows in the own link state and, in a lane whose firmware drives, in an urgent HEALTH block. -/
theorem Lane.linkTell_urgent (l : Lane) (p : LaneId) (up : l.linkUp p = true) : ∃ bs : List Block,
    ((l.linkNoted p).linkTell).lnk p = { (l.lnk p).dropped l.now with urgent := (l.lnk p).urgent ++ bs } ∧ bs.map Block.kind = if mayDrive l.st = true ∧ l.fwRuns = true then [0x21] else [] := by
  obtain ⟨peer, up⟩ : p ≠ l.id ∧ (l.lnk p).up = true := by simpa [Lane.linkUp] using up
  obtain ⟨inst, red, id, link⟩ := l.linkNoted_red p
  have parts := l.linkNoted_within p
  have known := l.link_known up
  have here : (l.linkNoted p).lnk p = (l.lnk p).dropped l.now := by
    rw [Lane.lnk, link]
    exact l.lnk_setLnk _ known
  have runs : (mayDrive (l.linkNoted p).st && (l.linkNoted p).fwRuns) = (mayDrive l.st && l.fwRuns) := by
    rw [Lane.fwRuns, Lane.fwRuns, parts.st_eq, parts.pwr_eq]
  unfold Lane.linkTell
  rw [runs]
  by_cases tells : mayDrive l.st = true ∧ l.fwRuns = true
  · obtain ⟨b, kind, waits⟩ := (l.linkNoted p).sendBoth_lnk (p := p) 0x21 (l.linkNoted p).healthBytes (some (l.linkNoted p).mySide) (by rw [id]; exact peer) (by rw [link, List.length_set]; exact known)
    rw [if_pos (by simpa using tells), if_pos tells, waits, here]
    exact ⟨[b], rfl, congrArg (fun x => [x]) kind⟩
  · rw [if_neg (by simpa using tells), if_neg tells, here]
    exact ⟨[], by rw [List.append_nil]; rfl, rfl⟩

theorem Lane.linkTell_up (l : Lane) (r : LaneId) : ((l.linkTell).lnk r).up = (l.lnk r).up ∧ l.linkTell.id = l.id ∧ l.linkTell.red = l.red := by
  unfold Lane.linkTell Lane.sendBoth
  split
  · obtain ⟨xs, first, -⟩ := l.send_links l.id.next true 0x21 l.healthBytes none (some l.mySide)
    obtain ⟨ys, second, -⟩ := (l.send l.id.next true 0x21 l.healthBytes none (some l.mySide)).send_links l.id.prev true 0x21 l.healthBytes none (some l.mySide)
    refine ⟨(Lane.send_up ..).trans (Lane.send_up ..), ?_, ?_⟩
    · rw [second, first]
    · rw [second, first]
  · exact ⟨rfl, rfl, rfl⟩

/-- Peers of a lane that a link reaches and that have not withdrawn. -/
def Lane.livePeers (l : Lane) : List Nat := (l.peers.filter (fun q => (l.peer q).known && !(l.peer q).gone && l.reach q)).map LaneId.code

theorem Lane.linkLost_eq (l : Lane) (p : LaneId) (up : l.linkUp p = true) : l.linkLost p =
    (if (((l.linkNoted p).linkTell).st == .shadow || ((l.linkNoted p).linkTell).st == .authority) && ((l.linkNoted p).linkTell).isolated && !l.livePeers.isEmpty && ((l.linkNoted p).linkTell).red.split.isNone
      then ((l.linkNoted p).linkTell).splitStart l.livePeers else ((l.linkNoted p).linkTell).authCheck).assess := by
  have peer : p ≠ l.id := by
    intro same
    simp [Lane.linkUp, same] at up
  unfold Lane.linkLost
  rw [if_neg (by simpa using peer), if_neg (by simp [up])]
  rfl

/-- A lane that does not decide on authority only tells its peers. -/
theorem Lane.linkLost_tells (l : Lane) (p : LaneId) (up : l.linkUp p = true) (other : l.st ≠ .shadow) (another : l.st ≠ .authority) : l.linkLost p = (l.linkNoted p).linkTell := by
  have st : ((l.linkNoted p).linkTell).st = l.st := ((l.linkNoted_within p).linkTell).st_eq
  have idle : ((l.linkNoted p).linkTell).authCheck = (l.linkNoted p).linkTell := by
    unfold Lane.authCheck
    split
    · exact if_neg (by simp [st, other])
    · rfl
  rw [l.linkLost_eq p up, if_neg (by simp [st, other, another]), idle]
  exact Lane.assess_other _ (by rw [st]; exact another)

/-- A driving lane that has no live peer left starts its split decision. -/
theorem Lane.linkLost_splits (l : Lane) (p : LaneId) (up : l.linkUp p = true) (driving : l.st = .shadow ∨ l.st = .authority) (known : (l.peer p).known = true) (here : (l.peer p).gone = false)
    (fresh : l.red.split = none) (alone : ∀ q, q ≠ p → q ≠ l.id → l.linkUp q = false ∨ (l.peer q).gone = true ∨ (l.peer q).known = false) :
    p.code ∈ l.livePeers ∧ (l.linkLost p).red.split = some ⟨l.cyc, l.st == .authority, l.livePeers⟩ ∧ (l.linkLost p).red.dup = true ∧ (l.linkLost p).st = l.st := by
  obtain ⟨peer, up'⟩ : p ≠ l.id ∧ (l.lnk p).up = true := by simpa [Lane.linkUp] using up
  obtain ⟨inst, red, id, link⟩ := l.linkNoted_red p
  have live : p.code ∈ l.livePeers := by
    refine List.mem_map_of_mem (List.mem_filter.mpr ⟨?_, by simp [known, here, Lane.reach, up]⟩)
    rcases LaneId.next_or_prev p l.id peer with ⟨same, -⟩ | ⟨same, -⟩
    · exact same ▸ List.mem_cons_self ..
    · exact same ▸ List.mem_cons_of_mem _ (List.mem_singleton_self _)
  refine ⟨live, ?_⟩
  obtain ⟨-, id', red'⟩ := (l.linkNoted p).linkTell_up p
  have links (q : LaneId) : (((l.linkNoted p).linkTell).lnk q).up = (if q = p then false else (l.lnk q).up) := by
    rw [((l.linkNoted p).linkTell_up q).1, Lane.lnk, link]
    split
    next same => rw [same, getD_set_same _ _ _ _ (l.link_known up')]; rfl
    next other => rw [getD_set_ne _ _ _ _ _ fun same => other (LaneId.idx_injective q p same)]; rfl
  have parts : Within [.link, .red] l (l.linkNoted p).linkTell := (l.linkNoted_within p).linkTell
  have cyc : ((l.linkNoted p).linkTell).cyc = l.cyc := (congrArg Lane.cyc parts :).trans rfl
  have eq := l.linkLost_eq p up
  generalize (l.linkNoted p).linkTell = n at eq id' red' links parts cyc
  have isolated : n.isolated = true := by
    refine List.all_eq_true.mpr fun q member => ?_
    have view : n.peer q = l.peer q := (congrArg (fun r : Red => r.peer.getD q.idx {}) (red'.trans red)).trans rfl
    have up_q : n.linkUp q = (q != l.id && if q = p then false else (l.lnk q).up) := by rw [Lane.linkUp, links, id', id]
    rw [view, up_q]
    by_cases same : q = p
    · simp [same]
    · by_cases own : q = l.id
      · simp [own]
      · rcases alone q same own with down | gone | unknown
        · rw [Lane.linkUp] at down
          rw [if_neg same, down]
          rfl
        · simp [gone]
        · simp [unknown]
  have st : n.st = l.st := parts.st_eq
  have some : l.livePeers.isEmpty = false := List.isEmpty_eq_false_iff.mpr (List.ne_nil_of_mem live)
  have none : n.red.split.isNone = true := by
    rw [red', red]
    exact Option.isNone_iff_eq_none.mpr fresh
  have decides : ((n.st == .shadow || n.st == .authority) && n.isolated && !l.livePeers.isEmpty && n.red.split.isNone) = true := by
    rw [isolated, some, none, st]
    rcases driving with same | same
    · simp [same]
    · simp [same]
  rw [if_pos decides] at eq
  obtain ⟨cc, q, judged⟩ := (n.splitStart l.livePeers).assess_red
  have last : Within [.red] (n.splitStart l.livePeers) (n.splitStart l.livePeers).assess := (Within.refl _).assess
  have start : (n.splitStart l.livePeers).red.split = Option.some ⟨l.cyc, l.st == .authority, l.livePeers⟩ ∧ (n.splitStart l.livePeers).red.dup = true ∧ (n.splitStart l.livePeers).st = l.st := by
    unfold Lane.splitStart
    extract_lets x
    have split : x = ⟨l.cyc, l.st == .authority, l.livePeers⟩ := by rw [← cyc, ← st]
    rw [(Lane.dupStart_red _).1, ← split]
    exact ⟨rfl, rfl, ((Within.refl (ps := [.red]) _).dupStart).st_eq.trans st⟩
  obtain ⟨split, dup, same⟩ := start
  rw [eq, judged, last.st_eq]
  exact ⟨split, dup, same⟩

/-! ### A link that comes back (R21, R252) -/

/-- A lane that does not limp enters SYNC. -/
theorem Lane.enterSync_st (l : Lane) (whole : l.st ≠ .limp) : l.enterSync.st = .sync := by
  unfold Lane.enterSync
  rw [if_neg (by simpa using whole)]
  extract_lets _ key _ _ _ m
  have rest : Within [.held, .slots, .mp, .fn, .net] m (((m.takeSafeAll.cellFollow).netEnter).completeOpt key stDone) := ((((Within.refl m).takeSafeAll).cellFollow).netEnter).completeOpt ..
  exact rest.st_eq.trans (Lane.setSt_st ..)

section
variable (l : Lane) (p : LaneId) (peer : p ≠ l.id) (down : (l.lnk p).up = false) (on_ : l.linkOn = true) (clean : (l.lnk p).cleanSince + ms 1 ≤ l.now)
include peer down on_ clean

theorem Lane.linkBack_asks (waits : (l.lnk p).shook = false) : l.linkBack p = l.send p false 0x22 l.cycleBytes := by
  unfold Lane.linkBack
  rw [if_neg (by simp [peer, down, on_, Lane.due, clean])]
  exact if_pos (by simp [waits])

/-- The lane once it has noted a link that is back. -/
theorem Lane.linkBack_notes (shook : (l.lnk p).shook = true) :
    ∃ n, Within [.red] { l with link := l.link.set p.idx { l.lnk p with up := true, badTimes := [] } } n ∧ n.red.split = l.red.split ∧
      l.linkBack p = (if (n.st == .follower || n.st == .island) && n.red.split.isNone then n.enterSync else n).assess := by
  obtain ⟨inst, tracked⟩ := (l.setLnk p { l.lnk p with up := true, badTimes := [] }).linkTrack_red
  have told := (Within.refl (ps := []) ((l.setLnk p { l.lnk p with up := true, badTimes := [] }).linkTrack)).eventU 0xA107
  refine ⟨((l.setLnk p { l.lnk p with up := true, badTimes := [] }).linkTrack).eventU 0xA107, ((Within.refl _).linkTrack).eventU _, ?_, ?_⟩
  · rw [told.red_eq, tracked]
    rfl
  · unfold Lane.linkBack
    rw [if_neg (by simp [peer, down, on_, Lane.due, clean]), if_neg (by simp [shook])]

/-- After the handshake a link is restored. -/
theorem Lane.linkBack_restores (shook : (l.lnk p).shook = true) (other : l.st ≠ .follower) (another : l.st ≠ .island) :
    Reports { l with link := l.link.set p.idx { l.lnk p with up := true, badTimes := [] }, red := (l.linkBack p).red } (l.linkBack p) := by
  obtain ⟨n, parts, -, back⟩ := l.linkBack_notes p peer down on_ clean shook
  have st : n.st = l.st := parts.st_eq
  rw [if_neg (by simp [st, other, another])] at back
  rw [back]
  exact parts.assess

/-- An island whose link is back resynchronises. -/
theorem Lane.linkBack_syncs (shook : (l.lnk p).shook = true) (island : l.st = .island) (whole : l.red.split = none) : (l.linkBack p).st = .sync := by
  obtain ⟨n, parts, split, back⟩ := l.linkBack_notes p peer down on_ clean shook
  have st : n.st = .island := parts.st_eq.trans island
  rw [if_pos (by simp [st, split, whole])] at back
  rw [back, ((Within.refl (ps := [.red]) _).assess).st_eq]
  exact n.enterSync_st (by rw [st]; decide)

end

/-- A block that is heard leaves the clean reception of its link as it is. -/
theorem Lane.heard_clean (l : Lane) (p : LaneId) (b : Block) (urgent : Bool) : ((l.heard p b urgent).lnk p).cleanSince = (l.lnk p).cleanSince := by
  unfold Lane.heard
  refine Eq.trans ?_ (show ((l.setLnk p { l.lnk p with seqRx := some b.seq, lastValid := l.now }).lnk p).cleanSince = _ from getD_set_keeps Link.cleanSince _ _ _ _ _ rfl)
  generalize l.setLnk p { l.lnk p with seqRx := some b.seq, lastValid := l.now } = m
  unfold Lane.relayBlock
  extract_lets q
  split
  · rfl
  · unfold Lane.send
    split
    · rfl
    · refine getD_set_keeps Link.cleanSince _ _ _ _ _ ?_
      split
      · rfl
      · rfl

/-! ### The statement -/

/-- Settles O43. -/
theorem lostLinks : Obligations.LostLinks := by
  unfold Obligations.LostLinks
  intro s a p b q l k x
  refine ⟨fun peer on_ last bad => ?_, fun peer on_ few => ?_, fun silent up => ⟨fun other another => ?_, fun driving known here fresh alone => ?_⟩,
    fun peer down on_ clean => ⟨fun waits => ?_, fun shook other another => ?_, fun shook island whole => ?_, fun hears => ?_⟩, fun hears auth up => ?_⟩
  · have discards : l.rxBlock p b true 0x10 (fun o l => l.refRx b.payload o) = if l.linkOn then l.badBlock p else l := by
      unfold Lane.rxBlock
      rw [if_neg (by simp [peer, on_]), if_pos on_]
      extract_lets
      rw [last]
      exact if_pos (by simpa using bad)
    exact congrArg (fun m => run true s a (fun _ => m)) discards
  · exact next_of_eq rfl rfl ((if_pos on_).trans (l.badBlock_counts p peer few)) (reports_wired _ a.lane)
  · have lost : (if l.due ((l.lnk p).lastValid + us 20) then l.linkLost p else l) = (l.linkNoted p).linkTell := (if_pos (by simpa [Lane.due] using silent)).trans (l.linkLost_tells p up other another)
    obtain ⟨bs, link, kinds⟩ := l.linkTell_urgent p up
    obtain ⟨inst, red, -, -⟩ := l.linkNoted_red p
    obtain ⟨-, -, red'⟩ := (l.linkNoted p).linkTell_up p
    have parts : Within [.link, .red] l (l.linkNoted p).linkTell := (l.linkNoted_within p).linkTell
    generalize (l.linkNoted p).linkTell = n at lost link red' parts
    have view : { l.red with inst := n.red.inst } = n.red := by rw [red', red]
    refine next_of_eq rfl rfl lost ⟨bs, link, kinds, ?_⟩
    change Reports { l with link := n.link, red := { l.red with inst := n.red.inst } } (n.wired a.lane)
    rw [view]
    exact (parts.wired a.lane :)
  · obtain ⟨live, split, dup, st⟩ := l.linkLost_splits p up driving known here fresh alone
    have due : l.due ((l.lnk p).lastValid + us 20) = true := decide_eq_true silent
    exact next_of_eq rfl rfl (if_pos due) ⟨_, live, split, dup, st⟩
  · exact next_of_eq rfl rfl (l.linkBack_asks p peer down on_ clean waits) (reports_wired _ a.lane)
  · exact next_of_eq (x := l.linkBack p) rfl rfl rfl ((l.linkBack_restores p peer down on_ clean shook other another).trans (reports_wired _ a.lane))
  · exact next_of_eq (x := l.linkBack p) rfl rfl rfl (l.linkBack_syncs p peer down on_ clean shook island whole)
  · obtain ⟨xs, heard, stays⟩ := l.heard_link p b false
    have now : x.now = l.now := by
      change (l.heard p b false).now = _
      rw [heard]
    have direct : bit b.kind.toNat 7 = false := by
      simp only [Lane.hears, Bool.and_eq_true, Bool.not_eq_true'] at hears
      obtain ⟨⟨⟨⟨⟨-, direct⟩, -⟩, -⟩, -⟩, -⟩ := hears
      exact direct
    have shakes : x.shakes p b = true := by
      have clean' : (x.lnk p).cleanSince = k.cleanSince := l.heard_clean p b false
      have down' : (x.lnk p).up = false := stays.trans down
      simp [Lane.shakes, Lane.due, direct, clean', down', now, clean]
    have down' : ¬(x.lnk p).up = true := by
      rw [show (x.lnk p).up = (l.lnk p).up from stays]
      simpa using down
    exact next_heard rfl hears ((if_neg down').trans (if_pos shakes)) (reports_wired _ a.lane)
  · obtain ⟨xs, heard, stays⟩ := l.heard_link p b false
    have same : x = { l with link := xs } := heard
    have driving : x.st = .authority := by rw [same]; exact auth
    have bytes : x.ackBytes = l.ackBytes := by rw [same]; rfl
    have answers : x.resyncReq p = (x.setPeer p { x.peer p with outVoted := false, ignored := false }).sendTo p false 0x23 l.ackBytes := by
      rw [← bytes]
      exact if_neg (by simp [driving])
    refine next_heard rfl hears ((if_pos (stays.trans up)).trans ((if_pos (by rw [show (l.heard p b false).st = .authority from driving]; rfl)).trans answers)) (reports_wired _ a.lane)

end Sys2Proof.Machine
end

section
/-! Splits and islands (R256, R257, R259), the lane reset (R254), the end of the parked stop (R265), and the settlement of O44. -/

namespace Sys2Proof.Machine

set_option Elab.async false

/-! ### Islands (R256, R257, R259) -/

theorem Lane.genHalt_id (l : Lane) (g status : Nat) : (l.genHalt g status).id = l.id := by
  unfold Lane.genHalt
  extract_lets x ks p m
  exact List.foldlRecOn (motive := fun n : Lane => n.id = l.id) ks _ rfl fun n same k _ => (Lane.complete_frame ..).1.trans same

theorem Lane.takeSafe_id (l : Lane) (k : Nat) : (l.takeSafe k).id = l.id := by
  have stand (m : Lane) : (m.stepStand k).id = m.id := by
    unfold Lane.stepStand
    split
    · split
      · rfl
      · exact (m.genHalt_id ..)
    · rfl
  unfold Lane.takeSafe
  extract_lets m
  split
  · rfl
  · refine (stand _).trans ?_
    split
    · rfl
    · rfl

theorem Lane.takeSafeAll_id (l : Lane) : l.takeSafeAll.id = l.id := by
  unfold Lane.takeSafeAll Lane.each
  exact List.foldlRecOn (motive := fun n : Lane => n.id = l.id) (List.range 8) _ rfl fun n same k _ => (n.takeSafe_id k).trans same

theorem Lane.cellFollow_id (l : Lane) : l.cellFollow.id = l.id := by
  have set (c : Cell) (e : Bool) : (if e then l else l.setCell c).id = l.id := by
    split
    · rfl
    · rfl
  unfold Lane.cellFollow
  split
  · exact set l.cellWanted _
  · exact set l.cellWanted _
  · exact set l.cellWanted _
  · rfl
  · rfl
  · exact set .passive _

theorem Lane.enterIsland_id (l : Lane) : l.enterIsland.id = l.id := by
  have down : l.stepDown.id = l.id := by
    unfold Lane.stepDown
    split
    · exact (Lane.eventU_frame ..).1
    · rfl
  unfold Lane.enterIsland
  extract_lets _ _ m n
  have entered : n.id = l.id := ((Lane.dupEnd_red _).2.trans (Lane.setSt_frame ..).1).trans down
  exact ((Lane.eventU_frame ..).1.trans ((Lane.cellFollow_id _).trans (Lane.takeSafeAll_id _))).trans entered

/-- What a lane that goes into ISLAND comes to. -/
theorem Lane.enterIsland_enters (l : Lane) : l.enterIsland.st = .island ∧ l.enterIsland.red.split = none ∧ l.enterIsland.red.islandAt = some l.now ∧ l.enterIsland.red.dup = false := by
  unfold Lane.enterIsland
  extract_lets _ _ m n
  have entered : Within [.st] m (m.setSt .island) := (Within.refl m).setSt _
  have rest : Within [.held, .slots, .mp, .fn] n ((n.takeSafeAll.cellFollow).eventU 0xA10A) := (((Within.refl n).takeSafeAll).cellFollow).eventU _
  have red : n.red = { m.red with dup := false } := (Lane.dupEnd_red _).1.trans (by rw [entered.red_eq])
  rw [rest.st_eq, rest.red_eq, red]
  exact ⟨((Within.refl (ps := [.red]) _).dupEnd).st_eq.trans (Lane.setSt_st ..), rfl, rfl, rfl⟩

/-- The lane when its split decision is due. -/
def Lane.deciding (l : Lane) : Lane := { l with red := { l.red with split := none, refCycle := l.cyc } }

section
variable (l : Lane) {x : Split} (driving : l.st = .shadow ∨ l.st = .authority) (split : l.red.split = some x) (due : x.startCycle + l.p 0xA111 ≤ l.cyc)
include driving split due

theorem Lane.splitDecide_due :
    l.splitDecide = (if ((l.deciding.splitState x).st == .follower || (l.deciding.splitState x).st == .island) && (l.deciding.splitState x).peers.any (l.deciding.splitState x).linkUp then (l.deciding.splitState x).enterSync
      else l.deciding.splitState x).assess := by
  unfold Lane.splitDecide
  rw [split]
  refine if_pos ?_
  rcases driving with same | same
  · simp [same, due]
  · simp [same, due]

/-- A lane that is alone and unheard is an island. -/
theorem Lane.splitDecide_island (alone : x.live.length ≠ 1) (unheard : l.tapHeard = false) (host : l.hostAlone = false) (cut : ∀ q ∈ l.peers, l.linkUp q = false) :
    l.splitDecide.st = .island ∧ l.splitDecide.red.split = none ∧ l.splitDecide.red.islandAt = some l.now ∧ l.splitDecide.red.dup = false := by
  have decides : l.deciding.splitState x = l.deciding.enterIsland := by
    unfold Lane.splitState
    extract_lets alone_ up back
    split
    next p one =>
      refine absurd ?_ alone
      have len := congrArg List.length one
      rwa [List.length_map] at len
    next =>
      rw [if_neg (by rw [show l.deciding.tapHeard = l.tapHeard from rfl, unheard]; decide), if_neg (by rw [show l.deciding.hostAlone = l.hostAlone from rfl, host]; decide)]
  obtain ⟨st, whole, at_, dup⟩ := l.deciding.enterIsland_enters
  have parts : Within [.st, .held, .slots, .mp, .fn, .red] l.deciding l.deciding.enterIsland := (Within.refl _).enterIsland
  have id : l.deciding.enterIsland.id = l.id := l.deciding.enterIsland_id
  have links (q : LaneId) : l.deciding.enterIsland.linkUp q = l.linkUp q := by
    rw [Lane.linkUp, Lane.linkUp, Lane.lnk, id, parts.link_eq]
    rfl
  have stays : (l.deciding.enterIsland.peers.any l.deciding.enterIsland.linkUp) = false := by
    refine List.any_eq_false.mpr fun q member => ?_
    rw [links, cut q (by rwa [Lane.peers, id] at member)]
    decide
  rw [l.splitDecide_due driving split due, decides, if_neg (by rw [stays, Bool.and_false]; decide), Lane.assess_other _ (by rw [st]; decide)]
  exact ⟨st, whole, at_, dup⟩

/-- The more senior of two that are left, the authority before, goes on. -/
theorem Lane.splitDecide_goesOn {p : LaneId} (two : x.live = [p.code]) (senior : l.senior l.id p = true) (was : x.wasAuth = true) (auth : l.st = .authority) :
    l.splitDecide.st = .authority ∧ l.splitDecide.red.split = none ∧ l.splitDecide.red.dup = false := by
  have decides : l.deciding.splitState x = l.deciding.dupEnd := by
    have live : x.live.map LaneId.ofCode = [some p] := by
      rw [two]
      cases p <;> rfl
    unfold Lane.splitState
    extract_lets alone_ up back
    rw [live]
    exact (if_pos senior).trans (if_pos was)
  have ended : Within [.red] l.deciding l.deciding.dupEnd := (Within.refl _).dupEnd
  have st : l.deciding.dupEnd.st = .authority := ended.st_eq.trans auth
  obtain ⟨cc, q, judged⟩ := l.deciding.dupEnd.assess_red
  rw [l.splitDecide_due driving split due, decides, if_neg (by simp [st]), judged, (Lane.dupEnd_red _).1, ((Within.refl (ps := [.red]) _).assess).st_eq]
  exact ⟨st, rfl, rfl⟩

end

/-- An island whose grace ends lets its cell go. -/
theorem Lane.graceEnd_lets (l : Lane) {t : Nat} (island : l.st = .island) (on_ : l.red.graceOn = true) (since : l.red.islandAt = some t) (due : t + sec (l.p 0xA110) ≤ l.now) :
    l.graceEnd.fn.cell = (if l.fn.cell = .hold then .passive else l.fn.cell) ∧ Reports { l with red := { l.red with graceOn := false }, fn := l.graceEnd.fn } l.graceEnd := by
  have ends : l.graceEnd = (if l.fn.cell == Cell.hold then ({ l with red.graceOn := false } : Lane).setCell .passive else { l with red.graceOn := false } : Lane).eventU 0xA10B := by
    refine if_pos ?_
    rw [since]
    simp [island, on_, Lane.due, due]
  have told (m : Lane) : Within [] m (m.eventU 0xA10B) := (Within.refl m).eventU _
  by_cases hold : l.fn.cell = .hold
  · rw [if_pos (by simp [hold])] at ends
    rw [ends, if_pos hold]
    exact ⟨(congrArg Fns.cell (told _).fn_eq :), (((Within.refl (ps := [.fn]) ({ l with red.graceOn := false } : Lane)).setCell .passive).eventU _ :)⟩
  · rw [if_neg (by simp [hold])] at ends
    rw [ends, if_neg hold]
    exact ⟨(congrArg Fns.cell (told _).fn_eq :), ((Within.refl (ps := [.fn]) ({ l with red.graceOn := false } : Lane)).eventU _ :)⟩

/-! ### The lane reset (R254) -/

/-- What a lane that is restarted comes to. -/
theorem Lane.restart_leaves (l : Lane) : l.restart.st = .waking ∧ l.restart.pwr.boot = l.pwr.boot + 1 ∧ l.restart.mem.mram = l.mem.mram ∧ l.restart.boot.otp = l.boot.otp ∧ l.restart.params = [] := by
  have begins (m : Lane) : m.wakeBegin.st = .waking ∧ m.wakeBegin.pwr.boot = m.pwr.boot ∧ m.wakeBegin.boot.otp = m.boot.otp := by
    have set : Within [.st] m (m.setSt .waking) := (Within.refl m).setSt _
    have st : (m.setSt .waking).st = .waking := Lane.setSt_st ..
    unfold Lane.wakeBegin Lane.regStart
    extract_lets
    split
    · exact ⟨st, (congrArg Pwr.boot set.pwr_eq :), (congrArg Boot.otp set.boot_eq :)⟩
    · exact ⟨st, (congrArg Pwr.boot set.pwr_eq :), (congrArg Boot.otp set.boot_eq :)⟩
  obtain ⟨m, starts, boot', otp', mram', params'⟩ : ∃ m : Lane, l.restart = m.wakeBegin.cellFollow ∧ m.pwr.boot = l.pwr.boot + 1 ∧ m.boot.otp = l.boot.otp ∧ m.mem.mram = l.mem.mram ∧ m.params = [] :=
    ⟨_, rfl, rfl, rfl, rfl, rfl⟩
  obtain ⟨st, boot, otp⟩ := begins m
  have parts : Within [.st, .pwr, .boot] m m.wakeBegin := (Within.refl m).wakeBegin
  have follow : Within [.fn] m.wakeBegin m.wakeBegin.cellFollow := (Within.refl _).cellFollow
  have mem : m.wakeBegin.cellFollow.mem.mram = m.mem.mram := (congrArg Mem.mram follow.mem_eq :).trans (congrArg Mem.mram parts.mem_eq :)
  rw [starts, mem, follow.st_eq, follow.pwr_eq, follow.boot_eq, follow.params_eq, parts.params_eq, boot, otp]
  exact ⟨st, boot', mram', otp', params'⟩

theorem Lane.resetRx_restarts (l : Lane) (silent : l.st = .failSilent) : l.resetRx (b8 l.id.code :: List.replicate 11 0x5A) = l.restart :=
  if_pos (by simp [silent])

/-- A peer in FAILSILENT gets a RESET block. -/
theorem Lane.hRedLaneReset_peer (l : Lane) (m : Msg) {p : LaneId} (named : LaneId.ofCode (m.u8 0) = some p) (peer : p ≠ l.id) (silent : healthState (l.peer p).health = 11) :
    Lane.hRedLaneReset m l = done (l.sendTo p true 0x24 (b8 p.code :: List.replicate 11 0x5A)) := by
  unfold Lane.hRedLaneReset
  rw [named]
  dsimp only
  rw [if_neg (by simpa using peer), if_pos (by simpa using silent)]

/-- A lane that resets a peer answers as any command does. -/
theorem Lane.redLaneReset_peer (l : Lane) (m : Msg) {p : LaneId} (named : LaneId.ofCode (m.u8 0) = some p) (peer : p ≠ l.id) :
    l.redLaneReset m = l.serve 0x61 m (Lane.hRedLaneReset m) := by
  have other : l.resetsSelf m = false := by
    unfold Lane.resetsSelf
    split
    next x taken =>
      rw [named, show (some p == some l.id) = false from by simpa using peer, Bool.and_false]
    next => rfl
  unfold Lane.redLaneReset
  rw [other]
  rfl

theorem Lane.taken_id (l : Lane) (op : Nat) (m : Msg) : (l.taken op m).id = l.id := by
  unfold Lane.taken
  split
  next t taken => exact (Lane.noteV1_frame ..).1.trans (by rw [Lane.take_eq taken])
  next => rfl

/-! ### The statement -/

/-- Settles O44. -/
theorem linksAndSplits : Obligations.LinksAndSplits := by
  unfold Obligations.LinksAndSplits
  intro s a p x t m l k
  refine ⟨fun driving split due => ⟨fun alone unheard host cut => ?_, fun two senior was auth => ?_⟩, fun follower unheard => ?_, fun island on_ since due => ?_, ?_, ?_, ?_⟩
  · exact next_of_eq (x := l.splitDecide) rfl rfl rfl (l.splitDecide_island driving split due alone unheard host cut)
  · exact next_of_eq (x := l.splitDecide) rfl rfl rfl (l.splitDecide_goesOn driving split due two senior was auth)
  · obtain ⟨st, -⟩ := l.enterIsland_enters
    have enters : l.followerAge = l.enterIsland := if_pos (by simp [follower, unheard])
    generalize l.enterIsland = n at enters st
    exact next_of_eq rfl rfl enters ⟨st, (congrArg LaneSt.driving st :)⟩
  · obtain ⟨cell, parts⟩ := l.graceEnd_lets island on_ since due
    generalize ends : l.graceEnd = n at cell parts
    exact next_of_eq rfl rfl ends ⟨cell, parts.trans (reports_wired _ a.lane)⟩
  · intro l ready named peer silent
    have serves := (s.laneAt a).redLaneReset_peer m named (by rw [← Lane.taken_id _ 0x61 m]; exact peer)
    refine answers_of (x := l.sendTo p true 0x24 (b8 p.code :: List.replicate 11 0x5A)) (congrArg (fun n => run true s a (fun _ => n)) serves) ready ?_ rfl
    exact Lane.hRedLaneReset_peer _ m named peer silent
  · intro b hears silent
    obtain ⟨xs, heard, -⟩ := l.heard_link p b true
    have restarts : (l.heard p b true).resetRx b.payload = (l.heard p b true).restart := by
      have id : l.id = (l.heard p b true).id := by rw [heard]
      change (l.heard p b true).resetRx (b8 l.id.code :: List.replicate 11 0x5A) = _
      rw [id]
      exact Lane.resetRx_restarts _ (by rw [heard]; exact silent)
    have leaves := (l.heard p b true).restart_leaves
    generalize (l.heard p b true).restart = n at restarts leaves
    rw [heard] at leaves
    exact next_heard rfl hears restarts leaves
  · intro l ready slow few auth
    have parts : Within [.red] { l with fn := { l.fn with v := m.f32 0, stopSince := none }, red := { l.red with parked := false } }
      ({ l with fn := { l.fn with v := m.f32 0, stopSince := none }, red := { l.red with parked := false } } : Lane).assess := (Within.refl _).assess
    obtain ⟨cc, q, judged⟩ := ({ l with fn := { l.fn with v := m.f32 0, stopSince := none }, red := { l.red with parked := false } } : Lane).assess_red
    refine answers_guarded rfl ready (Lane.hRedFaultClear.eq_def ..) (List.forall_mem_cons.mpr ⟨?_, List.forall_mem_cons.mpr ⟨?_, by simp⟩⟩) rfl ⟨?_, parts⟩
    · have few' : ¬2 ≤ l.classCounts.sum := by omega
      exact Bool.or_eq_false_iff.mpr ⟨slow, decide_eq_false few'⟩
    · simpa using auth
    · exact (congrArg Red.parked judged :)

end Sys2Proof.Machine
end

section
/-! The network commands of the host (R285, R297, R309, R327), the wake pattern (R328) and the listen timeout (R286), and the settlement of O45. -/

namespace Sys2Proof.Machine

set_option Elab.async false

/-- A pattern that does not wake the lane is noted and forwarded. -/
theorem Lane.cicada_notes (l : Lane) (port : Nat) (below : port < 2) (on_ : l.detectorsOn = true) (asleep : l.wakeArmed (4 + port) = false) :
    ∃ tx, l.cicada port = { l with ports.cicAt := l.ports.cicAt.set port (some l.now), ports.cicTx := tx } ∧
      (l.ports.fwd = true → l.ports.cicAt.getD (1 - port) none = none → tx = l.ports.cicTx ++ [(1 - port, l.now)]) := by
  have unarmed (m : Lane) (same : m.p 0xC101 = l.p 0xC101) : m.wake (4 + port) = m := by
    refine if_pos ?_
    have arms : m.wakeArmed (4 + port) = l.wakeArmed (4 + port) := by
      match port, below with
      | 0, _ => exact congrArg (fun v => bit v 1) same
      | 1, _ => exact congrArg (fun v => bit v 1) same
    rw [arms, asleep]
    rfl
  unfold Lane.cicada
  rw [if_neg (by simp [on_])]
  extract_lets other recent_ _ m
  refine ⟨_, unarmed m rfl, fun forwards quiet => if_pos ?_⟩
  have quiet' : recent_ = false := by
    unfold recent_
    rw [show l.ports.cicAt.getD other none = none from quiet]
  rw [forwards, quiet']
  rfl

/-- A cold-start node that has heard nothing starts the time base. -/
theorem Lane.listenOver_starts (l : Lane) (listens : l.net.st = .listen) (priority : l.np 0xB109 ≠ 0) (over_ : l.net.listenAt + 40000 * l.np 0xB10A + us (20 * l.np 0xB105) ≤ l.now) :
    l.listenOver = l.netStart .coldstart :=
  if_pos (by simp [listens, priority, Lane.due, over_])

theorem Lane.hNetTxSrcSet_own (l : Lane) (m : Msg) {k : Nat} (slot : (l.nps 0xB107).idxOf? (m.u16 0) = some k) :
    Lane.hNetTxSrcSet m l = guarded l [(decide (m.u16 0 ≤ 3) || l.i1 || decide (1 < m.u8 2), stBadParam)] (fun l => done (l.setOwn k { l.ownSlot k with hostNext := some (m.u8 2 == 1) })) := by
  unfold Lane.hNetTxSrcSet
  extract_lets
  rw [slot]

/-- Settles O45. -/
theorem networkCommands : Obligations.NetworkCommands := by
  unfold Obligations.NetworkCommands
  intro s a m k port
  refine ⟨?_, ?_, ?_, ?_, ?_, ?_⟩
  · intro l ready free priority
    have rank : (l.np 0xB109 == 0) = false := by simpa using priority
    refine ⟨fun waits => ?_, fun synced acting master => ?_⟩
    · have quick : l.quickMaster = false := by
        rcases waits with same | same
        · simp [Lane.quickMaster, same]
        · simp [Lane.quickMaster, same]
      have listens : (l.net.st == .offline || l.net.st == .listen) = true := by
        rcases waits with same | same
        · simp [same]
        · simp [same]
      have stays : l.when l.quickMaster Lane.netListen = l := by rw [quick]; rfl
      refine answers_guarded rfl ready (Lane.hNetColdstart.eq_def ..) (List.forall_mem_cons.mpr ⟨?_, List.forall_mem_cons.mpr ⟨rank, by simp⟩⟩) ?_ rfl
      · change (!(l.net.st == .offline || l.net.st == .listen || l.quickMaster) || l.net.csKey.isSome) = false
        rw [listens, free]
        rfl
      · change accept { l.when l.quickMaster Lane.netListen with net := { (l.when l.quickMaster Lane.netListen).net with contend := true, csKey := some (m.key 0x71), listenAt := (l.when l.quickMaster Lane.netListen).now } } _ = _
        rw [stays]
        rfl
    · have quick : l.quickMaster = true := by simp [Lane.quickMaster, synced, acting, master]
      have listens : l.when l.quickMaster Lane.netListen = l.netListen := by rw [quick]; rfl
      refine answers_guarded (x := { l.netListen with net := { l.netListen.net with contend := true, csKey := some (m.key 0x71), listenAt := l.now }, mb := { l.mb with accepted := l.mb.accepted ++ [m.key 0x71] } })
        rfl ready (Lane.hNetColdstart.eq_def ..) (List.forall_mem_cons.mpr ⟨?_, List.forall_mem_cons.mpr ⟨rank, by simp⟩⟩) ?_ ⟨rfl, rfl, rfl, rfl, rfl, rfl, rfl⟩
      · change (!(l.net.st == .offline || l.net.st == .listen || l.quickMaster) || l.net.csKey.isSome) = false
        rw [quick, free, Bool.or_true]
        rfl
      · change accept { l.when l.quickMaster Lane.netListen with net := { (l.when l.quickMaster Lane.netListen).net with contend := true, csKey := some (m.key 0x71), listenAt := (l.when l.quickMaster Lane.netListen).now } } _ = _
        rw [listens]
        rfl
  · intro l ready slot beyond native source
    refine answers_guarded rfl ready ?_ (List.forall_mem_cons.mpr ⟨?_, by simp⟩) rfl rfl (f := fun l => done (l.setOwn k { l.ownSlot k with hostNext := some (m.u8 2 == 1) }))
      (cs := [(decide (m.u16 0 ≤ 3) || l.i1 || decide (1 < m.u8 2), stBadParam)])
    · exact Lane.hNetTxSrcSet_own _ m slot
    · simp [native, beyond, source]
  · intro l ready channel next free
    refine answers_guarded rfl ready (Lane.hNetKeyEpoch.eq_def ..) (List.forall_mem_cons.mpr ⟨?_, by simp⟩) rfl rfl
    simp only [Bool.or_eq_false_iff, decide_eq_false_iff_not, bne_eq_false_iff_eq]
    exact ⟨⟨Nat.not_lt.mpr channel, next⟩, by rw [free]; rfl⟩
  · intro l ready
    exact answers_of rfl ready rfl rfl
  · intro l below on_ asleep
    obtain ⟨tx, notes, forwards⟩ := l.cicada_notes port below on_ asleep
    exact next_of_eq rfl (decide_eq_true below) notes ⟨rfl, forwards, reports_wired _ a.lane⟩
  · intro l listens priority over_
    exact next_of_eq rfl rfl (l.listenOver_starts listens priority over_) ⟨rfl, rfl, rfl, rfl, reports_wired _ a.lane⟩

end Sys2Proof.Machine
end

section
/-! The cycle of the network: its start, own slots, dynamic frames, the correction in the NIT and the watch of a spare slot (R272, R273, R276, R278, R281, R296), and the settlement of O46. -/

namespace Sys2Proof.Machine

set_option Elab.async false

theorem Lane.eventU_net (l : Lane) (code : Nat) : (l.eventU code).net = l.net := ((Within.refl (ps := []) l).eventU code).net_eq

theorem Lane.pvals_releaseIds (l : Lane) (ids : List Nat) (id inst : Nat) (ne : id ∉ ids) : (l.releaseIds ids).pvals id inst = l.pvals id inst := by
  have same : (fun h : Held => decide ((!(ids.contains h.id)) = true ∧ (h.id == id && h.inst == inst) = true)) = fun h => h.id == id && h.inst == inst := by
    funext h
    rw [Bool.eq_iff_iff]
    by_cases here : h.id = id
    · simp [here, ne]
    · simp [here]
  unfold Lane.pvals Lane.releaseIds Lane.release
  simp only [List.find?_filter, same]
  rfl

theorem Within.net_upd (l : Lane) (n : Net) : Within [.net] l { l with net := n } := (Within.refl l).upd

/-! ### The start of a cycle (R276) -/

/-- The place of a cycle in time: its counter, its start and that of the next. -/
def Net.place (n : Net) : BitVec 48 × Nat × Nat := (n.cycle, n.cycleAt, n.nextAt)

theorem Net.place_eq {m n : Net} (cycle : m.cycle = n.cycle) (start : m.cycleAt = n.cycleAt) (next : m.nextAt = n.nextAt) : m.place = n.place := by
  rw [Net.place, cycle, start, next]
  rfl

theorem Lane.linkJoin_place (l : Lane) : l.linkJoin.net.place = l.net.place ∧ l.linkJoin.net.cand = l.net.cand := by
  unfold Lane.linkJoin
  split
  · split
    · rw [Lane.eventU_net]
      exact ⟨rfl, rfl⟩
    · exact ⟨rfl, rfl⟩
  · exact ⟨rfl, rfl⟩

theorem Lane.claims_place (l : Lane) : l.claims.net.place = l.net.place ∧ l.claims.net.cand = l.net.cand := by
  unfold Lane.claims
  extract_lets used cl _ m _ spare
  have before : m.net.place = l.net.place ∧ m.net.cand = l.net.cand := ⟨rfl, rfl⟩
  clear_value spare m
  split
  · exact before
  · split
    · exact before
    · split
      · split
        · exact before
        · exact before
      · exact before
      · rw [Lane.eventU_net]
        exact before
      · split
        · exact before
        · exact before
      · exact before

theorem Lane.quorum_place (l : Lane) : l.quorum.net.place = l.net.place ∧ l.quorum.net.cand = l.net.cand := by
  have told (m : Lane) (code : Nat) : ((m.eventU code).assess).net = m.net := (((Within.refl (ps := [.red]) m).eventU code).assess).net_eq
  unfold Lane.quorum
  split
  · exact ⟨rfl, rfl⟩
  · extract_lets ok bad good n _ m _ q mine others ff
    have same : q.net.place = l.net.place ∧ q.net.cand = l.net.cand := by
      unfold q
      split
      · rw [told]
        exact ⟨rfl, rfl⟩
      · split
        · rw [told]
          exact ⟨rfl, rfl⟩
        · exact ⟨rfl, rfl⟩
    exact same

theorem Lane.netSynced_place (l : Lane) (status : Nat) : (l.netSynced status).net.place = l.net.place := by
  unfold Lane.netSynced Lane.csDone
  rw [((Within.refl (ps := []) _).completeOpt _ _).net_eq]
  rfl

/-- A controller that holds no candidate keeps the place of its cycle. -/
theorem Lane.netStep_place (l : Lane) (none : l.net.cand = none) : l.netStep.net.place = l.net.place := by
  unfold Lane.netStep
  extract_lets c
  split
  · rfl
  · split
    · rfl
    · split
      · exact Lane.netSynced_place ..
      · rfl
    · split
      · rw [Lane.eventU_net]
        exact Lane.netSynced_place ..
      · split
        · rw [none]
          rfl
        · split
          · rfl
          · rfl
    · split
      · change (l.eventU 0xB102).net.place = _
        rw [Lane.eventU_net]
      · rfl
    · rfl

theorem Lane.channelLoss_place (l : Lane) : l.channelLoss.net.place = l.net.place := by
  unfold Lane.channelLoss
  extract_lets c bad fr okr n lostA m out lost was _ q
  split
  · rw [((((Within.refl (ps := [.red]) q).eventU 0xB10F).reasmAll).assess).net_eq]
    rfl
  · split
    · rw [((Within.refl (ps := [.red]) q).assess).net_eq]
      rfl
    · rfl

/-- What a cycle start clears. -/
structure Net.Cleared (n : Net) : Prop where
  sent : n.sent = []
  heard : n.heard = []
  firefly : n.ffNow = none
  frames : n.txDyn = 0
  air : n.txAir = 0

theorem Lane.epochStart_net (l : Lane) (k own : Nat) : ∃ xs, (l.epochStart k own).net = { l.net with chan := xs } := by
  unfold Lane.epochStart
  extract_lets c
  split
  next e start key _ =>
    split
    · refine ⟨l.net.chan.set k { c with epoch := e, next := none, graceOld := some c.epoch, graceTo := start + l.p 0xB133 }, ?_⟩
      refine ((Within.refl (ps := []) ((l.setChan k { c with epoch := e, next := none, graceOld := some c.epoch, graceTo := start + l.p 0xB133 }).eventU 0xB116)).completeOpt key stDone).net_eq.trans ?_
      rw [Lane.eventU_net]
      rfl
    · exact ⟨l.net.chan, rfl⟩
  next => exact ⟨l.net.chan, rfl⟩

theorem Lane.skewTest_net (l : Lane) : ∃ told, l.skewTest.net = { l.net with skewTold := told } := by
  obtain ⟨far, test⟩ : ∃ far : Bool, l.skewTest = if far && !l.net.skewTold then ({ l with net := { l.net with skewTold := far } } : Lane).eventU 0xB112 else { l with net := { l.net with skewTold := far } } := ⟨_, rfl⟩
  rw [test]
  refine ⟨far, ?_⟩
  split
  · rw [Lane.eventU_net]
  · rfl

/-- What follows the clearing of a cycle start keeps what was cleared and the place of the cycle. -/
theorem Lane.cycleEnd_net (l : Lane) (c d : Nat) (cleared : l.net.Cleared) :
    (((((l.seenPrune 0 c).epochStart 0 c).epochStart 1 d).phaseAlign.cycleBlocks.skewTest.healthRecord).respFlush).net.Cleared ∧
    (((((l.seenPrune 0 c).epochStart 0 c).epochStart 1 d).phaseAlign.cycleBlocks.skewTest.healthRecord).respFlush).net.place = l.net.place := by
  obtain ⟨xs, first⟩ := (l.seenPrune 0 c).epochStart_net 0 c
  obtain ⟨ys, second⟩ := ((l.seenPrune 0 c).epochStart 0 c).epochStart_net 1 d
  generalize ((l.seenPrune 0 c).epochStart 0 c).epochStart 1 d = m at second
  obtain ⟨told, skew⟩ := (m.phaseAlign.cycleBlocks).skewTest_net
  have aligned : Within [.pwm, .link] m m.phaseAlign.cycleBlocks := ((Within.refl m).phaseAlign).cycleBlocks
  have last : Within [.ports] m.phaseAlign.cycleBlocks.skewTest (m.phaseAlign.cycleBlocks.skewTest.healthRecord.respFlush) := ((Within.refl _).healthRecord).respFlush
  have net : m.phaseAlign.cycleBlocks.skewTest.healthRecord.respFlush.net = { l.net with chan := ys, skewTold := told } := by
    rw [last.net_eq, skew, aligned.net_eq, second, first]
    rfl
  rw [net]
  obtain ⟨sent, heard, firefly, frames, air⟩ := cleared
  exact ⟨⟨sent, heard, firefly, frames, air⟩, rfl⟩

section
variable (l : Lane) (on_ : l.net.st ≠ .offline) (runs : l.fwRuns = true) (known : l.net.known = true) (none : l.net.cand = none) (due : l.net.nextAt ≤ l.now)
include on_ runs known none due

/-- The steps of a cycle start: it counts, judges the last cycle, clears, and then takes what follows. -/
theorem Lane.cycleStart_steps : ∃ r t v w : Lane, ∃ c d : Nat,
    (r.net.place = (l.net.cycle + 1, l.net.nextAt, l.net.nextAt + l.cycLen) ∧ r.net.cand = Option.none ∧ Within [.held, .net] l r) ∧
    (t.net.place = r.linkJoin.claims.quorum.net.place ∧ t.net.cand = r.linkJoin.claims.quorum.net.cand ∧ Within [.net] r.linkJoin.claims.quorum t) ∧
    (v.net.place = t.adoptEnd.netStep.channelLoss.net.place ∧ Within [.net] t.adoptEnd.netStep.channelLoss v) ∧
    (w.net.Cleared ∧ w.net.place = v.net.place ∧ Within [.net] v w) ∧
    l.cycleStart = (((((w.seenPrune 0 c).epochStart 0 c).epochStart 1 d).phaseAlign.cycleBlocks.skewTest.healthRecord).respFlush) := by
  unfold Lane.cycleStart
  rw [if_neg (by simp [on_, runs, Lane.due, due])]
  extract_lets q start _ r c s own _ t u _ v ok _ w y
  have held : Within [.held] l q := (Within.refl l).releaseIds _
  have start_eq : start = l.net.nextAt := by
    unfold start
    rw [held.net_eq, if_pos known]
  have place : r.net.place = (l.net.cycle + 1, l.net.nextAt, l.net.nextAt + l.cycLen) := by
    have len : q.cycLen = l.cycLen := by
      have np : q.np 0xB101 = l.np 0xB101 := by rw [Lane.np, Lane.np, held.net_eq, show q.pvals 0xB101 0 = l.pvals 0xB101 0 from l.pvals_releaseIds _ _ _ (by decide)]
      rw [Lane.cycLen, Lane.cycLen, Lane.cycNom, Lane.cycNom, np, held.net_eq]
    change (if q.net.known then q.net.cycle + 1 else q.net.cycle, start, start + q.cycLen) = _
    rw [held.net_eq, if_pos known, start_eq, len]
  have fresh : r.net.cand = Option.none := (congrArg Net.cand held.net_eq :).trans none
  have counted : Within [.held, .net] l r := (held.mono (by decide)).upd
  have judged : Within [.net] s t := .net_upd s _
  have emptied : Within [.net] u v := .net_upd u _
  have timed : Within [.net] v w := .net_upd v _
  have same : t.net.place = s.net.place := Net.place_eq rfl rfl rfl
  have bare : v.net.place = u.net.place := Net.place_eq rfl rfl rfl
  have kept : w.net.place = v.net.place := Net.place_eq rfl rfl rfl
  exact ⟨r, t, v, w, c, w.tapCyc.getD c, ⟨place, fresh, counted⟩, ⟨same, rfl, judged⟩, ⟨bare, emptied⟩, ⟨⟨rfl, rfl, rfl, rfl, rfl⟩, kept, timed⟩, rfl⟩

/-- A cycle start counts the cycle and clears what belonged to the last. -/
theorem Lane.cycleStart_counts : l.cycleStart.net.Cleared ∧ l.cycleStart.net.place = (l.net.cycle + 1, l.net.nextAt, l.net.nextAt + l.cycLen) ∧ l.cycleStart.params = l.params := by
  obtain ⟨r, t, v, w, c, d, ⟨place, fresh, counted⟩, ⟨same, cand, judged⟩, ⟨bare, emptied⟩, ⟨clear, kept, timed⟩, steps⟩ := l.cycleStart_steps on_ runs known none due
  rw [steps]
  have chain : r.linkJoin.claims.quorum.net.place = r.net.place ∧ r.linkJoin.claims.quorum.net.cand = r.net.cand :=
    ⟨((r.linkJoin.claims).quorum_place.1.trans (r.linkJoin.claims_place.1)).trans r.linkJoin_place.1, ((r.linkJoin.claims).quorum_place.2.trans (r.linkJoin.claims_place.2)).trans r.linkJoin_place.2⟩
  have adopted : t.adoptEnd.net.place = t.net.place ∧ t.adoptEnd.net.cand = t.net.cand := by
    unfold Lane.adoptEnd Lane.when
    split
    · exact ⟨rfl, rfl⟩
    · exact ⟨rfl, rfl⟩
  have stepped : t.adoptEnd.netStep.channelLoss.net.place = r.net.place :=
    (Lane.channelLoss_place _).trans ((t.adoptEnd.netStep_place (adopted.2.trans (cand.trans (chain.2.trans fresh)))).trans (adopted.1.trans (same.trans chain.1)))
  have first : Within [.held, .red, .net] l r.linkJoin.claims.quorum := (((counted.mono (by decide)).linkJoin).claims).quorum
  have second : Within [.red, .net] t t.adoptEnd.netStep.channelLoss := (((Within.refl t).adoptEnd).netStep).channelLoss
  have last : Within [.net, .pwm, .link, .ports] w (((((w.seenPrune 0 c).epochStart 0 c).epochStart 1 d).phaseAlign.cycleBlocks.skewTest.healthRecord).respFlush) :=
    ((((((((Within.refl w).seenPrune ..).epochStart ..).epochStart ..).phaseAlign).cycleBlocks).skewTest).healthRecord).respFlush
  obtain ⟨cleared, stays⟩ := w.cycleEnd_net c d clear
  exact ⟨cleared, stays.trans (kept.trans (bare.trans (stepped.trans place))),
    last.params_eq.trans (timed.params_eq.trans (emptied.params_eq.trans (second.params_eq.trans (judged.params_eq.trans first.params_eq))))⟩

end

/-! ### Frames that go out (R272, R273, R278) -/

/-- A frame that is sent joins those of its port. -/
theorem Lane.sendFrame_joins (l : Lane) (port : Nat) (x : Fr) (payload : List Byte) :
    ∃ f : TxFrame, l.sendFrame port x payload = { l with net := { l.net with tx := l.net.tx ++ [f] } } ∧ f.port = port ∧ f.t = l.now ∧ f.cutAt = none ∧
      f.payload = (if l.i1 then payload else payload ++ List.replicate (30 - payload.length) 0) :=
  ⟨_, rfl, rfl, rfl, rfl, rfl⟩

theorem TxFrame.stop_uncut {f : TxFrame} (whole : f.cutAt = none) : f.stop = f.t + (f.payload.length + 54) * 32 := by
  unfold TxFrame.stop
  rw [whole]
  rfl

/-- The head of a lane's status has 32 bytes (Table NF-3). -/
theorem Lane.laneHead_length (l : Lane) : l.laneHead.length = 32 := by
  unfold Lane.laneHead
  extract_lets n
  simp [leBytes_length, List.length_flatMap]

/-- The status frame of the first own slot, before it goes out. -/
theorem Lane.appTake_first (l : Lane) (at_ : Nat) (own : (l.ownSlot 0).host = false) : ∃ x, l.appTake 0 at_ = l.setOwn 0 x := by
  unfold Lane.appTake
  rw [if_pos (by simp [own])]
  exact ⟨_, rfl⟩

/-- The gates of the guardian do not look at what a lane has sent in this cycle. -/
theorem Lane.grdStatic_sent (l : Lane) (sent : List Nat) (slot : Nat) : ({ l with net.sent := sent } : Lane).grdStatic slot = l.grdStatic slot := by
  by_cases bare : l.net.grdCfg.isEmpty = true
  · have own : l.asGuard = l := if_pos bare
    have same : ({ l with net.sent := sent } : Lane).asGuard = { l with net.sent := sent } := if_pos bare
    simp only [Lane.grdStatic, Lane.grdView, Lane.grdOff, own, same]
    rfl
  · have own : l.asGuard = { l with net.latched := l.net.grdCfg } := if_neg bare
    have same : ({ l with net.sent := sent } : Lane).asGuard = { l with net := { l.net with sent := sent, latched := l.net.grdCfg } } := if_neg bare
    simp only [Lane.grdStatic, Lane.grdView, Lane.grdOff, own, same]
    rfl

theorem Lane.grdDyn_counts (l : Lane) (mb : Mb) (frames air : Nat) (claim : ClaimSt) (n : Nat) :
    ({ l with mb := mb, net := { l.net with txDyn := frames, txAir := air, claim := claim } } : Lane).grdDyn n = l.grdDyn n := by
  by_cases bare : l.net.grdCfg.isEmpty = true
  · have own : l.asGuard = l := if_pos bare
    have same : ({ l with mb := mb, net := { l.net with txDyn := frames, txAir := air, claim := claim } } : Lane).asGuard = { l with mb := mb, net := { l.net with txDyn := frames, txAir := air, claim := claim } } := if_pos bare
    simp only [Lane.grdDyn, Lane.grdView, Lane.grdOff, own, same]
    rfl
  · have own : l.asGuard = { l with net.latched := l.net.grdCfg } := if_neg bare
    have same : ({ l with mb := mb, net := { l.net with txDyn := frames, txAir := air, claim := claim } } : Lane).asGuard =
        { l with mb := mb, net := { l.net with txDyn := frames, txAir := air, claim := claim, latched := l.net.grdCfg } } := if_neg bare
    simp only [Lane.grdDyn, Lane.grdView, Lane.grdOff, own, same]
    rfl

/-- An own static frame cuts the relayed frames in its way. -/
theorem Lane.sendStatic_joins (l : Lane) (x : Fr) (payload : List Byte) (long : l.i1 = true → 30 ≤ payload.length) :
    ∃ f : TxFrame, (l.sendStatic x payload).net = { l.net with tx := (l.cutTx [.relayed] l.insPort l.now f.stop).net.tx ++ [f] } ∧ f.port = l.insPort ∧ f.t = l.now := by
  obtain ⟨f, joins, port, at_, whole, body⟩ := (l.cutTx [.relayed] l.insPort l.now (l.now + (max 30 payload.length + 54) * 32)).sendFrame_joins l.insPort x payload
  have len : f.payload.length = max 30 payload.length := by
    rw [body]
    change (if l.i1 then payload else payload ++ List.replicate (30 - payload.length) 0).length = _
    split
    next one => exact (Nat.max_eq_right (long one)).symm
    next => rw [List.length_append, List.length_replicate]; omega
  have stop : f.stop = l.now + (max 30 payload.length + 54) * 32 := by
    rw [TxFrame.stop_uncut whole, len, at_]
    rfl
  refine ⟨f, (congrArg Lane.net joins :).trans ?_, port, at_⟩
  rw [stop]
  rfl

section
variable (l : Lane) (slot : Nat) (may : l.mayInsert = true) (synced : l.net.st = .synced) (some_ : 0 < slot) (static_ : slot ≤ l.staticN) (own : (l.nps 0xB107).idxOf? slot = some 0)
  (fresh : l.net.sent.contains slot = false) (from_ : l.net.cycleAt + l.slotStart slot + l.insDelay ≤ l.now) (until_ : l.now < l.net.cycleAt + l.cycLen) (other : l.ffSlot ≠ some slot)
  (seen : l.grdNew = false) (gate : l.grdStatic slot = true) (firmware : (l.ownSlot 0).host = false)
include may synced some_ static_ own fresh from_ until_ other seen gate firmware

/-- The own slot of a lane is inserted once in its cycle. -/
theorem Lane.insertStatic_sends : ∃ m : Lane, ∃ x : Fr, ∃ payload : List Byte, ∃ xs, Within [.red, .fn] { l with net := { l.net with sent := slot :: l.net.sent, own := xs } } m ∧
    (m.i1 = true → 30 ≤ payload.length) ∧ l.insertStatic slot = m.sendStatic x payload := by
  unfold Lane.insertStatic
  extract_lets _ at_ ks claimed ff p cs q _ r k t x _ u w pay pay'
  have first : ks = some 0 := own
  have due : l.due at_ = true := decide_eq_true from_
  have ours : ff = false := beq_eq_false_iff_ne.mpr other
  have zero : k = 0 := by
    unfold k
    rw [first]
    rfl
  have inside : ¬l.net.cycleAt + l.cycLen ≤ l.now := Nat.not_le.mpr until_
  rw [if_neg (by rw [may, first, fresh, due]; simp [some_.ne', Nat.not_lt.mpr static_, inside]), if_neg (by simp [synced, seen, first, ours]), if_neg (by rw [show p.grdStatic slot = l.grdStatic slot from l.grdStatic_sent _ slot, gate]; decide), if_neg (by rw [ours]; decide)]
  obtain ⟨y, takes⟩ := p.appTake_first at_ (show (p.ownSlot 0).host = false from firmware)
  have taken : t = p.setOwn 0 y := by
    unfold t
    rw [zero, takes]
  have spoken : Within [.red, .fn] t w := ((Within.refl t).upd : Within [.red, .fn] t u).speedRequest
  have parts : Within [.red, .fn] { l with net := { l.net with sent := slot :: l.net.sent, own := l.net.own.set 0 y } } w := by
    rw [taken] at spoken
    exact spoken
  refine ⟨w, _, pay', l.net.own.set 0 y, parts, fun one => ?_, rfl⟩
  have body : pay' = (w.laneHead ++ w.fnStat ++ x.app).take 32 := by
    unfold pay' pay
    rw [zero, if_pos one]
    rfl
  rw [body, List.length_take, List.length_append, List.length_append, Lane.laneHead_length]
  omega

/-- What the lane comes to: the frame is on its port, and its slot is taken for this cycle. -/
theorem Lane.insertStatic_inserts : (l.insertStatic slot).net.sent = slot :: l.net.sent ∧
    (∃ f : TxFrame, (l.insertStatic slot).net.tx = (l.cutTx [.relayed] l.insPort l.now f.stop).net.tx ++ [f] ∧ f.port = l.insPort ∧ f.t = l.now) ∧ Within [.net, .red, .fn] l (l.insertStatic slot) := by
  obtain ⟨m, x, payload, xs, parts, long, sends⟩ := l.insertStatic_sends slot may synced some_ static_ own fresh from_ until_ other seen gate firmware
  obtain ⟨f, joins, port, at_⟩ := m.sendStatic_joins x payload long
  have now : m.now = l.now := parts.now_eq
  have np : m.np 0xB130 = l.np 0xB130 := by
    have vals : m.pvals 0xB130 0 = l.pvals 0xB130 0 := parts.pvals_eq 0xB130 0
    rw [Lane.np, Lane.np, vals, parts.net_eq]
  have net : m.net = { l.net with sent := slot :: l.net.sent, own := xs } := parts.net_eq
  have ins : m.insPort = l.insPort := by
    rw [Lane.insPort, Lane.insPort, Lane.i1, Lane.i1, np, net]
  rw [sends, joins]
  refine ⟨(congrArg Net.sent net :), ⟨f, ?_, port.trans ins, at_.trans now⟩, ?_⟩
  · rw [ins, now]
    change m.net.tx.map _ ++ [f] = l.net.tx.map _ ++ [f]
    rw [net]
  · have sent : Within [.net] m (m.sendStatic x payload) := (Within.refl m).sendStatic ..
    have start : Within [.net, .red, .fn] l { l with net := { l.net with sent := slot :: l.net.sent, own := xs } } := (Within.refl l).upd
    exact (start.trans (parts.mono (by decide))).trans (sent.mono (by decide))

end

/-- Icbex-1 knows no dynamic frames. -/
theorem Lane.dynMay_native (l : Lane) {slot n : Nat} (may : l.dynMay slot n = true) : l.i1 = false := by
  by_contra one
  simp [Lane.dynMay, one] at may

/-- A payload of the host goes out in its minislot. -/
theorem Lane.dynStart_sends (l : Lane) (slot : Nat) (payload : List Byte) (quiet : l.net.notice = false) (some_ : 0 < payload.length) (fits : payload.length ≤ 64)
    (may : l.dynMay slot payload.length = true) (gate : l.grdDyn payload.length = true) (empty : ∀ q ∈ [48, 49, 50, 51], (l.q q).items = []) :
    ∃ f : TxFrame, ∃ mb, f.payload = payload ++ List.replicate (30 - payload.length) 0 ∧
      l.dynStart slot payload = { l with mb := mb, net := { l.net with txDyn := l.net.txDyn + 1, txAir := l.net.txAir + (max 30 payload.length + 54) * 80, tx := l.net.tx ++ [f] } } := by
  have none : ([48, 49, 50, 51].find? (fun n => !(l.q n).items.isEmpty)) = Option.none :=
    List.find?_eq_none.mpr fun q member => by simp [empty q member]
  have native : l.i1 = false := l.dynMay_native may
  unfold Lane.dynStart
  simp only [none]
  rw [if_neg (by simp [quiet]), if_neg (by simp [may, List.isEmpty_iff, List.length_pos_iff.mp some_, Nat.not_lt.mpr fits]), Lane.netPump_eq]
  generalize (l.netPump (l.mb.metaNet.length + 1)).mb = mb
  have counts : ({ l with mb := mb } : Lane).dynCount payload.length = { l with mb := mb, net := { l.net with txDyn := l.net.txDyn + 1, txAir := l.net.txAir + (max 30 payload.length + 54) * 80 } } := rfl
  rw [counts]
  generalize made : ({ l with mb := mb, net := { l.net with txDyn := l.net.txDyn + 1, txAir := l.net.txAir + (max 30 payload.length + 54) * 80 } } : Lane) = m
  have passes := l.grdDyn_counts mb (l.net.txDyn + 1) (l.net.txAir + (max 30 payload.length + 54) * 80) l.net.claim payload.length
  rw [if_pos (by rw [← made]; exact passes.trans gate)]
  obtain ⟨f, joins, -, -, -, body⟩ := m.sendFrame_joins m.insPort { ty := 4, slot := slot } payload
  refine ⟨f, mb, body.trans (if_neg ?_), joins.trans (by subst made; rfl)⟩
  rw [← made]
  change ¬l.i1 = true
  simp [native]

/-- A watched slot without a rival is claimed. -/
theorem Lane.watchEnd_claims (l : Lane) (watch : l.net.claim = .watch) (long : 8 ≤ l.net.claimCnt) (may : l.dynMay (l.staticN + (l.now - l.net.cycleAt - l.staticN * l.slotLen) / us 2 + 1) 3 = true)
    (gate : l.grdDyn 3 = true) (alone : l.net.claimRival = false) :
    ∃ f : TxFrame, f.payload = leBytes 2 l.net.claimSlot ++ [b8 (l.np 0xB105)] ++ List.replicate 27 0 ∧
      l.watchEnd = { l with net := { l.net with claim := .sent, txDyn := l.net.txDyn + 1, txAir := l.net.txAir + dynAir 3, tx := l.net.tx ++ [f] } } := by
  have native : l.i1 = false := l.dynMay_native may
  unfold Lane.watchEnd
  extract_lets slot _ m n
  obtain ⟨f, joins, -, -, -, body⟩ := m.sendFrame_joins m.insPort { ty := 5, slot := slot } (leBytes 2 l.net.claimSlot ++ [b8 (l.np 0xB105)])
  have sent : n = { l with net := { l.net with claim := .sent, txDyn := l.net.txDyn + 1, txAir := l.net.txAir + dynAir 3, tx := l.net.tx ++ [f] } } := joins
  have passes := l.grdDyn_counts l.mb (l.net.txDyn + 1) (l.net.txAir + dynAir 3) .sent 3
  refine ⟨f, body.trans ((if_neg ?_).trans ?_), ?_⟩
  · change ¬l.i1 = true
    simp [native]
  · simp [leBytes_length]
  · rw [if_pos (by rw [show l.dynMay slot 3 = true from may]; simp [watch, long]), if_pos (show m.grdDyn 3 = true from passes.trans gate), sent]
    exact if_neg (by simp [alone])

/-! ### The correction in the NIT (R281) -/

section
variable (l : Lane) (slot : Nat) (synced : l.net.st = .synced) (first : l.net.nitCycle ≠ some l.net.cycle.toNat) (due : l.net.cycleAt + l.cycNom - l.nitLen ≤ l.now) (now_ : l.net.ffNow = some slot)
  (last : l.net.ffLast = some slot) (offset : l.net.delta.natAbs ≤ 40 * l.p 0xB112) (rate : l.net.rate.natAbs ≤ 1000 * l.p 0xB113)
include synced first due now_ last offset rate

/-- A correction inside its limits moves the next cycle start by the offset. -/
theorem Lane.nit_corrects : ∃ t, l.nit =
    { l with net := { l.net with nitCycle := some l.net.cycle.toNat, nextAt := ((l.net.nextAt : Int) + l.net.delta).toNat, ffSrc := slot, reqDue := some t } } := by
  have inside : max (-(40 * (l.p 0xB112 : Int))) (min (40 * (l.p 0xB112 : Int)) l.net.delta) = l.net.delta := by omega
  have steady : ¬(1000 * (l.p 0xB113 : Int) < l.net.rate ∨ l.net.rate < -(1000 * (l.p 0xB113 : Int))) := by omega
  have calm : l.driftOut l.net.delta = false := by
    refine decide_eq_false ?_
    split
    · omega
    · omega
  unfold Lane.nit
  extract_lets c _ m dev _ _ _ omax corr n rmax _ q _ y z
  rw [if_neg (by simp [synced, first, c, Lane.due, due])]
  have taken : m.net.ffNow = some slot := now_
  have judged : dev = some l.net.delta := if_pos (by rw [taken]; rfl)
  have clamped : corr = l.net.delta := inside
  have placed : n = { l with net := { l.net with nitCycle := some l.net.cycle.toNat, nextAt := ((l.net.nextAt : Int) + l.net.delta).toNat } } := by
    unfold n
    rw [clamped]
  have slow : q = n := if_neg steady
  clear_value q
  subst slow
  have moved : y = { l with net := { l.net with nitCycle := some l.net.cycle.toNat, nextAt := ((l.net.nextAt : Int) + l.net.delta).toNat, ffSrc := slot } } := by
    have before : n.net.ffLast = some slot := last
    unfold y
    rw [taken]
    refine (if_neg ?_).trans ?_
    · rw [before]
      simp
    · change ({ n with net := { n.net with ffSrc := slot, ffNow := some slot } } : Lane) = _
      rw [placed, ← now_]
  have stays : z = y := by
    unfold z
    rw [judged]
    refine if_neg ?_
    have calm' : y.driftOut l.net.delta = false := by
      rw [moved]
      exact calm
    rw [calm', Bool.and_false]
    decide
  clear_value z
  subst stays
  clear_value y
  subst moved
  exact ⟨_, rfl⟩

end

/-- No delay request goes out while the link of port 0 is down. -/
theorem Lane.delayPoll_down (l : Lane) (down : l.net.link0 = false) : ∃ t, l.delayPoll = { l with net := { l.net with reqDue := t } } := by
  unfold Lane.delayPoll
  split
  next => exact ⟨l.net.reqDue, rfl⟩
  next =>
    split
    · exact ⟨l.net.reqDue, rfl⟩
    · exact ⟨none, if_pos (by simp [down])⟩

/-! ### The statement -/

/-- Settles O46. -/
theorem networkCycle : Obligations.NetworkCycle := by
  unfold Obligations.NetworkCycle
  intro s a slot n payload l
  refine ⟨fun on_ runs known none due => ?_, fun may synced some_ static_ own fresh from_ until_ other seen gate firmware => ?_, fun quiet some_ fits may gate empty => ?_,
    fun synced first due now_ last offset rate down => ?_, fun watch long minislot may gate alone => ?_, fun waits over_ => ?_⟩
  · obtain ⟨⟨sent, heard, firefly, frames, air⟩, place, params⟩ := l.cycleStart_counts on_ runs known none due
    generalize ends : l.cycleStart = m at sent heard firefly frames air place params
    exact next_of_eq rfl rfl ends ⟨(congrArg Prod.fst place :), (congrArg (fun x => x.2.1) place :), (congrArg (fun x => x.2.2) place :), sent, heard, firefly, frames, air, params⟩
  · obtain ⟨sent, frame, parts⟩ := l.insertStatic_inserts slot may synced some_ static_ own fresh from_ until_ other seen gate firmware
    generalize ends : l.insertStatic slot = m at sent frame parts
    exact next_of_eq rfl rfl ends ⟨sent, frame, (parts.wired a.lane :)⟩
  · obtain ⟨f, mb, body, sends⟩ := l.dynStart_sends slot payload quiet some_ fits may gate empty
    have facts : (l.dynStart slot payload).net.txDyn = l.net.txDyn + 1 ∧ (l.dynStart slot payload).net.txAir = l.net.txAir + (max 30 payload.length + 54) * 80 ∧ (l.dynStart slot payload).net.tx = l.net.tx ++ [f] ∧
        Within [.net] l (l.dynStart slot payload) := by
      rw [sends]
      exact ⟨rfl, rfl, rfl, (Within.refl l).upd⟩
    obtain ⟨frames, air, joins, parts⟩ := facts
    clear sends
    generalize ends : l.dynStart slot payload = m at frames air joins parts
    exact next_of_eq rfl rfl ends ⟨frames, air, ⟨f, joins, body⟩, (parts.wired a.lane :)⟩
  · obtain ⟨t, corrects⟩ := l.nit_corrects slot synced first due now_ last offset rate
    obtain ⟨u, polls⟩ := l.nit.delayPoll_down (by rw [corrects]; exact down)
    rw [corrects] at polls
    refine next_of_eq rfl rfl ((congrArg Lane.delayPoll corrects).trans polls) (reports_wired _ a.lane)
  · subst minislot
    obtain ⟨f, body, claims⟩ := l.watchEnd_claims watch long may gate alone
    exact next_of_eq rfl rfl claims ⟨rfl, rfl, ⟨f, rfl, body⟩, reports_wired _ a.lane⟩
  · have both : (l.net.claim == .backoff && l.net.claimCnt == 0) = true := by
      rw [waits, over_]
      rfl
    exact next_of_eq rfl rfl (if_pos both) (reports_wired _ a.lane)

end Sys2Proof.Machine
end

section
/-! Frames of the own channel (R295, R296, R311, R312): one that passes its checks is marked and handed to its action, one that fails a check is counted; then the claims and the rejoin notices of other nodes. -/

namespace Sys2Proof.Machine

set_option Elab.async false

/-! ### The checks of a frame -/

section
variable (l : Lane) (f : RxFrame)

/-- A frame that passes every check reaches its action on the lane that has marked it. -/
theorem Lane.rxOwn_passes {tys : List Nat} (act : Lane → Fr → Lane) (passes : l.passes f tys = true) : l.rxOwn f tys act = act (l.marked f) (l.parse f) := by
  simp only [Lane.passes, Bool.and_eq_true, decide_eq_true_eq, Bool.not_eq_true', beq_iff_eq] at passes
  obtain ⟨⟨⟨⟨⟨⟨⟨on_, port⟩, bus⟩, other⟩, first⟩, base⟩, fails⟩, own⟩ := passes
  have judged : (!l.timed && l.net.st != .coldstart && (l.parse f).ty != 2 && (l.parse f).ok) = false := by
    simp only [Bool.or_eq_true, beq_iff_eq, Bool.not_eq_true'] at base
    obtain ((timed | cold) | firefly) | form := base
    · rw [timed]; rfl
    · rw [cold]; simp
    · rw [firefly]; simp
    · rw [form]; simp
  have taken : (!l.netOn || decide (2 ≤ f.port) || (l.i1 && f.port != 0)) = false := by
    rw [on_, bus, decide_eq_false (by omega)]
    rfl
  unfold Lane.rxOwn Lane.marked
  simp only [taken, other, first, judged, fails, Bool.false_eq_true, if_false, beq_self_eq_true, if_true, own, Nat.reduceBEq, Bool.or_self]

/-- A frame that fails a check is counted. -/
def Lane.BadFrame : Prop :=
  l.timed = true ∧ l.netOn = true ∧ f.port < 2 ∧ (l.i1 && f.port != 0) = false ∧
    ¬ ((l.parse f).node = l.np 0xB105 ∧ (l.parse f).ok = true ∧ f.fcsOk = true ∧ (l.parse f).slot ≠ 0xFFFF) ∧ (l.secondPass f.port (l.parse f) && f.fcsOk) = false ∧ l.rxFail f (l.parse f) ≠ 0

/-- The sender that a failed check is counted for. -/
def Lane.blamed (l : Lane) (f : RxFrame) : Option Nat :=
  if l.rxFail f (l.parse f) = 1 then none else if l.rxFail f (l.parse f) = 2 ∧ 64 ≤ (l.parse f).node then none else some (l.parse f).node

/-- The lane on which a failed check is counted: its static frames are counted for the authentication rule. -/
def Lane.reckoned (l : Lane) (f : RxFrame) : Lane :=
  if f.fcsOk then l.authCount (l.parse f) (l.rxFail f (l.parse f) == 4 || l.rxFail f (l.parse f) == 5 || l.rxFail f (l.parse f) == 6) else l

theorem Lane.rxOwn_fails {tys : List Nat} (act : Lane → Fr → Lane) (bad : l.BadFrame f) :
    l.rxOwn f tys act = (l.reckoned f).failCheck (l.rxFail f (l.parse f)) (l.blamed f) := by
  obtain ⟨timed, on_, port, bus, other, first, fails⟩ := bad
  have taken : (!l.netOn || decide (2 ≤ f.port) || (l.i1 && f.port != 0)) = false := by
    rw [on_, bus, decide_eq_false (by omega)]
    rfl
  have other' : ((l.parse f).node == l.np 0xB105 && (l.parse f).ok && f.fcsOk && (l.parse f).slot != 0xFFFF) = false := by
    simpa [← Bool.not_eq_true, and_assoc] using other
  unfold Lane.rxOwn Lane.reckoned Lane.blamed
  simp only [taken, other', first, timed, Bool.not_true, Bool.false_and, Bool.false_eq_true, if_false, Bool.and_true, beq_eq_false_iff_ne.mpr fails, beq_iff_eq, Bool.and_eq_true, decide_eq_true_eq]

theorem Lane.authCount_net (x : Fr) (fail : Bool) : ∃ xs, l.authCount x fail = { l with net := { l.net with chan := xs } } := by
  unfold Lane.authCount
  split
  · exact ⟨_, rfl⟩
  · exact ⟨l.net.chan, rfl⟩

/-- Only the counters, the channel states and the instants of the last events change with a frame that fails a check. -/
theorem Lane.reckoned_net : ∃ xs, l.reckoned f = { l with net := { l.net with chan := xs } } := by
  unfold Lane.reckoned
  split
  · exact l.authCount_net ..
  · exact ⟨l.net.chan, rfl⟩

theorem Lane.checkEvent_net (check sender code : Nat) : ∃ xs, (l.checkEvent check sender code).net = { l.net with evAt := xs } := by
  unfold Lane.checkEvent
  split
  · exact ⟨l.net.evAt, rfl⟩
  · exact ⟨_, Lane.eventU_net ..⟩

end

/-- How a failed check counts. -/
def RxCnt.failed (check : Nat) (c : RxCnt) : RxCnt :=
  match check with
  | 1 => { c with fcs := c.fcs + 1 }
  | 2 => { c with malformed := c.malformed + 1 }
  | 3 => { c with window := c.window + 1 }
  | 4 => { c with auth := c.auth + 1 }
  | 5 => { c with replay := c.replay + 1 }
  | 6 => { c with auth := c.auth + 1 }
  | _ => { c with flood := c.flood + 1 }

/-- The counters of a lane that counts a failed check for its sender. -/
def Lane.blameSender (l : Lane) (check : Nat) (sender : Option Nat) : List RxCnt :=
  match sender with
  | some n => if n < 64 then l.net.cnt.set n (RxCnt.failed check (l.rxCnt n)) else l.net.cnt
  | none => l.net.cnt

/-- The same, and in the totals. -/
def Lane.blame (l : Lane) (check : Nat) (sender : Option Nat) : List RxCnt :=
  (l.blameSender check sender).set 64 (RxCnt.failed check ((l.blameSender check sender).getD 64 {}))

/-- The counters of the nodes that did not send the frame stay. -/
theorem Lane.blameSender_other (l : Lane) (check : Nat) (sender : Option Nat) {j : Nat} (other : j < 64 → sender ≠ some j) :
    (l.blameSender check sender).getD j {} = l.net.cnt.getD j {} ∧ (l.blameSender check sender).length = l.net.cnt.length := by
  unfold Lane.blameSender
  split
  next n =>
    split
    next node => exact ⟨getD_set_ne _ _ _ _ _ fun e => other (e ▸ node) (congrArg some e.symm), List.length_set⟩
    next => exact ⟨rfl, rfl⟩
  next => exact ⟨rfl, rfl⟩

theorem Lane.blame_other (l : Lane) (check : Nat) (sender : Option Nat) {j : Nat} (node : j < 64) (other : sender ≠ some j) : (l.blame check sender).getD j {} = l.net.cnt.getD j {} :=
  (getD_set_ne _ _ _ _ _ (by omega)).trans (l.blameSender_other check sender fun _ => other).1

/-- The totals count every failed check. -/
theorem Lane.blame_totals (l : Lane) (check : Nat) (sender : Option Nat) (long : 64 < l.net.cnt.length) : (l.blame check sender).getD 64 {} = RxCnt.failed check (l.rxCnt 64) := by
  obtain ⟨totals, length⟩ := l.blameSender_other check sender (j := 64) (fun lt => absurd lt (by decide))
  exact (getD_set_same _ _ _ _ (length ▸ long)).trans (congrArg _ totals)

/-- A lane with other counters of its frames. -/
def Lane.recount (l : Lane) (xs : List RxCnt) : Lane := { l with net := { l.net with cnt := xs } }

theorem Lane.failCheck_blames (l : Lane) (check : Nat) (sender : Option Nat) :
    l.failCheck check sender = match check with
      | 2 => (l.recount (l.blame check sender)).checkEvent 2 (sender.getD 64) 0xB113
      | 4 => (l.recount (l.blame check sender)).checkEvent 4 (sender.getD 64) 0xB114
      | 5 => (l.recount (l.blame check sender)).checkEvent 5 (sender.getD 64) 0xB115
      | 6 => (l.recount (l.blame check sender)).checkEvent 4 (sender.getD 64) 0xB114
      | 7 => (l.recount (l.blame check sender)).checkEvent 7 (sender.getD 64) 0xB117
      | _ => l.recount (l.blame check sender) := by
  cases sender with
  | none => rfl
  | some n =>
    unfold Lane.failCheck Lane.blame Lane.blameSender
    by_cases node : n < 64
    · simp only [if_pos node]
      rfl
    · simp only [if_neg node]
      rfl

theorem Lane.failCheck_net (l : Lane) (check : Nat) (sender : Option Nat) : ∃ xs, (l.failCheck check sender).net = { l.net with cnt := l.blame check sender, evAt := xs } := by
  have counted (c n e : Nat) : ∃ xs, ((l.recount (l.blame check sender)).checkEvent c n e).net = { l.net with cnt := l.blame check sender, evAt := xs } :=
    (l.recount (l.blame check sender)).checkEvent_net c n e
  rw [l.failCheck_blames]
  split
  · exact counted ..
  · exact counted ..
  · exact counted ..
  · exact counted ..
  · exact counted ..
  · exact ⟨l.net.evAt, rfl⟩

section
variable (l : Lane) (f : RxFrame)

theorem Lane.rxOwn_counts {tys : List Nat} (act : Lane → Fr → Lane) (bad : l.BadFrame f) :
    ∃ chan evAt, (l.rxOwn f tys act).net = { l.net with cnt := l.blame (l.rxFail f (l.parse f)) (l.blamed f), chan := chan, evAt := evAt } ∧ Within [.net] l (l.rxOwn f tys act) := by
  rw [l.rxOwn_fails f act bad]
  obtain ⟨chan, reckoned⟩ := l.reckoned_net f
  rw [reckoned]
  obtain ⟨evAt, counted⟩ := Lane.failCheck_net { l with net := { l.net with chan := chan } } (l.rxFail f (l.parse f)) (l.blamed f)
  exact ⟨chan, evAt, counted, ((Within.refl l).upd (m := { l with net := { l.net with chan := chan } })).failCheck _ _⟩

/-- A frame whose check sequence is wrong fails the first check. -/
theorem Lane.rxFail_fcs (x : Fr) (wrong : f.fcsOk = false) : l.rxFail f x = 1 := by
  unfold Lane.rxFail
  rw [wrong]
  rfl

theorem Lane.rxOwn_fcs {tys : List Nat} (act : Lane → Fr → Lane) (bad : l.BadFrame f) (wrong : f.fcsOk = false) :
    (l.rxOwn f tys act).net.cnt = l.net.cnt.set 64 { l.rxCnt 64 with fcs := (l.rxCnt 64).fcs + 1 } ∧ (l.rxOwn f tys act).net.chan = l.net.chan := by
  have fails := l.rxFail_fcs f (l.parse f) wrong
  have whole : l.reckoned f = l := by
    unfold Lane.reckoned
    rw [wrong]
    rfl
  have nobody : l.blamed f = none := if_pos fails
  rw [l.rxOwn_fails f act bad, whole, nobody, fails]
  exact ⟨rfl, rfl⟩

theorem Lane.bump_net (n : Nat) (g : RxCnt → RxCnt) : l.bump n g = l.recount (l.net.cnt.set n (g (l.rxCnt n))) := rfl

theorem Lane.rxMark_net (x : Fr) : ∃ chan cnt dyn, l.rxMark f x = { l with net := { l.net with chan := chan, cnt := cnt, dynRx := dyn } } := by
  unfold Lane.rxMark
  simp only [Lane.bump_net, Lane.recount]
  split
  · exact ⟨_, _, _, rfl⟩
  · exact ⟨_, _, l.net.dynRx, rfl⟩

/-- A frame that passes marks its own counts alone. -/
theorem Lane.marked_net : ∃ chan cnt dyn, l.marked f = { l with net := { l.net with chan := chan, cnt := cnt, dynRx := dyn } } := by
  unfold Lane.marked
  dsimp only
  split
  next =>
    obtain ⟨xs, counted⟩ := l.authCount_net (l.parse f) false
    rw [counted]
    obtain ⟨chan, cnt, dyn, marked⟩ := Lane.rxMark_net { l with net := { l.net with chan := xs } } f (l.parse f)
    exact ⟨chan, cnt, dyn, marked⟩
  next => exact l.rxMark_net f _

end

theorem Lane.rxFail_le (l : Lane) (f : RxFrame) (x : Fr) : l.rxFail f x ≤ 7 := by
  have either {c : Prop} [Decidable c] {m n : Nat} (hm : m ≤ 7) (hn : n ≤ 7) : (if c then m else n) ≤ 7 := by split <;> assumption
  unfold Lane.rxFail
  exact either (by decide) (either (by decide) (either (by decide) (either (by decide) (either (by decide) (either (by decide) (either (by decide) (by decide)))))))

/-- No node but the sender is blamed. -/
theorem Lane.blamed_sender (l : Lane) (f : RxFrame) {j : Nat} (other : j ≠ (l.parse f).node) : l.blamed f ≠ some j := by
  unfold Lane.blamed
  split
  next => exact nofun
  next =>
    split
    next => exact nofun
    next => exact fun e => other (Option.some.inj e).symm

/-! ### Claims and rejoin notices -/

section
variable (l : Lane) (f : RxFrame)

/-- The claims that a lane knows of once it has heard one more. -/
def Lane.claimedWith (l : Lane) (f : RxFrame) : List (Nat × Nat × Nat) :=
  (leAt f.payload 0 2, byteAt f.payload 2, 0) :: l.net.claimed.filter (fun e => e.1 != leAt f.payload 0 2)

theorem Lane.claimFrame_noted (other : l.net.claimSlot ≠ leAt f.payload 0 2 ∨ l.net.claim ≠ .sent ∧ l.net.claim ≠ .watch) :
    l.claimFrame f = { l with net := { l.net with claimed := l.claimedWith f } } := by
  unfold Lane.claimFrame
  by_cases slot : l.net.claimSlot = leAt f.payload 0 2
  · obtain ⟨sent, watch⟩ := other.resolve_left (not_not.mpr slot)
    simp only [bne_iff_ne, ne_eq, slot, not_true_eq_false, if_false, beq_eq_false_iff_ne.mpr sent, beq_eq_false_iff_ne.mpr watch, Bool.or_false, Bool.false_eq_true]
    rfl
  · exact if_pos (bne_iff_ne.mpr slot)

theorem Lane.claimFrame_rival (watch : l.net.claim = .watch) (slot : l.net.claimSlot = leAt f.payload 0 2) :
    l.claimFrame f = { l with net := { l.net with claimed := l.claimedWith f, claimRival := true } } := by
  unfold Lane.claimFrame
  simp only [bne_iff_ne, ne_eq, slot, not_true_eq_false, if_false, watch, beq_self_eq_true, Bool.or_true]
  rfl

theorem Lane.claimBack_net : l.claimBack.net = { l.net with claim := .backoff, claimCnt := l.freeNat.1 % 16 + 1, claimed := l.net.claimed.filter (fun e => e.1 != l.net.claimSlot) } :=
  (Lane.eventU_net ..).trans rfl

theorem Lane.claimFrame_backs (sent : l.net.claim = .sent) (slot : l.net.claimSlot = leAt f.payload 0 2) :
    (l.claimFrame f).net.claim = .backoff ∧ 1 ≤ (l.claimFrame f).net.claimCnt ∧ (l.claimFrame f).net.claimCnt ≤ 16 := by
  have backs : l.claimFrame f = Lane.claimBack { l with net := { l.net with claimed := l.claimedWith f } } := by
    unfold Lane.claimFrame
    simp only [bne_iff_ne, ne_eq, slot, not_true_eq_false, if_false, sent, beq_self_eq_true, if_true]
    rfl
  rw [backs, Lane.claimBack_net]
  exact ⟨rfl, Nat.le_add_left .., Nat.mod_lt _ (by decide)⟩

end

/-- A claim that passes finds the lane with its own claim as it was. -/
theorem Lane.claim_kept (l : Lane) (f : RxFrame) (passes : l.passes f [5] = true) :
    l.rxOwn f [5] (fun l x => (l.qPass 52 (f.payload.take x.len)).claimFrame f) = ((l.marked f).qPass 52 (f.payload.take (l.parse f).len)).claimFrame f ∧
      Within [] (l.marked f) ((l.marked f).qPass 52 (f.payload.take (l.parse f).len)) ∧
      (let n := ((l.marked f).qPass 52 (f.payload.take (l.parse f).len)).net
       n.claimed = l.net.claimed ∧ n.claim = l.net.claim ∧ n.claimSlot = l.net.claimSlot) := by
  have kept := (Within.refl (ps := []) (l.marked f)).qPass 52 (f.payload.take (l.parse f).len)
  obtain ⟨chan, cnt, dyn, marked⟩ := l.marked_net f
  refine ⟨l.rxOwn_passes f _ passes, kept, ?_⟩
  rw [kept.net_eq, marked]
  exact ⟨rfl, rfl, rfl⟩

/-! ### The statement -/

/-- Settles O47. -/
theorem failedAndControlFrames : Obligations.FailedAndControlFrames := by
  unfold Obligations.FailedAndControlFrames
  intro s a f i l x y d bad_
  have failed (i : Instr) (tys : List Nat) (act : Lane → Fr → Lane) (bad : l.BadFrame f) (e : exec i s = run true s a (fun l => l.rxOwn f tys act)) (b : i.stamp = a) :
      Next i s (fun l' => Reports { l with net := { l.net with cnt := l'.net.cnt, chan := l'.net.chan, evAt := l'.net.evAt } } l' ∧
        (f.fcsOk = false → l'.net.cnt = l.net.cnt.set 64 { l.rxCnt 64 with fcs := (l.rxCnt 64).fcs + 1 } ∧ l'.net.chan = l.net.chan)) := by
    obtain ⟨chan, evAt, net, parts⟩ := l.rxOwn_counts f act bad
    have wrong := l.rxOwn_fcs f (tys := tys) act bad
    generalize ends : l.rxOwn f tys act = m at net parts wrong
    refine next_of_eq e rfl ends ⟨?_, wrong⟩ b
    have kept : m.net = { l.net with cnt := m.net.cnt, chan := m.net.chan, evAt := m.net.evAt } := by rw [net]
    have frame : Reports { l with net := m.net } (m.wired a.lane) := parts.wired a.lane
    rw [kept] at frame
    exact frame
  obtain ⟨chan, cnt, dyn, marked⟩ := l.marked_net f
  refine ⟨fun bad known => ?_, fun bad long => ?_, fun passes => ⟨fun other => ?_, fun watch slot => ?_, fun sent slot => ?_⟩, fun passes synced other => ?_⟩
  · simp only [List.mem_cons, List.not_mem_nil, or_false] at known
    obtain rfl | rfl | rfl | rfl | rfl | rfl | rfl | rfl := known
    · exact failed _ _ _ bad rfl rfl
    · exact failed _ _ _ bad rfl rfl
    · exact failed _ _ _ bad rfl rfl
    · exact failed _ _ _ bad rfl rfl
    · exact failed _ _ _ bad rfl rfl
    · exact failed _ _ _ bad rfl rfl
    · exact failed _ _ _ bad rfl rfl
    · exact failed _ _ _ bad rfl rfl
  · obtain ⟨chan, evAt, net, -⟩ := l.rxOwn_counts (tys := []) f (fun l _ => l) bad
    generalize ends : l.rxOwn f [] (fun l _ => l) = m at net
    refine next_of_eq rfl rfl ends ?_
    show m.net.cnt.getD 64 {} = _ ∧ m.net.rx = _ ∧ m.net.st = _ ∧ ∀ j < 64, j ≠ x.node → m.net.cnt.getD j {} = _
    rw [net]
    refine ⟨(l.blame_totals _ _ long).trans ?_, rfl, rfl, fun j node other => l.blame_other _ _ node (l.blamed_sender f other)⟩
    obtain ⟨-, -, -, -, -, -, fails⟩ := bad
    have few := l.rxFail_le f x
    generalize l.rxFail f x = k at fails few
    interval_cases k
    · exact absurd rfl fails
    all_goals rfl
  · obtain ⟨passed, kept, claims⟩ := l.claim_kept f passes
    refine next_of_eq rfl rfl (passed.trans (Lane.claimFrame_noted _ f ?_)) ?_
    · obtain ⟨-, claim, slot⟩ := claims
      rw [claim, slot]
      exact other
    · generalize (l.marked f).qPass 52 (f.payload.take (l.parse f).len) = m at kept claims
      obtain ⟨claimed, -, -⟩ := claims
      have net : ({ m.net with claimed := m.claimedWith f } : Net) = { y.net with claimed := l.claimedWith f } := by
        rw [Lane.claimedWith, claimed, kept.net_eq]
        rfl
      have frame := ((kept.mono (qs := [.net]) (by decide)).upd (m := { m with net := { m.net with claimed := m.claimedWith f } })).wired a.lane
      rw [net] at frame ⊢
      exact frame
  · obtain ⟨passed, kept, claimed, claim, slot'⟩ := l.claim_kept f passes
    refine next_of_eq rfl rfl (passed.trans (Lane.claimFrame_rival _ f (claim.trans watch) (slot'.trans slot))) ?_
    generalize (l.marked f).qPass 52 (f.payload.take (l.parse f).len) = m at kept claimed claim
    have known : m.claimedWith f = l.claimedWith f := by rw [Lane.claimedWith, claimed]; rfl
    exact ⟨claim.trans watch, rfl, known, (((kept.mono (qs := [.net]) (by decide)).upd (m := { m with net := { m.net with claimed := m.claimedWith f, claimRival := true } })).wired a.lane :)⟩
  · obtain ⟨passed, kept, -, claim, slot'⟩ := l.claim_kept f passes
    generalize (l.marked f).qPass 52 (f.payload.take (l.parse f).len) = m at passed kept claim slot'
    obtain ⟨count, least, most⟩ := m.claimFrame_backs f (claim.trans sent) (slot'.trans slot)
    have parts := (kept.mono (qs := [.net]) (by decide)).claimFrame f
    generalize m.claimFrame f = b at passed count least most parts
    exact next_of_eq rfl rfl passed ⟨count, least, most, (parts.wired a.lane :)⟩
  · have passed : l.rxOwn f [6] (fun l x => (l.qPass 52 (f.payload.take x.len)).rejoinRx x) = (y.qPass 52 (f.payload.take x.len)).rejoinRx x := l.rxOwn_passes f _ passes
    have kept := (Within.refl (ps := []) y).qPass 52 (f.payload.take x.len)
    have st : (y.qPass 52 (f.payload.take x.len)).net.st = .synced := by
      rw [kept.net_eq]
      show (l.marked f).net.st = _
      rw [marked]
      exact synced
    have own : (y.qPass 52 (f.payload.take x.len)).np 0xB105 = l.np 0xB105 := by
      rw [Lane.np, kept.net_eq, kept.pvals_eq 0xB105 0]
      show (l.marked f).np 0xB105 = _
      rw [marked]
      rfl
    generalize y.qPass 52 (f.payload.take x.len) = m at passed kept st own
    have foreign : (m.net.st == .synced && x.node != m.np 0xB105) = true := by
      rw [st, own]
      exact bne_iff_ne.mpr other
    have notes : m.rejoinRx x = { m with net := { m.net with rejoin := true, claim := if m.net.claim == .watch then .none else m.net.claim } } := if_pos foreign
    have parts := (kept.mono (qs := [.net]) (by decide)).rejoinRx x
    rw [notes] at parts
    exact next_of_eq rfl rfl (passed.trans notes) ⟨rfl, (parts.wired a.lane :)⟩

end Sys2Proof.Machine
end

section
/-! Links of the loop that leave and join (R275), delay requests and answers (R279, R280). -/

namespace Sys2Proof.Machine

set_option Elab.async false

/-! ### Links -/

/-- The net of a lane that has lost the link of a port. -/
theorem Lane.netLinkDown_net (l : Lane) (port : Nat) :
    ∀ n, (l.netLinkDown port).net = n → n.link0 = (l.net.link0 && port != 0) ∧ n.link1 = (l.net.link1 && port != 1) ∧ n.retR = [] ∧ n.ringL = l.net.ringL ∧ n.timeOk = (l.net.timeOk && port != 0) := by
  unfold Lane.netLinkDown
  intro n ends
  extract_lets had step src m at ends
  have told : n = m.net := by
    rw [← ends]
    split
    · exact Lane.eventU_net ..
    · rfl
  rw [told]
  exact ⟨rfl, rfl, rfl, rfl, rfl⟩

theorem Lane.netLinkUp_joins (l : Lane) (port : Nat) (down : (if port = 0 then l.net.link0 else l.net.link1) = false) (timed : l.net.st = .synced ∨ l.net.st = .coldstart) :
    l.netLinkUp port = { l with net := { l.net with joinPort := some port, joinOk := false } } := by
  have base : (l.net.st == .synced || l.net.st == .coldstart) = true := by
    obtain st | st := timed
    · rw [st]; rfl
    · rw [st]; rfl
  unfold Lane.netLinkUp
  simp only [beq_iff_eq, down, base, Bool.false_eq_true, if_false, if_true]

theorem Lane.netLinkUp_takes (l : Lane) (port : Nat) (down : (if port = 0 then l.net.link0 else l.net.link1) = false) (synced : l.net.st ≠ .synced) (cold : l.net.st ≠ .coldstart) :
    (l.netLinkUp port).net.link0 = (l.net.link0 || port == 0) ∧ (l.netLinkUp port).net.link1 = (l.net.link1 || port == 1) := by
  unfold Lane.netLinkUp
  simp only [beq_iff_eq, down, synced, cold, Bool.false_eq_true, Bool.or_eq_true, or_self, if_false]
  rw [Lane.eventU_net]
  exact ⟨rfl, rfl⟩

/-! ### Delay requests and answers -/

section
variable (l : Lane) (f : RxFrame)

/-- The offset in the guardian's cycle of an instant on port 1. -/
def Lane.offsetAt (l : Lane) (t : Nat) : Nat := (l.grdOff 1 + (t - l.now)) % max 1 l.asGuard.cycNom

/-- The lane answers delay requests. -/
def Lane.Answers1 : Prop := l.i1 = false ∧ l.net.st = .synced ∧ l.mayInsert = true ∧ l.grdNew = false ∧ l.answerNit.1 < l.answerNit.2.1

/-- The answer to a delay request: its launch is a free instant of the NIT. -/
def Lane.delayAnswer (l : Lane) (f : RxFrame) : Lane :=
  let t := l.answerNit.1 + l.freeNat.1 % (l.answerNit.2.1 - l.answerNit.1)
  let m := ({ l.freeNat.2 with net.cycle := l.freeNat.2.net.cycle + BitVec.ofNat 48 l.answerNit.2.2 }).sendFrameAt 1 { ty := 8, slot := 0xFFFF }
    (leBytes 2 (leAt f.payload 0 2) ++ leBytes 8 l.freeNat.2.now ++ leBytes 8 t ++ leBytes 4 (wrap 32 l.freeNat.2.net.offA)) t
  { l.freeNat.2 with net.tx := m.net.tx }

theorem Lane.delayReq_judged (port : f.port = 1) (may : l.Answers1) :
    l.delayReq f = if (!(l.grdNit 1 (l.offsetAt l.answerNit.1) && l.grdNit 1 (l.offsetAt l.answerNit.2.1)) || decide (2 ≤ l.linkLocals 1 l.answerNit.1)) = true then l.guardCut true
      else l.delayAnswer f := by
  obtain ⟨i1, synced, may, fresh, -⟩ := may
  have open_ : (f.port != 1 || l.i1 || l.net.st != .synced || !l.mayInsert || l.grdNew) = false := by
    rw [port, i1, synced, may, fresh]
    rfl
  unfold Lane.delayReq Lane.delayAnswer
  rw [open_]
  generalize l.answerNit = w
  obtain ⟨lo, hi, k⟩ := w
  rfl

theorem Lane.delayReq_cuts (port : f.port = 1) (may : l.Answers1) (full : l.grdNit 1 (l.offsetAt l.answerNit.1) = false ∨ 2 ≤ l.linkLocals 1 l.answerNit.1) : l.delayReq f = l.guardCut true := by
  have open_ := l.delayReq_judged f port may
  rw [open_]
  refine if_pos ?_
  obtain shut | twice := full
  · rw [shut]; rfl
  · rw [decide_eq_true twice, Bool.or_true]

theorem Lane.guardCut_tx (few : (recent l.now (sec 1) l.net.cuts).length < 3) : (l.guardCut true).net.tx = l.net.tx := by
  have kept := (Within.refl (ps := []) l).eventU 0xB104
  unfold Lane.guardCut
  have few' : ¬ 3 ≤ (recent (l.eventU 0xB104).now (sec 1) (l.eventU 0xB104).net.cuts).length := by
    rw [kept.now_eq, kept.net_eq]
    omega
  simp only [if_true, if_neg few']
  exact congrArg Net.tx kept.net_eq

theorem Lane.delayReq_answers (port : f.port = 1) (may : l.Answers1) (from_ : l.grdNit 1 (l.offsetAt l.answerNit.1) = true) (until_ : l.grdNit 1 (l.offsetAt l.answerNit.2.1) = true)
    (few : l.linkLocals 1 l.answerNit.1 < 2) :
    ∃ g : TxFrame, (l.delayReq f).net.tx = l.net.tx ++ [g] ∧ g.port = 1 ∧ g.kind = .linkLocal ∧ l.answerNit.1 ≤ g.t ∧ g.t < l.answerNit.2.1 ∧
      g.payload.take 18 = leBytes 2 (leAt f.payload 0 2) ++ leBytes 8 l.now ++ leBytes 8 g.t := by
  have allowed : (!(l.grdNit 1 (l.offsetAt l.answerNit.1) && l.grdNit 1 (l.offsetAt l.answerNit.2.1)) || decide (2 ≤ l.linkLocals 1 l.answerNit.1)) = false := by
    rw [from_, until_, decide_eq_false (by omega)]
    rfl
  rw [l.delayReq_judged f port may, allowed]
  obtain ⟨i1, -, -, -, wide⟩ := may
  refine ⟨_, rfl, rfl, rfl, Nat.le_add_right .., ?_, ?_⟩
  · have within_ := Nat.mod_lt l.freeNat.1 (Nat.sub_pos_of_lt wide)
    show l.answerNit.1 + l.freeNat.1 % (l.answerNit.2.1 - l.answerNit.1) < l.answerNit.2.1
    omega
  · show List.take 18 (if l.i1 then _ else _ ++ _) = _
    rw [i1]
    exact (congrArg (List.take 18) (List.append_assoc ..)).trans (List.take_left' (by simp [leBytes_length]))

/-- The delay that an answer shows. -/
def Lane.delayShown (l : Lane) (f : RxFrame) : Int := (((l.now : Int) - l.net.reqAt) - ((leAt f.payload 10 8 : Int) - leAt f.payload 2 8)) / 2

theorem Lane.delayResp_takes (port : f.port = 0) (i1 : l.i1 = false) (own : leAt f.payload 0 2 = l.net.reqNo)
    (agrees : l.net.dlyOld = true → (l.delayShown f - l.net.dly.sum / max 1 (l.net.dly.length : Int)).natAbs ≤ 2) :
    ∀ n, (l.delayResp f).net = n → n.dly = (l.delayShown f :: l.net.dly).take 64 ∧ n.dlyOld = false ∧
      n.offA = (if l.loopHead then 0 else sext 32 (leAt f.payload 18 4) + 384 + ((l.delayShown f :: l.net.dly).take 64).sum / max 1 (((l.delayShown f :: l.net.dly).take 64).length : Int)) := by
  have open_ : ¬ (f.port != 0 || l.i1 || leAt f.payload 0 2 != l.net.reqNo) = true := by
    simp [port, i1, own]
  have kept : (l.net.dlyOld && decide (2 < (l.delayShown f - l.net.dly.sum / max 1 (l.net.dly.length : Int)).natAbs)) = false := by
    cases old : l.net.dlyOld with
    | false => rfl
    | true => exact decide_eq_false (Nat.not_lt.mpr (agrees old))
  unfold Lane.delayResp
  intro n ends
  extract_lets p d mean stale ds _ m _ at ends
  rw [if_neg open_] at ends
  have shown : ds = (l.delayShown f :: l.net.dly).take 64 := by
    show (l.delayShown f :: if (l.net.dlyOld && decide (2 < (l.delayShown f - l.net.dly.sum / max 1 (l.net.dly.length : Int)).natAbs)) = true then [] else l.net.dly).take 64 = _
    rw [kept]
    rfl
  rw [← shown]
  by_cases head : l.loopHead = true
  · rw [if_pos (show m.loopHead = true from head)] at ends
    subst ends
    exact ⟨rfl, rfl, (if_pos head).symm⟩
  · rw [if_neg (show ¬ m.loopHead = true from head)] at ends
    subst ends
    exact ⟨rfl, rfl, (if_neg head).symm⟩

end

/-! ### The statement -/

/-- The counts of a marked frame say nothing about the answers to delay requests. -/
theorem Lane.counts_answer (l : Lane) (chan : List Chan) (cnt : List RxCnt) (dyn : List (Nat × Nat)) :
    let y : Lane := { l with net := { l.net with chan := chan, cnt := cnt, dynRx := dyn } }
    (l.Answers1 → y.Answers1) ∧ y.answerNit = l.answerNit ∧ (∀ p t, y.linkLocals p t = l.linkLocals p t) ∧ (∀ p o, y.grdNit p o = l.grdNit p o) ∧ (∀ t, y.offsetAt t = l.offsetAt t) := by
  intro y
  have nit : y.answerNit = l.answerNit := by
    unfold Lane.answerNit
    rfl
  refine ⟨fun ⟨i1, synced, may, fresh, wide⟩ => ⟨i1, synced, may, fresh, by rwa [nit]⟩, nit, fun _ _ => rfl, ?_⟩
  by_cases bare : l.net.grdCfg.isEmpty = true
  · have own : l.asGuard = l := if_pos bare
    have same : y.asGuard = y := if_pos bare
    simp only [Lane.grdNit, Lane.grdView, Lane.grdOff, Lane.offsetAt, own, same]
    exact ⟨fun _ _ => rfl, fun _ => rfl⟩
  · have own : l.asGuard = { l with net.latched := l.net.grdCfg } := if_neg bare
    have same : y.asGuard = { y with net.latched := l.net.grdCfg } := if_neg bare
    simp only [Lane.grdNit, Lane.grdView, Lane.grdOff, Lane.offsetAt, own, same]
    exact ⟨fun _ _ => rfl, fun _ => rfl⟩

theorem Lane.marked_answer (l : Lane) (f : RxFrame) (y : Lane) (marked : l.marked f = y) :
    (l.Answers1 → y.Answers1) ∧ y.answerNit = l.answerNit ∧ (∀ p t, y.linkLocals p t = l.linkLocals p t) ∧ (∀ p o, y.grdNit p o = l.grdNit p o) ∧ (∀ t, y.offsetAt t = l.offsetAt t) := by
  obtain ⟨chan, cnt, dyn, counts⟩ := l.marked_net f
  rw [← marked, counts]
  exact l.counts_answer chan cnt dyn

/-- Settles O48. -/
theorem linksOfTheLoop : Obligations.LinksOfTheLoop := by
  unfold Obligations.LinksOfTheLoop
  intro s a f port l y d
  obtain ⟨chan, cnt, dyn, marked⟩ := l.marked_net f
  refine ⟨⟨fun known => ?_, fun known down => ⟨fun timed => ?_, fun synced cold => ?_⟩⟩, fun passes port i1 synced may fresh wide => ⟨fun from_ until_ few => ?_, fun full few => ?_⟩, fun passes port i1 own agrees => ?_⟩
  · have net := l.netLinkDown_net port
    have parts := (Within.refl (ps := [.net]) l).netLinkDown port
    generalize ends : l.netLinkDown port = m at net parts
    obtain ⟨link0, link1, retR, ringL, timeOk⟩ := net m.net rfl
    exact next_of_eq rfl (decide_eq_true known) ends ⟨link0, link1, retR, ringL, timeOk, (parts.wired a.lane :)⟩
  · exact next_of_eq rfl (decide_eq_true known) (l.netLinkUp_joins port down timed) (reports_wired _ a.lane)
  · obtain ⟨link0, link1⟩ := l.netLinkUp_takes port down synced cold
    have parts := (Within.refl (ps := [.net]) l).netLinkUp port
    generalize ends : l.netLinkUp port = m at link0 link1 parts
    exact next_of_eq rfl (decide_eq_true known) ends ⟨link0, link1, (parts.wired a.lane :)⟩
  · obtain ⟨answers, nit, locals, guard, offset⟩ := l.marked_answer f y rfl
    have passed := l.rxOwn_passes f (fun l _ => l.delayReq f) passes
    have parts := ((Within.refl (ps := [.net]) y).delayReq f)
    have tx : y.net.tx = l.net.tx := (congrArg (fun m : Lane => m.net.tx) marked :)
    have now_ : y.now = l.now := (congrArg Lane.now marked :)
    obtain ⟨g, joins, out, kind, least, most, body⟩ := y.delayReq_answers f port (answers ⟨i1, synced, may, fresh, wide⟩) (by rw [nit, guard, offset]; exact from_) (by rw [nit, guard, offset]; exact until_)
      (by rw [nit, locals]; exact few)
    rw [nit] at least most
    rw [now_] at body
    rw [tx] at joins
    change _ = y.delayReq f at passed
    generalize y.delayReq f = m at passed joins parts
    exact next_of_eq rfl rfl passed ⟨⟨g, joins, out, kind, least, most, body⟩, (parts.wired a.lane :)⟩
  · obtain ⟨answers, nit, locals, guard, offset⟩ := l.marked_answer f y rfl
    have passed := l.rxOwn_passes f (fun l _ => l.delayReq f) passes
    have parts := ((Within.refl (ps := [.net]) y).delayReq f)
    have tx : y.net.tx = l.net.tx := (congrArg (fun m : Lane => m.net.tx) marked :)
    have cuts : (recent y.now (sec 1) y.net.cuts).length < 3 := by
      rw [show y.now = l.now from (congrArg Lane.now marked :), show y.net.cuts = l.net.cuts from (congrArg (fun m : Lane => m.net.cuts) marked :)]
      exact few
    have cut := y.delayReq_cuts f port (answers ⟨i1, synced, may, fresh, wide⟩) (by rw [nit, guard, offset, locals]; exact full)
    have kept := (y.guardCut_tx cuts).trans tx
    rw [← cut] at kept
    change _ = y.delayReq f at passed
    generalize y.delayReq f = m at passed kept parts
    exact next_of_eq rfl rfl passed ⟨kept, (parts.wired a.lane :)⟩
  · have passed := l.rxOwn_passes f (fun l _ => l.delayResp f) passes
    change _ = y.delayResp f at passed
    have parts := ((Within.refl (ps := [.net]) y).delayResp f)
    have shown : y.delayShown f = l.delayShown f := by
      show (l.marked f).delayShown f = _
      rw [marked]
      rfl
    have dly : y.net.dly = l.net.dly := (congrArg (fun m : Lane => m.net.dly) marked :)
    have head : y.loopHead = l.loopHead := (congrArg Lane.loopHead marked :)
    have takes := y.delayResp_takes f port ((congrArg Lane.i1 marked :).trans i1) (own.trans (congrArg (fun m : Lane => m.net.reqNo) marked :).symm)
      (fun old => by
        rw [shown, dly]
        exact agrees ((congrArg (fun m : Lane => m.net.dlyOld) marked :).symm.trans old))
    rw [shown, dly, head] at takes
    generalize y.delayResp f = m at passed takes parts
    obtain ⟨dlys, old, off⟩ := takes m.net rfl
    exact next_of_eq rfl rfl passed ⟨dlys, old, off, (parts.wired a.lane :)⟩

end Sys2Proof.Machine
end

section
/-! Frames of the network that pass their checks: relayed frames (R271, R272), static data (R303), Firefly frames (R281), the host's map (R258) and the tapped lane (R250). -/

namespace Sys2Proof.Machine

set_option Elab.async false

/-! ### Relayed frames -/

/-- The relayed frame. -/
def RxFrame.relayed (f : RxFrame) (q : Nat) (cut : Option Nat) (t : Nat) : TxFrame :=
  { port := q, kind := .relayed, cutAt := cut, mac := f.mac, hdr := f.hdr, payload := f.payload, tag := f.tag, fcs := f.fcs, t := t }

theorem Lane.relay_relays (l : Lane) (f : RxFrame) (q : Nat) (cut : Option Nat) (off : l.st ≠ .off) (waking : l.st ≠ .waking) (boot : l.st ≠ .boot)
    (slot : (l.parse f).ok = true → (l.parse f).slot ≠ 0xFFFF) (join : l.net.joinPort ≠ some f.port) (to_ : l.relayTo f.port = some q) (line : l.ring = false)
    (free : ∀ o ∈ l.net.tx, o.kind = .static_ → o.port = q → o.t ≤ l.now + 384 → o.stop ≤ l.now + 384) (gate : l.grdRelay f q = some cut) :
    let m : Lane := { l with net := { l.net with relayed := l.net.relayed + 1, tx := (l.cutTx [.dynamic, .linkLocal] q (l.now + 384) (l.now + 384 + wireTime f.payload)).net.tx ++ [f.relayed q cut (l.now + 384)] } }
    l.relay f = if cut.isSome = true then m.guardCut false else m := by
  intro m
  have relays : (l.st == .off || l.st == .waking || l.st == .boot || ((l.parse f).ok && (l.parse f).slot == 0xFFFF) || l.net.joinPort == some f.port) = false := by
    simp only [Bool.or_eq_false_iff, beq_eq_false_iff_ne, Bool.and_eq_false_imp]
    exact ⟨⟨⟨⟨off, waking⟩, boot⟩, slot⟩, join⟩
  have free' : l.net.tx.any (fun o => o.kind == .static_ && o.port == q && decide (o.t ≤ l.now + 384) && decide (l.now + 384 < o.stop)) = false := by
    simp only [List.any_eq_false, Bool.and_eq_true, beq_iff_eq, decide_eq_true_eq, not_and, Nat.not_lt, and_imp]
    exact free
  unfold Lane.relay
  simp only [relays, to_, line, free', gate, Bool.false_and, Bool.false_eq_true, if_false]
  rfl

theorem Within.relay_guard (l : Lane) (c : Bool) : Within [] l (if c then l.guardCut false else l) := by
  split
  · exact (Within.refl l).eventU 0xB104
  · exact .refl l

/-! ### Static data and the host's map -/

theorem Lane.staticRx_shows (l : Lane) (f : RxFrame) (x : Fr) (synced : l.net.st = .synced) (claim : l.net.claim = .none) :
    ∀ n, (l.staticRx f x).net = n →
      n.rx = { slot := x.slot, node := x.node, payload := f.payload.take x.len, age := x.age, cycle := l.net.cycle.toNat } :: l.net.rx.filter (fun r => r.slot != x.slot) ∧
      n.heard.contains x.node = true ∧ n.heardSlots.contains x.slot = true := by
  intro n ends
  unfold Lane.staticRx at ends
  extract_lets _ m v _ r q k at ends
  have kept : Within [] r q := (Within.refl r).foldl _ fun _ _ hm => hm.qOverwrite ..
  have same : k = q := by
    refine if_neg ?_
    rw [kept.net_eq, show r.net.st = .synced from synced]
    exact Bool.false_ne_true
  have done_ : ¬ ((k.net.claim == .watch || k.net.claim == .backoff) && x.slot == k.net.claimSlot) = true := by
    rw [same, kept.net_eq, show r.net.claim = .none from claim]
    exact Bool.false_ne_true
  rw [if_neg done_, same, kept.net_eq] at ends
  subst ends
  refine ⟨rfl, ?_, ?_⟩
  · show (if l.net.heard.contains x.node then l.net.heard else x.node :: l.net.heard).contains x.node = true
    split
    next known => exact known
    next => simp
  · show (if l.net.heardSlots.contains x.slot then l.net.heardSlots else x.slot :: l.net.heardSlots).contains x.slot = true
    split
    next known => exact known
    next => simp

/-- The host's map of the own module that a frame shows. -/
def Lane.hostView (l : Lane) (f : RxFrame) (x : Fr) : Option (Nat × Nat) :=
  let m := l.np 0xB105
  let n := byteAt f.payload (m / 2) / (if m % 2 == 0 then 1 else 16) % 16
  if bit n 3 then some (n % 8, x.slot) else none

/-! ### Firefly frames -/

/-- A frame that passes its checks under a time base lies in its receive window. -/
theorem Lane.inWindow_of_passes (l : Lane) (f : RxFrame) (timed : l.timedFor (l.parse f) = true) (passes : l.rxFail f (l.parse f) = 0) : l.inWindow f.port (l.parse f) = true := by
  unfold Lane.rxFail at passes
  extract_lets at passes
  split at passes
  next => exact absurd passes (by decide)
  split at passes
  next => exact absurd passes (by decide)
  split at passes
  next => exact absurd passes (by decide)
  next late => simpa [timed] using late

theorem Lane.busBase_window (l : Lane) (f : RxFrame) (port : l.i1 = true → f.port = 0) (window : l.inWindow f.port (l.parse f) = true) : l.busBase f = l := by
  refine if_neg fun base => ?_
  simp only [Bool.and_eq_true, Bool.not_eq_true', beq_iff_eq] at base
  obtain ⟨⟨⟨⟨⟨bus, -⟩, -⟩, -⟩, outside⟩, -⟩ := base
  rw [port bus] at window
  exact Bool.false_ne_true (outside.symm.trans window)

theorem Lane.ffOutside_window (l : Lane) (f : RxFrame) (slot : (l.parse f).slot ≠ 0xFFFF) (window : l.inWindow f.port (l.parse f) = true) : l.ffOutside f = l := by
  have near (d : Int) (dev : l.rxDev f.port (l.parse f) = some d) : ¬ l.win < d.natAbs := by
    unfold Lane.inWindow at window
    rw [dev, beq_eq_false_iff_ne.mpr slot] at window
    exact Nat.not_lt.mpr (of_decide_eq_true window)
  unfold Lane.ffOutside
  extract_lets x c
  refine ite_eq_left_iff.mpr fun _ => ?_
  split
  next d dev => exact if_neg (by simp [near d dev])
  next => rfl

/-- The lane that has seen a Firefly frame of its own time base. -/
def Lane.ffSeen (l : Lane) (f : RxFrame) (x : Fr) : Lane :=
  ({ l with net := { l.net with heard := if l.net.heard.contains x.node then l.net.heard else x.node :: l.net.heard,
                                heardSlots := if l.net.heardSlots.contains x.slot then l.net.heardSlots else x.slot :: l.net.heardSlots,
                                ffSlots := x.slot :: l.net.ffSlots } } : Lane).grdSee ((l.net.cycleAt : Int) + (l.rxDev f.port x).getD 0).toNat

theorem Lane.ffRx_takes (l : Lane) (f : RxFrame) (x : Fr) (synced : l.net.st = .synced) (acting : l.net.acting = false) (first : l.net.ffNow = none)
    (lower : (match l.ffSlot with | some r => decide (x.slot < r) | none => true) = true) :
    ∀ n, (l.ffRx f x).net = n → n.ffNow = some x.slot ∧ n.ffNode = x.node ∧ n.delta = (l.rxDev f.port x).getD 0 := by
  have higher : (match l.ffSlot with | some r => decide (r ≤ x.slot) | none => false) = false := by
    cases rank : l.ffSlot with
    | none => rfl
    | some r =>
      rw [rank] at lower
      exact decide_eq_false (Nat.not_le.mpr (of_decide_eq_true lower))
  have takes : l.ffRx f x = (l.ffSeen f x).ffUse x ((l.rxDev f.port x).getD 0) := by
    unfold Lane.ffRx
    extract_lets _ m dev shown
    rw [show m.net.st = .synced from synced]
    dsimp only
    rw [if_neg, if_neg]
    · rfl
    · show ¬ (l.net.acting && x.cs || (match l.ffSlot with | some r => decide (r ≤ x.slot) | none => false)) = true
      rw [acting, higher]
      exact Bool.false_ne_true
    · show ¬ (l.net.acting && !x.cs && _ && _) = true
      rw [acting]
      exact Bool.false_ne_true
  have use : (l.ffSeen f x).ffUse x ((l.rxDev f.port x).getD 0) = (l.ffSeen f x).ffTake x ((l.rxDev f.port x).getD 0) := by
    unfold Lane.ffUse
    rw [show (l.ffSeen f x).net.ffNow = none from first]
  intro n ends
  rw [takes, use] at ends
  subst ends
  exact ⟨rfl, rfl, rfl⟩

/-- A frame that passes comes on a port of the own channel. -/
theorem Lane.passes_known (l : Lane) (f : RxFrame) {tys : List Nat} (passes : l.passes f tys = true) : l.netOn = true ∧ (l.i1 = true → f.port = 0) ∧ l.rxFail f (l.parse f) = 0 := by
  simp only [Lane.passes, Bool.and_eq_true, Bool.not_eq_true', beq_iff_eq] at passes
  obtain ⟨⟨⟨⟨⟨⟨⟨on_, -⟩, bus⟩, -⟩, -⟩, -⟩, fails⟩, -⟩ := passes
  refine ⟨on_, fun i1 => ?_, fails⟩
  rw [i1] at bus
  exact of_not_not fun other => Bool.false_ne_true (bus.symm.trans (bne_iff_ne.mpr other))

/-- A Firefly frame of the own time base goes to the checks of its channel. -/
theorem Lane.fireflyIn_own (l : Lane) (f : RxFrame) (passes : l.passes f [2] = true) (slot : (l.parse f).slot ≠ 0xFFFF) (synced : l.net.st = .synced) (join : l.net.joinPort ≠ some f.port) :
    l.fireflyIn f = (l.marked f).ffRx f (l.parse f) := by
  obtain ⟨on_, bus, fails⟩ := l.passes_known f passes
  have timed : l.timedFor (l.parse f) = true := by
    unfold Lane.timedFor Lane.timed
    rw [synced]
    rfl
  have window := l.inWindow_of_passes f timed fails
  unfold Lane.fireflyIn
  rw [on_, synced, beq_eq_false_iff_ne.mpr join, l.busBase_window f bus window, l.ffOutside_window f slot window]
  exact l.rxOwn_passes f (fun l x => l.ffRx f x) passes

/-! ### The tapped lane -/

/-- The view of the tapped lane that a lane in SHADOW takes from its DATA frame. -/
theorem Lane.tapData_shadow (l : Lane) (f : RxFrame) (x : Fr) (shadow : l.st = .shadow) :
    ∃ refs, l.tapData f x = { l with red := { l.red with
      tapAt := some l.now, tapHealth := .ofNat 32 (leAt f.payload 0 4), tapRefs := refs, peer := l.red.peer.set l.id.next.idx { l.peer l.id.next with health := .ofNat 32 (leAt f.payload 0 4), known := true } } } := by
  have alone : ¬ l.st = .island := by rw [shadow]; decide
  have led : ¬ l.st = .follower := by rw [shadow]; decide
  refine ⟨decide (byteAt f.payload 15 % 16 != 0) && (healthState (.ofNat 32 (leAt f.payload 0 4)) == 5 || healthState (.ofNat 32 (leAt f.payload 0 4)) == 6), ?_⟩
  unfold Lane.tapData Lane.setPeer
  simp only [beq_iff_eq, alone, led, Bool.and_eq_true, and_false, false_and, if_false]
  rfl

/-- The lane that has accepted a frame of the tapped channel. -/
def Lane.tapTaken (l : Lane) (f : RxFrame) (x : Fr) : Lane :=
  let c := l.tapOwn f x
  let t := l.tapAt f.port
  let t := if isDyn x.ty then { t with dynIn := c, dyn := (x.node, t.dynOf c x.node + 1) :: (if t.dynIn == c then t.dyn.filter (fun e => e.1 != x.node) else []) } else t
  let t := if x.ty == 2 then { t with known := true, cycle := c, base := l.now - l.slotStart x.slot } else t
  let l := { l with net.tapSeen := ((f.port, c, x.slot, x.node, x.ty) :: l.net.tapSeen).filter (fun e => decide (c ≤ e.2.1 + 2)), net.tap := l.net.tap.set (f.port - 2) t }
  (l.bump x.node (fun c => { c with accepted := c.accepted + 1 })).bump 64 (fun c => { c with accepted := c.accepted + 1 })

theorem Lane.tapRx_data (l : Lane) (f : RxFrame) (port : 2 ≤ f.port) (bus : l.i1 = true → f.port = 2) (runs : l.fwRuns = true) (shadow : l.st = .shadow) (passes : l.tapFail f (l.parse f) = 0)
    (data : (l.parse f).ty = 1) (own : l.moduleSlot (l.parse f) = true)
    (once : l.net.tapSeen.any (fun e => e.2 == (l.tapOwn f (l.parse f), (l.parse f).slot, (l.parse f).node, (l.parse f).ty)) = false) :
    l.tapRx f = (l.tapTaken f (l.parse f)).tapData f (l.parse f) := by
  have taken : (decide (f.port < 2) || l.i1 && f.port != 2 || !l.fwRuns || l.st == .failSilent) = false := by
    rw [decide_eq_false (Nat.not_lt.mpr port), runs, shadow]
    cases i1 : l.i1 with
    | false => rfl
    | true => rw [bus i1]; rfl
  unfold Lane.tapRx
  simp only [taken, passes, once, Bool.false_eq_true, if_false, bne_self_eq_false]
  refine if_pos ?_
  rw [data]
  exact own

theorem Lane.tapTaken_net (l : Lane) (f : RxFrame) (x : Fr) : ∃ seen tap cnt, l.tapTaken f x = { l with net := { l.net with tapSeen := seen, tap := tap, cnt := cnt } } := by
  unfold Lane.tapTaken
  simp only [Lane.bump_net, Lane.recount]
  exact ⟨_, _, _, rfl⟩

/-! ### The statement -/

/-- Settles O49. -/
theorem networkFrames : Obligations.NetworkFrames := by
  unfold Obligations.NetworkFrames
  intro s a f q short l x y d
  refine ⟨fun off waking boot slot join to_ line free gate => ?_, fun passes synced claim => ?_, fun passes slot synced acting first join lower => ?_, fun passes synced => ?_,
    fun tap bus runs shadow passes data own once => ?_⟩
  · have parts := Within.relay_guard { l with net := { l.net with relayed := l.net.relayed + 1, tx := (l.cutTx [.dynamic, .linkLocal] q (l.now + 384) (l.now + 384 + wireTime f.payload)).net.tx ++ [f.relayed q short (l.now + 384)] } } short.isSome
    have relays := l.relay_relays f q short off waking boot slot join to_ line free gate
    dsimp only at relays
    rw [← relays] at parts
    generalize ends : l.relay f = m at parts
    exact next_of_eq rfl rfl ends (parts.wired a.lane :)
  · have passed : l.rxOwn f [1] (fun l x => l.staticRx f x) = y.staticRx f x := l.rxOwn_passes f _ passes
    obtain ⟨chan, cnt, dyn, marked⟩ := l.marked_net f
    have shows := y.staticRx_shows f x ((congrArg (fun m : Lane => m.net.st) marked :).trans synced) ((congrArg (fun m : Lane => m.net.claim) marked :).trans claim)
    rw [show y.net.cycle = l.net.cycle from (congrArg (fun m : Lane => m.net.cycle) marked :), show y.net.rx = l.net.rx from (congrArg (fun m : Lane => m.net.rx) marked :)] at shows
    have parts := (Within.refl (ps := [.net]) y).staticRx f x
    generalize y.staticRx f x = m at passed shows parts
    obtain ⟨rx, heard, slots⟩ := shows m.net rfl
    exact next_of_eq rfl rfl passed ⟨rx, heard, slots, (parts.wired a.lane :)⟩
  · have passed : l.fireflyIn f = y.ffRx f x := l.fireflyIn_own f passes slot synced join
    obtain ⟨chan, cnt, dyn, marked⟩ := l.marked_net f
    have takes := y.ffRx_takes f x ((congrArg (fun m : Lane => m.net.st) marked :).trans synced) ((congrArg (fun m : Lane => m.net.acting) marked :).trans acting)
      ((congrArg (fun m : Lane => m.net.ffNow) marked :).trans first) (by
        rw [show y.ffSlot = l.ffSlot from (congrArg Lane.ffSlot marked :)]
        exact lower)
    rw [show y.rxDev f.port x = l.rxDev f.port x from (congrArg (fun m : Lane => m.rxDev f.port x) marked :)] at takes
    have parts := (Within.refl (ps := [.net]) y).ffRx f x
    generalize y.ffRx f x = m at passed takes parts
    obtain ⟨now_, node, delta⟩ := takes m.net rfl
    exact next_of_eq rfl rfl passed ⟨now_, node, delta, (parts.wired a.lane :)⟩
  · have passed : l.rxOwn f [3] (fun l x => l.hostStatus f x) = y.hostStatus f x := l.rxOwn_passes f _ passes
    obtain ⟨chan, cnt, dyn, marked⟩ := l.marked_net f
    have parts := (Within.refl (ps := [.net]) y).staticRx f x
    have own : y.np 0xB105 = l.np 0xB105 := (congrArg (fun m : Lane => m.np 0xB105) marked :)
    generalize ends : y.staticRx f x = m at parts
    have maps : y.hostStatus f x = { m with red := { m.red with hostMap := l.hostView f x } } := by
      unfold Lane.hostStatus Lane.hostView
      rw [ends, own]
    have red : m.red = l.red := parts.red_eq.trans (congrArg Lane.red marked :)
    rw [red] at maps
    have frame := ((parts.mono (qs := [.net, .red]) (by decide)).upd (m := { m with red := { l.red with hostMap := l.hostView f x } })).wired a.lane
    exact next_of_eq rfl rfl (passed.trans maps) frame
  · obtain ⟨seen, taps, cnt, taken⟩ := l.tapTaken_net f x
    obtain ⟨refs, tells⟩ := (l.tapTaken f x).tapData_shadow f x ((congrArg Lane.st taken :).trans shadow)
    have rx := (l.tapRx_data f tap bus runs shadow passes data own once).trans tells
    rw [taken] at rx
    exact next_of_eq (f := fun l => l.tapRx f) rfl rfl rx ⟨rfl, rfl, rfl, reports_wired _ a.lane⟩

end Sys2Proof.Machine
end

section
/-! The supply, and SAVE (R399, R405, R412, R416 to R418). -/

namespace Sys2Proof.Machine

set_option Elab.async false

/-! ### Wakes and the end of power -/

/-- What a wake leaves of the power domain when its regulator step begins. -/
theorem Lane.wakeBegin_pwr (l : Lane) : ∃ t r g h, l.wakeBegin.pwr =
    { l.pwr with pstate := 5, pend := none, step := if 9000 ≤ l.pwr.vsup then .regulators else .supply, stepAt := t, retries := r, regAt := g, holdTold := h } := by
  have pwr : (l.setSt .waking).pwr = l.pwr := ((Within.refl (ps := [.st]) l).setSt _).pwr_eq
  unfold Lane.wakeBegin Lane.regStart
  generalize l.setSt .waking = n at pwr
  rw [← pwr]
  by_cases high : 9000 ≤ n.pwr.vsup
  · refine ⟨n.now, 0, some n.now, false, (congrArg Lane.pwr (if_pos high)).trans ?_⟩
    rw [if_pos high]
  · refine ⟨n.now, n.pwr.retries, n.pwr.regAt, n.pwr.holdTold, (congrArg Lane.pwr (if_neg high)).trans ?_⟩
    rw [if_neg high]

theorem Lane.wakeBegin_st (l : Lane) : l.wakeBegin.st = .waking := by
  have st : (l.setSt .waking).st = .waking := Lane.setSt_st ..
  unfold Lane.wakeBegin Lane.regStart
  extract_lets
  split
  · exact st
  · exact st

theorem Lane.wakeBegin_otp (l : Lane) : l.wakeBegin.boot.otp = l.boot.otp := by
  have set : (l.setSt .waking).boot = l.boot := ((Within.refl (ps := [.st]) l).setSt _).boot_eq
  unfold Lane.wakeBegin Lane.regStart
  extract_lets
  split
  · exact (congrArg Boot.otp set :)
  · exact (congrArg Boot.otp set :)

/-- What a lane that starts cold comes to. -/
theorem Lane.coldStart_leaves (l : Lane) (cycle : Bool) : ∀ m, l.coldStart cycle = m →
    m.st = .waking ∧ m.params = [] ∧ m.mem.mram = l.mem.mram ∧ m.boot.otp = l.boot.otp ∧ m.pwr.boot = l.pwr.boot + 1 ∧ m.pwr.pstate = 5 ∧ m.pwr.aonOn = l.pwr.aonOn ∧ m.pwr.rearmed = l.pwr.rearmed ∧
      m.pwr.vsup = l.pwr.vsup ∧ m.pwr.step = (if 9000 ≤ l.pwr.vsup then .regulators else .supply) ∧ m.pwr.wakeSrc = l.pwr.wakeSrc ∧ m.pwr.wakes = l.pwr.wakes := by
  intro m ends
  obtain ⟨n, starts, facts⟩ : ∃ n : Lane, l.coldStart cycle = n.wakeBegin.cellFollow ∧ n.boot.otp = l.boot.otp ∧ n.mem.mram = l.mem.mram ∧ n.params = [] ∧ n.pwr.boot = l.pwr.boot + 1 ∧
      n.pwr.aonOn = l.pwr.aonOn ∧ n.pwr.rearmed = l.pwr.rearmed ∧ n.pwr.vsup = l.pwr.vsup ∧ n.pwr.wakeSrc = l.pwr.wakeSrc ∧ n.pwr.wakes = l.pwr.wakes :=
    ⟨_, rfl, rfl, rfl, rfl, rfl, rfl, rfl, rfl, rfl, rfl⟩
  obtain ⟨otp, mram, params, boot, aonOn, rearmed, vsup, src, wakes⟩ := facts
  have st : n.wakeBegin.st = .waking := n.wakeBegin_st
  have parts : Within [.st, .pwr, .boot] n n.wakeBegin := (Within.refl n).wakeBegin
  have follow : Within [.fn] n.wakeBegin n.wakeBegin.cellFollow := (Within.refl _).cellFollow
  have mem : n.wakeBegin.cellFollow.mem.mram = n.mem.mram := (congrArg Mem.mram follow.mem_eq :).trans (congrArg Mem.mram parts.mem_eq :)
  obtain ⟨t, r, g, h, pwr⟩ := n.wakeBegin_pwr
  rw [← ends, starts, mem, follow.st_eq, follow.pwr_eq, follow.boot_eq, follow.params_eq, parts.params_eq, st, n.wakeBegin_otp, pwr, ← vsup]
  exact ⟨rfl, params, mram, otp, boot, rfl, aonOn, rearmed, rfl, rfl, src, wakes⟩

/-- What a lane that goes off comes to. -/
theorem Lane.goOff_leaves (l : Lane) (k : Nat) : ∀ m, l.goOff k = m →
    m.st = .off ∧ m.pwr = { l.pwr with pstate := k, step := .idle, entry := none, runKey := none, sagAt := none } ∧ m.mem.mram = l.mem.mram := by
  intro m ends
  obtain ⟨n, off, pwr, mram⟩ : ∃ n : Lane, l.goOff k = (n.setSt .off).cellFollow ∧ n.pwr = { l.pwr with pstate := k, step := .idle, entry := none, runKey := none, sagAt := none } ∧ n.mem.mram = l.mem.mram :=
    ⟨_, rfl, rfl, rfl⟩
  have st : (n.setSt .off).st = .off := Lane.setSt_st ..
  have parts : Within [.st, .fn] n (n.setSt .off).cellFollow := ((Within.refl n).setSt _).cellFollow
  have follow : Within [.fn] (n.setSt .off) (n.setSt .off).cellFollow := (Within.refl _).cellFollow
  rw [← ends, off, follow.st_eq, parts.pwr_eq, parts.mram_eq, st]
  exact ⟨rfl, pwr, mram⟩

/-- The cell of a lane that is off follows at once. -/
theorem Lane.cellFollow_off (l : Lane) (off : l.st = .off) (cell : l.fn.cell = .passive) : l.cellFollow = l := by
  unfold Lane.cellFollow
  rw [off, cell]
  rfl

theorem Lane.aonLost_leaves (l : Lane) : ∀ m, l.aonLost = m →
    m.st = .off ∧ m.pwr.aonOn = false ∧ m.pwr.rearmed = true ∧ m.fn.cell = .passive ∧ m.mem.sram = [] ∧ m.params = [] ∧ m.mem.mram = l.mem.mram ∧ m.boot.otp = l.boot.otp := by
  intro m ends
  have st : (l.portsDown.setSt .off).st = .off := Lane.setSt_st ..
  have parts : Within [.st] l.portsDown (l.portsDown.setSt .off) := (Within.refl _).setSt _
  have mram : (l.portsDown.setSt .off).mem.mram = l.mem.mram := parts.mram_eq
  have otp : (l.portsDown.setSt .off).boot.otp = l.boot.otp := (congrArg Boot.otp parts.boot_eq :)
  unfold Lane.aonLost at ends
  generalize l.portsDown.setSt .off = n at st mram otp ends
  extract_lets k r at ends
  have still : r = k.aonDown := congrArg Lane.aonDown (k.cellFollow_off st rfl)
  clear_value r
  subst still
  rw [← ends]
  exact ⟨st, rfl, rfl, rfl, rfl, rfl, mram, otp⟩

/-! ### SAVE -/

/-- The sessions stay as they are, and no command waits that did not wait before. -/
def Lane.Ends (l m : Lane) : Prop := m.mb.ses = l.mb.ses ∧ m.mb.accepted ⊆ l.mb.accepted

theorem Lane.Ends.refl (l : Lane) : l.Ends l := ⟨rfl, List.Subset.refl _⟩

section
variable {o l : Lane} (h : o.Ends l)
include h

theorem Lane.Ends.trans {m : Lane} (k : l.Ends m) : o.Ends m := by
  obtain ⟨ses, accepted⟩ := h
  obtain ⟨ses', accepted'⟩ := k
  exact ⟨ses'.trans ses, List.Subset.trans accepted' accepted⟩

theorem Lane.Ends.told {m : Lane} (k : l.mb.told m.mb) : o.Ends m := by
  obtain ⟨same, -⟩ := k
  exact h.trans ⟨(congrArg Mb.ses same :), by rw [show m.mb.accepted = l.mb.accepted from (congrArg Mb.accepted same :)]; exact List.Subset.refl _⟩

/-- What leaves the mailboxes as they are. -/
theorem Lane.Ends.of_mb {m : Lane} (mb : m.mb = l.mb) : o.Ends m := by
  unfold Lane.Ends
  rw [mb]
  exact h

theorem Lane.Ends.ite {m : Lane} {c : Prop} {_ : Decidable c} (k : o.Ends m) : o.Ends (if c then l else m) := by
  split <;> assumption

theorem Lane.Ends.setSt (st : LaneSt) : o.Ends (l.setSt st) := by
  unfold Lane.setSt
  split
  · exact h
  · obtain ⟨line, high, ever, moves⟩ := (({ l with st := st, laneOk := st.driving } : Lane).irqSet 8).irqLine_moves
    have set : o.Ends (({ l with st := st, laneOk := st.driving } : Lane).irqSet 8) := (h.of_mb (m := { l with st := st, laneOk := st.driving }) rfl).told (Lane.irqSet_told ..)
    unfold Lane.Ends
    rw [moves]
    exact set

theorem Lane.Ends.send (p : LaneId) (urgent : Bool) (kind : Nat) (payload : List Byte) (dest : Option LaneId) (side : Option LaneNews) : o.Ends (l.send p urgent kind payload dest side) := by
  unfold Lane.send
  split
  · exact h
  · exact h.of_mb rfl

theorem Lane.Ends.withdraw (code cause : Nat) : o.Ends (l.withdraw code cause) := (h.send ..).send ..

theorem Lane.Ends.complete (k : CmdKey) (status : Nat) : o.Ends (l.complete k status) := by
  have erased : l.Ends { l with mb := { l.mb with accepted := l.mb.accepted.erase k } } := ⟨rfl, List.erase_subset⟩
  unfold Lane.complete
  split
  · exact (h.trans erased).told (Lane.event_told ..)
  · exact h

theorem Lane.Ends.genHalt (g status : Nat) : o.Ends (l.genHalt g status) := by
  unfold Lane.genHalt
  extract_lets x ks p m
  exact List.foldlRecOn (motive := o.Ends) ks _ (h.of_mb (m := m) rfl) fun n hn k _ => hn.complete k status

theorem Lane.Ends.takeSafe (k : Nat) : o.Ends (l.takeSafe k) := by
  have stand {n : Lane} (hn : o.Ends n) : o.Ends (n.stepStand k) := by
    unfold Lane.stepStand
    split
    · split
      · exact hn
      · exact (hn.genHalt ..).of_mb rfl
    · exact hn
  unfold Lane.takeSafe
  dsimp only
  split
  · exact h
  · refine Lane.Ends.of_mb (stand ?_) rfl
    split
    · exact h
    · exact h.of_mb rfl

theorem Lane.Ends.takeSafeAll : o.Ends l.takeSafeAll := by
  unfold Lane.takeSafeAll Lane.each
  exact List.foldlRecOn (motive := o.Ends) (List.range 8) _ h fun _ hn k _ => hn.takeSafe k

theorem Lane.Ends.cellFollow : o.Ends l.cellFollow := by
  unfold Lane.cellFollow
  split
  · exact h.ite (h.of_mb rfl)
  · exact h.ite (h.of_mb rfl)
  · exact h.ite (h.of_mb rfl)
  · exact h
  · exact h
  · exact h.ite (h.of_mb rfl)

end

/-- The lane that has stepped down for SAVE: its sessions closed, its commands and tests gone. -/
def Lane.saveReady (l : Lane) (mv : Nat) : Lane :=
  let img := if l.p 0xC102 == 1 then some l.chrysNow else none
  let was := l.st
  let l := l.weevilAbort.aonEvent 0xC104 mv
  { l.stepDown.testsGone.closeAll with red.dup := false, red.claim := none, red.split := none, mb.accepted := [], mb.deferred := [], boot.wdAt := none,
                                       pwr.hold := mv, pwr.pstate := 6, pwr.step := .idle, pwr.runKey := none, pwr.save := some l.now, pwr.saveFrom := was, pwr.saveImg := img }

theorem Lane.saveEntry_due (l : Lane) (mv t : Nat) (sag : l.pwr.sagAt = some t) (due : t + us 18 ≤ l.now) (may : l.maySave = true) (entry : l.pwr.entry = none) (run : l.bist.run = none) :
    l.saveEntry mv = (((l.saveReady mv).marksStore.setSt .save).withdraw 10 6).takeSafeAll.cellFollow := by
  have open_ : (!l.due (t + us 18) || !l.maySave) = false := by
    rw [Lane.due, decide_eq_true due, may]
    rfl
  have drop : l.bistDrop = l := by
    unfold Lane.bistDrop
    rw [run]
  unfold Lane.saveEntry Lane.saveReady
  simp only [sag, entry, open_, drop, Option.isSome_none, Bool.false_eq_true, if_false]

/-- What a lane that enters SAVE comes to. -/
theorem Lane.saveEntry_saves (l : Lane) (mv t : Nat) (sag : l.pwr.sagAt = some t) (due : t + us 18 ≤ l.now) (may : l.maySave = true) (entry : l.pwr.entry = none) (run : l.bist.run = none) :
    ∀ m, l.saveEntry mv = m → m.st = .save ∧ m.pwr.pstate = 6 ∧ m.pwr.hold = mv ∧ m.pwr.save = some l.now ∧ m.pwr.saveImg.isSome = (l.p 0xC102 == 1) ∧ m.mb.accepted = [] ∧ (∀ x ∈ m.mb.ses, x.level = 0) ∧
      m.net.hwm = (if l.net.known = true then max l.net.hwm l.net.cycle.toNat else l.net.hwm) ∧ m.params = l.params := by
  intro m ends
  rw [l.saveEntry_due mv t sag due may entry run] at ends
  have begun : Within [.mem, .pwr, .red, .gd, .halfBridges, .bist] l (l.weevilAbort.aonEvent 0xC104 mv).stepDown.testsGone.closeAll :=
    (((((Within.refl l).weevilAbort).aonEvent ..).stepDown).testsGone).closeAll
  have parts : Within [.mem, .pwr, .red, .gd, .halfBridges, .bist, .boot] l (l.saveReady mv) := (begun.mono (by decide)).upd
  obtain ⟨pstate, hold, save, img⟩ : (l.saveReady mv).pwr.pstate = 6 ∧ (l.saveReady mv).pwr.hold = mv ∧ (l.saveReady mv).pwr.save = some (l.weevilAbort.aonEvent 0xC104 mv).now ∧
      (l.saveReady mv).pwr.saveImg = (if l.p 0xC102 == 1 then some l.chrysNow else none) := ⟨rfl, rfl, rfl, rfl⟩
  rw [Within.now_eq (ps := [.mem, .pwr]) (((Within.refl l).weevilAbort).aonEvent 0xC104 mv)] at save
  have closed : (l.saveReady mv).marksStore.mb.accepted = [] ∧ ∀ x ∈ (l.saveReady mv).marksStore.mb.ses, x.level = 0 := by
    refine ⟨rfl, fun x known => ?_⟩
    obtain ⟨y, -, rfl⟩ := List.mem_map.mp known
    rfl
  have hwm : (l.saveReady mv).marksStore.net.hwm = if (l.saveReady mv).net.known = true then max (l.saveReady mv).net.hwm (l.saveReady mv).net.cycle.toNat else (l.saveReady mv).net.hwm := rfl
  rw [parts.net_eq] at hwm
  have marks : (l.saveReady mv).marksStore.pwr = (l.saveReady mv).pwr ∧ (l.saveReady mv).marksStore.params = (l.saveReady mv).params := ⟨rfl, rfl⟩
  obtain ⟨pwr, params⟩ := marks
  generalize (l.saveReady mv).marksStore = n at ends closed hwm pwr params
  have st : (n.setSt .save).st = .save := Lane.setSt_st ..
  have out : Within [.link, .held, .slots, .mp, .fn] (n.setSt .save) ((n.setSt .save).withdraw 10 6).takeSafeAll.cellFollow := (((Within.refl _).withdraw ..).takeSafeAll).cellFollow
  have set : Within [.st] n (n.setSt .save) := (Within.refl n).setSt _
  obtain ⟨accepted, sessions⟩ := closed
  obtain ⟨ses, ended⟩ := ((((Lane.Ends.refl n).setSt .save).withdraw 10 6).takeSafeAll).cellFollow
  rw [accepted] at ended
  rw [← ends, out.st_eq, out.pwr_eq, set.pwr_eq, out.net_eq, set.net_eq, out.params_eq, set.params_eq, pwr, params, parts.params_eq, hwm, img]
  refine ⟨st, pstate, hold, save, ?_, List.subset_nil.mp ended, by rw [ses]; exact sessions, rfl, rfl⟩
  cases l.p 0xC102 == 1 with
  | false => rfl
  | true => rfl

/-! ### The level of the supply -/

section
variable (l : Lane)

theorem Lane.powerOn_starts (mv : Nat) (aon : l.pwr.aonOn = false) (armed : l.pwr.rearmed = true) (high : 5500 < mv) (off : l.st = .off) :
    l.powerOn mv = Lane.coldStart { l with pwr := { l.pwr with vsup := mv, aonOn := true, rearmed := false } } true := by
  unfold Lane.powerOn
  simp only [aon, armed, high, off, Bool.not_false, if_true, decide_true, beq_self_eq_true, Bool.and_self]

theorem Lane.powerOn_goes_on (mv : Nat) (aon : l.pwr.aonOn = true) (step : l.pwr.step = .supply) (high : 9000 ≤ mv) :
    l.powerOn mv = { l with pwr := { l.pwr with vsup := mv, step := .regulators, stepAt := l.now, retries := 0, regAt := some l.now, holdTold := false } } := by
  unfold Lane.powerOn
  simp only [aon, step, high, Bool.not_true, Bool.false_eq_true, if_false, if_true, decide_true, beq_self_eq_true, Bool.and_self]
  rfl

theorem Lane.supplySag_closes (mv : Nat) (low : mv < 7000) (may : l.maySave = true) (quiet : l.pwr.sagAt = none) :
    l.supplySag mv = { l with pwr := { l.pwr with vsup := mv, goodAt := none, sagAt := some l.now } } := by
  unfold Lane.supplySag
  refine (if_pos ?_).trans ?_
  · show (decide (mv < 7000) && l.maySave && l.pwr.sagAt.isNone) = true
    rw [decide_eq_true low, may, quiet]
    rfl
  · rw [if_pos (by omega)]

theorem Lane.supplyRecover_opens (mv t : Nat) (high : 7500 < mv) (sag : l.pwr.sagAt = some t) (early : l.now < t + us 22) (st : l.st ≠ .save) :
    l.supplyRecover mv = { l with pwr := { l.pwr with vsup := mv, goodAt := none, sagAt := none } } := by
  have filter : (l.st != .save && decide (l.now < t + us 22)) = true := by
    rw [decide_eq_true early, bne_iff_ne.mpr st]
    rfl
  unfold Lane.supplyRecover
  simp only [Nat.not_le.mpr high, if_false, sag, filter, if_true]

/-- The lane that has written its image and read it back. -/
def Lane.saveStored (l : Lane) (c : Chrysalis) (t : Nat) : Lane :=
  let l := l.aonEvent 0xC105 ((l.now - t) / us 1)
  { l.chrysStore c with pwr.saveImg := none, pwr.save := none, mem.logBuf := l.mem.logBuf.drop 987 }

theorem Lane.saveStored_leaves (c : Chrysalis) (t : Nat) : ∀ m, l.saveStored c t = m → m.now = l.now ∧ m.pwr.goodAt = l.pwr.goodAt ∧ m.pwr.saveImg = none ∧ m.pwr.chrysTurn = !l.pwr.chrysTurn ∧
    m.mem.mram = ((l.mramPut (chrysAt (b2n l.pwr.chrysTurn) + 32764) (leBytes 4 (crc32 (padTo 32764 c.body)).toNat)).mramPut (chrysAt (b2n l.pwr.chrysTurn)) (c.body.take c.len)).mem.mram := by
  have told : ∃ xs, l.aonEvent 0xC105 ((l.now - t) / us 1) = { l with pwr := { l.pwr with aonEv := xs } } := ⟨_, rfl⟩
  obtain ⟨xs, told⟩ := told
  intro m ends
  unfold Lane.saveStored at ends
  rw [told] at ends
  unfold Lane.chrysStore Lane.chrysWrite Lane.mramPut at ends
  rw [← ends]
  unfold Lane.mramPut
  exact ⟨rfl, rfl, rfl, rfl, rfl⟩

theorem Lane.saveDone_off (c : Chrysalis) (t : Nat) (st : l.st = .save) (img : l.pwr.saveImg = some c) (save : l.pwr.save = some t) (back : l.supplyBack = false) :
    l.saveDone = (l.saveStored c t).goOff 7 := by
  have stored : l.saveDone = (l.saveStored c t).saveLeave := by
    unfold Lane.saveDone
    rw [st, img, save]
    rfl
  have leaves := l.saveStored_leaves c t
  rw [stored]
  generalize l.saveStored c t = m at leaves
  obtain ⟨now_, goodAt, -⟩ := leaves m rfl
  have back' : m.supplyBack = l.supplyBack := by
    unfold Lane.supplyBack Lane.due
    rw [goodAt, now_]
  exact if_neg (by rw [back', back]; exact Bool.false_ne_true)

theorem Lane.saveStop_off (c : Chrysalis) (n : Nat) (st : l.st = .save) (img : l.pwr.saveImg = some c) :
    l.saveStop n = Lane.goOff (({ l.chrysWrite c n with pwr.saveFail := true, pwr.saveImg := none, pwr.save := none } : Lane).aonEvent 0xC106 n) 7 := by
  unfold Lane.saveStop
  simp only [st, img, bne_self_eq_false, Bool.false_eq_true, if_false]

theorem Lane.saveReturn_wakes (st : l.st = .save) (img : l.pwr.saveImg = none) (back : l.supplyBack = true) : ∀ m, l.saveReturn = m →
    m.st = .waking ∧ m.pwr.wakeSrc = 8 ∧ m.pwr.wakes = l.pwr.wakes + 1 ∧ m.pwr.boot = l.pwr.boot + 1 := by
  intro m ends
  have returns : l.saveReturn = l.wakeSaved := if_pos (by rw [back, st, img]; rfl)
  obtain ⟨k, starts, src, wakes, boot⟩ : ∃ k : Lane, l.portsDown.noteWake 8 = k ∧ k.pwr.wakeSrc = 8 ∧ k.pwr.wakes = l.pwr.wakes + 1 ∧ k.pwr.boot = l.pwr.boot := ⟨_, rfl, rfl, rfl, rfl⟩
  have leaves := k.coldStart_leaves false
  rw [returns] at ends
  unfold Lane.wakeSaved at ends
  rw [starts] at ends
  generalize k.coldStart false = n at ends leaves
  obtain ⟨st', -, -, -, boot', -, -, -, -, -, src', wakes'⟩ := leaves n rfl
  have told : m.st = n.st ∧ m.pwr = n.pwr := by
    rw [← ends]
    dsimp only
    split
    next src _ => exact ⟨((Within.refl (ps := []) n).event 0xC10A src).st_eq, ((Within.refl (ps := []) n).event 0xC10A src).pwr_eq⟩
    next => exact ⟨rfl, rfl⟩
  obtain ⟨st, pwr⟩ := told
  rw [st, pwr]
  exact ⟨st', src'.trans src, wakes'.trans wakes, boot'.trans (by rw [boot])⟩

theorem Lane.holdCheck_tells (mv t : Nat) (reg : l.pwr.regAt = some t) (told : l.pwr.holdTold = false) (due : t + ms 200 ≤ l.now) (off : l.st ≠ .off) :
    Reports { l with pwr := { l.pwr with holdTold := true, hold := mv } } (l.holdCheck mv) := by
  have open_ : (l.pwr.holdTold || !l.due (t + ms 200) || l.st == .off) = false := by
    rw [told, Lane.due, decide_eq_true due, beq_eq_false_iff_ne.mpr off]
    rfl
  unfold Lane.holdCheck
  rw [reg]
  simp only [open_, Bool.false_eq_true, if_false]
  split
  · exact (Within.refl (ps := []) _).event 0xC107 mv
  · exact Within.refl (ps := []) _

end

/-! ### The statement -/

/-- Settles O50. -/
theorem supply : Obligations.Supply := by
  unfold Obligations.Supply
  intro s a mv n t c l base
  refine ⟨fun aon armed high off => ?_, fun aon step high => ?_, ?_, fun low may quiet => ?_, fun high sag early st => ?_, fun sag due may entry run => ?_, fun st img save back => ?_, fun st img => ?_,
    fun st img back => ?_, fun reg told due off => ?_⟩
  · have starts := l.powerOn_starts mv aon armed high off
    have leaves := Lane.coldStart_leaves { l with pwr := { l.pwr with vsup := mv, aonOn := true, rearmed := false } } true
    rw [← starts] at leaves
    generalize ends : l.powerOn mv = m at leaves
    obtain ⟨st, params, mram, otp, boot, pstate, on_, armed', vsup, step, -, -⟩ := leaves m rfl
    exact next_of_eq rfl rfl ends ⟨st, on_, armed', boot, pstate, step, vsup, params, mram, otp⟩
  · exact next_of_eq rfl rfl (l.powerOn_goes_on mv aon step high) (reports_wired _ a.lane)
  · have leaves := l.aonLost_leaves
    generalize ends : l.aonLost = m at leaves
    exact next_of_eq rfl rfl ends (leaves m rfl)
  · exact next_of_eq rfl rfl (l.supplySag_closes mv low may quiet) (reports_wired _ a.lane)
  · exact next_of_eq rfl rfl (l.supplyRecover_opens mv t high sag early st) (reports_wired _ a.lane)
  · have saves := l.saveEntry_saves mv t sag due may entry run
    generalize ends : l.saveEntry mv = m at saves
    obtain ⟨st, pstate, hold, save, img, accepted, ses, hwm, params⟩ := saves m rfl
    exact next_of_eq rfl rfl ends ⟨st, pstate, hold, save, img, by rw [Lane.wired]; simp only [st]; rfl, accepted, ses, hwm, params⟩
  · have stores := l.saveDone_off c t st img save back
    have stored := l.saveStored_leaves c t
    generalize l.saveStored c t = k at stores stored
    have leaves := k.goOff_leaves 7
    rw [← stores] at leaves
    generalize ends : l.saveDone = m at leaves
    obtain ⟨off, pwr, mram⟩ := leaves m rfl
    obtain ⟨-, -, img, turn, kept⟩ := stored k rfl
    exact next_of_eq rfl rfl ends ⟨off, (congrArg Pwr.pstate pwr :), (congrArg Pwr.saveImg pwr :).trans img, (congrArg Pwr.chrysTurn pwr :).trans turn, mram.trans kept⟩
  · have stops := l.saveStop_off c n st img
    have leaves := Lane.goOff_leaves (({ l.chrysWrite c n with pwr.saveFail := true, pwr.saveImg := none, pwr.save := none } : Lane).aonEvent 0xC106 n) 7
    rw [← stops] at leaves
    generalize ends : l.saveStop n = m at leaves
    obtain ⟨off, pwr, mram⟩ := leaves m rfl
    exact next_of_eq rfl rfl ends ⟨off, (congrArg Pwr.pstate pwr :), (congrArg Pwr.saveFail pwr :), (congrArg Pwr.chrysTurn pwr :), mram⟩
  · have wakes := l.saveReturn_wakes st img back
    generalize ends : l.saveReturn = m at wakes
    exact next_of_eq rfl rfl ends (wakes m rfl)
  · have tells := l.holdCheck_tells mv t reg told due off
    generalize ends : l.holdCheck mv = m at tells
    exact next_of_eq rfl rfl ends (tells.trans (reports_wired _ a.lane))

end Sys2Proof.Machine
end

section
/-! Wakes, the regulators and the clocks (R328, R345, R400, R404, R409 to R412). -/

namespace Sys2Proof.Machine

set_option Elab.async false

/-! ### Wakes -/

/-- What a lane that wakes warm comes to. -/
def Lane.Woken (l : Lane) (k : Nat) (m : Lane) : Prop :=
  m.st = .waking ∧ m.pwr.wakeSrc = k ∧ m.pwr.wakes = l.pwr.wakes + 1 ∧ m.pwr.warm = true ∧ m.pwr.fromSleep = (l.pwr.pstate == 3) ∧ m.params = l.params ∧ m.mem.sram = l.mem.sram ∧ m.mem.mram = l.mem.mram

/-- The lane sleeps, and nothing makes its wake a cold one. -/
def Lane.Asleep (l : Lane) : Prop :=
  l.st = .off ∧ (l.pwr.pstate = 2 ∨ l.pwr.pstate = 3) ∧ l.pwr.entry = none ∧ l.boot.swap = none ∧ l.pwr.burned = false

section
variable (l : Lane)

theorem Lane.warmWake_woken (src : Nat) (swap : l.boot.swap = none) (burned : l.pwr.burned = false) : ∀ m, l.warmWake src = m → l.Woken src m := by
  intro m ends
  have warm : (l.boot.swap.isSome || l.pwr.burned) = false := by
    rw [swap, burned]
    rfl
  obtain ⟨n, wakes, src', count, hot, sleep, params, sram, mram⟩ : ∃ n : Lane, l.warmWake src = n.wakeBegin ∧ n.pwr.wakeSrc = src ∧ n.pwr.wakes = l.pwr.wakes + 1 ∧ n.pwr.warm = true ∧
      n.pwr.fromSleep = (l.pwr.pstate == 3) ∧ n.params = l.params ∧ n.mem.sram = l.mem.sram ∧ n.mem.mram = l.mem.mram := by
    unfold Lane.warmWake
    rw [warm]
    exact ⟨_, rfl, rfl, rfl, rfl, rfl, rfl, rfl, rfl⟩
  have parts : Within [.st, .pwr, .boot] n n.wakeBegin := (Within.refl n).wakeBegin
  obtain ⟨t, r, g, h, pwr⟩ := n.wakeBegin_pwr
  unfold Lane.Woken
  rw [← ends, wakes, n.wakeBegin_st, parts.params_eq, parts.mem_eq, pwr]
  exact ⟨rfl, src', count, hot, sleep, params, sram, mram⟩

theorem Lane.wake_woken (src : Nat) (sleeps : l.Asleep) (armed : l.wakeArmed src = true) : ∀ m, l.wake src = m → l.Woken src m := by
  obtain ⟨off, deep, entry, swap, burned⟩ := sleeps
  have wakes : l.wake src = l.warmWake src := by
    have asleep : (l.st == .off && (l.pwr.pstate == 2 || l.pwr.pstate == 3)) = true := by
      rw [off]
      simpa using deep
    unfold Lane.wake
    rw [armed, entry, off]
    rw [off] at asleep
    exact if_pos asleep
  rw [wakes]
  exact l.warmWake_woken src swap burned

theorem Lane.Asleep.detects {l : Lane} (sleeps : l.Asleep) : l.detectorsOn = true := by
  obtain ⟨off, deep, entry, -, -⟩ := sleeps
  unfold Lane.detectorsOn
  rw [entry, off]
  simpa using deep

theorem Lane.linkActivity_wakes (port : Nat) (sleeps : l.Asleep) (native : l.pwr.mayfly = false) : l.linkActivity port = l.wake (2 + port) := by
  refine if_neg ?_
  rw [sleeps.detects, native]
  exact Bool.false_ne_true

theorem Lane.spWake_wakes (ptr : Nat) (rd : Bool) (sleeps : l.Asleep) (other : ptr ≠ 4 ∨ rd = false) : l.spWake ptr rd = l.wake 6 := by
  refine if_neg ?_
  rw [sleeps.detects]
  simpa using fun read => other.resolve_left (not_not.mpr read)

theorem Lane.cicada_wakes (port : Nat) (sleeps : l.Asleep) : ∃ xs ys, l.cicada port = Lane.wake { l with ports := { l.ports with cicAt := xs, cicTx := ys } } (4 + port) := by
  unfold Lane.cicada
  rw [sleeps.detects]
  exact ⟨_, _, rfl⟩

/-! ### Regulators and clocks -/

theorem Lane.regTimeout_retries (reg : Nat) (waking : l.st = .waking) (step : l.pwr.step = .regulators) (due : l.pwr.stepAt + (if l.pwr.warm = true then us 500 else ms 3) ≤ l.now) (few : l.pwr.retries < 3) :
    Reports { l with pwr := { l.pwr with step := .regWait, stepAt := l.now, retries := l.pwr.retries + 1 } } (l.regTimeout reg) := by
  have open_ : (!l.atStep .regulators || !l.due (l.pwr.stepAt + (if l.pwr.warm then us 500 else ms 3))) = false := by
    rw [Lane.atStep, waking, step, Lane.due, decide_eq_true due]
    rfl
  unfold Lane.regTimeout
  rw [open_, if_pos few]
  exact (Within.refl (ps := []) _).event 0xC103 1

theorem Lane.regTimeout_halts (reg : Nat) (waking : l.st = .waking) (step : l.pwr.step = .regulators) (due : l.pwr.stepAt + (if l.pwr.warm = true then us 500 else ms 3) ≤ l.now) (last : 3 ≤ l.pwr.retries) :
    ∃ n, l.regTimeout reg = { l with pwr := n } ∧ n.step = .halted ∧ n.regFail = true := by
  have open_ : (!l.atStep .regulators || !l.due (l.pwr.stepAt + (if l.pwr.warm then us 500 else ms 3))) = false := by
    rw [Lane.atStep, waking, step, Lane.due, decide_eq_true due]
    rfl
  have told (n : Lane) : n.aonEvent 0xC101 reg = { n with pwr := { n.pwr with aonEv := (n.aonEvent 0xC101 reg).pwr.aonEv } } := rfl
  unfold Lane.regTimeout
  rw [open_, if_neg (Nat.not_lt.mpr last)]
  simp only [Bool.false_eq_true, if_false]
  rw [told]
  cases failed : l.pwr.regFail with
  | false => exact ⟨_, rfl, rfl, rfl⟩
  | true => exact ⟨_, rfl, rfl, rfl⟩

theorem Lane.enterLimp_leaves (limp : l.st ≠ .limp) (silent : l.st ≠ .failSilent) : l.enterLimp.st = .limp ∧ l.enterLimp.pwr = l.pwr ∧ l.enterLimp.params = l.params := by
  have parts : Within [.st, .link, .held, .slots, .mp, .fn, .red] l l.enterLimp := (Within.refl l).enterLimp
  refine ⟨?_, parts.pwr_eq, parts.params_eq⟩
  have out (n : Lane) : ((n.withdraw 9 1).takeSafeAll.cellFollow).st = n.st :=
    Within.st_eq (ps := [.link, .held, .slots, .mp, .fn]) (((Within.refl n).withdraw ..).takeSafeAll).cellFollow
  have open_ : ¬ (l.st == .limp || l.st == .failSilent) = true := by simp [limp, silent]
  exact (congrArg Lane.st (if_neg open_)).trans ((out _).trans (Lane.setSt_st ..))

theorem Lane.clocksUp_boots (waking : l.st = .waking) :
    Reports { l with st := .boot, pwr := { l.pwr with pstate := 0, step := if l.pwr.warm = true then .comparator else .otp, stepAt := l.now } } l.clocksUp := by
  have boots : l.clocksUp = Lane.setSt { l with pwr := { l.pwr with pstate := 0, step := if l.pwr.warm = true then .comparator else .otp, stepAt := l.now } } .boot := by
    refine if_neg ?_
    show ¬ (l.st == .limp) = true
    rw [waking]
    decide
  have parts : Within [.st] { l with pwr := { l.pwr with pstate := 0, step := if l.pwr.warm = true then .comparator else .otp, stepAt := l.now } } l.clocksUp := by
    rw [boots]
    exact (Within.refl _).setSt _
  have st : l.clocksUp.st = .boot := by
    rw [boots]
    exact Lane.setSt_st ..
  have frame : Reports { l with st := l.clocksUp.st, pwr := { l.pwr with pstate := 0, step := if l.pwr.warm = true then .comparator else .otp, stepAt := l.now } } l.clocksUp := parts
  rwa [st] at frame

/-- The options of the start stand in the OTP. -/
theorem Lane.bootOpt_congr {l m : Lane} (same : m.boot = l.boot) : m.bootOpt = l.bootOpt := by
  unfold Lane.bootOpt Lane.otpCrc Lane.otpBytes
  rw [same]

/-- A clock that fails for good leads to LIMP. -/
theorem Lane.oscDead_limps (k : Nat) (st : l.st = .waking) (limp : bit l.bootOpt 3 = false) : (l.oscDead k).st = .limp ∧ (l.oscDead k).pwr.oscFail = true ∧ (l.oscDead k).pwr.backup = true ∧ (l.oscDead k).pwr.step = (if l.pwr.warm = true then .comparator else .otp) := by
  have told : Within [] ({ l with pwr := { l.pwr with oscFail := true, backup := true } } : Lane) (({ l with pwr := { l.pwr with oscFail := true, backup := true } } : Lane).event 0xC102 k) := (Within.refl _).event ..
  have limps : l.oscDead k = (({ l with pwr := { l.pwr with oscFail := true, backup := true } } : Lane).event 0xC102 k).enterLimp.clocksUp := by
    refine if_neg ?_
    rw [Lane.bootOpt_congr (l := l) told.boot_eq, limp]
    exact Bool.false_ne_true
  generalize ({ l with pwr := { l.pwr with oscFail := true, backup := true } } : Lane).event 0xC102 k = n at told limps
  have entered : n.st = .waking := told.st_eq.trans st
  obtain ⟨st', pwr, -⟩ := n.enterLimp_leaves (by rw [entered]; decide) (by rw [entered]; decide)
  generalize n.enterLimp = m at limps st' pwr
  have up : m.clocksUp = { m with pwr := { m.pwr with pstate := 0, step := if m.pwr.warm = true then .comparator else .otp, stepAt := m.now } } := if_pos (beq_iff_eq.mpr st')
  rw [limps, up, pwr, told.pwr_eq]
  exact ⟨st', rfl, rfl, rfl⟩

theorem Lane.regRetry_again (waking : l.st = .waking) (step : l.pwr.step = .regWait) (due : l.due (l.pwr.stepAt + ms 10) = true) :
    l.regRetry = { l with pwr := { l.pwr with step := .regulators, stepAt := l.now } } := by
  have ready : l.atStep .regWait = true := by
    rw [Lane.atStep, waking, step]
    rfl
  unfold Lane.regRetry
  rw [ready, due]
  rfl

theorem Lane.pllTimeout_due (waking : l.st = .waking) (step : l.pwr.step = .pll) (due : l.pwr.stepAt + ms 1 ≤ l.now) : (!l.atStep .pll || !l.due (l.pwr.stepAt + ms 1)) = false := by
  rw [Lane.atStep, waking, step, Lane.due, decide_eq_true due]
  rfl

theorem Lane.pllTimeout_retries (waking : l.st = .waking) (step : l.pwr.step = .pll) (due : l.pwr.stepAt + ms 1 ≤ l.now) (first : l.pwr.retries = 0) :
    Reports { l with pwr := { l.pwr with stepAt := l.now, retries := 1 } } l.pllTimeout := by
  unfold Lane.pllTimeout
  rw [l.pllTimeout_due waking step due, first]
  exact (Within.refl (ps := []) _).event 0xC103 3

theorem Lane.pllTimeout_fails (waking : l.st = .waking) (step : l.pwr.step = .pll) (due : l.pwr.stepAt + ms 1 ≤ l.now) (later : l.pwr.retries ≠ 0) : l.pllTimeout = l.oscDead 1 := by
  unfold Lane.pllTimeout
  rw [l.pllTimeout_due waking step due, beq_eq_false_iff_ne.mpr later]
  rfl

theorem Lane.clockFail_limps (pll : Bool) (first : l.pwr.backup = false) (runs : l.st ∈ [.boot, .check, .sync, .shadow, .authority, .follower, .island]) :
    (l.clockFail pll).st = .limp ∧ (l.clockFail pll).pwr.oscFail = true ∧ (l.clockFail pll).pwr.backup = true ∧ (l.clockFail pll).params = l.params := by
  have told : Within [] ({ l with pwr := { l.pwr with oscFail := true, backup := true } } : Lane) (({ l with pwr := { l.pwr with oscFail := true, backup := true } } : Lane).event 0xC102 (b2n pll)) :=
    (Within.refl _).event ..
  have limps : l.clockFail pll = (({ l with pwr := { l.pwr with oscFail := true, backup := true } } : Lane).event 0xC102 (b2n pll)).enterLimp := by
    unfold Lane.clockFail
    rw [first]
    simp only [List.mem_cons, List.not_mem_nil, or_false] at runs
    obtain st | st | st | st | st | st | st := runs
    all_goals rw [st]; rfl
  generalize ({ l with pwr := { l.pwr with oscFail := true, backup := true } } : Lane).event 0xC102 (b2n pll) = n at told limps
  have entered : n.st = l.st := told.st_eq
  obtain ⟨st', pwr, params⟩ := n.enterLimp_leaves (by rintro st; rw [← entered, st] at runs; exact absurd runs (by decide)) (by rintro st; rw [← entered, st] at runs; exact absurd runs (by decide))
  rw [limps, pwr, told.pwr_eq, params, told.params_eq]
  exact ⟨st', rfl, rfl, rfl⟩

end

/-! ### The statement -/

/-- Settles O51. -/
theorem wakes : Obligations.Wakes := by
  unfold Obligations.Wakes
  intro s a src port ptr reg t rd pll l r woken
  refine ⟨fun off deep entry swap burned => ?_, fun waking => ⟨fun step => ⟨?_, fun known due => ⟨fun few => ?_, fun last => ?_⟩⟩, fun step due => ?_, fun step => ⟨?_, fun first due => ?_, fun later due limp => ?_⟩⟩,
    fun first runs => ?_, fun idle => ⟨?_, fun gate due => ?_⟩⟩
  · have sleeps : l.Asleep := ⟨off, deep, entry, swap, burned⟩
    have wakes (i : Instr) (k : Nat) (ok : Bool) (f : Lane → Lane) (e : exec i s = run ok s a f) (known : ok = true) (b : i.stamp = a) (r : f l = l.wake k) (armed : l.wakeArmed k = true) : Next i s (woken k) := by
      have comes := l.wake_woken k sleeps armed
      generalize l.wake k = m at r comes
      exact next_of_eq e known r (comes m rfl) b
    refine ⟨fun least most armed => ?_, fun known native armed => ?_, fun known armed => ?_, fun known other armed => ?_⟩
    · exact wakes _ src _ _ rfl (by simp [least, most]) rfl rfl armed
    · exact wakes _ (2 + port) _ _ rfl (decide_eq_true known) rfl (l.linkActivity_wakes port sleeps native) armed
    · obtain ⟨xs, ys, cicada⟩ := l.cicada_wakes port sleeps
      have comes := Lane.wake_woken { l with ports := { l.ports with cicAt := xs, cicTx := ys } } (4 + port) sleeps armed
      rw [← cicada] at comes
      generalize ends : l.cicada port = m at comes
      exact next_of_eq rfl (decide_eq_true known) ends (comes m rfl)
    · exact wakes _ 6 _ _ rfl (decide_eq_true known) rfl (l.spWake_wakes ptr rd sleeps other) armed
  · exact next_of_eq rfl rfl (if_pos (by rw [Lane.atStep, waking, step]; decide)) (reports_wired _ a.lane)
  · have retries := l.regTimeout_retries reg waking step due few
    generalize ends : l.regTimeout reg = m at retries
    exact next_of_eq rfl (decide_eq_true known) ends (retries.trans (reports_wired _ a.lane))
  · obtain ⟨n, halts, halted, fail⟩ := l.regTimeout_halts reg waking step due last
    exact next_of_eq rfl (decide_eq_true known) halts ⟨halted, fail, reports_wired _ a.lane⟩
  · exact next_of_eq rfl rfl (l.regRetry_again waking step (decide_eq_true due)) (reports_wired _ a.lane)
  · exact next_of_eq (f := fun l => if l.atStep .pll then l.clocksUp else l) (x := l.clocksUp) rfl rfl (if_pos (by rw [Lane.atStep, waking, step]; decide)) ((l.clocksUp_boots waking).trans (reports_wired _ a.lane))
  · have retries := l.pllTimeout_retries waking step due first
    generalize ends : l.pllTimeout = m at retries
    exact next_of_eq rfl rfl ends (retries.trans (reports_wired _ a.lane))
  · obtain ⟨limps, fail, backup, -⟩ := l.oscDead_limps 1 waking limp
    have fails := l.pllTimeout_fails waking step due later
    generalize l.oscDead 1 = m at fails limps fail backup
    exact next_of_eq rfl rfl fails ⟨limps, fail, backup⟩
  · obtain ⟨st, fail, backup, params⟩ := l.clockFail_limps pll first runs
    generalize ends : l.clockFail pll = m at st fail backup params
    exact next_of_eq rfl rfl ends ⟨st, fail, backup, congrArg LaneSt.driving st, params⟩
  · exact next_of_eq rfl rfl (if_pos (by rw [idle]; rfl)) (reports_wired _ a.lane)
  · exact next_of_eq rfl rfl (if_pos (by rw [idle, gate, Lane.dueAt, decide_eq_true due]; rfl)) (reports_wired _ a.lane)

end Sys2Proof.Machine
end

section
/-! The steps of a start, cold or warm (R384, R411, R424 to R426, R436, R438, R439). -/

namespace Sys2Proof.Machine

set_option Elab.async false

/-! ### Trips without a self-test -/

/-- The parts that a trip reaches where no self-test runs, and those that a value takes with it. -/
def Part.tripped : List Part := [.link, .held, .gd, .halfBridges, .pwm, .channels, .sns, .pos, .slots, .le, .mp, .net, .mem]

/-- What a lane without a self-test becomes when its sources trip: the self-tests stay as they are. -/
def Lane.Steady (o l : Lane) : Prop := Within Part.tripped o l ∧ o.gd.test = none ∧ o.bist.run = none ∧ l.gd.test = none

theorem Lane.Steady.run {o l : Lane} (h : o.Steady l) : l.bist.run = none := by
  obtain ⟨parts, -, run, -⟩ := h
  rw [parts.bist_eq, run]

/-- A part of the trip that leaves the gate drive's test alone. -/
theorem Lane.Steady.step {o l m : Lane} (h : o.Steady l) (parts : Within Part.tripped l m) (test : m.gd.test = l.gd.test) : o.Steady m := by
  obtain ⟨parts', first, run, none⟩ := h
  exact ⟨parts'.trans parts, first, run, test.trans none⟩

/-- What leaves the gate drive but for its half-bridges alone leaves its test alone. -/
theorem Lane.Steady.within {o l m : Lane} {ps : List Part} (h : o.Steady l) (parts : Within ps l m) (sub : ps ⊆ Part.tripped := by decide) (gd : ps.elem .gd = false := by rfl) : o.Steady m := by
  refine h.step (parts.mono sub) ?_
  rw [parts.gd_but_hb gd]

theorem Lane.Steady.ite {o l m : Lane} {c : Prop} {_ : Decidable c} (h : o.Steady l) (k : o.Steady m) : o.Steady (if c then l else m) := by
  split <;> assumption

theorem Lane.Steady.eachOf {o l : Lane} (h : o.Steady l) (ks : List Nat) {f : Nat → Lane → Lane} (hf : ∀ k m, o.Steady m → o.Steady (f k m)) : o.Steady (l.eachOf ks f) :=
  List.foldlRecOn (motive := o.Steady) ks _ h fun m hm k _ => hf k m hm

section
variable {o l : Lane} (h : o.Steady l)
include h

theorem Lane.Steady.safetyRequest (hbs : List Nat) : o.Steady (l.safetyRequest hbs) := by
  have run := h.run
  have steady := h
  obtain ⟨-, -, -, test⟩ := h
  rwa [l.safetyRequest_idle hbs test run]

theorem Lane.Steady.setSrc (n : Nat) (x : TripSrc) : o.Steady (l.setSrc n x) := h.step ((Within.refl l).upd) rfl

theorem Lane.Steady.tripNotice (n : Nat) : o.Steady (l.tripNotice n) :=
  h.within ((Within.refl (ps := [.link]) l).tripNotice n)

theorem Lane.Steady.tripCover (n : Nat) : o.Steady (l.tripCover n) := by
  unfold Lane.tripCover
  extract_lets cs levels fly inj stp
  have levels' : o.Steady levels := h.eachOf cs fun c m hm => hm.step ((Within.refl m).tripCh c) (m.tripCh_gdTest c)
  have rest : Within [.held, .slots, .le, .mp] levels stp := by
    refine Within.each (Within.each (Within.each (.refl levels) 8 fun k m hm => ?_) 32 fun j m hm => ?_) 8 fun k m hm => ?_
    · exact (hm.flyStop k).ite hm
    · exact (hm.injAbort j).ite hm
    · exact (hm.stepTrip k).ite hm
  exact (levels'.within rest).safetyRequest _

theorem Lane.Steady.tripEnter (n : Nat) : o.Steady (l.tripEnter n) := by
  unfold Lane.tripEnter
  exact ((h.setSrc ..).ite ((h.setSrc ..).tripNotice ..)).tripCover ..

theorem Lane.Steady.tripOn (n : Nat) : o.Steady (l.tripOn n) := by
  unfold Lane.tripOn
  refine h.ite ?_
  dsimp only
  split
  · exact (h.setSrc ..).tripEnter ..
  · exact (h.setSrc ..).tripEnter ..
  · exact ((h.setSrc ..).setSrc ..).safetyRequest ..
  · exact h.setSrc ..

theorem Lane.Steady.pinsIn : o.Steady l.pinsIn := by
  unfold Lane.pinsIn
  exact h.eachOf _ fun n m hm => (hm.tripOn n).ite hm

/-- A value that an image gives takes effect without a self-test. -/
theorem Lane.Steady.valueHook (old : Lane) (v : PVal) : o.Steady (Lane.valueHook old l v) := by
  unfold Lane.valueHook
  dsimp only
  split
  · exact h.ite ((h.within ((Within.refl (ps := [.pwm, .sns]) l).tripOff _)).ite (h.tripOn ..))
  · exact (h.step ((Within.refl l).setGch ..) rfl).ite h
  · exact (h.within ((Within.refl (ps := [.pwm]) l).setTb ..)).ite h
  · exact (h.within ((Within.refl (ps := [.pwm]) l).setTb ..)).ite h
  · exact (h.within ((Within.refl (ps := [.pwm]) l).setTb ..)).ite h
  · exact (h.within ((Within.refl (ps := [.pwm]) l).setTb ..)).ite h
  · exact h.ite (h.within ((Within.refl (ps := [.pwm]) l).followTb _))
  · exact h.eachOf _ fun d m hm => hm.within ((Within.refl (ps := [.channels, .sns]) m).busOff d)
  · exact h.within ((Within.refl (ps := [.pos]) l).cmpStart _)
  · exact (h.within ((Within.refl (ps := [.mem]) l).weevilAbort)).ite h
  · exact (h.within ((Within.refl (ps := [.net]) l).grdTake)).ite h

end

/-! ### The firmware's start -/

/-- Outside LIMP, and no self-test runs. -/
def Lane.Fresh (l : Lane) : Prop := l.st ≠ .limp ∧ l.gd.test = none ∧ l.bist.run = none

theorem Lane.Fresh.within {l m : Lane} {ps : List Part} (h : l.Fresh) (parts : Within ps l m) (st : ps.elem .st = false := by rfl) (gd : ps.elem .gd = false := by rfl)
    (bist : ps.elem .bist = false := by rfl) : m.Fresh := by
  obtain ⟨limp, test, run⟩ := h
  refine ⟨by rwa [parts.st_eq st], ?_, by rwa [parts.bist_eq bist]⟩
  rw [parts.gd_but_hb gd]
  exact test

theorem Lane.Fresh.tests {l m : Lane} {ps : List Part} (h : l.Fresh) (parts : Within ps l m) (run : m.bist.run = l.bist.run) (st : ps.elem .st = false := by rfl) (gd : ps.elem .gd = false := by rfl) : m.Fresh := by
  obtain ⟨limp, test, none⟩ := h
  refine ⟨by rwa [parts.st_eq st], ?_, run.trans none⟩
  rw [parts.gd_but_hb gd]
  exact test

theorem Lane.Fresh.event {l : Lane} (h : l.Fresh) (code arg : Nat) : (l.event code arg).Fresh := h.within ((Within.refl (ps := []) l).event code arg)

theorem Lane.Fresh.steady {l m : Lane} (h : l.Fresh) (steady : l.Steady m) : m.Fresh := by
  obtain ⟨limp, -, -⟩ := h
  have run := steady.run
  obtain ⟨parts, -, -, test⟩ := steady
  exact ⟨by rwa [parts.st_eq], test, run⟩

theorem Lane.estimate_test (l : Lane) : l.estimate.gd.test = l.gd.test := by
  have set (a b c : Nat) : ({ l with gd.pwrEst := a, le.load := b, sns.occ := c } : Lane).gd.test = l.gd.test := rfl
  exact set ..

theorem Lane.Fresh.grdTake {l : Lane} (h : l.Fresh) : l.grdTake.Fresh := h.within ((Within.refl (ps := [.net]) l).grdTake)

theorem Lane.Fresh.mailbox {l : Lane} (h : l.Fresh) (mb : Mb) : Lane.Fresh { l with mb := mb } := h.within (ps := []) (.upd (.refl l))

/-- The values of an image of a lane that no self-test uses. -/
theorem Lane.Fresh.withImage {l : Lane} (h : l.Fresh) (x : CfgImage) (vs : List PVal) : (((vs.foldl (fun y v => l.valueHook y v) (l.withImage x)).estimate).tellMerged false).grdTake.Fresh := by
  have given : (l.withImage x).Fresh := h.within ((Within.refl (ps := [.params, .held, .slots]) l).withImage x)
  have start : (l.withImage x).Steady (l.withImage x) := by
    obtain ⟨-, test, run⟩ := given
    exact ⟨.refl _, test, run, test⟩
  have taken : (l.withImage x).Steady (vs.foldl (fun y v => l.valueHook y v) (l.withImage x)) :=
    List.foldlRecOn (motive := (l.withImage x).Steady) vs _ start fun y hy v _ => hy.valueHook l v
  exact ((given.steady (taken.step ((Within.refl _).estimate) (Lane.estimate_test _))).within ((Within.refl (ps := [.held]) _).tellMerged false)).grdTake

theorem Lane.Fresh.applyImage {l : Lane} (h : l.Fresh) : l.applyImage.Fresh :=
  (Lane.Fresh.withImage (h.within ((Within.refl (ps := [.params, .held, .slots, .boot]) l).imageJudge)) _ _).mailbox _

theorem Lane.Fresh.aonLog {l : Lane} (h : l.Fresh) : l.aonLog.Fresh := by
  unfold Lane.aonLog
  extract_lets m
  have logged : m.Fresh := by
    refine List.foldlRecOn (motive := Lane.Fresh) _ _ h fun n hn e _ => ?_
    split
    · exact hn.within (ps := []) (.upd (.refl n))
    · exact hn
  clear_value m
  exact logged.within (ps := [.pwr]) (.upd (.refl m))

theorem Lane.Fresh.bistStore {l : Lane} (h : l.Fresh) (r : BistRec) : (l.bistStore r).Fresh := by
  refine h.tests ((Within.refl (ps := [.mram, .bist]) l).bistStore r) ?_
  unfold Lane.bistStore
  dsimp only
  split
  · rfl
  · rfl

theorem Lane.Fresh.latchRecord {l : Lane} (h : l.Fresh) : l.latchRecord.Fresh := by
  unfold Lane.latchRecord
  split
  · exact h
  next sig count status boot _ =>
    extract_lets r _ m n
    have stored : m.Fresh := (h.tests (ps := [.bist]) (m := { l with bist := { l.bist with latch := none } }) (.upd (.refl l)) rfl).bistStore r
    clear_value m
    exact (stored.event ..).within (ps := []) (.upd (.refl n))

/-- A plan for the checks of a start says nothing about a self-test that runs. -/
theorem Lane.Fresh.plan {l : Lane} (h : l.Fresh) (plan : Nat) (retest : List Nat) (bad : Option (Nat × Nat)) : Lane.Fresh { l with bist := { l.bist with plan := plan, retest := retest, bad := bad } } :=
  h.tests (ps := [.bist]) (.upd (.refl l)) rfl

theorem Lane.Fresh.ite {l m : Lane} {c : Prop} {_ : Decidable c} (h : l.Fresh) (k : m.Fresh) : Lane.Fresh (if c then l else m) := by
  split <;> assumption

theorem Lane.Fresh.startPlan {l : Lane} (h : l.Fresh) : l.startPlan.Fresh := by
  unfold Lane.startPlan
  extract_lets stale
  have told : stale.Fresh := h.event ..
  clear_value stale
  split
  · exact told.plan ..
  · refine (h.plan ..).ite ?_
    split
    · exact told.plan ..
    · exact (h.plan ..).ite (told.plan ..)

theorem Lane.enterCheck_starts (l : Lane) (limp : l.st ≠ .limp) : l.enterCheck.st = .check ∧ l.enterCheck.boot.pu = l.boot.pu ∧ l.enterCheck.params = l.params := by
  obtain ⟨m, enters, st, pu, params⟩ : ∃ m : Lane, l.enterCheck = (if m.st == .limp then m else m.setSt .check) ∧ m.st = l.st ∧ m.boot.pu = l.boot.pu ∧ m.params = l.params := ⟨_, rfl, rfl, rfl, rfl⟩
  have check : (if m.st == .limp then m else m.setSt .check) = m.setSt .check := if_neg (by simpa [st] using limp)
  have set : Within [.st] m (m.setSt .check) := (Within.refl m).setSt _
  rw [enters, check, set.boot_eq, set.params_eq]
  exact ⟨Lane.setSt_st .., pu, params⟩

/-- What a lane that enters CHECK comes to. -/
theorem Lane.enterCheck_enters (l : Lane) (fresh : l.Fresh) : l.enterCheck.st = .check ∧ l.enterCheck.pwr.step = .checks ∧ l.enterCheck.boot.wdAt = none ∧ l.enterCheck.boot.bootFails = 0 ∧ l.enterCheck.Fresh := by
  obtain ⟨limp, test, run⟩ := fresh
  obtain ⟨m, enters, st, gd, bist, step, wdAt, fails⟩ : ∃ m : Lane, l.enterCheck = (if m.st == .limp then m else m.setSt .check) ∧ m.st = l.st ∧ m.gd = l.gd ∧ m.bist = l.bist ∧ m.pwr.step = .checks ∧
      m.boot.wdAt = none ∧ m.boot.bootFails = 0 := ⟨_, rfl, rfl, rfl, rfl, rfl, rfl, rfl⟩
  have check : (if m.st == .limp then m else m.setSt .check) = m.setSt .check := if_neg (by simpa [st] using limp)
  have set : Within [.st] m (m.setSt .check) := (Within.refl m).setSt _
  have st' : (m.setSt .check).st = .check := Lane.setSt_st ..
  unfold Lane.Fresh
  rw [enters, check, set.pwr_eq, set.boot_eq, set.gd_eq, set.bist_eq, st', gd, bist]
  exact ⟨rfl, step, wdAt, fails, by decide, test, run⟩

theorem Lane.firmwareStart_checks (l : Lane) (boot : l.st = .boot) (step : l.pwr.step = .firmware) (run : l.bist.run = none) (test : l.gd.test = none) : ∀ m, l.firmwareStart = m →
    m.st = .check ∧ m.pwr.step = .checks ∧ m.boot.wdAt = none ∧ m.boot.bootFails = 0 := by
  intro m ends
  have fresh : l.Fresh := ⟨by rw [boot]; decide, test, run⟩
  have planned : l.applyImage.tabsLoad.aonLog.latchRecord.startPlan.Fresh :=
    (fresh.applyImage.within ((Within.refl (ps := [.mot]) l.applyImage).tabsLoad)).aonLog.latchRecord.startPlan
  unfold Lane.firmwareStart at ends
  rw [Lane.bootAt, boot, step] at ends
  generalize l.applyImage.tabsLoad.aonLog.latchRecord.startPlan = n at ends planned
  obtain ⟨st, step', wdAt, fails, limp, test', run'⟩ := (if n.boot.split then n.event 0xE109 0 else n).enterCheck_enters ((planned.event ..).ite planned)
  change Lane.pinsIn { (if n.boot.split then n.event 0xE109 0 else n).enterCheck with pwr := { (if n.boot.split then n.event 0xE109 0 else n).enterCheck.pwr with
    restore := (if n.boot.split then n.event 0xE109 0 else n).enterCheck.chrysPick } } = m at ends
  generalize (if n.boot.split then n.event 0xE109 0 else n).enterCheck = k at ends st step' wdAt fails limp test' run'
  have steady : Lane.Steady { k with pwr := { k.pwr with restore := k.chrysPick } } (Lane.pinsIn { k with pwr := { k.pwr with restore := k.chrysPick } }) :=
    Lane.Steady.pinsIn ⟨.refl _, test', run', test'⟩
  obtain ⟨parts, -, -, -⟩ := steady
  rw [← ends, parts.st_eq, parts.pwr_eq, parts.boot_eq]
  exact ⟨st, step', wdAt, fails⟩

/-! ### The comparator test -/

/-- FAILSILENT ends a self-test and leaves the latches of the comparator test. -/
theorem Lane.failSilent_bist (l : Lane) (cause : Nat) (first : l.st ≠ .failSilent) : (l.failSilent cause).bist = { l.bist with run := none } := by
  obtain ⟨m, enters, bist⟩ : ∃ m : Lane, l.failSilent cause = ((m.setSt .failSilent).logSilent.withdraw 11 cause).allOff.cellFollow ∧ m.bist = { l.stepDown.bist with run := none } := by
    unfold Lane.failSilent
    rw [if_neg (by simpa using first)]
    exact ⟨_, rfl, rfl⟩
  have out : Within [.st, .link, .slots, .mp, .fn] m ((m.setSt .failSilent).logSilent.withdraw 11 cause).allOff.cellFollow :=
    (((((Within.refl m).setSt _).logSilent).withdraw ..).allOff).cellFollow
  rw [enters, out.bist_eq, bist, ((Within.refl (ps := [.red]) l).stepDown).bist_eq]

section
variable (l : Lane)

theorem Lane.comparatorEnd_passes (sig : W32) (boot : l.st = .boot) (step : l.pwr.step = .comparator) (cold : l.pwr.warm = false) :
    l.comparatorEnd sig 2496 true = { l with mem := { l.mem with lsCount := 2496, lsPass := true }, bist := { l.bist with cmp := { sig := sig, count := 2496, status := 1 } }, pwr := { l.pwr with step := .image, stepAt := l.now } } := by
  unfold Lane.comparatorEnd
  rw [Lane.bootAt, boot, step, cold]
  rfl

theorem Lane.comparatorBad_fails (sig : W32) (n st : Nat) : ∃ k : Lane, l.comparatorBad sig n st = k.failSilent 1 ∧ k.st = l.st ∧ k.bist.latch = some (sig, n, st, l.pwr.boot) :=
  ⟨_, rfl, rfl, rfl⟩

theorem Lane.comparatorEnd_fails (sig : W32) (n : Nat) (boot : l.st = .boot) (step : l.pwr.step = .comparator) (cold : l.pwr.warm = false) (short : n < 2496) : ∀ m, l.comparatorEnd sig n true = m →
    m.st = .failSilent ∧ m.bist.latch = some (sig, n, 3, l.pwr.boot) := by
  intro m ends
  have status : sectionStatus 2496 n true = 3 := by
    unfold sectionStatus
    rw [if_neg (by simp; omega), if_neg (by simp; omega)]
  have bad : l.comparatorEnd sig n true =
      Lane.comparatorBad { l with mem := { l.mem with lsCount := n, lsPass := false }, bist := { l.bist with cmp := { sig := sig, count := n, status := 3 } } } sig n 3 := by
    have open_ : (!l.bootAt .comparator || l.pwr.warm) = false := by
      rw [Lane.bootAt, boot, step, cold]
      rfl
    unfold Lane.comparatorEnd
    simp only [open_, status, Bool.false_eq_true, if_false, Nat.reduceBEq]
  obtain ⟨k, fails, st, latch⟩ := Lane.comparatorBad_fails { l with mem := { l.mem with lsCount := n, lsPass := false }, bist := { l.bist with cmp := { sig := sig, count := n, status := 3 } } } sig n 3
  rw [← bad] at fails
  have first : k.st ≠ .failSilent := by
    rw [st, boot]
    decide
  rw [← ends, fails, k.failSilent_bist 1 first]
  exact ⟨(k.failSilent_enters 1 first).1, latch⟩

/-! ### The images -/

theorem Lane.cfgChoice_boot (cfg : CfgImage) : ∀ m, l.cfgChoice cfg = m → m.boot.running = l.boot.running ∧ m.boot.otp = l.boot.otp := by
  have told : Within [] l (l.badRecs.foldl (fun l k => l.event 0x1111 k) l) := (Within.refl l).foldl _ fun _ _ hm => hm.event ..
  have events (m : Lane) (code arg : Nat) : (m.event code arg).boot = m.boot := ((Within.refl (ps := []) m).event code arg).boot_eq
  intro m ends
  unfold Lane.cfgChoice at ends
  generalize l.badRecs.foldl (fun l k => l.event 0x1111 k) l = n at told ends
  rw [← told.boot_eq]
  extract_lets n g found at ends
  clear_value found
  cases found with
  | some k =>
    subst ends
    exact ⟨rfl, rfl⟩
  | none =>
    dsimp only at ends
    rw [← ends, events]
    exact ⟨rfl, rfl⟩

/-- Without a trial or a swap, the chosen slot whose image is good starts. -/
theorem Lane.slotChoice_chosen (k : Nat) (trial : l.boot.trial = false) (swap : l.boot.swap = none) (fails : l.boot.bootFails < 3) (chosen : k = (if bit l.bootOpt 2 = true then 0 else l.boot.chosen))
    (good : l.fwOk k = true) : l.moltRecord.slotChoice = (l, some k) := by
  have record : l.moltRecord = l := by
    unfold Lane.moltRecord
    simp only [trial, Bool.false_and, Bool.false_eq_true, if_false, swap]
  rw [record]
  unfold Lane.slotChoice
  simp only [← chosen, good, fails, decide_true, Bool.and_self, if_true]

theorem Lane.imageVerify_runs (cfg : CfgImage) (k : Nat) (boot : l.st = .boot) (step : l.pwr.step = .image) (choice : l.moltRecord.slotChoice = (l, some k)) : ∀ m, l.imageVerify cfg = m →
    m.boot.running = k ∧ m.pwr.step = .handover ∧ m.st = .boot ∧ m.boot.otp = l.boot.otp := by
  intro m ends
  have open_ : (!l.bootAt .image) = false := by
    rw [Lane.bootAt, boot, step]
    rfl
  unfold Lane.imageVerify at ends
  rw [open_, choice] at ends
  obtain ⟨n, runs, running, otp, st⟩ : ∃ n : Lane, (n.cfgChoice cfg).bootGo .handover = m ∧ n.boot.running = k ∧ n.boot.otp = l.boot.otp ∧ n.st = .boot := ⟨_, ends, rfl, rfl, boot⟩
  have kept := n.cfgChoice_boot cfg
  have parts : Within [.mram, .boot] n (n.cfgChoice cfg) := (Within.refl n).cfgChoice cfg
  generalize n.cfgChoice cfg = c at runs kept parts
  obtain ⟨running', otp'⟩ := kept c rfl
  rw [← runs]
  exact ⟨running'.trans running, rfl, parts.st_eq.trans st, otp'.trans otp⟩

theorem Lane.handover_locks (boot : l.st = .boot) (step : l.pwr.step = .handover) : ∀ m, l.handover = m →
    m.boot.pu.lock = true ∧ m.boot.pu.lcs = l.boot.life ∧ m.boot.wdAt = some l.now ∧ m.pwr.step = .firmware ∧ (l.boot.life = 2 → m.boot.split = false ∧ m.boot.pu.debugEn = false) ∧ m.boot.otp = l.boot.otp := by
  intro m ends
  have go : l.handover = Lane.bootGo { l.puWrite with boot.wdAt := some l.puWrite.now, boot.trialAt := if l.puWrite.boot.trial then some l.puWrite.now else none } .firmware := by
    refine if_neg ?_
    rw [Lane.bootAt, boot, step]
    decide
  rw [← ends, go]
  refine ⟨rfl, rfl, rfl, rfl, fun life => ?_, rfl⟩
  have shut : (l.boot.life == 1 || l.boot.life == 3) = false := by
    rw [life]
    rfl
  show ((l.boot.life == 1 || l.boot.life == 3) && _) = false ∧ (_ && (l.boot.life == 1 || l.boot.life == 3)) = false
  rw [shut]
  exact ⟨rfl, Bool.and_false _⟩

/-! ### The end of the checks -/

/-- The restoration of the Chrysalis image leaves the steps of the wake. -/
theorem Lane.chrysBase_pwr : ∃ c, l.chrysBase.pwr = { l.pwr with restore := c } := by
  have used : l.chrysUsed.pwr = l.pwr := ((Within.refl (ps := [.mram]) l).chrysUsed).pwr_eq
  unfold Lane.chrysBase
  split
  · exact ⟨l.pwr.restore, rfl⟩
  next c _ =>
    split
    · exact ⟨l.pwr.restore, rfl⟩
    · generalize l.chrysUsed = m at used
      extract_lets _ _ _ n
      have parts : Within [.halfBridges, .pwm, .channels] n ((n.each 14 (fun i m => m.tripBack i (c.trips.getD i 0))).each 16 (fun k m => m.vdsBack k (c.vds.getD k 0))) :=
        (Within.each (.refl n) 14 fun _ _ hx => hx.tripBack ..).each 16 fun _ _ hx => hx.vdsBack ..
      exact ⟨some { c with magic := false }, parts.pwr_eq.trans (congrArg (fun p : Pwr => { p with restore := some { c with magic := false } }) used)⟩

/-- SYNC keeps the steps of the wake. -/
theorem Lane.enterSync_pwr : ∃ p k, l.enterSync.pwr = { l.pwr with pstate := p, runKey := k } := by
  have set : (if l.st == .limp then l else l.setSt .sync).pwr = l.pwr := by
    split
    · rfl
    · exact ((Within.refl (ps := [.st]) l).setSt _).pwr_eq
  unfold Lane.enterSync
  generalize (if l.st == .limp then l else l.setSt .sync) = n at set
  rw [← set]
  extract_lets n key _ _ _ m
  have rest : Within [.held, .slots, .mp, .fn, .net] m (((m.takeSafeAll.cellFollow).netEnter).completeOpt key stDone) := ((((Within.refl m).takeSafeAll).cellFollow).netEnter).completeOpt ..
  exact ⟨_, _, rest.pwr_eq⟩

theorem Lane.startDone_syncs (limp : l.st ≠ .limp) (waiting : l.pwr.waiting = none) : l.startDone.st = .sync ∧ l.startDone.pwr.step = .done := by
  obtain ⟨p, k, sync⟩ := Lane.enterSync_pwr { l with pwr.step := .done }
  have st := Lane.enterSync_st { l with pwr.step := .done } limp
  unfold Lane.startDone
  generalize Lane.enterSync { l with pwr.step := .done } = m at sync st
  obtain ⟨c, base⟩ := m.chrysBase_pwr
  have parts : Within [.halfBridges, .pwm, .channels, .pwr, .mram] m m.chrysBase := (Within.refl m).chrysBase
  rw [sync] at base
  have none_ : m.chrysBase.requestWaiting = m.chrysBase := by
    unfold Lane.requestWaiting
    rw [base, waiting]
  rw [none_, parts.st_eq, base]
  exact ⟨st, rfl⟩

theorem Lane.quickRecord_leaves : l.quickRecord.st = l.st ∧ l.quickRecord.pwr = l.pwr := by
  have parts : Within [.mram, .bist] l l.quickRecord := (Within.refl l).quickRecord
  exact ⟨parts.st_eq, parts.pwr_eq⟩

theorem Lane.checksEnd_judges (c : Checks) (st : l.st = .check) (step : l.pwr.step = .checks) (run : l.bist.run = none) :
    l.checksEnd c = (let q := l.quickChecks c
      if !q.2 then q.1.quickRecord.failSilent 1
      else match q.1.bist.bad with
        | some (s, st) => (({ q.1.quickRecord with bist.bad := none }).event (0xD100 + st) s).failSilent 1
        | none =>
          if q.1.bist.plan == 2 then q.1.bistBegin 2 (startSections ++ q.1.bist.retest) (0 :: (startSections ++ q.1.bist.retest)) none q.1.bist.cmp
          else if q.1.pwr.warm then { q.1 with pwr.step := .done, pwr.warm := false }.requestWaiting
          else q.1.quickRecord.startDone) := by
  have open_ : (l.pwr.step != .checks || l.st == .failSilent || l.st == .save) = false := by
    rw [step, st]
    rfl
  unfold Lane.checksEnd
  rw [open_, run]
  rfl

theorem Lane.checksEnd_fails (c : Checks) (st : l.st = .check) (step : l.pwr.step = .checks) (run : l.bist.run = none) (fail : (l.quickChecks c).2 = false) :
    l.checksEnd c = (l.quickChecks c).1.quickRecord.failSilent 1 := by
  rw [l.checksEnd_judges c st step run]
  exact if_pos (by rw [fail]; rfl)

theorem Lane.checksEnd_passes (c : Checks) (st : l.st = .check) (step : l.pwr.step = .checks) (run : l.bist.run = none) (pass : (l.quickChecks c).2 = true) (bad : (l.quickChecks c).1.bist.bad = none)
    (plan : (l.quickChecks c).1.bist.plan = 1) (cold : (l.quickChecks c).1.pwr.warm = false) : l.checksEnd c = (l.quickChecks c).1.quickRecord.startDone := by
  rw [l.checksEnd_judges c st step run]
  generalize l.quickChecks c = q at pass bad plan cold
  dsimp only
  rw [pass, bad, plan, cold]
  rfl

/-! ### The end of a warm wake, and the watchdog -/

theorem Lane.wakeBegin_boot : ∃ pu, l.wakeBegin.boot = { l.boot with pu := pu } := by
  have set : (l.setSt .waking).boot = l.boot := ((Within.refl (ps := [.st]) l).setSt _).boot_eq
  unfold Lane.wakeBegin Lane.regStart
  generalize l.setSt .waking = n at set
  rw [← set]
  by_cases high : 9000 ≤ n.pwr.vsup
  · exact ⟨_, (congrArg Lane.boot (if_pos high) :)⟩
  · exact ⟨_, (congrArg Lane.boot (if_neg high) :)⟩

theorem Lane.restart_boots : ∀ m, l.restart = m → m.st = .waking ∧ m.boot.bootFails = l.boot.bootFails ∧ m.pwr.boot = l.pwr.boot + 1 ∧ m.pwr.warm = false := by
  intro m ends
  obtain ⟨n, starts, boot, fails, warm⟩ : ∃ n : Lane, l.restart = n.wakeBegin.cellFollow ∧ n.pwr.boot = l.pwr.boot + 1 ∧ n.boot.bootFails = l.boot.bootFails ∧ n.pwr.warm = false := ⟨_, rfl, rfl, rfl, rfl⟩
  have follow : Within [.fn] n.wakeBegin n.wakeBegin.cellFollow := (Within.refl _).cellFollow
  obtain ⟨t, r, g, h, pwr⟩ := n.wakeBegin_pwr
  obtain ⟨pu, boots⟩ := n.wakeBegin_boot
  rw [← ends, starts, follow.st_eq, follow.pwr_eq, follow.boot_eq, n.wakeBegin_st, pwr, boots]
  exact ⟨rfl, fails, boot, warm⟩

theorem Lane.retentionEnd_restarts (ok cmpOk : Bool) (boot : l.st = .boot) (step : l.pwr.step = .comparator) (warm : l.pwr.warm = true) (lost : ok = false ∨ l.imageKept = false) :
    l.retentionEnd ok cmpOk = l.restart := by
  have open_ : (!l.bootAt .comparator || !l.pwr.warm) = false := by
    rw [Lane.bootAt, boot, step, warm]
    rfl
  have lost' : (!ok || !l.imageKept) = true := by
    obtain lost | lost := lost
    · rw [lost]; rfl
    · rw [lost]; exact Bool.or_true _
  unfold Lane.retentionEnd
  rw [open_, lost']
  rfl

theorem Lane.retentionEnd_syncs (boot : l.st = .boot) (step : l.pwr.step = .comparator) (warm : l.pwr.warm = true) (kept : l.imageKept = true) : ∀ m, l.retentionEnd true true = m →
    m.st = .sync ∧ m.boot.pu.lock = true ∧ m.bist.plan = 1 ∧ m.params = l.params := by
  have open_ : (!l.bootAt .comparator || !l.pwr.warm) = false := by
    rw [Lane.bootAt, boot, step, warm]
    rfl
  have lost : (!true || !l.imageKept) = false := by
    rw [kept]
    rfl
  intro m ends
  unfold Lane.retentionEnd at ends
  rw [open_, lost] at ends
  have lock : l.puWrite.boot.pu.lock = true := rfl
  have limp : l.puWrite.st ≠ .limp := by
    show l.st ≠ .limp
    rw [boot]
    decide
  have params : l.puWrite.params = l.params := rfl
  change Lane.enterSync { l.puWrite.enterCheck with
    bist := { l.puWrite.enterCheck.bist with plan := 1, retest := [], bad := l.puWrite.enterCheck.sleepBad }, mem := { l.puWrite.enterCheck.mem with lsCount := 2496, lsPass := true } } = m at ends
  generalize l.puWrite = n at ends lock limp params
  obtain ⟨st, pu, params'⟩ := n.enterCheck_starts limp
  generalize n.enterCheck = k at ends st pu params'
  have sync := Lane.enterSync_st { k with bist := { k.bist with plan := 1, retest := [], bad := k.sleepBad }, mem := { k.mem with lsCount := 2496, lsPass := true } } (by rw [st]; decide)
  have parts : Within [.st, .held, .slots, .mp, .fn, .red, .net, .pwr] { k with bist := { k.bist with plan := 1, retest := [], bad := k.sleepBad }, mem := { k.mem with lsCount := 2496, lsPass := true } } m := by
    rw [← ends]
    exact (Within.refl _).enterSync
  rw [ends] at sync
  rw [parts.boot_eq, parts.bist_eq, parts.params_eq]
  exact ⟨sync, (congrArg Pu.lock pu :).trans lock, rfl, params'.trans params⟩

theorem Lane.bootWatchdog_restarts (t : Nat) (dog : l.boot.wdAt = some t) (due : t + ms 50 ≤ l.now) (step : l.pwr.step = .firmware) : ∀ m, l.bootWatchdog = m →
    m.st = .waking ∧ m.boot.bootFails = l.boot.bootFails + 1 ∧ m.pwr.boot = l.pwr.boot + 1 := by
  intro m ends
  have barks : l.bootWatchdog = Lane.restart { l with boot.bootFails := l.boot.bootFails + 1, boot.trialBad := l.boot.trialBad || l.boot.trial } := by
    have now_ : (l.due (t + ms 50) && l.pwr.step == .firmware) = true := by
      rw [Lane.due, decide_eq_true due, step]
      rfl
    unfold Lane.bootWatchdog
    rw [dog]
    exact if_pos now_
  obtain ⟨st, fails, starts, -⟩ := Lane.restart_boots { l with boot.bootFails := l.boot.bootFails + 1, boot.trialBad := l.boot.trialBad || l.boot.trial } m (barks.symm.trans ends)
  exact ⟨st, fails, starts⟩

theorem Lane.trialTimeout_fails (t : Nat) (trial : l.boot.trial = true) (at_ : l.boot.trialAt = some t) (due : l.due (t + sec 30) = true) :
    l.trialTimeout = { l with boot := { l.boot with trialBad := true, trialAt := none } } := by
  unfold Lane.trialTimeout
  rw [at_]
  exact if_pos (by rw [trial, due]; rfl)

end

/-! ### The statement -/

/-- Settles O52. -/
theorem bootSteps : Obligations.BootSteps := by
  unfold Obligations.BootSteps
  intro s a sig n k t ok kept cfg c l
  refine ⟨fun boot step cold => ⟨?_, fun short => ?_⟩, fun boot step trial swap fails chosen good => ?_, fun boot step => ?_, fun boot step run test => ?_, ?_, fun boot step warm => ⟨fun whole => ?_, fun lost => ?_⟩,
    fun dog due step => ?_, fun trial at_ due => ?_⟩
  · exact next_of_eq (f := fun l => l.comparatorEnd sig 2496 true) rfl rfl (l.comparatorEnd_passes sig boot step cold) ⟨rfl, rfl, rfl, rfl, boot⟩
  · have ends_ := l.comparatorEnd_fails sig n boot step cold short
    generalize ends : l.comparatorEnd sig n true = m at ends_
    exact next_of_eq rfl rfl ends (ends_ m rfl)
  · have runs := l.imageVerify_runs cfg k boot step (l.slotChoice_chosen k trial swap fails chosen good)
    generalize ends : l.imageVerify cfg = m at runs
    exact next_of_eq rfl rfl ends (runs m rfl)
  · have locks := l.handover_locks boot step
    have parts : Within [.pwr, .boot] l l.handover := (Within.refl l).handover
    generalize ends : l.handover = m at locks parts
    obtain ⟨lock, lcs, dog, firmware, closed, otp⟩ := locks m rfl
    exact next_of_eq rfl rfl ends ⟨lock, lcs, dog, firmware, closed, otp, (parts.wired a.lane :)⟩
  · have checks := l.firmwareStart_checks boot step run test
    generalize ends : l.firmwareStart = m at checks
    exact next_of_eq rfl rfl ends (checks m rfl)
  · intro q st step run check
    refine ⟨fun pass bad plan cold waiting => ?_, fun fail => ?_⟩
    · have ends_ := l.checksEnd_passes c st step run pass bad plan cold
      obtain ⟨st', pwr⟩ := q.1.quickRecord_leaves
      have syncs := q.1.quickRecord.startDone_syncs (by rw [st', check]; decide) (by rw [pwr]; exact waiting)
      generalize q.1.quickRecord.startDone = m at ends_ syncs
      exact next_of_eq rfl rfl ends_ syncs
    · have ends_ := l.checksEnd_fails c st step run fail
      obtain ⟨st', -⟩ := q.1.quickRecord_leaves
      obtain ⟨silent, -⟩ := q.1.quickRecord.failSilent_enters 1 (by rw [st', check]; decide)
      generalize q.1.quickRecord.failSilent 1 = m at ends_ silent
      exact next_of_eq rfl rfl ends_ ⟨silent, congrArg LaneSt.driving silent⟩
  · have syncs := l.retentionEnd_syncs boot step warm whole
    generalize ends : l.retentionEnd true true = m at syncs
    exact next_of_eq rfl rfl ends (syncs m rfl)
  · have boots := l.restart_boots
    have restarts := l.retentionEnd_restarts kept ok boot step warm lost
    generalize l.restart = m at boots restarts
    obtain ⟨st, -, starts, cold⟩ := boots m rfl
    exact next_of_eq rfl rfl restarts ⟨st, starts, cold⟩
  · have barks := l.bootWatchdog_restarts t dog due step
    generalize ends : l.bootWatchdog = m at barks
    exact next_of_eq rfl rfl ends (barks m rfl)
  · exact next_of_eq rfl rfl (l.trialTimeout_fails t trial at_ (decide_eq_true due)) (reports_wired _ a.lane)

end Sys2Proof.Machine
end

section
/-! Requests for a power state and their entries (R404, R406 to R409). -/

namespace Sys2Proof.Machine

set_option Elab.async false

/-! ### Requests -/

section
variable (l : Lane) (m : Msg)

/-- A request where no entry is in progress. -/
theorem Lane.hPwrRequest_free (entry : l.pwr.entry = none) (known : m.u8 0 ≤ 4) :
    l.hPwrRequest m = if m.u8 0 = 0 then done l.idleToRun else if m.u8 0 = 1 ∧ l.pwr.pstate = 1 then done l else match l.refuserOf (m.u8 0) with
      | some c => (l.refused c 0 false, .now stRefusedState [])
      | none => ((accept l (m.key 0x80)).1.requestNew (m.u8 0) (some (m.key 0x80)), .now stAccepted []) := by
  unfold Lane.hPwrRequest
  simp only [Nat.not_lt.mpr known, if_false, entry, beq_iff_eq, Bool.and_eq_true]
  rfl

theorem Lane.hPwrRequest_enters (entry : l.pwr.entry = none) (least : 2 ≤ m.u8 0) (most : m.u8 0 ≤ 4) (free : l.refuserOf (m.u8 0) = none) :
    l.hPwrRequest m = ({ l.releaseIds [0xC100, 0xC101, 0xD100, 0xD101] with
      mb := { l.mb with accepted := l.mb.accepted ++ [m.key 0x80] }, pwr := { l.pwr with entry := some { target := m.u8 0, step := .withdraw, key := some (m.key 0x80), startAt := l.now } } }, .now stAccepted []) := by
  rw [l.hPwrRequest_free m entry most, if_neg (by omega), if_neg (by omega), free]
  have deep : (m.u8 0 == 1) = false := beq_eq_false_iff_ne.mpr (by omega)
  unfold Lane.requestNew
  simp only [deep, Bool.false_eq_true, if_false]
  rfl

theorem Lane.hPwrRequest_refuses {c : Nat} (entry : l.pwr.entry = none) (least : 1 ≤ m.u8 0) (most : m.u8 0 ≤ 4) (awake : m.u8 0 = 1 → l.pwr.pstate ≠ 1) (refuser : l.refuserOf (m.u8 0) = some c) :
    l.hPwrRequest m = (l.refused c 0 false, .now stRefusedState []) := by
  rw [l.hPwrRequest_free m entry most, if_neg (by omega), if_neg (fun ⟨idle, asleep⟩ => awake idle asleep), refuser]

theorem Lane.refused_reports (c src : Nat) (abort : Bool) : ∃ xs, Reports { l with pwr := { l.pwr with refuser := c, counters := xs } } (l.refused c src abort) ∧ (l.refused c src abort).pwr.counters = xs := by
  refine ⟨_, (Within.refl (ps := []) _).event _ _, ?_⟩
  exact (congrArg Pwr.counters ((Within.refl (ps := []) _).event _ _).pwr_eq :)

theorem Lane.hPwrRequest_idles (entry : l.pwr.entry = none) (idle : m.u8 0 = 1) (awake : l.pwr.pstate ≠ 1) (free : l.refuserOf 1 = none) :
    l.hPwrRequest m = ((accept l (m.key 0x80)).1.requestNew 1 (some (m.key 0x80)), .now stAccepted []) := by
  rw [l.hPwrRequest_free m entry (by omega), if_neg (by omega), if_neg (fun ⟨_, asleep⟩ => awake asleep), idle, free]

/-- IDLE at once: the sessions close. -/
theorem Lane.requestNew_idle (key : CmdKey) : ∀ n, l.requestNew 1 (some key) = n →
    n.pwr.pstate = 1 ∧ (∀ x ∈ n.mb.ses, x.level = 0) ∧ Reports { l.releaseIds [0xC100, 0xC101, 0xD100, 0xD101] with pwr := { l.pwr with pstate := 1, gateAt := none } } n := by
  intro n ends
  obtain ⟨k, idles, pwr, ses, parts⟩ : ∃ k : Lane, l.requestNew 1 (some key) = k.complete key stDone ∧ k.pwr.pstate = 1 ∧ (∀ x ∈ k.mb.ses, x.level = 0) ∧
      Within [] { l.releaseIds [0xC100, 0xC101, 0xD100, 0xD101] with pwr := { l.pwr with pstate := 1, gateAt := none } } k := by
    refine ⟨_, rfl, rfl, fun x known => ?_, rfl⟩
    obtain ⟨y, -, rfl⟩ := List.mem_map.mp known
    rfl
  have kept : Within [] k (k.complete key stDone) := (Within.refl k).complete ..
  obtain ⟨same, -⟩ := (Lane.Ends.refl k).complete key stDone
  rw [← ends, idles, kept.pwr_eq, same]
  exact ⟨pwr, ses, parts.trans kept⟩

end

/-! ### Entries -/

section
variable (l : Lane)

/-- What writes the records of the log leaves the SRAM and the images alone. -/
def Lane.Logs (l m : Lane) : Prop := Within [.mem] l m ∧ m.mem.sram = l.mem.sram

theorem Lane.Logs.trans {l m n : Lane} (h : l.Logs m) (k : m.Logs n) : l.Logs n := by
  obtain ⟨parts, sram⟩ := h
  obtain ⟨parts', sram'⟩ := k
  exact ⟨parts.trans parts', sram'.trans sram⟩

theorem Lane.logRoom_logs : l.logRoom.mem.sram = l.mem.sram := by
  have mode : l.logRingMode.mem.sram = l.mem.sram := by
    unfold Lane.logRingMode
    split
    · rfl
    · exact (congrArg Mem.sram ((Within.refl (ps := []) _).event _ _).mem_eq :)
  unfold Lane.logRoom
  extract_lets old pins ring
  split
  · rfl
  · split
    · rfl
    · split
      · rfl
      · exact mode

theorem Lane.logFlush_logs (n : Nat) : ∀ l : Lane, l.Logs (l.logFlush n) := by
  induction n with
  | zero => exact fun l => ⟨.refl l, rfl⟩
  | succ n ih =>
    intro l
    rw [Lane.logFlush]
    split
    · exact ⟨.refl l, rfl⟩
    next e r _ =>
      extract_lets _ k
      have room : l.Logs k := ⟨Within.logRoom (.upd (.refl l)), Lane.logRoom_logs _⟩
      have put : k.Logs { k with mem := { k.mem with log := k.mem.log ++ [e] } } := ⟨(Within.refl k).upd, rfl⟩
      exact (room.trans put).trans (ih _)

/-- The image of the running slot stands in MRAM. -/
theorem Lane.fwImage_congr {l m : Lane} (boot : m.boot = l.boot) (mram : m.mem.mram = l.mem.mram) : m.fwImage = l.fwImage := by
  unfold Lane.fwImage Lane.imgLen Lane.mramBytes
  rw [boot, mram]

theorem Lane.entryCommit_commits (e : PwrEntry) :
    Within [] { l with pwr := { l.pwr with pstate := 4, e5At := some l.now, entry := some { e with step := .powerDown, startAt := l.now, key := none } } } (l.entryCommit e) := by
  unfold Lane.entryCommit
  extract_lets _ m
  exact (Within.refl m).ite ((Within.refl m).completeOpt ..)

theorem Lane.entryPersistEnd_commits (e : PwrEntry) (entry : l.pwr.entry = some e) (step : e.step = .persist) (runs : l.pwm.halted = false) (run : l.bist.run = none) : ∀ m, l.entryPersistEnd = m →
    m.pwr.pstate = 4 ∧ m.pwr.e5At = some l.now ∧ m.pwr.entry = some { e with step := .powerDown, startAt := l.now, key := none } ∧
      m.net.hwm = (if l.net.known = true then max l.net.hwm l.net.cycle.toNat else l.net.hwm) ∧ (m.mem.retSha, m.mem.retCrc) = (if e.target = 3 then (l.fwSha, some l.fwCrc) else ([], none)) ∧ m.mem.sram = l.mem.sram := by
  intro m ends
  have weevil : l.Logs (if e.target == 2 then l.weevilAbort else l) := by
    refine ⟨((Within.refl l).weevilAbort).ite (.refl l), ?_⟩
    split
    · unfold Lane.weevilAbort
      dsimp only
      split
      · rfl
      · rfl
    · rfl
  have open_ : (e.step == .persist && !l.pwm.halted && l.bist.run.isNone) = true := by
    rw [step, runs, run]
    rfl
  unfold Lane.entryPersistEnd at ends
  rw [entry] at ends
  simp only [open_, if_true] at ends
  generalize (if e.target == 2 then l.weevilAbort else l) = w at ends weevil
  obtain ⟨aborts, sram⟩ := weevil
  obtain ⟨flushes, sram'⟩ : (w.releaseIds [0xB170]).Logs (w.releaseIds [0xB170]).logFlushAll := Lane.logFlush_logs _ _
  have released : Within [.held] w (w.releaseIds [0xB170]) := (Within.refl w).releaseIds _
  have parts : Within [.held, .mem] l (w.releaseIds [0xB170]).logFlushAll := (aborts.mono (by decide)).trans ((released.mono (by decide)).trans (flushes.mono (by decide)))
  replace sram' := sram'.trans sram
  generalize persists : w.persist = p at ends
  obtain ⟨now_, pwr, net, boot, mem⟩ : p.now = (w.releaseIds [0xB170]).logFlushAll.now ∧ p.pwr = (w.releaseIds [0xB170]).logFlushAll.pwr ∧
      p.net.hwm = (if (w.releaseIds [0xB170]).logFlushAll.net.known = true then max (w.releaseIds [0xB170]).logFlushAll.net.hwm (w.releaseIds [0xB170]).logFlushAll.net.cycle.toNat
        else (w.releaseIds [0xB170]).logFlushAll.net.hwm) ∧ p.boot = (w.releaseIds [0xB170]).logFlushAll.boot ∧ p.mem = (w.releaseIds [0xB170]).logFlushAll.mem := by
    rw [← persists]
    exact ⟨rfl, rfl, rfl, rfl, rfl⟩
  generalize (w.releaseIds [0xB170]).logFlushAll = f at parts sram' now_ pwr net boot mem
  rw [parts.net_eq] at net
  have image : p.fwImage = l.fwImage := Lane.fwImage_congr (boot.trans parts.boot_eq) ((congrArg Mem.mram mem :).trans parts.mram_eq)
  have told := (p.retain e.target).entryCommit_commits e
  rw [← ends, told.pwr_eq, told.net_eq, told.mem_eq]
  refine ⟨rfl, ?_, ?_, net, ?_, ?_⟩
  · exact congrArg some (now_.trans parts.now_eq)
  · exact congrArg (fun t => some { e with step := .powerDown, startAt := t, key := none }) (now_.trans parts.now_eq)
  · show ((if e.target == 3 then p.fwSha else []), (if e.target == 3 then some p.fwCrc else none)) = _
    unfold Lane.fwSha Lane.fwCrc
    rw [image]
    by_cases sleep : e.target = 3
    · simp only [sleep, beq_self_eq_true, if_true]
    · simp only [beq_iff_eq, sleep, if_false]
  · exact (congrArg Mem.sram mem :).trans sram'

/-! ### The withdrawal of an entry -/

/-- The lane-safe state of a slot says nothing about the parameters of an entry. -/
theorem Lane.takeSafe_pvals (k : Nat) : (l.takeSafe k).pvals 0xC100 0 = l.pvals 0xC100 0 := by
  have rest (n : Lane) (x : MotSlot) : ((n.stepStand k).setMotor k x).pvals 0xC100 0 = n.pvals 0xC100 0 :=
    Within.pvals_eq (((Within.refl (ps := [.mp, .slots]) n).stepStand k).setMotor k x) 0xC100 0
  unfold Lane.takeSafe
  dsimp only
  split
  · rfl
  · rw [rest]
    split
    · rfl
    · exact l.pvals_releaseOf _ _ _ _ (by decide)

theorem Lane.takeSafeAll_pvals : l.takeSafeAll.pvals 0xC100 0 = l.pvals 0xC100 0 :=
  Lane.eachOf_keeps (fun l => l.pvals 0xC100 0) (List.range 8) _ (fun k l => l.takeSafe_pvals k) l

theorem Lane.stepOut_leaves (limp : l.st ≠ .limp) : ∀ m, l.stepOut = m → m.st = .check ∧ (∀ x ∈ m.mb.ses, x.level = 0) ∧ m.now = l.now ∧ m.p 0xC100 = l.p 0xC100 := by
  intro m ends
  have closed : ∀ x ∈ l.closeAll.mb.ses, x.level = 0 := fun x known => by
    obtain ⟨y, -, rfl⟩ := List.mem_map.mp known
    rfl
  have down : l.closeAll.Ends l.closeAll.stepDown := by
    unfold Lane.stepDown
    split
    · exact ((Lane.Ends.refl l.closeAll).of_mb (m := { l.closeAll with red.auth := 0 }) rfl).told (Lane.eventU_told ..)
    · exact .refl _
  have parts : Within [.red] l l.closeAll.stepDown := ((Within.refl l).closeAll).stepDown
  obtain ⟨n, out, mb, parts'⟩ : ∃ n : Lane, l.stepOut = ((n.setSt .check).withdraw 3 0).takeSafeAll.cellFollow ∧ n.mb = l.closeAll.stepDown.mb ∧ Within [.red] l.closeAll.stepDown n := by
    unfold Lane.stepOut
    dsimp only
    rw [if_neg (show ¬ (l.closeAll.st == .limp) = true from fun e => limp (eq_of_beq e))]
    exact ⟨_, rfl, rfl, (Within.refl _).upd⟩
  obtain ⟨ses, -⟩ := ((((down.of_mb mb).setSt .check).withdraw 3 0).takeSafeAll).cellFollow
  have st : (n.setSt .check).st = .check := Lane.setSt_st ..
  have sent : Within [.link] (n.setSt .check) ((n.setSt .check).withdraw 3 0) := (Within.refl _).withdraw ..
  have set : Within [.st] n (n.setSt .check) := (Within.refl n).setSt _
  have safe : Within [.held, .slots, .mp] ((n.setSt .check).withdraw 3 0) ((n.setSt .check).withdraw 3 0).takeSafeAll := (Within.refl _).takeSafeAll
  have follow : Within [.fn] ((n.setSt .check).withdraw 3 0).takeSafeAll ((n.setSt .check).withdraw 3 0).takeSafeAll.cellFollow := (Within.refl _).cellFollow
  rw [← ends, out]
  refine ⟨?_, by rw [ses]; exact closed, ?_, ?_⟩
  · rw [follow.st_eq, safe.st_eq, sent.st_eq, st]
  · rw [follow.now_eq, safe.now_eq, sent.now_eq, set.now_eq, parts'.now_eq, parts.now_eq]
  · unfold Lane.p
    rw [follow.pvals_eq 0xC100 0, Lane.takeSafeAll_pvals, sent.pvals_eq 0xC100 0, set.pvals_eq 0xC100 0, parts'.pvals_eq 0xC100 0, parts.pvals_eq 0xC100 0]

theorem Lane.entryWithdraw_withdraws (e : PwrEntry) (entry : l.pwr.entry = some e) (runs : l.fwRuns = true) (on_ : l.pwm.halted = false) (swap : l.boot.swapNow = false) (step : e.step = .withdraw)
    (test : l.needsTest e = false) (limp : l.st ≠ .limp) : ∀ m, l.entryWithdraw = m →
    m.st = .check ∧ m.pwr.entry = some { e with step := .persist, startAt := l.now, outAt := if l.mayInsert = true then some l.now else none } ∧ ∀ x ∈ m.mb.ses, x.level = 0 := by
  intro m ends
  obtain ⟨st, ses, now_, sleepTest⟩ := l.stepOut_leaves limp _ rfl
  have first : (e.step == .withdraw) = true := beq_iff_eq.mpr step
  unfold Lane.entryWithdraw at ends
  simp only [runs, on_, swap, entry, first, Bool.not_true, Bool.or_self, Bool.false_eq_true, if_false, if_true] at ends
  generalize l.stepOut = n at ends st ses now_ sleepTest
  have test' : n.needsTest { e with outAt := if l.mayInsert = true then some l.now else none } = false := by
    unfold Lane.needsTest at test ⊢
    rw [sleepTest]
    exact test
  rw [Lane.entryTest, if_neg (by rw [test']; exact Bool.false_ne_true)] at ends
  rw [← ends]
  exact ⟨st, congrArg (fun t => some { e with step := .persist, startAt := t, outAt := if l.mayInsert = true then some l.now else none }) now_, ses⟩

/-! ### The power goes down -/

/-- What a lane that goes off keeps. -/
theorem Lane.goOff_keeps (k : Nat) : ∀ m, l.goOff k = m → m.mem.sram = l.mem.sram ∧ m.params = l.params ∧ m.boot.swap = l.boot.swap := by
  intro m ends
  have parts : Within [.st, .link, .fn, .red, .net, .pwr] l m := by
    rw [← ends]
    exact (Within.refl l).goOff k
  rw [parts.mem_eq, parts.params_eq, parts.boot_eq]
  exact ⟨rfl, rfl, rfl⟩

/-- An entry that ends without a wake or a waiting request. -/
theorem Lane.powerDownEnd_sleeps (e : PwrEntry) (entry : l.pwr.entry = some e) (step : e.step = .powerDown) (waiting : l.pwr.waiting = none) (pend : l.pwr.pend = none) :
    l.powerDownEnd = Lane.sleepIn { l with pwr := { l.pwr with entry := none } } e.target := by
  unfold Lane.powerDownEnd
  simp only [entry, step, bne_self_eq_false, Bool.false_eq_true, if_false, pend, waiting]

theorem Lane.sleepIn_standby : ∃ t r, l.sleepIn 2 = { l.goOff 2 with pwr := { (l.goOff 2).pwr with stepAt := t, regAt := r } } := ⟨_, _, rfl⟩

theorem Lane.sleepIn_sleep : ∃ t r w, l.sleepIn 3 = { l.goOff 3 with pwr := { (l.goOff 3).pwr with stepAt := t, regAt := r }, mem := { (l.goOff 3).mem with sram := [], partials := [], weevil := w } } :=
  ⟨_, _, _, rfl⟩

theorem Lane.sleepIn_off : ∀ m, l.sleepIn 4 = m → m.st = .off ∧ m.pwr.pstate = 7 ∧ m.pwr.aonOn = false ∧ m.pwr.rearmed = false := by
  intro m ends
  have leaves := l.goOff_leaves 7
  unfold Lane.sleepIn at ends
  simp only [beq_self_eq_true, if_true] at ends
  unfold Lane.offByRequest at ends
  generalize l.goOff 7 = n at ends leaves
  obtain ⟨off, pwr, -⟩ := leaves n rfl
  rw [← ends]
  exact ⟨off, (congrArg Pwr.pstate pwr :), rfl, rfl⟩

/-- A wake that was latched meanwhile wins over STANDBY. -/
theorem Lane.powerDownEnd_wakes (e : PwrEntry) (src : Nat) (entry : l.pwr.entry = some e) (step : e.step = .powerDown) (pend : l.pwr.pend = some src)
    (standby : e.target = 2) (swap : l.boot.swap = none) (burned : l.pwr.burned = false) : ∀ m, l.powerDownEnd = m →
    m.st = .waking ∧ m.pwr.wakeSrc = src ∧ m.pwr.warm = true ∧ m.mem.sram = l.mem.sram := by
  intro m ends
  have wakes : l.powerDownEnd = (Lane.warmWake { Lane.sleepIn { l with pwr := { l.pwr with entry := none, waiting := none } } 2 with pwr.pend := none } src).event 0xC10A src := by
    unfold Lane.powerDownEnd
    simp only [entry, step, bne_self_eq_false, Bool.false_eq_true, if_false, pend, standby]
    rfl
  obtain ⟨t, r, sleeps⟩ := Lane.sleepIn_standby { l with pwr := { l.pwr with entry := none, waiting := none } }
  rw [sleeps] at wakes
  have leaves := Lane.goOff_leaves { l with pwr := { l.pwr with entry := none, waiting := none } } 2
  have keeps := Lane.goOff_keeps { l with pwr := { l.pwr with entry := none, waiting := none } } 2
  generalize Lane.goOff { l with pwr := { l.pwr with entry := none, waiting := none } } 2 = n at wakes leaves keeps
  obtain ⟨-, pwr, -⟩ := leaves n rfl
  obtain ⟨sram, -, swap'⟩ := keeps n rfl
  have woken := Lane.warmWake_woken { n with pwr := { n.pwr with stepAt := t, regAt := r, pend := none } } src (swap'.trans swap) ((congrArg Pwr.burned pwr :).trans burned)
  change l.powerDownEnd = (Lane.warmWake { n with pwr := { n.pwr with stepAt := t, regAt := r, pend := none } } src).event 0xC10A src at wakes
  generalize Lane.warmWake { n with pwr := { n.pwr with stepAt := t, regAt := r, pend := none } } src = w at wakes woken
  obtain ⟨st, src', -, warm, -, -, sram', -⟩ := woken w rfl
  have told : Within [] w (w.event 0xC10A src) := (Within.refl w).event ..
  rw [← ends, wakes, told.st_eq, told.pwr_eq, told.mem_eq]
  exact ⟨st, src', warm, sram'.trans sram⟩

end

/-! ### The statement -/

/-- Settles O53. -/
theorem powerEntries : Obligations.PowerEntries := by
  unfold Obligations.PowerEntries
  intro s a m e c src
  refine ⟨?_, ?_⟩
  · intro l t acc taken ready entry
    refine ⟨fun least most free => ?_, fun least most awake refuser => ?_, fun idle awake free => ?_, fun run => ?_⟩
    · exact answers_of rfl ready (l.hPwrRequest_enters m entry least most free) rfl
    · obtain ⟨xs, reports, counters⟩ := l.refused_reports c 0 false
      refine answers_of rfl ready (l.hPwrRequest_refuses m entry least most awake refuser) ?_
      rw [counters]
      exact reports
    · have idles := (accept l (m.key 0x80)).1.requestNew_idle (m.key 0x80)
      have request := l.hPwrRequest_idles m entry idle awake free
      generalize (accept l (m.key 0x80)).1.requestNew 1 (some (m.key 0x80)) = n at idles request
      exact answers_of rfl ready request (idles n rfl)
    · have request := l.hPwrRequest_free m entry (by omega)
      rw [if_pos run] at request
      refine answers_of rfl ready request ?_
      unfold Lane.idleToRun
      by_cases asleep : l.pwr.pstate = 1
      · simp only [asleep, beq_self_eq_true, if_true]
      · simp only [beq_iff_eq, asleep, if_false]
  · intro l entry
    refine ⟨fun runs on_ swap step test limp => ?_, fun step on_ run => ?_, fun step waiting => ⟨fun pend => ⟨fun standby => ?_, fun sleep => ?_, fun off => ?_⟩, fun pend standby swap burned => ?_⟩⟩
    · have leaves := l.entryWithdraw_withdraws e entry runs on_ swap step test limp
      generalize ends : l.entryWithdraw = n at leaves
      obtain ⟨st, next, ses⟩ := leaves n rfl
      exact next_of_eq rfl rfl ends ⟨st, next, ses, congrArg LaneSt.driving st⟩
    · have commits := l.entryPersistEnd_commits e entry step on_ run
      generalize ends : l.entryPersistEnd = n at commits
      exact next_of_eq rfl rfl ends (commits n rfl)
    · obtain ⟨t, r, sleeps⟩ := Lane.sleepIn_standby { l with pwr := { l.pwr with entry := none } }
      have ends := l.powerDownEnd_sleeps e entry step waiting pend
      rw [standby, sleeps] at ends
      have leaves := Lane.goOff_leaves { l with pwr := { l.pwr with entry := none } } 2
      have keeps := Lane.goOff_keeps { l with pwr := { l.pwr with entry := none } } 2
      generalize Lane.goOff { l with pwr := { l.pwr with entry := none } } 2 = n at ends leaves keeps
      obtain ⟨off, pwr, -⟩ := leaves n rfl
      obtain ⟨sram, params, -⟩ := keeps n rfl
      exact next_of_eq (f := fun l => l.powerDownEnd) rfl rfl ends ⟨off, (congrArg Pwr.pstate pwr :), (congrArg Pwr.entry pwr :), sram, params⟩
    · obtain ⟨t, r, w, sleeps⟩ := Lane.sleepIn_sleep { l with pwr := { l.pwr with entry := none } }
      have ends := l.powerDownEnd_sleeps e entry step waiting pend
      rw [sleep, sleeps] at ends
      have leaves := Lane.goOff_leaves { l with pwr := { l.pwr with entry := none } } 3
      have keeps := Lane.goOff_keeps { l with pwr := { l.pwr with entry := none } } 3
      generalize Lane.goOff { l with pwr := { l.pwr with entry := none } } 3 = n at ends leaves keeps
      obtain ⟨off, pwr, -⟩ := leaves n rfl
      obtain ⟨-, params, -⟩ := keeps n rfl
      exact next_of_eq (f := fun l => l.powerDownEnd) rfl rfl ends ⟨off, (congrArg Pwr.pstate pwr :), rfl, params⟩
    · have ends := l.powerDownEnd_sleeps e entry step waiting pend
      have leaves := Lane.sleepIn_off { l with pwr := { l.pwr with entry := none } }
      rw [off] at ends
      generalize Lane.sleepIn { l with pwr := { l.pwr with entry := none } } 4 = n at ends leaves
      exact next_of_eq rfl rfl ends (leaves n rfl)
    · have wakes := l.powerDownEnd_wakes e src entry step pend standby swap burned
      generalize ends : l.powerDownEnd = n at wakes
      exact next_of_eq rfl rfl ends (wakes n rfl)

end Sys2Proof.Machine
end

section
/-! The sections of the self-test (R442, R446, R447, R453). -/

namespace Sys2Proof.Machine

set_option Elab.async false

/-! ### What reports leave of a count -/

section
variable {l m : Lane} (h : Within [.bist] l m) (run : m.bist.run = l.bist.run)
include h

theorem Within.slotOfHb_eq (k : Nat) : m.slotOfHb k = l.slotOfHb k := by
  simp only [Lane.slotOfHb, Lane.motor, h.mot_eq]

theorem Within.extCh_eq (k : Nat) : m.extCh k = l.extCh k := by
  simp only [Lane.extCh, Lane.motor, h.mot_eq, h.p_eq 0x2140]

theorem Within.safeLevel_eq (k : Nat) : m.safeLevel k = l.safeLevel k := by
  simp only [Lane.safeLevel, Lane.covering, Lane.covers, Lane.src, Lane.pch, Lane.safeOf, h.pwm_eq, h.extCh_eq, h.p_eq 0x3132, h.p_eq 0x3133]

include run

theorem Within.gatesOff_eq (k : Nat) : m.gatesOff k = l.gatesOff k := by
  simp only [Lane.gatesOff, Lane.hbHeld, Lane.hb, Lane.hbTested, Lane.vgdBad, Lane.hbUnused, Lane.motor, Lane.pch, Lane.busSink, run, h.tbOf_eq, h.extCh_eq, h.slotOfHb_eq, h.safeLevel_eq,
    h.gd_eq, h.pwm_eq, h.mot_eq, h.st_eq, h.sns_eq, h.p_eq 0x2130, h.now_eq]
  rfl

theorem Within.fullExpect_eq (s : Nat) : m.fullExpect s = l.fullExpect s := by
  have gates : m.gatesOff = l.gatesOff := funext (h.gatesOff_eq run)
  have of : m.gatesOf = l.gatesOf := funext fun k => by
    simp only [Lane.gatesOf, Lane.lowOnly, Lane.motor, h.slotOfHb_eq, h.mot_eq]
    rfl
  have retired : m.mem.retired = l.mem.retired := (congrArg Mem.retired h.mem_eq :)
  simp only [Lane.fullExpect, Lane.vgdTestable, Lane.motor, h.mot_eq, Lane.bistExpect, gates, of, retired]
  rfl

end

/-! ### Runs -/

section
variable (l : Lane)

theorem Lane.bistGo_goes (r : BistRun) (s : Nat) (rest : List Nat) (st : l.st = .sync) (some_ : l.fullExpect s ≠ 0) : ∃ h m t,
    l.bistGo r (s :: rest) = { l with bist := { l.bist with
      run := some { r with section_ := s, startAt := l.now, left := rest, expected := l.fullExpect s, hbs := h, limit := m, tmax := t } } } := by
  have still : l.st.driving = false := by rw [st]; rfl
  refine ⟨l.sectionHbs s, bistMax s * l.fullExpect s / l.bistExpect s, fmax r.tmax l.hottest, ?_⟩
  unfold Lane.bistGo
  simp only [still, Bool.false_eq_true, if_false, beq_iff_eq, some_]

/-- A host run begins with its first section. -/
theorem Lane.bistHost_begins (s : Nat) (rest : List Nat) (key : CmdKey) (known : ∀ k ∈ s :: rest, 0 < k ∧ k < 16) (free : l.bistBusy (s :: rest) = false) (awake : l.entering = false) (st : l.st = .sync)
    (some_ : l.fullExpect s ≠ 0) : ∃ x : BistRun,
    l.bistHost (s :: rest) key = ({ l with bist := { l.bist with run := some x }, mb := { l.mb with accepted := l.mb.accepted ++ [key] } }, .now stAccepted []) ∧
      x.kind = 3 ∧ x.section_ = s ∧ x.left = rest ∧ x.want = s :: rest ∧ x.startAt = l.now ∧ x.expected = l.fullExpect s ∧ x.key = some key := by
  have zero : (s :: rest).contains 0 = false := by
    rw [Bool.eq_false_iff, ne_eq, List.contains_iff_mem]
    exact fun here => absurd (known 0 here).1 (Nat.lt_irrefl 0)
  have most : (s :: rest).any (fun s => decide (16 ≤ s)) = false := List.any_eq_false.mpr fun k here => by
    rw [decide_eq_true_eq]
    exact Nat.not_le.mpr (known k here).2
  have may : l.bistMay (s :: rest) = true := by
    unfold Lane.bistMay
    rw [st]
  have same : (accept l key).1.fullExpect s = l.fullExpect s := rfl
  obtain ⟨r, begins, kind, want, own⟩ : ∃ r : BistRun, (accept l key).1.bistBegin 3 (s :: rest) (s :: rest) (some key) {} = (accept l key).1.bistGo r (s :: rest) ∧
      r.kind = 3 ∧ r.want = s :: rest ∧ r.key = some key := ⟨_, rfl, rfl, rfl, rfl⟩
  obtain ⟨h, m, t, goes⟩ := (accept l key).1.bistGo_goes r s rest st (same ▸ some_)
  rw [← begins, same] at goes
  refine ⟨{ r with section_ := s, startAt := l.now, left := rest, expected := l.fullExpect s, hbs := h, limit := m, tmax := t }, ?_, kind, rfl, rfl, want, rfl, rfl, own⟩
  unfold Lane.bistHost
  rw [guarded_ok]
  · exact congrArg (fun x => (x, Reply.now stAccepted [])) goes
  · have good : ((s :: rest).isEmpty || (s :: rest).contains 0 || (s :: rest).any (fun s => decide (16 ≤ s))) = false := by
      rw [zero, most]
      rfl
    simp only [good, may]
    exact List.forall_mem_cons.mpr ⟨free, List.forall_mem_cons.mpr ⟨(Bool.or_false _).trans awake, by simp⟩⟩

/-! ### Records -/

theorem Lane.bistStore_mram {l m : Lane} (x : BistRec) (mram : m.mem.mram = l.mem.mram) (ring : m.bist.ringAt = l.bist.ringAt) : (m.bistStore x).mem.mram = (l.bistStore x).mem.mram := by
  have older : m.bistOlder x.kind = l.bistOlder x.kind := by
    unfold Lane.bistOlder Lane.bistCopy Lane.mramBytes
    rw [mram]
  unfold Lane.bistStore
  simp only [Lane.mramPut, older, mram, ring]
  split <;> rfl

theorem Lane.bistRecord_stores (r : BistRun) : ∀ n, l.bistRecord r = n → ∃ x : BistRec,
    n.mem.mram = (l.bistStore x).mem.mram ∧ x.kind = r.kind ∧ x.boot = l.pwr.boot ∧ x.results = r.results ∧ n.bist.run = l.bist.run := by
  intro n ends
  obtain ⟨x, stored, kind, boot, results⟩ : ∃ x : BistRec, l.bistRecord r = (if r.kind == 1 then { l.bistStore x with bist := { (l.bistStore x).bist with cleared := false } } else l.bistStore x) ∧
      x.kind = r.kind ∧ x.boot = l.pwr.boot ∧ x.results = r.results := ⟨_, rfl, rfl, rfl, rfl⟩
  have run : (l.bistStore x).bist.run = l.bist.run := by
    unfold Lane.bistStore
    dsimp only
    split <;> rfl
  refine ⟨x, ?_, kind, boot, results, ?_⟩
  · rw [← ends, stored]
    split <;> rfl
  · rw [← ends, stored, ← run]
    split <;> rfl

theorem Within.withPwr {l m : Lane} (h : Within [.mram, .bist] l m) (w : Pwr) : Within [.mram, .bist] { l with pwr := w } { m with pwr := w } :=
  (congrArg (fun q : Lane => { q with pwr := w }) h :)

/-- The end of a run that is no start: its record stands, and the run is over. -/
theorem Lane.bistFinish_ends (r : BistRun) (kind : r.kind = 1 ∨ r.kind = 3) : ∀ n, l.bistFinish r = n → ∃ x : BistRec,
    n.mem.mram = (l.bistStore x).mem.mram ∧ x.kind = r.kind ∧ x.boot = l.pwr.boot ∧ x.results = r.results ∧ n.bist.run = none ∧
      n.pwr = (if r.kind = 1 then { l.pwr with entry := l.pwr.entry.map (fun (e : PwrEntry) => { e with step := .persist, startAt := l.now, tested := true }) } else l.pwr) ∧
      Within [.mram, .bist] { l with pwr := n.pwr } n := by
  intro n ends
  obtain ⟨p, recorded⟩ : ∃ p, Lane.bistRecord { l with bist := { l.bist with run := none } } r = p := ⟨_, rfl⟩
  obtain ⟨x, mram, same, boot, results, run⟩ := Lane.bistRecord_stores _ r p recorded
  have parts : Within [.mram, .bist] l p := recorded ▸ ((Within.refl l).upd).bistRecord r
  have stored : (Lane.bistStore { l with bist := { l.bist with run := none } } x).mem.mram = (l.bistStore x).mem.mram := Lane.bistStore_mram x rfl rfl
  unfold Lane.bistFinish at ends
  rw [recorded] at ends
  refine ⟨x, ?_⟩
  rcases kind with one | three
  · simp only [one, if_true] at ends ⊢
    obtain ⟨w, rfl, pwr⟩ : ∃ w : Pwr, { p with pwr := w } = n ∧ w = { p.pwr with entry := p.pwr.entry.map (fun (e : PwrEntry) => { e with step := .persist, startAt := p.now, tested := true }) } :=
      ⟨_, ends, rfl⟩
    rw [parts.pwr_eq, parts.now_eq] at pwr
    exact ⟨mram.trans stored, same.trans one, boot, results, run, pwr, parts.withPwr w⟩
  · simp only [three] at ends ⊢
    have told := (Within.refl (ps := []) p).completeOpt r.key stDone
    have pwr : n.pwr = l.pwr := by
      rw [← ends, told.pwr_eq, parts.pwr_eq]
    rw [pwr, ← ends, told.mram_eq, told.bist_eq]
    exact ⟨mram.trans stored, same.trans three, boot, results, run, rfl, parts.completeOpt ..⟩

/-- An abort: its section ends with status 4. -/
theorem Lane.bistAbort_ends (r : BistRun) (run : l.bist.run = some r) (kind : r.kind = 3) (section_ : r.section_ ≠ noSection) : ∀ n, l.bistAbort = n → n.bist.run = none ∧
    (∃ x : BistRec, n.mem.mram = (l.bistStore x).mem.mram ∧ x.kind = 3 ∧ ∃ e : BistEntry, x.results = r.results.set r.section_ e ∧ e.status = 4) ∧
    Reports { l with bist := n.bist, mem := { l.mem with mram := n.mem.mram } } n := by
  intro n ends
  obtain ⟨k, e, q, aborts, put, results, same, status⟩ : ∃ (k : Lane) (e : BistEntry) (q : BistRun), l.bistAbort = k.bistFinish q ∧
      Within [] l k ∧ q.results = r.results.set r.section_ e ∧ q.kind = r.kind ∧ e.status = 4 := by
    unfold Lane.bistAbort
    simp only [run, beq_iff_eq, section_, if_false]
    exact ⟨_, _, _, rfl, (Within.refl l).freeNat.bistPut .., rfl, rfl, rfl⟩
  obtain ⟨x, mram, xkind, -, xresults, none_, pwr, parts⟩ := k.bistFinish_ends q (.inr (same.trans kind)) n (aborts ▸ ends)
  have stored : (k.bistStore x).mem.mram = (l.bistStore x).mem.mram := Lane.bistStore_mram x put.mram_eq (congrArg Bist.ringAt put.bist_eq)
  rw [pwr, same, kind] at parts
  exact ⟨none_, ⟨x, mram.trans stored, xkind.trans (same.trans kind), e, xresults.trans results, status⟩, (put.mono (List.nil_subset _)).trans parts⟩

/-! ### The end of a section -/

/-- The outcome of a section, by its case. -/
theorem sectionStatus_eq (expected count : Nat) (ok : Bool) : sectionStatus expected count ok = if ok = false ∨ expected < count then 2 else if count = expected then 1 else 3 := by
  unfold sectionStatus
  simp only [Bool.or_eq_true, Bool.not_eq_true', decide_eq_true_eq, beq_iff_eq]

theorem Lane.sectionEnd_goes (r : BistRun) (sig detail : W32) (n s : Nat) (ok : Bool) (rest : List Nat) (other : r.section_ ≠ 12) (left : r.left = s :: rest) (st : l.st = .sync)
    (some_ : l.fullExpect s ≠ 0) : ∀ m, l.sectionEnd r sig n ok detail = m → ∃ x : BistRun, m.bist.run = some x ∧ x.section_ = s ∧ x.left = rest ∧ x.startAt = l.now ∧ x.expected = l.fullExpect s ∧
      x.results = r.results.set r.section_ { sig := sig, count := n, status := sectionStatus r.expected n ok, duration := (l.now - r.startAt) / ms 1, detail := detail } ∧
      Within [.bist] l m := by
  intro m ends
  obtain ⟨p, q, put, told, results⟩ : ∃ (p : Lane) (q : BistRun), l.bistPut { r with tmax := fmax r.tmax l.hottest } sig n (sectionStatus r.expected n ok) detail = (p, q) ∧ Within [] l p ∧
      q.results = r.results.set r.section_ { sig := sig, count := n, status := sectionStatus r.expected n ok, duration := (l.now - r.startAt) / ms 1, detail := detail } :=
    ⟨_, _, rfl, (Within.refl l).bistPut _ sig n _ detail, rfl⟩
  have awake : (p.st == LaneSt.failSilent) = false := by
    rw [told.st_eq, st]
    rfl
  have plain : (r.section_ == 12) = false := beq_eq_false_iff_ne.mpr other
  unfold Lane.sectionEnd at ends
  simp only [put, plain, awake, Bool.false_eq_true, if_false] at ends
  rw [left] at ends
  obtain ⟨k, goes, parts, krun⟩ : ∃ k : Lane, k.bistGo q (s :: rest) = m ∧ Within [.bist] l k ∧ k.bist.run = l.bist.run := by
    refine ⟨_, ends, ?_, ?_⟩
    · split
      · exact (told.mono (by decide)).upd
      · exact told.mono (by decide)
    · rw [← told.bist_eq]
      split <;> rfl
  have same := parts.fullExpect_eq krun s
  obtain ⟨h, limit, t, e⟩ := k.bistGo_goes q s rest (parts.st_eq.trans st) (same ▸ some_)
  have whole : Within [.bist] l m := by
    rw [← goes, e]
    exact parts.upd
  refine ⟨{ q with section_ := s, startAt := k.now, left := rest, expected := k.fullExpect s, hbs := h, limit := limit, tmax := t }, ?_, rfl, rfl, parts.now_eq, same, results, whole⟩
  rw [← goes, e]

end

/-- Settles O54: a host run and its abort on the shared rules of a run's start and end; the end of a section by its status and the section that follows. -/
theorem selfTestSections : Obligations.SelfTestSections := by
  unfold Obligations.SelfTestSections
  intro s a m s0 rest r e sig detail n ok
  refine ⟨?_, ?_, ?_, ?_, ?_⟩
  · intro l ready sections first others most free awake st some_
    have rises := (List.pairwise_lt_range (n := 32)).filter (bit (m.u32 0))
    rw [sections] at rises
    have known : ∀ k ∈ s0 :: rest, 0 < k ∧ k < 16 := List.forall_mem_cons.mpr ⟨⟨first, most⟩, fun k here => ⟨first.trans (List.rel_of_pairwise_cons rises here), others k here⟩⟩
    obtain ⟨x, begins, facts⟩ := l.bistHost_begins s0 rest (m.key 0x90) known free awake st some_
    rw [← sections] at begins
    exact answers_of rfl ready begins ⟨x, rfl, facts⟩
  · intro l ready section_ first most free awake st some_
    obtain ⟨x, begins, facts⟩ := l.bistHost_begins s0 [] (m.key 0x91) (List.forall_mem_singleton.mpr ⟨first, most⟩) free awake st some_
    rw [← section_] at begins
    exact answers_of rfl ready begins ⟨x, rfl, facts⟩
  · intro l ready run kind section_
    have aborts := l.bistAbort_ends r run kind section_
    have ends : l.hBistAbort = (l.bistAbort, .now stDone []) := by
      unfold Lane.hBistAbort
      simp only [run, kind]
      rfl
    generalize l.bistAbort = k at ends aborts
    exact answers_of rfl ready ends (aborts k rfl)
  · intro l status went run section_ other left st some_
    have goes := l.sectionEnd_goes r sig detail n s0 ok rest other left st some_
    generalize ends : l.sectionEnd r sig n ok detail = k at goes
    obtain ⟨x, xrun, xsection, xleft, start, expected, results, parts⟩ := goes k rfl
    rw [sectionStatus_eq] at results
    have runs : (r.section_ != noSection) = true := bne_iff_ne.mpr section_
    have came : went (k.wired a.lane) := ⟨x, xrun, xsection, xleft, start, expected, results, (parts.wired a.lane :)⟩
    refine ⟨fun early => ?_, fun late => ?_⟩
    · have closes : l.bistSectionEnd sig n ok detail = k := by
        unfold Lane.bistSectionEnd
        simp only [run, runs, decide_eq_true early, Bool.and_self, if_true, ends]
      exact next_of_eq rfl rfl closes came
    · have closes : l.bistSectionTimeout sig n ok detail = k := by
        unfold Lane.bistSectionTimeout Lane.due
        simp only [run, runs, decide_eq_true late, Bool.and_self, if_true, ends]
      exact next_of_eq rfl rfl closes came
  · intro l run kind section_ entry
    obtain ⟨k, ends⟩ : ∃ k, l.shutdownEnd = k := ⟨_, rfl⟩
    have finish : l.bistFinish r = k := by
      rw [← ends]
      unfold Lane.shutdownEnd
      simp only [run, kind, section_, beq_self_eq_true, Bool.and_self, if_true]
    obtain ⟨x, mram, xkind, boot, results, none_, pwr, parts⟩ := l.bistFinish_ends r (.inl kind) k finish
    rw [if_pos kind, entry] at pwr
    exact next_of_eq rfl rfl ends ⟨none_, (congrArg Pwr.entry pwr :), ⟨x, mram, xkind.trans kind, boot, results⟩, (parts.wired a.lane :)⟩

end Sys2Proof.Machine
end

section
/-! Programming the OTP, its start, and the retries of the crystal (R373, R401, R411, R413, R428, R430, R431). -/

namespace Sys2Proof.Machine

set_option Elab.async false

/-! ### Programming -/

section
variable (l : Lane)

/-- A burn that ends well: its record stands in the OTP. -/
theorem Lane.genBurnEnd_burns (k : Nat) (bs : List Byte) (key : CmdKey) (runs : l.fwRuns = true) (write : l.boot.otpWrite = some (.gen k bs key)) :
    Reports { l with boot := { l.boot with otpWrite := none, otp := (l.otpProgram (0x280 + 64 * k) bs).boot.otp }, pwr := { l.pwr with burned := true } } (l.genBurnEnd true) := by
  unfold Lane.genBurnEnd
  simp only [runs, write, Bool.not_true, Bool.false_eq_true, if_false, if_true]
  exact (Within.ite (((Within.refl (ps := []) _).event ..).event ..) ((Within.refl (ps := []) _).event ..)).complete ..

/-- A lifecycle write that ends well: its marker stands in the OTP. -/
theorem Lane.lifeWriteEnd_marks (tgt : Nat) (key : CmdKey) (runs : l.fwRuns = true) (write : l.boot.otpWrite = some (.life tgt key)) :
    Reports { l with boot := { l.boot with otpWrite := none, otp := (l.otpProgram (0x3F + tgt) [0xA5]).boot.otp } } (l.lifeWriteEnd true) := by
  unfold Lane.lifeWriteEnd
  simp only [runs, write, Bool.not_true, Bool.false_eq_true, if_false, if_true]
  exact ((Within.refl (ps := []) _).event ..).complete ..

theorem Lane.tapProgram_programs (area off n : Nat) (bs : List Byte) (known : tapArea area = some (off, n)) (on_ : l.powered = true) (life : l.boot.life < 2) (free : l.boot.otpWrite = none) :
    l.tapProgram area bs = { l with boot := { l.boot with otp := (l.otpProgram off (bs.take n)).boot.otp } } := by
  have open_ : ¬ (!l.powered || decide (2 ≤ l.boot.life) || l.boot.otpWrite.isSome) = true := by
    simp [on_, free, life]
  unfold Lane.tapProgram
  rw [known]
  exact if_neg open_

/-! ### The start -/

theorem Lane.otpRead_step (boot : l.st = .boot) (step : l.pwr.step = .otp) : l.bootAt .otp = true := by
  rw [Lane.bootAt, boot, step]
  rfl

/-- The start takes the lifecycle and its options from the OTP. -/
theorem Lane.otpRead_takes (k : Nat) (boot : l.st = .boot) (step : l.pwr.step = .otp) (life : l.lifeOf = some k) (some_ : k ≠ 0) (ident : l.identOk = true) (prot : l.protOk = true)
    (pub : l.pubOk = true) (sec : l.secOk = true) :
    l.otpRead = { l with boot := { l.boot with life := k }, mem := { l.mem with spares := l.sparesLeft },
                         pwr := { l.pwr with mayfly := bit l.bootOpt 1, step := .comparator, stepAt := l.now } } := by
  obtain ⟨m, reads, otp, same⟩ : ∃ m : Lane, l.otpRead = (if m.identOk && m.protOk && m.pubOk && m.secOk then m.bootGo .comparator else m.bootFail) ∧ m.boot.otp = l.boot.otp ∧
      m = { l with boot := { l.boot with life := k }, mem := { l.mem with spares := l.sparesLeft }, pwr := { l.pwr with mayfly := bit l.bootOpt 1 } } := by
    unfold Lane.otpRead
    rw [l.otpRead_step boot step, life]
    obtain ⟨k, rfl⟩ := Nat.exists_eq_succ_of_ne_zero some_
    exact ⟨_, rfl, rfl, rfl⟩
  have good : (m.identOk && m.protOk && m.pubOk && m.secOk) = true := by
    unfold Lane.identOk Lane.protOk Lane.pubOk Lane.secOk Lane.otpCrc Lane.otpBytes at *
    rw [otp, ident, prot, pub, sec]
    rfl
  rw [reads, if_pos good, same]
  rfl

theorem Lane.otpRead_stops (boot : l.st = .boot) (step : l.pwr.step = .otp) (life : l.lifeOf = none) :
    l.otpRead = { l with boot := { l.boot with stopped := true }, pwr := { l.pwr with step := .idle } } := by
  unfold Lane.otpRead
  rw [l.otpRead_step boot step, life]
  rfl

/-! ### The crystal -/

/-- FAILSILENT ends a power-state entry and leaves all else of the supply. -/
theorem Lane.failSilent_pwr (cause : Nat) (first : l.st ≠ .failSilent) : (l.failSilent cause).pwr = { l.pwr with entry := none } := by
  obtain ⟨m, enters, pwr⟩ : ∃ m : Lane, l.failSilent cause = ((m.setSt .failSilent).logSilent.withdraw 11 cause).allOff.cellFollow ∧ m.pwr = { l.stepDown.pwr with entry := none } := by
    unfold Lane.failSilent
    rw [if_neg (by simpa using first)]
    exact ⟨_, rfl, rfl⟩
  have out : Within [.st, .link, .slots, .mp, .fn] m ((m.setSt .failSilent).logSilent.withdraw 11 cause).allOff.cellFollow :=
    (((((Within.refl m).setSt _).logSilent).withdraw ..).allOff).cellFollow
  rw [enters, out.pwr_eq, pwr, ((Within.refl (ps := [.red]) l).stepDown).pwr_eq]

/-- A clock that fails for good where the options ask for no LIMP. -/
theorem Lane.oscDead_fails (k : Nat) (st : l.st = .waking) (noLimp : bit l.bootOpt 3 = true) : ∀ m, l.oscDead k = m →
    m.st = .failSilent ∧ m.pwr.oscFail = true ∧ m.pwr.step = .idle := by
  intro m ends
  obtain ⟨n, told, dead⟩ : ∃ n : Lane, Within [] { l with pwr := { l.pwr with oscFail := true, backup := true } } n ∧
      l.oscDead k = if bit n.bootOpt 3 then Lane.failSilent { n with pwr := { n.pwr with step := .idle, pstate := 0 } } 1 else n.enterLimp.clocksUp :=
    ⟨_, (Within.refl _).event _ k, rfl⟩
  rw [Lane.bootOpt_congr (l := l) told.boot_eq, if_pos noLimp, ends] at dead
  have first : n.st ≠ .failSilent := by
    rw [told.st_eq, st]
    decide
  have pwr := Lane.failSilent_pwr { n with pwr := { n.pwr with step := .idle, pstate := 0 } } 1 first
  have enters := (Lane.failSilent_enters { n with pwr := { n.pwr with step := .idle, pstate := 0 } } 1 first).1
  rw [← dead, told.pwr_eq] at pwr
  rw [← dead] at enters
  rw [pwr]
  exact ⟨enters, rfl, rfl⟩

/-- The crystal is late: at first a retry, then one more with its event, then the clock is dead. -/
theorem Lane.crystalTimeout_late (st : l.st = .waking) (step : l.pwr.step = .crystal) (due : l.pwr.stepAt + (if l.pwr.retries = 0 then us 100 else ms 5) ≤ l.now) :
    l.crystalTimeout = if l.pwr.retries = 0 then { l with pwr := { l.pwr with stepAt := l.now, retries := l.pwr.retries + 1 } }
      else if l.pwr.retries = 1 then Lane.event { l with pwr := { l.pwr with stepAt := l.now, retries := l.pwr.retries + 1 } } 0xC103 2 else l.oscDead 0 := by
  have late : (!l.atStep .crystal || !l.due (l.pwr.stepAt + (if l.pwr.retries = 0 then us 100 else ms 5))) = false := by
    rw [Lane.atStep, st, step, Lane.due]
    rw [decide_eq_true due]
    rfl
  unfold Lane.crystalTimeout
  simp only [late, Bool.false_eq_true, if_false, beq_iff_eq]

end

/-- Settles O55: the programming of the OTP, and one lemma for each end of a write, of the start and of the crystal's wait. -/
theorem oneTimeMemory : Obligations.OneTimeMemory := by
  unfold Obligations.OneTimeMemory
  intro s a off n area k tgt bs key l r
  refine ⟨fun ok b => ?_, fun known on_ life free => ?_, fun runs write => ?_, fun runs write => ?_, fun boot step => ⟨fun life some_ ident prot pub sec => ?_, fun life => ?_⟩,
    fun st step => ⟨?_, fun due => ?_⟩⟩
  · rw [cellRead_otpProgram l off bs ok b]
    refine ⟨?_, rfl⟩
    split
    · exact and_or_self_left ..
    · exact BitVec.and_self
  · exact next_of_eq (f := fun l => l.tapProgram area bs) rfl (by rw [known]; rfl) (l.tapProgram_programs area off n bs known on_ life free) (reports_wired _ a.lane)
  · have burns := l.genBurnEnd_burns k bs key runs write
    generalize ends : l.genBurnEnd true = m at burns
    exact next_of_eq rfl rfl ends (burns.trans (reports_wired _ a.lane))
  · have marks := l.lifeWriteEnd_marks tgt key runs write
    generalize ends : l.lifeWriteEnd true = m at marks
    exact next_of_eq rfl rfl ends (marks.trans (reports_wired _ a.lane))
  · exact next_of_eq rfl rfl (l.otpRead_takes k boot step life some_ ident prot pub sec) ⟨rfl, rfl, rfl, rfl, reports_wired _ a.lane⟩
  · exact next_of_eq rfl rfl (l.otpRead_stops boot step life) (reports_wired _ a.lane)
  · exact next_of_eq (f := fun l => l.crystalReady) rfl rfl (if_pos (by rw [Lane.atStep, st, step]; rfl)) (reports_wired _ a.lane)
  · have late := l.crystalTimeout_late st step due
    refine ⟨fun few => ?_, fun many limp => ?_, fun many noLimp => ?_⟩
    · obtain first | second : r = 0 ∨ r = 1 := by omega
      · exact next_of_eq (f := fun l => l.crystalTimeout) rfl rfl (late.trans (if_pos first)) (reports_wired _ a.lane)
      · rw [if_neg (by omega), if_pos second] at late
        have told : Reports { l with pwr := { l.pwr with stepAt := l.now, retries := r + 1 } } l.crystalTimeout := late ▸ (Within.refl (ps := []) _).event ..
        generalize ends : l.crystalTimeout = m at told
        exact next_of_eq rfl rfl ends (told.trans (reports_wired _ a.lane))
    · have dead := l.oscDead_limps 0 st limp
      rw [if_neg (by omega), if_neg (by omega)] at late
      generalize l.oscDead 0 = m at late dead
      exact next_of_eq rfl rfl late dead
    · have dead := l.oscDead_fails 0 st noLimp
      rw [if_neg (by omega), if_neg (by omega)] at late
      generalize l.oscDead 0 = m at late dead
      exact next_of_eq rfl rfl late (dead m rfl)

end Sys2Proof.Machine
end

section
/-! Commands of the configuration and of the lifecycle (R373, R375, R431). -/

namespace Sys2Proof.Machine

set_option Elab.async false

/-- The load after a first block. -/
theorem blockNext_first (m : Msg) (ld : Option Load) (first : m.u16 0 = 0) : blockNext m ld = ⟨1, m.u32 4, (m.args.drop 8).length, m.args.drop 8⟩ := by
  unfold blockNext
  split
  · exact if_pos (beq_iff_eq.mpr first)
  · rfl

section
variable (l : Lane) (m : Msg)

/-- A first block of an image, where no refusal applies. -/
theorem Lane.hCfgImageLoad_first (write : l.boot.otpWrite = none) (load : l.boot.overlayLoad = none) (molt : l.moltOn = false) (first : m.u16 0 = 0) (block : blockOk m l.boot.load 0x80000 = true) :
    ∀ y, l.stageClear.mramPut (cfgBase l.stageArea) (m.args.drop 8) = y → l.hCfgImageLoad m =
      if m.u8 2 = 0 then done { y with boot := { y.boot with load := some ⟨1, m.u32 4, (m.args.drop 8).length, []⟩ } }
      else if y.stagedGood (m.u32 4) = true then done { y with boot := { y.boot with load := none, stagedLen := some (m.u32 4) } }
      else (y.stageClear, .now stRefusedAuth []) := by
  intro y put
  have at_ : cfgBase l.stageClear.stageArea + (m.args.drop 8).length - (m.args.length - 8) = cfgBase l.stageArea := by
    rw [List.length_drop, Nat.add_sub_cancel]
    rfl
  unfold Lane.hCfgImageLoad
  rw [guarded_ok]
  · simp only [blockNext_first m _ first, first, beq_self_eq_true, if_true, at_, put, beq_iff_eq]
  · simp [write, load, molt, block]

theorem Lane.hCfgGenBurn_burns (k : Nat) (write : l.boot.otpWrite = none) (load : l.boot.overlayLoad = none) (molt : l.moltOn = false) (off : l.motorOn = false) (next : l.nextGen = some k)
    (fits : l.recordFits m.args k = true) :
    l.hCfgGenBurn m = accept { l with boot := { l.boot with otpWrite := some (.gen k m.args (m.key 0xA1)) } } (m.key 0xA1) := by
  unfold Lane.hCfgGenBurn
  rw [guarded_ok]
  · rw [next]
    exact guarded_ok (by simp [fits])
  · simp [write, load, molt, off]

theorem Lane.hCfgOverlayLoad_first (staged : l.mb.staged = none) (write : l.boot.otpWrite = none) (load : l.boot.load = none) (molt : l.moltOn = false) (spare : l.spareGens = 0) (crc : l.boot.overlayCrc = none)
    (first : m.u16 0 = 0) (more : m.u8 2 = 0) (block : blockOk m l.boot.overlayLoad 0x80000 = true) :
    l.hCfgOverlayLoad m = done { l with boot := { l.boot with overlayLoad := some ⟨1, m.u32 4, (m.args.drop 8).length, m.args.drop 8⟩ } } := by
  unfold Lane.hCfgOverlayLoad
  rw [guarded_ok]
  · simp only [blockNext_first m _ first, more, beq_self_eq_true, if_true]
  · simp [staged, write, load, molt, spare, crc, block]

theorem Lane.hLifecycleSet_writes (forward : l.boot.life = 1 ∧ m.u8 0 = 2 ∧ l.fieldReady = true ∨ l.boot.life = 2 ∧ m.u8 0 = 3) (off : l.driveOn = false) (write : l.boot.otpWrite = none)
    (load : l.boot.load = none) (molt : l.moltOn = false) :
    l.hLifecycleSet m = accept { l with boot := { l.boot with otpWrite := some (.life (m.u8 0) (m.key 0xA4)) } } (m.key 0xA4) := by
  unfold Lane.hLifecycleSet
  rw [guarded_ok]
  obtain ⟨life, tgt, ready⟩ | ⟨life, tgt⟩ := forward
  · simp [life, tgt, ready, off, write, load, molt]
  · simp [life, tgt, off, write, load, molt]

end

/-- Settles O56: the handler of each command where no refusal applies. -/
theorem configurationCommands : Obligations.ConfigurationCommands := by
  unfold Obligations.ConfigurationCommands
  intro s a m k d
  refine ⟨?_, ?_, ?_, ?_⟩
  · intro l base y ready write load molt first block
    have loads := l.hCfgImageLoad_first m write load molt first block y rfl
    refine ⟨fun more => ?_, fun last good => ?_, fun last bad => ?_⟩
    · rw [if_pos more] at loads
      exact answers_of rfl ready loads rfl
    · rw [if_neg (by omega), if_pos good] at loads
      exact answers_of rfl ready loads rfl
    · rw [if_neg (by omega), if_neg (by rw [bad]; decide)] at loads
      exact answers_of rfl ready loads ⟨rfl, rfl⟩
  · intro l ready write load molt off next fits
    exact answers_of rfl ready (l.hCfgGenBurn_burns m k write load molt off next fits) rfl
  · intro l ready staged write load molt spare crc first more block
    exact answers_of rfl ready (l.hCfgOverlayLoad_first m staged write load molt spare crc first more block) rfl
  · intro l ready forward off write load molt
    exact answers_of rfl ready (l.hLifecycleSet_writes m forward off write load molt) rfl

end Sys2Proof.Machine
end

section
/-! Commands of the Molt (R436, R437). -/

namespace Sys2Proof.Machine

set_option Elab.async false

section
variable (l : Lane) (m : Msg)

theorem Lane.hMoltBegin_opens (free : l.moltBusy = false) (closed : l.moltOn = false) (known : m.u8 0 < 2) (other : m.u8 0 ≠ l.boot.running) (worn : (l.fwSlot (m.u8 0)).state ≠ 4) (size : m.u32 4 ≤ 0x200000) :
    l.hMoltBegin m = done { l with boot := { l.boot with moltOpen := some (m.u8 0), slot := l.boot.slot.modify (m.u8 0) (fun _ => { state := 1, length := m.u32 4 }) } } := by
  unfold Lane.hMoltBegin
  rw [guarded_ok]
  · rfl
  · simp [free, closed, known, other, worn, size]

theorem Lane.hMoltData_stores (k : Nat) (free : l.moltBusy = false) (open_ : l.boot.moltOpen = some k) (idle : l.boot.verify = none) (fits : m.u32 0 + (m.args.length - 4) ≤ (l.fwSlot k).length) :
    l.hMoltData m = done { l with mem := { l.mem with mram := cellStore l.mem.mram (fwBase k + m.u32 0) (m.args.drop 4) } } := by
  unfold Lane.hMoltData
  rw [guarded_ok]
  · rw [open_]
    rfl
  · simp [free, open_, idle, Lane.moltOn, fits]

theorem Lane.hMoltVerify_starts (k : Nat) (free : l.moltBusy = false) (open_ : l.boot.moltOpen = some k) (idle : l.boot.verify = none) :
    l.hMoltVerify m = accept { l with boot := { l.boot with verify := some (m.key 0xB2, k) } } (m.key 0xB2) := by
  unfold Lane.hMoltVerify
  rw [guarded_ok]
  · rw [open_]
    rfl
  · simp [free, open_, idle, Lane.moltOn]

/-- A verification that ends passes the slot or refuses it. -/
theorem Lane.moltVerifyEnd_judges (k : Nat) (key : CmdKey) (verify : l.boot.verify = some (key, k)) (worn : (l.fwSlot k).state ≠ 4) :
    Reports { l with boot := { l.boot with verify := none, moltOpen := none, slot := l.boot.slot.modify k (fun x => { x with state := if l.fwOk k = true then 2 else 3 }) } } l.moltVerifyEnd := by
  have whole : ((l.fwSlot k).state == 4) = false := beq_eq_false_iff_ne.mpr worn
  obtain ⟨n, ends, slot, ok, same⟩ : ∃ n : Lane, l.moltVerifyEnd = (if !((n.fwSlot k).state == 4) && n.fwOk k then ((n.setSlot k (fun (x : FwSlot) => { x with state := 2 })).event 0x1113 k).complete key stDone
      else ((n.setSlot k (fun (x : FwSlot) => { x with state := if (n.fwSlot k).state == 4 then 4 else 3 })).event 0x1114 k).complete key stRefusedAuth) ∧
      n.fwSlot k = l.fwSlot k ∧ n.fwOk k = l.fwOk k ∧ n = { l with boot := { l.boot with verify := none, moltOpen := none } } := by
    unfold Lane.moltVerifyEnd
    rw [verify]
    exact ⟨_, rfl, rfl, rfl, rfl⟩
  rw [ends, slot, ok, whole]
  by_cases pass : l.fwOk k = true
  · rw [pass, same]
    exact ((Within.refl (ps := []) _).event ..).complete ..
  · rw [Bool.eq_false_iff.mpr pass, same]
    exact ((Within.refl (ps := []) _).event ..).complete ..

/-- A swap to a verified slot waits for the next start. -/
theorem Lane.hMoltSwap_waits (free : l.moltBusy = false) (verified : (l.fwSlot (1 - l.boot.running)).state = 2) (later : m.u8 0 = 0) : ∃ n, l.hMoltSwap m = (n, .now stAccepted []) ∧
    Reports { l with boot := { l.boot with swap := some (1 - l.boot.running) } } n := by
  have swaps : l.hMoltSwap m = ((accept { l with boot := { l.boot with swap := some (1 - l.boot.running) } } (m.key 0xB3)).1.complete (m.key 0xB3) stDone, .now stAccepted []) := by
    unfold Lane.hMoltSwap
    rw [guarded_ok]
    · simp only [later, Nat.reduceBEq, Bool.or_false]
      rfl
    · simp [free, verified, later]
  exact ⟨_, swaps, ((Within.refl (ps := []) _).accept _).complete ..⟩

end

/-- Settles O57: the handler of each command where no refusal applies, and the end of a verification. -/
theorem moltCommands : Obligations.MoltCommands := by
  unfold Obligations.MoltCommands
  intro s a m k key
  refine ⟨?_, ?_, ?_, ?_, ?_⟩
  · intro l ready free closed known other worn size
    exact answers_of rfl ready (l.hMoltBegin_opens m free closed known other worn size) ⟨rfl, rfl, .refl _⟩
  · intro l ready free open_ idle fits
    exact answers_of rfl ready (l.hMoltData_stores m k free open_ idle fits) rfl
  · intro l ready free open_ idle
    exact answers_of rfl ready (l.hMoltVerify_starts m k free open_ idle) rfl
  · intro l runs verify worn
    have judges := l.moltVerifyEnd_judges k key verify worn
    generalize ends : l.moltVerifyEnd = n at judges
    have boot := (congrArg Lane.boot judges :)
    have told : Within [] _ n := judges
    have frame : Within [.boot] l n := ((Within.refl l).upd).trans (told.mono (by decide))
    exact next_of_eq (f := fun l => if l.fwRuns then l.moltVerifyEnd else l) rfl rfl ((if_pos runs).trans ends)
      ⟨(congrArg Boot.verify boot :), (congrArg Boot.moltOpen boot :), (congrArg Boot.slot boot :), (frame.wired a.lane :)⟩
  · intro l ready free verified later
    obtain ⟨n, swaps, reports⟩ := l.hMoltSwap_waits m free verified later
    exact answers_of rfl ready swaps reports

end Sys2Proof.Machine
end

section
/-! The SRAM port (R386, R387, R388, Table BT-9). -/

namespace Sys2Proof.Machine

set_option Elab.async false

/-- FAILSILENT ends a Weevil pass and logs its entry, and leaves all else of the memory. -/
theorem Lane.failSilent_mem (l : Lane) (cause : Nat) : ∃ w b n, (l.failSilent cause).mem = { l.mem with weevil := w, logBuf := b, logNext := n } := by
  by_cases first : l.st = .failSilent
  · unfold Lane.failSilent
    rw [if_pos (beq_iff_eq.mpr first)]
    exact ⟨_, _, _, rfl⟩
  · obtain ⟨m, w, enters, mem⟩ : ∃ (m : Lane) (w : Weevil), l.failSilent cause = ((m.setSt .failSilent).logSilent.withdraw 11 cause).allOff.cellFollow ∧ m.mem = { l.stepDown.mem with weevil := w } := by
      unfold Lane.failSilent
      rw [if_neg (by simpa using first)]
      exact ⟨_, _, rfl, rfl⟩
    have out : Within [.st, .link, .slots, .mp, .fn] m ((m.setSt .failSilent).logSilent.withdraw 11 cause).allOff.cellFollow :=
      (((((Within.refl m).setSt _).logSilent).withdraw ..).allOff).cellFollow
    rw [enters, out.mem_eq, mem, ((Within.refl (ps := [.red]) l).stepDown).mem_eq]
    exact ⟨_, _, _, rfl⟩

/-- A lane is in FAILSILENT after a fault, whether it stood there or not. -/
theorem Lane.failSilent_st (l : Lane) (cause : Nat) : (l.failSilent cause).st = .failSilent := by
  by_cases first : l.st = .failSilent
  · unfold Lane.failSilent
    rw [if_pos (beq_iff_eq.mpr first)]
    exact first
  · exact (l.failSilent_enters cause first).1

section
variable (l : Lane)

/-! ### The check of a word -/

theorem Lane.sramCheck_good (dma : Bool) (addr : Nat) : ∀ m, l.sramCheck dma addr 0 = m → m.mem.sram = l.mem.sram ∧ m.mem.partials = l.mem.partials ∧ m.mem.ecc = l.mem.ecc ∧ m.mem.mram = l.mem.mram ∧ Within [.mem] l m := by
  intro m ends
  rw [← ends]
  cases dma
  · exact ⟨rfl, rfl, rfl, rfl, (Within.refl l).upd⟩
  · exact ⟨rfl, rfl, rfl, rfl, (Within.refl l).upd⟩

/-- A corrected error is counted. -/
theorem Lane.sramCheck_corrected (dma : Bool) (addr : Nat) : ∀ m, l.sramCheck dma addr 1 = m →
    m.mem.ecc = l.mem.ecc.set 0 (l.mem.ecc.getD 0 0 + 1) ∧ m.mem.sram = l.mem.sram := by
  intro m ends
  obtain ⟨n, told, ecc, sram⟩ : ∃ n : Lane, l.sramCheck dma addr 1 = n.event 0xE101 addr ∧ n.mem.ecc = l.mem.ecc.set 0 (l.mem.ecc.getD 0 0 + 1) ∧ n.mem.sram = l.mem.sram := by
    cases dma
    · exact ⟨_, rfl, rfl, rfl⟩
    · exact ⟨_, rfl, rfl, rfl⟩
  rw [← ends, told, ((Within.refl (ps := []) n).event ..).mem_eq]
  exact ⟨ecc, sram⟩

/-- The word with a double-bit error. -/
def Lane.sramSpoilt (l : Lane) (addr : Nat) : Lane :=
  { l with mem.sram := cellStore l.mem.sram (addr / 8 * 8) ((List.range 8).map (fun i => b8 (Config.freeNat (l.fresh + i)))), fresh := l.fresh + 8 }

theorem Lane.sramCheck_double (dma : Bool) (addr : Nat) : ∃ n : Lane, n.mem.ecc = l.mem.ecc.set 1 (l.mem.ecc.getD 1 0 + 1) ∧ n.boot = l.boot ∧
    l.sramCheck dma addr 3 = if ((n.event 0xE102 addr).sramSpoilt addr).critical (addr / 4096) then ((n.event 0xE102 addr).sramSpoilt addr).failSilent 1
      else ((n.event 0xE102 addr).sramSpoilt addr).urgentRegion (addr / 4096) := by
  cases dma
  · exact ⟨Lane.eccCount { l with mem := { l.mem with errProc := true } } 1 1, rfl, rfl, rfl⟩
  · exact ⟨Lane.eccCount { l with mem := { l.mem with errDma := true } } 1 1, rfl, rfl, rfl⟩

/-- An uncorrectable error in a critical region ends in FAILSILENT. -/
theorem Lane.sramCheck_fails (dma : Bool) (addr : Nat) (critical : l.critical (addr / 4096) = true) : ∀ m, l.sramCheck dma addr 3 = m →
    m.st = .failSilent ∧ m.mem.ecc = l.mem.ecc.set 1 (l.mem.ecc.getD 1 0 + 1) := by
  intro m ends
  obtain ⟨n, ecc, boot, fails⟩ := l.sramCheck_double dma addr
  have told : Within [] n (n.event 0xE102 addr) := (Within.refl n).event ..
  have still : ((n.event 0xE102 addr).sramSpoilt addr).critical (addr / 4096) = true := by
    rw [← critical]
    exact congrArg (fun b : Boot => bit (b.pu.crit.getD (addr / 4096 / 32) 0).toNat (addr / 4096 % 32)) (told.boot_eq.trans boot)
  have count : ((n.event 0xE102 addr).sramSpoilt addr).mem.ecc = n.mem.ecc := (congrArg Mem.ecc told.mem_eq :)
  rw [if_pos still] at fails
  obtain ⟨w, b, n, mem⟩ := Lane.failSilent_mem ((n.event 0xE102 addr).sramSpoilt addr) 1
  rw [← ends, fails, mem]
  exact ⟨Lane.failSilent_st _ 1, count.trans ecc⟩

/-! ### Accesses -/

theorem Lane.sramRefuse_errs (dma : Bool) : (l.sramRefuse dma).mem.sram = l.mem.sram ∧ (if dma = true then (l.sramRefuse dma).mem.errDma else (l.sramRefuse dma).mem.errProc) = true ∧
    (l.sramRefuse dma).mem.rdDma = l.mem.rdDma ∧ (l.sramRefuse dma).mem.rdProc = l.mem.rdProc ∧ Within [.mem] l (l.sramRefuse dma) := by
  cases dma
  · exact ⟨rfl, rfl, rfl, rfl, (Within.refl l).upd⟩
  · exact ⟨rfl, rfl, rfl, rfl, (Within.refl l).upd⟩

/-- The lane that has read a word: only the read register of its side changes. -/
def Lane.sramTake (l : Lane) (dma : Bool) (addr : Nat) : Lane :=
  if dma = true then { l with mem := { l.mem with rdDma := l.sramWord addr } } else { l with mem := { l.mem with rdProc := l.sramWord addr } }

theorem Lane.sramTake_reads (dma : Bool) (addr : Nat) : ∀ m, l.sramTake dma addr = m → (if dma = true then m.mem.rdDma else m.mem.rdProc) = l.sramWord addr ∧
    m.mem.sram = l.mem.sram ∧ m.mem.ecc = l.mem.ecc ∧ m.mem.mram = l.mem.mram ∧ m.st = l.st := by
  intro m ends
  rw [← ends]
  unfold Lane.sramTake
  cases dma
  · simp only [Bool.false_eq_true, if_false, and_self]
  · simp only [if_true, and_self]

section
variable (x : SramXfer) (on_ : l.powered = true)
include on_

theorem Lane.sramAccess_refused (refused : l.boot.pu.grants x = false) : l.sramAccess x = (l.sramSettle (2 * x.cycle + b2n x.dma)).sramRefuse x.dma := by
  unfold Lane.sramAccess
  rw [on_, refused]
  rfl

variable (granted : l.boot.pu.grants x = true)
include granted

theorem Lane.sramAccess_reads (read : x.write = none) : l.sramAccess x =
    ((l.sramSettle (2 * x.cycle + b2n x.dma)).sramCheck x.dma x.addr x.ecc).sramTake x.dma x.addr := by
  unfold Lane.sramAccess
  rw [on_, granted, read]
  rfl

theorem Lane.sramAccess_writes (v : List Byte) (write : x.write = some (v.map some)) (full : v.length = 8) : l.sramAccess x =
    let y := l.sramSettle (2 * x.cycle + b2n x.dma)
    { y with mem := { y.mem with sram := cellMerge y.mem.sram (x.addr / 8 * 8) (v.map some) } } := by
  have whole : (v.map some).take 8 = v.map some := List.take_of_length_le (by rw [List.length_map, full])
  have open_ : ((v.map some).length == 8 && (v.map some).all Option.isSome) = true := by
    rw [List.length_map, full, List.all_map]
    simp
  unfold Lane.sramAccess
  rw [on_, granted, write]
  simp only [whole, open_]
  rfl

theorem Lane.sramAccess_waits (bs : List (Option Byte)) (write : x.write = some bs) (length : bs.length = 8) (hole : none ∈ bs) : l.sramAccess x =
    let m := (l.sramSettle (2 * x.cycle + b2n x.dma)).sramCheck x.dma x.addr x.ecc
    { m with mem := { m.mem with partials := m.mem.partials ++ [⟨if x.dma = true then .dma else .processor, x.cycle, x.addr / 8 * 8, bs⟩] } } := by
  have whole : bs.take 8 = bs := List.take_of_length_le (by rw [length])
  have partial_ : bs.all Option.isSome = false := List.all_eq_false.mpr ⟨none, hole, by decide⟩
  unfold Lane.sramAccess
  rw [on_, granted, write]
  simp only [whole, partial_, Bool.and_false]
  rfl

end
end

/-- Settles O58: the check of the word that is read, and one lemma for each kind of access. -/
theorem sramPort : Obligations.SramPort := by
  unfold Obligations.SramPort
  intro s a x bs v l key y on_ addr ecc
  have served (m : Lane) (P : Lane → Prop) (ends : l.sramAccess x = m) (p : P (m.wired a.lane)) : Next (.sramAccess a x) s P :=
    next_of_eq rfl (by rw [decide_eq_true addr, decide_eq_true ecc]; rfl) ends p
  refine ⟨fun refused => ?_, fun granted => ⟨fun read good => ?_, fun write full => ?_, fun write length hole good => ?_, fun read corrected => ?_, fun read bad critical => ?_⟩⟩
  · obtain ⟨sram, err, dma, proc, frame⟩ := y.sramRefuse_errs x.dma
    have whole : Within [.mem, .mram] l (y.sramRefuse x.dma) := ((Within.refl l).upd).trans (frame.mono (by decide))
    have ends : l.sramAccess x = y.sramRefuse x.dma := l.sramAccess_refused x on_ refused
    generalize y.sramRefuse x.dma = m at ends sram err dma proc whole
    exact served m _ ends ⟨sram, err, dma, proc, (whole.wired a.lane :)⟩
  · have ends := l.sramAccess_reads x on_ granted read
    have checked := y.sramCheck_good x.dma x.addr
    rw [good] at ends
    generalize y.sramCheck x.dma x.addr 0 = m at ends checked
    obtain ⟨sram, -, ecc, mram, -⟩ := checked m rfl
    have takes := m.sramTake_reads x.dma x.addr
    generalize m.sramTake x.dma x.addr = n at ends takes
    obtain ⟨word, nsram, necc, nmram, -⟩ := takes n rfl
    unfold Lane.sramWord at word
    rw [sram] at word
    exact served n _ ends ⟨word, nsram.trans sram, necc.trans ecc, nmram.trans mram⟩
  · exact served _ _ (l.sramAccess_writes x on_ granted v write full) ⟨rfl, reports_wired _ a.lane⟩
  · have ends := l.sramAccess_waits x on_ granted bs write length hole
    have checked := y.sramCheck_good x.dma x.addr
    rw [good] at ends
    generalize y.sramCheck x.dma x.addr 0 = m at ends checked
    obtain ⟨sram, partials, -, -, frame⟩ := checked m rfl
    have whole : Within [.mem, .mram] l { m with mem := { m.mem with partials := m.mem.partials ++ [⟨if x.dma = true then .dma else .processor, x.cycle, x.addr / 8 * 8, bs⟩] } } :=
      (((Within.refl l).upd).trans (frame.mono (by decide))).upd
    exact served _ _ ends ⟨sram, congrArg (· ++ _) partials, (whole.wired a.lane :)⟩
  · have ends := l.sramAccess_reads x on_ granted read
    have checked := y.sramCheck_corrected x.dma x.addr
    rw [corrected] at ends
    generalize y.sramCheck x.dma x.addr 1 = m at ends checked
    obtain ⟨count, sram⟩ := checked m rfl
    have takes := m.sramTake_reads x.dma x.addr
    generalize m.sramTake x.dma x.addr = n at ends takes
    obtain ⟨-, nsram, necc, -, -⟩ := takes n rfl
    exact served n _ ends ⟨necc.trans count, nsram.trans sram⟩
  · have ends := l.sramAccess_reads x on_ granted read
    have checked := y.sramCheck_fails x.dma x.addr critical
    rw [bad] at ends
    generalize y.sramCheck x.dma x.addr 3 = m at ends checked
    obtain ⟨silent, count⟩ := checked m rfl
    have takes := m.sramTake_reads x.dma x.addr
    generalize m.sramTake x.dma x.addr = n at ends takes
    obtain ⟨-, -, necc, -, st⟩ := takes n rfl
    exact served n _ ends ⟨st.trans silent, necc.trans count⟩

end Sys2Proof.Machine
end

section
/-! Weevil passes, the scrub and the writes of the MRAM, and the lockstep pair (R381, R391, R392, R394, R395). -/

namespace Sys2Proof.Machine

set_option Elab.async false

/-! ### Weevil passes -/

section
variable (l : Lane) (r : Nat)

theorem Lane.weevilStart_sweeps (may : l.weevilMay = true) (idle : l.mem.weevil.phase = .idle) (due : l.mem.weevil.startAt + 40000 * l.p 0xE101 ≤ l.now) (once : l.mem.weevil.again = false)
    (urgent : l.mem.weevil.urgent = []) (next : l.regionFrom l.mem.weevil.next = some r) :
    l.weevilStart = { l.releaseIds [0xE101] with mem := { l.mem with weevil := { l.mem.weevil with phase := .running, region := r, startAt := l.now } } } := by
  have open_ : (!l.weevilMay || l.mem.weevil.phase != .idle || !l.due (l.mem.weevil.startAt + 40000 * l.p 0xE101)) = false := by
    rw [may, idle, Lane.due, decide_eq_true due]
    rfl
  unfold Lane.weevilStart
  simp only [open_, once, urgent, next, Bool.false_eq_true, Bool.false_and, if_false, List.filter_nil, List.erase_nil]
  rfl

/-- A pass that ends well on the region of the sweep. -/
theorem Lane.weevilEnd_moves (running : l.mem.weevil.phase = .running) (on_ : l.mem.weevil.paused = false) (region : l.mem.weevil.region = l.mem.weevil.next) (hard : l.mem.hard = [])
    (kept : l.mem.retired.contains l.mem.weevil.region = false) (st : l.st ≠ .failSilent) (next : l.regionFrom (l.mem.weevil.next + 1) = some r) :
    l.weevilEnd [] true 10240 true = { l with mem := { l.mem with weevil :=
      { l.mem.weevil with phase := .idle, lastAt := l.now, next := r, sweeps := if r ≤ l.mem.weevil.next then l.mem.weevil.sweeps + 1 else l.mem.weevil.sweeps } } } := by
  have open_ : (l.mem.weevil.phase == .idle || l.mem.weevil.paused) = false := by
    rw [running, on_]
    rfl
  have awake : (l.st == .failSilent) = false := beq_eq_false_iff_ne.mpr st
  have moves : l.weevilEnd [] true 10240 true = l.weevilNext := by
    unfold Lane.weevilEnd
    simp only [open_, hard, awake, kept, Bool.not_true, bne_self_eq_false, Bool.or_self, Bool.false_eq_true, if_false, List.append_nil, List.filter_nil, List.eraseDups_nil, List.foldl_nil]
  have same : (l.mem.weevil.region != l.mem.weevil.next) = false := by
    rw [region]
    exact bne_self_eq_false _
  rw [moves]
  unfold Lane.weevilNext
  simp only [same, next, Option.getD_some, Bool.false_eq_true, if_false]

/-! ### The MRAM -/

/-- A sweep of the scrub counts in the two counters of the MRAM. -/
theorem Lane.mramScrub_counts (c u : Nat) (runs : l.fwRuns = true) (st : l.st ≠ .failSilent) (due : l.mem.scrubAt + sec (l.p 0xE106) ≤ l.now) : ∃ e : List W32,
    l.mramScrub c u = { l.releaseIds [0xE106] with mem := { l.mem with scrubAt := l.now, ecc := e } } ∧ e.getD 0 0 = l.mem.ecc.getD 0 0 ∧ e.getD 1 0 = l.mem.ecc.getD 1 0 := by
  have open_ : (!l.fwRuns || l.st == .failSilent || !l.due (l.mem.scrubAt + sec (l.p 0xE106))) = false := by
    rw [runs, beq_eq_false_iff_ne.mpr st, Lane.due, decide_eq_true due]
    rfl
  refine ⟨_, (if_neg (by rw [open_]; decide)).trans rfl, ?_, ?_⟩
  · exact (getD_set_ne _ _ _ _ _ (by decide)).trans (getD_set_ne _ _ _ _ _ (by decide))
  · exact (getD_set_ne _ _ _ _ _ (by decide)).trans (getD_set_ne _ _ _ _ _ (by decide))

/-- The counts of a write change WEAR and the counts alone. -/
theorem Lane.countWrites_counts (addr len : Nat) : ∃ w b, l.countWrites addr len = { l with mem := { l.mem with writes := w, wear := b } } := by
  unfold Lane.countWrites
  split
  · exact ⟨_, _, rfl⟩
  · exact ⟨_, _, rfl⟩

theorem Lane.mramWriteEnd_stores (addr : Nat) (bs : List Byte) (on_ : l.powered = true) (area : mramArea addr ≠ 2) : ∃ w b, l.mramWriteEnd addr bs true =
    { l with mem := { l.mem with mram := cellStore l.mem.mram addr bs, fails := l.mem.fails.filter (fun f => f.sector != addr / 4096), writes := w, wear := b } } := by
  obtain ⟨w, b, counts⟩ := l.countWrites_counts addr bs.length
  refine ⟨w, b, ?_⟩
  unfold Lane.mramWriteEnd
  simp only [on_, counts, beq_iff_eq, area, Bool.not_true, Bool.false_eq_true, if_false, if_true]

/-- A first failure is counted and stores nothing. -/
theorem Lane.mramWriteEnd_fails (addr : Nat) (bs : List Byte) (on_ : l.powered = true) (first : ∀ f ∈ l.mem.fails, f.sector ≠ addr / 4096) : ∃ w b, l.mramWriteEnd addr bs false =
    { l with mem := { l.mem with fails := l.mem.fails ++ [⟨addr / 4096, 1⟩], writes := w, wear := b } } := by
  obtain ⟨w, b, counts⟩ := l.countWrites_counts addr bs.length
  have kept : l.mem.fails.filter (fun f => f.sector != addr / 4096) = l.mem.fails := List.filter_eq_self.mpr fun f here => bne_iff_ne.mpr (first f here)
  have none_ : l.mem.fails.find? (fun f => f.sector == addr / 4096) = none := List.find?_eq_none.mpr fun f here => by simpa using first f here
  refine ⟨w, b, ?_⟩
  unfold Lane.mramWriteEnd
  simp only [on_, counts, kept, none_, Bool.not_true, Bool.false_eq_true, if_false]
  rfl

end

/-! ### The lockstep pair -/

/-- What a safety request leaves of a lane outside FAILSILENT: the latch of the lockstep pair, and no enabled slot where it ends in FAILSILENT. -/
def Lane.Silences (o m : Lane) : Prop := m.mem.lsLatch = o.mem.lsLatch ∧ (m.st = .failSilent → ∀ k < 8, (m.motor k).enabled = false)

theorem Lane.Silences.within {o l m : Lane} {ps : List Part} (h : o.Silences l) (parts : Within ps l m) (mem : ps.elem .mem = false := by rfl) (st : ps.elem .st = false := by rfl)
    (slots : ps.elem .slots = false := by rfl) : o.Silences m := by
  obtain ⟨latch, off⟩ := h
  have same : m.mem.lsLatch = l.mem.lsLatch := by
    have e := congrArg (fun m => m.mem.lsLatch) parts
    simpa [Lane.blend, Part.pick_out mem] using e
  refine ⟨same.trans latch, fun silent k known => ?_⟩
  unfold Lane.motor
  rw [parts.slot_eq slots]
  exact off ((parts.st_eq st).symm.trans silent) k known

/-- A lane that stays out of FAILSILENT. -/
theorem Lane.Silences.awake {o m : Lane} {ps : List Part} (parts : Within ps o m) (st : m.st ≠ .failSilent) (mem : ps.elem .mem = false := by rfl) : o.Silences m := by
  refine ⟨?_, fun silent => absurd silent st⟩
  have e := congrArg (fun m => m.mem.lsLatch) parts
  simpa [Lane.blend, Part.pick_out mem] using e

theorem Lane.Silences.failSilent {o l : Lane} (latch : l.mem.lsLatch = o.mem.lsLatch) (st : l.st ≠ .failSilent) (cause : Nat) : o.Silences (l.failSilent cause) := by
  obtain ⟨w, b, n, mem⟩ := l.failSilent_mem cause
  obtain ⟨-, off⟩ := l.failSilent_enters cause st
  refine ⟨?_, fun _ => off⟩
  rw [mem]
  exact latch

section
variable {l : Lane} (st : l.st ≠ .failSilent)
include st

theorem Lane.startDone_silences : l.Silences l.startDone := by
  have parts : Within [.st, .held, .halfBridges, .pwm, .channels, .slots, .mp, .fn, .red, .net, .pwr, .mram] l l.startDone := (Within.refl l).startDone
  refine .awake parts ?_
  have rest : Within [.held, .halfBridges, .pwm, .channels, .pwr, .mram] (Lane.enterSync { l with pwr.step := .done }) l.startDone := ((Within.refl _).chrysBase).requestWaiting
  rw [rest.st_eq]
  by_cases limp : l.st = .limp
  · have stays : (Lane.enterSync { l with pwr.step := .done }).st = l.st := by
      unfold Lane.enterSync
      rw [if_pos (beq_iff_eq.mpr limp)]
      exact ((((((Within.refl (ps := [.held, .slots, .mp, .fn, .red, .net, .pwr]) l).upd).takeSafeAll).cellFollow).netEnter).completeOpt ..).st_eq
    rw [stays]
    exact st
  · have synced := Lane.enterSync_st { l with pwr.step := .done } limp
    exact fun silent => absurd (synced.symm.trans silent) (by decide)

theorem Lane.startTestEnd_silences (r : BistRun) : l.Silences (l.startTestEnd r) := by
  obtain ⟨n, ends, same, latch⟩ : ∃ n : Lane, l.startTestEnd r = (if n.bist.bad.isSome then Lane.failSilent { n with bist := { n.bist with bad := none } } 1 else n.startDone) ∧
      Within [.bist] l n ∧ n.mem = l.mem :=
    ⟨_, rfl, ((Within.refl l).upd).ite (.refl l), by split <;> rfl⟩
  have awake : n.st ≠ .failSilent := by
    rw [same.st_eq]
    exact st
  rw [ends]
  split
  · exact Lane.Silences.failSilent (l := { n with bist := { n.bist with bad := none } }) (congrArg Mem.lsLatch latch :) awake 1
  · obtain ⟨kept, off⟩ := Lane.startDone_silences awake
    exact ⟨kept.trans (congrArg Mem.lsLatch latch), off⟩

theorem Lane.bistFinish_silences (r : BistRun) : l.Silences (l.bistFinish r) := by
  obtain ⟨p, recorded, parts⟩ : ∃ p, Lane.bistRecord { l with bist := { l.bist with run := none } } r = p ∧ Within [.mram, .bist] l p := ⟨_, rfl, ((Within.refl l).upd).bistRecord r⟩
  have awake : p.st ≠ .failSilent := by
    rw [parts.st_eq]
    exact st
  have kept : l.Silences p := .awake parts awake
  have stored : p.mem.lsLatch = l.mem.lsLatch := kept.left
  unfold Lane.bistFinish
  rw [recorded]
  split
  · exact kept.within (ps := [.pwr]) ((Within.refl p).upd)
  · obtain ⟨latch, off⟩ := Lane.startTestEnd_silences awake r
    exact ⟨latch.trans stored, off⟩
  · exact kept.within (ps := []) ((Within.refl p).completeOpt ..)

theorem Lane.bistAbort_silences : l.Silences l.bistAbort := by
  have self : l.Silences l := .awake (ps := []) (.refl l) st
  unfold Lane.bistAbort
  split
  · exact self
  · split
    · exact self
    · next r run _ =>
      have put : Within [] l (l.freeNat.2.bistPut { r with aborted := true } 0 l.freeNat.1 4 0xFFFFFFFF).1 := ((Within.refl l).freeNat).bistPut ..
      have awake : (l.freeNat.2.bistPut { r with aborted := true } 0 l.freeNat.1 4 0xFFFFFFFF).1.st ≠ .failSilent := by
        rw [put.st_eq]
        exact st
      obtain ⟨kept, -⟩ := Lane.Silences.awake put awake
      obtain ⟨latch, off⟩ := Lane.bistFinish_silences awake (l.freeNat.2.bistPut { r with aborted := true } 0 l.freeNat.1 4 0xFFFFFFFF).2
      exact ⟨latch.trans kept, off⟩

end

/-- A trip of the lockstep pair ends as it begins or in a safety request. -/
theorem Lane.safetyRequest_silences {o l : Lane} {ps : List Part} (parts : Within ps o l) (awake : o.st ≠ .failSilent) (hbs : List Nat) (mem : ps.elem .mem = false := by rfl) (st : ps.elem .st = false := by rfl) :
    o.Silences (l.safetyRequest hbs) := by
  have still : l.st ≠ .failSilent := by
    rw [parts.st_eq st]
    exact awake
  have tested : Within [.gd, .halfBridges, .ports] l (l.gdTestAbort hbs) := (Within.refl l).gdTestAbort hbs
  obtain ⟨latch, off⟩ := Lane.bistAbort_silences (l := l.gdTestAbort hbs) (by rw [tested.st_eq]; exact still)
  obtain ⟨first, -⟩ := Lane.Silences.awake parts still mem
  obtain ⟨second, -⟩ := Lane.Silences.awake tested (by rw [tested.st_eq]; exact still)
  exact ⟨(latch.trans second).trans first, off⟩

/-- What a trip changes before its safety request. -/
def Part.covered : List Part := [.link, .held, .gd, .halfBridges, .pwm, .channels, .slots, .le, .mp, .fn, .red, .net]

theorem Lane.tripCover_silences {o l : Lane} (parts : Within Part.covered o l) (awake : o.st ≠ .failSilent) (n : Nat) : o.Silences (l.tripCover n) := by
  unfold Lane.tripCover
  exact Lane.safetyRequest_silences ((((parts.eachOf _ (fun k m hm => hm.tripCh ..)).each _ (fun k m hm => (hm.flyStop ..).ite hm)).each _ (fun k m hm => (hm.injAbort ..).ite hm)).each _
    (fun k m hm => (hm.stepTrip ..).ite hm)) awake _

theorem Lane.tripEnter_silences {o l : Lane} (parts : Within Part.covered o l) (awake : o.st ≠ .failSilent) (n : Nat) : o.Silences (l.tripEnter n) := by
  unfold Lane.tripEnter
  exact Lane.tripCover_silences ((parts.setSrc ..).ite ((parts.setSrc ..).tripNotice ..)) awake n

theorem Lane.tripOn_silences (l : Lane) (n : Nat) (awake : l.st ≠ .failSilent) : l.Silences (l.tripOn n) := by
  have self : Within Part.covered l l := .refl l
  unfold Lane.tripOn
  dsimp only
  split
  · exact .awake self awake
  · split
    · exact Lane.tripEnter_silences (self.setSrc ..) awake n
    · exact Lane.tripEnter_silences (self.setSrc ..) awake n
    · exact Lane.safetyRequest_silences ((self.setSrc ..).setSrc ..) awake _
    · exact .awake (self.setSrc ..) awake

/-- A mismatch of the pair: the latch stands, and the lane is in FAILSILENT with every slot off. -/
theorem Lane.lockstep_fails (l : Lane) (cycles group : Nat) (on_ : l.powered = true) (whole : l.boot.split = false) (st : l.st ≠ .failSilent) : ∀ m, l.lockstep cycles group = m →
    m.st = .failSilent ∧ m.mem.lsLatch = some (cycles, group) ∧ ∀ k < 8, (m.motor k).enabled = false := by
  intro m ends
  obtain ⟨n, fails, latch, same⟩ : ∃ n : Lane, l.lockstep cycles group = (n.tripOn 13).cutOwn.failSilent 1 ∧ n.mem.lsLatch = some (cycles, group) ∧ n.st = l.st := by
    refine ⟨_, (if_neg ?_).trans rfl, rfl, rfl⟩
    rw [on_, whole, beq_eq_false_iff_ne.mpr st]
    decide
  have trips := Lane.Silences.within (n.tripOn_silences 13 (same ▸ st)) (ps := [.net]) ((Within.refl _).cutOwn)
  generalize (n.tripOn 13).cutOwn = k at fails trips
  obtain ⟨kept, off⟩ := trips
  rw [← ends, fails]
  by_cases silent : k.st = .failSilent
  · have stays : k.failSilent 1 = k := if_pos (beq_iff_eq.mpr silent)
    rw [stays]
    exact ⟨silent, kept.trans latch, off silent⟩
  · obtain ⟨enters, out⟩ := k.failSilent_enters 1 silent
    obtain ⟨w, b, next, mem⟩ := k.failSilent_mem 1
    refine ⟨enters, ?_, out⟩
    rw [mem]
    exact kept.trans latch

/-- Settles O59: the Weevil pass, the scrub and the writes by one lemma each; a mismatch by what the trip of its source leaves of the lane. -/
theorem memoryTests : Obligations.MemoryTests := by
  unfold Obligations.MemoryTests
  intro s a r c u addr cycles group bs l w
  refine ⟨fun may idle due once urgent next => ?_, fun running on_ region hard kept st next => ?_, fun runs st due => ?_, fun on_ inside => ⟨fun area => ?_, fun first => ?_⟩, fun known on_ whole st => ?_⟩
  · exact next_of_eq rfl rfl (l.weevilStart_sweeps r may idle due once urgent next) (reports_wired _ a.lane)
  · exact next_of_eq rfl rfl (l.weevilEnd_moves r running on_ region hard kept st next) (reports_wired _ a.lane)
  · obtain ⟨e, ends, first, second⟩ := l.mramScrub_counts c u runs st due
    exact next_of_eq rfl rfl ends ⟨e, reports_wired _ a.lane, first, second⟩
  · obtain ⟨w, b, ends⟩ := l.mramWriteEnd_stores addr bs on_ area
    exact next_of_eq rfl (decide_eq_true inside) ends (reports_wired _ a.lane)
  · obtain ⟨w, b, ends⟩ := l.mramWriteEnd_fails addr bs on_ first
    exact next_of_eq rfl (decide_eq_true inside) ends (reports_wired _ a.lane)
  · have fails := l.lockstep_fails cycles group on_ whole st
    generalize ends : l.lockstep cycles group = m at fails
    obtain ⟨silent, latch, off⟩ := fails m rfl
    exact next_of_eq rfl (decide_eq_true known) ends ⟨silent, congrArg LaneSt.driving silent, latch, off⟩

end Sys2Proof.Machine
end
